-- ==== Sys2Proof/Word.lean ====
section
/-! DEFINITION. The words of the KX815 block and their plainest arithmetic: 32-bit registers, bytes, the 64-bit
timebase values of R295, and the half-range comparison by which every compare of timebase values is made (R300). -/

namespace Sys2Proof

/-- A register (R8: registers are 32 bits wide). -/
abbrev Word := BitVec 32

/-- A byte of a record, of a table or of memory. -/
abbrev Byte := BitVec 8

/-- A timebase value (R295: 64 bits, in ns). -/
abbrev Time := BitVec 64

end Sys2Proof
end

