-- ==== Sys2Proof/Syntax.lean ====
section
/-! DEFINITION. The commands of the KX815, one constructor per row of spec/opcode_table.json. A command that stands
for something that happens in time (an edge, the end of an interval, a packet, a work step of an engine) carries in
`dt` the real time in ns that passed since the command before it; a register access carries none (log 1). Values
that come from outside the block (the level of a pin, the light, a packet, bytes read from host memory; `none` for a
read that failed) are operands. -/

namespace Sys2Proof

/-- Where an access goes: of the host, to a BAR of a function or a function's configuration space (R315); of the lead
Coachman, to the ICX block (R395, R402). -/
inductive Space where
  | pf0Bar0 | pf0Bar2 | pf1Bar0 | pf0Cfg | pf1Cfg | icxLead
  deriving DecidableEq, Repr

/-- The events of the last line of R331's table. -/
inductive LinkReset where
  | hotReset | linkDown | perstN
  deriving DecidableEq, Repr

/-- What one conversion of a row slot met in the analog circuits: the sample it belongs to, by its physical
converter and its place in the slot, how far the raw value lies from the ideal one, and whether it failed the
checks of R150 and R151. -/
structure Conversion where
  converter : Nat
  deviation : Int
  parityFail : Bool
  outOfRange : Bool
  deriving DecidableEq, Repr

/-- What the error code of a packet header on the companion link shows (R158): no error, one bit that it corrects, or
more. -/
inductive HeaderEcc where
  | good | corrected | uncorrected
  deriving DecidableEq, Repr

/-- The lanes of the companion link once a packet has passed (R169): the data lanes in the stop state, bit i for lane i, and
whether the clock lane is in HS mode. -/
structure CsiLanes where
  stop : BitVec 4
  hs : Bool
  deriving DecidableEq, Repr

/-- A long packet on the companion link (R158): what its header says, what the header's error code showed, its payload
and whether the payload's CRC is right; and the lanes after it. -/
structure CsiPacket where
  vc : Fin 16
  dataType : BitVec 6
  header : HeaderEcc
  crcOk : Bool
  payload : List Byte
  lanes : CsiLanes
  deriving DecidableEq, Repr

/-- What the SRAM reads of a step meet (R233, R474): the track contexts whose read meets an error that ECC cannot correct,
the rows (1,024 × instance + row) whose read meets a corrected error, and the other memory instances whose read meets an
error that ECC cannot correct. -/
structure SramErrors where
  contexts : List Nat
  rows : List Nat
  memories : List Nat
  deriving DecidableEq, Repr

/-- Every read of the step is good. -/
def SramErrors.none : SramErrors := ⟨[], [], []⟩

/-- A step that reads memories: the time since the command before it, and what its reads meet. -/
structure MemoryStep where
  dt : Nat
  sram : SramErrors
  deriving DecidableEq, Repr

/-- A frame-start or frame-end packet on the companion link (R158): the virtual channel, what the code of the header shows,
and the lanes after it. -/
structure CsiShort where
  vc : Fin 16
  header : HeaderEcc
  lanes : CsiLanes
  deriving DecidableEq, Repr

/-- The level of a WV_IO pin changes from outside, `dt` ns after what comes before it. -/
structure PadEdge where
  dt : Nat
  pin : Fin 64
  level : Bool
  deriving DecidableEq, Repr

/-- The wake sources of R465. -/
inductive WakeSource where
  | trig (pin : Fin 4) | pcie | i3c | compare (n : Fin 16)
  deriving DecidableEq, Repr

/-- A value that a measurement of calibration gave (R425, R426): the item; the index of the entry times the number of
quantities that one measurement of the item gives, plus the place of the quantity among them; and the value, in units of
the entry's field. A value of item 7, which is not measured, is D of R429. -/
structure Measurement where
  item : Fin 8
  element : Nat
  value : Int
  deriving DecidableEq, Repr

/-- What the power-up sequence meets (R412, R425): the values measured, and the loops that do not lock. -/
structure PowerUp where
  meas : List Measurement
  unlocked : List (Fin 4)
  deriving DecidableEq, Repr

/-- The instructions of the JTAG port (R543). -/
inductive JtagIns where
  | idcode | bypass | sample | extest | scanAccess | debugAccess
  | factoryTransition (target : Fin 6)
  deriving DecidableEq, Repr

/-- The commands. Operands that come from outside the block, by name:
`light`: per physical pixel (row × 8,256 + column) the electrons that the interval generated;
`analog`: the conversions of the slot that do not give the ideal value;
`flips`: the bits of a packet that arrive wrong, as a mask over its bits in their order;
`sram`: the SRAM errors that the step's reads meet;
`pads`: what stands at the WV_IO pins from outside while a shift runs, in order;
`data`: the bytes that the device read from host memory, `none` where the read failed;
`meas`: the values that calibration measured;
`counts`: the readings of the 24 temperature oscillators in 1/16 °C as two's complement 16-bit numbers, oscillators of
site n at 2 n and 2 n + 1;
`results`: the tests, and the reads of the NVM, that failed, as Machine/Start.lean numbers them;
`e`: an engine; `r` and `role`: a role; `q` and `ring`: a ring, where 32 is the mailbox; `fn`: PF0 or PF1;
`value`: the word written. -/
inductive Instr where
  /-- TICK_EDGE (R21). -/
  | tickEdge (reads : MemoryStep)
  /-- INTERNAL_PERIOD_EXPIRY (R104). -/
  | internalPeriodExpiry (dt : Nat)
  /-- TRIG_IN_EDGE (R105). -/
  | trigInEdge (dt : Nat) (pin : Fin 4) (rising : Bool)
  /-- COMPARE_FIRE (R300). -/
  | compareFire (dt : Nat) (n : Fin 16)
  /-- EXPOSURE_INTERVAL_START (R110). -/
  | exposureIntervalStart (dt : Nat)
  /-- EXPOSURE_INTERVAL_END (R86). -/
  | exposureIntervalEnd (dt : Nat) (light : List (Nat × Nat))
  /-- FIREFLY_PULSE_START (R114). -/
  | fireflyPulseStart (dt : Nat) (f : Fin 8)
  /-- FIREFLY_PULSE_END (R114). -/
  | fireflyPulseEnd (dt : Nat) (f : Fin 8)
  /-- READOUT_START (R113). -/
  | readoutStart (dt : Nat)
  /-- ROW_SLOT (R131). -/
  | rowSlot (dt : Nat) (analog : List Conversion)
  /-- AXLE_PACKET (R147). -/
  | axlePacket (dt : Nat) (lane : Fin 640) (flips : Nat)
  /-- PIPELINE_FRAME (R172). -/
  | pipelineFrame (reads : MemoryStep) (cam : Fin 4)
  /-- TRACKER_ROUND (R223). -/
  | trackerRound (dt : Nat) (sram : SramErrors)
  /-- COMPANION_ROUND (R226). -/
  | companionRound (dt : Nat) (sram : SramErrors)
  /-- TRACKER_BANK_COPY_COMPLETE (R232). -/
  | trackerBankCopyComplete (dt : Nat)
  /-- GOVERNOR_EVALUATE (R121). -/
  | governorEvaluate (dt : Nat)
  /-- PIXSUP_MONITOR_SAMPLE (R97). -/
  | pixsupMonitorSample (dt : Nat) (mv : Nat)
  /-- PIXSUP_READY_RISE (R96). -/
  | pixsupReadyRise (dt : Nat)
  /-- CSI_FRAME_START (R161). -/
  | csiFrameStart (dt : Nat) (packet : CsiShort)
  /-- CSI_LONG_PACKET (R158). -/
  | csiLongPacket (dt : Nat) (packet : CsiPacket)
  /-- CSI_FRAME_END (R162). -/
  | csiFrameEnd (dt : Nat) (packet : CsiShort)
  /-- MERGE_BUFFER_DISPATCH (R166). -/
  | mergeBufferDispatch (dt : Nat)
  /-- TRIG_OUT_ACTIVE (R168). -/
  | trigOutActive (dt : Nat) (k : Fin 4)
  /-- TRIG_OUT_INACTIVE (R168). -/
  | trigOutInactive (dt : Nat) (k : Fin 4)
  /-- TSYNC_IN_EDGE (R307). -/
  | tsyncInEdge (dt : Nat) (rising : Bool)
  /-- TSYNC_OUT_INACTIVE (R308). -/
  | tsyncOutInactive (dt : Nat)
  /-- TB_SYNC_ARM (R307). -/
  | tbSyncArm (value : Word)
  /-- TB_SYNC_DISARM (R307). -/
  | tbSyncDisarm (value : Word)
  /-- CMP_VAL_HI_WRITE (R299). -/
  | cmpValHiWrite (n : Fin 16) (value : Word)
  /-- CMP_CTL_WRITE (R299). -/
  | cmpCtlWrite (n : Fin 16) (value : Word)
  /-- CAPTURE_EDGE (R302). -/
  | captureEdge (dt : Nat) (n : Fin 8) (rising : Bool)
  /-- CAP_RISE_LO_READ (R303). -/
  | capRiseLoRead (n : Fin 8)
  /-- CAP_FALL_HI_READ (R303). -/
  | capFallHiRead (n : Fin 8)
  /-- CAP_RELEASE (R303). -/
  | capRelease (n : Fin 8)
  /-- CAP_LOST_CLR (R311). -/
  | capLostClr (n : Fin 8)
  /-- GC_CLR (R306). -/
  | gcClr (n : Fin 8) (value : Word)
  /-- PTM_REQ (R310). -/
  | ptmReq (value : Word)
  /-- PTM_AUTO_EXPIRY (R310). -/
  | ptmAutoExpiry (dt : Nat)
  /-- PTM_DIALOGUE_COMPLETE (R310). -/
  | ptmDialogueComplete (dt : Nat) (master : Time) (localT : Time) (delay : Word)
  /-- CHAIN_RECORD_HANDOVER (R282). -/
  | chainRecordHandover (dt : Nat) (p : Fin 16)
  /-- DIRECT_RECORD_HANDOVER (R282). -/
  | directRecordHandover (dt : Nat) (r : Fin 16)
  /-- WEEVIL_NOP (R273). -/
  | weevilNop (dt : Nat) (e : Fin 18)
  /-- PULL (R273). -/
  | pull (dt : Nat) (e : Fin 18)
  /-- PUSH (R273). -/
  | push (dt : Nat) (e : Fin 18)
  /-- SHIFT_OUT (R275). -/
  | shiftOut (dt : Nat) (e : Fin 18)
  /-- SHIFT_IN (R275). -/
  | shiftIn (dt : Nat) (e : Fin 18)
  /-- SHIFT_COMPLETE (R275). -/
  | shiftComplete (dt : Nat) (e : Fin 18) (pads : List PadEdge)
  /-- SET_TIME (R273). -/
  | setTime (dt : Nat) (e : Fin 18)
  /-- WAIT_TIME (R273). -/
  | waitTime (dt : Nat) (e : Fin 18)
  /-- TIME_REACHED (R269). -/
  | timeReached (dt : Nat) (e : Fin 18)
  /-- LATCH_AT (R276). -/
  | latchAt (dt : Nat) (e : Fin 18)
  /-- LATCH_EDGE (R276). -/
  | latchEdge (dt : Nat) (e : Fin 18)
  /-- CAPTURE (R273). -/
  | capture (dt : Nat) (e : Fin 18)
  /-- WEEVIL_CAPTURE_EDGE (R273). -/
  | weevilCaptureEdge (dt : Nat) (e : Fin 18)
  /-- RAISE_EVENT (R278). -/
  | raiseEvent (dt : Nat) (e : Fin 18)
  /-- HALT (R279). -/
  | halt (dt : Nat) (e : Fin 18)
  /-- STALL_RESUME (R274). -/
  | stallResume (dt : Nat) (e : Fin 18)
  /-- RX_FIFO_DRAIN (R278). -/
  | rxFifoDrain (dt : Nat) (e : Fin 18)
  /-- SAFE_STATE_SWITCH (R288). -/
  | safeStateSwitch (dt : Nat) (e : Fin 18)
  /-- FORCED_SWAP_TIMEOUT (R289). -/
  | forcedSwapTimeout (dt : Nat) (e : Fin 18)
  /-- WEEVIL_ROLE_HANDOVER (R291). -/
  | weevilRoleHandover (dt : Nat) (r : Fin 16)
  /-- HOST_ABSENCE_EXPIRY (R48). -/
  | hostAbsenceExpiry (dt : Nat)
  /-- HIF_RUN_SET (R20). -/
  | hifRunSet (value : Word)
  /-- HIF_RUN_CLEAR (R52). -/
  | hifRunClear (value : Word)
  /-- RUN_STOP_COMPLETE (R52). -/
  | runStopComplete (dt : Nat)
  /-- HIF_HOST_ALIVE (R47). -/
  | hifHostAlive (value : Word)
  /-- HIF_CNT_CLR (R52). -/
  | hifCntClr (value : Word)
  /-- HIF_OVL_CLR (R76). -/
  | hifOvlClr (value : Word)
  /-- HIF_EXP_CLR (R130). -/
  | hifExpClr (value : Word)
  /-- HIF_RO_CLR (R156). -/
  | hifRoClr (value : Word)
  /-- HIF_CSX_CLR (R170). -/
  | hifCsxClr (value : Word)
  /-- HIF_PIPE_CLR (R207). -/
  | hifPipeClr (value : Word)
  /-- HIF_TRK_CLR (R236). -/
  | hifTrkClr (value : Word)
  /-- HIF_EJ_CLR (R264). -/
  | hifEjClr (value : Word)
  /-- HIF_WV_CLR (R294). -/
  | hifWvClr (value : Word)
  /-- HIF_PCIE_CLR (R337). -/
  | hifPcieClr (value : Word)
  /-- RING_CLR (R363). -/
  | ringClr (value : Word)
  /-- RING_DROP_CLR (R363). -/
  | ringDropClr (value : Word)
  /-- PLL_CLR (R424). -/
  | pllClr (value : Word)
  /-- SPR_CLR (R499). -/
  | sprClr (value : Word)
  /-- FLT_CLR (R499). -/
  | fltClr (value : Word)
  /-- ICX_CNT_CLR (R406). -/
  | icxCntClr (value : Word)
  /-- ICX_ERR_CLR (R406). -/
  | icxErrClr (value : Word)
  /-- RO_FACT_DEFECTS_CLR (R102). -/
  | roFactDefectsClr (value : Word)
  /-- THM_PEAK_CLR (R471). -/
  | thmPeakClr (value : Word)
  /-- PWR_SLEEP_ABORT_CLR (R471). -/
  | pwrSleepAbortClr (value : Word)
  /-- REGISTER_WRITE (R18). -/
  | registerWrite (space : Space) (offset : Nat) (width : Nat) (value : BitVec 64)
  /-- NOP (R366). -/
  | nop (q : Fin 32)
  /-- STAGE_REG (R367). -/
  | stageReg (q : Fin 32)
  /-- SET_MODE (R366). -/
  | setMode (q : Fin 32)
  /-- TABLE_LOAD (R370). -/
  | tableLoad (q : Fin 32) (data : Option (List Byte))
  /-- TABLE_LOAD_COMPLETE (R370). -/
  | tableLoadComplete (dt : Nat) (q : Fin 32)
  /-- TABLE_SWAP (R366). -/
  | tableSwap (q : Fin 32)
  /-- COMMIT (R30). -/
  | commit (q : Fin 32)
  /-- DISCARD (R368). -/
  | discard (q : Fin 32)
  /-- BUNDLE (R371). -/
  | bundle (q : Fin 32) (data : Option (List Byte))
  /-- SQ_TAIL_DOORBELL (R348). -/
  | sqTailDoorbell (ring : Fin 33) (value : Word)
  /-- CQ_HEAD_DOORBELL (R356). -/
  | cqHeadDoorbell (ring : Fin 33) (value : Word)
  /-- RING_ENABLE (R341). -/
  | ringEnable (ring : Fin 33) (value : Word)
  /-- RING_DISABLE (R352). -/
  | ringDisable (ring : Fin 33) (value : Word)
  /-- DESCRIPTOR_FETCH (R350). -/
  | descriptorFetch (dt : Nat) (ring : Fin 33) (data : Option (List Byte))
  /-- BUFFER_FETCH (R343). -/
  | bufferFetch (dt : Nat) (ring : Fin 32) (data : Option (List Byte))
  /-- BUFFER_FLUSH_TIMEOUT (R345). -/
  | bufferFlushTimeout (dt : Nat) (ring : Fin 32)
  /-- MODERATION_TIMEOUT (R355). -/
  | moderationTimeout (dt : Nat) (ring : Fin 33)
  /-- ARCHIVE_ENABLE (R363). -/
  | archiveEnable (value : Word)
  /-- ARCHIVE_BLOCK_FLUSH (R360). -/
  | archiveBlockFlush (dt : Nat) (kind : Fin 7) (cam : Fin 4)
  /-- PERST_N_RELEASE (R335). -/
  | perstNRelease (dt : Nat)
  /-- LINK_RETRAIN (R320). -/
  | linkRetrain (value : Word)
  /-- LANE_FAIL_CLR (R337). -/
  | laneFailClr (value : Word)
  /-- PCIE_CORRECTABLE_ERROR (R321). -/
  | pcieCorrectableError (dt : Nat) (lane : Option (Fin 4))
  /-- FUNCTION_LEVEL_RESET (R331). -/
  | functionLevelReset (fn : Fin 2)
  /-- BUS_MASTER_DISABLE (R331). -/
  | busMasterDisable (fn : Fin 2)
  /-- HOT_RESET (R331). -/
  | hotReset (dt : Nat) (kind : LinkReset)
  /-- D3HOT_ENTRY (R359). -/
  | d3hotEntry (fn : Fin 2)
  /-- D0_RETURN (R359). -/
  | d0Return (fn : Fin 2)
  /-- MSIX_VECTOR_UNMASK (R325). -/
  | msixVectorUnmask (fn : Fin 2) (vec : Fin 64)
  /-- CTX_READ (R388). -/
  | ctxRead
  /-- ID_READ (R504). -/
  | idRead
  /-- CERT_READ (R505). -/
  | certRead
  /-- QUOTE (R520). -/
  | quote
  /-- FACT_DEFECTS (R101). -/
  | factDefects
  /-- FW_WRITE (R509). -/
  | fwWrite (data : Option (List Byte))
  /-- FW_ACTIVATE (R510). -/
  | fwActivate
  /-- FW_CONFIRM (R512). -/
  | fwConfirm
  /-- OWNER_ENROLL (R515). -/
  | ownerEnroll (data : Option (List Byte))
  /-- DIGEST_EXPECT (R519). -/
  | digestExpect
  /-- DIGEST_READ (R519). -/
  | digestRead
  /-- LIFECYCLE (R502). -/
  | lifecycle
  /-- CAL_RUN (R443). -/
  | calRun (meas : List Measurement)
  /-- CAL_SNAPSHOT (R447). -/
  | calSnapshot
  /-- FLAT_ACQUIRE (R444). -/
  | flatAcquire
  /-- SPARE_ASSIGN (R482). -/
  | spareAssign
  /-- SELFTEST_UNIT (R490). -/
  | selftestUnit
  /-- FAULT_READ (R498). -/
  | faultRead
  /-- JOURNAL_READ (R523). -/
  | journalRead
  /-- POWER_STATE (R464). -/
  | powerState
  /-- POWER_STATE_ENTRY (R464). -/
  | powerStateEntry (dt : Nat)
  /-- WAKE (R467). -/
  | wake (dt : Nat) (source : WakeSource)
  /-- LOOP_LOCK_LOSS (R416). -/
  | loopLockLoss (dt : Nat) (p : Fin 4)
  /-- STAND_IN (R416). -/
  | standIn (dt : Nat) (role : Fin 3)
  /-- LOOP_RELOCK (R420). -/
  | loopRelock (dt : Nat) (p : Fin 4)
  /-- REF_IN_LOSS (R421). -/
  | refInLoss (dt : Nat)
  /-- REF_IN_GOOD (R422). -/
  | refInGood (dt : Nat)
  /-- POWERUP_CALIBRATION (R428). -/
  | powerupCalibration (dt : Nat) (found : PowerUp)
  /-- BACKGROUND_DRIFT_MEASURE (R435). -/
  | backgroundDriftMeasure (dt : Nat) (meas : List Measurement)
  /-- CAL_DATA_ACCESS (R432). -/
  | calDataAccess (write : Option Word)
  /-- CAL_DLIST_CLR (R442). -/
  | calDlistClr (value : Word)
  /-- THERMAL_SAMPLE (R449). -/
  | thermalSample (dt : Nat) (counts : List Nat)
  /-- SHUTDOWN_COMPLETE (R458). -/
  | shutdownComplete (dt : Nat)
  /-- GRACE_EXPIRY (R456). -/
  | graceExpiry (dt : Nat)
  /-- FAULT_BUCKET_LEAK (R475). -/
  | faultBucketLeak (dt : Nat) (source : Fin 14) (inst : Nat)
  /-- SELFTEST_TURN (R485). -/
  | selftestTurn (dt : Nat) (cls : Fin 14)
  /-- SELFTEST_COMPLETE (R486). -/
  | selftestComplete (dt : Nat) (cls : Fin 14) (pass : Bool) (patterns : Nat)
  /-- BIST_SHUTDOWN (R493). -/
  | bistShutdown (value : Word)
  /-- MOULT_COMPLETE (R494). -/
  | moultComplete (dt : Nat) (results : List Nat)
  /-- RESET_N_ASSERT (R535). -/
  | resetNAssert (dt : Nat)
  /-- RESET_N_RELEASE (R495). -/
  | resetNRelease (dt : Nat) (results : List Nat)
  /-- BROWNOUT (R533). -/
  | brownout (dt : Nat)
  /-- RAIL_FAULT (R533). -/
  | railFault (dt : Nat)
  /-- STANDBY_READY (R510). -/
  | standbyReady (dt : Nat)
  /-- TRIAL_TIMEOUT (R512). -/
  | trialTimeout (dt : Nat)
  /-- COACHMAN_WATCHDOG_EXPIRY (R513). -/
  | coachmanWatchdogExpiry (dt : Nat) (core : Fin 2)
  /-- SEC_ALARM (R524). -/
  | secAlarm (dt : Nat)
  /-- JOURNAL_COMPACTION (R522). -/
  | journalCompaction (dt : Nat)
  /-- ENTDAA (R525). -/
  | entdaa (addr : BitVec 7)
  /-- SETDASA (R525). -/
  | setdasa (addr : BitVec 7)
  /-- RSTDAA (R525). -/
  | rstdaa
  /-- GETPID (R525). -/
  | getpid
  /-- GETBCR (R525). -/
  | getbcr
  /-- GETDCR (R525). -/
  | getdcr
  /-- GETSTATUS (R525). -/
  | getstatus
  /-- GETMRL (R525). -/
  | getmrl
  /-- GETMWL (R525). -/
  | getmwl
  /-- ENEC (R525). -/
  | enec (events : Byte)
  /-- DISEC (R525). -/
  | disec (events : Byte)
  /-- I3C_ID (R525). -/
  | i3cId
  /-- I3C_STATUS (R525). -/
  | i3cStatus
  /-- I3C_TEMPS (R525). -/
  | i3cTemps
  /-- I3C_TICK (R525). -/
  | i3cTick
  /-- I3C_FAULT (R525). -/
  | i3cFault
  /-- I3C_WAKE (R525). -/
  | i3cWake
  /-- I3C_REQUEST (R525). -/
  | i3cRequest (arg : Word)
  /-- ICX_HCLAIM (R396). -/
  | icxHclaim
  /-- ICX_HFCLAIM (R401). -/
  | icxHfclaim
  /-- ICX_HCOMPLETE (R400). -/
  | icxHcomplete (value : Word)
  /-- ICX_HFCOMPLETE (R401). -/
  | icxHfcomplete (value : Word)
  /-- ICX_LOCK_READ (R403). -/
  | icxLockRead (reader : Fin 3)
  /-- ICX_LOCK_RELEASE (R403). -/
  | icxLockRelease (reader : Fin 3) (value : Word)
  /-- ICX_LOCK_TIMEOUT (R403). -/
  | icxLockTimeout (dt : Nat)
  /-- HOST_CLAIM_WINDOW_EXPIRY (R398). -/
  | hostClaimWindowExpiry (dt : Nat) (src : Nat)
  /-- ICX_PEND_WRITE (R402). -/
  | icxPendWrite (word : Fin 9) (value : Word)
  /-- ICX_MASK_WRITE (R394). -/
  | icxMaskWrite (word : Fin 9) (value : Word)
  /-- INTERNAL_MESSAGE (R43). -/
  | internalMessage (dt : Nat) (cls : Fin 14) (role : Nat) (epoch : BitVec 16)
  /-- CSI_DESKEW_COMPLETE (R169). -/
  | csiDeskewComplete (dt : Nat)
  /-- LINK_UP (R320). -/
  | linkUp (dt : Nat) (lanes : List Bool) (speed : Fin 5)
  /-- NVM_PROGRAM_SEQUENCE_COMPLETE (R522). -/
  | nvmProgramSequenceComplete (dt : Nat) (ok : Bool)
  /-- BROWNOUT_RESET_EXIT (R533). -/
  | brownoutResetExit (dt : Nat) (results : List Nat)
  /-- MOULT_START (R493). -/
  | moultStart (dt : Nat)
  /-- COACHMAN_ICX_CLAIM (R396). -/
  | coachmanIcxClaim (core : Fin 2) (fast : Bool)
  /-- COACHMAN_ICX_COMPLETE (R400). -/
  | coachmanIcxComplete (core : Fin 2) (fast : Bool) (value : Word)
  /-- JTAG_INSTRUCTION (R543). -/
  | jtagInstruction (ins : JtagIns)
  deriving DecidableEq, Repr

/-- The real time in ns that passed before the command (log 1). -/
def Instr.elapsed : Instr → Nat
  | .tickEdge reads => reads.dt
  | .internalPeriodExpiry dt => dt
  | .trigInEdge dt _ _ => dt
  | .compareFire dt _ => dt
  | .exposureIntervalStart dt => dt
  | .exposureIntervalEnd dt _ => dt
  | .fireflyPulseStart dt _ => dt
  | .fireflyPulseEnd dt _ => dt
  | .readoutStart dt => dt
  | .rowSlot dt _ => dt
  | .axlePacket dt _ _ => dt
  | .pipelineFrame reads _ => reads.dt
  | .trackerRound dt _ => dt
  | .companionRound dt _ => dt
  | .trackerBankCopyComplete dt => dt
  | .governorEvaluate dt => dt
  | .pixsupMonitorSample dt _ => dt
  | .pixsupReadyRise dt => dt
  | .csiFrameStart dt _ => dt
  | .csiLongPacket dt _ => dt
  | .csiFrameEnd dt _ => dt
  | .mergeBufferDispatch dt => dt
  | .trigOutActive dt _ => dt
  | .trigOutInactive dt _ => dt
  | .tsyncInEdge dt _ => dt
  | .tsyncOutInactive dt => dt
  | .tbSyncArm _ => 0
  | .tbSyncDisarm _ => 0
  | .cmpValHiWrite _ _ => 0
  | .cmpCtlWrite _ _ => 0
  | .captureEdge dt _ _ => dt
  | .capRiseLoRead _ => 0
  | .capFallHiRead _ => 0
  | .capRelease _ => 0
  | .capLostClr _ => 0
  | .gcClr _ _ => 0
  | .ptmReq _ => 0
  | .ptmAutoExpiry dt => dt
  | .ptmDialogueComplete dt _ _ _ => dt
  | .chainRecordHandover dt _ => dt
  | .directRecordHandover dt _ => dt
  | .weevilNop dt _ => dt
  | .pull dt _ => dt
  | .push dt _ => dt
  | .shiftOut dt _ => dt
  | .shiftIn dt _ => dt
  | .shiftComplete dt _ pads => (pads.map (·.dt)).sum + dt
  | .setTime dt _ => dt
  | .waitTime dt _ => dt
  | .timeReached dt _ => dt
  | .latchAt dt _ => dt
  | .latchEdge dt _ => dt
  | .capture dt _ => dt
  | .weevilCaptureEdge dt _ => dt
  | .raiseEvent dt _ => dt
  | .halt dt _ => dt
  | .stallResume dt _ => dt
  | .rxFifoDrain dt _ => dt
  | .safeStateSwitch dt _ => dt
  | .forcedSwapTimeout dt _ => dt
  | .weevilRoleHandover dt _ => dt
  | .hostAbsenceExpiry dt => dt
  | .hifRunSet _ => 0
  | .hifRunClear _ => 0
  | .runStopComplete dt => dt
  | .hifHostAlive _ => 0
  | .hifCntClr _ => 0
  | .hifOvlClr _ => 0
  | .hifExpClr _ => 0
  | .hifRoClr _ => 0
  | .hifCsxClr _ => 0
  | .hifPipeClr _ => 0
  | .hifTrkClr _ => 0
  | .hifEjClr _ => 0
  | .hifWvClr _ => 0
  | .hifPcieClr _ => 0
  | .ringClr _ => 0
  | .ringDropClr _ => 0
  | .pllClr _ => 0
  | .sprClr _ => 0
  | .fltClr _ => 0
  | .icxCntClr _ => 0
  | .icxErrClr _ => 0
  | .roFactDefectsClr _ => 0
  | .thmPeakClr _ => 0
  | .pwrSleepAbortClr _ => 0
  | .registerWrite _ _ _ _ => 0
  | .nop _ => 0
  | .stageReg _ => 0
  | .setMode _ => 0
  | .tableLoad _ _ => 0
  | .tableLoadComplete dt _ => dt
  | .tableSwap _ => 0
  | .commit _ => 0
  | .discard _ => 0
  | .bundle _ _ => 0
  | .sqTailDoorbell _ _ => 0
  | .cqHeadDoorbell _ _ => 0
  | .ringEnable _ _ => 0
  | .ringDisable _ _ => 0
  | .descriptorFetch dt _ _ => dt
  | .bufferFetch dt _ _ => dt
  | .bufferFlushTimeout dt _ => dt
  | .moderationTimeout dt _ => dt
  | .archiveEnable _ => 0
  | .archiveBlockFlush dt _ _ => dt
  | .perstNRelease dt => dt
  | .linkRetrain _ => 0
  | .laneFailClr _ => 0
  | .pcieCorrectableError dt _ => dt
  | .functionLevelReset _ => 0
  | .busMasterDisable _ => 0
  | .hotReset dt _ => dt
  | .d3hotEntry _ => 0
  | .d0Return _ => 0
  | .msixVectorUnmask _ _ => 0
  | .ctxRead => 0
  | .idRead => 0
  | .certRead => 0
  | .quote => 0
  | .factDefects => 0
  | .fwWrite _ => 0
  | .fwActivate => 0
  | .fwConfirm => 0
  | .ownerEnroll _ => 0
  | .digestExpect => 0
  | .digestRead => 0
  | .lifecycle => 0
  | .calRun _ => 0
  | .calSnapshot => 0
  | .flatAcquire => 0
  | .spareAssign => 0
  | .selftestUnit => 0
  | .faultRead => 0
  | .journalRead => 0
  | .powerState => 0
  | .powerStateEntry dt => dt
  | .wake dt _ => dt
  | .loopLockLoss dt _ => dt
  | .standIn dt _ => dt
  | .loopRelock dt _ => dt
  | .refInLoss dt => dt
  | .refInGood dt => dt
  | .powerupCalibration dt _ => dt
  | .backgroundDriftMeasure dt _ => dt
  | .calDataAccess _ => 0
  | .calDlistClr _ => 0
  | .thermalSample dt _ => dt
  | .shutdownComplete dt => dt
  | .graceExpiry dt => dt
  | .faultBucketLeak dt _ _ => dt
  | .selftestTurn dt _ => dt
  | .selftestComplete dt _ _ _ => dt
  | .bistShutdown _ => 0
  | .moultComplete dt _ => dt
  | .resetNAssert dt => dt
  | .resetNRelease dt _ => dt
  | .brownout dt => dt
  | .railFault dt => dt
  | .standbyReady dt => dt
  | .trialTimeout dt => dt
  | .coachmanWatchdogExpiry dt _ => dt
  | .secAlarm dt => dt
  | .journalCompaction dt => dt
  | .entdaa _ => 0
  | .setdasa _ => 0
  | .rstdaa => 0
  | .getpid => 0
  | .getbcr => 0
  | .getdcr => 0
  | .getstatus => 0
  | .getmrl => 0
  | .getmwl => 0
  | .enec _ => 0
  | .disec _ => 0
  | .i3cId => 0
  | .i3cStatus => 0
  | .i3cTemps => 0
  | .i3cTick => 0
  | .i3cFault => 0
  | .i3cWake => 0
  | .i3cRequest _ => 0
  | .icxHclaim => 0
  | .icxHfclaim => 0
  | .icxHcomplete _ => 0
  | .icxHfcomplete _ => 0
  | .icxLockRead _ => 0
  | .icxLockRelease _ _ => 0
  | .icxLockTimeout dt => dt
  | .hostClaimWindowExpiry dt _ => dt
  | .icxPendWrite _ _ => 0
  | .icxMaskWrite _ _ => 0
  | .internalMessage dt _ _ _ => dt
  | .csiDeskewComplete dt => dt
  | .linkUp dt _ _ => dt
  | .nvmProgramSequenceComplete dt _ => dt
  | .brownoutResetExit dt _ => dt
  | .moultStart dt => dt
  | .coachmanIcxClaim _ _ => 0
  | .coachmanIcxComplete _ _ _ => 0
  | .jtagInstruction _ => 0

end Sys2Proof
end

