-- ==== Sys2Proof/Machine/Bits.lean ====
section
/-! DEFINITION. Bit fields of words, the layout of little-endian values in bytes (R7), signed fields (R5), and the
comparison of timebase values by the half-range rule. -/

namespace Sys2Proof.Machine

/-- Bits `hi` to `lo` of `v`. -/
def getBits (v hi lo : Nat) : Nat := v / 2 ^ lo % 2 ^ (hi + 1 - lo)

/-- `v` with bits `hi` to `lo` replaced by `x`. -/
def putBits (v hi lo x : Nat) : Nat :=
  v % 2 ^ lo + x % 2 ^ (hi + 1 - lo) * 2 ^ lo + v / 2 ^ (hi + 1) * 2 ^ (hi + 1)

/-- Bit `i` of `v`. -/
def bitOf (v i : Nat) : Bool := v / 2 ^ i % 2 == 1

/-- The number of a truth value. -/
def boolNat (b : Bool) : Nat := if b then 1 else 0

/-- The low `n` bits of `v`, lowest first. -/
def bitList (n v : Nat) : List Bool := (List.range n).map (bitOf v)

/-- `v` with bit `i` set or cleared. -/
def putBit (v i : Nat) (b : Bool) : Nat := putBits v i i (boolNat b)

/-- The two's complement value of the low `w` bits of `v` (R5). -/
def signed (w v : Nat) : Int := if 2 ^ (w - 1) ≤ v % 2 ^ w then (v % 2 ^ w : Nat) - (2 ^ w : Nat) else (v % 2 ^ w : Nat)

/-- The low `w` bits of a signed value as a number. -/
def unsigned (w : Nat) (v : Int) : Nat := (v % (2 ^ w : Nat)).toNat

/-- The `n` bytes of `v`, lowest first (R7). -/
def leBytes : Nat → Nat → List Byte
  | 0, _ => []
  | n + 1, v => BitVec.ofNat 8 v :: leBytes n (v / 256)

/-- The value of bytes, lowest first (R7). -/
def leNat : List Byte → Nat
  | [] => 0
  | b :: bs => b.toNat + 256 * leNat bs

/-- The value of the `n` bytes at offset `o` (absent bytes read 0). -/
def bytesAt (bs : List Byte) (o n : Nat) : Nat := leNat ((bs.drop o).take n)

/-- Are all bytes 0? -/
def allZero (bs : List Byte) : Bool := bs.all (· == 0)

/-- A list of bytes cut or filled with zero bytes to `n` bytes. -/
def padTo (n : Nat) (bs : List Byte) : List Byte := bs.take n ++ List.replicate (n - bs.length) 0

/-- `n` rounded up to a multiple of `m`. -/
def roundUp (m n : Nat) : Nat := (n + m - 1) / m * m

/-- R300: under the half-range rule, has the timebase `now` reached `t`? It has when `now - t`, taken modulo 2^64, is
below 2^63. -/
def reached (now t : Time) : Bool := (now - t).toNat < 2 ^ 63

/-- A timebase value some ns later. -/
def timeAfter (t : Time) (n : Nat) : Time := t + BitVec.ofNat 64 n

/-- The signed distance from `b` to `a` under the half-range rule. -/
def timeDiff (a b : Time) : Int := (a - b).toInt

/-- A counter that stays at its largest value of `w` bits. -/
def satAdd (w v n : Nat) : Nat := min (2 ^ w - 1) (v + n)

end Sys2Proof.Machine
end

