-- ==== Sys2Proof/Config.lean ====
section
/-! DEFINITION. What one part fixes and the spec leaves to the part (fuses, measured constants), the functions the
spec names from other standards (hashes and signatures), and the free values: constants with no body, so that nothing
can evaluate them and every theorem holds whatever they are. Each is named in a row of the assumption log. -/

namespace Sys2Proof

/-! ## Values fixed per part (log 3) -/

/-- R1: true on the KX815-M (monochrome), false on the KX815-C. -/
opaque Config.mono : Bool

/-- RO_ARRAY_INFO.VARIANT and ID_PART.VARIANT: 0 KX815-C, 1 KX815-M. -/
def Config.variantBit : Nat := if Config.mono then 1 else 0

/-- PIPE_CAM0_CTRL.DM_EN at reset, and whether it is an RW field (R191): 1 on the KX815-C, 0 on the KX815-M. -/
def Config.dmEn : Nat := if Config.mono then 0 else 1

/-- ID_PART.STEPPING, coded as the Revision ID of R312: the letter and the digit of the shipping stepping, B1 (R2). -/
def Config.stepping : BitVec 8 := 0x21

/-- The 64-bit package serial (R504). -/
opaque Config.serial : BitVec 64

/-- LOT of the identity of a die, P, C or X (R504): its length less 1. -/
opaque Config.lotLength : (die : Nat) → Fin 8

/-- LOT of the identity of a die: character `i` above the space. -/
opaque Config.lotChar : (die i : Nat) → Fin 94

/-- WAFER of the identity of a die, less 1. -/
opaque Config.wafer : (die : Nat) → Fin 25

/-- X of the identity of a die. -/
opaque Config.dieX : (die : Nat) → Byte

/-- Y of the identity of a die. -/
opaque Config.dieY : (die : Nat) → Byte

/-- The 12 bytes of the identity of a die (R504). -/
def Config.dieId (die : Nat) : List Byte :=
  (List.range 8).map (fun i =>
    if i ≤ (Config.lotLength die).val then BitVec.ofNat 8 (33 + (Config.lotChar die i).val) else 0x20) ++
    [BitVec.ofNat 8 (1 + (Config.wafer die).val), Config.dieX die, Config.dieY die, 0]

/-- Number of entries of the factory defect list (R101). -/
opaque Config.factDefectCount : BitVec 16

/-- Where the factory defect list begins in the factory region of the journal (R101, R521). -/
opaque Config.factDefectAt : Fin 65536

/-- EXP_TRIG_LAT.LAT less its least value (R107): the trigger latency of the part is 20 to 32 ns. -/
opaque Config.trigLatOffset : Fin 13

/-- PLL_PHASE.OFS (R409). -/
opaque Config.pllPhase : BitVec 16

/-- Length of the identity certificate of a scheme (R505), 0 Ed25519, 1 ML-DSA-65. -/
opaque Config.certLength : Nat → Nat

/-- Bytes of the identity certificate of a scheme (R505). -/
opaque Config.certByte : Nat → Nat → Byte

/-- Contents of the NVM as the part left the factory or its last use (R521). -/
opaque Config.nvmByte : Nat → Byte

/-- What a byte of an erased block of the NVM reads as (R521 does not say). -/
opaque Config.erasedByte : Byte

/-- The 48-bit PID, the BCR and DCR, and the lengths that GETMRL and GETMWL answer (R525 gives none of them). -/
opaque Config.i3cPid : BitVec 48

/-- The BCR of the I3C target. -/
opaque Config.i3cBcr : BitVec 8

/-- The DCR of the I3C target. -/
opaque Config.i3cDcr : BitVec 8

/-- The greatest read length of the I3C target. -/
opaque Config.i3cMrl : BitVec 16

/-- The greatest write length of the I3C target. -/
opaque Config.i3cMwl : BitVec 16

/-- Bits 11 to 0 of the JTAG IDCODE (R543 gives the others). -/
opaque Config.idcodeLow : BitVec 12

/-- The code by which event 0x0011 names a threshold (R455), from 0 T_COLD_LIMIT to 4 T_ABS in the order of R452. -/
opaque Config.thresholdCode : Nat → Byte

/-- Number of memory instances whose rows class 11 spares (R472). -/
opaque Config.memInstances : Nat

/-- The unit that owns a memory instance, keyed class × 2^20 + number; class 15 for a memory of shared logic (R474). -/
opaque Config.memOwner : Nat → Nat

/-- The factory reference set of calibration entries, keyed item × 2^20 + index (R428). -/
opaque Config.factoryCal : Nat → Word

/-! ## Functions of other standards (log 4) -/

/-- SHA3-256 (FIPS 202), as a list of 32 bytes in its byte order. -/
opaque Config.sha3 : List Byte → Vector Byte 32

/-- Does an Ed25519 signature (64 bytes) of a message verify under a key? (RFC 8032) -/
opaque Config.ed25519Verify : (key msg sig : List Byte) → Bool

/-- Does an ML-DSA-65 signature (3,309 bytes) of a message verify under a key? (FIPS 204) -/
opaque Config.mlDsaVerify : (key msg sig : List Byte) → Bool

/-- The part's Ed25519 signature of a message under its identity key. -/
opaque Config.ed25519Sign : List Byte → Vector Byte 64

/-- The part's ML-DSA-65 signature of a message under its identity key. -/
opaque Config.mlDsaSign : List Byte → Vector Byte 3309

/-- Ilram's firmware public keys, whose hashes the fuses hold (R506). -/
opaque Config.fwKeyEd : List Byte

/-- Ilram's ML-DSA-65 firmware public key (R506). -/
opaque Config.fwKeyMl : List Byte

/-- CRC-16 as the Axle uses it (R147 names no polynomial): over bits, the first sent first. -/
opaque Config.crc16 : List Bool → BitVec 16

/-- CRC-32 as the journal uses it (R522 names no polynomial). -/
opaque Config.crc32 : List Byte → Word

/-- The body of a journal record whose layout the spec leaves to the device (spare map, wear counters, bank state,
Moult record, calibration snapshot): the bytes for the type, the record's number and what the record holds. -/
opaque Config.recordBody : (type seq : Nat) → (content : List Nat) → List Byte

/-! ## Free values (log 5) -/

/-- A value that the spec leaves open, at the `n`th use of a run. -/
opaque Config.freeNat : Nat → Nat

/-- A family of values that the spec leaves open together: the `i`th under the draw `n`. -/
opaque Config.freeAt : (n i : Nat) → Nat

/-- Does a read of the NVM fail (R393), at the `n`th use of a free value? The spec does not say when one does. -/
opaque Config.nvmReadFails : (n : Nat) → Bool

/-- Where the spec fixes a code within ±1 (R198, R199): the error plus 1 of sample `i` of the output that drew the free
value `n`. -/
opaque Config.codeError : (n i : Nat) → Fin 3

end Sys2Proof
end

