-- ==== Sys2Proof/Machine/RegTable.lean ====
section
/-! DEFINITION. The register map of the KX815, row by row from the register tables of the chapters of spec/:
the address of every register, its fields, and for each register the mask of its RW fields, the mask of its W1C
fields and its reset value.

One address space serves the three register windows: PF0 BAR0 stands at its own offsets, PF0 BAR2 (doorbells and
MSI-X) at `0x10000`, PF1 BAR0 at `0x20000`. Each `Reg.<NAME>` is named after the spec's register; an index letter of
the spec's name is an argument counted from 0 (so CSX_CAM1 is index 0). -/

namespace Sys2Proof.Machine

/-- A bit field of a register: its address and its highest and lowest bit. -/
structure Fld where
  addr : Nat
  hi : Nat
  lo : Nat
  deriving DecidableEq, Repr

/-- The number of bits of a field. -/
abbrev Fld.width (f : Fld) : Nat := f.hi + 1 - f.lo

/-- One line of the register map: a register, or a regular array of registers of one form (`n1` of stride `s1`, each
with `n2` of stride `s2`), its RW bits, its W1C bits and its reset value. -/
structure RegRow where
  base : Nat
  n1 : Nat
  s1 : Nat
  n2 : Nat
  s2 : Nat
  rw : Nat
  w1c : Nat
  reset : Nat
  deriving DecidableEq, Repr

/-- Does the line hold the register at `addr`? -/
def RegRow.covers (r : RegRow) (addr : Nat) : Bool :=
  r.base ≤ addr &&
    (List.range r.n1).any fun i =>
      (List.range r.n2).any fun j => r.base + i * r.s1 + j * r.s2 == addr

abbrev Reg.HIF_RUN : Nat := 0x100
abbrev Reg.HIF_STAT : Nat := 0x104
abbrev Reg.HIF_TICK_LO : Nat := 0x108
abbrev Reg.HIF_TICK_HI : Nat := 0x10c
abbrev Reg.HIF_EDGE_TIME_LO : Nat := 0x110
abbrev Reg.HIF_EDGE_TIME_HI : Nat := 0x114
abbrev Reg.HIF_GEN : Nat := 0x118
abbrev Reg.HIF_CFG_TAG : Nat := 0x11c
abbrev Reg.HIF_HOST_TIMEOUT : Nat := 0x120
abbrev Reg.HIF_HOST_POLICY : Nat := 0x124
abbrev Reg.HIF_HOST_ALIVE : Nat := 0x128
abbrev Reg.HIF_CPL_LATE : Nat := 0x12c
abbrev Reg.HIF_TICK_EARLY : Nat := 0x130
abbrev Reg.HIF_WR_DISCARD : Nat := 0x134
abbrev Reg.HIF_CNT_CLR : Nat := 0x138
abbrev Reg.HIF_MODE : Nat := 0x140
abbrev Reg.HIF_MODE_INIT : Nat := 0x144
abbrev Reg.HIF_TMIN_CFG : Nat := 0x148
abbrev Reg.HIF_TMIN : Nat := 0x14c
abbrev Reg.HIF_EXP_LIMIT : Nat := 0x150
abbrev Reg.HIF_OVL_SEG : Nat := 0x154
abbrev Reg.HIF_OVL_DEC : Nat := 0x158
abbrev Reg.HIF_OVL_TICK : Nat := 0x15c
abbrev Reg.HIF_OVL_CLR : Nat := 0x160
abbrev Reg.RO_ARRAY_INFO : Nat := 0x1f00
abbrev Reg.RO_PIXSUP_STAT : Nat := 0x1f04
abbrev Reg.RO_PIXSUP_DROOP : Nat := 0x1f08
abbrev Reg.RO_FACT_DEFECTS : Nat := 0x1f0c
abbrev Reg.EXP_TICK_SRC : Nat := 0x1000
abbrev Reg.EXP_TICK_PERIOD : Nat := 0x1004
abbrev Reg.EXP_TICK_START_LO : Nat := 0x1008
abbrev Reg.EXP_TICK_START_HI : Nat := 0x100c
abbrev Reg.EXP_TRIG_LAT : Nat := 0x1010
abbrev Reg.EXP_TRIG_LOST : Nat := 0x1014
abbrev Reg.EXP_SVC_TAPS : Nat := 0x1018
abbrev Reg.EXP_TAP_OFS (n : Nat) : Nat := 0x1040 + 0x10 * n
abbrev Reg.EXP_TAP_DUR (n : Nat) : Nat := 0x1044 + 0x10 * n
abbrev Reg.EXP_TAP_SUB (n : Nat) : Nat := 0x1048 + 0x10 * n
abbrev Reg.EXP_TAP_PITCH (n : Nat) : Nat := 0x104c + 0x10 * n
abbrev Reg.EXP_GOV_CFG : Nat := 0x1080
abbrev Reg.EXP_GOV_TARGET : Nat := 0x1084
abbrev Reg.EXP_GOV_PCT : Nat := 0x1088
abbrev Reg.EXP_GOV_MIN (n : Nat) : Nat := 0x1090 + 0x8 * n
abbrev Reg.EXP_GOV_MAX (n : Nat) : Nat := 0x1094 + 0x8 * n
abbrev Reg.EXP_GOV_STAT : Nat := 0x10b0
abbrev Reg.EXP_STAT_CFG : Nat := 0x10c0
abbrev Reg.FF_CFG (n : Nat) : Nat := 0x1400 + 0x10 * n
abbrev Reg.FF_LEAD (n : Nat) : Nat := 0x1404 + 0x10 * n
abbrev Reg.FF_DUTY (n : Nat) : Nat := 0x1408 + 0x10 * n
abbrev Reg.FF_SUPPR_CNT : Nat := 0x1480
abbrev Reg.FF_STAT : Nat := 0x1484
abbrev Reg.HIF_EXP_CLR : Nat := 0x180
abbrev Reg.RO_WIN_CFG : Nat := 0x1800
abbrev Reg.RO_RBAND (n : Nat) : Nat := 0x1810 + 0x4 * n
abbrev Reg.RO_CBAND (n : Nat) : Nat := 0x1820 + 0x4 * n
abbrev Reg.RO_GAIN : Nat := 0x1860
abbrev Reg.RO_PED : Nat := 0x1864
abbrev Reg.RO_SVC : Nat := 0x1868
abbrev Reg.RO_SLOTS : Nat := 0x1880
abbrev Reg.RO_TRO : Nat := 0x1884
abbrev Reg.RO_AXLE_CRC : Nat := 0x1890
abbrev Reg.RO_OOR_CNT : Nat := 0x1894
abbrev Reg.RO_CONV_NOSPARE : Nat := 0x1898
abbrev Reg.RO_GRP_LOST (n : Nat) : Nat := 0x18a0 + 0x4 * n
abbrev Reg.HIF_RO_CLR : Nat := 0x184
abbrev Reg.CSX_LINK_CFG : Nat := 0x2000
abbrev Reg.CSX_LINK_STAT : Nat := 0x2004
abbrev Reg.CSX_ECC_CORR : Nat := 0x2008
abbrev Reg.CSX_ECC_UNCORR : Nat := 0x200c
abbrev Reg.CSX_CRC : Nat := 0x2010
abbrev Reg.CSX_DT_SKIP : Nat := 0x2014
abbrev Reg.CSX_CAM_CFG (n : Nat) : Nat := 0x2040 + 0x20 * n
abbrev Reg.CSX_CAM_SIZE (n : Nat) : Nat := 0x2044 + 0x20 * n
abbrev Reg.CSX_CAM_LAT (n : Nat) : Nat := 0x2048 + 0x20 * n
abbrev Reg.CSX_CAM_FS_LO (n : Nat) : Nat := 0x204c + 0x20 * n
abbrev Reg.CSX_CAM_FS_HI (n : Nat) : Nat := 0x2050 + 0x20 * n
abbrev Reg.CSX_CAM_ERR (n : Nat) : Nat := 0x2054 + 0x20 * n
abbrev Reg.CSX_CAM_STAT (n : Nat) : Nat := 0x2058 + 0x20 * n
abbrev Reg.CSX_TO_CFG (n : Nat) : Nat := 0x2100 + 0x10 * n
abbrev Reg.CSX_TO_OFS (n : Nat) : Nat := 0x2104 + 0x10 * n
abbrev Reg.CSX_TO_WIDTH (n : Nat) : Nat := 0x2108 + 0x10 * n
abbrev Reg.HIF_CSX_CLR : Nat := 0x188
abbrev Reg.PIPE_CAM_CTRL (n : Nat) : Nat := 0x2400 + 0x100 * n
abbrev Reg.PIPE_CAM_NR (n : Nat) : Nat := 0x2404 + 0x100 * n
abbrev Reg.PIPE_CAM_TNR (n : Nat) : Nat := 0x2408 + 0x100 * n
abbrev Reg.PIPE_CAM_TTHR01 (n : Nat) : Nat := 0x240c + 0x100 * n
abbrev Reg.PIPE_CAM_TTHR23 (n : Nat) : Nat := 0x2410 + 0x100 * n
abbrev Reg.PIPE_CAM_DM (n : Nat) : Nat := 0x2414 + 0x100 * n
abbrev Reg.PIPE_CAM_HDR (n : Nat) : Nat := 0x2418 + 0x100 * n
abbrev Reg.PIPE_CAM_BLACK (n : Nat) : Nat := 0x241c + 0x100 * n
abbrev Reg.PIPE_CAM_CCM (n : Nat) (i : Nat) : Nat := 0x2420 + 0x100 * n + 0x4 * i
abbrev Reg.PIPE_CAM_CCO01 (n : Nat) : Nat := 0x2440 + 0x100 * n
abbrev Reg.PIPE_CAM_CCO23 (n : Nat) : Nat := 0x2444 + 0x100 * n
abbrev Reg.PIPE_CAM_DSP (n : Nat) : Nat := 0x2450 + 0x100 * n
abbrev Reg.PIPE_CAM_COD (n : Nat) : Nat := 0x2454 + 0x100 * n
abbrev Reg.PIPE_CAM_MV (n : Nat) : Nat := 0x2458 + 0x100 * n
abbrev Reg.PIPE_CAM_MV_ROWS (n : Nat) : Nat := 0x245c + 0x100 * n
abbrev Reg.PIPE_CAM_TBL (n : Nat) : Nat := 0x2460 + 0x100 * n
abbrev Reg.PIPE_SLICE_STAT : Nat := 0x2c00
abbrev Reg.PIPE_INVALID_CNT : Nat := 0x2c04
abbrev Reg.PIPE_DSP_SKIP : Nat := 0x2c08
abbrev Reg.PIPE_SHORT_BUF : Nat := 0x2c0c
abbrev Reg.HIF_PIPE_CLR : Nat := 0x18c
abbrev Reg.SEG_CFG : Nat := 0x3000
abbrev Reg.SEG_THR (n : Nat) : Nat := 0x3010 + 0x4 * n
abbrev Reg.SEG_DARK : Nat := 0x3020
abbrev Reg.SEG_SMALL : Nat := 0x3030
abbrev Reg.SEG_SPLIT : Nat := 0x3034
abbrev Reg.TRK_CFG : Nat := 0x3400
abbrev Reg.TRK_ACT : Nat := 0x3404
abbrev Reg.TRK_VNOM : Nat := 0x3408
abbrev Reg.TRK_ANOM : Nat := 0x340c
abbrev Reg.TRK_DT : Nat := 0x3410
abbrev Reg.TRK_LOOK : Nat := 0x3414
abbrev Reg.TRK_GATE1 : Nat := 0x3420
abbrev Reg.TRK_GATE1_R : Nat := 0x3424
abbrev Reg.TRK_GATE : Nat := 0x3428
abbrev Reg.TRK_GATE_R : Nat := 0x342c
abbrev Reg.TRK_GATEC : Nat := 0x3430
abbrev Reg.TRK_GATEC_R : Nat := 0x3434
abbrev Reg.TRK_GAIN (n : Nat) : Nat := 0x3440 + 0x4 * n
abbrev Reg.TRK_FUSE (n : Nat) : Nat := 0x3480 + 0x4 * n
abbrev Reg.TRK_CAM_XOFS (n : Nat) : Nat := 0x34c0 + 0x10 * n
abbrev Reg.TRK_CAM_YOFS (n : Nat) : Nat := 0x34c4 + 0x10 * n
abbrev Reg.TRK_CAM_SCALE (n : Nat) : Nat := 0x34c8 + 0x10 * n
abbrev Reg.TRK_CAM_SLOT (n : Nat) : Nat := 0x34cc + 0x10 * n
abbrev Reg.TRK_LIVE : Nat := 0x3500
abbrev Reg.TRK_LIVE_PEAK : Nat := 0x3504
abbrev Reg.TRK_NOCTX : Nat := 0x3508
abbrev Reg.TRK_AMBIG : Nat := 0x350c
abbrev Reg.TRK_ORPHAN : Nat := 0x3510
abbrev Reg.TRK_POSTDEC : Nat := 0x3514
abbrev Reg.TRK_BANK_STAT : Nat := 0x3518
abbrev Reg.HIF_TRK_CLR : Nat := 0x190
abbrev Reg.CLS_STAT : Nat := 0x3800
abbrev Reg.CLS_FOREST : Nat := 0x3804
abbrev Reg.CLS_FALLBACK_CNT : Nat := 0x3808
abbrev Reg.CLS_CLASS (n : Nat) : Nat := 0x3840 + 0x4 * n
abbrev Reg.EJ_CFG : Nat := 0x3900
abbrev Reg.EJ_LEAD : Nat := 0x3904
abbrev Reg.EJ_ROW_DIST (n : Nat) : Nat := 0x3910 + 0x8 * n
abbrev Reg.EJ_ROW_CTL (n : Nat) : Nat := 0x3914 + 0x8 * n
abbrev Reg.EJ_PW_BASE : Nat := 0x3920
abbrev Reg.EJ_PW_FACTOR : Nat := 0x3924
abbrev Reg.EJ_PW_MIN : Nat := 0x3928
abbrev Reg.EJ_PW_MAX : Nat := 0x392c
abbrev Reg.EJ_SPAN : Nat := 0x3930
abbrev Reg.EJ_STAT : Nat := 0x3940
abbrev Reg.EJ_CONFLICT : Nat := 0x3950
abbrev Reg.EJ_SUPPRESSED : Nat := 0x3954
abbrev Reg.EJ_MERGED : Nat := 0x3958
abbrev Reg.EJ_LATE : Nat := 0x395c
abbrev Reg.EJ_NOREACH : Nat := 0x3960
abbrev Reg.EJ_QFULL : Nat := 0x3964
abbrev Reg.EJ_DUTY : Nat := 0x3968
abbrev Reg.EJ_COALESCE : Nat := 0x396c
abbrev Reg.HIF_EJ_CLR : Nat := 0x194
abbrev Reg.WV_CFG : Nat := 0x4000
abbrev Reg.WV_SWAP : Nat := 0x4004
abbrev Reg.WV_DIR_PREP : Nat := 0x4008
abbrev Reg.WV_SPARE : Nat := 0x400c
abbrev Reg.WV_MISS : Nat := 0x4010
abbrev Reg.WV_FORCED : Nat := 0x4014
abbrev Reg.WV_REPLAY : Nat := 0x4018
abbrev Reg.WV_EVENTS : Nat := 0x401c
abbrev Reg.WV_PIN_LVL_LO : Nat := 0x4020
abbrev Reg.WV_PIN_LVL_HI : Nat := 0x4024
abbrev Reg.WV_ROLE_STAT (n : Nat) : Nat := 0x4040 + 0x4 * n
abbrev Reg.WV_PORT_CFG (n : Nat) : Nat := 0x4080 + 0x8 * n
abbrev Reg.WV_PORT_PREP (n : Nat) : Nat := 0x4084 + 0x8 * n
abbrev Reg.WV_DIR (n : Nat) : Nat := 0x4100 + 0x4 * n
abbrev Reg.WV_PIN (n : Nat) : Nat := 0x4200 + 0x4 * n
abbrev Reg.HIF_WV_CLR : Nat := 0x198
abbrev Reg.TB_TIME_LO : Nat := 0x400
abbrev Reg.TB_TIME_HI : Nat := 0x404
abbrev Reg.TB_STAT : Nat := 0x408
abbrev Reg.TB_STEP_LO : Nat := 0x410
abbrev Reg.TB_STEP_HI : Nat := 0x414
abbrev Reg.TB_SYNC_VAL_LO : Nat := 0x420
abbrev Reg.TB_SYNC_VAL_HI : Nat := 0x424
abbrev Reg.TB_SYNC_CTL : Nat := 0x428
abbrev Reg.TB_SYNC_DELTA_LO : Nat := 0x430
abbrev Reg.TB_SYNC_DELTA_HI : Nat := 0x434
abbrev Reg.TB_SYNC_OUT : Nat := 0x438
abbrev Reg.TB_PTM_CTL : Nat := 0x440
abbrev Reg.TB_PTM_SEQ : Nat := 0x444
abbrev Reg.TB_PTM_DELAY : Nat := 0x458
abbrev Reg.TB_PTM_LOCAL_LO : Nat := 0x448
abbrev Reg.TB_PTM_LOCAL_HI : Nat := 0x44c
abbrev Reg.TB_PTM_MASTER_LO : Nat := 0x450
abbrev Reg.TB_PTM_MASTER_HI : Nat := 0x454
abbrev Reg.CMP_VAL_LO (n : Nat) : Nat := 0x500 + 0x10 * n
abbrev Reg.CMP_VAL_HI (n : Nat) : Nat := 0x504 + 0x10 * n
abbrev Reg.CMP_CTL (n : Nat) : Nat := 0x508 + 0x10 * n
abbrev Reg.CMP_PERIOD (n : Nat) : Nat := 0x50c + 0x10 * n
abbrev Reg.CMP_FIRED : Nat := 0x600
abbrev Reg.CAP_CTL (n : Nat) : Nat := 0x700 + 0x20 * n
abbrev Reg.CAP_STAT (n : Nat) : Nat := 0x704 + 0x20 * n
abbrev Reg.CAP_RISE_LO (n : Nat) : Nat := 0x708 + 0x20 * n
abbrev Reg.CAP_RISE_HI (n : Nat) : Nat := 0x70c + 0x20 * n
abbrev Reg.CAP_FALL_LO (n : Nat) : Nat := 0x710 + 0x20 * n
abbrev Reg.CAP_FALL_HI (n : Nat) : Nat := 0x714 + 0x20 * n
abbrev Reg.GC_CTL (n : Nat) : Nat := 0x800 + 0x10 * n
abbrev Reg.GC_LO (n : Nat) : Nat := 0x804 + 0x10 * n
abbrev Reg.GC_HI (n : Nat) : Nat := 0x808 + 0x10 * n
abbrev Reg.HIF_READY : Nat := 0x0
abbrev Reg.HIF_LINK_STAT : Nat := 0x4
abbrev Reg.HIF_LINK_CFG : Nat := 0x8
abbrev Reg.HIF_LANE_ERR : Nat := 0xc
abbrev Reg.HIF_RESET_STAT : Nat := 0x10
abbrev Reg.HIF_NORING_DROP : Nat := 0x14
abbrev Reg.HIF_DMA_ERR : Nat := 0x18
abbrev Reg.HIF_PCIE_CLR : Nat := 0x1c
abbrev Reg.RING_BASE_LO (n : Nat) : Nat := 0x5000 + 0x40 * n
abbrev Reg.RING_BASE_HI (n : Nat) : Nat := 0x5004 + 0x40 * n
abbrev Reg.RING_CFG (n : Nat) : Nat := 0x5008 + 0x40 * n
abbrev Reg.RING_MOD (n : Nat) : Nat := 0x500c + 0x40 * n
abbrev Reg.RING_FLUSH (n : Nat) : Nat := 0x5010 + 0x40 * n
abbrev Reg.RING_PTR (n : Nat) : Nat := 0x5014 + 0x40 * n
abbrev Reg.RING_STAT (n : Nat) : Nat := 0x5018 + 0x40 * n
abbrev Reg.RING_DROP (n : Nat) : Nat := 0x501c + 0x40 * n
abbrev Reg.RING_DB_ERR : Nat := 0x5800
abbrev Reg.RING_ARCH_CFG : Nat := 0x5804
abbrev Reg.RING_ARCH_BASE_LO : Nat := 0x5808
abbrev Reg.RING_ARCH_BASE_HI : Nat := 0x580c
abbrev Reg.RING_ARCH_SIZE : Nat := 0x5810
abbrev Reg.RING_ARCH_WPTR_LO : Nat := 0x5814
abbrev Reg.RING_ARCH_WPTR_HI : Nat := 0x5818
abbrev Reg.RING_ARCH_WRAPS : Nat := 0x581c
abbrev Reg.RING_ARCH_DROP : Nat := 0x5820
abbrev Reg.RING_CLR : Nat := 0x5824
abbrev Reg.RING_DROP_CLR : Nat := 0x5828
abbrev Reg.HIF_CROP_CFG : Nat := 0x1a0
abbrev Reg.HIF_CROP_SIZE : Nat := 0x1a4
abbrev Reg.MGMT_SQ_BASE_LO : Nat := 0x20000
abbrev Reg.MGMT_SQ_BASE_HI : Nat := 0x20004
abbrev Reg.MGMT_CQ_BASE_LO : Nat := 0x20008
abbrev Reg.MGMT_CQ_BASE_HI : Nat := 0x2000c
abbrev Reg.MGMT_CFG : Nat := 0x20010
abbrev Reg.MGMT_MOD : Nat := 0x20014
abbrev Reg.MGMT_PTR : Nat := 0x20018
abbrev Reg.MGMT_STAT : Nat := 0x2001c
abbrev Reg.MGMT_SQ_TAIL : Nat := 0x20040
abbrev Reg.MGMT_CQ_HEAD : Nat := 0x20044
abbrev Reg.ICX_HCLAIM : Nat := 0x20800
abbrev Reg.ICX_HFCLAIM : Nat := 0x20808
abbrev Reg.ICX_HCOMPLETE : Nat := 0x20804
abbrev Reg.ICX_HFCOMPLETE : Nat := 0x2080c
abbrev Reg.ICX_HSTAT : Nat := 0x20810
abbrev Reg.ICX_HWIN : Nat := 0x20814
abbrev Reg.ICX_LOCK : Nat := 0x20818
abbrev Reg.ICX_TRIG : Nat := 0x2081c
abbrev Reg.ICX_FMASK : Nat := 0x20820
abbrev Reg.ICX_FPEND : Nat := 0x20824
abbrev Reg.ICX_FHELD : Nat := 0x20828
abbrev Reg.ICX_MASK (n : Nat) : Nat := 0x20840 + 0x4 * n
abbrev Reg.ICX_PEND (n : Nat) : Nat := 0x20860 + 0x4 * n
abbrev Reg.ICX_HELD (n : Nat) : Nat := 0x20880 + 0x4 * n
abbrev Reg.ICX_TGT (n : Nat) : Nat := 0x20900 + 0x4 * n
abbrev Reg.ICX_FTGT (n : Nat) : Nat := 0x20980 + 0x4 * n
abbrev Reg.ICX_CNT (n : Nat) : Nat := 0x20a00 + 0x4 * n
abbrev Reg.ICX_FCNT (n : Nat) : Nat := 0x20b00 + 0x4 * n
abbrev Reg.ICX_CNT_CLR : Nat := 0x20b20
abbrev Reg.ICX_ERR : Nat := 0x20b24
abbrev Reg.PLL_STAT : Nat := 0x21000
abbrev Reg.PLL_ROLE : Nat := 0x21004
abbrev Reg.PLL_EPOCH_CX : Nat := 0x21008
abbrev Reg.PLL_EPOCH_T : Nat := 0x2100c
abbrev Reg.PLL_CTL : Nat := 0x21010
abbrev Reg.PLL_PHASE : Nat := 0x21014
abbrev Reg.PLL_LOSS : Nat := 0x21018
abbrev Reg.PLL_REF_LOSS : Nat := 0x2101c
abbrev Reg.PLL_HOLDOVER : Nat := 0x21020
abbrev Reg.PLL_EDGE_HELD : Nat := 0x21024
abbrev Reg.PLL_CLR : Nat := 0x21028
abbrev Reg.CAL_STAT : Nat := 0x21400
abbrev Reg.CAL_CTL : Nat := 0x21404
abbrev Reg.CAL_DARK_LIM : Nat := 0x21408
abbrev Reg.CAL_FF_LIM : Nat := 0x2140c
abbrev Reg.CAL_DEF_THR : Nat := 0x21410
abbrev Reg.CAL_IDX : Nat := 0x21420
abbrev Reg.CAL_DATA : Nat := 0x21424
abbrev Reg.CAL_SUSPECT : Nat := 0x21428
abbrev Reg.CAL_FF_CLIP : Nat := 0x2142c
abbrev Reg.CAL_DRIFT_CYCLE : Nat := 0x21430
abbrev Reg.CAL_DLIST : Nat := 0x21434
abbrev Reg.CAL_LAST_MS : Nat := 0x21438
abbrev Reg.THM_STAT : Nat := 0x21800
abbrev Reg.THM_HYST : Nat := 0x21804
abbrev Reg.THM_GRACE : Nat := 0x21808
abbrev Reg.THM_SITE (n : Nat) : Nat := 0x21820 + 0x4 * n
abbrev Reg.THM_HOT : Nat := 0x21850
abbrev Reg.THM_COLD : Nat := 0x21854
abbrev Reg.THM_PEAK : Nat := 0x21858
abbrev Reg.THM_SHUT : Nat := 0x21860
abbrev Reg.THM_NVM_Q : Nat := 0x21864
abbrev Reg.PWR_STATE : Nat := 0x21900
abbrev Reg.PWR_WAKE_EN : Nat := 0x21904
abbrev Reg.PWR_WAKE : Nat := 0x21908
abbrev Reg.PWR_WAKE_SRC : Nat := 0x2190c
abbrev Reg.PWR_SLEEP_ABORT : Nat := 0x21910
abbrev Reg.SPR_CLASS_STOCK (n : Nat) : Nat := 0x22000 + 0x8 * n
abbrev Reg.SPR_CLASS_USE (n : Nat) : Nat := 0x22004 + 0x8 * n
abbrev Reg.SPR_SCOPE_EMPTY : Nat := 0x22080
abbrev Reg.SPR_ST_CFG : Nat := 0x22090
abbrev Reg.SPR_ST_STAT : Nat := 0x22094
abbrev Reg.SPR_ST_LAST : Nat := 0x22098
abbrev Reg.SPR_ST_DONE : Nat := 0x2209c
abbrev Reg.SPR_ST_SKIP : Nat := 0x220a0
abbrev Reg.SPR_ST_FAIL : Nat := 0x220a4
abbrev Reg.SPR_ST_INCOMPLETE : Nat := 0x220a8
abbrev Reg.SPR_CLR : Nat := 0x220b0
abbrev Reg.FLT_SRC_CFG (n : Nat) : Nat := 0x22210 + 0x10 * n
abbrev Reg.FLT_SRC_EVT (n : Nat) : Nat := 0x22214 + 0x10 * n
abbrev Reg.FLT_SRC_LAST (n : Nat) : Nat := 0x22218 + 0x10 * n
abbrev Reg.FLT_JSEQ : Nat := 0x22300
abbrev Reg.FLT_CLR : Nat := 0x22304
abbrev Reg.BIST_STAT : Nat := 0x23000
abbrev Reg.BIST_CTL : Nat := 0x23004
abbrev Reg.BIST_PATTERNS : Nat := 0x23008
abbrev Reg.BIST_MOULT : Nat := 0x2300c
abbrev Reg.BIST_PATCNT : Nat := 0x23010
abbrev Reg.SEC_STAT : Nat := 0x22800
abbrev Reg.SEC_FW_STAT : Nat := 0x22804
abbrev Reg.SEC_FW_VERA : Nat := 0x22808
abbrev Reg.SEC_FW_VERB : Nat := 0x2280c
abbrev Reg.SEC_FW_CFG : Nat := 0x22810
abbrev Reg.SEC_TRIAL_LEFT : Nat := 0x22814
abbrev Reg.SEC_ALARM_CNT : Nat := 0x22818
abbrev Reg.SEC_I3C_REQ : Nat := 0x2281c
abbrev Reg.ID_SERIAL_LO : Nat := 0x22840
abbrev Reg.ID_SERIAL_HI : Nat := 0x22844
abbrev Reg.ID_PART : Nat := 0x22848
abbrev Reg.NVM_STAT : Nat := 0x22880
abbrev Reg.NVM_WEAR : Nat := 0x22884
abbrev Reg.NVM_ERR : Nat := 0x22888
abbrev Reg.NVM_JFREE : Nat := 0x2288c

abbrev Fld.HIF_RUN_RUN : Fld := ⟨Reg.HIF_RUN, 0, 0⟩
abbrev Fld.HIF_STAT_RUNNING : Fld := ⟨Reg.HIF_STAT, 0, 0⟩
abbrev Fld.HIF_STAT_CLAMPED : Fld := ⟨Reg.HIF_STAT, 1, 1⟩
abbrev Fld.HIF_STAT_THROTTLED : Fld := ⟨Reg.HIF_STAT, 2, 2⟩
abbrev Fld.HIF_TICK_LO_TICK_LO : Fld := ⟨Reg.HIF_TICK_LO, 31, 0⟩
abbrev Fld.HIF_TICK_HI_TICK_HI : Fld := ⟨Reg.HIF_TICK_HI, 15, 0⟩
abbrev Fld.HIF_EDGE_TIME_LO_EDGE_LO : Fld := ⟨Reg.HIF_EDGE_TIME_LO, 31, 0⟩
abbrev Fld.HIF_EDGE_TIME_HI_EDGE_HI : Fld := ⟨Reg.HIF_EDGE_TIME_HI, 31, 0⟩
abbrev Fld.HIF_GEN_GEN : Fld := ⟨Reg.HIF_GEN, 31, 0⟩
abbrev Fld.HIF_CFG_TAG_TAG : Fld := ⟨Reg.HIF_CFG_TAG, 31, 0⟩
abbrev Fld.HIF_HOST_TIMEOUT_TIMEOUT_MS : Fld := ⟨Reg.HIF_HOST_TIMEOUT, 15, 0⟩
abbrev Fld.HIF_HOST_POLICY_POLICY : Fld := ⟨Reg.HIF_HOST_POLICY, 1, 0⟩
abbrev Fld.HIF_HOST_POLICY_ROW : Fld := ⟨Reg.HIF_HOST_POLICY, 4, 4⟩
abbrev Fld.HIF_HOST_POLICY_ABSENT : Fld := ⟨Reg.HIF_HOST_POLICY, 8, 8⟩
abbrev Fld.HIF_HOST_ALIVE_ALIVE : Fld := ⟨Reg.HIF_HOST_ALIVE, 31, 0⟩
abbrev Fld.HIF_CPL_LATE_LATE : Fld := ⟨Reg.HIF_CPL_LATE, 31, 0⟩
abbrev Fld.HIF_TICK_EARLY_EARLY : Fld := ⟨Reg.HIF_TICK_EARLY, 31, 0⟩
abbrev Fld.HIF_WR_DISCARD_DISCARD : Fld := ⟨Reg.HIF_WR_DISCARD, 31, 0⟩
abbrev Fld.HIF_CNT_CLR_LATE : Fld := ⟨Reg.HIF_CNT_CLR, 0, 0⟩
abbrev Fld.HIF_CNT_CLR_EARLY : Fld := ⟨Reg.HIF_CNT_CLR, 1, 1⟩
abbrev Fld.HIF_CNT_CLR_DISCARD : Fld := ⟨Reg.HIF_CNT_CLR, 2, 2⟩
abbrev Fld.HIF_MODE_MODE : Fld := ⟨Reg.HIF_MODE, 2, 0⟩
abbrev Fld.HIF_MODE_DRAINING : Fld := ⟨Reg.HIF_MODE, 8, 8⟩
abbrev Fld.HIF_MODE_TRANSITION : Fld := ⟨Reg.HIF_MODE, 9, 9⟩
abbrev Fld.HIF_MODE_INIT_MODE : Fld := ⟨Reg.HIF_MODE_INIT, 2, 0⟩
abbrev Fld.HIF_TMIN_CFG_TMIN : Fld := ⟨Reg.HIF_TMIN_CFG, 31, 0⟩
abbrev Fld.HIF_TMIN_TMIN : Fld := ⟨Reg.HIF_TMIN, 31, 0⟩
abbrev Fld.HIF_EXP_LIMIT_LIMIT : Fld := ⟨Reg.HIF_EXP_LIMIT, 31, 0⟩
abbrev Fld.HIF_OVL_SEG_SEG : Fld := ⟨Reg.HIF_OVL_SEG, 31, 0⟩
abbrev Fld.HIF_OVL_DEC_DEC : Fld := ⟨Reg.HIF_OVL_DEC, 31, 0⟩
abbrev Fld.HIF_OVL_TICK_TICKS : Fld := ⟨Reg.HIF_OVL_TICK, 31, 0⟩
abbrev Fld.HIF_OVL_CLR_SEG : Fld := ⟨Reg.HIF_OVL_CLR, 0, 0⟩
abbrev Fld.HIF_OVL_CLR_DEC : Fld := ⟨Reg.HIF_OVL_CLR, 1, 1⟩
abbrev Fld.HIF_OVL_CLR_TICKS : Fld := ⟨Reg.HIF_OVL_CLR, 2, 2⟩
abbrev Fld.RO_ARRAY_INFO_VARIANT : Fld := ⟨Reg.RO_ARRAY_INFO, 0, 0⟩
abbrev Fld.RO_ARRAY_INFO_TAPS : Fld := ⟨Reg.RO_ARRAY_INFO, 7, 4⟩
abbrev Fld.RO_PIXSUP_STAT_READY : Fld := ⟨Reg.RO_PIXSUP_STAT, 0, 0⟩
abbrev Fld.RO_PIXSUP_STAT_MV : Fld := ⟨Reg.RO_PIXSUP_STAT, 19, 8⟩
abbrev Fld.RO_PIXSUP_STAT_EDGE_HELD : Fld := ⟨Reg.RO_PIXSUP_STAT, 31, 24⟩
abbrev Fld.RO_PIXSUP_DROOP_DROOP : Fld := ⟨Reg.RO_PIXSUP_DROOP, 31, 0⟩
abbrev Fld.RO_FACT_DEFECTS_COUNT : Fld := ⟨Reg.RO_FACT_DEFECTS, 15, 0⟩
abbrev Fld.RO_FACT_DEFECTS_CLR_HELD : Fld := ⟨Reg.RO_FACT_DEFECTS, 30, 30⟩
abbrev Fld.RO_FACT_DEFECTS_CLR_DROOP : Fld := ⟨Reg.RO_FACT_DEFECTS, 31, 31⟩
abbrev Fld.EXP_TICK_SRC_SRC : Fld := ⟨Reg.EXP_TICK_SRC, 1, 0⟩
abbrev Fld.EXP_TICK_SRC_PIN : Fld := ⟨Reg.EXP_TICK_SRC, 5, 4⟩
abbrev Fld.EXP_TICK_SRC_POL : Fld := ⟨Reg.EXP_TICK_SRC, 6, 6⟩
abbrev Fld.EXP_TICK_SRC_CMP : Fld := ⟨Reg.EXP_TICK_SRC, 11, 8⟩
abbrev Fld.EXP_TICK_SRC_DIV : Fld := ⟨Reg.EXP_TICK_SRC, 23, 16⟩
abbrev Fld.EXP_TICK_PERIOD_PERIOD : Fld := ⟨Reg.EXP_TICK_PERIOD, 31, 0⟩
abbrev Fld.EXP_TICK_START_LO_START : Fld := ⟨Reg.EXP_TICK_START_LO, 31, 0⟩
abbrev Fld.EXP_TICK_START_HI_START : Fld := ⟨Reg.EXP_TICK_START_HI, 31, 0⟩
abbrev Fld.EXP_TRIG_LAT_LAT : Fld := ⟨Reg.EXP_TRIG_LAT, 5, 0⟩
abbrev Fld.EXP_TRIG_LOST_LOST : Fld := ⟨Reg.EXP_TRIG_LOST, 31, 0⟩
abbrev Fld.EXP_SVC_TAPS_EN : Fld := ⟨Reg.EXP_SVC_TAPS, 3, 0⟩
abbrev Fld.EXP_TAP_OFS_OFS (n : Nat) : Fld := ⟨Reg.EXP_TAP_OFS n, 31, 0⟩
abbrev Fld.EXP_TAP_DUR_DUR (n : Nat) : Fld := ⟨Reg.EXP_TAP_DUR n, 31, 0⟩
abbrev Fld.EXP_TAP_SUB_COUNT (n : Nat) : Fld := ⟨Reg.EXP_TAP_SUB n, 3, 0⟩
abbrev Fld.EXP_TAP_SUB_FFMASK (n : Nat) : Fld := ⟨Reg.EXP_TAP_SUB n, 15, 8⟩
abbrev Fld.EXP_TAP_PITCH_PITCH (n : Nat) : Fld := ⟨Reg.EXP_TAP_PITCH n, 31, 0⟩
abbrev Fld.EXP_GOV_CFG_EN : Fld := ⟨Reg.EXP_GOV_CFG, 0, 0⟩
abbrev Fld.EXP_GOV_CFG_LINK : Fld := ⟨Reg.EXP_GOV_CFG, 1, 1⟩
abbrev Fld.EXP_GOV_CFG_METRIC : Fld := ⟨Reg.EXP_GOV_CFG, 3, 2⟩
abbrev Fld.EXP_GOV_CFG_REF_TAP : Fld := ⟨Reg.EXP_GOV_CFG, 5, 4⟩
abbrev Fld.EXP_GOV_CFG_CH : Fld := ⟨Reg.EXP_GOV_CFG, 7, 6⟩
abbrev Fld.EXP_GOV_CFG_PERIOD : Fld := ⟨Reg.EXP_GOV_CFG, 15, 8⟩
abbrev Fld.EXP_GOV_CFG_STEP : Fld := ⟨Reg.EXP_GOV_CFG, 23, 16⟩
abbrev Fld.EXP_GOV_CFG_DEADBAND : Fld := ⟨Reg.EXP_GOV_CFG, 31, 24⟩
abbrev Fld.EXP_GOV_TARGET_TARGET : Fld := ⟨Reg.EXP_GOV_TARGET, 15, 0⟩
abbrev Fld.EXP_GOV_TARGET_ZONES : Fld := ⟨Reg.EXP_GOV_TARGET, 31, 16⟩
abbrev Fld.EXP_GOV_PCT_PCT : Fld := ⟨Reg.EXP_GOV_PCT, 7, 0⟩
abbrev Fld.EXP_GOV_MIN_BOUND (n : Nat) : Fld := ⟨Reg.EXP_GOV_MIN n, 31, 0⟩
abbrev Fld.EXP_GOV_MAX_BOUND (n : Nat) : Fld := ⟨Reg.EXP_GOV_MAX n, 31, 0⟩
abbrev Fld.EXP_GOV_STAT_ACTIVE : Fld := ⟨Reg.EXP_GOV_STAT, 0, 0⟩
abbrev Fld.EXP_GOV_STAT_AT_MIN : Fld := ⟨Reg.EXP_GOV_STAT, 1, 1⟩
abbrev Fld.EXP_GOV_STAT_AT_MAX : Fld := ⟨Reg.EXP_GOV_STAT, 2, 2⟩
abbrev Fld.EXP_GOV_STAT_CHANGES : Fld := ⟨Reg.EXP_GOV_STAT, 31, 16⟩
abbrev Fld.EXP_STAT_CFG_EN : Fld := ⟨Reg.EXP_STAT_CFG, 0, 0⟩
abbrev Fld.EXP_STAT_CFG_DECIM : Fld := ⟨Reg.EXP_STAT_CFG, 15, 8⟩
abbrev Fld.FF_CFG_MODE (n : Nat) : Fld := ⟨Reg.FF_CFG n, 1, 0⟩
abbrev Fld.FF_CFG_POL (n : Nat) : Fld := ⟨Reg.FF_CFG n, 4, 4⟩
abbrev Fld.FF_CFG_TRAIL (n : Nat) : Fld := ⟨Reg.FF_CFG n, 24, 16⟩
abbrev Fld.FF_LEAD_LEAD (n : Nat) : Fld := ⟨Reg.FF_LEAD n, 13, 0⟩
abbrev Fld.FF_DUTY_LIMIT (n : Nat) : Fld := ⟨Reg.FF_DUTY n, 19, 0⟩
abbrev Fld.FF_SUPPR_CNT_COUNT : Fld := ⟨Reg.FF_SUPPR_CNT, 31, 0⟩
abbrev Fld.FF_STAT_SUPPR : Fld := ⟨Reg.FF_STAT, 7, 0⟩
abbrev Fld.FF_STAT_LEVEL : Fld := ⟨Reg.FF_STAT, 15, 8⟩
abbrev Fld.HIF_EXP_CLR_TRIG_LOST : Fld := ⟨Reg.HIF_EXP_CLR, 0, 0⟩
abbrev Fld.HIF_EXP_CLR_SUPPR_CNT : Fld := ⟨Reg.HIF_EXP_CLR, 1, 1⟩
abbrev Fld.HIF_EXP_CLR_SUPPR : Fld := ⟨Reg.HIF_EXP_CLR, 15, 8⟩
abbrev Fld.RO_WIN_CFG_RB_EN : Fld := ⟨Reg.RO_WIN_CFG, 3, 0⟩
abbrev Fld.RO_WIN_CFG_CB_EN : Fld := ⟨Reg.RO_WIN_CFG, 31, 16⟩
abbrev Fld.RO_RBAND_START (n : Nat) : Fld := ⟨Reg.RO_RBAND n, 8, 0⟩
abbrev Fld.RO_RBAND_HEIGHT (n : Nat) : Fld := ⟨Reg.RO_RBAND n, 24, 16⟩
abbrev Fld.RO_CBAND_START (n : Nat) : Fld := ⟨Reg.RO_CBAND n, 6, 0⟩
abbrev Fld.RO_CBAND_WIDTH (n : Nat) : Fld := ⟨Reg.RO_CBAND n, 23, 16⟩
abbrev Fld.RO_GAIN_GAIN_A : Fld := ⟨Reg.RO_GAIN, 2, 0⟩
abbrev Fld.RO_GAIN_GAIN_B : Fld := ⟨Reg.RO_GAIN, 6, 4⟩
abbrev Fld.RO_GAIN_GAIN_C : Fld := ⟨Reg.RO_GAIN, 10, 8⟩
abbrev Fld.RO_GAIN_GAIN_D : Fld := ⟨Reg.RO_GAIN, 14, 12⟩
abbrev Fld.RO_PED_PED10 : Fld := ⟨Reg.RO_PED, 7, 0⟩
abbrev Fld.RO_SVC_DARK_TOP : Fld := ⟨Reg.RO_SVC, 0, 0⟩
abbrev Fld.RO_SVC_DARK_BOT : Fld := ⟨Reg.RO_SVC, 1, 1⟩
abbrev Fld.RO_SVC_DEPTH : Fld := ⟨Reg.RO_SVC, 5, 4⟩
abbrev Fld.RO_SVC_BIN : Fld := ⟨Reg.RO_SVC, 8, 8⟩
abbrev Fld.RO_SLOTS_SLOTS : Fld := ⟨Reg.RO_SLOTS, 10, 0⟩
abbrev Fld.RO_TRO_TRO : Fld := ⟨Reg.RO_TRO, 31, 0⟩
abbrev Fld.RO_AXLE_CRC_CRC : Fld := ⟨Reg.RO_AXLE_CRC, 31, 0⟩
abbrev Fld.RO_OOR_CNT_OOR : Fld := ⟨Reg.RO_OOR_CNT, 31, 0⟩
abbrev Fld.RO_CONV_NOSPARE_COUNT : Fld := ⟨Reg.RO_CONV_NOSPARE, 15, 0⟩
abbrev Fld.RO_GRP_LOST_LOST (n : Nat) : Fld := ⟨Reg.RO_GRP_LOST n, 31, 0⟩
abbrev Fld.HIF_RO_CLR_AXLE_CRC : Fld := ⟨Reg.HIF_RO_CLR, 0, 0⟩
abbrev Fld.HIF_RO_CLR_OOR : Fld := ⟨Reg.HIF_RO_CLR, 1, 1⟩
abbrev Fld.HIF_RO_CLR_PIX_HELD : Fld := ⟨Reg.HIF_RO_CLR, 2, 2⟩
abbrev Fld.HIF_RO_CLR_DROOP : Fld := ⟨Reg.HIF_RO_CLR, 3, 3⟩
abbrev Fld.CSX_LINK_CFG_EN : Fld := ⟨Reg.CSX_LINK_CFG, 0, 0⟩
abbrev Fld.CSX_LINK_CFG_LANES : Fld := ⟨Reg.CSX_LINK_CFG, 3, 1⟩
abbrev Fld.CSX_LINK_CFG_RATE : Fld := ⟨Reg.CSX_LINK_CFG, 28, 16⟩
abbrev Fld.CSX_LINK_STAT_STOP : Fld := ⟨Reg.CSX_LINK_STAT, 3, 0⟩
abbrev Fld.CSX_LINK_STAT_HS : Fld := ⟨Reg.CSX_LINK_STAT, 4, 4⟩
abbrev Fld.CSX_LINK_STAT_DESKEW : Fld := ⟨Reg.CSX_LINK_STAT, 5, 5⟩
abbrev Fld.CSX_ECC_CORR_COUNT : Fld := ⟨Reg.CSX_ECC_CORR, 31, 0⟩
abbrev Fld.CSX_ECC_UNCORR_COUNT : Fld := ⟨Reg.CSX_ECC_UNCORR, 31, 0⟩
abbrev Fld.CSX_CRC_COUNT : Fld := ⟨Reg.CSX_CRC, 31, 0⟩
abbrev Fld.CSX_DT_SKIP_COUNT : Fld := ⟨Reg.CSX_DT_SKIP, 31, 0⟩
abbrev Fld.CSX_CAM_CFG_EN (n : Nat) : Fld := ⟨Reg.CSX_CAM_CFG n, 0, 0⟩
abbrev Fld.CSX_CAM_CFG_SHARE (n : Nat) : Fld := ⟨Reg.CSX_CAM_CFG n, 1, 1⟩
abbrev Fld.CSX_CAM_CFG_PARTNER (n : Nat) : Fld := ⟨Reg.CSX_CAM_CFG n, 3, 2⟩
abbrev Fld.CSX_CAM_CFG_VC (n : Nat) : Fld := ⟨Reg.CSX_CAM_CFG n, 7, 4⟩
abbrev Fld.CSX_CAM_CFG_DT (n : Nat) : Fld := ⟨Reg.CSX_CAM_CFG n, 13, 8⟩
abbrev Fld.CSX_CAM_SIZE_WIDTH (n : Nat) : Fld := ⟨Reg.CSX_CAM_SIZE n, 12, 0⟩
abbrev Fld.CSX_CAM_SIZE_HEIGHT (n : Nat) : Fld := ⟨Reg.CSX_CAM_SIZE n, 28, 16⟩
abbrev Fld.CSX_CAM_LAT_LAT (n : Nat) : Fld := ⟨Reg.CSX_CAM_LAT n, 31, 0⟩
abbrev Fld.CSX_CAM_FS_LO_FS (n : Nat) : Fld := ⟨Reg.CSX_CAM_FS_LO n, 31, 0⟩
abbrev Fld.CSX_CAM_FS_HI_FS (n : Nat) : Fld := ⟨Reg.CSX_CAM_FS_HI n, 31, 0⟩
abbrev Fld.CSX_CAM_ERR_DROP (n : Nat) : Fld := ⟨Reg.CSX_CAM_ERR n, 15, 0⟩
abbrev Fld.CSX_CAM_ERR_MALFORMED (n : Nat) : Fld := ⟨Reg.CSX_CAM_ERR n, 31, 16⟩
abbrev Fld.CSX_CAM_STAT_PIPE (n : Nat) : Fld := ⟨Reg.CSX_CAM_STAT n, 2, 0⟩
abbrev Fld.CSX_CAM_STAT_SHARED (n : Nat) : Fld := ⟨Reg.CSX_CAM_STAT n, 3, 3⟩
abbrev Fld.CSX_CAM_STAT_BUFFERED (n : Nat) : Fld := ⟨Reg.CSX_CAM_STAT n, 4, 4⟩
abbrev Fld.CSX_TO_CFG_MODE (n : Nat) : Fld := ⟨Reg.CSX_TO_CFG n, 1, 0⟩
abbrev Fld.CSX_TO_CFG_POL (n : Nat) : Fld := ⟨Reg.CSX_TO_CFG n, 2, 2⟩
abbrev Fld.CSX_TO_CFG_CMP (n : Nat) : Fld := ⟨Reg.CSX_TO_CFG n, 7, 4⟩
abbrev Fld.CSX_TO_CFG_DIV (n : Nat) : Fld := ⟨Reg.CSX_TO_CFG n, 15, 8⟩
abbrev Fld.CSX_TO_OFS_VALUE (n : Nat) : Fld := ⟨Reg.CSX_TO_OFS n, 23, 0⟩
abbrev Fld.CSX_TO_WIDTH_VALUE (n : Nat) : Fld := ⟨Reg.CSX_TO_WIDTH n, 23, 0⟩
abbrev Fld.HIF_CSX_CLR_LINK : Fld := ⟨Reg.HIF_CSX_CLR, 0, 0⟩
abbrev Fld.HIF_CSX_CLR_CAM : Fld := ⟨Reg.HIF_CSX_CLR, 3, 1⟩
abbrev Fld.PIPE_CAM_CTRL_NRS_EN (n : Nat) : Fld := ⟨Reg.PIPE_CAM_CTRL n, 0, 0⟩
abbrev Fld.PIPE_CAM_CTRL_NRT_EN (n : Nat) : Fld := ⟨Reg.PIPE_CAM_CTRL n, 1, 1⟩
abbrev Fld.PIPE_CAM_CTRL_DEF_EN (n : Nat) : Fld := ⟨Reg.PIPE_CAM_CTRL n, 2, 2⟩
abbrev Fld.PIPE_CAM_CTRL_FF_EN (n : Nat) : Fld := ⟨Reg.PIPE_CAM_CTRL n, 3, 3⟩
abbrev Fld.PIPE_CAM_CTRL_DM_EN (n : Nat) : Fld := ⟨Reg.PIPE_CAM_CTRL n, 4, 4⟩
abbrev Fld.PIPE_CAM_CTRL_CCM_EN (n : Nat) : Fld := ⟨Reg.PIPE_CAM_CTRL n, 5, 5⟩
abbrev Fld.PIPE_CAM_CTRL_BG_FREEZE (n : Nat) : Fld := ⟨Reg.PIPE_CAM_CTRL n, 8, 8⟩
abbrev Fld.PIPE_CAM_CTRL_BG_RESET (n : Nat) : Fld := ⟨Reg.PIPE_CAM_CTRL n, 9, 9⟩
abbrev Fld.PIPE_CAM_NR_STRENGTH (n : Nat) : Fld := ⟨Reg.PIPE_CAM_NR n, 7, 0⟩
abbrev Fld.PIPE_CAM_NR_SHIFT (n : Nat) : Fld := ⟨Reg.PIPE_CAM_NR n, 11, 8⟩
abbrev Fld.PIPE_CAM_TNR_ALPHA (n : Nat) : Fld := ⟨Reg.PIPE_CAM_TNR n, 7, 0⟩
abbrev Fld.PIPE_CAM_TNR_BETA (n : Nat) : Fld := ⟨Reg.PIPE_CAM_TNR n, 15, 8⟩
abbrev Fld.PIPE_CAM_TNR_STUCK (n : Nat) : Fld := ⟨Reg.PIPE_CAM_TNR n, 31, 16⟩
abbrev Fld.PIPE_CAM_TTHR01_THR_LO (n : Nat) : Fld := ⟨Reg.PIPE_CAM_TTHR01 n, 15, 0⟩
abbrev Fld.PIPE_CAM_TTHR01_THR_HI (n : Nat) : Fld := ⟨Reg.PIPE_CAM_TTHR01 n, 31, 16⟩
abbrev Fld.PIPE_CAM_TTHR23_THR_LO (n : Nat) : Fld := ⟨Reg.PIPE_CAM_TTHR23 n, 15, 0⟩
abbrev Fld.PIPE_CAM_TTHR23_THR_HI (n : Nat) : Fld := ⟨Reg.PIPE_CAM_TTHR23 n, 31, 16⟩
abbrev Fld.PIPE_CAM_DM_SHIFT (n : Nat) : Fld := ⟨Reg.PIPE_CAM_DM n, 3, 0⟩
abbrev Fld.PIPE_CAM_HDR_KNEE (n : Nat) : Fld := ⟨Reg.PIPE_CAM_HDR n, 15, 0⟩
abbrev Fld.PIPE_CAM_HDR_SHIFT (n : Nat) : Fld := ⟨Reg.PIPE_CAM_HDR n, 18, 16⟩
abbrev Fld.PIPE_CAM_BLACK_BLACK (n : Nat) : Fld := ⟨Reg.PIPE_CAM_BLACK n, 13, 0⟩
abbrev Fld.PIPE_CAM_CCM_M_LO (n : Nat) (i : Nat) : Fld := ⟨Reg.PIPE_CAM_CCM n i, 15, 0⟩
abbrev Fld.PIPE_CAM_CCM_M_HI (n : Nat) (i : Nat) : Fld := ⟨Reg.PIPE_CAM_CCM n i, 31, 16⟩
abbrev Fld.PIPE_CAM_CCO01_OFS_LO (n : Nat) : Fld := ⟨Reg.PIPE_CAM_CCO01 n, 15, 0⟩
abbrev Fld.PIPE_CAM_CCO01_OFS_HI (n : Nat) : Fld := ⟨Reg.PIPE_CAM_CCO01 n, 31, 16⟩
abbrev Fld.PIPE_CAM_CCO23_OFS_LO (n : Nat) : Fld := ⟨Reg.PIPE_CAM_CCO23 n, 15, 0⟩
abbrev Fld.PIPE_CAM_CCO23_OFS_HI (n : Nat) : Fld := ⟨Reg.PIPE_CAM_CCO23 n, 31, 16⟩
abbrev Fld.PIPE_CAM_DSP_EN (n : Nat) : Fld := ⟨Reg.PIPE_CAM_DSP n, 0, 0⟩
abbrev Fld.PIPE_CAM_DSP_TAP (n : Nat) : Fld := ⟨Reg.PIPE_CAM_DSP n, 2, 1⟩
abbrev Fld.PIPE_CAM_DSP_FXM1 (n : Nat) : Fld := ⟨Reg.PIPE_CAM_DSP n, 7, 4⟩
abbrev Fld.PIPE_CAM_DSP_FYM1 (n : Nat) : Fld := ⟨Reg.PIPE_CAM_DSP n, 11, 8⟩
abbrev Fld.PIPE_CAM_DSP_DECIM (n : Nat) : Fld := ⟨Reg.PIPE_CAM_DSP n, 19, 12⟩
abbrev Fld.PIPE_CAM_COD_EN (n : Nat) : Fld := ⟨Reg.PIPE_CAM_COD n, 0, 0⟩
abbrev Fld.PIPE_CAM_COD_TAP (n : Nat) : Fld := ⟨Reg.PIPE_CAM_COD n, 2, 1⟩
abbrev Fld.PIPE_CAM_COD_FXM1 (n : Nat) : Fld := ⟨Reg.PIPE_CAM_COD n, 7, 4⟩
abbrev Fld.PIPE_CAM_COD_FYM1 (n : Nat) : Fld := ⟨Reg.PIPE_CAM_COD n, 11, 8⟩
abbrev Fld.PIPE_CAM_COD_DECIM (n : Nat) : Fld := ⟨Reg.PIPE_CAM_COD n, 19, 12⟩
abbrev Fld.PIPE_CAM_MV_EN (n : Nat) : Fld := ⟨Reg.PIPE_CAM_MV n, 0, 0⟩
abbrev Fld.PIPE_CAM_MV_SRC (n : Nat) : Fld := ⟨Reg.PIPE_CAM_MV n, 1, 1⟩
abbrev Fld.PIPE_CAM_MV_TAPS (n : Nat) : Fld := ⟨Reg.PIPE_CAM_MV n, 5, 2⟩
abbrev Fld.PIPE_CAM_MV_DECIM (n : Nat) : Fld := ⟨Reg.PIPE_CAM_MV n, 15, 8⟩
abbrev Fld.PIPE_CAM_MV_ROWS_ROW0 (n : Nat) : Fld := ⟨Reg.PIPE_CAM_MV_ROWS n, 12, 0⟩
abbrev Fld.PIPE_CAM_MV_ROWS_HEIGHT (n : Nat) : Fld := ⟨Reg.PIPE_CAM_MV_ROWS n, 28, 16⟩
abbrev Fld.PIPE_CAM_TBL_PARAM (n : Nat) : Fld := ⟨Reg.PIPE_CAM_TBL n, 0, 0⟩
abbrev Fld.PIPE_CAM_TBL_DEFECT (n : Nat) : Fld := ⟨Reg.PIPE_CAM_TBL n, 1, 1⟩
abbrev Fld.PIPE_CAM_TBL_FF (n : Nat) : Fld := ⟨Reg.PIPE_CAM_TBL n, 2, 2⟩
abbrev Fld.PIPE_CAM_TBL_FFC (n : Nat) : Fld := ⟨Reg.PIPE_CAM_TBL n, 3, 3⟩
abbrev Fld.PIPE_CAM_TBL_DEF_COUNT (n : Nat) : Fld := ⟨Reg.PIPE_CAM_TBL n, 31, 16⟩
abbrev Fld.PIPE_SLICE_STAT_LOST : Fld := ⟨Reg.PIPE_SLICE_STAT, 7, 0⟩
abbrev Fld.PIPE_SLICE_STAT_SPARE_ROLE : Fld := ⟨Reg.PIPE_SLICE_STAT, 11, 8⟩
abbrev Fld.PIPE_INVALID_CNT_COUNT : Fld := ⟨Reg.PIPE_INVALID_CNT, 31, 0⟩
abbrev Fld.PIPE_DSP_SKIP_COUNT : Fld := ⟨Reg.PIPE_DSP_SKIP, 31, 0⟩
abbrev Fld.PIPE_SHORT_BUF_COUNT : Fld := ⟨Reg.PIPE_SHORT_BUF, 31, 0⟩
abbrev Fld.HIF_PIPE_CLR_INVALID : Fld := ⟨Reg.HIF_PIPE_CLR, 0, 0⟩
abbrev Fld.HIF_PIPE_CLR_DSP_SKIP : Fld := ⟨Reg.HIF_PIPE_CLR, 1, 1⟩
abbrev Fld.HIF_PIPE_CLR_SHORT_BUF : Fld := ⟨Reg.HIF_PIPE_CLR, 2, 2⟩
abbrev Fld.SEG_CFG_MIN_AREA : Fld := ⟨Reg.SEG_CFG, 12, 0⟩
abbrev Fld.SEG_CFG_SLOT_EN : Fld := ⟨Reg.SEG_CFG, 19, 16⟩
abbrev Fld.SEG_CFG_GCH : Fld := ⟨Reg.SEG_CFG, 21, 20⟩
abbrev Fld.SEG_THR_HI (n : Nat) : Fld := ⟨Reg.SEG_THR n, 11, 0⟩
abbrev Fld.SEG_THR_LO (n : Nat) : Fld := ⟨Reg.SEG_THR n, 27, 16⟩
abbrev Fld.SEG_DARK_LEVEL : Fld := ⟨Reg.SEG_DARK, 11, 0⟩
abbrev Fld.SEG_DARK_SLOT : Fld := ⟨Reg.SEG_DARK, 13, 12⟩
abbrev Fld.SEG_SMALL_COUNT : Fld := ⟨Reg.SEG_SMALL, 31, 0⟩
abbrev Fld.SEG_SPLIT_COUNT : Fld := ⟨Reg.SEG_SPLIT, 31, 0⟩
abbrev Fld.TRK_CFG_DUE_N : Fld := ⟨Reg.TRK_CFG, 7, 0⟩
abbrev Fld.TRK_CFG_MISS_MAX : Fld := ⟨Reg.TRK_CFG, 15, 8⟩
abbrev Fld.TRK_CFG_AX_EN : Fld := ⟨Reg.TRK_CFG, 16, 16⟩
abbrev Fld.TRK_ACT_OVL : Fld := ⟨Reg.TRK_ACT, 1, 0⟩
abbrev Fld.TRK_ACT_NOCTX : Fld := ⟨Reg.TRK_ACT, 5, 4⟩
abbrev Fld.TRK_ACT_AMBIG : Fld := ⟨Reg.TRK_ACT, 10, 8⟩
abbrev Fld.TRK_VNOM_VX : Fld := ⟨Reg.TRK_VNOM, 15, 0⟩
abbrev Fld.TRK_VNOM_VY : Fld := ⟨Reg.TRK_VNOM, 31, 16⟩
abbrev Fld.TRK_ANOM_AY : Fld := ⟨Reg.TRK_ANOM, 23, 0⟩
abbrev Fld.TRK_DT_DTV : Fld := ⟨Reg.TRK_DT, 15, 0⟩
abbrev Fld.TRK_DT_DTA : Fld := ⟨Reg.TRK_DT, 31, 16⟩
abbrev Fld.TRK_LOOK_LOOK : Fld := ⟨Reg.TRK_LOOK, 31, 0⟩
abbrev Fld.TRK_GATE1_GX : Fld := ⟨Reg.TRK_GATE1, 15, 0⟩
abbrev Fld.TRK_GATE1_GY : Fld := ⟨Reg.TRK_GATE1, 31, 16⟩
abbrev Fld.TRK_GATE1_R_GX : Fld := ⟨Reg.TRK_GATE1_R, 15, 0⟩
abbrev Fld.TRK_GATE1_R_GY : Fld := ⟨Reg.TRK_GATE1_R, 31, 16⟩
abbrev Fld.TRK_GATE_GX : Fld := ⟨Reg.TRK_GATE, 15, 0⟩
abbrev Fld.TRK_GATE_GY : Fld := ⟨Reg.TRK_GATE, 31, 16⟩
abbrev Fld.TRK_GATE_R_GX : Fld := ⟨Reg.TRK_GATE_R, 15, 0⟩
abbrev Fld.TRK_GATE_R_GY : Fld := ⟨Reg.TRK_GATE_R, 31, 16⟩
abbrev Fld.TRK_GATEC_GX : Fld := ⟨Reg.TRK_GATEC, 15, 0⟩
abbrev Fld.TRK_GATEC_GY : Fld := ⟨Reg.TRK_GATEC, 31, 16⟩
abbrev Fld.TRK_GATEC_R_GX : Fld := ⟨Reg.TRK_GATEC_R, 15, 0⟩
abbrev Fld.TRK_GATEC_R_GY : Fld := ⟨Reg.TRK_GATEC_R, 31, 16⟩
abbrev Fld.TRK_GAIN_ALPHA (n : Nat) : Fld := ⟨Reg.TRK_GAIN n, 9, 0⟩
abbrev Fld.TRK_GAIN_BETA (n : Nat) : Fld := ⟨Reg.TRK_GAIN n, 19, 10⟩
abbrev Fld.TRK_GAIN_GAMMA (n : Nat) : Fld := ⟨Reg.TRK_GAIN n, 29, 20⟩
abbrev Fld.TRK_FUSE_RULES (n : Nat) : Fld := ⟨Reg.TRK_FUSE n, 31, 0⟩
abbrev Fld.TRK_CAM_XOFS_OFS (n : Nat) : Fld := ⟨Reg.TRK_CAM_XOFS n, 23, 0⟩
abbrev Fld.TRK_CAM_YOFS_OFS (n : Nat) : Fld := ⟨Reg.TRK_CAM_YOFS n, 23, 0⟩
abbrev Fld.TRK_CAM_SCALE_XSCALE (n : Nat) : Fld := ⟨Reg.TRK_CAM_SCALE n, 15, 0⟩
abbrev Fld.TRK_CAM_SCALE_YSCALE (n : Nat) : Fld := ⟨Reg.TRK_CAM_SCALE n, 31, 16⟩
abbrev Fld.TRK_CAM_SLOT_SLOT (n : Nat) : Fld := ⟨Reg.TRK_CAM_SLOT n, 2, 0⟩
abbrev Fld.TRK_LIVE_COUNT : Fld := ⟨Reg.TRK_LIVE, 18, 0⟩
abbrev Fld.TRK_LIVE_PEAK_COUNT : Fld := ⟨Reg.TRK_LIVE_PEAK, 18, 0⟩
abbrev Fld.TRK_NOCTX_COUNT : Fld := ⟨Reg.TRK_NOCTX, 31, 0⟩
abbrev Fld.TRK_AMBIG_COUNT : Fld := ⟨Reg.TRK_AMBIG, 31, 0⟩
abbrev Fld.TRK_ORPHAN_COUNT : Fld := ⟨Reg.TRK_ORPHAN, 31, 0⟩
abbrev Fld.TRK_POSTDEC_COUNT : Fld := ⟨Reg.TRK_POSTDEC, 31, 0⟩
abbrev Fld.TRK_BANK_STAT_LOST : Fld := ⟨Reg.TRK_BANK_STAT, 15, 0⟩
abbrev Fld.TRK_BANK_STAT_SPARE_ROLE : Fld := ⟨Reg.TRK_BANK_STAT, 20, 16⟩
abbrev Fld.TRK_BANK_STAT_COPYING : Fld := ⟨Reg.TRK_BANK_STAT, 21, 21⟩
abbrev Fld.HIF_TRK_CLR_SMALL : Fld := ⟨Reg.HIF_TRK_CLR, 0, 0⟩
abbrev Fld.HIF_TRK_CLR_SPLIT : Fld := ⟨Reg.HIF_TRK_CLR, 1, 1⟩
abbrev Fld.HIF_TRK_CLR_NOCTX : Fld := ⟨Reg.HIF_TRK_CLR, 2, 2⟩
abbrev Fld.HIF_TRK_CLR_AMBIG : Fld := ⟨Reg.HIF_TRK_CLR, 3, 3⟩
abbrev Fld.HIF_TRK_CLR_ORPHAN : Fld := ⟨Reg.HIF_TRK_CLR, 4, 4⟩
abbrev Fld.HIF_TRK_CLR_POSTDEC : Fld := ⟨Reg.HIF_TRK_CLR, 5, 5⟩
abbrev Fld.HIF_TRK_CLR_PEAK : Fld := ⟨Reg.HIF_TRK_CLR, 6, 6⟩
abbrev Fld.CLS_STAT_LOST : Fld := ⟨Reg.CLS_STAT, 3, 0⟩
abbrev Fld.CLS_STAT_SPARE_ROLE : Fld := ⟨Reg.CLS_STAT, 6, 4⟩
abbrev Fld.CLS_STAT_FOREST : Fld := ⟨Reg.CLS_STAT, 7, 7⟩
abbrev Fld.CLS_STAT_CAP : Fld := ⟨Reg.CLS_STAT, 22, 8⟩
abbrev Fld.CLS_FOREST_TREES : Fld := ⟨Reg.CLS_FOREST, 7, 0⟩
abbrev Fld.CLS_FOREST_FALLBACK : Fld := ⟨Reg.CLS_FOREST, 11, 8⟩
abbrev Fld.CLS_FOREST_NODES_M1 : Fld := ⟨Reg.CLS_FOREST, 31, 16⟩
abbrev Fld.CLS_FALLBACK_CNT_COUNT : Fld := ⟨Reg.CLS_FALLBACK_CNT, 31, 0⟩
abbrev Fld.CLS_CLASS_COUNT (n : Nat) : Fld := ⟨Reg.CLS_CLASS n, 31, 0⟩
abbrev Fld.EJ_CFG_FALL : Fld := ⟨Reg.EJ_CFG, 0, 0⟩
abbrev Fld.EJ_CFG_UNT_CLASS : Fld := ⟨Reg.EJ_CFG, 7, 4⟩
abbrev Fld.EJ_CFG_CLK_ACT : Fld := ⟨Reg.EJ_CFG, 9, 8⟩
abbrev Fld.EJ_CFG_HORIZON : Fld := ⟨Reg.EJ_CFG, 25, 16⟩
abbrev Fld.EJ_LEAD_MIN_LEAD : Fld := ⟨Reg.EJ_LEAD, 23, 0⟩
abbrev Fld.EJ_ROW_DIST_DIST (n : Nat) : Fld := ⟨Reg.EJ_ROW_DIST n, 31, 0⟩
abbrev Fld.EJ_ROW_CTL_EN (n : Nat) : Fld := ⟨Reg.EJ_ROW_CTL n, 0, 0⟩
abbrev Fld.EJ_ROW_CTL_SHIFT (n : Nat) : Fld := ⟨Reg.EJ_ROW_CTL n, 31, 8⟩
abbrev Fld.EJ_PW_BASE_VALUE : Fld := ⟨Reg.EJ_PW_BASE, 23, 0⟩
abbrev Fld.EJ_PW_FACTOR_VALUE : Fld := ⟨Reg.EJ_PW_FACTOR, 19, 0⟩
abbrev Fld.EJ_PW_MIN_VALUE : Fld := ⟨Reg.EJ_PW_MIN, 23, 0⟩
abbrev Fld.EJ_PW_MAX_VALUE : Fld := ⟨Reg.EJ_PW_MAX, 23, 0⟩
abbrev Fld.EJ_SPAN_MARGIN : Fld := ⟨Reg.EJ_SPAN, 15, 0⟩
abbrev Fld.EJ_STAT_PENDING : Fld := ⟨Reg.EJ_STAT, 18, 0⟩
abbrev Fld.EJ_STAT_MAP : Fld := ⟨Reg.EJ_STAT, 19, 19⟩
abbrev Fld.EJ_CONFLICT_COUNT : Fld := ⟨Reg.EJ_CONFLICT, 31, 0⟩
abbrev Fld.EJ_SUPPRESSED_COUNT : Fld := ⟨Reg.EJ_SUPPRESSED, 31, 0⟩
abbrev Fld.EJ_MERGED_COUNT : Fld := ⟨Reg.EJ_MERGED, 31, 0⟩
abbrev Fld.EJ_LATE_COUNT : Fld := ⟨Reg.EJ_LATE, 31, 0⟩
abbrev Fld.EJ_NOREACH_COUNT : Fld := ⟨Reg.EJ_NOREACH, 31, 0⟩
abbrev Fld.EJ_QFULL_COUNT : Fld := ⟨Reg.EJ_QFULL, 31, 0⟩
abbrev Fld.EJ_DUTY_COUNT : Fld := ⟨Reg.EJ_DUTY, 31, 0⟩
abbrev Fld.EJ_COALESCE_COUNT : Fld := ⟨Reg.EJ_COALESCE, 31, 0⟩
abbrev Fld.HIF_EJ_CLR_EJ : Fld := ⟨Reg.HIF_EJ_CLR, 7, 0⟩
abbrev Fld.HIF_EJ_CLR_FALLBACK : Fld := ⟨Reg.HIF_EJ_CLR, 8, 8⟩
abbrev Fld.HIF_EJ_CLR_CLASS : Fld := ⟨Reg.HIF_EJ_CLR, 9, 9⟩
abbrev Fld.WV_CFG_SWAP_TMO : Fld := ⟨Reg.WV_CFG, 15, 0⟩
abbrev Fld.WV_CFG_MISS_TOL : Fld := ⟨Reg.WV_CFG, 27, 16⟩
abbrev Fld.WV_SWAP_SWAP : Fld := ⟨Reg.WV_SWAP, 15, 0⟩
abbrev Fld.WV_SWAP_FORCE : Fld := ⟨Reg.WV_SWAP, 31, 16⟩
abbrev Fld.WV_DIR_PREP_PREP : Fld := ⟨Reg.WV_DIR_PREP, 15, 0⟩
abbrev Fld.WV_SPARE_ROLE16 : Fld := ⟨Reg.WV_SPARE, 4, 0⟩
abbrev Fld.WV_SPARE_ROLE17 : Fld := ⟨Reg.WV_SPARE, 12, 8⟩
abbrev Fld.WV_MISS_COUNT : Fld := ⟨Reg.WV_MISS, 31, 0⟩
abbrev Fld.WV_FORCED_COUNT : Fld := ⟨Reg.WV_FORCED, 31, 0⟩
abbrev Fld.WV_REPLAY_COUNT : Fld := ⟨Reg.WV_REPLAY, 31, 0⟩
abbrev Fld.WV_EVENTS_COUNT : Fld := ⟨Reg.WV_EVENTS, 31, 0⟩
abbrev Fld.WV_PIN_LVL_LO_LEVEL : Fld := ⟨Reg.WV_PIN_LVL_LO, 31, 0⟩
abbrev Fld.WV_PIN_LVL_HI_LEVEL : Fld := ⟨Reg.WV_PIN_LVL_HI, 31, 0⟩
abbrev Fld.WV_ROLE_STAT_STATE (n : Nat) : Fld := ⟨Reg.WV_ROLE_STAT n, 5, 0⟩
abbrev Fld.WV_ROLE_STAT_BANK (n : Nat) : Fld := ⟨Reg.WV_ROLE_STAT n, 6, 6⟩
abbrev Fld.WV_ROLE_STAT_HALTED (n : Nat) : Fld := ⟨Reg.WV_ROLE_STAT n, 7, 7⟩
abbrev Fld.WV_ROLE_STAT_STALL_TX (n : Nat) : Fld := ⟨Reg.WV_ROLE_STAT n, 8, 8⟩
abbrev Fld.WV_ROLE_STAT_STALL_RX (n : Nat) : Fld := ⟨Reg.WV_ROLE_STAT n, 9, 9⟩
abbrev Fld.WV_ROLE_STAT_SWAP_PEND (n : Nat) : Fld := ⟨Reg.WV_ROLE_STAT n, 10, 10⟩
abbrev Fld.WV_ROLE_STAT_SHIFT_BUSY (n : Nat) : Fld := ⟨Reg.WV_ROLE_STAT n, 11, 11⟩
abbrev Fld.WV_ROLE_STAT_NO_PROG (n : Nat) : Fld := ⟨Reg.WV_ROLE_STAT n, 12, 12⟩
abbrev Fld.WV_ROLE_STAT_PHYS (n : Nat) : Fld := ⟨Reg.WV_ROLE_STAT n, 20, 16⟩
abbrev Fld.WV_ROLE_STAT_TX_LVL (n : Nat) : Fld := ⟨Reg.WV_ROLE_STAT n, 30, 24⟩
abbrev Fld.WV_PORT_CFG_EN (n : Nat) : Fld := ⟨Reg.WV_PORT_CFG n, 0, 0⟩
abbrev Fld.WV_PORT_CFG_WIDTH (n : Nat) : Fld := ⟨Reg.WV_PORT_CFG n, 2, 1⟩
abbrev Fld.WV_PORT_CFG_INV (n : Nat) : Fld := ⟨Reg.WV_PORT_CFG n, 3, 3⟩
abbrev Fld.WV_PORT_CFG_LENGTH (n : Nat) : Fld := ⟨Reg.WV_PORT_CFG n, 12, 4⟩
abbrev Fld.WV_PORT_PREP_PREP (n : Nat) : Fld := ⟨Reg.WV_PORT_PREP n, 15, 0⟩
abbrev Fld.WV_DIR_EN (n : Nat) : Fld := ⟨Reg.WV_DIR n, 0, 0⟩
abbrev Fld.WV_DIR_ROLE (n : Nat) : Fld := ⟨Reg.WV_DIR n, 4, 1⟩
abbrev Fld.WV_DIR_LANE (n : Nat) : Fld := ⟨Reg.WV_DIR n, 7, 5⟩
abbrev Fld.WV_DIR_INV (n : Nat) : Fld := ⟨Reg.WV_DIR n, 8, 8⟩
abbrev Fld.WV_PIN_ROLE (n : Nat) : Fld := ⟨Reg.WV_PIN n, 4, 0⟩
abbrev Fld.WV_PIN_LANE (n : Nat) : Fld := ⟨Reg.WV_PIN n, 10, 8⟩
abbrev Fld.WV_PIN_SAFE (n : Nat) : Fld := ⟨Reg.WV_PIN n, 12, 12⟩
abbrev Fld.WV_PIN_OD (n : Nat) : Fld := ⟨Reg.WV_PIN n, 13, 13⟩
abbrev Fld.HIF_WV_CLR_MISS : Fld := ⟨Reg.HIF_WV_CLR, 0, 0⟩
abbrev Fld.HIF_WV_CLR_FORCED : Fld := ⟨Reg.HIF_WV_CLR, 1, 1⟩
abbrev Fld.HIF_WV_CLR_REPLAY : Fld := ⟨Reg.HIF_WV_CLR, 2, 2⟩
abbrev Fld.HIF_WV_CLR_EVENTS : Fld := ⟨Reg.HIF_WV_CLR, 3, 3⟩
abbrev Fld.TB_TIME_LO_TIME : Fld := ⟨Reg.TB_TIME_LO, 31, 0⟩
abbrev Fld.TB_TIME_HI_TIME : Fld := ⟨Reg.TB_TIME_HI, 31, 0⟩
abbrev Fld.TB_STAT_HELD : Fld := ⟨Reg.TB_STAT, 0, 0⟩
abbrev Fld.TB_STAT_STEPPED : Fld := ⟨Reg.TB_STAT, 1, 1⟩
abbrev Fld.TB_STAT_LOADED : Fld := ⟨Reg.TB_STAT, 2, 2⟩
abbrev Fld.TB_STEP_LO_STEP : Fld := ⟨Reg.TB_STEP_LO, 31, 0⟩
abbrev Fld.TB_STEP_HI_STEP : Fld := ⟨Reg.TB_STEP_HI, 31, 0⟩
abbrev Fld.TB_SYNC_VAL_LO_VAL : Fld := ⟨Reg.TB_SYNC_VAL_LO, 31, 0⟩
abbrev Fld.TB_SYNC_VAL_HI_VAL : Fld := ⟨Reg.TB_SYNC_VAL_HI, 31, 0⟩
abbrev Fld.TB_SYNC_CTL_ARM : Fld := ⟨Reg.TB_SYNC_CTL, 0, 0⟩
abbrev Fld.TB_SYNC_CTL_POL : Fld := ⟨Reg.TB_SYNC_CTL, 1, 1⟩
abbrev Fld.TB_SYNC_CTL_DISARM : Fld := ⟨Reg.TB_SYNC_CTL, 2, 2⟩
abbrev Fld.TB_SYNC_DELTA_LO_DELTA : Fld := ⟨Reg.TB_SYNC_DELTA_LO, 31, 0⟩
abbrev Fld.TB_SYNC_DELTA_HI_DELTA : Fld := ⟨Reg.TB_SYNC_DELTA_HI, 31, 0⟩
abbrev Fld.TB_SYNC_OUT_MODE : Fld := ⟨Reg.TB_SYNC_OUT, 1, 0⟩
abbrev Fld.TB_SYNC_OUT_CMP : Fld := ⟨Reg.TB_SYNC_OUT, 7, 4⟩
abbrev Fld.TB_SYNC_OUT_WIDTH : Fld := ⟨Reg.TB_SYNC_OUT, 23, 8⟩
abbrev Fld.TB_PTM_CTL_REQ : Fld := ⟨Reg.TB_PTM_CTL, 0, 0⟩
abbrev Fld.TB_PTM_CTL_AUTO : Fld := ⟨Reg.TB_PTM_CTL, 15, 8⟩
abbrev Fld.TB_PTM_SEQ_VALUE : Fld := ⟨Reg.TB_PTM_SEQ, 31, 0⟩
abbrev Fld.TB_PTM_DELAY_VALUE : Fld := ⟨Reg.TB_PTM_DELAY, 31, 0⟩
abbrev Fld.TB_PTM_LOCAL_LO_VALUE : Fld := ⟨Reg.TB_PTM_LOCAL_LO, 31, 0⟩
abbrev Fld.TB_PTM_LOCAL_HI_VALUE : Fld := ⟨Reg.TB_PTM_LOCAL_HI, 31, 0⟩
abbrev Fld.TB_PTM_MASTER_LO_VALUE : Fld := ⟨Reg.TB_PTM_MASTER_LO, 31, 0⟩
abbrev Fld.TB_PTM_MASTER_HI_VALUE : Fld := ⟨Reg.TB_PTM_MASTER_HI, 31, 0⟩
abbrev Fld.CMP_VAL_LO_VAL (n : Nat) : Fld := ⟨Reg.CMP_VAL_LO n, 31, 0⟩
abbrev Fld.CMP_VAL_HI_VAL (n : Nat) : Fld := ⟨Reg.CMP_VAL_HI n, 31, 0⟩
abbrev Fld.CMP_CTL_EN (n : Nat) : Fld := ⟨Reg.CMP_CTL n, 0, 0⟩
abbrev Fld.CMP_CTL_MODE (n : Nat) : Fld := ⟨Reg.CMP_CTL n, 1, 1⟩
abbrev Fld.CMP_CTL_IRQ (n : Nat) : Fld := ⟨Reg.CMP_CTL n, 2, 2⟩
abbrev Fld.CMP_CTL_WAKE (n : Nat) : Fld := ⟨Reg.CMP_CTL n, 3, 3⟩
abbrev Fld.CMP_CTL_ARMED (n : Nat) : Fld := ⟨Reg.CMP_CTL n, 8, 8⟩
abbrev Fld.CMP_CTL_SKIP (n : Nat) : Fld := ⟨Reg.CMP_CTL n, 31, 16⟩
abbrev Fld.CMP_PERIOD_PERIOD (n : Nat) : Fld := ⟨Reg.CMP_PERIOD n, 31, 0⟩
abbrev Fld.CMP_FIRED_FIRED : Fld := ⟨Reg.CMP_FIRED, 15, 0⟩
abbrev Fld.CAP_CTL_EN (n : Nat) : Fld := ⟨Reg.CAP_CTL n, 0, 0⟩
abbrev Fld.CAP_CTL_SRC (n : Nat) : Fld := ⟨Reg.CAP_CTL n, 7, 1⟩
abbrev Fld.CAP_STAT_LATCHED (n : Nat) : Fld := ⟨Reg.CAP_STAT n, 0, 0⟩
abbrev Fld.CAP_STAT_PEND (n : Nat) : Fld := ⟨Reg.CAP_STAT n, 1, 1⟩
abbrev Fld.CAP_STAT_HOLD (n : Nat) : Fld := ⟨Reg.CAP_STAT n, 2, 2⟩
abbrev Fld.CAP_STAT_RVALID (n : Nat) : Fld := ⟨Reg.CAP_STAT n, 3, 3⟩
abbrev Fld.CAP_STAT_FVALID (n : Nat) : Fld := ⟨Reg.CAP_STAT n, 4, 4⟩
abbrev Fld.CAP_STAT_RELEASE (n : Nat) : Fld := ⟨Reg.CAP_STAT n, 5, 5⟩
abbrev Fld.CAP_STAT_LOST_CLR (n : Nat) : Fld := ⟨Reg.CAP_STAT n, 6, 6⟩
abbrev Fld.CAP_STAT_LOST (n : Nat) : Fld := ⟨Reg.CAP_STAT n, 31, 16⟩
abbrev Fld.CAP_RISE_LO_TIME (n : Nat) : Fld := ⟨Reg.CAP_RISE_LO n, 31, 0⟩
abbrev Fld.CAP_RISE_HI_TIME (n : Nat) : Fld := ⟨Reg.CAP_RISE_HI n, 31, 0⟩
abbrev Fld.CAP_FALL_LO_TIME (n : Nat) : Fld := ⟨Reg.CAP_FALL_LO n, 31, 0⟩
abbrev Fld.CAP_FALL_HI_TIME (n : Nat) : Fld := ⟨Reg.CAP_FALL_HI n, 31, 0⟩
abbrev Fld.GC_CTL_EN (n : Nat) : Fld := ⟨Reg.GC_CTL n, 0, 0⟩
abbrev Fld.GC_CTL_LEVEL (n : Nat) : Fld := ⟨Reg.GC_CTL n, 1, 1⟩
abbrev Fld.GC_CTL_CLR (n : Nat) : Fld := ⟨Reg.GC_CTL n, 2, 2⟩
abbrev Fld.GC_CTL_HOLD (n : Nat) : Fld := ⟨Reg.GC_CTL n, 3, 3⟩
abbrev Fld.GC_CTL_SRC (n : Nat) : Fld := ⟨Reg.GC_CTL n, 10, 4⟩
abbrev Fld.GC_LO_COUNT (n : Nat) : Fld := ⟨Reg.GC_LO n, 31, 0⟩
abbrev Fld.GC_HI_COUNT (n : Nat) : Fld := ⟨Reg.GC_HI n, 31, 0⟩
abbrev Fld.HIF_READY_READY : Fld := ⟨Reg.HIF_READY, 0, 0⟩
abbrev Fld.HIF_READY_FULL : Fld := ⟨Reg.HIF_READY, 1, 1⟩
abbrev Fld.HIF_READY_START_MS : Fld := ⟨Reg.HIF_READY, 31, 16⟩
abbrev Fld.HIF_LINK_STAT_SPEED : Fld := ⟨Reg.HIF_LINK_STAT, 2, 0⟩
abbrev Fld.HIF_LINK_STAT_WIDTH : Fld := ⟨Reg.HIF_LINK_STAT, 6, 4⟩
abbrev Fld.HIF_LINK_STAT_REVERSED : Fld := ⟨Reg.HIF_LINK_STAT, 7, 7⟩
abbrev Fld.HIF_LINK_STAT_LANE_FAIL : Fld := ⟨Reg.HIF_LINK_STAT, 11, 8⟩
abbrev Fld.HIF_LINK_STAT_RETRAINS : Fld := ⟨Reg.HIF_LINK_STAT, 23, 16⟩
abbrev Fld.HIF_LINK_CFG_LANE_DIS : Fld := ⟨Reg.HIF_LINK_CFG, 3, 0⟩
abbrev Fld.HIF_LINK_CFG_RETRAIN : Fld := ⟨Reg.HIF_LINK_CFG, 8, 8⟩
abbrev Fld.HIF_LINK_CFG_FAIL_CLR : Fld := ⟨Reg.HIF_LINK_CFG, 9, 9⟩
abbrev Fld.HIF_LANE_ERR_LANE0 : Fld := ⟨Reg.HIF_LANE_ERR, 7, 0⟩
abbrev Fld.HIF_LANE_ERR_LANE1 : Fld := ⟨Reg.HIF_LANE_ERR, 15, 8⟩
abbrev Fld.HIF_LANE_ERR_LANE2 : Fld := ⟨Reg.HIF_LANE_ERR, 23, 16⟩
abbrev Fld.HIF_LANE_ERR_LANE3 : Fld := ⟨Reg.HIF_LANE_ERR, 31, 24⟩
abbrev Fld.HIF_RESET_STAT_FLR0 : Fld := ⟨Reg.HIF_RESET_STAT, 7, 0⟩
abbrev Fld.HIF_RESET_STAT_FLR1 : Fld := ⟨Reg.HIF_RESET_STAT, 15, 8⟩
abbrev Fld.HIF_RESET_STAT_BME_OFF : Fld := ⟨Reg.HIF_RESET_STAT, 23, 16⟩
abbrev Fld.HIF_RESET_STAT_LINK_RST : Fld := ⟨Reg.HIF_RESET_STAT, 31, 24⟩
abbrev Fld.HIF_NORING_DROP_DROP : Fld := ⟨Reg.HIF_NORING_DROP, 31, 0⟩
abbrev Fld.HIF_DMA_ERR_ERR : Fld := ⟨Reg.HIF_DMA_ERR, 31, 0⟩
abbrev Fld.HIF_PCIE_CLR_RESET : Fld := ⟨Reg.HIF_PCIE_CLR, 0, 0⟩
abbrev Fld.HIF_PCIE_CLR_NORING : Fld := ⟨Reg.HIF_PCIE_CLR, 1, 1⟩
abbrev Fld.HIF_PCIE_CLR_DMA_ERR : Fld := ⟨Reg.HIF_PCIE_CLR, 2, 2⟩
abbrev Fld.HIF_PCIE_CLR_LANE_ERR : Fld := ⟨Reg.HIF_PCIE_CLR, 3, 3⟩
abbrev Fld.RING_BASE_LO_BASE (n : Nat) : Fld := ⟨Reg.RING_BASE_LO n, 31, 0⟩
abbrev Fld.RING_BASE_HI_BASE (n : Nat) : Fld := ⟨Reg.RING_BASE_HI n, 31, 0⟩
abbrev Fld.RING_CFG_EN (n : Nat) : Fld := ⟨Reg.RING_CFG n, 0, 0⟩
abbrev Fld.RING_CFG_KIND (n : Nat) : Fld := ⟨Reg.RING_CFG n, 2, 1⟩
abbrev Fld.RING_CFG_ORDER (n : Nat) : Fld := ⟨Reg.RING_CFG n, 7, 4⟩
abbrev Fld.RING_CFG_CQ (n : Nat) : Fld := ⟨Reg.RING_CFG n, 12, 8⟩
abbrev Fld.RING_CFG_STREAM (n : Nat) : Fld := ⟨Reg.RING_CFG n, 15, 13⟩
abbrev Fld.RING_CFG_CAM (n : Nat) : Fld := ⟨Reg.RING_CFG n, 17, 16⟩
abbrev Fld.RING_CFG_VEC (n : Nat) : Fld := ⟨Reg.RING_CFG n, 23, 18⟩
abbrev Fld.RING_CFG_IRQ_EN (n : Nat) : Fld := ⟨Reg.RING_CFG n, 24, 24⟩
abbrev Fld.RING_MOD_COUNT (n : Nat) : Fld := ⟨Reg.RING_MOD n, 7, 0⟩
abbrev Fld.RING_MOD_TIME (n : Nat) : Fld := ⟨Reg.RING_MOD n, 31, 16⟩
abbrev Fld.RING_FLUSH_FLUSH (n : Nat) : Fld := ⟨Reg.RING_FLUSH n, 15, 0⟩
abbrev Fld.RING_PTR_DEV (n : Nat) : Fld := ⟨Reg.RING_PTR n, 15, 0⟩
abbrev Fld.RING_PTR_HOST (n : Nat) : Fld := ⟨Reg.RING_PTR n, 31, 16⟩
abbrev Fld.RING_STAT_ENABLED (n : Nat) : Fld := ⟨Reg.RING_STAT n, 0, 0⟩
abbrev Fld.RING_STAT_PHASE (n : Nat) : Fld := ⟨Reg.RING_STAT n, 1, 1⟩
abbrev Fld.RING_STAT_STOPPED (n : Nat) : Fld := ⟨Reg.RING_STAT n, 2, 2⟩
abbrev Fld.RING_STAT_HELD (n : Nat) : Fld := ⟨Reg.RING_STAT n, 3, 3⟩
abbrev Fld.RING_STAT_ERR (n : Nat) : Fld := ⟨Reg.RING_STAT n, 7, 4⟩
abbrev Fld.RING_STAT_FETCHED (n : Nat) : Fld := ⟨Reg.RING_STAT n, 15, 8⟩
abbrev Fld.RING_DROP_DROP (n : Nat) : Fld := ⟨Reg.RING_DROP n, 31, 0⟩
abbrev Fld.RING_DB_ERR_COUNT : Fld := ⟨Reg.RING_DB_ERR, 31, 0⟩
abbrev Fld.RING_ARCH_CFG_EN : Fld := ⟨Reg.RING_ARCH_CFG, 0, 0⟩
abbrev Fld.RING_ARCH_CFG_STREAMS : Fld := ⟨Reg.RING_ARCH_CFG, 14, 8⟩
abbrev Fld.RING_ARCH_CFG_REPORT : Fld := ⟨Reg.RING_ARCH_CFG, 23, 16⟩
abbrev Fld.RING_ARCH_CFG_FLUSH : Fld := ⟨Reg.RING_ARCH_CFG, 31, 24⟩
abbrev Fld.RING_ARCH_BASE_LO_BASE : Fld := ⟨Reg.RING_ARCH_BASE_LO, 31, 0⟩
abbrev Fld.RING_ARCH_BASE_HI_BASE : Fld := ⟨Reg.RING_ARCH_BASE_HI, 31, 0⟩
abbrev Fld.RING_ARCH_SIZE_SIZE : Fld := ⟨Reg.RING_ARCH_SIZE, 17, 0⟩
abbrev Fld.RING_ARCH_WPTR_LO_WPTR : Fld := ⟨Reg.RING_ARCH_WPTR_LO, 31, 0⟩
abbrev Fld.RING_ARCH_WPTR_HI_WPTR : Fld := ⟨Reg.RING_ARCH_WPTR_HI, 31, 0⟩
abbrev Fld.RING_ARCH_WRAPS_COUNT : Fld := ⟨Reg.RING_ARCH_WRAPS, 31, 0⟩
abbrev Fld.RING_ARCH_DROP_COUNT : Fld := ⟨Reg.RING_ARCH_DROP, 31, 0⟩
abbrev Fld.RING_CLR_CLR : Fld := ⟨Reg.RING_CLR, 31, 0⟩
abbrev Fld.RING_DROP_CLR_CLR : Fld := ⟨Reg.RING_DROP_CLR, 31, 0⟩
abbrev Fld.HIF_CROP_CFG_EN : Fld := ⟨Reg.HIF_CROP_CFG, 0, 0⟩
abbrev Fld.HIF_CROP_CFG_UNT : Fld := ⟨Reg.HIF_CROP_CFG, 1, 1⟩
abbrev Fld.HIF_CROP_CFG_TAP : Fld := ⟨Reg.HIF_CROP_CFG, 3, 2⟩
abbrev Fld.HIF_CROP_CFG_CAMS : Fld := ⟨Reg.HIF_CROP_CFG, 7, 4⟩
abbrev Fld.HIF_CROP_CFG_CLASSES : Fld := ⟨Reg.HIF_CROP_CFG, 31, 16⟩
abbrev Fld.HIF_CROP_SIZE_W : Fld := ⟨Reg.HIF_CROP_SIZE, 8, 0⟩
abbrev Fld.HIF_CROP_SIZE_H : Fld := ⟨Reg.HIF_CROP_SIZE, 24, 16⟩
abbrev Fld.MGMT_SQ_BASE_LO_BASE : Fld := ⟨Reg.MGMT_SQ_BASE_LO, 31, 0⟩
abbrev Fld.MGMT_SQ_BASE_HI_BASE : Fld := ⟨Reg.MGMT_SQ_BASE_HI, 31, 0⟩
abbrev Fld.MGMT_CQ_BASE_LO_BASE : Fld := ⟨Reg.MGMT_CQ_BASE_LO, 31, 0⟩
abbrev Fld.MGMT_CQ_BASE_HI_BASE : Fld := ⟨Reg.MGMT_CQ_BASE_HI, 31, 0⟩
abbrev Fld.MGMT_CFG_EN : Fld := ⟨Reg.MGMT_CFG, 0, 0⟩
abbrev Fld.MGMT_CFG_SQ_ORDER : Fld := ⟨Reg.MGMT_CFG, 7, 4⟩
abbrev Fld.MGMT_CFG_CQ_ORDER : Fld := ⟨Reg.MGMT_CFG, 11, 8⟩
abbrev Fld.MGMT_CFG_IRQ_EN : Fld := ⟨Reg.MGMT_CFG, 12, 12⟩
abbrev Fld.MGMT_MOD_COUNT : Fld := ⟨Reg.MGMT_MOD, 7, 0⟩
abbrev Fld.MGMT_MOD_TIME : Fld := ⟨Reg.MGMT_MOD, 31, 16⟩
abbrev Fld.MGMT_PTR_SQ_DEV : Fld := ⟨Reg.MGMT_PTR, 15, 0⟩
abbrev Fld.MGMT_PTR_CQ_DEV : Fld := ⟨Reg.MGMT_PTR, 31, 16⟩
abbrev Fld.MGMT_STAT_ENABLED : Fld := ⟨Reg.MGMT_STAT, 0, 0⟩
abbrev Fld.MGMT_STAT_PHASE : Fld := ⟨Reg.MGMT_STAT, 1, 1⟩
abbrev Fld.MGMT_STAT_STOPPED : Fld := ⟨Reg.MGMT_STAT, 2, 2⟩
abbrev Fld.MGMT_STAT_HELD : Fld := ⟨Reg.MGMT_STAT, 3, 3⟩
abbrev Fld.MGMT_STAT_ERR : Fld := ⟨Reg.MGMT_STAT, 7, 4⟩
abbrev Fld.MGMT_STAT_DB_ERR : Fld := ⟨Reg.MGMT_STAT, 15, 8⟩
abbrev Fld.MGMT_SQ_TAIL_PTR : Fld := ⟨Reg.MGMT_SQ_TAIL, 15, 0⟩
abbrev Fld.MGMT_CQ_HEAD_PTR : Fld := ⟨Reg.MGMT_CQ_HEAD, 15, 0⟩
abbrev Fld.ICX_HCLAIM_SRC : Fld := ⟨Reg.ICX_HCLAIM, 7, 0⟩
abbrev Fld.ICX_HFCLAIM_SRC : Fld := ⟨Reg.ICX_HFCLAIM, 7, 0⟩
abbrev Fld.ICX_HCOMPLETE_SRC : Fld := ⟨Reg.ICX_HCOMPLETE, 7, 0⟩
abbrev Fld.ICX_HFCOMPLETE_SRC : Fld := ⟨Reg.ICX_HFCOMPLETE, 7, 0⟩
abbrev Fld.ICX_HSTAT_ASSERTED : Fld := ⟨Reg.ICX_HSTAT, 0, 0⟩
abbrev Fld.ICX_HSTAT_FDEPTH : Fld := ⟨Reg.ICX_HSTAT, 3, 1⟩
abbrev Fld.ICX_HSTAT_ORDER_ERR : Fld := ⟨Reg.ICX_HSTAT, 4, 4⟩
abbrev Fld.ICX_HSTAT_FTOP : Fld := ⟨Reg.ICX_HSTAT, 15, 8⟩
abbrev Fld.ICX_HWIN_WIN : Fld := ⟨Reg.ICX_HWIN, 15, 0⟩
abbrev Fld.ICX_LOCK_GRANT : Fld := ⟨Reg.ICX_LOCK, 0, 0⟩
abbrev Fld.ICX_LOCK_RELEASE : Fld := ⟨Reg.ICX_LOCK, 1, 1⟩
abbrev Fld.ICX_LOCK_HOLDER : Fld := ⟨Reg.ICX_LOCK, 3, 2⟩
abbrev Fld.ICX_TRIG_POL : Fld := ⟨Reg.ICX_TRIG, 3, 0⟩
abbrev Fld.ICX_FMASK_BITS : Fld := ⟨Reg.ICX_FMASK, 16, 1⟩
abbrev Fld.ICX_FPEND_BITS : Fld := ⟨Reg.ICX_FPEND, 16, 1⟩
abbrev Fld.ICX_FHELD_BITS : Fld := ⟨Reg.ICX_FHELD, 16, 1⟩
abbrev Fld.ICX_MASK_BITS (n : Nat) : Fld := ⟨Reg.ICX_MASK n, 31, 0⟩
abbrev Fld.ICX_PEND_BITS (n : Nat) : Fld := ⟨Reg.ICX_PEND n, 31, 0⟩
abbrev Fld.ICX_HELD_BITS (n : Nat) : Fld := ⟨Reg.ICX_HELD n, 31, 0⟩
abbrev Fld.ICX_TGT_A0 (n : Nat) : Fld := ⟨Reg.ICX_TGT n, 0, 0⟩
abbrev Fld.ICX_TGT_B0 (n : Nat) : Fld := ⟨Reg.ICX_TGT n, 1, 1⟩
abbrev Fld.ICX_TGT_HOST0 (n : Nat) : Fld := ⟨Reg.ICX_TGT n, 2, 2⟩
abbrev Fld.ICX_TGT_A1 (n : Nat) : Fld := ⟨Reg.ICX_TGT n, 4, 4⟩
abbrev Fld.ICX_TGT_B1 (n : Nat) : Fld := ⟨Reg.ICX_TGT n, 5, 5⟩
abbrev Fld.ICX_TGT_HOST1 (n : Nat) : Fld := ⟨Reg.ICX_TGT n, 6, 6⟩
abbrev Fld.ICX_TGT_A2 (n : Nat) : Fld := ⟨Reg.ICX_TGT n, 8, 8⟩
abbrev Fld.ICX_TGT_B2 (n : Nat) : Fld := ⟨Reg.ICX_TGT n, 9, 9⟩
abbrev Fld.ICX_TGT_HOST2 (n : Nat) : Fld := ⟨Reg.ICX_TGT n, 10, 10⟩
abbrev Fld.ICX_TGT_A3 (n : Nat) : Fld := ⟨Reg.ICX_TGT n, 12, 12⟩
abbrev Fld.ICX_TGT_B3 (n : Nat) : Fld := ⟨Reg.ICX_TGT n, 13, 13⟩
abbrev Fld.ICX_TGT_HOST3 (n : Nat) : Fld := ⟨Reg.ICX_TGT n, 14, 14⟩
abbrev Fld.ICX_TGT_A4 (n : Nat) : Fld := ⟨Reg.ICX_TGT n, 16, 16⟩
abbrev Fld.ICX_TGT_B4 (n : Nat) : Fld := ⟨Reg.ICX_TGT n, 17, 17⟩
abbrev Fld.ICX_TGT_HOST4 (n : Nat) : Fld := ⟨Reg.ICX_TGT n, 18, 18⟩
abbrev Fld.ICX_TGT_A5 (n : Nat) : Fld := ⟨Reg.ICX_TGT n, 20, 20⟩
abbrev Fld.ICX_TGT_B5 (n : Nat) : Fld := ⟨Reg.ICX_TGT n, 21, 21⟩
abbrev Fld.ICX_TGT_HOST5 (n : Nat) : Fld := ⟨Reg.ICX_TGT n, 22, 22⟩
abbrev Fld.ICX_TGT_A6 (n : Nat) : Fld := ⟨Reg.ICX_TGT n, 24, 24⟩
abbrev Fld.ICX_TGT_B6 (n : Nat) : Fld := ⟨Reg.ICX_TGT n, 25, 25⟩
abbrev Fld.ICX_TGT_HOST6 (n : Nat) : Fld := ⟨Reg.ICX_TGT n, 26, 26⟩
abbrev Fld.ICX_TGT_A7 (n : Nat) : Fld := ⟨Reg.ICX_TGT n, 28, 28⟩
abbrev Fld.ICX_TGT_B7 (n : Nat) : Fld := ⟨Reg.ICX_TGT n, 29, 29⟩
abbrev Fld.ICX_TGT_HOST7 (n : Nat) : Fld := ⟨Reg.ICX_TGT n, 30, 30⟩
abbrev Fld.ICX_FTGT_A0 (n : Nat) : Fld := ⟨Reg.ICX_FTGT n, 0, 0⟩
abbrev Fld.ICX_FTGT_B0 (n : Nat) : Fld := ⟨Reg.ICX_FTGT n, 1, 1⟩
abbrev Fld.ICX_FTGT_HOST0 (n : Nat) : Fld := ⟨Reg.ICX_FTGT n, 2, 2⟩
abbrev Fld.ICX_FTGT_A1 (n : Nat) : Fld := ⟨Reg.ICX_FTGT n, 4, 4⟩
abbrev Fld.ICX_FTGT_B1 (n : Nat) : Fld := ⟨Reg.ICX_FTGT n, 5, 5⟩
abbrev Fld.ICX_FTGT_HOST1 (n : Nat) : Fld := ⟨Reg.ICX_FTGT n, 6, 6⟩
abbrev Fld.ICX_FTGT_A2 (n : Nat) : Fld := ⟨Reg.ICX_FTGT n, 8, 8⟩
abbrev Fld.ICX_FTGT_B2 (n : Nat) : Fld := ⟨Reg.ICX_FTGT n, 9, 9⟩
abbrev Fld.ICX_FTGT_HOST2 (n : Nat) : Fld := ⟨Reg.ICX_FTGT n, 10, 10⟩
abbrev Fld.ICX_FTGT_A3 (n : Nat) : Fld := ⟨Reg.ICX_FTGT n, 12, 12⟩
abbrev Fld.ICX_FTGT_B3 (n : Nat) : Fld := ⟨Reg.ICX_FTGT n, 13, 13⟩
abbrev Fld.ICX_FTGT_HOST3 (n : Nat) : Fld := ⟨Reg.ICX_FTGT n, 14, 14⟩
abbrev Fld.ICX_FTGT_A4 (n : Nat) : Fld := ⟨Reg.ICX_FTGT n, 16, 16⟩
abbrev Fld.ICX_FTGT_B4 (n : Nat) : Fld := ⟨Reg.ICX_FTGT n, 17, 17⟩
abbrev Fld.ICX_FTGT_HOST4 (n : Nat) : Fld := ⟨Reg.ICX_FTGT n, 18, 18⟩
abbrev Fld.ICX_FTGT_A5 (n : Nat) : Fld := ⟨Reg.ICX_FTGT n, 20, 20⟩
abbrev Fld.ICX_FTGT_B5 (n : Nat) : Fld := ⟨Reg.ICX_FTGT n, 21, 21⟩
abbrev Fld.ICX_FTGT_HOST5 (n : Nat) : Fld := ⟨Reg.ICX_FTGT n, 22, 22⟩
abbrev Fld.ICX_FTGT_A6 (n : Nat) : Fld := ⟨Reg.ICX_FTGT n, 24, 24⟩
abbrev Fld.ICX_FTGT_B6 (n : Nat) : Fld := ⟨Reg.ICX_FTGT n, 25, 25⟩
abbrev Fld.ICX_FTGT_HOST6 (n : Nat) : Fld := ⟨Reg.ICX_FTGT n, 26, 26⟩
abbrev Fld.ICX_FTGT_A7 (n : Nat) : Fld := ⟨Reg.ICX_FTGT n, 28, 28⟩
abbrev Fld.ICX_FTGT_B7 (n : Nat) : Fld := ⟨Reg.ICX_FTGT n, 29, 29⟩
abbrev Fld.ICX_FTGT_HOST7 (n : Nat) : Fld := ⟨Reg.ICX_FTGT n, 30, 30⟩
abbrev Fld.ICX_CNT_COUNT0 (n : Nat) : Fld := ⟨Reg.ICX_CNT n, 7, 0⟩
abbrev Fld.ICX_CNT_COUNT1 (n : Nat) : Fld := ⟨Reg.ICX_CNT n, 15, 8⟩
abbrev Fld.ICX_CNT_COUNT2 (n : Nat) : Fld := ⟨Reg.ICX_CNT n, 23, 16⟩
abbrev Fld.ICX_CNT_COUNT3 (n : Nat) : Fld := ⟨Reg.ICX_CNT n, 31, 24⟩
abbrev Fld.ICX_FCNT_COUNT0 (n : Nat) : Fld := ⟨Reg.ICX_FCNT n, 7, 0⟩
abbrev Fld.ICX_FCNT_COUNT1 (n : Nat) : Fld := ⟨Reg.ICX_FCNT n, 15, 8⟩
abbrev Fld.ICX_FCNT_COUNT2 (n : Nat) : Fld := ⟨Reg.ICX_FCNT n, 23, 16⟩
abbrev Fld.ICX_FCNT_COUNT3 (n : Nat) : Fld := ⟨Reg.ICX_FCNT n, 31, 24⟩
abbrev Fld.ICX_CNT_CLR_SRC : Fld := ⟨Reg.ICX_CNT_CLR, 7, 0⟩
abbrev Fld.ICX_CNT_CLR_FAST : Fld := ⟨Reg.ICX_CNT_CLR, 8, 8⟩
abbrev Fld.ICX_CNT_CLR_ALL : Fld := ⟨Reg.ICX_CNT_CLR, 9, 9⟩
abbrev Fld.ICX_ERR_BAD_CPL : Fld := ⟨Reg.ICX_ERR, 7, 0⟩
abbrev Fld.ICX_ERR_ORDER : Fld := ⟨Reg.ICX_ERR, 15, 8⟩
abbrev Fld.ICX_ERR_LOCK_TMO : Fld := ⟨Reg.ICX_ERR, 23, 16⟩
abbrev Fld.ICX_ERR_CLR : Fld := ⟨Reg.ICX_ERR, 31, 31⟩
abbrev Fld.PLL_STAT_LOCKED : Fld := ⟨Reg.PLL_STAT, 3, 0⟩
abbrev Fld.PLL_STAT_DRIVING : Fld := ⟨Reg.PLL_STAT, 7, 4⟩
abbrev Fld.PLL_STAT_REF_OK : Fld := ⟨Reg.PLL_STAT, 8, 8⟩
abbrev Fld.PLL_STAT_HOLDOVER : Fld := ⟨Reg.PLL_STAT, 9, 9⟩
abbrev Fld.PLL_STAT_DRIFTED : Fld := ⟨Reg.PLL_STAT, 10, 10⟩
abbrev Fld.PLL_STAT_STANDBY_OK : Fld := ⟨Reg.PLL_STAT, 11, 11⟩
abbrev Fld.PLL_ROLE_C : Fld := ⟨Reg.PLL_ROLE, 1, 0⟩
abbrev Fld.PLL_ROLE_X : Fld := ⟨Reg.PLL_ROLE, 3, 2⟩
abbrev Fld.PLL_ROLE_T : Fld := ⟨Reg.PLL_ROLE, 5, 4⟩
abbrev Fld.PLL_ROLE_STANDBY : Fld := ⟨Reg.PLL_ROLE, 7, 6⟩
abbrev Fld.PLL_ROLE_NO_STANDBY : Fld := ⟨Reg.PLL_ROLE, 8, 8⟩
abbrev Fld.PLL_ROLE_RETIRED : Fld := ⟨Reg.PLL_ROLE, 15, 12⟩
abbrev Fld.PLL_EPOCH_CX_EPOCH_LO : Fld := ⟨Reg.PLL_EPOCH_CX, 15, 0⟩
abbrev Fld.PLL_EPOCH_CX_EPOCH_HI : Fld := ⟨Reg.PLL_EPOCH_CX, 31, 16⟩
abbrev Fld.PLL_EPOCH_T_EPOCH_LO : Fld := ⟨Reg.PLL_EPOCH_T, 15, 0⟩
abbrev Fld.PLL_EPOCH_T_EPOCH_HI : Fld := ⟨Reg.PLL_EPOCH_T, 31, 16⟩
abbrev Fld.PLL_CTL_STANDBY_EN : Fld := ⟨Reg.PLL_CTL, 0, 0⟩
abbrev Fld.PLL_PHASE_OFS : Fld := ⟨Reg.PLL_PHASE, 15, 0⟩
abbrev Fld.PLL_LOSS_COUNT0 : Fld := ⟨Reg.PLL_LOSS, 7, 0⟩
abbrev Fld.PLL_LOSS_COUNT1 : Fld := ⟨Reg.PLL_LOSS, 15, 8⟩
abbrev Fld.PLL_LOSS_COUNT2 : Fld := ⟨Reg.PLL_LOSS, 23, 16⟩
abbrev Fld.PLL_LOSS_COUNT3 : Fld := ⟨Reg.PLL_LOSS, 31, 24⟩
abbrev Fld.PLL_REF_LOSS_COUNT : Fld := ⟨Reg.PLL_REF_LOSS, 15, 0⟩
abbrev Fld.PLL_HOLDOVER_VALUE : Fld := ⟨Reg.PLL_HOLDOVER, 31, 0⟩
abbrev Fld.PLL_EDGE_HELD_VALUE : Fld := ⟨Reg.PLL_EDGE_HELD, 31, 0⟩
abbrev Fld.PLL_CLR_LOSS : Fld := ⟨Reg.PLL_CLR, 0, 0⟩
abbrev Fld.PLL_CLR_REF_LOSS : Fld := ⟨Reg.PLL_CLR, 1, 1⟩
abbrev Fld.PLL_CLR_EDGE_HELD : Fld := ⟨Reg.PLL_CLR, 2, 2⟩
abbrev Fld.CAL_STAT_RUNNING : Fld := ⟨Reg.CAL_STAT, 7, 0⟩
abbrev Fld.CAL_STAT_POWERUP_DONE : Fld := ⟨Reg.CAL_STAT, 8, 8⟩
abbrev Fld.CAL_STAT_PRECOND : Fld := ⟨Reg.CAL_STAT, 9, 9⟩
abbrev Fld.CAL_STAT_SRC : Fld := ⟨Reg.CAL_STAT, 11, 10⟩
abbrev Fld.CAL_STAT_DRIFT_PAUSED : Fld := ⟨Reg.CAL_STAT, 12, 12⟩
abbrev Fld.CAL_CTL_DRIFT_EN : Fld := ⟨Reg.CAL_CTL, 0, 0⟩
abbrev Fld.CAL_CTL_AUTO_DEF : Fld := ⟨Reg.CAL_CTL, 1, 1⟩
abbrev Fld.CAL_CTL_DEF_TAP : Fld := ⟨Reg.CAL_CTL, 3, 2⟩
abbrev Fld.CAL_DARK_LIM_LO : Fld := ⟨Reg.CAL_DARK_LIM, 15, 0⟩
abbrev Fld.CAL_DARK_LIM_HI : Fld := ⟨Reg.CAL_DARK_LIM, 31, 16⟩
abbrev Fld.CAL_FF_LIM_LO : Fld := ⟨Reg.CAL_FF_LIM, 15, 0⟩
abbrev Fld.CAL_FF_LIM_HI : Fld := ⟨Reg.CAL_FF_LIM, 31, 16⟩
abbrev Fld.CAL_DEF_THR_HOT : Fld := ⟨Reg.CAL_DEF_THR, 15, 0⟩
abbrev Fld.CAL_DEF_THR_BLINK : Fld := ⟨Reg.CAL_DEF_THR, 31, 16⟩
abbrev Fld.CAL_IDX_INDEX : Fld := ⟨Reg.CAL_IDX, 18, 0⟩
abbrev Fld.CAL_IDX_ITEM : Fld := ⟨Reg.CAL_IDX, 26, 24⟩
abbrev Fld.CAL_IDX_ERR : Fld := ⟨Reg.CAL_IDX, 30, 30⟩
abbrev Fld.CAL_IDX_BUSY : Fld := ⟨Reg.CAL_IDX, 31, 31⟩
abbrev Fld.CAL_DATA_DATA : Fld := ⟨Reg.CAL_DATA, 31, 0⟩
abbrev Fld.CAL_SUSPECT_VALUE : Fld := ⟨Reg.CAL_SUSPECT, 31, 0⟩
abbrev Fld.CAL_FF_CLIP_VALUE : Fld := ⟨Reg.CAL_FF_CLIP, 31, 0⟩
abbrev Fld.CAL_DRIFT_CYCLE_VALUE : Fld := ⟨Reg.CAL_DRIFT_CYCLE, 31, 0⟩
abbrev Fld.CAL_DLIST_COUNT : Fld := ⟨Reg.CAL_DLIST, 8, 0⟩
abbrev Fld.CAL_DLIST_CLR : Fld := ⟨Reg.CAL_DLIST, 31, 31⟩
abbrev Fld.CAL_LAST_MS_DURATION : Fld := ⟨Reg.CAL_LAST_MS, 15, 0⟩
abbrev Fld.THM_STAT_COLD_LIMIT : Fld := ⟨Reg.THM_STAT, 0, 0⟩
abbrev Fld.THM_STAT_COLD_WARN : Fld := ⟨Reg.THM_STAT, 1, 1⟩
abbrev Fld.THM_STAT_HOT_WARN : Fld := ⟨Reg.THM_STAT, 2, 2⟩
abbrev Fld.THM_STAT_THROTTLE_REQ : Fld := ⟨Reg.THM_STAT, 3, 3⟩
abbrev Fld.THM_STAT_GRACE : Fld := ⟨Reg.THM_STAT, 4, 4⟩
abbrev Fld.THM_STAT_ENFORCED : Fld := ⟨Reg.THM_STAT, 5, 5⟩
abbrev Fld.THM_STAT_COLD_HOLD : Fld := ⟨Reg.THM_STAT, 6, 6⟩
abbrev Fld.THM_HYST_COLD_LIMIT : Fld := ⟨Reg.THM_HYST, 3, 0⟩
abbrev Fld.THM_HYST_COLD_WARN : Fld := ⟨Reg.THM_HYST, 7, 4⟩
abbrev Fld.THM_HYST_HOT_WARN : Fld := ⟨Reg.THM_HYST, 11, 8⟩
abbrev Fld.THM_GRACE_GRACE : Fld := ⟨Reg.THM_GRACE, 13, 0⟩
abbrev Fld.THM_SITE_TEMP (n : Nat) : Fld := ⟨Reg.THM_SITE n, 15, 0⟩
abbrev Fld.THM_SITE_DIFF (n : Nat) : Fld := ⟨Reg.THM_SITE n, 27, 16⟩
abbrev Fld.THM_SITE_RETIRED (n : Nat) : Fld := ⟨Reg.THM_SITE n, 28, 28⟩
abbrev Fld.THM_HOT_TEMP : Fld := ⟨Reg.THM_HOT, 15, 0⟩
abbrev Fld.THM_HOT_SITE : Fld := ⟨Reg.THM_HOT, 19, 16⟩
abbrev Fld.THM_COLD_TEMP : Fld := ⟨Reg.THM_COLD, 15, 0⟩
abbrev Fld.THM_COLD_SITE : Fld := ⟨Reg.THM_COLD, 19, 16⟩
abbrev Fld.THM_PEAK_TEMP : Fld := ⟨Reg.THM_PEAK, 15, 0⟩
abbrev Fld.THM_PEAK_CLR : Fld := ⟨Reg.THM_PEAK, 31, 31⟩
abbrev Fld.THM_SHUT_CAUSE : Fld := ⟨Reg.THM_SHUT, 1, 0⟩
abbrev Fld.THM_SHUT_NVM_CUT : Fld := ⟨Reg.THM_SHUT, 2, 2⟩
abbrev Fld.THM_SHUT_TEMP : Fld := ⟨Reg.THM_SHUT, 31, 16⟩
abbrev Fld.THM_NVM_Q_HELD : Fld := ⟨Reg.THM_NVM_Q, 6, 0⟩
abbrev Fld.THM_NVM_Q_LOST : Fld := ⟨Reg.THM_NVM_Q, 31, 16⟩
abbrev Fld.PWR_STATE_STATE : Fld := ⟨Reg.PWR_STATE, 1, 0⟩
abbrev Fld.PWR_STATE_PENDING : Fld := ⟨Reg.PWR_STATE, 2, 2⟩
abbrev Fld.PWR_WAKE_EN_TRIG : Fld := ⟨Reg.PWR_WAKE_EN, 3, 0⟩
abbrev Fld.PWR_WAKE_EN_PCIE : Fld := ⟨Reg.PWR_WAKE_EN, 4, 4⟩
abbrev Fld.PWR_WAKE_EN_I3C : Fld := ⟨Reg.PWR_WAKE_EN, 5, 5⟩
abbrev Fld.PWR_WAKE_EN_CMP : Fld := ⟨Reg.PWR_WAKE_EN, 6, 6⟩
abbrev Fld.PWR_WAKE_EN_AUTORUN : Fld := ⟨Reg.PWR_WAKE_EN, 8, 8⟩
abbrev Fld.PWR_WAKE_WAKE : Fld := ⟨Reg.PWR_WAKE, 0, 0⟩
abbrev Fld.PWR_WAKE_SRC_SRC : Fld := ⟨Reg.PWR_WAKE_SRC, 7, 0⟩
abbrev Fld.PWR_SLEEP_ABORT_COUNT : Fld := ⟨Reg.PWR_SLEEP_ABORT, 15, 0⟩
abbrev Fld.PWR_SLEEP_ABORT_CLR : Fld := ⟨Reg.PWR_SLEEP_ABORT, 31, 31⟩
abbrev Fld.SPR_CLASS_STOCK_STOCK (n : Nat) : Fld := ⟨Reg.SPR_CLASS_STOCK n, 15, 0⟩
abbrev Fld.SPR_CLASS_STOCK_RETIRED (n : Nat) : Fld := ⟨Reg.SPR_CLASS_STOCK n, 31, 16⟩
abbrev Fld.SPR_CLASS_USE_SUBST (n : Nat) : Fld := ⟨Reg.SPR_CLASS_USE n, 15, 0⟩
abbrev Fld.SPR_CLASS_USE_NOSPARE (n : Nat) : Fld := ⟨Reg.SPR_CLASS_USE n, 31, 16⟩
abbrev Fld.SPR_SCOPE_EMPTY_GROUPS : Fld := ⟨Reg.SPR_SCOPE_EMPTY, 7, 0⟩
abbrev Fld.SPR_SCOPE_EMPTY_BUNDLES : Fld := ⟨Reg.SPR_SCOPE_EMPTY, 15, 8⟩
abbrev Fld.SPR_SCOPE_EMPTY_MEMORIES : Fld := ⟨Reg.SPR_SCOPE_EMPTY, 31, 16⟩
abbrev Fld.SPR_ST_CFG_PERIOD : Fld := ⟨Reg.SPR_ST_CFG, 7, 0⟩
abbrev Fld.SPR_ST_CFG_EN : Fld := ⟨Reg.SPR_ST_CFG, 26, 16⟩
abbrev Fld.SPR_ST_STAT_VERDICT : Fld := ⟨Reg.SPR_ST_STAT, 1, 0⟩
abbrev Fld.SPR_ST_STAT_ACTIVE : Fld := ⟨Reg.SPR_ST_STAT, 2, 2⟩
abbrev Fld.SPR_ST_STAT_CLASS : Fld := ⟨Reg.SPR_ST_STAT, 7, 4⟩
abbrev Fld.SPR_ST_STAT_UNIT : Fld := ⟨Reg.SPR_ST_STAT, 23, 8⟩
abbrev Fld.SPR_ST_LAST_VERDICT : Fld := ⟨Reg.SPR_ST_LAST, 1, 0⟩
abbrev Fld.SPR_ST_LAST_ACTIVE : Fld := ⟨Reg.SPR_ST_LAST, 2, 2⟩
abbrev Fld.SPR_ST_LAST_CLASS : Fld := ⟨Reg.SPR_ST_LAST, 7, 4⟩
abbrev Fld.SPR_ST_LAST_UNIT : Fld := ⟨Reg.SPR_ST_LAST, 23, 8⟩
abbrev Fld.SPR_ST_DONE_COUNT : Fld := ⟨Reg.SPR_ST_DONE, 31, 0⟩
abbrev Fld.SPR_ST_SKIP_COUNT : Fld := ⟨Reg.SPR_ST_SKIP, 31, 0⟩
abbrev Fld.SPR_ST_FAIL_COUNT : Fld := ⟨Reg.SPR_ST_FAIL, 31, 0⟩
abbrev Fld.SPR_ST_INCOMPLETE_COUNT : Fld := ⟨Reg.SPR_ST_INCOMPLETE, 31, 0⟩
abbrev Fld.SPR_CLR_ST : Fld := ⟨Reg.SPR_CLR, 3, 0⟩
abbrev Fld.SPR_CLR_SUBST : Fld := ⟨Reg.SPR_CLR, 4, 4⟩
abbrev Fld.FLT_SRC_CFG_W (n : Nat) : Fld := ⟨Reg.FLT_SRC_CFG n, 23, 0⟩
abbrev Fld.FLT_SRC_CFG_N (n : Nat) : Fld := ⟨Reg.FLT_SRC_CFG n, 31, 24⟩
abbrev Fld.FLT_SRC_EVT_COUNT (n : Nat) : Fld := ⟨Reg.FLT_SRC_EVT n, 31, 0⟩
abbrev Fld.FLT_SRC_LAST_COUNT (n : Nat) : Fld := ⟨Reg.FLT_SRC_LAST n, 31, 0⟩
abbrev Fld.FLT_JSEQ_SEQ : Fld := ⟨Reg.FLT_JSEQ, 31, 0⟩
abbrev Fld.FLT_CLR_SRC : Fld := ⟨Reg.FLT_CLR, 14, 1⟩
abbrev Fld.BIST_STAT_QUICK : Fld := ⟨Reg.BIST_STAT, 0, 0⟩
abbrev Fld.BIST_STAT_DEV_FAIL : Fld := ⟨Reg.BIST_STAT, 1, 1⟩
abbrev Fld.BIST_STAT_AGE_OK : Fld := ⟨Reg.BIST_STAT, 2, 2⟩
abbrev Fld.BIST_STAT_FAIL : Fld := ⟨Reg.BIST_STAT, 24, 8⟩
abbrev Fld.BIST_CTL_SHUTDOWN : Fld := ⟨Reg.BIST_CTL, 15, 0⟩
abbrev Fld.BIST_CTL_FULL_NEXT : Fld := ⟨Reg.BIST_CTL, 16, 16⟩
abbrev Fld.BIST_PATTERNS_COUNT : Fld := ⟨Reg.BIST_PATTERNS, 23, 0⟩
abbrev Fld.BIST_MOULT_VERDICT : Fld := ⟨Reg.BIST_MOULT, 1, 0⟩
abbrev Fld.BIST_MOULT_CONSUMED : Fld := ⟨Reg.BIST_MOULT, 2, 2⟩
abbrev Fld.BIST_PATCNT_COUNT : Fld := ⟨Reg.BIST_PATCNT, 31, 0⟩
abbrev Fld.SEC_STAT_LIFECYCLE : Fld := ⟨Reg.SEC_STAT, 2, 0⟩
abbrev Fld.SEC_STAT_OWNER : Fld := ⟨Reg.SEC_STAT, 3, 3⟩
abbrev Fld.SEC_STAT_LOCKED : Fld := ⟨Reg.SEC_STAT, 4, 4⟩
abbrev Fld.SEC_STAT_TRIAL : Fld := ⟨Reg.SEC_STAT, 5, 5⟩
abbrev Fld.SEC_STAT_DIGEST_MATCH : Fld := ⟨Reg.SEC_STAT, 6, 6⟩
abbrev Fld.SEC_STAT_EXPECT_SET : Fld := ⟨Reg.SEC_STAT, 7, 7⟩
abbrev Fld.SEC_STAT_ALARM : Fld := ⟨Reg.SEC_STAT, 8, 8⟩
abbrev Fld.SEC_STAT_LEAD : Fld := ⟨Reg.SEC_STAT, 9, 9⟩
abbrev Fld.SEC_STAT_LEAD_BANK : Fld := ⟨Reg.SEC_STAT, 10, 10⟩
abbrev Fld.SEC_FW_STAT_BANK_A : Fld := ⟨Reg.SEC_FW_STAT, 2, 0⟩
abbrev Fld.SEC_FW_STAT_BANK_B : Fld := ⟨Reg.SEC_FW_STAT, 6, 4⟩
abbrev Fld.SEC_FW_STAT_REASON : Fld := ⟨Reg.SEC_FW_STAT, 11, 8⟩
abbrev Fld.SEC_FW_STAT_ROLLBACK : Fld := ⟨Reg.SEC_FW_STAT, 23, 16⟩
abbrev Fld.SEC_FW_VERA_VERSION : Fld := ⟨Reg.SEC_FW_VERA, 31, 0⟩
abbrev Fld.SEC_FW_VERB_VERSION : Fld := ⟨Reg.SEC_FW_VERB, 31, 0⟩
abbrev Fld.SEC_FW_CFG_TRIAL_S : Fld := ⟨Reg.SEC_FW_CFG, 15, 0⟩
abbrev Fld.SEC_FW_CFG_ACT_AT_START : Fld := ⟨Reg.SEC_FW_CFG, 16, 16⟩
abbrev Fld.SEC_TRIAL_LEFT_VALUE : Fld := ⟨Reg.SEC_TRIAL_LEFT, 31, 0⟩
abbrev Fld.SEC_ALARM_CNT_VALUE : Fld := ⟨Reg.SEC_ALARM_CNT, 31, 0⟩
abbrev Fld.SEC_I3C_REQ_VALUE : Fld := ⟨Reg.SEC_I3C_REQ, 31, 0⟩
abbrev Fld.ID_SERIAL_LO_SERIAL : Fld := ⟨Reg.ID_SERIAL_LO, 31, 0⟩
abbrev Fld.ID_SERIAL_HI_SERIAL : Fld := ⟨Reg.ID_SERIAL_HI, 31, 0⟩
abbrev Fld.ID_PART_VARIANT : Fld := ⟨Reg.ID_PART, 0, 0⟩
abbrev Fld.ID_PART_STEPPING : Fld := ⟨Reg.ID_PART, 15, 8⟩
abbrev Fld.NVM_STAT_BUSY : Fld := ⟨Reg.NVM_STAT, 0, 0⟩
abbrev Fld.NVM_STAT_REFUSED : Fld := ⟨Reg.NVM_STAT, 1, 1⟩
abbrev Fld.NVM_STAT_NO_RESERVE : Fld := ⟨Reg.NVM_STAT, 2, 2⟩
abbrev Fld.NVM_STAT_RESERVE : Fld := ⟨Reg.NVM_STAT, 14, 8⟩
abbrev Fld.NVM_WEAR_VALUE : Fld := ⟨Reg.NVM_WEAR, 31, 0⟩
abbrev Fld.NVM_ERR_VALUE : Fld := ⟨Reg.NVM_ERR, 31, 0⟩
abbrev Fld.NVM_JFREE_VALUE : Fld := ⟨Reg.NVM_JFREE, 31, 0⟩

/-- Registers of the block at 0x0, part 0. -/
def regRowsHif0 : List RegRow := [
  ⟨0x100, 1, 0x0, 1, 0x0, 0x1, 0x0, 0x0⟩, -- HIF_RUN (R52)
  ⟨0x104, 1, 0x0, 1, 0x0, 0x0, 0x0, 0x0⟩, -- HIF_STAT (R52)
  ⟨0x108, 1, 0x0, 1, 0x0, 0x0, 0x0, 0x0⟩, -- HIF_TICK_LO (R52)
  ⟨0x10c, 1, 0x0, 1, 0x0, 0x0, 0x0, 0x0⟩, -- HIF_TICK_HI (R52)
  ⟨0x110, 1, 0x0, 1, 0x0, 0x0, 0x0, 0x0⟩, -- HIF_EDGE_TIME_LO (R52)
  ⟨0x114, 1, 0x0, 1, 0x0, 0x0, 0x0, 0x0⟩, -- HIF_EDGE_TIME_HI (R52)
  ⟨0x118, 1, 0x0, 1, 0x0, 0x0, 0x0, 0x0⟩, -- HIF_GEN (R52)
  ⟨0x11c, 1, 0x0, 1, 0x0, 0x0, 0x0, 0x0⟩, -- HIF_CFG_TAG (R52)
  ⟨0x120, 1, 0x0, 1, 0x0, 0xffff, 0x0, 0x0⟩, -- HIF_HOST_TIMEOUT (R52)
  ⟨0x124, 1, 0x0, 1, 0x0, 0x13, 0x0, 0x0⟩, -- HIF_HOST_POLICY (R52)
  ⟨0x128, 1, 0x0, 1, 0x0, 0x0, 0x0, 0x0⟩, -- HIF_HOST_ALIVE (R52)
  ⟨0x12c, 1, 0x0, 1, 0x0, 0x0, 0x0, 0x0⟩, -- HIF_CPL_LATE (R52)
  ⟨0x130, 1, 0x0, 1, 0x0, 0x0, 0x0, 0x0⟩, -- HIF_TICK_EARLY (R52)
  ⟨0x134, 1, 0x0, 1, 0x0, 0x0, 0x0, 0x0⟩, -- HIF_WR_DISCARD (R52)
  ⟨0x138, 1, 0x0, 1, 0x0, 0x0, 0x0, 0x0⟩, -- HIF_CNT_CLR (R52)
  ⟨0x140, 1, 0x0, 1, 0x0, 0x0, 0x0, 0x7⟩, -- HIF_MODE (R76)
  ⟨0x144, 1, 0x0, 1, 0x0, 0x7, 0x0, 0x7⟩, -- HIF_MODE_INIT (R76)
  ⟨0x148, 1, 0x0, 1, 0x0, 0xffffffff, 0x0, 0x0⟩, -- HIF_TMIN_CFG (R76)
  ⟨0x14c, 1, 0x0, 1, 0x0, 0x0, 0x0, 0x0⟩, -- HIF_TMIN (R76)
  ⟨0x150, 1, 0x0, 1, 0x0, 0x0, 0x0, 0x0⟩, -- HIF_EXP_LIMIT (R76)
  ⟨0x154, 1, 0x0, 1, 0x0, 0x0, 0x0, 0x0⟩, -- HIF_OVL_SEG (R76)
  ⟨0x158, 1, 0x0, 1, 0x0, 0x0, 0x0, 0x0⟩, -- HIF_OVL_DEC (R76)
  ⟨0x15c, 1, 0x0, 1, 0x0, 0x0, 0x0, 0x0⟩, -- HIF_OVL_TICK (R76)
  ⟨0x160, 1, 0x0, 1, 0x0, 0x0, 0x0, 0x0⟩, -- HIF_OVL_CLR (R76)
  ⟨0x180, 1, 0x0, 1, 0x0, 0x0, 0x0, 0x0⟩, -- HIF_EXP_CLR (R130)
  ⟨0x184, 1, 0x0, 1, 0x0, 0x0, 0x0, 0x0⟩, -- HIF_RO_CLR (R156)
  ⟨0x188, 1, 0x0, 1, 0x0, 0x0, 0x0, 0x0⟩, -- HIF_CSX_CLR (R170)
  ⟨0x18c, 1, 0x0, 1, 0x0, 0x0, 0x0, 0x0⟩, -- HIF_PIPE_CLR (R207)
  ⟨0x190, 1, 0x0, 1, 0x0, 0x0, 0x0, 0x0⟩, -- HIF_TRK_CLR (R236)
  ⟨0x194, 1, 0x0, 1, 0x0, 0x0, 0x0, 0x0⟩, -- HIF_EJ_CLR (R264)
  ⟨0x198, 1, 0x0, 1, 0x0, 0x0, 0x0, 0x0⟩, -- HIF_WV_CLR (R294)
  ⟨0x0, 1, 0x0, 1, 0x0, 0x0, 0x0, 0x0⟩, -- HIF_READY (R337)
  ⟨0x4, 1, 0x0, 1, 0x0, 0x0, 0x0, 0x0⟩, -- HIF_LINK_STAT (R337)
  ⟨0x8, 1, 0x0, 1, 0x0, 0xf, 0x0, 0x0⟩, -- HIF_LINK_CFG (R337)
  ⟨0xc, 1, 0x0, 1, 0x0, 0x0, 0x0, 0x0⟩, -- HIF_LANE_ERR (R337)
  ⟨0x10, 1, 0x0, 1, 0x0, 0x0, 0x0, 0x0⟩, -- HIF_RESET_STAT (R337)
  ⟨0x14, 1, 0x0, 1, 0x0, 0x0, 0x0, 0x0⟩, -- HIF_NORING_DROP (R337)
  ⟨0x18, 1, 0x0, 1, 0x0, 0x0, 0x0, 0x0⟩, -- HIF_DMA_ERR (R337)
  ⟨0x1c, 1, 0x0, 1, 0x0, 0x0, 0x0, 0x0⟩, -- HIF_PCIE_CLR (R337)
  ⟨0x1a0, 1, 0x0, 1, 0x0, 0xffff00ff, 0x0, 0x10⟩ -- HIF_CROP_CFG (R380)
  ]

/-- Registers of the block at 0x0, part 1. -/
def regRowsHif1 : List RegRow := [
  ⟨0x1a4, 1, 0x0, 1, 0x0, 0x1ff01ff, 0x0, 0x400040⟩ -- HIF_CROP_SIZE (R380)
  ]

/-- Registers from 0x0 to 0x3ff. -/
def regRowsHif : List RegRow := regRowsHif0 ++ regRowsHif1

/-- Registers of the block at 0x400, part 0. -/
def regRowsTb0 : List RegRow := [
  ⟨0x400, 1, 0x0, 1, 0x0, 0x0, 0x0, 0x0⟩, -- TB_TIME_LO (R311)
  ⟨0x404, 1, 0x0, 1, 0x0, 0x0, 0x0, 0x0⟩, -- TB_TIME_HI (R311)
  ⟨0x408, 1, 0x0, 1, 0x0, 0x0, 0x6, 0x0⟩, -- TB_STAT (R311)
  ⟨0x410, 1, 0x0, 1, 0x0, 0x0, 0x0, 0x0⟩, -- TB_STEP_LO (R311)
  ⟨0x414, 1, 0x0, 1, 0x0, 0x0, 0x0, 0x0⟩, -- TB_STEP_HI (R311)
  ⟨0x420, 1, 0x0, 1, 0x0, 0xffffffff, 0x0, 0x0⟩, -- TB_SYNC_VAL_LO (R311)
  ⟨0x424, 1, 0x0, 1, 0x0, 0xffffffff, 0x0, 0x0⟩, -- TB_SYNC_VAL_HI (R311)
  ⟨0x428, 1, 0x0, 1, 0x0, 0x2, 0x0, 0x0⟩, -- TB_SYNC_CTL (R311)
  ⟨0x430, 1, 0x0, 1, 0x0, 0x0, 0x0, 0x0⟩, -- TB_SYNC_DELTA_LO (R311)
  ⟨0x434, 1, 0x0, 1, 0x0, 0x0, 0x0, 0x0⟩, -- TB_SYNC_DELTA_HI (R311)
  ⟨0x438, 1, 0x0, 1, 0x0, 0xfffff3, 0x0, 0x3e800⟩, -- TB_SYNC_OUT (R311)
  ⟨0x440, 1, 0x0, 1, 0x0, 0xff00, 0x0, 0x0⟩, -- TB_PTM_CTL (R311)
  ⟨0x444, 1, 0x0, 1, 0x0, 0x0, 0x0, 0x0⟩, -- TB_PTM_SEQ (R311)
  ⟨0x458, 1, 0x0, 1, 0x0, 0x0, 0x0, 0x0⟩, -- TB_PTM_DELAY (R311)
  ⟨0x448, 1, 0x0, 1, 0x0, 0x0, 0x0, 0x0⟩, -- TB_PTM_LOCAL_LO (R311)
  ⟨0x44c, 1, 0x0, 1, 0x0, 0x0, 0x0, 0x0⟩, -- TB_PTM_LOCAL_HI (R311)
  ⟨0x450, 1, 0x0, 1, 0x0, 0x0, 0x0, 0x0⟩, -- TB_PTM_MASTER_LO (R311)
  ⟨0x454, 1, 0x0, 1, 0x0, 0x0, 0x0, 0x0⟩, -- TB_PTM_MASTER_HI (R311)
  ⟨0x500, 16, 0x10, 1, 0x0, 0xffffffff, 0x0, 0x0⟩, -- CMP_VAL_LO (R311)
  ⟨0x504, 16, 0x10, 1, 0x0, 0xffffffff, 0x0, 0x0⟩, -- CMP_VAL_HI (R311)
  ⟨0x508, 16, 0x10, 1, 0x0, 0xf, 0x0, 0x0⟩, -- CMP_CTL (R311)
  ⟨0x50c, 16, 0x10, 1, 0x0, 0xffffffff, 0x0, 0x0⟩, -- CMP_PERIOD (R311)
  ⟨0x600, 1, 0x0, 1, 0x0, 0x0, 0xffff, 0x0⟩, -- CMP_FIRED (R311)
  ⟨0x700, 8, 0x20, 1, 0x0, 0xff, 0x0, 0x0⟩, -- CAP_CTL (R311)
  ⟨0x704, 8, 0x20, 1, 0x0, 0x0, 0x4, 0x0⟩, -- CAP_STAT (R311)
  ⟨0x708, 8, 0x20, 1, 0x0, 0x0, 0x0, 0x0⟩, -- CAP_RISE_LO (R311)
  ⟨0x70c, 8, 0x20, 1, 0x0, 0x0, 0x0, 0x0⟩, -- CAP_RISE_HI (R311)
  ⟨0x710, 8, 0x20, 1, 0x0, 0x0, 0x0, 0x0⟩, -- CAP_FALL_LO (R311)
  ⟨0x714, 8, 0x20, 1, 0x0, 0x0, 0x0, 0x0⟩, -- CAP_FALL_HI (R311)
  ⟨0x800, 8, 0x10, 1, 0x0, 0x7f3, 0x8, 0x0⟩, -- GC_CTL (R311)
  ⟨0x804, 8, 0x10, 1, 0x0, 0x0, 0x0, 0x0⟩, -- GC_LO (R311)
  ⟨0x808, 8, 0x10, 1, 0x0, 0x0, 0x0, 0x0⟩ -- GC_HI (R311)
  ]

/-- Registers from 0x400 to 0xfff. -/
def regRowsTb : List RegRow := regRowsTb0

/-- Registers of the block at 0x1000, part 0. -/
def regRowsExp0 : List RegRow := [
  ⟨0x1000, 1, 0x0, 1, 0x0, 0xff0f73, 0x0, 0x0⟩, -- EXP_TICK_SRC (R129)
  ⟨0x1004, 1, 0x0, 1, 0x0, 0xffffffff, 0x0, 0x0⟩, -- EXP_TICK_PERIOD (R129)
  ⟨0x1008, 1, 0x0, 1, 0x0, 0xffffffff, 0x0, 0x0⟩, -- EXP_TICK_START_LO (R129)
  ⟨0x100c, 1, 0x0, 1, 0x0, 0xffffffff, 0x0, 0x0⟩, -- EXP_TICK_START_HI (R129)
  ⟨0x1010, 1, 0x0, 1, 0x0, 0x0, 0x0, (20 + Config.trigLatOffset.val)⟩, -- EXP_TRIG_LAT (R129)
  ⟨0x1014, 1, 0x0, 1, 0x0, 0x0, 0x0, 0x0⟩, -- EXP_TRIG_LOST (R129)
  ⟨0x1018, 1, 0x0, 1, 0x0, 0xf, 0x0, 0x1⟩, -- EXP_SVC_TAPS (R129)
  ⟨0x1040, 4, 0x10, 1, 0x0, 0xffffffff, 0x0, 0x3e8⟩, -- EXP_TAP_OFS (R129)
  ⟨0x1044, 4, 0x10, 1, 0x0, 0xffffffff, 0x0, 0xfa⟩, -- EXP_TAP_DUR (R129)
  ⟨0x1048, 4, 0x10, 1, 0x0, 0xff0f, 0x0, 0x0⟩, -- EXP_TAP_SUB (R129)
  ⟨0x104c, 4, 0x10, 1, 0x0, 0xffffffff, 0x0, 0x0⟩, -- EXP_TAP_PITCH (R129)
  ⟨0x1080, 1, 0x0, 1, 0x0, 0xffffffff, 0x0, 0x8201000⟩, -- EXP_GOV_CFG (R129)
  ⟨0x1084, 1, 0x0, 1, 0x0, 0xffffffff, 0x0, 0xffff4000⟩, -- EXP_GOV_TARGET (R129)
  ⟨0x1088, 1, 0x0, 1, 0x0, 0xff, 0x0, 0xf3⟩, -- EXP_GOV_PCT (R129)
  ⟨0x1090, 4, 0x8, 1, 0x0, 0xffffffff, 0x0, 0xfa⟩, -- EXP_GOV_MIN (R129)
  ⟨0x1094, 4, 0x8, 1, 0x0, 0xffffffff, 0x0, 0x2710⟩, -- EXP_GOV_MAX (R129)
  ⟨0x10b0, 1, 0x0, 1, 0x0, 0x0, 0x0, 0x0⟩, -- EXP_GOV_STAT (R129)
  ⟨0x10c0, 1, 0x0, 1, 0x0, 0xff01, 0x0, 0x0⟩, -- EXP_STAT_CFG (R129)
  ⟨0x1400, 8, 0x10, 1, 0x0, 0x1ff0013, 0x0, 0x0⟩, -- FF_CFG (R129)
  ⟨0x1404, 8, 0x10, 1, 0x0, 0x3fff, 0x0, 0x0⟩, -- FF_LEAD (R129)
  ⟨0x1408, 8, 0x10, 1, 0x0, 0xfffff, 0x0, 0x0⟩, -- FF_DUTY (R129)
  ⟨0x1480, 1, 0x0, 1, 0x0, 0x0, 0x0, 0x0⟩, -- FF_SUPPR_CNT (R129)
  ⟨0x1484, 1, 0x0, 1, 0x0, 0x0, 0x0, 0x0⟩ -- FF_STAT (R129)
  ]

/-- Registers from 0x1000 to 0x17ff. -/
def regRowsExp : List RegRow := regRowsExp0

/-- Registers of the block at 0x1800, part 0. -/
def regRowsRo0 : List RegRow := [
  ⟨0x1f00, 1, 0x0, 1, 0x0, 0x0, 0x0, 0x40 + Config.variantBit⟩, -- RO_ARRAY_INFO (R102)
  ⟨0x1f04, 1, 0x0, 1, 0x0, 0x0, 0x0, 0x0⟩, -- RO_PIXSUP_STAT (R102)
  ⟨0x1f08, 1, 0x0, 1, 0x0, 0x0, 0x0, 0x0⟩, -- RO_PIXSUP_DROOP (R102)
  ⟨0x1f0c, 1, 0x0, 1, 0x0, 0x0, 0x0, Config.factDefectCount.toNat⟩, -- RO_FACT_DEFECTS (R102)
  ⟨0x1800, 1, 0x0, 1, 0x0, 0xffff000f, 0x0, 0x10001⟩, -- RO_WIN_CFG (R155)
  ⟨0x1810, 1, 0x0, 1, 0x0, 0x1ff01ff, 0x0, 0x1800000⟩, -- RO_RBAND (R155) [0]
  ⟨0x1814, 1, 0x0, 1, 0x0, 0x1ff01ff, 0x0, 0x0⟩, -- RO_RBAND (R155) [1]
  ⟨0x1818, 1, 0x0, 1, 0x0, 0x1ff01ff, 0x0, 0x0⟩, -- RO_RBAND (R155) [2]
  ⟨0x181c, 1, 0x0, 1, 0x0, 0x1ff01ff, 0x0, 0x0⟩, -- RO_RBAND (R155) [3]
  ⟨0x1820, 1, 0x0, 1, 0x0, 0xff007f, 0x0, 0x800000⟩, -- RO_CBAND (R155) [0]
  ⟨0x1824, 1, 0x0, 1, 0x0, 0xff007f, 0x0, 0x0⟩, -- RO_CBAND (R155) [1]
  ⟨0x1828, 1, 0x0, 1, 0x0, 0xff007f, 0x0, 0x0⟩, -- RO_CBAND (R155) [2]
  ⟨0x182c, 1, 0x0, 1, 0x0, 0xff007f, 0x0, 0x0⟩, -- RO_CBAND (R155) [3]
  ⟨0x1830, 1, 0x0, 1, 0x0, 0xff007f, 0x0, 0x0⟩, -- RO_CBAND (R155) [4]
  ⟨0x1834, 1, 0x0, 1, 0x0, 0xff007f, 0x0, 0x0⟩, -- RO_CBAND (R155) [5]
  ⟨0x1838, 1, 0x0, 1, 0x0, 0xff007f, 0x0, 0x0⟩, -- RO_CBAND (R155) [6]
  ⟨0x183c, 1, 0x0, 1, 0x0, 0xff007f, 0x0, 0x0⟩, -- RO_CBAND (R155) [7]
  ⟨0x1840, 1, 0x0, 1, 0x0, 0xff007f, 0x0, 0x0⟩, -- RO_CBAND (R155) [8]
  ⟨0x1844, 1, 0x0, 1, 0x0, 0xff007f, 0x0, 0x0⟩, -- RO_CBAND (R155) [9]
  ⟨0x1848, 1, 0x0, 1, 0x0, 0xff007f, 0x0, 0x0⟩, -- RO_CBAND (R155) [10]
  ⟨0x184c, 1, 0x0, 1, 0x0, 0xff007f, 0x0, 0x0⟩, -- RO_CBAND (R155) [11]
  ⟨0x1850, 1, 0x0, 1, 0x0, 0xff007f, 0x0, 0x0⟩, -- RO_CBAND (R155) [12]
  ⟨0x1854, 1, 0x0, 1, 0x0, 0xff007f, 0x0, 0x0⟩, -- RO_CBAND (R155) [13]
  ⟨0x1858, 1, 0x0, 1, 0x0, 0xff007f, 0x0, 0x0⟩, -- RO_CBAND (R155) [14]
  ⟨0x185c, 1, 0x0, 1, 0x0, 0xff007f, 0x0, 0x0⟩, -- RO_CBAND (R155) [15]
  ⟨0x1860, 1, 0x0, 1, 0x0, 0x7777, 0x0, 0x0⟩, -- RO_GAIN (R155)
  ⟨0x1864, 1, 0x0, 1, 0x0, 0xff, 0x0, 0x10⟩, -- RO_PED (R155)
  ⟨0x1868, 1, 0x0, 1, 0x0, 0x133, 0x0, 0x10⟩, -- RO_SVC (R155)
  ⟨0x1880, 1, 0x0, 1, 0x0, 0x0, 0x0, 0x0⟩, -- RO_SLOTS (R155)
  ⟨0x1884, 1, 0x0, 1, 0x0, 0x0, 0x0, 0x0⟩, -- RO_TRO (R155)
  ⟨0x1890, 1, 0x0, 1, 0x0, 0x0, 0x0, 0x0⟩, -- RO_AXLE_CRC (R155)
  ⟨0x1894, 1, 0x0, 1, 0x0, 0x0, 0x0, 0x0⟩, -- RO_OOR_CNT (R155)
  ⟨0x1898, 1, 0x0, 1, 0x0, 0x0, 0x0, 0x0⟩, -- RO_CONV_NOSPARE (R155)
  ⟨0x18a0, 4, 0x4, 1, 0x0, 0x0, 0x0, 0x0⟩ -- RO_GRP_LOST (R155)
  ]

/-- Registers from 0x1800 to 0x1fff. -/
def regRowsRo : List RegRow := regRowsRo0

/-- Registers of the block at 0x2000, part 0. -/
def regRowsCsx0 : List RegRow := [
  ⟨0x2000, 1, 0x0, 1, 0x0, 0x1fff000f, 0x0, 0x5dc0008⟩, -- CSX_LINK_CFG (R169)
  ⟨0x2004, 1, 0x0, 1, 0x0, 0x0, 0x0, 0x0⟩, -- CSX_LINK_STAT (R169)
  ⟨0x2008, 1, 0x0, 1, 0x0, 0x0, 0x0, 0x0⟩, -- CSX_ECC_CORR (R169)
  ⟨0x200c, 1, 0x0, 1, 0x0, 0x0, 0x0, 0x0⟩, -- CSX_ECC_UNCORR (R169)
  ⟨0x2010, 1, 0x0, 1, 0x0, 0x0, 0x0, 0x0⟩, -- CSX_CRC (R169)
  ⟨0x2014, 1, 0x0, 1, 0x0, 0x0, 0x0, 0x0⟩, -- CSX_DT_SKIP (R169)
  ⟨0x2040, 1, 0x0, 1, 0x0, 0x3fff, 0x0, 0x2b10⟩, -- CSX_CAM_CFG (R169) [0]
  ⟨0x2060, 1, 0x0, 1, 0x0, 0x3fff, 0x0, 0x2b20⟩, -- CSX_CAM_CFG (R169) [1]
  ⟨0x2080, 1, 0x0, 1, 0x0, 0x3fff, 0x0, 0x2b30⟩, -- CSX_CAM_CFG (R169) [2]
  ⟨0x2044, 3, 0x20, 1, 0x0, 0x1fff1fff, 0x0, 0x1000800⟩, -- CSX_CAM_SIZE (R169)
  ⟨0x2048, 3, 0x20, 1, 0x0, 0xffffffff, 0x0, 0x0⟩, -- CSX_CAM_LAT (R169)
  ⟨0x204c, 3, 0x20, 1, 0x0, 0x0, 0x0, 0x0⟩, -- CSX_CAM_FS_LO (R169)
  ⟨0x2050, 3, 0x20, 1, 0x0, 0x0, 0x0, 0x0⟩, -- CSX_CAM_FS_HI (R169)
  ⟨0x2054, 3, 0x20, 1, 0x0, 0x0, 0x0, 0x0⟩, -- CSX_CAM_ERR (R169)
  ⟨0x2058, 1, 0x0, 1, 0x0, 0x0, 0x0, 0x1⟩, -- CSX_CAM_STAT (R169) [0]
  ⟨0x2078, 1, 0x0, 1, 0x0, 0x0, 0x0, 0x2⟩, -- CSX_CAM_STAT (R169) [1]
  ⟨0x2098, 1, 0x0, 1, 0x0, 0x0, 0x0, 0x3⟩, -- CSX_CAM_STAT (R169) [2]
  ⟨0x2100, 4, 0x10, 1, 0x0, 0xfff7, 0x0, 0x0⟩, -- CSX_TO_CFG (R169)
  ⟨0x2104, 4, 0x10, 1, 0x0, 0xffffff, 0x0, 0x0⟩, -- CSX_TO_OFS (R169)
  ⟨0x2108, 4, 0x10, 1, 0x0, 0xffffff, 0x0, 0x3e8⟩ -- CSX_TO_WIDTH (R169)
  ]

/-- Registers from 0x2000 to 0x23ff. -/
def regRowsCsx : List RegRow := regRowsCsx0

/-- Registers of the block at 0x2400, part 0. -/
def regRowsPipe0 : List RegRow := [
  ⟨0x2400, 1, 0x0, 1, 0x0, 0x12f + Config.dmEn * 0x10, 0x0, 0x27 + Config.dmEn * 0x10⟩, -- PIPE_CAM_CTRL (R206) [0]
  ⟨0x2500, 1, 0x0, 1, 0x0, 0x12f, 0x0, 0x27⟩, -- PIPE_CAM_CTRL (R206) [1]
  ⟨0x2600, 1, 0x0, 1, 0x0, 0x12f, 0x0, 0x27⟩, -- PIPE_CAM_CTRL (R206) [2]
  ⟨0x2700, 1, 0x0, 1, 0x0, 0x12f, 0x0, 0x27⟩, -- PIPE_CAM_CTRL (R206) [3]
  ⟨0x2404, 4, 0x100, 1, 0x0, 0xfff, 0x0, 0x480⟩, -- PIPE_CAM_NR (R206)
  ⟨0x2408, 4, 0x100, 1, 0x0, 0xffffffff, 0x0, 0x10001040⟩, -- PIPE_CAM_TNR (R206)
  ⟨0x240c, 4, 0x100, 1, 0x0, 0xffffffff, 0x0, 0x8000800⟩, -- PIPE_CAM_TTHR01 (R206)
  ⟨0x2410, 4, 0x100, 1, 0x0, 0xffffffff, 0x0, 0x8000800⟩, -- PIPE_CAM_TTHR23 (R206)
  ⟨0x2414, 4, 0x100, 1, 0x0, 0xf, 0x0, 0x4⟩, -- PIPE_CAM_DM (R206)
  ⟨0x2418, 1, 0x100, 1, 0x0, 0x7ffff, 0x0, 0x2c000⟩, -- PIPE_CAM_HDR (R206)
  ⟨0x251c, 3, 0x100, 1, 0x0, 0x3fff, 0x0, 0x0⟩, -- PIPE_CAM_BLACK (R206)
  ⟨0x2420, 1, 0x0, 1, 0x0, 0xffffffff, 0x0, 0x1000⟩, -- PIPE_CAM_CCM (R206) [0, 0]
  ⟨0x2424, 1, 0x0, 1, 0x0, 0xffffffff, 0x0, 0x0⟩, -- PIPE_CAM_CCM (R206) [0, 1]
  ⟨0x2428, 1, 0x0, 1, 0x0, 0xffffffff, 0x0, 0x10000000⟩, -- PIPE_CAM_CCM (R206) [0, 2]
  ⟨0x242c, 1, 0x0, 1, 0x0, 0xffffffff, 0x0, 0x0⟩, -- PIPE_CAM_CCM (R206) [0, 3]
  ⟨0x2430, 1, 0x0, 1, 0x0, 0xffffffff, 0x0, 0x0⟩, -- PIPE_CAM_CCM (R206) [0, 4]
  ⟨0x2434, 1, 0x0, 1, 0x0, 0xffffffff, 0x0, 0x1000⟩, -- PIPE_CAM_CCM (R206) [0, 5]
  ⟨0x2438, 1, 0x0, 1, 0x0, 0xffffffff, 0x0, 0x0⟩, -- PIPE_CAM_CCM (R206) [0, 6]
  ⟨0x243c, 1, 0x0, 1, 0x0, 0xffffffff, 0x0, 0x10000000⟩, -- PIPE_CAM_CCM (R206) [0, 7]
  ⟨0x2520, 1, 0x0, 1, 0x0, 0xffffffff, 0x0, 0x1000⟩, -- PIPE_CAM_CCM (R206) [1, 0]
  ⟨0x2524, 1, 0x0, 1, 0x0, 0xffffffff, 0x0, 0x0⟩, -- PIPE_CAM_CCM (R206) [1, 1]
  ⟨0x2528, 1, 0x0, 1, 0x0, 0xffffffff, 0x0, 0x10000000⟩, -- PIPE_CAM_CCM (R206) [1, 2]
  ⟨0x252c, 1, 0x0, 1, 0x0, 0xffffffff, 0x0, 0x0⟩, -- PIPE_CAM_CCM (R206) [1, 3]
  ⟨0x2530, 1, 0x0, 1, 0x0, 0xffffffff, 0x0, 0x0⟩, -- PIPE_CAM_CCM (R206) [1, 4]
  ⟨0x2534, 1, 0x0, 1, 0x0, 0xffffffff, 0x0, 0x1000⟩, -- PIPE_CAM_CCM (R206) [1, 5]
  ⟨0x2538, 1, 0x0, 1, 0x0, 0xffffffff, 0x0, 0x0⟩, -- PIPE_CAM_CCM (R206) [1, 6]
  ⟨0x253c, 1, 0x0, 1, 0x0, 0xffffffff, 0x0, 0x10000000⟩, -- PIPE_CAM_CCM (R206) [1, 7]
  ⟨0x2620, 1, 0x0, 1, 0x0, 0xffffffff, 0x0, 0x1000⟩, -- PIPE_CAM_CCM (R206) [2, 0]
  ⟨0x2624, 1, 0x0, 1, 0x0, 0xffffffff, 0x0, 0x0⟩, -- PIPE_CAM_CCM (R206) [2, 1]
  ⟨0x2628, 1, 0x0, 1, 0x0, 0xffffffff, 0x0, 0x10000000⟩, -- PIPE_CAM_CCM (R206) [2, 2]
  ⟨0x262c, 1, 0x0, 1, 0x0, 0xffffffff, 0x0, 0x0⟩, -- PIPE_CAM_CCM (R206) [2, 3]
  ⟨0x2630, 1, 0x0, 1, 0x0, 0xffffffff, 0x0, 0x0⟩, -- PIPE_CAM_CCM (R206) [2, 4]
  ⟨0x2634, 1, 0x0, 1, 0x0, 0xffffffff, 0x0, 0x1000⟩, -- PIPE_CAM_CCM (R206) [2, 5]
  ⟨0x2638, 1, 0x0, 1, 0x0, 0xffffffff, 0x0, 0x0⟩, -- PIPE_CAM_CCM (R206) [2, 6]
  ⟨0x263c, 1, 0x0, 1, 0x0, 0xffffffff, 0x0, 0x10000000⟩, -- PIPE_CAM_CCM (R206) [2, 7]
  ⟨0x2720, 1, 0x0, 1, 0x0, 0xffffffff, 0x0, 0x1000⟩, -- PIPE_CAM_CCM (R206) [3, 0]
  ⟨0x2724, 1, 0x0, 1, 0x0, 0xffffffff, 0x0, 0x0⟩, -- PIPE_CAM_CCM (R206) [3, 1]
  ⟨0x2728, 1, 0x0, 1, 0x0, 0xffffffff, 0x0, 0x10000000⟩, -- PIPE_CAM_CCM (R206) [3, 2]
  ⟨0x272c, 1, 0x0, 1, 0x0, 0xffffffff, 0x0, 0x0⟩, -- PIPE_CAM_CCM (R206) [3, 3]
  ⟨0x2730, 1, 0x0, 1, 0x0, 0xffffffff, 0x0, 0x0⟩ -- PIPE_CAM_CCM (R206) [3, 4]
  ]

/-- Registers of the block at 0x2400, part 1. -/
def regRowsPipe1 : List RegRow := [
  ⟨0x2734, 1, 0x0, 1, 0x0, 0xffffffff, 0x0, 0x1000⟩, -- PIPE_CAM_CCM (R206) [3, 5]
  ⟨0x2738, 1, 0x0, 1, 0x0, 0xffffffff, 0x0, 0x0⟩, -- PIPE_CAM_CCM (R206) [3, 6]
  ⟨0x273c, 1, 0x0, 1, 0x0, 0xffffffff, 0x0, 0x10000000⟩, -- PIPE_CAM_CCM (R206) [3, 7]
  ⟨0x2440, 4, 0x100, 1, 0x0, 0xffffffff, 0x0, 0x0⟩, -- PIPE_CAM_CCO01 (R206)
  ⟨0x2444, 4, 0x100, 1, 0x0, 0xffffffff, 0x0, 0x0⟩, -- PIPE_CAM_CCO23 (R206)
  ⟨0x2450, 4, 0x100, 1, 0x0, 0xffff7, 0x0, 0x440⟩, -- PIPE_CAM_DSP (R206)
  ⟨0x2454, 4, 0x100, 1, 0x0, 0xffff7, 0x0, 0x440⟩, -- PIPE_CAM_COD (R206)
  ⟨0x2458, 4, 0x100, 1, 0x0, 0xff3f, 0x0, 0x4⟩, -- PIPE_CAM_MV (R206)
  ⟨0x245c, 4, 0x100, 1, 0x0, 0x1fff1fff, 0x0, 0x0⟩, -- PIPE_CAM_MV_ROWS (R206)
  ⟨0x2460, 4, 0x100, 1, 0x0, 0x0, 0x0, 0x0⟩, -- PIPE_CAM_TBL (R206)
  ⟨0x2c00, 1, 0x0, 1, 0x0, 0x0, 0x0, 0xf00⟩, -- PIPE_SLICE_STAT (R206)
  ⟨0x2c04, 1, 0x0, 1, 0x0, 0x0, 0x0, 0x0⟩, -- PIPE_INVALID_CNT (R206)
  ⟨0x2c08, 1, 0x0, 1, 0x0, 0x0, 0x0, 0x0⟩, -- PIPE_DSP_SKIP (R206)
  ⟨0x2c0c, 1, 0x0, 1, 0x0, 0x0, 0x0, 0x0⟩ -- PIPE_SHORT_BUF (R206)
  ]

/-- Registers from 0x2400 to 0x2fff. -/
def regRowsPipe : List RegRow := regRowsPipe0 ++ regRowsPipe1

/-- Registers of the block at 0x3000, part 0. -/
def regRowsSeg0 : List RegRow := [
  ⟨0x3000, 1, 0x0, 1, 0x0, 0x3f1fff, 0x0, 0x10004⟩, -- SEG_CFG (R235)
  ⟨0x3010, 4, 0x4, 1, 0x0, 0xfff0fff, 0x0, 0x800080⟩, -- SEG_THR (R235)
  ⟨0x3020, 1, 0x0, 1, 0x0, 0x3fff, 0x0, 0x100⟩, -- SEG_DARK (R235)
  ⟨0x3030, 1, 0x0, 1, 0x0, 0x0, 0x0, 0x0⟩, -- SEG_SMALL (R235)
  ⟨0x3034, 1, 0x0, 1, 0x0, 0x0, 0x0, 0x0⟩, -- SEG_SPLIT (R235)
  ⟨0x3400, 1, 0x0, 1, 0x0, 0x1ffff, 0x0, 0x204⟩, -- TRK_CFG (R235)
  ⟨0x3404, 1, 0x0, 1, 0x0, 0x733, 0x0, 0x0⟩, -- TRK_ACT (R235)
  ⟨0x3408, 1, 0x0, 1, 0x0, 0xffffffff, 0x0, 0x20000000⟩, -- TRK_VNOM (R235)
  ⟨0x340c, 1, 0x0, 1, 0x0, 0xffffff, 0x0, 0x0⟩, -- TRK_ANOM (R235)
  ⟨0x3410, 1, 0x0, 1, 0x0, 0xffffffff, 0x0, 0x4e2003e8⟩, -- TRK_DT (R235)
  ⟨0x3414, 1, 0x0, 1, 0x0, 0xffffffff, 0x0, 0xf4240⟩, -- TRK_LOOK (R235)
  ⟨0x3420, 1, 0x0, 1, 0x0, 0xffffffff, 0x0, 0x4000200⟩, -- TRK_GATE1 (R235)
  ⟨0x3424, 1, 0x0, 1, 0x0, 0xffffffff, 0x0, 0x8000100⟩, -- TRK_GATE1_R (R235)
  ⟨0x3428, 1, 0x0, 1, 0x0, 0xffffffff, 0x0, 0x1000100⟩, -- TRK_GATE (R235)
  ⟨0x342c, 1, 0x0, 1, 0x0, 0xffffffff, 0x0, 0x1000080⟩, -- TRK_GATE_R (R235)
  ⟨0x3430, 1, 0x0, 1, 0x0, 0xffffffff, 0x0, 0x2000200⟩, -- TRK_GATEC (R235)
  ⟨0x3434, 1, 0x0, 1, 0x0, 0xffffffff, 0x0, 0x0⟩, -- TRK_GATEC_R (R235)
  ⟨0x3440, 1, 0x0, 1, 0x0, 0x3fffffff, 0x0, 0x80200⟩, -- TRK_GAIN (R235) [0]
  ⟨0x3444, 1, 0x0, 1, 0x0, 0x3fffffff, 0x0, 0x40180⟩, -- TRK_GAIN (R235) [1]
  ⟨0x3448, 1, 0x0, 1, 0x0, 0x3fffffff, 0x0, 0x3028140⟩, -- TRK_GAIN (R235) [2]
  ⟨0x344c, 1, 0x0, 1, 0x0, 0x3fffffff, 0x0, 0x2018100⟩, -- TRK_GAIN (R235) [3]
  ⟨0x3450, 1, 0x0, 1, 0x0, 0x3fffffff, 0x0, 0x2018100⟩, -- TRK_GAIN (R235) [4]
  ⟨0x3454, 1, 0x0, 1, 0x0, 0x3fffffff, 0x0, 0x2018100⟩, -- TRK_GAIN (R235) [5]
  ⟨0x3458, 1, 0x0, 1, 0x0, 0x3fffffff, 0x0, 0x2018100⟩, -- TRK_GAIN (R235) [6]
  ⟨0x345c, 1, 0x0, 1, 0x0, 0x3fffffff, 0x0, 0x2018100⟩, -- TRK_GAIN (R235) [7]
  ⟨0x3460, 1, 0x0, 1, 0x0, 0x3fffffff, 0x0, 0x2018100⟩, -- TRK_GAIN (R235) [8]
  ⟨0x3464, 1, 0x0, 1, 0x0, 0x3fffffff, 0x0, 0x2018100⟩, -- TRK_GAIN (R235) [9]
  ⟨0x3468, 1, 0x0, 1, 0x0, 0x3fffffff, 0x0, 0x2018100⟩, -- TRK_GAIN (R235) [10]
  ⟨0x346c, 1, 0x0, 1, 0x0, 0x3fffffff, 0x0, 0x2018100⟩, -- TRK_GAIN (R235) [11]
  ⟨0x3470, 1, 0x0, 1, 0x0, 0x3fffffff, 0x0, 0x2018100⟩, -- TRK_GAIN (R235) [12]
  ⟨0x3474, 1, 0x0, 1, 0x0, 0x3fffffff, 0x0, 0x2018100⟩, -- TRK_GAIN (R235) [13]
  ⟨0x3478, 1, 0x0, 1, 0x0, 0x3fffffff, 0x0, 0x2018100⟩, -- TRK_GAIN (R235) [14]
  ⟨0x3480, 1, 0x0, 1, 0x0, 0xffffffff, 0x0, 0xffc00001⟩, -- TRK_FUSE (R235) [0]
  ⟨0x3484, 1, 0x0, 1, 0x0, 0xffffffff, 0x0, 0x55aa47ff⟩, -- TRK_FUSE (R235) [1]
  ⟨0x3488, 1, 0x0, 1, 0x0, 0xffffffff, 0x0, 0xffffffff⟩, -- TRK_FUSE (R235) [2]
  ⟨0x348c, 1, 0x0, 1, 0x0, 0xffffffff, 0x0, 0xffffffff⟩, -- TRK_FUSE (R235) [3]
  ⟨0x34c0, 3, 0x10, 1, 0x0, 0xffffff, 0x0, 0x0⟩, -- TRK_CAM_XOFS (R235)
  ⟨0x34c4, 3, 0x10, 1, 0x0, 0xffffff, 0x0, 0x0⟩, -- TRK_CAM_YOFS (R235)
  ⟨0x34c8, 3, 0x10, 1, 0x0, 0xffffffff, 0x0, 0x10001000⟩, -- TRK_CAM_SCALE (R235)
  ⟨0x34cc, 3, 0x10, 1, 0x0, 0x7, 0x0, 0x4⟩ -- TRK_CAM_SLOT (R235)
  ]

/-- Registers of the block at 0x3000, part 1. -/
def regRowsSeg1 : List RegRow := [
  ⟨0x3500, 1, 0x0, 1, 0x0, 0x0, 0x0, 0x0⟩, -- TRK_LIVE (R235)
  ⟨0x3504, 1, 0x0, 1, 0x0, 0x0, 0x0, 0x0⟩, -- TRK_LIVE_PEAK (R235)
  ⟨0x3508, 1, 0x0, 1, 0x0, 0x0, 0x0, 0x0⟩, -- TRK_NOCTX (R235)
  ⟨0x350c, 1, 0x0, 1, 0x0, 0x0, 0x0, 0x0⟩, -- TRK_AMBIG (R235)
  ⟨0x3510, 1, 0x0, 1, 0x0, 0x0, 0x0, 0x0⟩, -- TRK_ORPHAN (R235)
  ⟨0x3514, 1, 0x0, 1, 0x0, 0x0, 0x0, 0x0⟩, -- TRK_POSTDEC (R235)
  ⟨0x3518, 1, 0x0, 1, 0x0, 0x0, 0x0, 0x1f0000⟩, -- TRK_BANK_STAT (R235)
  ⟨0x3800, 1, 0x0, 1, 0x0, 0x0, 0x0, 0x70⟩, -- CLS_STAT (R263)
  ⟨0x3804, 1, 0x0, 1, 0x0, 0x0, 0x0, 0x0⟩, -- CLS_FOREST (R263)
  ⟨0x3808, 1, 0x0, 1, 0x0, 0x0, 0x0, 0x0⟩, -- CLS_FALLBACK_CNT (R263)
  ⟨0x3840, 16, 0x4, 1, 0x0, 0x0, 0x0, 0x0⟩, -- CLS_CLASS (R263)
  ⟨0x3900, 1, 0x0, 1, 0x0, 0x3ff03f1, 0x0, 0xc80000⟩, -- EJ_CFG (R263)
  ⟨0x3904, 1, 0x0, 1, 0x0, 0xffffff, 0x0, 0xc350⟩, -- EJ_LEAD (R263)
  ⟨0x3910, 2, 0x8, 1, 0x0, 0xffffffff, 0x0, 0x0⟩, -- EJ_ROW_DIST (R263)
  ⟨0x3914, 2, 0x8, 1, 0x0, 0xffffff01, 0x0, 0x0⟩, -- EJ_ROW_CTL (R263)
  ⟨0x3920, 1, 0x0, 1, 0x0, 0xffffff, 0x0, 0xf4240⟩, -- EJ_PW_BASE (R263)
  ⟨0x3924, 1, 0x0, 1, 0x0, 0xfffff, 0x0, 0x0⟩, -- EJ_PW_FACTOR (R263)
  ⟨0x3928, 1, 0x0, 1, 0x0, 0xffffff, 0x0, 0xf4240⟩, -- EJ_PW_MIN (R263)
  ⟨0x392c, 1, 0x0, 1, 0x0, 0xffffff, 0x0, 0x3d0900⟩, -- EJ_PW_MAX (R263)
  ⟨0x3930, 1, 0x0, 1, 0x0, 0xffff, 0x0, 0x100⟩, -- EJ_SPAN (R263)
  ⟨0x3940, 1, 0x0, 1, 0x0, 0x0, 0x0, 0x0⟩, -- EJ_STAT (R263)
  ⟨0x3950, 1, 0x0, 1, 0x0, 0x0, 0x0, 0x0⟩, -- EJ_CONFLICT (R263)
  ⟨0x3954, 1, 0x0, 1, 0x0, 0x0, 0x0, 0x0⟩, -- EJ_SUPPRESSED (R263)
  ⟨0x3958, 1, 0x0, 1, 0x0, 0x0, 0x0, 0x0⟩, -- EJ_MERGED (R263)
  ⟨0x395c, 1, 0x0, 1, 0x0, 0x0, 0x0, 0x0⟩, -- EJ_LATE (R263)
  ⟨0x3960, 1, 0x0, 1, 0x0, 0x0, 0x0, 0x0⟩, -- EJ_NOREACH (R263)
  ⟨0x3964, 1, 0x0, 1, 0x0, 0x0, 0x0, 0x0⟩, -- EJ_QFULL (R263)
  ⟨0x3968, 1, 0x0, 1, 0x0, 0x0, 0x0, 0x0⟩, -- EJ_DUTY (R263)
  ⟨0x396c, 1, 0x0, 1, 0x0, 0x0, 0x0, 0x0⟩ -- EJ_COALESCE (R263)
  ]

/-- Registers from 0x3000 to 0x3fff. -/
def regRowsSeg : List RegRow := regRowsSeg0 ++ regRowsSeg1

/-- Registers of the block at 0x4000, part 0. -/
def regRowsWv0 : List RegRow := [
  ⟨0x4000, 1, 0x0, 1, 0x0, 0xfffffff, 0x0, 0x640064⟩, -- WV_CFG (R293)
  ⟨0x4004, 1, 0x0, 1, 0x0, 0x0, 0x0, 0x0⟩, -- WV_SWAP (R293)
  ⟨0x4008, 1, 0x0, 1, 0x0, 0xffff, 0x0, 0x7d0⟩, -- WV_DIR_PREP (R293)
  ⟨0x400c, 1, 0x0, 1, 0x0, 0x0, 0x0, 0x1f1f⟩, -- WV_SPARE (R293)
  ⟨0x4010, 1, 0x0, 1, 0x0, 0x0, 0x0, 0x0⟩, -- WV_MISS (R293)
  ⟨0x4014, 1, 0x0, 1, 0x0, 0x0, 0x0, 0x0⟩, -- WV_FORCED (R293)
  ⟨0x4018, 1, 0x0, 1, 0x0, 0x0, 0x0, 0x0⟩, -- WV_REPLAY (R293)
  ⟨0x401c, 1, 0x0, 1, 0x0, 0x0, 0x0, 0x0⟩, -- WV_EVENTS (R293)
  ⟨0x4020, 1, 0x0, 1, 0x0, 0x0, 0x0, 0x0⟩, -- WV_PIN_LVL_LO (R293)
  ⟨0x4024, 1, 0x0, 1, 0x0, 0x0, 0x0, 0x0⟩, -- WV_PIN_LVL_HI (R293)
  ⟨0x4040, 1, 0x0, 1, 0x0, 0x0, 0x0, 0x1000⟩, -- WV_ROLE_STAT (R293) [0]
  ⟨0x4044, 1, 0x0, 1, 0x0, 0x0, 0x0, 0x11000⟩, -- WV_ROLE_STAT (R293) [1]
  ⟨0x4048, 1, 0x0, 1, 0x0, 0x0, 0x0, 0x21000⟩, -- WV_ROLE_STAT (R293) [2]
  ⟨0x404c, 1, 0x0, 1, 0x0, 0x0, 0x0, 0x31000⟩, -- WV_ROLE_STAT (R293) [3]
  ⟨0x4050, 1, 0x0, 1, 0x0, 0x0, 0x0, 0x41000⟩, -- WV_ROLE_STAT (R293) [4]
  ⟨0x4054, 1, 0x0, 1, 0x0, 0x0, 0x0, 0x51000⟩, -- WV_ROLE_STAT (R293) [5]
  ⟨0x4058, 1, 0x0, 1, 0x0, 0x0, 0x0, 0x61000⟩, -- WV_ROLE_STAT (R293) [6]
  ⟨0x405c, 1, 0x0, 1, 0x0, 0x0, 0x0, 0x71000⟩, -- WV_ROLE_STAT (R293) [7]
  ⟨0x4060, 1, 0x0, 1, 0x0, 0x0, 0x0, 0x81000⟩, -- WV_ROLE_STAT (R293) [8]
  ⟨0x4064, 1, 0x0, 1, 0x0, 0x0, 0x0, 0x91000⟩, -- WV_ROLE_STAT (R293) [9]
  ⟨0x4068, 1, 0x0, 1, 0x0, 0x0, 0x0, 0xa1000⟩, -- WV_ROLE_STAT (R293) [10]
  ⟨0x406c, 1, 0x0, 1, 0x0, 0x0, 0x0, 0xb1000⟩, -- WV_ROLE_STAT (R293) [11]
  ⟨0x4070, 1, 0x0, 1, 0x0, 0x0, 0x0, 0xc1000⟩, -- WV_ROLE_STAT (R293) [12]
  ⟨0x4074, 1, 0x0, 1, 0x0, 0x0, 0x0, 0xd1000⟩, -- WV_ROLE_STAT (R293) [13]
  ⟨0x4078, 1, 0x0, 1, 0x0, 0x0, 0x0, 0xe1000⟩, -- WV_ROLE_STAT (R293) [14]
  ⟨0x407c, 1, 0x0, 1, 0x0, 0x0, 0x0, 0xf1000⟩, -- WV_ROLE_STAT (R293) [15]
  ⟨0x4080, 16, 0x8, 1, 0x0, 0x1fff, 0x0, 0x1000⟩, -- WV_PORT_CFG (R293)
  ⟨0x4084, 16, 0x8, 1, 0x0, 0xffff, 0x0, 0xfa0⟩, -- WV_PORT_PREP (R293)
  ⟨0x4100, 48, 0x4, 1, 0x0, 0x1ff, 0x0, 0x0⟩, -- WV_DIR (R293)
  ⟨0x4200, 64, 0x4, 1, 0x0, 0x371f, 0x0, 0x1f⟩ -- WV_PIN (R293)
  ]

/-- Registers from 0x4000 to 0x4fff. -/
def regRowsWv : List RegRow := regRowsWv0

/-- Registers of the block at 0x5000, part 0. -/
def regRowsRing0 : List RegRow := [
  ⟨0x5000, 32, 0x40, 1, 0x0, 0xffffffc0, 0x0, 0x0⟩, -- RING_BASE_LO (R363)
  ⟨0x5004, 32, 0x40, 1, 0x0, 0xffffffff, 0x0, 0x0⟩, -- RING_BASE_HI (R363)
  ⟨0x5008, 32, 0x40, 1, 0x0, 0x1fffff7, 0x0, 0x0⟩, -- RING_CFG (R363)
  ⟨0x500c, 32, 0x40, 1, 0x0, 0xffff00ff, 0x0, 0x1⟩, -- RING_MOD (R363)
  ⟨0x5010, 32, 0x40, 1, 0x0, 0xffff, 0x0, 0x3e8⟩, -- RING_FLUSH (R363)
  ⟨0x5014, 32, 0x40, 1, 0x0, 0x0, 0x0, 0x0⟩, -- RING_PTR (R363)
  ⟨0x5018, 32, 0x40, 1, 0x0, 0x0, 0x0, 0x0⟩, -- RING_STAT (R363)
  ⟨0x501c, 32, 0x40, 1, 0x0, 0x0, 0x0, 0x0⟩, -- RING_DROP (R363)
  ⟨0x5800, 1, 0x0, 1, 0x0, 0x0, 0x0, 0x0⟩, -- RING_DB_ERR (R363)
  ⟨0x5804, 1, 0x0, 1, 0x0, 0xffff7f01, 0x0, 0xa000000⟩, -- RING_ARCH_CFG (R363)
  ⟨0x5808, 1, 0x0, 1, 0x0, 0xffe00000, 0x0, 0x0⟩, -- RING_ARCH_BASE_LO (R363)
  ⟨0x580c, 1, 0x0, 1, 0x0, 0xffffffff, 0x0, 0x0⟩, -- RING_ARCH_BASE_HI (R363)
  ⟨0x5810, 1, 0x0, 1, 0x0, 0x3ffff, 0x0, 0x0⟩, -- RING_ARCH_SIZE (R363)
  ⟨0x5814, 1, 0x0, 1, 0x0, 0x0, 0x0, 0x0⟩, -- RING_ARCH_WPTR_LO (R363)
  ⟨0x5818, 1, 0x0, 1, 0x0, 0x0, 0x0, 0x0⟩, -- RING_ARCH_WPTR_HI (R363)
  ⟨0x581c, 1, 0x0, 1, 0x0, 0x0, 0x0, 0x0⟩, -- RING_ARCH_WRAPS (R363)
  ⟨0x5820, 1, 0x0, 1, 0x0, 0x0, 0x0, 0x0⟩, -- RING_ARCH_DROP (R363)
  ⟨0x5824, 1, 0x0, 1, 0x0, 0x0, 0x0, 0x0⟩, -- RING_CLR (R363)
  ⟨0x5828, 1, 0x0, 1, 0x0, 0x0, 0x0, 0x0⟩ -- RING_DROP_CLR (R363)
  ]

/-- Registers from 0x5000 to 0x5fff. -/
def regRowsRing : List RegRow := regRowsRing0

/-- Registers of the block at 0x20000, part 0. -/
def regRowsMgmt0 : List RegRow := [
  ⟨0x20000, 1, 0x0, 1, 0x0, 0xffffffc0, 0x0, 0x0⟩, -- MGMT_SQ_BASE_LO (R389)
  ⟨0x20004, 1, 0x0, 1, 0x0, 0xffffffff, 0x0, 0x0⟩, -- MGMT_SQ_BASE_HI (R389)
  ⟨0x20008, 1, 0x0, 1, 0x0, 0xffffffc0, 0x0, 0x0⟩, -- MGMT_CQ_BASE_LO (R389)
  ⟨0x2000c, 1, 0x0, 1, 0x0, 0xffffffff, 0x0, 0x0⟩, -- MGMT_CQ_BASE_HI (R389)
  ⟨0x20010, 1, 0x0, 1, 0x0, 0x1ff1, 0x0, 0x0⟩, -- MGMT_CFG (R389)
  ⟨0x20014, 1, 0x0, 1, 0x0, 0xffff00ff, 0x0, 0x1⟩, -- MGMT_MOD (R389)
  ⟨0x20018, 1, 0x0, 1, 0x0, 0x0, 0x0, 0x0⟩, -- MGMT_PTR (R389)
  ⟨0x2001c, 1, 0x0, 1, 0x0, 0x0, 0x0, 0x0⟩, -- MGMT_STAT (R389)
  ⟨0x20040, 1, 0x0, 1, 0x0, 0xffff, 0x0, 0x0⟩, -- MGMT_SQ_TAIL (R389)
  ⟨0x20044, 1, 0x0, 1, 0x0, 0xffff, 0x0, 0x0⟩ -- MGMT_CQ_HEAD (R389)
  ]

/-- Registers from 0x20000 to 0x207ff. -/
def regRowsMgmt : List RegRow := regRowsMgmt0

/-- Registers of the block at 0x20800, part 0. -/
def regRowsIcx0 : List RegRow := [
  ⟨0x20800, 1, 0x0, 1, 0x0, 0x0, 0x0, 0x0⟩, -- ICX_HCLAIM (R406)
  ⟨0x20808, 1, 0x0, 1, 0x0, 0x0, 0x0, 0x0⟩, -- ICX_HFCLAIM (R406)
  ⟨0x20804, 1, 0x0, 1, 0x0, 0x0, 0x0, 0x0⟩, -- ICX_HCOMPLETE (R406)
  ⟨0x2080c, 1, 0x0, 1, 0x0, 0x0, 0x0, 0x0⟩, -- ICX_HFCOMPLETE (R406)
  ⟨0x20810, 1, 0x0, 1, 0x0, 0x0, 0x10, 0x0⟩, -- ICX_HSTAT (R406)
  ⟨0x20814, 1, 0x0, 1, 0x0, 0xffff, 0x0, 0x3e8⟩, -- ICX_HWIN (R406)
  ⟨0x20818, 1, 0x0, 1, 0x0, 0x0, 0x0, 0xc⟩, -- ICX_LOCK (R406)
  ⟨0x2081c, 1, 0x0, 1, 0x0, 0xf, 0x0, 0x0⟩, -- ICX_TRIG (R406)
  ⟨0x20820, 1, 0x0, 1, 0x0, 0x1fffe, 0x0, 0x0⟩, -- ICX_FMASK (R406)
  ⟨0x20824, 1, 0x0, 1, 0x0, 0x1fffe, 0x0, 0x0⟩, -- ICX_FPEND (R406)
  ⟨0x20828, 1, 0x0, 1, 0x0, 0x0, 0x0, 0x0⟩, -- ICX_FHELD (R406)
  ⟨0x20840, 8, 0x4, 1, 0x0, 0xffffffff, 0x0, 0x0⟩, -- ICX_MASK (R406)
  ⟨0x20860, 8, 0x4, 1, 0x0, 0xffffffff, 0x0, 0x0⟩, -- ICX_PEND (R406)
  ⟨0x20880, 8, 0x4, 1, 0x0, 0x0, 0x0, 0x0⟩, -- ICX_HELD (R406)
  ⟨0x20900, 32, 0x4, 1, 0x0, 0x44444444, 0x0, 0x0⟩, -- ICX_TGT (R406)
  ⟨0x20980, 2, 0x4, 1, 0x0, 0x44444444, 0x0, 0x0⟩, -- ICX_FTGT (R406)
  ⟨0x20a00, 64, 0x4, 1, 0x0, 0x0, 0x0, 0x0⟩, -- ICX_CNT (R406)
  ⟨0x20b00, 4, 0x4, 1, 0x0, 0x0, 0x0, 0x0⟩, -- ICX_FCNT (R406)
  ⟨0x20b20, 1, 0x0, 1, 0x0, 0x0, 0x0, 0x0⟩, -- ICX_CNT_CLR (R406)
  ⟨0x20b24, 1, 0x0, 1, 0x0, 0x0, 0x0, 0x0⟩ -- ICX_ERR (R406)
  ]

/-- Registers from 0x20800 to 0x20fff. -/
def regRowsIcx : List RegRow := regRowsIcx0

/-- Registers of the block at 0x21000, part 0. -/
def regRowsPll0 : List RegRow := [
  ⟨0x21000, 1, 0x0, 1, 0x0, 0x0, 0x400, 0x0⟩, -- PLL_STAT (R424)
  ⟨0x21004, 1, 0x0, 1, 0x0, 0x0, 0x0, 0xe4⟩, -- PLL_ROLE (R424)
  ⟨0x21008, 1, 0x0, 1, 0x0, 0x0, 0x0, 0x0⟩, -- PLL_EPOCH_CX (R424)
  ⟨0x2100c, 1, 0x0, 1, 0x0, 0x0, 0x0, 0x0⟩, -- PLL_EPOCH_T (R424)
  ⟨0x21010, 1, 0x0, 1, 0x0, 0x1, 0x0, 0x1⟩, -- PLL_CTL (R424)
  ⟨0x21014, 1, 0x0, 1, 0x0, 0x0, 0x0, Config.pllPhase.toNat⟩, -- PLL_PHASE (R424)
  ⟨0x21018, 1, 0x0, 1, 0x0, 0x0, 0x0, 0x0⟩, -- PLL_LOSS (R424)
  ⟨0x2101c, 1, 0x0, 1, 0x0, 0x0, 0x0, 0x0⟩, -- PLL_REF_LOSS (R424)
  ⟨0x21020, 1, 0x0, 1, 0x0, 0x0, 0x0, 0x0⟩, -- PLL_HOLDOVER (R424)
  ⟨0x21024, 1, 0x0, 1, 0x0, 0x0, 0x0, 0x0⟩, -- PLL_EDGE_HELD (R424)
  ⟨0x21028, 1, 0x0, 1, 0x0, 0x0, 0x0, 0x0⟩, -- PLL_CLR (R424)
  ⟨0x21400, 1, 0x0, 1, 0x0, 0x0, 0x0, 0x0⟩, -- CAL_STAT (R448)
  ⟨0x21404, 1, 0x0, 1, 0x0, 0xf, 0x0, 0x1⟩, -- CAL_CTL (R448)
  ⟨0x21408, 1, 0x0, 1, 0x0, 0xffffffff, 0x0, 0x40fff0⟩, -- CAL_DARK_LIM (R448)
  ⟨0x2140c, 1, 0x0, 1, 0x0, 0xffffffff, 0x0, 0xe0002000⟩, -- CAL_FF_LIM (R448)
  ⟨0x21410, 1, 0x0, 1, 0x0, 0xffffffff, 0x0, 0x2000400⟩, -- CAL_DEF_THR (R448)
  ⟨0x21420, 1, 0x0, 1, 0x0, 0x707ffff, 0x0, 0x0⟩, -- CAL_IDX (R448)
  ⟨0x21424, 1, 0x0, 1, 0x0, 0xffffffff, 0x0, 0x0⟩, -- CAL_DATA (R448)
  ⟨0x21428, 1, 0x0, 1, 0x0, 0x0, 0x0, 0x0⟩, -- CAL_SUSPECT (R448)
  ⟨0x2142c, 1, 0x0, 1, 0x0, 0x0, 0x0, 0x0⟩, -- CAL_FF_CLIP (R448)
  ⟨0x21430, 1, 0x0, 1, 0x0, 0x0, 0x0, 0x0⟩, -- CAL_DRIFT_CYCLE (R448)
  ⟨0x21434, 1, 0x0, 1, 0x0, 0x0, 0x0, 0x0⟩, -- CAL_DLIST (R448)
  ⟨0x21438, 1, 0x0, 1, 0x0, 0x0, 0x0, 0x0⟩ -- CAL_LAST_MS (R448)
  ]

/-- Registers from 0x21000 to 0x217ff. -/
def regRowsPll : List RegRow := regRowsPll0

/-- Registers of the block at 0x21800, part 0. -/
def regRowsThm0 : List RegRow := [
  ⟨0x21800, 1, 0x0, 1, 0x0, 0x0, 0x0, 0x0⟩, -- THM_STAT (R471)
  ⟨0x21804, 1, 0x0, 1, 0x0, 0xfff, 0x0, 0x333⟩, -- THM_HYST (R471)
  ⟨0x21808, 1, 0x0, 1, 0x0, 0x3fff, 0x0, 0x1f4⟩, -- THM_GRACE (R471)
  ⟨0x21820, 12, 0x4, 1, 0x0, 0x0, 0x0, 0x0⟩, -- THM_SITE (R471)
  ⟨0x21850, 1, 0x0, 1, 0x0, 0x0, 0x0, 0x0⟩, -- THM_HOT (R471)
  ⟨0x21854, 1, 0x0, 1, 0x0, 0x0, 0x0, 0x0⟩, -- THM_COLD (R471)
  ⟨0x21858, 1, 0x0, 1, 0x0, 0x0, 0x0, 0x0⟩, -- THM_PEAK (R471)
  ⟨0x21860, 1, 0x0, 1, 0x0, 0x0, 0x0, 0x0⟩, -- THM_SHUT (R471)
  ⟨0x21864, 1, 0x0, 1, 0x0, 0x0, 0x0, 0x0⟩, -- THM_NVM_Q (R471)
  ⟨0x21900, 1, 0x0, 1, 0x0, 0x0, 0x0, 0x0⟩, -- PWR_STATE (R471)
  ⟨0x21904, 1, 0x0, 1, 0x0, 0x17f, 0x0, 0x10⟩, -- PWR_WAKE_EN (R471)
  ⟨0x21908, 1, 0x0, 1, 0x0, 0x0, 0x0, 0x0⟩, -- PWR_WAKE (R471)
  ⟨0x2190c, 1, 0x0, 1, 0x0, 0x0, 0x0, 0x0⟩, -- PWR_WAKE_SRC (R471)
  ⟨0x21910, 1, 0x0, 1, 0x0, 0x0, 0x0, 0x0⟩ -- PWR_SLEEP_ABORT (R471)
  ]

/-- Registers from 0x21800 to 0x21fff. -/
def regRowsThm : List RegRow := regRowsThm0

/-- Registers of the block at 0x22000, part 0. -/
def regRowsSpr0 : List RegRow := [
  ⟨0x22000, 14, 0x8, 1, 0x0, 0x0, 0x0, 0x0⟩, -- SPR_CLASS_STOCK (R499)
  ⟨0x22004, 14, 0x8, 1, 0x0, 0x0, 0x0, 0x0⟩, -- SPR_CLASS_USE (R499)
  ⟨0x22080, 1, 0x0, 1, 0x0, 0x0, 0x0, 0x0⟩, -- SPR_SCOPE_EMPTY (R499)
  ⟨0x22090, 1, 0x0, 1, 0x0, 0x7ff00ff, 0x0, 0x7ff0018⟩, -- SPR_ST_CFG (R499)
  ⟨0x22094, 1, 0x0, 1, 0x0, 0x0, 0x0, 0xf0⟩, -- SPR_ST_STAT (R499)
  ⟨0x22098, 1, 0x0, 1, 0x0, 0x0, 0x0, 0xf0⟩, -- SPR_ST_LAST (R499)
  ⟨0x2209c, 1, 0x0, 1, 0x0, 0x0, 0x0, 0x0⟩, -- SPR_ST_DONE (R499)
  ⟨0x220a0, 1, 0x0, 1, 0x0, 0x0, 0x0, 0x0⟩, -- SPR_ST_SKIP (R499)
  ⟨0x220a4, 1, 0x0, 1, 0x0, 0x0, 0x0, 0x0⟩, -- SPR_ST_FAIL (R499)
  ⟨0x220a8, 1, 0x0, 1, 0x0, 0x0, 0x0, 0x0⟩, -- SPR_ST_INCOMPLETE (R499)
  ⟨0x220b0, 1, 0x0, 1, 0x0, 0x0, 0x0, 0x0⟩, -- SPR_CLR (R499)
  ⟨0x22210, 1, 0x0, 1, 0x0, 0xffffffff, 0x0, 0x100003e8⟩, -- FLT_SRC_CFG (R499) [0]
  ⟨0x22220, 1, 0x0, 1, 0x0, 0xffffffff, 0x0, 0x4057e40⟩, -- FLT_SRC_CFG (R499) [1]
  ⟨0x22230, 1, 0x0, 1, 0x0, 0x0, 0x0, 0x1000000⟩, -- FLT_SRC_CFG (R499) [2]
  ⟨0x22240, 1, 0x0, 1, 0x0, 0xffffffff, 0x0, 0x8000064⟩, -- FLT_SRC_CFG (R499) [3]
  ⟨0x22250, 1, 0x0, 1, 0x0, 0xffffffff, 0x0, 0x283d600⟩, -- FLT_SRC_CFG (R499) [4]
  ⟨0x22260, 1, 0x0, 1, 0x0, 0xffffffff, 0x0, 0x3001770⟩, -- FLT_SRC_CFG (R499) [5]
  ⟨0x22270, 1, 0x0, 1, 0x0, 0xffffffff, 0x0, 0x40001770⟩, -- FLT_SRC_CFG (R499) [6]
  ⟨0x22280, 1, 0x0, 1, 0x0, 0xffffffff, 0x0, 0x20000064⟩, -- FLT_SRC_CFG (R499) [7]
  ⟨0x22290, 1, 0x0, 1, 0x0, 0xffffffff, 0x0, 0x3001770⟩, -- FLT_SRC_CFG (R499) [8]
  ⟨0x222a0, 1, 0x0, 1, 0x0, 0x0, 0x0, 0x0⟩, -- FLT_SRC_CFG (R499) [9]
  ⟨0x222b0, 1, 0x0, 1, 0x0, 0x0, 0x0, 0x1000000⟩, -- FLT_SRC_CFG (R499) [10]
  ⟨0x222c0, 1, 0x0, 1, 0x0, 0x0, 0x0, 0x1000000⟩, -- FLT_SRC_CFG (R499) [11]
  ⟨0x222d0, 1, 0x0, 1, 0x0, 0x0, 0x0, 0x1000000⟩, -- FLT_SRC_CFG (R499) [12]
  ⟨0x222e0, 1, 0x0, 1, 0x0, 0xffffffff, 0x0, 0x283d600⟩, -- FLT_SRC_CFG (R499) [13]
  ⟨0x22214, 14, 0x10, 1, 0x0, 0x0, 0x0, 0x0⟩, -- FLT_SRC_EVT (R499)
  ⟨0x22218, 14, 0x10, 1, 0x0, 0x0, 0x0, 0x0⟩, -- FLT_SRC_LAST (R499)
  ⟨0x22300, 1, 0x0, 1, 0x0, 0x0, 0x0, 0x0⟩, -- FLT_JSEQ (R499)
  ⟨0x22304, 1, 0x0, 1, 0x0, 0x0, 0x0, 0x0⟩ -- FLT_CLR (R499)
  ]

/-- Registers from 0x22000 to 0x227ff. -/
def regRowsSpr : List RegRow := regRowsSpr0

/-- Registers of the block at 0x22800, part 0. -/
def regRowsSec0 : List RegRow := [
  ⟨0x22800, 1, 0x0, 1, 0x0, 0x0, 0x0, 0x0⟩, -- SEC_STAT (R526)
  ⟨0x22804, 1, 0x0, 1, 0x0, 0x0, 0x0, 0x0⟩, -- SEC_FW_STAT (R526)
  ⟨0x22808, 1, 0x0, 1, 0x0, 0x0, 0x0, 0x0⟩, -- SEC_FW_VERA (R526)
  ⟨0x2280c, 1, 0x0, 1, 0x0, 0x0, 0x0, 0x0⟩, -- SEC_FW_VERB (R526)
  ⟨0x22810, 1, 0x0, 1, 0x0, 0x1ffff, 0x0, 0x258⟩, -- SEC_FW_CFG (R526)
  ⟨0x22814, 1, 0x0, 1, 0x0, 0x0, 0x0, 0x0⟩, -- SEC_TRIAL_LEFT (R526)
  ⟨0x22818, 1, 0x0, 1, 0x0, 0x0, 0x0, 0x0⟩, -- SEC_ALARM_CNT (R526)
  ⟨0x2281c, 1, 0x0, 1, 0x0, 0x0, 0x0, 0x0⟩, -- SEC_I3C_REQ (R526)
  ⟨0x22840, 1, 0x0, 1, 0x0, 0x0, 0x0, (Config.serial.toNat % 2 ^ 32)⟩, -- ID_SERIAL_LO (R526)
  ⟨0x22844, 1, 0x0, 1, 0x0, 0x0, 0x0, (Config.serial.toNat / 2 ^ 32)⟩, -- ID_SERIAL_HI (R526)
  ⟨0x22848, 1, 0x0, 1, 0x0, 0x0, 0x0, Config.variantBit + Config.stepping.toNat * 0x100⟩, -- ID_PART (R526)
  ⟨0x22880, 1, 0x0, 1, 0x0, 0x0, 0x0, 0x4000⟩, -- NVM_STAT (R526)
  ⟨0x22884, 1, 0x0, 1, 0x0, 0x0, 0x0, 0x0⟩, -- NVM_WEAR (R526)
  ⟨0x22888, 1, 0x0, 1, 0x0, 0x0, 0x0, 0x0⟩, -- NVM_ERR (R526)
  ⟨0x2288c, 1, 0x0, 1, 0x0, 0x0, 0x0, 0x0⟩ -- NVM_JFREE (R526)
  ]

/-- Registers from 0x22800 to 0x22fff. -/
def regRowsSec : List RegRow := regRowsSec0

/-- Registers of the block at 0x23000, part 0. -/
def regRowsBist0 : List RegRow := [
  ⟨0x23000, 1, 0x0, 1, 0x0, 0x0, 0x0, 0x0⟩, -- BIST_STAT (R500)
  ⟨0x23004, 1, 0x0, 1, 0x0, 0x10000, 0x0, 0x0⟩, -- BIST_CTL (R500)
  ⟨0x23008, 1, 0x0, 1, 0x0, 0x0, 0x0, 0x10000⟩, -- BIST_PATTERNS (R500)
  ⟨0x2300c, 1, 0x0, 1, 0x0, 0x0, 0x0, 0x0⟩, -- BIST_MOULT (R500)
  ⟨0x23010, 1, 0x0, 1, 0x0, 0x0, 0x0, 0x0⟩ -- BIST_PATCNT (R500)
  ]

/-- Registers from 0x23000 to 0x237ff. -/
def regRowsBist : List RegRow := regRowsBist0

/-- The lines of the register map that can hold `addr`. -/
def regBlock (addr : Nat) : List RegRow :=
  if addr < 0x400 then regRowsHif
  else if addr < 0x1000 then regRowsTb
  else if addr < 0x1800 then regRowsExp
  else if addr < 0x2000 then regRowsRo
  else if addr < 0x2400 then regRowsCsx
  else if addr < 0x3000 then regRowsPipe
  else if addr < 0x4000 then regRowsSeg
  else if addr < 0x5000 then regRowsWv
  else if addr < 0x6000 then regRowsRing
  else if 0x20000 ≤ addr ∧ addr < 0x20800 then regRowsMgmt
  else if addr < 0x21000 then regRowsIcx
  else if addr < 0x21800 then regRowsPll
  else if addr < 0x22000 then regRowsThm
  else if addr < 0x22800 then regRowsSpr
  else if addr < 0x23000 then regRowsSec
  else if addr < 0x23800 then regRowsBist
  else []

/-- The line of the register at `addr`; `none` at an offset the spec leaves reserved. -/
def regRow (addr : Nat) : Option RegRow := (regBlock addr).find? (·.covers addr)

/-- The reset value of the register at `addr` (R8: a reserved offset reads 0). -/
def regReset (addr : Nat) : BitVec 32 :=
  match regRow addr with
  | some r => BitVec.ofNat 32 r.reset
  | none => 0

end Sys2Proof.Machine
end

