-- ==== Sys2Proof/Machine/Store.lean ====
section
/-! DEFINITION. The sparse store by which every array of the block is held as plain data: a list of key and value
pairs in one canonical form. Keys rise strictly, and no pair holds the value that an unlisted key reads as (its
default, a function of the key), so equal contents are equal lists. Host memory, the register file, the tables, the
track contexts and the arrays of units are stores. With it, the sorting of lists by a key. -/

namespace Sys2Proof.Machine

/-- A sparse array: pairs of key and value. -/
abbrev Store (α : Type) := List (Nat × α)

/-- The value at key `k`; `d k` where the store lists none. -/
def Store.get {α : Type} (d : Nat → α) : Store α → Nat → α
  | [], k => d k
  | (j, v) :: t, k => if j = k then v else Store.get d t k

/-- The store without any pair of key `k`. -/
def Store.erase {α : Type} : Store α → Nat → Store α
  | [], _ => []
  | (j, v) :: t, k => if j = k then Store.erase t k else (j, v) :: Store.erase t k

/-- Puts a pair before the first pair of a higher key. -/
def Store.insert {α : Type} : Store α → Nat → α → Store α
  | [], k, v => [(k, v)]
  | (j, w) :: t, k, v => if k < j then (k, v) :: (j, w) :: t else (j, w) :: Store.insert t k v

/-- Writes `v` at key `k`, keeping the canonical form: writing the default removes the pair. -/
def Store.set {α : Type} [DecidableEq α] (d : Nat → α) (m : Store α) (k : Nat) (v : α) : Store α :=
  if v = d k then m.erase k else (m.erase k).insert k v

/-- Changes the value at key `k` by `f`. -/
def Store.modify {α : Type} [DecidableEq α] (d : Nat → α) (m : Store α) (k : Nat) (f : α → α) : Store α :=
  m.set d k (f (m.get d k))

/-- Writes a list of values at consecutive keys from `k`. -/
def Store.setMany {α : Type} [DecidableEq α] (d : Nat → α) : Store α → Nat → List α → Store α
  | m, _, [] => m
  | m, k, v :: vs => Store.setMany d (m.set d k v) (k + 1) vs

/-- The values at `n` consecutive keys from `k`. -/
def Store.getMany {α : Type} (d : Nat → α) (m : Store α) (k n : Nat) : List α :=
  (List.range n).map fun i => m.get d (k + i)

/-- Are the keys strictly rising, from above `lo` (a bound that excludes nothing when absent)? -/
def Store.rising {α : Type} : Option Nat → Store α → Bool
  | _, [] => true
  | none, (j, _) :: t => Store.rising (some j) t
  | some i, (j, _) :: t => decide (i < j) && Store.rising (some j) t

/-- The canonical form: keys strictly rising, no pair that repeats its default. -/
def Store.wf {α : Type} [DecidableEq α] (d : Nat → α) (m : Store α) : Bool :=
  Store.rising none m && m.all fun p => decide (p.2 ≠ d p.1)

/-- Inserts a value into a list kept in ascending order of `key`, after values of equal key. -/
def insertBy {α : Type} (key : α → Nat) (x : α) : List α → List α
  | [] => [x]
  | y :: ys => if key x < key y then x :: y :: ys else y :: insertBy key x ys

/-- A list in ascending order of `key`; values of equal key keep their order. -/
def sortBy {α : Type} (key : α → Nat) (l : List α) : List α := l.foldl (fun acc x => insertBy key x acc) []

end Sys2Proof.Machine
end

