-- ==== Sys2Proof/Machine/State.lean ====
section
/-! DEFINITION. The state of the KX815 as plain data: its registers, and behind them every queue, table, context,
counter and mode the chapters of spec/ give the device; the queue of waiting commands; and the state after reset. -/

namespace Sys2Proof.Machine

/-- R11: the status codes of completions and records. -/
inductive Status where
  | ok | flushed | abortedDisabled | lateApplied | clockLoss | roleStale | busySelftest | precondition
  | sigFail | overload | noContext | incomplete | sleepAbortedWake | badDescriptor | noSpare | lifecycleDenied
  deriving DecidableEq, Repr

/-- R11: the code of a status. -/
def Status.code : Status → Nat
  | .ok => 0 | .flushed => 1 | .abortedDisabled => 2 | .lateApplied => 3 | .clockLoss => 4 | .roleStale => 5
  | .busySelftest => 6 | .precondition => 7 | .sigFail => 8 | .overload => 9 | .noContext => 10
  | .incomplete => 11 | .sleepAbortedWake => 12 | .badDescriptor => 13 | .noSpare => 14 | .lifecycleDenied => 15

/-- A completion entry before it is written (R373): PHASE is that of the ring at the write, and SQ_HEAD the device
pointer of the SQ at the write unless R351 fixes it. -/
structure Cpl where
  tag : Nat
  status : Status
  ring : Nat
  opcode : Nat
  sqHead : Option Nat
  tick : Nat
  cfgTag : Word
  result : Nat
  time : Time
  deriving DecidableEq, Repr

/-- A fetched buffer of a stream SQ (R342), with what has been written into it. -/
structure Buf where
  addr : Nat
  len : Nat
  tag : Nat
  used : Nat
  items : Nat
  firstAt : Nat
  lastTick : Nat
  lastTag : Word
  deriving DecidableEq, Repr

/-- One ring: a command SQ, a stream SQ or a CQ (R338). Rings 32 and 33 are the mailbox SQ and CQ of PF1 (R389). -/
structure Ring where
  enabled : Bool
  disabling : Bool
  dev : Nat
  host : Nat
  lastTail : Word
  lastHead : Word
  phase : Bool
  stopped : Bool
  err : Nat
  /-- Command SQ: descriptors fetched and not completed (nor, for a COMMIT, accepted), oldest first. -/
  fetched : List (List Byte)
  /-- The oldest of `fetched` has started and has not completed. -/
  executing : Bool
  /-- Stream SQ: buffers fetched and not completed, in posting order; the first may be open. -/
  bufs : List Buf
  /-- Frame-stream SQ: the ticks of the outputs for which the first of `bufs` are claimed, in order, and whether the output
  was disabled since (R164, R202). -/
  claims : List (Nat × Bool)
  /-- CQ: completions that fell due and are not written. -/
  held : List Cpl
  /-- CQ: entries written and not announced (R355). -/
  unannounced : Nat
  /-- CQ: when the moderation timer started. -/
  timer : Option Nat
  /-- CQ: the timer has reached TIME in D3hot and set PME_Status (R358). -/
  timerSpent : Bool
  deriving DecidableEq, Repr

/-- A ring after reset (R363). -/
def Ring.init : Ring :=
  { enabled := false, disabling := false, dev := 0, host := 0, lastTail := 0, lastHead := 0, phase := false,
    stopped := false, err := 0, fetched := [], executing := false, bufs := [], claims := [], held := [], unannounced := 0,
    timer := none, timerSpent := false }

/-- A block of the archive window that is being gathered (R360). -/
structure ArchBlock where
  bytes : List Byte
  items : Nat
  firstAt : Nat
  deriving DecidableEq, Repr

/-- The archive window (R360 to R362) beyond its registers. -/
structure Archive where
  /-- Open blocks, by stream kind × 4 + camera. -/
  blocks : Store ArchBlock
  seq : Nat
  sinceReport : Nat
  deriving DecidableEq, Repr

/-- One entry of an MSI-X table. -/
structure MsixEntry where
  addrLo : Word
  addrHi : Word
  data : Word
  control : Word
  deriving DecidableEq, Repr

/-- A cleared and masked MSI-X entry (R331). -/
def MsixEntry.init : MsixEntry := { addrLo := 0, addrHi := 0, data := 0, control := 1 }

/-- A PCIe function: the bits of its configuration space that act on the device, its BARs, and its MSI-X table. -/
structure PciFn where
  memEnable : Bool
  busMaster : Bool
  d3hot : Bool
  pmeEnable : Bool
  pmeStatus : Bool
  msixEnable : Bool
  msixMask : Bool
  ptmEnable : Bool
  tag10 : Bool
  maxPayload : Nat
  maxRead : Nat
  bars : Store Word
  vectors : Store MsixEntry
  /-- The pending bits of the vectors. -/
  pba : Store Bool
  /-- The other bits of configuration space that the host or an error changes, by the offset of their word (R313). -/
  caps : Store Word
  deriving DecidableEq, Repr

/-- A function after reset (R331: configuration space at its defaults). -/
def PciFn.init : PciFn :=
  { memEnable := false, busMaster := false, d3hot := false, pmeEnable := false, pmeStatus := false,
    msixEnable := false, msixMask := false, ptmEnable := false, tag10 := false, maxPayload := 0, maxRead := 2,
    bars := [], vectors := [], pba := [], caps := [] }

/-- What the device sends on the link beside memory accesses. -/
inductive Msg where
  | msix (fn : Nat) (vec : Nat) (addr : Nat) (data : Word)
  | pme (fn : Nat)
  /-- An error message of AER (R323): severity 0 correctable, 1 non-fatal, 2 fatal. -/
  | err (fn : Nat) (severity : Nat)
  deriving DecidableEq, Repr

/-- The function that a message comes from. -/
def Msg.fn : Msg → Nat
  | .msix i _ _ _ => i
  | .pme i => i
  | .err i _ => i

/-- The link (R320, R321, R328). -/
inductive LinkState where
  | down | training | retraining | up | l2
  deriving DecidableEq, Repr

/-- An item of a packed stream kind that a Dray holds (R340, R463): with its camera, tick and config tag. -/
structure DrayItem where
  kind : Nat
  cam : Nat
  bytes : List Byte
  tick : Nat
  tag : Word
  deriving DecidableEq, Repr

/-- The PCIe endpoint. -/
structure Pcie where
  link : LinkState
  perst : Bool
  /-- FAIL_CLR was written: LANE_FAIL clears at the next training. -/
  failClr : Bool
  f0 : PciFn
  f1 : PciFn
  /-- Messages held while the link retrains (R321). -/
  heldMsgs : List Msg
  /-- Writes of items to host memory held while the link retrains, oldest first (R321). -/
  heldWrites : List (Nat × List Byte)
  /-- Items that the Drays hold while the clock of the X domain stands, oldest first (R410, R463). -/
  heldItems : List DrayItem
  /-- A lane has been failed: event 0x0008 is raised when the link has trained (R321). -/
  laneEvent : Bool
  /-- The command SQs fetched from in the present round of turns (R350). -/
  fetchRound : List Nat
  /-- Receiver errors in the order they came, per lane with their time: what R321's lane check counts. -/
  laneErrs : List (Nat × Nat)
  /-- Vectors of PF0, and 64 for vector 0 of PF1, with one more than the time of their last message (R357). -/
  vecSent : Store Nat
  /-- The draw of the presets that the last equalisation of the link gave its lanes, and whether one was at 16 GT/s (R313). -/
  eqDraw : Option Nat
  eq16 : Bool
  /-- One more than the draw of the payload of a lane's margining status, by its offset; 0 where the command fixes it. -/
  margin : Store Nat
  deriving DecidableEq, Repr

/-- One target of the ICX (R395 to R401). -/
structure IcxTarget where
  asserted : Bool
  /-- Active normal sources, most recent claim first. -/
  active : List Nat
  /-- The stack of active fast sources, top first (R401). -/
  fast : List Nat
  /-- The active sources of both banks, most recent claim first, fast source n as 256 + n (R333). -/
  claims : List Nat
  deriving DecidableEq, Repr

/-- The ICX beyond its registers. A fast source n is keyed 256 + n wherever both banks share a list. -/
structure Icx where
  a : IcxTarget
  b : IcxTarget
  host : IcxTarget
  /-- Sources with an open host claim window, with the time at which it closes (R398). -/
  windows : List (Nat × Nat)
  /-- Sources whose asynchronous latch has caught a raise (R405). -/
  latched : List Nat
  /-- When the present holder took the lock (R403). -/
  lockSince : Nat
  /-- When the clock of the ICX last stopped (R405). -/
  stoppedAt : Nat
  deriving DecidableEq, Repr

/-- An item of a commit group (R367, R368). -/
inductive Item where
  /-- A register of PF0 BAR0 takes a value. -/
  | reg (addr : Nat) (value : Word)
  /-- A table's banks swap (TABLE, INDEX), forced or not (R369). -/
  | swap (table index : Nat) (force : Bool)
  /-- The mode (R53). -/
  | mode (m : Fin 8)
  deriving DecidableEq, Repr

/-- The target of a COMMIT (R27). -/
inductive Target where
  | next | tick (n : Nat) | time (t : Time)
  deriving DecidableEq, Repr

/-- A group that was accepted and has not applied (R30, R32). -/
structure Accepted where
  items : List Item
  target : Target
  at_ : Time
  lead : Nat
  /-- Accepted while HIF_RUN.RUN read 0 (R336). -/
  stopped : Bool
  /-- The target edge has been taken without the group. -/
  missed : Bool
  /-- The provisional edge of R62, as a tick number. -/
  prov : Nat
  ring : Nat
  tag : Nat
  deriving DecidableEq, Repr

/-- A TABLE_LOAD that has started and has not completed (R370). -/
structure Load where
  ring : Nat
  table : Nat
  index : Nat
  offset : Nat
  data : List Byte
  /-- ENTRIES where SET_COUNT is 1. -/
  entries : Option Nat
  deriving DecidableEq, Repr

/-- The banked tables of R369. A table is keyed TABLE × 256 + INDEX. -/
structure Tables where
  /-- Bytes, by (table key × 2 + bank) × 2^24 + offset. -/
  bytes : Store Byte
  /-- The active bank of a table, 0 or 1. -/
  active : Store Nat
  /-- The shadow bank of the table is marked incomplete (R331, R370). -/
  incomplete : Store Bool
  /-- Entries that a bank of a defect map holds, by table key × 2 + bank (R369). -/
  entries : Store Nat
  /-- One more than the tick at whose edge the banks last swapped (R38). -/
  swapTick : Store Nat
  deriving DecidableEq, Repr

/-- What a management-staged change changes (R26). -/
inductive MgmtChange where
  /-- A host-absence policy enters force; 0 lifts it (R48, R50). -/
  | policy (code row : Nat)
  /-- The exposure governor's durations (R121), and the least tick at which they may apply (R122). -/
  | durations (writes : List (Nat × Word)) (notBefore : Nat)
  /-- Class B calibration entries: item, index, entry (R431); with `tracking` the entries are measured values, towards which
  a background update moves those in force (R433, R436). -/
  | calibration (tracking : Bool) (entries : List (Nat × Nat × Nat))
  /-- The drift list loses every pixel (R442), or gains those classed in one frame: x, y and class (R441). -/
  | driftClear
  | driftAdd (pixels : List (Nat × Nat × Nat))
  /-- The throttle tick floor is enforced or lifted (R456, R457). -/
  | throttle (on : Bool)
  /-- SERVICE is held for cold, or the committed mode comes back (R462). -/
  | coldHold (on : Bool)
  deriving DecidableEq, Repr

/-- A management-staged change and the earliest edge time at which it applies. -/
structure Mgmt where
  change : MgmtChange
  earliest : Time
  deriving DecidableEq, Repr

/-- Host absence (R47 to R50). -/
structure HostWatch where
  /-- When the host-absence timer last started. -/
  since : Nat
  /-- When the host became absent. -/
  absentSince : Nat
  /-- The policy in force, 0 where none is. -/
  policy : Nat
  row : Nat
  deriving DecidableEq, Repr

/-- R473: the states of a spareable unit. -/
inductive UnitState where
  | inRole | stock | underTest | retired
  deriving DecidableEq, Repr

/-- A unit: its state, and the role it holds (a unit under test or retired may still hold its role until the Coupling
at which another takes it, R477). -/
structure UnitInfo where
  state : UnitState
  role : Option Nat
  deriving DecidableEq, Repr

/-- Why a role passes to another unit. -/
inductive SubstWhy where
  /-- A lasting fault of the source given (R477). -/
  | fault (source : Nat)
  /-- A self-test of the former holder (R486), or the role given back after one was aborted (R489). -/
  | test
  /-- SPARE_ASSIGN (R482); with the mailbox incarnation whose command waits. -/
  | host (notify : Option Nat)
  deriving DecidableEq, Repr

/-- A change of a role's holder that waits for its Coupling (R477, R479). -/
structure Subst where
  cls : Nat
  role : Nat
  /-- The unit that holds the role when the change is asked for. -/
  old : Nat
  /-- The unit that takes the role; none where the scope had no stock (R480). -/
  new : Option Nat
  why : SubstWhy
  /-- The first edge time at which the change may apply (R16). -/
  earliest : Time
  /-- A tracker bank's background copy is still under way (R232). -/
  copying : Bool
  /-- The unit asked for by the host has left STOCK, or the role's holder has changed, since it was asked for (R482). -/
  stale : Bool
  /-- When the change was asked for: the instant of the fault, for one that a fault asks for (R479). -/
  asked : Nat
  deriving DecidableEq, Repr

/-- A self-test in service (R486, R490). -/
structure SelfTest where
  cls : Nat
  unit : Nat
  /-- The role the unit held when its test was asked for. -/
  role : Option Nat
  /-- The unit has left its role and its patterns run. -/
  active : Bool
  /-- The unit's state when its test was asked for (R490). -/
  was : UnitState
  /-- The mailbox incarnation whose SELFTEST_UNIT waits for the end. -/
  notify : Option Nat
  deriving DecidableEq, Repr

/-- Spares, fault buckets and self-tests (R472 to R491). A unit, a role or an instance is keyed class × 2^20 + number. -/
structure Spares where
  units : Store UnitInfo
  /-- The unit that holds a role. -/
  holder : Store Nat
  /-- Role epochs (R41). -/
  epoch : Store Nat
  /-- Roles left without a unit (R480). -/
  lost : Store Bool
  /-- Roles served under R480, lost or not (R499). -/
  noSpare : Store Bool
  /-- Weevil roles that stay on an engine that WV_MISS retired, for want of a spare (R480). -/
  kept : List Nat
  /-- Entry times of the units in a bucket, oldest first, by source × 2^30 + instance (R475). -/
  buckets : Store (List Nat)
  queue : List Subst
  tests : List SelfTest
  /-- The unit whose turn is next, by class, and one more than the time of the last turn (R485). -/
  turn : Store Nat
  turnAt : Store Nat
  /-- Internal messages that were discarded as stale and sent again: class, role and the epoch that they now carry (R43). -/
  resent : List (Nat × Nat × Nat)
  /-- Internal messages that the holder of a role has accepted (R43). -/
  accepted : Store Nat
  deriving DecidableEq, Repr

/-- A Moult record (R494): the whole verdict (1 PASS, 2 FAIL, 3 INCOMPLETE), the signatures that did not pass as the command
gives them, the patterns run, and the verdict of each partition. -/
structure MoultRecord where
  verdict : Nat
  results : List Nat
  patterns : Nat
  partitions : List Nat
  deriving DecidableEq, Repr

/-- What follows when an NVM program sequence ends. -/
inductive NvmNote where
  | quiet
  /-- The spare map that the record holds (R483). -/
  | spareMap (units : Store UnitInfo) (holder : Store Nat) (kept : List Nat)
  /-- A fault record (R498). -/
  | faultRecord (bytes : List Byte)
  /-- An owner key record, empty for a release, and its SEQ; with the mailbox incarnation whose OWNER_ENROLL waits (R515). -/
  | owner (record : List Byte) (seq : Nat) (notify : Option Nat)
  /-- A calibration snapshot; with the mailbox incarnation whose CAL_SNAPSHOT waits (R447). -/
  | snapshot (entries : Store Nat) (notify : Option Nat)
  /-- The last chunk of a FW_WRITE; with the mailbox incarnation whose command waits (R509). -/
  | fwWrite (len : Nat) (notify : Option Nat)
  /-- BIST_CTL.FULL_NEXT (R500). -/
  | fullNext (b : Bool)
  /-- A Moult record (R494). -/
  | moult (r : MoultRecord)
  /-- The states of the two firmware banks and the confirmed one (R508). -/
  | banks (a b confirmed : Nat)
  /-- The wear counters: the erase cycles of the blocks (R521). -/
  | wear (erases : Store Nat)
  /-- The cause of a thermal shutdown, whether it cut a sequence off, and the temperature (R460). -/
  | shutdown (cause : Nat) (cut : Bool) (temp : Nat)
  deriving DecidableEq, Repr

/-- One NVM program sequence (R522). -/
inductive NvmJob where
  /-- A journal record: its header, its body and its commit marker. -/
  | record (type : Nat) (body : List Byte) (note : NvmNote)
  /-- A chunk of a firmware bank. -/
  | chunk (addr : Nat) (data : List Byte) (note : NvmNote)
  /-- The erasure of a 4 KiB block. -/
  | erase (block : Nat)
  deriving DecidableEq, Repr

/-- What the part keeps without power, and the queue of program sequences (R501 to R523). -/
structure Nvm where
  /-- The 4 MiB of NVM. -/
  bytes : Store Byte
  /-- The life-cycle fuses (R501). -/
  lifecycle : Nat
  /-- The life-cycle state whose rights apply: that of the last RESET_N, but SCRAPPED at once (R502). -/
  rights : Nat
  /-- SCRAPPED has erased the identity private keys (R502). -/
  keysErased : Bool
  /-- The anti-rollback counter. -/
  rollback : Nat
  /-- The states of the firmware banks (R508) and the confirmed one. -/
  bankA : Nat
  bankB : Nat
  confirmed : Nat
  /-- The same as the journal records them, by which the next start goes (R508, R522). -/
  bankRec : Nat × Nat × Nat
  /-- The wear counters as the journal records them (R522). -/
  wearRec : Store Nat
  /-- Bytes 0 to 2,047 of the owner key record in force, empty where no owner is enrolled, and the SEQ of the record in force,
  which a release is too (R514, R515). -/
  owner : List Byte
  ownerSeq : Option Nat
  /-- Where the journal's log begins and goes on (offsets in the journal), and SEQ of the next journal record. -/
  logBase : Nat
  logTail : Nat
  seq : Nat
  /-- What the records of the log hold, by SEQ, for those whose body the spec lays out nowhere too (R522). -/
  notes : Store NvmNote
  /-- The fault records held, oldest first (R498), and SEQ of the next. -/
  faults : List (List Byte)
  faultSeq : Nat
  /-- Starts since manufacture. -/
  boot : Nat
  /-- The spare map in force in the journal (R483). -/
  mapUnits : Store UnitInfo
  mapHolder : Store Nat
  mapKept : List Nat
  /-- The calibration snapshot in force (R447). -/
  snapshot : Option (Store Nat)
  /-- The latest Moult record and its whole verdict, 0 where there is none, 1 PASS, 2 FAIL, 3 INCOMPLETE; and whether a
  start has used it (R494). -/
  moult : Nat
  moultRecord : Option MoultRecord
  moultConsumed : Bool
  /-- When the Moult age timer was last charged. -/
  ageCharged : Option Nat
  /-- BIST_CTL.FULL_NEXT in the journal. -/
  fullNext : Bool
  /-- Erase cycles, by block; the reserve blocks left (R521). -/
  erases : Store Nat
  reserve : Nat
  noReserve : Bool
  /-- THM_SHUT, which only a loss of power clears (R460). -/
  shutCause : Nat
  shutCut : Bool
  shutTemp : Nat
  /-- That cause is in the journal (R460). -/
  shutNoted : Bool
  /-- SEC_FW_CFG.ACT_AT_START as it stood when the last reset began (R512). -/
  actAtStart : Bool
  /-- Sequences under way or waiting, the first under way. -/
  jobs : List NvmJob
  /-- Journal entries that wait while T_COLD_LIMIT stands crossed (R461). -/
  cold : List NvmJob
  deriving DecidableEq, Repr


/-- A tap of a camera, as the resets of R182 know it. -/
structure BgTap where
  /-- The tap has been exposed, last in this mode and with this ramp gain. -/
  exposed : Bool
  mode : Nat
  gain : Nat
  /-- Ticks from whose edge on the model is to be reset: by BG_RESET, or because RUN was set before it. -/
  resets : List Nat
  deriving DecidableEq, Repr

/-- The background models (R178): values by cell and slot, foreground runs by cell, and the taps, by camera × 4 + tap. -/
structure Background where
  value : Store Nat
  run : Store Nat
  taps : Store BgTap
  deriving DecidableEq, Repr

/-- The statistics of one tap of a frame (R124). `tap` is the tap whose settings held, `charge` the tap read. -/
structure TapStat where
  tap : Nat
  charge : Nat
  /-- For slot s and zone z, at 16 s + z: pixels, the sum of their v, and saturated pixels. -/
  zones : List (Nat × Nat × Nat)
  hist : List Nat
  ob : Nat
  bg : List Nat
  deriving DecidableEq, Repr

/-- The newest frame whose statistics are complete (R119). -/
structure StatFrame where
  tick : Nat
  /-- The registers in force at its edge: the governor evaluates a frame under them (R118). -/
  regs : Store Word
  /-- It carries no CLOCK_LOSS status and none of the flags of R119. -/
  usable : Bool
  taps : List TapStat
  deriving DecidableEq, Repr

/-- A segment (R209 to R213). Sums are over doubled coordinates, so that the centres of binned pixels are whole. -/
structure Segment where
  area : Nat
  sumX : Int
  sumY : Int
  /-- Extreme columns and rows (features 1 to 4). -/
  box : Int × Int × Int × Int
  edge : Bool
  split : Bool
  piece : Nat
  /-- Beyond a cap of R64 (R66). -/
  overload : Bool
  /-- The 64 features; empty for an OVERLOAD segment. -/
  feats : List Nat
  deriving DecidableEq, Repr

/-- A round of the tracker that is still to come (R216): an own-array tap or a companion frame. -/
structure Round where
  cam : Nat
  tap : Nat
  time : Time
  /-- The number of segments reached the per-tap cap of R64 (R227). -/
  capped : Bool
  segs : List Segment
  deriving DecidableEq, Repr

/-- A camera's image of a frame, as crops read it (R378). -/
structure CamView where
  cam : Nat
  time : Time
  width : Nat
  height : Nat
  /-- Taps with an invalid sample substituted. -/
  invalid : List Nat
  deriving DecidableEq, Repr

/-- Bands along one axis: first position and count, in ascending order. -/
abbrev Bands := List (Int × Nat)

/-- The pixels that a camera's frame reads: its bands, whether they are binned, whether it has the mosaic of R83, and
the number of its rows that are not dark rows. -/
structure Shape where
  rows : Bands
  cols : Bands
  binned : Bool
  colour : Bool
  active : Nat
  deriving DecidableEq, Repr

/-- A flat-field acquisition under way (R444). -/
structure Flat where
  taps : List Nat
  want : Nat
  earliest : Time
  /-- Ticks taken since it began to examine, frames used, and the mode, windows and gains of the first usable frame. -/
  ticks : Nat
  used : Nat
  first : Option (Nat × List (Nat × Nat) × List (Nat × Nat) × List Nat)
  /-- Sum of w and number of frames, by tap × 2^26 + pixel. -/
  sums : Store (Int × Nat)
  /-- Descriptors fetched since acceptance, by ring (R446). -/
  late : Store Nat
  /-- The frames are gathered, with the shape of the last; the results wait to be written (R38, R446). -/
  ready : Option Shape
  notify : Option Nat
  deriving DecidableEq, Repr

/-- An untracked object of a tick (R231), or a track that R233 ended: its state, box and record fields. -/
structure Untracked where
  objId : Nat
  /-- Its status is OVERLOAD; else NO_CONTEXT. -/
  overload : Bool
  /-- Ticks of its first and its last counted sighting (R375). -/
  firstTick : Nat
  lastTick : Nat
  time : Time
  x : Int
  y : Int
  vx : Int
  vy : Int
  ax : Int
  ay : Int
  w : Int
  h : Int
  area : Nat
  camMask : Nat
  flags : Nat
  deriving DecidableEq, Repr
/-- A compare unit beyond its registers: the value loaded, and the reading of the timebase clock at which the last
arming write completed (R299). -/
structure Compare where
  value : Time
  armedAt : Nat
  deriving DecidableEq, Repr

/-- The timebase units (R295 to R311) beyond their registers. -/
structure Timebase where
  cmps : Store Compare
  /-- The shadow of a capture pair, by pair × 2 + polarity (0 rising, 1 falling) (R303). -/
  shadow : Store (Option Time)
  /-- One more than the time of the last edge at the pad of a source, and of the one before it: by 2 × source and
  2 × source + 1 (R302). -/
  lastEdge : Store Nat
  /-- TSYNC_IN as it was 5 ns ago, and its edges since: when each comes through, and its level (R308). -/
  syncSeen : Bool
  syncEdges : List (Nat × Bool)
  /-- When TSYNC_OUT rose, on the timebase clock (R308). -/
  syncOutAt : Option Nat
  /-- A PTM dialogue has been requested (R310). -/
  ptmPending : Bool
  /-- When the present AUTO interval began. -/
  ptmSince : Nat
  deriving DecidableEq, Repr

/-- The clock loops (R407 to R424) beyond their registers. Roles are 0 C, 1 X, 2 T. -/
structure Clocks where
  /-- When the domain of a role was gated off, by role; none where it runs. -/
  gated : Store (Option Nat)
  /-- The role was gated with no stand-in to come (R419, R421). -/
  noStandIn : Store Bool
  /-- REF_IN is lost. -/
  refLost : Bool
  /-- When role T went into holdover. -/
  holdSince : Option Nat
  /-- By loop that lost lock and has not relocked: one more than the role it held, 4 for the standby loop; 0 else. -/
  lostRole : Store Nat
  /-- The output dividers in force, by loop (R410, R411). -/
  dividers : Store (List Nat)
  /-- The dividers loaded into a loop's buffer, by loop, until they take effect (R411). -/
  divBuffer : Store (List Nat)
  /-- The edge of REF_IN at which the loaded buffers transfer (R411). -/
  refEdge : Option Nat
  deriving DecidableEq, Repr

/-- The output dividers of a role; a loop without a role drives no output (R410). Roles are coded 0 C, 1 X, 2 T, as the
loops that hold them at reset. -/
def roleDividers : Nat → List Nat
  | 0 => [2, 5]
  | 1 => [3]
  | 2 => [6, 15]
  | _ => []

/-- The tick sequencer beyond its registers (R19 to R23, R104 to R108). -/
structure Sequencer where
  /-- The edge time of a candidate that R22 has admitted. -/
  due : Option Time
  /-- Tick 0 has been taken. -/
  first : Bool
  /-- The first edge after RUN was set is still to come, with the time R104 gives it under INTERNAL. -/
  start : Option Time
  /-- The mode of HIF_MODE_INIT is to apply at the next edge (R76). -/
  fresh : Bool
  /-- The edge from which the INTERNAL period counts, and the clock of the timebase domain at it. -/
  base : Time
  baseClk : Nat
  /-- The elapsed-time counter's clock at the last edge (R107). -/
  lastClk : Nat
  /-- The divider of R105. -/
  div : Nat
  /-- The effective minimum tick of the throttle is enforced (R457). -/
  throttle : Bool
  /-- The effective minimum tick in force (R22, R55), in ns; HIF_TMIN shows it. -/
  tmin : Nat
  deriving DecidableEq, Repr

/-- A frame from its edge to the end of its work. -/
structure Frame where
  tick : Nat
  edge : Time
  /-- The clock of the timebase domain at the edge. -/
  clk : Nat
  gen : Nat
  tag : Word
  mode : Nat
  /-- The effective minimum tick in force at the edge. -/
  tmin : Nat
  /-- The minimum tick of R55 at the edge. -/
  base : Nat
  /-- The delay of R71 in ns. -/
  delay : Nat
  /-- The registers in force at the edge. -/
  regs : Store Word
  /-- The active bank of each table at the edge. -/
  banks : Store Nat
  /-- The calibration values in force at the edge (R431). -/
  cal : Store Nat
  /-- The drift list in force at the edge (R442). -/
  drift : List Nat
  /-- The spare map that the data plane read at the edge: holders and lost roles (R153). -/
  holder : Store Nat
  lost : Store Bool
  /-- The host-absence policy in force (R49). -/
  policy : Nat
  policyRow : Nat
  /-- Marked CLOCK_LOSS (R117, R417). -/
  clockLoss : Bool
  /-- The CLOCK_LOSS decisions that R262 asks for a lost frame are made. -/
  settled : Bool
  /-- The timebase clock was gated off during the frame: its exposure and its strobes are over (R117). -/
  cut : Bool
  pixsup : Bool
  suppressed : Bool
  govern : Bool
  transition : Bool
  /-- A cap of R64 was reached in this tick. -/
  capped : Bool
  /-- The next exposure interval, in order of start; and whether it is open. -/
  interval : Nat
  isOpen : Bool
  /-- The next pulse of each Firefly. -/
  pulse : Store Nat
  /-- Charge in the storage nodes, by tap × 2^24 + physical row × 8,256 + physical column. -/
  nodes : Store Nat
  /-- The clock at which the readout started; the slots converted. -/
  readAt : Option Nat
  slot : Nat
  /-- The samples of the last slot on the Axle, and its optical-black words (tap, row, value). -/
  wire : Store Nat
  wireOb : List (Nat × Int × Nat × Bool)
  /-- Packets of the last slot that have come, by lane role: 1 failed its CRC, n + 2 passed it with the bits of n flipped
  on the way (R147, R149). -/
  lanes : Store Nat
  /-- The samples at the X-die, by (tap × 4,096 + row + 12) × 8,192 + column; 0 is an invalid sample (R135). -/
  codes : Store Nat
  /-- Optical-black values at the X-die, by tap × 4,096 + row + 12: the value with 2 fraction bits, and whether it was
  repeated (R145, R148). -/
  ob : Store (Nat × Bool)
  /-- The last optical-black value of each tap that the C-die formed, and that the X-die took (R145, R148). -/
  obC : Store Nat
  obX : Store Nat
  /-- Cameras whose frame has been through its pipeline. -/
  piped : List Nat
  /-- Pixels of the companion frames taken for the tick, by pipeline (R162). -/
  camPixels : Store Nat
  /-- The values m of R195, by ((camera × 4 + tap) × 4 + slot) × 2^26 + pixel. -/
  planes : Store Nat
  views : List CamView
  /-- Rounds of the tracker still to come (R216). -/
  rounds : List Round
  /-- Segments that count against the per-tick cap (R65). -/
  kept : Nat
  /-- The untracked objects of the tick, in order of OBJ_ID assignment. -/
  untracked : List Untracked
  /-- No decision of the tick queues a valve action (R74, R262). -/
  noFire : Bool
  /-- The work of the tick is complete (R24). -/
  done : Bool
  deriving DecidableEq, Repr

/-- A Firefly's output (R114 to R116). -/
structure Firefly where
  active : Bool
  /-- The active level of the pulse under way, and the clock at which it ends. -/
  level : Bool
  until_ : Nat
  /-- The window of R116 and the on-time counted in it. -/
  window : Nat
  onTime : Nat
  deriving DecidableEq, Repr

/-- A pulse of a trigger output that an edge or a compare unit started (R168): when it begins and ends, on the timebase
clock, and its active level. -/
structure TrigPulse where
  at_ : Nat
  until_ : Nat
  level : Bool
  deriving DecidableEq, Repr

/-- A trigger output (R168). -/
structure TrigOut where
  /-- Pulses that have not begun, in the order in which they were started. -/
  queue : List TrigPulse
  active : Bool
  /-- The active level of the pulse under way, and the clock at which it ends. -/
  level : Bool
  until_ : Nat
  deriving DecidableEq, Repr

/-- A line of a companion frame: its samples, or an invalid line (R158). -/
structure CsiLine where
  samples : List Nat
  valid : Bool
  deriving DecidableEq, Repr

/-- A frame of a companion camera (R159 to R166). -/
structure CamFrame where
  cam : Nat
  /-- The virtual channel, data type, size and pipeline that the settings of its tick give it (R39). -/
  vc : Nat
  dt : Nat
  width : Nat
  height : Nat
  pipe : Nat
  captured : Time
  corrected : Time
  /-- Captured while the timebase was held (R162). -/
  held : Bool
  /-- An earlier frame of the camera belongs to the same tick (R162). -/
  later : Bool
  /-- The tick it belongs to, where R162 has taken it. -/
  tick : Option Nat
  lines : List CsiLine
  complete : Bool
  /-- It waits in the merge buffer (R166). -/
  buffered : Bool
  deriving DecidableEq, Repr

/-- A CAL_RUN under way (R443). -/
structure CalRun where
  /-- Items still to run, the one under way first; items completed. -/
  items : List Nat
  done : Nat
  /-- Elements of the item under way that are resolved, and the class B entries that they gave. -/
  measured : Store Bool
  results : List (Nat × Nat × Nat)
  /-- Suspect elements reported by event 0x0014 (R427). -/
  events : Nat
  /-- The check of R429 has passed. -/
  checked : Bool
  notify : Option Nat
  deriving DecidableEq, Repr

/-- Calibration (R425 to R448) beyond its registers. An entry is keyed item × 2^20 + index. -/
structure Cal where
  entries : Store Nat
  /-- The drift list in force, as entries of the R185 layout (R442). -/
  drift : List Nat
  /-- Reference converters that are suspect (R427). -/
  suspectRefs : List Nat
  /-- The detector of R439: its group, frames examined, and counts n, h, b, t and the last test of each pixel. -/
  group : Nat
  examined : Nat
  counts : Store (Nat × Nat × Nat × Nat × Bool)
  /-- Pixels of the group that have reached n = 256 (R440). -/
  full : List Nat
  flat : Option Flat
  run : Option CalRun
  /-- Elements measured in the present drift cycle, by item × 2^20 + index, and when the cycle began (R435). -/
  measured : Store Bool
  cycleAt : Nat
  /-- Events 0x0014 of the present drift cycle, or of the power-up sequence (R427). -/
  events : Nat
  /-- When the Coachman may stage the next class B change (R431). -/
  nextB : Nat
  deriving DecidableEq, Repr


/-- A track context (R218). Positions have 6 fraction bits, velocities 8, accelerations 16. -/
structure Track where
  /-- 0 FREE, 1 OPEN, 2 DECIDED, 3 DRAINED (R219). -/
  state : Nat
  objId : Nat
  parent : Nat
  firstTick : Nat
  lastTick : Nat
  time : Time
  x : Int
  y : Int
  vx : Int
  vy : Int
  ax : Int
  ay : Int
  camMask : Nat
  sight : Nat
  miss : Nat
  flags : Nat
  repArea : Nat
  cls : Nat
  action : Nat
  conf : Nat
  dTick : Nat
  firstValve : Nat
  row : Nat
  valveCount : Nat
  pending : Nat
  lastFire : Nat
  /-- The 64 fused features (R220). -/
  fused : List Nat
  /-- R233 ended the DECIDED track: it becomes FREE when PENDING reaches 0. -/
  ended : Bool
  deriving DecidableEq, Repr

/-- A FREE context. -/
def Track.free : Track :=
  { state := 0, objId := 0, parent := 0, firstTick := 0, lastTick := 0, time := 0, x := 0, y := 0, vx := 0, vy := 0,
    ax := 0, ay := 0, camMask := 0, sight := 0, miss := 0, flags := 0, repArea := 0, cls := 0, action := 0, conf := 0,
    dTick := 0, firstValve := 0, row := 0, valveCount := 0, pending := 0, lastFire := 0, fused := [], ended := false }

/-- The tracker (R217). -/
structure Tracker where
  tracks : Store Track
  /-- The bank role of the previous allocation. -/
  lastRole : Nat
  /-- The next OBJ_ID. -/
  nextId : Nat
  /-- The edge at which SERVICE was last left: sightings of earlier frames start no track (R73). -/
  leftService : Nat
  /-- Untracked objects that arose after the decisions of every tick begun: the next tick decides them (R354). -/
  late : List Untracked
  deriving DecidableEq, Repr

/-- A queued valve pulse (R254, R257). -/
structure Pulse where
  valve : Nat
  direct : Bool
  /-- Port of a chained valve. -/
  port : Nat
  /-- Chain position, or direct valve number. -/
  pos : Nat
  openAt : Time
  closeAt : Time
  /-- Its open edge has been applied (R282), at the latch or the direct edge of this time (R260). -/
  opened : Bool
  latch : Time
  /-- The duty window of its commanded open (R255). -/
  window : Nat
  /-- The earliest decision tick that it serves. -/
  tick : Nat
  /-- OBJ_IDs of the tracks whose PENDING counts it. -/
  owners : List Nat
  deriving DecidableEq, Repr

/-- The passage of a decided object at a row (R251, R252). -/
structure Passage where
  objId : Nat
  row : Nat
  start : Time
  stop : Time
  valves : List Nat
  /-- The class that it has for merging. -/
  cls : Nat
  protect : Bool
  /-- The tick of the decision, and the valves on which a pulse of the object is queued at the row (R253). -/
  tick : Nat
  fired : List Nat
  deriving DecidableEq, Repr

/-- The ejection scheduler (R251 to R261). -/
structure Ejector where
  /-- Queued pulses, in the order of queuing. -/
  pulses : List Pulse
  passages : List Passage
  /-- The open and the close of a valve's last pulse whose close has been applied (R284). -/
  lastPulse : Store (Option (Time × Time))
  /-- On-time in ns, by window × 4,096 + valve (R255). -/
  duty : Store Nat
  /-- Is a position of a chained port commanded open after its last latch: by port × 256 + position (R280)? -/
  chain : Store Bool
  /-- Is a direct valve commanded open? -/
  direct : Store Bool
  /-- The tick from which SERVICE holds, while the drain of R72 is under way. -/
  drain : Option Nat
  /-- The undecided tracks of that drain have been released. -/
  released : Bool
  deriving DecidableEq, Repr

/-- What an engine does between the start of an operation and its completion. -/
inductive WvBusy where
  /-- Ready to read its table. -/
  | ready
  /-- A NOP until a time (R273). -/
  | pause (until_ : Nat)
  /-- A PULL, PUSH, SHIFT_OUT or SHIFT_IN that cannot complete, or start, yet; with its ARG. -/
  | pull
  | push
  | shiftOut (arg : Nat)
  | shiftIn (arg : Nat)
  /-- WAIT_TIME. -/
  | wait
  /-- A LATCH_AT whose TIME has not come: mask, levels, ACK. -/
  | latch (mask level : Nat) (ack : Bool)
  /-- HALT (R279), or an engine that has stopped. -/
  | halted
  deriving DecidableEq, Repr

/-- A shift under way (R275). -/
structure WvShift where
  out : Bool
  bits : Nat
  width : Nat
  half : Nat
  /-- The timebase clock at its start. -/
  start : Nat
  /-- Bits that SR has already shifted by. -/
  moved : Nat
  /-- The stalls of the engine in which the shifter idles, oldest first: the timebase clock at which each began, and at which
  it ended (R274). -/
  pauses : List (Nat × Option Nat)
  deriving DecidableEq, Repr

/-- A Weevil engine (R266). -/
structure Engine where
  /-- It runs the program of a role. -/
  role : Option Nat
  state : Nat
  /-- NEXT of the operation under way. -/
  next : Nat
  busy : WvBusy
  shift : Option WvShift
  tx : List Word
  rx : List Word
  sr : Word
  time : Time
  cap : Time
  /-- The lane and polarity that a CAPTURE armed; and whether that capture has taken place. -/
  armed : Option (Nat × Bool)
  captured : Bool
  /-- Lane levels and output enables, one bit a lane. -/
  lanes : Nat
  oe : Nat
  /-- When its RX FIFO was last drained, plus 1 (R278). -/
  drained : Nat
  /-- TIME of its last LATCH_AT (R276). -/
  lastLatch : Option Time
  deriving DecidableEq, Repr

/-- An engine that serves no role. -/
def Engine.init : Engine :=
  { role := none, state := 0, next := 0, busy := .ready, shift := none, tx := [], rx := [], sr := 0, time := 0,
    cap := 0, armed := none, captured := false, lanes := 0, oe := 0, drained := 0, lastLatch := none }

/-- A record for a role (R280, R281), and whether it is written again under R283. -/
structure WvRecord where
  words : List Word
  replay : Bool
  deriving DecidableEq, Repr

/-- A Weevil role beyond its registers. -/
structure WvRole where
  /-- The engine that drives the role's pins. -/
  engine : Nat
  /-- Active program bank; a program has been swapped in. -/
  bank : Nat
  loaded : Bool
  halted : Bool
  /-- Its pins are held at SAFE (R287). -/
  safe : Bool
  /-- A thermal shutdown has stopped its engine for good (R287). -/
  stopped : Bool
  /-- A program swap awaits a safe state since (R288). -/
  swap : Option Nat
  /-- The role awaits its hand-over to another engine since (R291). -/
  move : Option Nat
  /-- Records handed and not acknowledged, oldest first (R283). -/
  unacked : List WvRecord
  /-- Those of them that wait for room in the TX FIFO. -/
  waiting : List WvRecord
  /-- The holds of the timebase: the count at which each began, and the one that it was stepped to (R277, R292). -/
  stepped : List (Time × Time)
  /-- The positions that the last record applied left open, and one more than the reading of the timebase clock at which
  one of them opened at a step of the timebase, 0 elsewhere (R262). -/
  openNow : List Nat
  openedAt : Store Nat
  deriving DecidableEq, Repr

/-- A role whose engine is its own number, without a program. -/
def WvRole.init (r : Nat) : WvRole :=
  { engine := r, bank := 0, loaded := false, halted := false, safe := false, stopped := false, swap := none, move := none,
    unacked := [], waiting := [], stepped := [], openNow := [], openedAt := [] }

/-- The thermal machine (R449 to R462) beyond its registers. -/
structure Thermal where
  /-- Samples in a row that qualify for a crossing, by threshold × 2 + direction (0 rising, 1 falling). -/
  runs : Store Nat
  /-- When T_TRIP crossed and the orderly shutdown began (R458). -/
  trip : Option Nat
  /-- The hot reading at that crossing (R471). -/
  tripTemp : Nat
  /-- The first edge after the trip has come: the device queues no pulse (R262, R458). -/
  noPulse : Bool
  /-- When the grace timer started (R456). -/
  grace : Option Nat
  /-- The oscillator of a site that is retired: 0 none, 1 the first, 2 the second (R450). -/
  retired : Store Nat
  /-- Samples taken since the TEMP step of the start, up to 8 (R454). -/
  startSamples : Nat
  /-- A sample has been taken since reset: THM_PEAK holds a hot reading (R471). -/
  sampled : Bool
  /-- The device is in OFF after a thermal shutdown (R455). -/
  shut : Bool
  /-- SERVICE is in force for cold: the hold of R462 has come, and its lift has not. -/
  coldHeld : Bool
  deriving DecidableEq, Repr

/-- The exposure governor (R119 to R122) beyond its registers. -/
structure Governor where
  /-- One more than the tick at which it last evaluated. -/
  last : Nat
  /-- The tick at whose edge its last change applied. -/
  since : Nat
  deriving DecidableEq, Repr

/-- Why the standby Coachman restarts (R510, R512, R513). -/
inductive CoachWhy where
  /-- FW_ACTIVATE: it restarts on the verified bank; with the mailbox incarnation whose command waits. -/
  | activate (notify : Option Nat)
  /-- FW_CONFIRM: it restarts on the confirmed bank. -/
  | confirm (notify : Option Nat)
  /-- It restarts on the confirmed bank after a takeover from it. -/
  | plain
  deriving DecidableEq, Repr

/-- Why the standby takes the lead (R510, R512, R513). -/
inductive TakeWhy where
  | activate (notify : Option Nat)
  /-- A trial falls back. -/
  | fallback
  /-- The watchdog of the lead expired outside a trial. -/
  | watchdog
  deriving DecidableEq, Repr

/-- The Coachmen (R506 to R513) beyond their registers. -/
structure Coach where
  /-- A Coachman has started (R507). -/
  started : Bool
  /-- The firmware bank that Coachman A and Coachman B run: 0 bank A, 1 bank B. -/
  bankA : Nat
  bankB : Nat
  /-- The standby restarts; none where it is ready. -/
  restart : Option CoachWhy
  /-- A takeover that waits for the first edge at or after a time. -/
  takeover : Option (Time × TakeWhy)
  /-- A takeover that is to be asked for once the standby, which restarts, is ready. -/
  wanted : Option TakeWhy
  /-- The watchdog of the lead expired: it restarts when the standby takes the lead. -/
  expired : Bool
  /-- When the trial under way began. -/
  trial : Option Nat
  deriving DecidableEq, Repr

/-- The configuration digest (R518, R519): D in force (empty before the device first forms it), and the expected one. -/
structure Digest where
  value : List Byte
  expected : Option (List Byte)
  deriving DecidableEq, Repr

/-- The I3C target (R525): its dynamic address, and the events that ENEC enabled. -/
structure I3c where
  addr : Option (BitVec 7)
  events : Byte
  deriving DecidableEq, Repr

/-- A change of power state that waits (R464, R493): 0 ACTIVE, 1 IDLE, 2 STANDBY, 3 a clean shutdown; with the mailbox
incarnation whose POWER_STATE waits. -/
structure PowerReq where
  target : Nat
  notify : Option Nat
  deriving DecidableEq, Repr

/-- Power states (R463 to R469, R493) beyond their registers. -/
structure Power where
  request : Option PowerReq
  /-- A wake source has fired in IDLE or STANDBY, and ACTIVE is still to be reached (R467). -/
  waking : Bool
  /-- The Moult runs (R493). -/
  moulting : Bool
  deriving DecidableEq, Repr
/-- A WV_IO pin beyond the level at it. -/
structure WvPin where
  /-- The level that stands at it from outside where the device does not drive it. -/
  outside : Bool
  /-- The device drives it. -/
  driven : Bool
  /-- Changes of its level, newest first: the timebase clock of each and the level before it. A lane reads what lies two
  engine cycles back (R269), and a SHIFT_IN samples within the 2,560 ns of the longest shift (R275). -/
  edges : List (Nat × Bool)
  deriving DecidableEq, Repr

/-- A pin that has been low and undriven. -/
def WvPin.init : WvPin := { outside := false, driven := false, edges := [] }

/-- The states of the test access port that the commands tell apart (R537, R543): held in reset by TRST_N, idle, and shifting
a data register or the instruction register. -/
inductive TapState where
  | testLogicReset | runTestIdle | shiftDr | shiftIr
  deriving DecidableEq, Repr

/-- The state of the block. -/
structure State where
  /-- Real time in ns: the model's own clock, by which elapsed times are measured (log 1). -/
  now : Nat
  /-- The timebase (R295). -/
  tb : Time
  /-- The timebase has started (R295: at the first lock of LOOP_T after RESET_N rises). -/
  tbStarted : Bool
  /-- The elapsed-time counter of the timebase clock domain: it counts with the timebase, and neither a load nor a step
  changes it (R107). -/
  clk : Nat
  tbu : Timebase
  clocks : Clocks
  /-- RESET_N is low, or a brownout holds the device in reset (R533, R535). -/
  inReset : Bool
  /-- The level of RESET_N, and whether a rail is low (R533, R535): the device is in reset while either holds it there. -/
  resetN : Bool
  railLow : Bool
  /-- When the device last left reset. -/
  startAt : Nat
  /-- The device power state OFF (R463). -/
  off : Bool
  /-- The model's own: how many free values a run has used (log 5). -/
  freeCtr : Nat
  /-- The registers, by address in the model's register space; an unlisted one holds its reset value. -/
  regs : Store Word
  /-- What the device has written to host memory. -/
  hostMem : Store Byte
  /-- What the device has sent on the link beside memory accesses, latest first. -/
  sent : List Msg
  /-- The value that the last read of a register returned. -/
  rdata : Word
  /-- The bytes that the last I3C read, or the last block read, returned. -/
  rbytes : List Byte
  /-- The level of each pin, by the source coding of R311: TRIG_IN 0 to 3, TRIG_OUT 4 to 7, FF 8 to 15, TSYNC_IN 16,
  TSYNC_OUT 17, WV_IO 64 to 127. -/
  pins : Store Bool
  wvPins : Store WvPin
  pcie : Pcie
  rings : Store Ring
  archive : Archive
  icx : Icx
  /-- SEQ of the next event (R383). -/
  evSeq : Nat
  /-- One more than the time of the last event under each rate limit, by event code × 16 + camera (R68, R97, R116, R162). -/
  evtLimit : Store Nat
  /-- Fireflies that have had a pulse suppressed since the last event 0x0005 (R116). -/
  suppressedMask : Nat
  /-- Items staged and not committed, by group, in staging order (R368). -/
  groups : Store (List Item)
  /-- Groups accepted and not applied, in order of acceptance. -/
  accepted : List Accepted
  loads : List Load
  tables : Tables
  /-- Changes the management plane has staged, oldest first (R26, R34). -/
  mgmt : List Mgmt
  hostWatch : HostWatch
  /-- The model's own: how many times PF1 has been reset. A mailbox command that waits names the count at its start, and
  its completion is written only while the count stands (R333). -/
  mboxGen : Nat
  seq : Sequencer
  /-- The registers that STAGE_REG may name, as the host last set them, and the mode last set by the host (R518). -/
  cfgHost : Store Word
  hostMode : Nat
  /-- Frames whose work is not done, and the newest frame, oldest first. -/
  frames : List Frame
  fireflies : Store Firefly
  trigOuts : Store TrigOut
  camFrames : List CamFrame
  /-- One more than the tick to which the last frame of a camera belonged. -/
  camLast : Store Nat
  cal : Cal
  bg : Background
  statFrame : Option StatFrame
  /-- The time of the last frame that the display stream of a camera carried (R200). -/
  dspLast : Store (Option Time)
  tracker : Tracker
  ej : Ejector
  /-- Weevil engines and roles, by number. -/
  engines : Store Engine
  wvRoles : Store WvRole
  spares : Spares
  nvm : Nvm
  thermal : Thermal
  gov : Governor
  coach : Coach
  digest : Digest
  i3c : I3c
  power : Power
  /-- The instruction in force at the JTAG port (R543). -/
  jtag : JtagIns
  /-- The state of the test access port (R537, R543). -/
  tap : TapState
  /-- Commands that wait, first in, first out. -/
  pending : List Instr
  deriving DecidableEq, Repr

/-- Why a step stops with a fault. -/
inductive Fault where
  /-- Raised by SHIFT_OUT and CAPTURE where the engine's entry holds width code 3 or MODE 3, which R273 calls invalid. A
  program that R271 checked holds neither; one that a direct write of WV_SWAP put in force may. Safe: nothing is claimed
  of what the engine does. -/
  | weevilInvalidOp
  deriving DecidableEq, Repr

/-- Why a step is refused. -/
inductive Refusal where
  /-- Raised by the arm of a command that has no meaning yet. Safe: nothing is claimed of it. -/
  | notModelled (mnemonic : String)
  deriving DecidableEq, Repr

/-- The spares as a start leaves them when no unit is retired. -/
def Spares.init : Spares :=
  { units := [], holder := [], epoch := [], lost := [], noSpare := [], kept := [], buckets := [], queue := [], tests := [], turn := [], turnAt := [], resent := [], accepted := [] }

/-- The non-volatile state of a part that has never run: life-cycle FIELD, bank A confirmed, no owner, nothing in the
log (DESIGN CHOICE, log 14). -/
def Nvm.init : Nvm :=
  { bytes := [], lifecycle := 3, rights := 3, keysErased := false, rollback := 0, bankA := 3, bankB := 0,
    confirmed := 0, bankRec := (3, 0, 0), wearRec := [], owner := [], ownerSeq := none, logBase := 65536, logTail := 65536, seq := 0, notes := [], faults := [], faultSeq := 0, boot := 0, mapUnits := [],
    mapHolder := [], mapKept := [], snapshot := none, moult := 0, moultRecord := none, moultConsumed := false, ageCharged := none, fullNext := false,
    erases := [], reserve := 64, noReserve := false, shutCause := 0, shutCut := false, shutTemp := 0, shutNoted := true, actAtStart := false, jobs := [],
    cold := [] }

/-- The state right after reset. -/
def State.reset : State :=
  { now := 0, tb := 0, tbStarted := false, clk := 0,
    tbu := { cmps := [], shadow := [], lastEdge := [], syncSeen := false, syncEdges := [], syncOutAt := none, ptmPending := false, ptmSince := 0 },
    clocks := { gated := [], noStandIn := [], refLost := false, holdSince := none, lostRole := [], dividers := [], divBuffer := [], refEdge := none }, inReset := true, resetN := false, railLow := false, startAt := 0, off := false, freeCtr := 0, regs := [], hostMem := [], sent := [], rdata := 0, rbytes := [], pins := [], wvPins := [],
    pcie := { link := .down, perst := true, failClr := false, f0 := PciFn.init, f1 := PciFn.init, heldMsgs := [], heldWrites := [], heldItems := [], laneEvent := false, fetchRound := [], laneErrs := [], vecSent := [], eqDraw := none, eq16 := false, margin := [] },
    rings := [], archive := { blocks := [], seq := 0, sinceReport := 0 },
    icx := { a := ⟨false, [], [], []⟩, b := ⟨false, [], [], []⟩, host := ⟨false, [], [], []⟩, windows := [], latched := [], lockSince := 0, stoppedAt := 0 },
    evSeq := 0, evtLimit := [], suppressedMask := 0, groups := [], accepted := [], loads := [],
    tables := { bytes := [], active := [], incomplete := [], entries := [], swapTick := [] }, mgmt := [],
    hostWatch := { since := 0, absentSince := 0, policy := 0, row := 0 }, mboxGen := 0,
    seq := { due := none, first := false, start := none, fresh := false, base := 0, baseClk := 0, lastClk := 0, div := 0, throttle := false, tmin := 0 },
    cfgHost := [], hostMode := 7, frames := [], fireflies := [], trigOuts := [], camFrames := [], camLast := [],
    cal := { entries := [], drift := [], suspectRefs := [], group := 0, examined := 0, counts := [], full := [], flat := none, run := none, measured := [], cycleAt := 0, events := 0, nextB := 0 },
    bg := { value := [], run := [], taps := [] }, statFrame := none, dspLast := [],
    tracker := { tracks := [], lastRole := 15, nextId := 0, leftService := 0, late := [] },
    ej := { pulses := [], passages := [], lastPulse := [], duty := [], chain := [], direct := [], drain := none, released := false },
    engines := [], wvRoles := [], spares := Spares.init, nvm := Nvm.init,
    thermal := { runs := [], trip := none, tripTemp := 0, noPulse := false, grace := none, retired := [], startSamples := 0, sampled := false, shut := false, coldHeld := false },
    gov := { last := 0, since := 0 },
    coach := { started := false, bankA := 0, bankB := 0, restart := none, takeover := none, wanted := none, expired := false, trial := none },
    digest := { value := [], expected := none }, i3c := { addr := none, events := 0 },
    power := { request := none, waking := false, moulting := false }, jtag := .idcode, tap := .testLogicReset,
    pending := [] }

end Sys2Proof.Machine
end

