-- ==== Sys2Proof/Machine/Ops.lean ====
section
/-! DEFINITION. The named operations over registers, pins and time that every meaning uses. -/

namespace Sys2Proof.Machine

/-! ## Registers -/

/-- The value held by the register at `a`. -/
def State.reg (s : State) (a : Nat) : Word := s.regs.get regReset a

/-- The register at `a` takes `v`. -/
def State.setReg (s : State) (a : Nat) (v : Word) : State := { s with regs := s.regs.set regReset a v }

/-- The value of a field. -/
def State.fld (s : State) (f : Fld) : Nat := getBits (s.reg f.addr).toNat f.hi f.lo

/-- Is a one-bit field 1? -/
def State.flag (s : State) (f : Fld) : Bool := s.fld f == 1

/-- A field takes `v` (its low bits, as many as the field has). -/
def State.setFld (s : State) (f : Fld) (v : Nat) : State :=
  s.setReg f.addr (BitVec.ofNat 32 (putBits (s.reg f.addr).toNat f.hi f.lo v))

/-- A one-bit field takes a truth value. -/
def State.setFlag (s : State) (f : Fld) (b : Bool) : State := s.setFld f (boolNat b)

/-- A counter field counts `n` and stays at its largest value. -/
def State.count (s : State) (f : Fld) (n : Nat) : State := s.setFld f (satAdd f.width (s.fld f) n)

/-- The 64-bit value whose low half is the register at `a` and whose high half is the register after it. -/
def State.wide (s : State) (a : Nat) : Nat := (s.reg a).toNat + 2 ^ 32 * (s.reg (a + 4)).toNat

/-- Both halves of a 64-bit value are written. -/
def State.setWide (s : State) (a v : Nat) : State :=
  (s.setReg a (BitVec.ofNat 32 v)).setReg (a + 4) (BitVec.ofNat 32 (v / 2 ^ 32))

/-- A write by host software of a register of plain fields (R10): RW fields take the written bits, W1C fields lose the
bits written 1, and every other bit keeps its value. -/
def plainWrite (rw w1c old v : Word) : Word := (old &&& ~~~rw &&& ~~~(w1c &&& v)) ||| (v &&& rw)

/-- The plain write of a register of the map; a reserved offset discards it (R319). -/
def State.plainWriteReg (s : State) (a : Nat) (v : Word) : State :=
  match regRow a with
  | some r => s.setReg a (plainWrite (BitVec.ofNat 32 r.rw) (BitVec.ofNat 32 r.w1c) (s.reg a) v)
  | none => s

/-! ## Free values -/

/-- Draws a free value (log 5). -/
def State.free (s : State) : Nat × State := (Config.freeNat s.freeCtr, { s with freeCtr := s.freeCtr + 1 })

/-! ## Pins -/

/-- The level of a pin, by the source coding of R311. -/
def State.pin (s : State) (n : Nat) : Bool := s.pins.get (fun _ => false) n

/-- When the last edge at the pad of a source code came, and when the one before it, each one more; 0 with none (R302). -/
def State.lastEdge (s : State) (n : Nat) : Nat := s.tbu.lastEdge.get (fun _ => 0) (2 * n)
def State.edgeBefore (s : State) (n : Nat) : Nat := s.tbu.lastEdge.get (fun _ => 0) (2 * n + 1)

/-- An edge comes at the pad of a source code now. -/
def State.markEdge (s : State) (n : Nat) : State :=
  { s with tbu := { s.tbu with lastEdge :=
      (s.tbu.lastEdge.set (fun _ => 0) (2 * n + 1) (s.lastEdge n)).set (fun _ => 0) (2 * n) (s.now + 1) } }

/-- A pin takes a level. -/
def State.putPin (s : State) (n : Nat) (b : Bool) : State := { s with pins := s.pins.set (fun _ => false) n b }

/-- A pin takes a level; where it changes, that is an edge at its pad. -/
def State.setPin (s : State) (n : Nat) (b : Bool) : State :=
  { s.putPin n b with tbu := if s.pin n = b then s.tbu else (s.markEdge n).tbu }

/-- A WV_IO pin beyond its level. -/
def State.wvPinInfo (s : State) (n : Nat) : WvPin := s.wvPins.get (fun _ => WvPin.init) n

/-- A WV_IO pin beyond its level is changed. -/
def State.modWvPin (s : State) (n : Nat) (f : WvPin → WvPin) : State :=
  { s with wvPins := s.wvPins.modify (fun _ => WvPin.init) n f }

/-- The level at WV_IO pin `n` becomes `b`. Changes within the time of the longest shift and of two engine cycles are kept
with their times (R269, R275). -/
def State.setWvPin (s : State) (n : Nat) (b : Bool) : State :=
  if s.pin (64 + n) = b then s
  else (s.setPin (64 + n) b).modWvPin n fun x =>
    { x with edges := (s.clk, !b) :: x.edges.filter fun e => decide (s.clk < e.1 + 2600) }

/-- An edge at WV_IO pin `n`: where the device does not drive the pin, its level from outside changes. -/
def State.wvEdge (s : State) (n : Nat) (b : Bool) : State :=
  if (s.wvPinInfo n).driven then s else (s.modWvPin n fun x => { x with outside := b }).setWvPin n b

/-- Does the device drive the pin of a source code of R311? -/
def State.drivesPin (s : State) (src : Nat) : Bool :=
  if 64 ≤ src then (s.wvPinInfo (src - 64)).driven else decide (4 ≤ src) && src != 16

/-- An edge at the pin of a source code of R311. -/
def State.pinEdge (s : State) (src : Nat) (b : Bool) : State :=
  if 64 ≤ src then s.wvEdge (src - 64) b else s.setPin src b

/-! ## Host memory -/

/-- The byte of host memory at an address, as far as the device wrote it (0 where it has not). -/
def State.memByte (s : State) (a : Nat) : Byte := s.hostMem.get (fun _ => 0) a

/-- The device writes bytes to host memory from an address on (addresses are 64 bits wide). -/
def State.writeMem (s : State) (a : Nat) (bs : List Byte) : State :=
  { s with hostMem := s.hostMem.setMany (fun _ => 0) (a % 2 ^ 64) bs }

/-! ## Time -/

/-- Is the timebase counting? (R295, R418) -/
def State.tbRuns (s : State) : Bool :=
  s.tbStarted && !s.flag .TB_STAT_HELD && !s.inReset && !s.off

/-- Does the device act at all (R463, R535)? -/
def State.alive (s : State) : Bool := !s.inReset && !s.off

/-- Power state STANDBY? -/
def State.standby (s : State) : Bool := s.fld .PWR_STATE_STATE == 2

/-- Is the domain of a clock role gated off for want of its loop? Roles are 0 C, 1 X, 2 T. -/
def State.lossGated (s : State) (role : Nat) : Bool := (s.clocks.gated.get (fun _ => none) role).isSome

/-- Is the domain of a clock role gated off: for want of its loop, or, of role X, in IDLE and STANDBY (R463)? -/
def State.gated (s : State) (role : Nat) : Bool :=
  s.lossGated role || (role == 1 && s.fld .PWR_STATE_STATE != 0)

/-! ## The tick registers -/

/-- The number of the last tick edge (HIF_TICK). -/
def State.lastTick (s : State) : Nat := s.fld .HIF_TICK_LO_TICK_LO + 2 ^ 32 * s.fld .HIF_TICK_HI_TICK_HI

/-- The config tag in force since the last edge. -/
def State.cfgTag (s : State) : Word := s.reg Reg.HIF_CFG_TAG

/-- Is HIF_RUN.RUN 1? -/
def State.run (s : State) : Bool := s.flag .HIF_RUN_RUN

/-- Is HIF_STAT.RUNNING 1? -/
def State.running (s : State) : Bool := s.flag .HIF_STAT_RUNNING

/-- The mode in force (R53). -/
def State.mode (s : State) : Nat := s.fld .HIF_MODE_MODE

end Sys2Proof.Machine
end

