-- ==== Sys2Proof/Machine/Pads.lean ====
section
/-! DEFINITION. The pads as the Weevil engines drive them (R265, R267, R270, R275, R286, R287), and the passing of time, which
counts what stands at the pads (R306, R308). The time of an engine is counted on the timebase clock, in ns; one engine
cycle is 2.5 ns. -/

namespace Sys2Proof.Machine

/-! ## Tables -/

/-- The key of a table of R369. -/
def tableKey (table index : Nat) : Nat := table * 256 + index

/-- Where a byte of a bank of a table is kept. -/
def tableAddr (key bank offset : Nat) : Nat := (key * 2 + bank) * 2 ^ 24 + offset

/-- The bank in force of a table. -/
def State.activeBank (s : State) (key : Nat) : Nat := s.tables.active.get (fun _ => 0) key

/-- The reset contents of the tables, by table key and offset: NR_LUT and DM_LUT (R194), unity gains in FF_FINE,
FF_COARSE and FF_COLUMN (R193), an empty valve map (R247). A byte that no rule fixes (the forest and the Weevil
programs) is 0 (log 9). -/
def tableReset (a : Nat) : Byte :=
  let off := a % 2 ^ 24
  let table := a / 2 ^ 33
  if table = 0x20 then
    (if off < 64 then BitVec.ofNat 8 (255 - 16 * off)
     else if off < 128 then BitVec.ofNat 8 (min 255 (256 / (off - 64 + 1))) else 0)
  else if table = 0x22 then 128
  else if table = 0x23 ∨ table = 0x24 then (if off % 2 = 0 then 0x00 else 0x40)
  else 0

/-- Bytes of a bank of a table. -/
def State.tableBytes (s : State) (key bank off n : Nat) : List Byte :=
  s.tables.bytes.getMany tableReset (tableAddr key bank off) n

/-! ## Roles, engines and programs -/

/-- A Weevil role. -/
def State.wvRole (s : State) (r : Nat) : WvRole := s.wvRoles.get WvRole.init r

/-- A Weevil role is changed. -/
def State.modWv (s : State) (r : Nat) (f : WvRole → WvRole) : State :=
  { s with wvRoles := s.wvRoles.modify WvRole.init r f }

/-- An engine. -/
def State.engine (s : State) (e : Nat) : Engine := s.engines.get (fun _ => Engine.init) e

/-- An engine is changed. -/
def State.modEngine (s : State) (e : Nat) (f : Engine → Engine) : State :=
  { s with engines := s.engines.modify (fun _ => Engine.init) e f }

/-- The table of a role's programs (R267). -/
def wvKey (r : Nat) : Nat := tableKey (0x40 + r) 0

/-- Bytes of the header of a program bank (R267). -/
def State.wvHeader (s : State) (r bank off n : Nat) : Nat := leNat (s.tableBytes (wvKey r) bank off n)

/-- Bytes of the header of the program that a role runs. -/
def State.wvProg (s : State) (r off n : Nat) : Nat := s.wvHeader r (s.wvRole r).bank off n

/-- Is a state a safe state of the role's program (SAFE_MASK)? -/
def State.wvSafeState (s : State) (r st : Nat) : Bool := bitOf (s.wvProg r 0 8) st

/-- The idle level of the shift clock (CPOL). -/
def State.wvCpol (s : State) (r : Nat) : Bool := bitOf (s.wvProg r 9 1) 0

/-- The mode of a lane (R270). -/
def State.laneMode (s : State) (r l : Nat) : Nat := s.wvProg r 12 4 / 16 ^ l % 16

/-- The lanes of a mode, in ascending order. -/
def State.lanesOf (s : State) (r mode : Nat) : List Nat := (List.range 8).filter fun l => s.laneMode r l == mode

/-- Is a lane an output (R270)? -/
def State.laneOut (s : State) (r l : Nat) : Bool :=
  s.laneMode r l == 0 || s.laneMode r l == 2 || s.laneMode r l == 3 || s.laneMode r l == 5

/-! ## The shifter -/

/-- ns of one clock period of a shift (R275). -/
def WvShift.period (x : WvShift) : Nat := 5 * (x.half + 1)

/-- The clock periods of a shift. -/
def WvShift.total (x : WvShift) : Nat := x.bits / x.width

/-- ns for which a shift has run: the shifter idles while its engine stalls (R274, log 36). -/
def WvShift.run (x : WvShift) (clk : Nat) : Nat :=
  x.pauses.foldl (fun t p => t - (min clk (p.2.getD clk) - p.1)) (clk - x.start)

/-- The engine of a shift stalls. -/
def WvShift.pause (x : WvShift) (clk : Nat) : WvShift := { x with pauses := x.pauses ++ [(clk, none)] }

/-- The stall of a shift's engine ends. -/
def WvShift.resume (x : WvShift) (clk : Nat) : WvShift :=
  { x with pauses := x.pauses.map fun p => (p.1, some (p.2.getD clk)) }

/-- Does the engine of a shift stall now? -/
def WvShift.paused (x : WvShift) : Bool := x.pauses.any fun p => p.2.isNone

/-- The periods of a shift that have begun: data lanes change at the start of a period. -/
def WvShift.begun (x : WvShift) (clk : Nat) : Nat := min x.total (x.run clk / x.period + 1)

/-- The bits that a SHIFT_IN has sampled: at the rising clock edges. -/
def WvShift.sampled (x : WvShift) (cpol : Bool) (clk : Nat) : Nat :=
  min x.total (if cpol then x.run clk / x.period else (2 * x.run clk + x.period) / (2 * x.period))

/-- Has a shift run all its periods? -/
def WvShift.over (x : WvShift) (clk : Nat) : Bool := decide (x.total * x.period ≤ x.run clk)

/-- Is the shift clock of a shift away from its idle level? -/
def WvShift.clockActive (x : WvShift) (clk : Nat) : Bool :=
  !x.over clk && decide (x.period ≤ 2 * (x.run clk % x.period))

/-- Twice the timebase clock of the rising clock edge of period `k` of a shift (R275). -/
def WvShift.riseTwice (x : WvShift) (cpol : Bool) (k : Nat) : Nat :=
  x.pauses.foldl (fun t p => if 2 * p.1 < t then t + 2 * (p.2.getD p.1 - p.1) else t)
    (2 * x.start + (if cpol then 2 * (k + 1) else 2 * k + 1) * x.period)

/-- Lane levels with those of the data lanes replaced: data lane i shows bit 31 − i of a word. -/
def putData (lanes : Nat) (data : List Nat) (width : Nat) (w : Word) : Nat :=
  (data.take width).zipIdx.foldl (fun m e => putBit m e.1 (w.getLsbD (31 - e.2))) lanes

/-- R273, R275: an engine brought up to the present: a NOP whose cycles have passed is complete, and SR and the data lanes
stand where a shift under way has brought them. `sample` gives the level that a SHIFT_IN takes at its rising clock edges. -/
def Engine.upTo (x : Engine) (data : List Nat) (cpol : Bool) (sample : WvShift → Nat → Bool) (clk : Nat) : Engine :=
  let y := match x.busy with
    | .pause t => if t ≤ clk then { x with busy := .ready, state := x.next } else x
    | _ => x
  match y.shift with
  | some h =>
    let n := if h.out then h.begun clk * h.width else h.sampled cpol clk
    if n ≤ h.moved then y
    else if h.out then
      { y with
        lanes := putData y.lanes data h.width (y.sr <<< (n - h.moved - h.width))
        sr := y.sr <<< (n - h.moved), shift := some { h with moved := n } }
    else
      { y with
        sr := ((List.range n).drop h.moved).foldl (fun w k => (w <<< 1) ||| BitVec.ofNat 32 (boolNat (sample h k))) y.sr
        shift := some { h with moved := n } }
  | none => y

/-- The level at a WV_IO pin that the device does not drive, at a time given as twice the timebase clock. -/
def State.pinAt (s : State) (n twice : Nat) : Bool :=
  match ((s.wvPinInfo n).edges.filter fun e => decide (twice < 2 * e.1)).getLast? with
  | some e => e.2
  | none => s.pin (64 + n)

/-- The pins that name a role (R286). -/
def State.pinsOf (s : State) (r : Nat) : List Nat := (List.range 64).filter fun n => s.fld (.WV_PIN_ROLE n) == r

/-- The lowest pin that names a lane of a role (R286). -/
def State.lanePin (s : State) (r l : Nat) : Option Nat := (s.pinsOf r).find? fun n => s.fld (.WV_PIN_LANE n) == l

/-- R275, R286: the level that a SHIFT_IN of a role samples at the rising clock edge of period `k`: that at the lowest pin
of its SHIFT_IN lane, or 0 where no pin names it. -/
def State.sampleIn (s : State) (r : Nat) (h : WvShift) (k : Nat) : Bool :=
  match (s.lanesOf r 4).head?.bind (s.lanePin r) with
  | some n => s.pinAt n (h.riseTwice (s.wvCpol r) k)
  | none => false

/-- An engine as it stands now. -/
def State.engineNow (s : State) (e : Nat) : Engine :=
  let x := s.engine e
  match x.role with
  | some r => x.upTo (s.lanesOf r 3) (s.wvCpol r) (s.sampleIn r) s.clk
  | none => x.upTo [] false (fun _ _ => false) s.clk

/-- An engine stops where it stands, and a shift with it (R279, R287). -/
def State.stopEngine (s : State) (e : Nat) : State :=
  s.modEngine e fun _ => { s.engineNow e with busy := .halted, shift := none }

/-- SR takes a value; the bits that a shift under way still moves follow it. -/
def State.writeSr (s : State) (e : Nat) (v : Word) : State := s.modEngine e fun x => { x with sr := v }

/-! ## Pins -/

/-- R287: are the pins of a role at their SAFE levels? -/
def State.pinsSafe (s : State) (r : Nat) : Bool :=
  let w := s.wvRole r
  w.safe || w.halted || !w.loaded || s.standby

/-- The level of a lane of the engine that drives a role. -/
def State.laneLevel (s : State) (r l : Nat) : Bool :=
  let x := s.engineNow (s.wvRole r).engine
  if s.laneMode r l = 2 then
    match x.shift with
    | some h => if h.clockActive s.clk then !s.wvCpol r else s.wvCpol r
    | none => bitOf x.lanes l
  else bitOf x.lanes l

/-- What a pin drives: none where it is high-Z (R286, R287). -/
def State.pinDrive (s : State) (n : Nat) : Option Bool :=
  let r := s.fld (.WV_PIN_ROLE n)
  let l := s.fld (.WV_PIN_LANE n)
  let w := s.wvRole r
  let level :=
    if !s.alive || 16 ≤ r then none
    else if s.pinsSafe r then
      (if w.loaded && !s.laneOut r l then none else some (s.flag (.WV_PIN_SAFE n)))
    else if s.laneOut r l && bitOf (s.engine w.engine).oe l then some (s.laneLevel r l)
    else none
  if s.flag (.WV_PIN_OD n) && level == some true then none else level

/-- The level of a WV_IO pin: what it drives, or what stands at it from outside. -/
def State.wvPin (s : State) (n : Nat) : Bool := (s.pinDrive n).getD (s.wvPinInfo n).outside

/-- A pin is driven from now on, or is not. -/
def State.setDriven (s : State) (n : Nat) : State :=
  s.modWvPin n fun x => { x with driven := (s.pinDrive n).isSome }

/-- A pin takes the level that stands at it now; where it changes, that is an edge at its pad. -/
def State.movePin (s : State) (n : Nat) : State := (s.setDriven n).setWvPin n (s.wvPin n)

/-- The pins of a role take the levels that they drive. -/
def State.drive (s : State) (r : Nat) : State := (s.pinsOf r).foldl State.movePin s

/-- Every WV_IO pin takes the level that it drives; a pin that names no role is high-Z (R286, R287). -/
def State.driveAll (s : State) : State :=
  (List.range 64).foldl (fun s n =>
    if (s.wvPinInfo n).driven && 16 ≤ s.fld (.WV_PIN_ROLE n) then
      (s.modWvPin n fun x => { x with driven := false }).setWvPin n (s.wvPinInfo n).outside
    else s) ((List.range 16).foldl (fun s r => s.drive r) s)

/-- The level of a WV_IO pin `d` ns ago. -/
def State.wvAgo (s : State) (n d : Nat) : Bool :=
  match ((s.wvPinInfo n).edges.filter fun e => decide (s.clk < e.1 + d)).getLast? with
  | some e => e.2
  | none => s.wvPin n

/-- The level of a WV_IO pin as a lane reads it: that of two engine cycles, 5 ns, ago (R269). -/
def State.wvSeen (s : State) (n : Nat) : Bool := s.wvAgo n 5

/-- The input level of a lane: that of the lowest pin that names it, two engine cycles ago (R269, R286). -/
def State.laneIn (s : State) (r l : Nat) : Bool :=
  match s.lanePin r l with
  | some n => s.wvSeen n
  | none => false

/-! ## The level at a pad -/

/-- The level at the pad of a source code of R311. -/
def State.padLevel (s : State) (src : Nat) : Bool := if 64 ≤ src then s.wvPin (src - 64) else s.pin src

/-- Does an edge come at a pad just now (R302)? -/
def State.padEdge (s : State) (src : Nat) : Bool := s.lastEdge src == s.now + 1

/-- An edge is told at the pad of a source: one that the device does not drive takes the level. -/
def State.toldEdge (s : State) (src : Nat) (rising : Bool) : State :=
  if s.drivesPin src then s
  else
    let t := s.pinEdge src rising
    if t.lastEdge src == t.now + 1 then t else t.markEdge src

/-- Does the pad of a source have the edge told of it (R302)? -/
def State.hasEdge (s : State) (src : Nat) (rising : Bool) : Bool :=
  !s.drivesPin src || (s.padLevel src == rising && s.padEdge src)

/-- Did the edge before the present one come at a pad less than 4 ns ago (R302)? -/
def State.closeEdge (s : State) (src : Nat) : Bool :=
  (s.lastEdge src == s.now + 1 && s.edgeBefore src != 0 && decide (s.now + 1 < s.edgeBefore src + 4)) ||
    (s.lastEdge src != s.now + 1 && s.lastEdge src != 0 && decide (s.now + 1 < s.lastEdge src + 4))

/-- The ns for which the shift that a role's engine runs still moves its pads: none while it idles. -/
def State.shiftLeft (s : State) (r : Nat) : Nat :=
  match (s.engine (s.wvRole r).engine).shift with
  | some h => if h.paused then 0 else h.total * h.period - h.run s.clk
  | none => 0

/-- For how many of the next `dt` counts does the pad of a source stand at a level (R306)? The pads of a shift under way are
looked at count by count. -/
def State.countsAt (s : State) (src dt : Nat) (level : Bool) : Nat :=
  let moving := if 64 ≤ src then min dt (s.shiftLeft (s.fld (.WV_PIN_ROLE (src - 64)))) else 0
  ((List.range moving).filter fun k => { s with clk := s.clk + k }.padLevel src == level).length +
    (if { s with clk := s.clk + moving }.padLevel src == level then dt - moving else 0)

/-! ## Time -/

/-- A gated counter counts `dt` where it is enabled, as long as its source stands at its level (R306). -/
def State.gateCount (s : State) (dt n : Nat) : State :=
  if s.flag (.GC_CTL_EN n) then
    s.setWide (Reg.GC_LO n) (s.wide (Reg.GC_LO n) + s.countsAt (s.fld (.GC_CTL_SRC n)) dt (s.flag (.GC_CTL_LEVEL n)))
  else s

/-- `dt` ns of real time pass at the clocks: the timebase and the gated counters count while the timebase runs (log 1). -/
def State.pass (s : State) (dt : Nat) : State :=
  if s.tbRuns then
    let t := (List.range 8).foldl (fun t n => t.gateCount dt n) s
    { t with now := s.now + dt, tb := timeAfter s.tb dt, clk := s.clk + dt }
  else { s with now := s.now + dt }

/-- The pins that a shift under way moves. -/
def State.shiftPins (s : State) : List Nat :=
  if s.engines.any fun e => e.2.shift.any fun h => !h.paused then
    (List.range 64).filter fun n => 0 < s.shiftLeft (s.fld (.WV_PIN_ROLE n))
  else []

/-- A pin takes the level that stands at it now, without an edge: those that moved it lie more than 5 ns back. -/
def State.placePin (s : State) (n : Nat) : State := (s.setDriven n).putPin (64 + n) (s.wvPin n)

/-- `dt` ns of real time pass, in which shifts under way move their pins. A lane reads what stood at a pin 5 ns ago (R269), and a
capture looks 4 ns back (R302), so the edges of the last 5 ns are taken one by one. -/
def State.elapse (s : State) (dt : Nat) : State :=
  let pins := if s.tbRuns then s.shiftPins else []
  if pins.isEmpty then s.pass dt
  else
    let n := min dt 5
    (List.range n).foldl (fun s _ => pins.foldl State.movePin (s.pass 1))
      (pins.foldl State.placePin (s.pass (dt - n)))

/-- R308: an edge of TSYNC_IN has come through, 5 ns after it: TSYNC_OUT follows it in REPEAT mode. -/
def State.syncThrough (s : State) (level : Bool) : State :=
  let s1 := { s with tbu := { s.tbu with syncSeen := level } }
  if s1.fld .TB_SYNC_OUT_MODE == 2 && !s1.standby && s1.alive then s1.setPin 17 level else s1

/-- R411: every buffer that was loaded transfers at the edge of REF_IN after it, once that has come. -/
def State.transferDividers (s : State) : State :=
  { s with clocks := { s.clocks with
      dividers := s.clocks.divBuffer.foldl (fun m e => m.set roleDividers e.1 e.2) s.clocks.dividers
      divBuffer := [], refEdge := none } }

/-- The edge of REF_IN that a loaded buffer waits for comes, unless REF_IN is lost (log 45). -/
def State.settleDividers (s : State) : State :=
  match s.clocks.refEdge with
  | some t => if t ≤ s.now && !s.clocks.refLost then s.transferDividers else s
  | none => s

/-- `dt` ns of real time pass, and the edges of TSYNC_IN that are 5 ns old come through on the way. -/
def State.advance (s : State) (dt : Nat) : State :=
  let due := s.tbu.syncEdges.filter fun e => decide (e.1 ≤ s.now + dt)
  let later := s.tbu.syncEdges.filter fun e => decide (s.now + dt < e.1)
  let t := due.foldl (fun t e => (t.elapse (e.1 - t.now)).syncThrough e.2) s
  (({ t with tbu := { t.tbu with syncEdges := later } }).elapse (s.now + dt - t.now)).settleDividers

end Sys2Proof.Machine
end

