-- ==== Sys2Proof/Machine/Msi.lean ====
section
/-! DEFINITION. What the device sends on the link of its own accord: MSI-X messages (R324, R325) and PME (R358). -/

namespace Sys2Proof.Machine

/-- The PCIe function PF0 (0) or PF1 (any other number). -/
def State.fn (s : State) (i : Nat) : PciFn := if i = 0 then s.pcie.f0 else s.pcie.f1

/-- A PCIe function is replaced. -/
def State.setFn (s : State) (i : Nat) (f : PciFn) : State :=
  { s with pcie := if i = 0 then { s.pcie with f0 := f } else { s.pcie with f1 := f } }

/-- R325: can a message of the function fall due? -/
def State.canSignal (s : State) (i : Nat) : Bool :=
  (s.fn i).msixEnable && !(s.fn i).msixMask && (s.fn i).busMaster && !(s.fn i).d3hot

/-- The entry of a vector. -/
def PciFn.vector (f : PciFn) (v : Nat) : MsixEntry := f.vectors.get (fun _ => MsixEntry.init) v

/-- Is a vector masked? -/
def PciFn.masked (f : PciFn) (v : Nat) : Bool := bitOf (f.vector v).control.toNat 0

/-- Where `go` holds, a message goes out, or is held while the link retrains (R321); in L2 none goes out (R328). -/
def State.emitIf (s : State) (go : Bool) (m : Msg) : State :=
  { s with
    pcie := { s.pcie with
      heldMsgs := if go && s.pcie.link = .retraining then s.pcie.heldMsgs ++ [m] else s.pcie.heldMsgs }
    sent := if go && s.pcie.link != .retraining && s.pcie.link != .l2 then m :: s.sent else s.sent }

/-- A message goes out, or is held while the link retrains (R321). -/
def State.emit (s : State) (m : Msg) : State := s.emitIf true m

/-- The message of a vector is sent with the address and data that its entry holds now (R325). -/
def State.sendVector (s : State) (i v : Nat) : State :=
  let e := (s.fn i).vector v
  s.emit (.msix i v (e.addrLo.toNat + 2 ^ 32 * e.addrHi.toNat) e.data)

/-- R325: a message of vector `v` falls due. On a masked vector it sets the pending bit. -/
def State.msixDue (s : State) (i v : Nat) : State :=
  if s.canSignal i then
    if (s.fn i).masked v then
      s.setFn i { s.fn i with pba := (s.fn i).pba.set (fun _ => false) v true }
    else s.sendVector i v
  else s

/-- R358: PME_Status is set, and a PME message goes out for each setting while PME_En is 1. -/
def State.setPme (s : State) (i : Nat) : State :=
  if (s.fn i).pmeStatus then s
  else
    let t := s.setFn i { s.fn i with pmeStatus := true }
    if (s.fn i).pmeEnable then t.emit (.pme i) else t

/-! ## Advanced error reporting -/

/-- The reset values of the words kept in `PciFn.caps`, those of the PCI Express standard (PRESUMED, log 11): AER severities
and masks, the Link Control 2 target speed, the margining commands and the L1 power-on time. -/
def capReset (off : Nat) : Word :=
  if off = 0xA0 then 4
  else if off = 0x10C then 0x62010
  else if off = 0x114 then 0x2000
  else if 0x1A8 ≤ off ∧ off ≤ 0x1B4 then 0x9C38
  else if off = 0x1CC then 0x28
  else 0

/-- A word of the capabilities as it is kept. -/
def PciFn.cap (f : PciFn) (off : Nat) : Word := f.caps.get capReset off

/-- Sets a bit of a kept word. -/
def PciFn.setCapBit (f : PciFn) (off bit : Nat) : PciFn :=
  { f with caps := f.caps.set capReset off (f.cap off ||| BitVec.ofNat 32 (2 ^ bit)) }

/-- R323: an uncorrectable error of a function is reported under AER: its status bit and that of the device status are set,
and where it is not masked a message goes out as the device control word allows, but in D3hot (R327). The bits are those of the PCI Express
standard (PRESUMED, log 11). -/
def State.reportError (s : State) (i bit : Nat) : State :=
  let f := s.fn i
  let fatal := bitOf (f.cap 0x10C).toNat bit
  let enabled := bitOf (f.cap 0x78).toNat (if fatal then 2 else 1) || bitOf (f.cap 0x04).toNat 8
  let s1 := s.setFn i ((f.setCapBit 0x104 bit).setCapBit 0x78 (if fatal then 18 else 17))
  s1.emitIf (!bitOf (f.cap 0x108).toNat bit && enabled && !f.d3hot) (.err i (if fatal then 2 else 1))

/-- A correctable error of a function is reported under AER. -/
def State.reportCorrectable (s : State) (i bit : Nat) : State :=
  let f := s.fn i
  let s1 := s.setFn i ((f.setCapBit 0x110 bit).setCapBit 0x78 16)
  s1.emitIf (!bitOf (f.cap 0x114).toNat bit && bitOf (f.cap 0x78).toNat 0 && !f.d3hot) (.err i 0)

/-- R323: a memory read of a function failed. It counts, and is reported under AER; whether by poisoned data, a completion
timeout, a Completer Abort or an Unsupported Request is not an operand, and a free value. -/
def State.readFailed (s : State) (i : Nat) : State :=
  let (v, s1) := s.free
  (s1.count .HIF_DMA_ERR_ERR 1).reportError i ([12, 14, 15, 20].getD (v % 4) 12)

/-- Can a function move data over the link now? Bus Master Enable is 1, the function is in D0 and the link is up
(R327, R331). -/
def State.canDma (s : State) (i : Nat) : Bool :=
  (s.fn i).busMaster && !(s.fn i).d3hot && s.pcie.link = .up

/-- Does an access of the host to a BAR of the function reach the device and act (R327, R335)? -/
def State.barOk (s : State) (i : Nat) : Bool :=
  s.flag .HIF_READY_READY && !s.inReset && !s.off && (s.pcie.link = .up || s.pcie.link = .retraining) &&
    (s.fn i).memEnable && !(s.fn i).d3hot

end Sys2Proof.Machine
end

