-- ==== Sys2Proof/Machine/Icx.lean ====
section
/-! DEFINITION. The interrupt controller (R391 to R406). A normal source n is keyed n, a fast source n is keyed
256 + n. Targets are numbered 0 Coachman A, 1 Coachman B, 2 host, as in ICX_LOCK.HOLDER. -/

namespace Sys2Proof.Machine

/-! ## Sources and their bits -/

/-- Register and bit of a source in the words of one kind: 0 mask, 1 pending, 2 held (R406). -/
def icxPlace (kind src : Nat) : Fld :=
  if src < 256 then ⟨Reg.ICX_MASK (src / 32) + 0x20 * kind, src % 32, src % 32⟩
  else ⟨Reg.ICX_FMASK + 4 * kind, src - 256, src - 256⟩

/-- The target bit of a source (R395, R406). -/
def icxTargetBit (t src : Nat) : Fld :=
  if src < 256 then ⟨Reg.ICX_TGT (src / 8), 4 * (src % 8) + t, 4 * (src % 8) + t⟩
  else ⟨Reg.ICX_FTGT ((src - 257) / 8), 4 * ((src - 257) % 8) + t, 4 * ((src - 257) % 8) + t⟩

/-- The counter of a source. -/
def icxCounter (src : Nat) : Fld :=
  if src < 256 then ⟨Reg.ICX_CNT (src / 4), 8 * (src % 4) + 7, 8 * (src % 4)⟩
  else ⟨Reg.ICX_FCNT ((src - 257) / 4), 8 * ((src - 257) % 4) + 7, 8 * ((src - 257) % 4)⟩

/-- The normal sources (R391). -/
def icxNormal : List Nat := (List.range 254).map (· + 1)

/-- The fast sources. -/
def icxFast : List Nat := (List.range 16).map (· + 257)

/-- A target of the ICX. -/
def Icx.target (x : Icx) (t : Nat) : IcxTarget := if t = 0 then x.a else if t = 1 then x.b else x.host

/-- A target is replaced. -/
def Icx.setTarget (x : Icx) (t : Nat) (v : IcxTarget) : Icx :=
  if t = 0 then { x with a := v } else if t = 1 then { x with b := v } else { x with host := v }

/-- A target of the state's ICX is replaced. -/
def State.setIcxTarget (s : State) (t : Nat) (v : IcxTarget) : State := { s with icx := s.icx.setTarget t v }

/-- Is a source active at any target? -/
def Icx.isActive (x : Icx) (src : Nat) : Bool :=
  [x.a, x.b, x.host].any fun t => (if src < 256 then t.active else t.fast).contains src

/-- Is a host claim window open on a source (R398)? -/
def Icx.windowOpen (x : Icx) (src : Nat) : Bool := x.windows.any (·.1 == src)

/-- R395: is a source eligible for a target? A source that is active is claimed again only once it is completed
(R394). -/
def State.eligible (s : State) (t src : Nat) : Bool :=
  s.flag (icxPlace 1 src) && !s.flag (icxPlace 0 src) && s.flag (icxTargetBit t src) && !s.icx.isActive src &&
    (t == 2 || !(s.icx.windowOpen src && s.flag (icxTargetBit 2 src)))

/-- Every source eligible for a target, lowest number first, normal bank first. -/
def State.eligibleList (s : State) (t : Nat) : List Nat := (icxNormal ++ icxFast).filter (s.eligible t)

/-- A message falls due for the host target (R399): on vector 1 of PF1, or PME_Status while PF1 is in D3hot. -/
def State.hostDue (s : State) : State := if (s.fn 1).d3hot then s.setPme 1 else s.msixDue 1 1

/-- R396: the asserted flag of target `t` is set when a source becomes eligible for it between `s0` and `s`. -/
def State.assertTarget (s : State) (s0 : State) (t : Nat) : State :=
  if (s.eligibleList t).any fun src => !s0.eligible t src then
    s.setIcxTarget t { s.icx.target t with asserted := true }
  else s

/-- Every change of the ICX is made through this operation: it makes the change, sets the asserted flags of the
targets for which a source became eligible, and signals the host when its flag rises (R396, R399). -/
def State.icxChange (s : State) (f : State → State) : State :=
  let s1 := f s
  let s2 := ((s1.assertTarget s 0).assertTarget s 1).assertTarget s 2
  if !s.icx.host.asserted && s2.icx.host.asserted then s2.hostDue else s2

/-! ## Raises -/

/-- R405: does the ICX clock stand still? -/
def State.icxStopped (s : State) : Bool := s.fld .PWR_STATE_STATE == 2 || s.off

/-- R405: the sources with an asynchronous latch. -/
def icxLatchable (src : Nat) : Bool :=
  (1 ≤ src && src ≤ 16) || (38 ≤ src && src ≤ 42) || src == 257 || src == 261 || src == 267

/-- R398: does a host claim window open on a source that becomes pending? It holds the Coachmen back while HOST is 1. -/
def State.windowOpens (s : State) : Bool := s.canSignal 1 && s.fld .ICX_HWIN_WIN != 0

/-- A source becomes pending, and its host claim window opens (R398). -/
def State.makePending (s : State) (src : Nat) : State :=
  let t := s.setFlag (icxPlace 1 src) true
  if s.flag (icxPlace 1 src) then t
  else if s.windowOpens then
    { t with icx := { t.icx with
        windows := t.icx.windows.filter (·.1 != src) ++ [(src, s.now + 1000 * s.fld .ICX_HWIN_WIN)] } }
  else { t with icx := { t.icx with windows := t.icx.windows.filter (·.1 != src) } }

/-- R394: a raise counts, and makes the source pending or held. -/
def State.applyRaise (s : State) (src : Nat) : State :=
  let t := s.count (icxCounter src) 1
  if s.flag (icxPlace 0 src) then t.setFlag (icxPlace 2 src) true else t.makePending src

/-- A source is raised (R394), or its latch catches the raise while the ICX clock stands still (R405). -/
def State.raise (s : State) (src : Nat) : State :=
  if s.icxStopped then
    if icxLatchable src && !s.icx.latched.contains src then
      { s with icx := { s.icx with latched := s.icx.latched ++ [src] } }
    else s
  else s.icxChange fun s => s.applyRaise src

/-- Fast source `n` is raised. -/
def State.raiseFast (s : State) (n : Nat) : State := s.raise (256 + n)

/-- R405: the ICX clock stands still from now on. -/
def State.stopIcx (s : State) : State := { s with icx := { s.icx with stoppedAt := s.now } }

/-- R398, R403, R405: claim windows and the time of the lock count in the clock of the ICX, and so go on where they stood. -/
def State.resumeTimes (s : State) : State :=
  let d := s.now - s.icx.stoppedAt
  { s with icx := { s.icx with windows := s.icx.windows.map fun w => (w.1, w.2 + d), lockSince := s.icx.lockSince + d } }

/-- R405: the ICX clock starts again; every latched raise is applied, fast sources first, each bank in ascending
number. -/
def State.applyLatches (s0 : State) : State :=
  let s := s0.resumeTimes
  let l := s.icx.latched
  (icxFast ++ icxNormal).foldl (fun s src => if l.contains src then s.icxChange fun s => s.applyRaise src else s)
    { s with icx := { s.icx with latched := [] } }

/-- A pending bit clears; an open claim window of the source ends with it. -/
def State.clearPending (s : State) (src : Nat) : State :=
  let t := s.setFlag (icxPlace 1 src) false
  { t with icx := { t.icx with windows := t.icx.windows.filter (·.1 != src) } }

/-! ## Claims and completions -/

/-- After a claim read: the asserted flag clears when no eligible source remains (R396). -/
def State.settleAsserted (s : State) (t : Nat) : State :=
  if (s.eligibleList t).isEmpty then s.setIcxTarget t { s.icx.target t with asserted := false } else s

/-- R396: a read of the claim register of the normal bank by target `t`: the value returned and the new state. -/
def State.claimNormal (s : State) (t : Nat) : Nat × State :=
  match icxNormal.find? (s.eligible t) with
  | some src =>
    let s1 := s.icxChange fun s =>
      let s := s.clearPending src
      let x := s.icx.target t
      s.setIcxTarget t { x with active := src :: x.active, claims := src :: x.claims }
    (src, s1.settleAsserted t)
  | none => (if (s.icx.target t).asserted then 255 else 0, s.settleAsserted t)

/-- R401: may target `t` take fast source `src` (keyed) now? -/
def State.fastClaimable (s : State) (t src : Nat) : Bool :=
  s.eligible t src && (s.icx.target t).fast.length < 4 &&
    (match (s.icx.target t).fast with
     | [] => true
     | top :: _ => src < top)

/-- R396, R401: a read of the claim register of the fast bank by target `t`. -/
def State.claimFast (s : State) (t : Nat) : Nat × State :=
  match icxFast.find? (s.fastClaimable t) with
  | some src =>
    let s1 := s.icxChange fun s =>
      let s := s.clearPending src
      let x := s.icx.target t
      s.setIcxTarget t { x with fast := src :: x.fast, claims := src :: x.claims }
    (src - 256, s1.settleAsserted t)
  | none =>
    if (icxFast.any (s.eligible t)) then (0, s)
    else (if (s.icx.target t).asserted then 255 else 0, s.settleAsserted t)

/-- R400: target `t` completes normal source `src`. -/
def State.completeNormal (s : State) (t src : Nat) : State :=
  if (s.icx.target t).active.contains src then
    s.icxChange fun s =>
      let x := s.icx.target t
      s.setIcxTarget t { x with active := x.active.erase src, claims := x.claims.erase src }
  else s.count .ICX_ERR_BAD_CPL 1

/-- The top of a target's fast stack is popped (R401). -/
def State.popFast (s : State) (t : Nat) : State :=
  let before := icxFast.filter (s.fastClaimable t)
  let s1 := s.icxChange fun s =>
    let x := s.icx.target t
    s.setIcxTarget t { x with fast := x.fast.tail, claims := x.claims.erase (x.fast.headD 0) }
  let unblocked := icxFast.any fun src => s1.fastClaimable t src && s.eligible t src && !before.contains src
  if t == 2 && unblocked && s.icx.host.asserted then s1.hostDue else s1

/-- R401: target `t` completes fast source `n`, in order; the result says whether the order was kept. -/
def State.completeFast (s : State) (t n : Nat) : Bool × State :=
  if (s.icx.target t).fast.head? == some (256 + n) then (true, s.popFast t)
  else
    let s1 := s.setFlag .ICX_HSTAT_ORDER_ERR true
    (false, (s1.count .ICX_ERR_ORDER 1).raiseFast 16)

/-- R333: every source the host target holds is completed, the most recent claim of either bank first, and so the fast
stack from the top. -/
def State.completeAllOf (s : State) (t : Nat) : State :=
  (s.icx.target t).claims.foldl (fun s src => if src < 256 then s.completeNormal t src else s.popFast t) s

/-! ## Writes of mask and pending words -/

/-- The sources of word `w`: 0 to 7 the normal words, 8 the fast word. -/
def icxWordSources (w : Nat) : List Nat :=
  if w < 8 then ((List.range 32).map (· + 32 * w)).filter fun n => n != 0 && n != 255 else icxFast

/-- The bit of a source in its word. -/
def icxWordBit (src : Nat) : Nat := if src < 256 then src % 32 else src - 256

/-- R402: a write of a pending word makes sources pending, without counting, or withdraws them. -/
def State.writePend (s : State) (w v : Nat) : State :=
  s.icxChange fun s =>
    (icxWordSources w).foldl (fun s src =>
      if bitOf v (icxWordBit src) then s.makePending src else s.clearPending src) s

/-- R394, R402: a write of a mask word; a held raise of a source that is unmasked moves into pending. -/
def State.writeMask (s : State) (w v : Nat) : State :=
  s.icxChange fun s =>
    (icxWordSources w).foldl (fun s src =>
      let m := bitOf v (icxWordBit src)
      let s := s.setFlag (icxPlace 0 src) m
      if !m && s.flag (icxPlace 2 src) then (s.setFlag (icxPlace 2 src) false).makePending src else s) s

/-! ## The lock -/

/-- R403: a read of ICX_LOCK by target `t`: the value returned and the new state. -/
def State.lockRead (s : State) (t : Nat) : Nat × State :=
  if s.fld .ICX_LOCK_HOLDER == 3 then
    let s1 := s.setFld .ICX_LOCK_HOLDER t
    (1 + 4 * t, { s1 with icx := { s1.icx with lockSince := s.now } })
  else if s.fld .ICX_LOCK_HOLDER == t then (1 + 4 * t, s)
  else (4 * s.fld .ICX_LOCK_HOLDER, s)

/-- R403: a write of 1 to RELEASE by the holder frees the lock. -/
def State.lockRelease (s : State) (t v : Nat) : State :=
  if bitOf v 1 && s.fld .ICX_LOCK_HOLDER == t then s.setFld .ICX_LOCK_HOLDER 3 else s

end Sys2Proof.Machine
end

