-- ==== Sys2Proof/Machine/Rings.lean ====
section
/-! DEFINITION. The ring protocol (R338 to R359), the placement of items in stream buffers (R344 to R346), the archive
window (R360 to R362) and event records (R383). Ring 32 is the mailbox SQ and ring 33 the mailbox CQ of PF1. -/

namespace Sys2Proof.Machine

/-! ## Configuration of a ring -/

/-- The mailbox SQ and CQ of PF1 as ring numbers. -/
def mboxSq : Nat := 32

/-- The mailbox CQ of PF1. -/
def mboxCq : Nat := 33

/-- A ring. -/
def State.ring (s : State) (n : Nat) : Ring := s.rings.get (fun _ => Ring.init) n

/-- A ring is replaced. -/
def State.setRing (s : State) (n : Nat) (r : Ring) : State :=
  { s with rings := s.rings.set (fun _ => Ring.init) n r }

/-- The function a ring belongs to. -/
def ringFn (n : Nat) : Nat := if n < 32 then 0 else 1

/-- The number of entries of a ring (R339). -/
def State.ringSize (s : State) (n : Nat) : Nat :=
  2 ^ (4 + if n < 32 then s.fld (.RING_CFG_ORDER n) else if n = mboxSq then s.fld .MGMT_CFG_SQ_ORDER
    else s.fld .MGMT_CFG_CQ_ORDER)

/-- The base address of a ring. -/
def State.ringBase (s : State) (n : Nat) : Nat :=
  s.wide (if n < 32 then Reg.RING_BASE_LO n else if n = mboxSq then Reg.MGMT_SQ_BASE_LO else Reg.MGMT_CQ_BASE_LO)

/-- The CQ on which a ring's entries complete (R340). -/
def State.ringCq (s : State) (n : Nat) : Nat := if n < 32 then s.fld (.RING_CFG_CQ n) else mboxCq

/-- The kind of a ring: 0 command SQ, 1 stream SQ, 2 CQ (R338). -/
def State.ringKind (s : State) (n : Nat) : Nat :=
  if n < 32 then s.fld (.RING_CFG_KIND n) else if n = mboxSq then 0 else 2

/-- Is a ring enabled and not being disabled? -/
def State.ringOn (s : State) (n : Nat) : Bool := (s.ring n).enabled && !(s.ring n).disabling

/-- Entries of an SQ posted and not fetched, or entries of a CQ written and not consumed. -/
def State.ringLoad (s : State) (n : Nat) : Nat :=
  let r := s.ring n
  if s.ringKind n = 2 then (r.dev + s.ringSize n - r.host) % s.ringSize n
  else (r.host + s.ringSize n - r.dev) % s.ringSize n

/-- R343, R349: the entries of an SQ that are fetched and not completed. An accepted COMMIT is not completed before it
applies, and an entry whose completion is held is not completed before the completion is written. -/
def State.uncompleted (s : State) (n : Nat) : Nat :=
  (s.ring n).fetched.length + (s.ring n).bufs.length + (s.accepted.filter (·.ring == n)).length +
    ((s.ring (s.ringCq n)).held.filter (·.ring == n)).length

/-! ## Moderation -/

/-- IRQ_EN, COUNT and TIME in ns of a CQ (R355). -/
def State.modCfg (s : State) (n : Nat) : Bool × Nat × Nat :=
  if n < 32 then (s.flag (.RING_CFG_IRQ_EN n), max 1 (s.fld (.RING_MOD_COUNT n)), 1000 * s.fld (.RING_MOD_TIME n))
  else (s.flag .MGMT_CFG_IRQ_EN, max 1 (s.fld .MGMT_MOD_COUNT), 1000 * s.fld .MGMT_MOD_TIME)

/-- The MSI-X vector of a CQ (R324). -/
def State.ringVector (s : State) (n : Nat) : Nat := if n < 32 then s.fld (.RING_CFG_VEC n) else 0

/-- A message of a CQ falls due, where R325 lets one fall due: P returns to 0 and the timer stops; messages of one vector in
one instant are one message (R355, R357). -/
def State.cqDue (s : State) (n : Nat) : State :=
  if !s.canSignal (ringFn n) then s
  else
    let s1 := s.setRing n { s.ring n with unannounced := 0, timer := none, timerSpent := false }
    let v := if n < 32 then s.ringVector n else 64
    if s1.pcie.vecSent.get (fun _ => 0) v == s1.now + 1 then s1
    else
      let s2 := { s1 with pcie := { s1.pcie with vecSent := s1.pcie.vecSent.set (fun _ => 0) v (s1.now + 1) } }
      s2.msixDue (ringFn n) (s.ringVector n)

/-- Has the moderation timer of a CQ reached TIME? -/
def State.modTimerDue (s : State) (n : Nat) : Bool :=
  match (s.ring n).timer with
  | some t => (s.modCfg n).2.2 ≤ s.now - t
  | none => false

/-- R355: is a message of a CQ due now? -/
def State.modDue (s : State) (n : Nat) : Bool :=
  (s.modCfg n).1 && (s.ring n).unannounced != 0 &&
    ((s.modCfg n).2.1 ≤ (s.ring n).unannounced || (s.modCfg n).2.2 == 0 || s.modTimerDue n)

/-! ## Completions -/

/-- The 32 bytes of a completion entry (R373). -/
def Cpl.bytes (c : Cpl) (phase : Bool) (sqHead : Nat) : List Byte :=
  leBytes 2 c.tag ++ leBytes 1 c.status.code ++ leBytes 1 (boolNat phase) ++
    leBytes 1 (if c.ring < 32 then c.ring else 0) ++ leBytes 1 c.opcode ++ leBytes 2 sqHead ++
    leBytes 6 c.tick ++ leBytes 2 0 ++ leBytes 4 c.cfgTag.toNat ++ leBytes 4 c.result ++ leBytes 8 c.time.toNat

/-- R352: a ring being disabled is no longer enabled once every completion of it has been written; the mailbox CQ goes
with its SQ (R389). -/
def State.settleRing (s : State) (n : Nat) : State :=
  let r := s.ring n
  if r.enabled && r.disabling && r.fetched.isEmpty && r.bufs.isEmpty &&
      !(s.accepted.any (·.ring == n)) && !((s.ring (s.ringCq n)).held.any (·.ring == n)) then
    let s1 := s.setRing n { r with enabled := false, disabling := false }
    if n = mboxSq then s1.setRing mboxCq { s1.ring mboxCq with enabled := false } else s1
  else s

/-- Writes the oldest held completion of a CQ as its next entry (R349). `start`: the timer starts where P rises from 0 (R355);
entries written at a return to D0 start none (R359). -/
def State.writeCpl (s : State) (q : Nat) (c : Cpl) (rest : List Cpl) (start : Bool) : State :=
  let r := s.ring q
  let s1 := s.writeMem (s.ringBase q + 32 * r.dev) (c.bytes r.phase (c.sqHead.getD (s.ring c.ring).dev))
  let wrap := r.dev + 1 == s.ringSize q
  let s2 := s1.setRing q { r with
    held := rest
    dev := if wrap then 0 else r.dev + 1
    phase := if wrap then !r.phase else r.phase
    unannounced := r.unannounced + 1
    timer := if r.unannounced == 0 && start then some s.now else r.timer
    timerSpent := r.timerSpent && r.unannounced != 0 }
  s2.settleRing c.ring

/-- Writes the held completions of a CQ in order, as far as free entries and the link allow (R327, R349). -/
def State.drainHeld (s : State) (q : Nat) (announce : Bool) : List Cpl → State
  | [] => s
  | c :: rest =>
    if s.canDma (ringFn q) && s.ringLoad q + 1 < s.ringSize q then
      let s1 := s.writeCpl q c rest announce
      let s2 := if announce && s1.modDue q then s1.cqDue q else s1
      s2.drainHeld q announce rest
    else s

/-- Writes what can be written of a CQ's held completions. -/
def State.drainCq (s : State) (q : Nat) : State := s.drainHeld q true (s.ring q).held

/-- A completion falls due. It joins its CQ's queue and is written as soon as R349 and R327 allow; the completion of a
ring that a reset disabled is not written (R331). -/
def State.complete (s : State) (c : Cpl) : State :=
  if (s.ring c.ring).enabled then
    let q := s.ringCq c.ring
    (s.setRing q { s.ring q with held := (s.ring q).held ++ [c] }).drainCq q
  else s

/-- A completion that carries the last tick edge and the present time (R374). -/
def State.cplNow (s : State) (ring tag opcode : Nat) (status : Status) (result : Nat) : Cpl :=
  { tag := tag, status := status, ring := ring, opcode := opcode, sqHead := none, tick := s.lastTick,
    cfgTag := s.cfgTag, result := result, time := s.tb }

/-- The device writes an item to host memory; while the link retrains the write is held (R321). -/
def State.postMem (s : State) (a : Nat) (bs : List Byte) : State :=
  if s.pcie.link = .retraining then { s with pcie := { s.pcie with heldWrites := s.pcie.heldWrites ++ [(a, bs)] } }
  else s.writeMem a bs

/-! ## Stream buffers -/

/-- The oldest buffer of a stream SQ completes (R345, R352, R374). -/
def State.closeBuf (s : State) (n : Nat) (status : Status) (length : Nat) : State :=
  match (s.ring n).bufs with
  | [] => s
  | b :: rest =>
    let s1 := s.setRing n { s.ring n with bufs := rest }
    let c := s1.cplNow n b.tag 0xFF status length
    s1.complete (if b.items = 0 then c else { c with tick := b.lastTick, cfgTag := b.lastTag })

/-- The header that a buffer claimed for the frame of `tick` carries where its output is disabled (R201, R202, R390): STATUS
FLUSHED, and nothing of a frame but its tick and, of camera 0's frame of the last edge, its time (DESIGN CHOICE, log 31). -/
def State.flushedHeader (s : State) (n tick : Nat) : List Byte :=
  let kind := s.fld (.RING_CFG_STREAM n)
  let cam := s.fld (.RING_CFG_CAM n)
  leBytes 1 (if kind = 4 && s.flag (.PIPE_CAM_MV_SRC cam) then 3 else kind - 2) ++ leBytes 1 Status.flushed.code ++
    leBytes 1 cam ++ leBytes 5 0 ++ leBytes 8 (tick % 2 ^ 48) ++
    leBytes 8 (if cam = 0 && tick == s.lastTick then s.wide Reg.HIF_EDGE_TIME_LO else 0) ++
    leBytes 4 (s.fld .HIF_GEN_GEN) ++ leBytes 4 s.cfgTag.toNat ++ leBytes 32 0

/-- The oldest buffer of a frame stream completes with FLUSHED for a disabled output (R164, R202). In D3hot it carries no
header, since nothing can be written (R327). -/
def State.flushBuf (s : State) (n tick : Nat) : State :=
  match (s.ring n).bufs with
  | [] => s
  | b :: _ => if (s.fn 0).d3hot then s.closeBuf n .flushed 0 else (s.postMem b.addr (s.flushedHeader n tick)).closeBuf n .flushed 64

/-- R164, R202: the buffers at the front that are claimed for disabled outputs complete with FLUSHED; `fuel` bounds them. -/
def State.settleClaims (s : State) (n : Nat) : Nat → State
  | 0 => s
  | fuel + 1 =>
    match (s.ring n).claims with
    | (tick, true) :: rest => ((s.setRing n { s.ring n with claims := rest }).flushBuf n tick).settleClaims n fuel
    | _ => s

/-- The claims of a frame stream change, and what they complete completes. -/
def State.setClaims (s : State) (n : Nat) (l : List (Nat × Bool)) : State :=
  (s.setRing n { s.ring n with claims := l }).settleClaims n l.length

/-- The stream SQ of a stream kind and camera (R340). -/
def State.streamRing (s : State) (kind cam : Nat) : Option Nat :=
  (List.range 32).find? fun n =>
    s.ringOn n && s.ringKind n == 1 && s.fld (.RING_CFG_STREAM n) == kind &&
      (kind == 0 || kind == 5 || kind == 6 || s.fld (.RING_CFG_CAM n) == cam)

/-- Closes the buffers at the front that have no room for `size` bytes (R344, R345). -/
def State.passBufs (s : State) (n size : Nat) : List Buf → State
  | [] => s
  | b :: rest => if b.used + size ≤ b.len then s else (s.closeBuf n .ok b.used).passBufs n size rest

/-- R320, R321, R329: may writes wait: the link retrains, is narrower than x4 or slower than 16 GT/s, or may enter a link power
state under ASPM (the control bits of the PCI Express standard, log 11)? -/
def State.writesWait (s : State) : Bool :=
  s.pcie.link = .retraining || s.fld .HIF_LINK_STAT_WIDTH != 4 || s.fld .HIF_LINK_STAT_SPEED != 4 ||
    getBits ((s.fn 0).cap 0x80).toNat 1 0 != 0

/-- R46, R320, R321, R329, R463: where a write waits, or a Dray's clock stands (`held`), can the buffers of the Drays not hold a
further item? Their size, and how long a write waits, are not stated: a free value (log 5). -/
def State.drayFull (s : State) (held : Bool) : Bool × State :=
  if held || s.writesWait then let (v, t) := s.free; (v % 2 == 1, t) else (false, s)

/-- An item goes into the open buffer of a stream SQ, which has room for it. -/
def State.putItem (s : State) (n : Nat) (bytes : List Byte) (tick : Nat) (tag : Word) : State :=
  match (s.ring n).bufs with
  | [] => s
  | b :: rest =>
    let b' := { b with
      used := b.used + roundUp 64 bytes.length, items := b.items + 1,
      firstAt := if b.items = 0 then s.now else b.firstAt, lastTick := tick, lastTag := tag }
    (s.postMem (b.addr + b.used) bytes).setRing n { s.ring n with bufs := b' :: rest }

/-- R345: has the flush time of the open buffer of a stream SQ passed? -/
def State.flushDue (s : State) (n : Nat) : Bool :=
  (s.ring n).bufs.head?.any fun b =>
    b.items != 0 && decide (1000 * max 1 (s.fld (.RING_FLUSH_FLUSH n)) ≤ s.now - b.firstAt)

/-- An open buffer whose flush time has passed closes (R345). -/
def State.closeFlushed (s : State) (n : Nat) : State :=
  if s.flushDue n then s.closeBuf n .ok (((s.ring n).bufs.head?.map (·.used)).getD 0) else s

/-- R320, R321, R327, R329, R344 to R346: an item of a packed stream is placed in a buffer of ring `n`, or dropped. An open
buffer whose flush time has passed takes no item. -/
def State.placeItem (s : State) (n : Nat) (bytes : List Byte) (tick : Nat) (tag : Word) : State :=
  let (full, s) := s.drayFull false
  let s := s.closeFlushed n
  let size := roundUp 64 bytes.length
  let bufs := (s.ring n).bufs
  let drop (t : State) := t.count (.RING_DROP_DROP n) 1
  let empties := bufs.filter (·.items == 0)
  if full || (s.fn 0).d3hot then drop s
  else if bufs.head?.any (fun b => b.used + size ≤ b.len) then s.putItem n bytes tick tag
  else if !empties.isEmpty && empties.all (fun b => b.len < size) then drop s
  else
    let t := s.passBufs n size bufs
    if (t.ring n).bufs.isEmpty then drop t else t.putItem n bytes tick tag

/-! ## The archive window -/

/-- An event that is about to be raised: code, status, source and arguments (R383). -/
structure Evt where
  code : Nat
  status : Status
  source : Nat
  args : List Byte
  deriving DecidableEq, Repr

/-- The header of an archive block (R360). -/
def archHeader (len kind cam items seq : Nat) (time : Time) (wraps : Nat) : List Byte :=
  padTo 64 (leBytes 4 len ++ leBytes 1 kind ++ leBytes 1 cam ++ leBytes 2 items ++ leBytes 8 seq ++
    leBytes 8 time.toNat ++ leBytes 4 wraps)

/-- Event 0x0009 with the present WPTR and WRAPS (R362, R384). -/
def State.archEvt (s : State) : Evt :=
  ⟨0x9, .ok, 0, leBytes 8 (s.wide Reg.RING_ARCH_WPTR_LO) ++ leBytes 4 (s.fld .RING_ARCH_WRAPS_COUNT)⟩

/-- R361: where a block does not fit before the end of the window, a pad block fills the rest and WRAPS counts. -/
def State.archWrap (s : State) (size : Nat) : Bool × State :=
  let window := 2 ^ 21 * s.fld .RING_ARCH_SIZE_SIZE
  let w := s.wide Reg.RING_ARCH_WPTR_LO
  let base := s.wide Reg.RING_ARCH_BASE_LO
  if w + size ≤ window then (false, s)
  else
    let rest := window - w
    let s1 := if rest = 0 then s else
      let t := s.writeMem (base + w)
        (archHeader rest 0xFF 0 0 s.archive.seq s.tb (s.fld .RING_ARCH_WRAPS_COUNT) ++
          List.replicate (rest - 64) 0)
      { t with archive := { t.archive with seq := t.archive.seq + 1 } }
    let s2 := s1.setFld .RING_ARCH_WRAPS_COUNT (s1.fld .RING_ARCH_WRAPS_COUNT + 1)
    (true, s2.setWide Reg.RING_ARCH_WPTR_LO 0)

/-- R361, R362: a closed block is written at WPTR, or dropped; the events that follow are answered. Whether the link is too slow
for a block is a free value (log 5). -/
def State.writeBlock (s0 : State) (kind cam items : Nat) (payload : List Byte) : List Evt × State :=
  let size := 64 + roundUp 64 payload.length
  let (slow, s) := s0.free
  if !s.canDma 0 || slow % 2 == 1 || 2 ^ 21 * s.fld .RING_ARCH_SIZE_SIZE < size then
    ([], s.count .RING_ARCH_DROP_COUNT 1)
  else
    let (wrapped, s1) := s.archWrap size
    let w := s1.wide Reg.RING_ARCH_WPTR_LO
    let s2 := s1.writeMem (s1.wide Reg.RING_ARCH_BASE_LO + w)
      (archHeader size kind cam items s1.archive.seq s1.tb (s1.fld .RING_ARCH_WRAPS_COUNT) ++
        padTo (size - 64) payload)
    let s3 := s2.setWide Reg.RING_ARCH_WPTR_LO (w + size)
    let since := s.archive.sinceReport + size
    let report := s.fld .RING_ARCH_CFG_REPORT
    let due := wrapped || (report != 0 && report * 2 ^ 26 ≤ since)
    let s4 := { s3 with archive := { s3.archive with
      seq := s3.archive.seq + 1, sinceReport := if due then 0 else since } }
    (if due then [s4.archEvt] else [], s4)

/-- The open block of a stream kind and camera is written and empty again. -/
def State.flushBlock (s : State) (kind cam : Nat) : List Evt × State :=
  let key := kind * 4 + cam
  let b := s.archive.blocks.get (fun _ => ⟨[], 0, 0⟩) key
  if b.items = 0 then ([], s)
  else
    { s with archive := { s.archive with blocks := s.archive.blocks.erase key } }.writeBlock kind cam b.items b.bytes

/-- R360: an item of a packed kind joins the open block of its kind (for CROP, of its camera). -/
def State.archItem (s : State) (kind cam : Nat) (bytes : List Byte) : List Evt × State :=
  if s.flag .RING_ARCH_CFG_EN && bitOf (s.fld .RING_ARCH_CFG_STREAMS) kind then
    let c := if kind = 1 then cam else 0
    let key := kind * 4 + c
    let size := roundUp 64 bytes.length
    let open_ := s.archive.blocks.get (fun _ => ⟨[], 0, 0⟩) key
    let (evts, s1) := if open_.items != 0 && 65536 < 64 + open_.bytes.length + size then s.flushBlock kind c else ([], s)
    let b := s1.archive.blocks.get (fun _ => ⟨[], 0, 0⟩) key
    let b' : ArchBlock := ⟨b.bytes ++ padTo size bytes, b.items + 1, if b.items = 0 then s1.now else b.firstAt⟩
    (evts, { s1 with archive := { s1.archive with blocks := s1.archive.blocks.set (fun _ => ⟨[], 0, 0⟩) key b' } })
  else ([], s)

/-! ## Items and events -/

/-- An item is lost: the drop counter of its stream's ring counts it, or HIF_NORING_DROP (R46, R346). -/
def State.dropItem (s : State) (kind cam : Nat) : State :=
  match s.streamRing kind cam with
  | some n => s.count (.RING_DROP_DROP n) 1
  | none => s.count .HIF_NORING_DROP_DROP 1

/-- A packed item goes to the archive and to its stream ring, or is counted as dropped (R346, R360); the events that
follow from the archive are answered. -/
def State.writeItem (s : State) (i : DrayItem) : List Evt × State :=
  let (evts, s1) := s.archItem i.kind i.cam i.bytes
  (evts, match s1.streamRing i.kind i.cam with
    | some n => s1.placeItem n i.bytes i.tick i.tag
    | none => s1.dropItem i.kind i.cam)

/-- A packed item is handed to its Dray, which writes it. While the clock of the X domain stands (R410, R463) the Dray holds
it, or drops it where it can hold no more. -/
def State.handOne (s : State) (i : DrayItem) : List Evt × State :=
  if s.gated 1 then
    let (full, t) := s.drayFull true
    ([], if full then t.dropItem i.kind i.cam
      else { t with pcie := { t.pcie with heldItems := t.pcie.heldItems ++ [i] } })
  else s.writeItem i

/-- The 64 bytes of an event record (R383). -/
def State.evtBytes (s : State) (e : Evt) : List Byte :=
  padTo 64 (leBytes 2 e.code ++ leBytes 1 e.status.code ++ leBytes 1 0 ++ leBytes 4 s.evSeq ++
    leBytes 6 s.lastTick ++ leBytes 2 0 ++ leBytes 8 s.tb.toNat ++ leBytes 4 s.cfgTag.toNat ++
    leBytes 4 e.source ++ e.args)

/-- Raises one event: its ICX source, its SEQ and its record on the EVT stream (R383, R392). -/
def State.eventOne (s : State) (e : Evt) : List Evt × State :=
  let s1 := if 1 ≤ e.code ∧ e.code ≤ 0x15 then s.raise (16 + e.code) else s
  { s1 with evSeq := (s1.evSeq + 1) % 2 ^ 32 }.handOne ⟨6, 0, s.evtBytes e, s.lastTick, s.cfgTag⟩

/-- Raises events in order, and after them those that the archive raises in turn. A block of the archive holds 1,023
events, so the archive raises no third generation; `fuel` bounds the generations. -/
def State.eventsN (s : State) : Nat → List Evt → State
  | 0, _ => s
  | _ + 1, [] => s
  | fuel + 1, es =>
    let r := es.foldl (fun (acc : List Evt × State) e =>
      let (more, t) := acc.2.eventOne e
      (acc.1 ++ more, t)) ([], s)
    r.2.eventsN fuel r.1

/-- Raises an event (R383, R384). -/
def State.event (s : State) (code : Nat) (status : Status) (source : Nat) (args : List Byte) : State :=
  s.eventsN 4 [⟨code, status, source, args⟩]

/-- A packed item is handed to the Drays: streams 0 OBJ, 1 CROP, 5 STAT (R340, R344). -/
def State.hand (s : State) (kind cam : Nat) (bytes : List Byte) (tick : Nat) (tag : Word) : State :=
  let (evts, s1) := s.handOne ⟨kind, cam, bytes, tick, tag⟩
  s1.eventsN 4 evts

/-- The clock of the X domain runs again: what the Drays held is written, oldest first. -/
def State.releaseItems (s : State) : State :=
  if s.gated 1 then s
  else s.pcie.heldItems.foldl (fun s i => s.hand i.kind i.cam i.bytes i.tick i.tag)
    { s with pcie := { s.pcie with heldItems := [] } }

end Sys2Proof.Machine
end

