-- ==== Sys2Proof/Machine/HostAct.lean ====
section
/-! DEFINITION. Host activity (R47 to R50) and what a write of the host needs in order to act. -/

namespace Sys2Proof.Machine

/-- The management plane stages a change for the first edge at least 2,000 ns from now (R16, R48, R50). -/
def State.stageMgmt (s : State) (c : MgmtChange) : State :=
  { s with mgmt := s.mgmt ++ [⟨c, timeAfter s.tb 2000⟩] }

/-- R48: does the host-absence timer run? -/
def State.absenceRuns (s : State) : Bool := s.fld .HIF_HOST_TIMEOUT_TIMEOUT_MS != 0 && s.run

/-- R47, R50: host activity restarts the absence timer, and ends an absence: event 0x0002 with its length in ms, and
the host-committed configuration staged for the first edge at least 2,000 ns later. -/
def State.hostActivity (s : State) : State :=
  let s1 := { s with hostWatch := { s.hostWatch with since := s.now } }
  if s.flag .HIF_HOST_POLICY_ABSENT then
    let s2 := (s1.setFlag .HIF_HOST_POLICY_ABSENT false).stageMgmt (.policy 0 0)
    s2.event 0x2 .ok 0 (leBytes 4 ((s.now - s.hostWatch.absentSince) / 1000000))
  else s1

/-- R48: the timer has run out: the host is absent, event 0x0001 is raised, and the policy is staged. -/
def State.hostAbsent (s : State) : State :=
  let p := s.fld .HIF_HOST_POLICY_POLICY
  let r := s.fld .HIF_HOST_POLICY_ROW
  let s1 := (s.setFlag .HIF_HOST_POLICY_ABSENT true).stageMgmt (.policy p r)
  { s1 with hostWatch := { s1.hostWatch with absentSince := s.now } }.event 0x1 .ok 0 (leBytes 1 p ++ leBytes 1 r)

/-- A write of the host to PF0 BAR0 or BAR2: host activity, then its effect (R47, R335). -/
def State.pf0Write (s : State) (f : State → State) : State := if s.barOk 0 then f s.hostActivity else s

/-- A write of the host to PF1 BAR0 (R335). -/
def State.pf1Write (s : State) (f : State → State) : State := if s.barOk 1 then f s else s

/-- HOST_ABSENCE_EXPIRY (R48). -/
def execHostAbsenceExpiry (dt : Nat) (s : State) : Host.Outcome State Fault Refusal :=
  let s := s.advance dt
  .next (if s.absenceRuns && !s.flag .HIF_HOST_POLICY_ABSENT &&
      1000000 * s.fld .HIF_HOST_TIMEOUT_TIMEOUT_MS ≤ s.now - s.hostWatch.since then s.hostAbsent else s)

/-- HIF_HOST_ALIVE (R47): host activity and nothing else. -/
def execHifHostAlive (value : Word) (s : State) : Host.Outcome State Fault Refusal :=
  .next (s.pf0Write fun s => let _ := value; s)

end Sys2Proof.Machine
end

