-- ==== Sys2Proof/Machine/RingCmds.lean ====
section
/-! DEFINITION. The commands of the rings: doorbells, enabling and disabling, fetches, timeouts and the archive
(R338 to R363, R389). -/

namespace Sys2Proof.Machine

/-! ## Descriptors at the head of a command SQ -/

/-- Is an opcode defined for a ring (R366, R386)? -/
def opcodeDefined (ring op : Nat) : Bool :=
  if ring < 32 then 1 ≤ op && op ≤ 8
  else (0x80 ≤ op && op ≤ 0x8B) || (0x90 ≤ op && op ≤ 0x92) || (0x98 ≤ op && op ≤ 0x9A) || op == 0xA0 || op == 0xA8

/-- The opcode of a descriptor. -/
def descOp (d : List Byte) : Nat := bytesAt d 0 1

/-- The tag of a descriptor. -/
def descTag (d : List Byte) : Nat := bytesAt d 2 2

/-- The descriptor at the head of a ring leaves it. -/
def State.popHead (s : State) (n : Nat) : State :=
  s.setRing n { s.ring n with fetched := (s.ring n).fetched.tail, executing := false }

/-- R365: descriptors with an undefined opcode complete with BAD_DESCRIPTOR when their turn comes. -/
def State.dropUndefined (s : State) (n : Nat) : Nat → State
  | 0 => s
  | fuel + 1 =>
    match (s.ring n).executing, (s.ring n).fetched with
    | false, d :: _ =>
      if opcodeDefined n (descOp d) then s
      else
        let s1 := s.popHead n
        (s1.complete (s1.cplNow n (descTag d) (descOp d) .badDescriptor 0)).dropUndefined n fuel
    | _, _ => s

/-- The head of a ring is done with: the next descriptor may start, and a disable may come to its end. -/
def State.nextHead (s : State) (n : Nat) : State :=
  ((s.popHead n).dropUndefined n ((s.ring n).fetched.length)).settleRing n

/-- The head of a ring completes. -/
def State.finishHead (s : State) (n : Nat) (status : Status) (result : Nat) : State :=
  match (s.ring n).fetched with
  | [] => s
  | d :: _ =>
    let s1 := s.popHead n
    let s2 := s1.complete (s1.cplNow n (descTag d) (descOp d) status result)
    (s2.dropUndefined n (s.ring n).fetched.length).settleRing n

/-- The head of a ring has started. -/
def State.startHead (s : State) (n : Nat) : State := s.setRing n { s.ring n with executing := true }

/-- The descriptor at the head of a ring, where it has not started and carries `op`. -/
def State.headFor (s : State) (n op : Nat) : Option (List Byte) :=
  match (s.ring n).executing, (s.ring n).fetched with
  | false, d :: _ => if descOp d = op then some d else none
  | _, _ => none

/-! ## Enabling and disabling -/

/-- The plain write of RING_n_CFG or MGMT_CFG. -/
def State.writeRingCfg (s : State) (n : Nat) (v : Nat) : State :=
  s.plainWriteReg (if n < 32 then Reg.RING_CFG n else Reg.MGMT_CFG) (BitVec.ofNat 32 v)

/-- The EN bit of a ring takes a value. -/
def State.setEn (s : State) (n : Nat) (b : Bool) : State :=
  s.setFlag (if n < 32 then .RING_CFG_EN n else .MGMT_CFG_EN) b

/-- R341: the first check that fails, as RING_n_STAT.ERR codes it; 0 where all hold. -/
def State.enableErr (s : State) (n : Nat) : Nat :=
  if n < 32 then
    let kind := s.ringKind n
    let stream := s.fld (.RING_CFG_STREAM n)
    if 2 < kind || 12 < s.fld (.RING_CFG_ORDER n) || (kind == 1 && 6 < stream) then 4
    else if kind != 2 && !(s.ringOn (s.ringCq n) && s.ringKind (s.ringCq n) == 2) then 2
    else if kind == 1 && (List.range 32).any (fun m => m != n && (s.ring m).enabled && s.ringKind m == 1 &&
        s.fld (.RING_CFG_STREAM m) == stream &&
        (stream == 0 || stream == 5 || stream == 6 || s.fld (.RING_CFG_CAM m) == s.fld (.RING_CFG_CAM n))) then 3
    else 0
  else if 8 < s.fld .MGMT_CFG_SQ_ORDER || 8 < s.fld .MGMT_CFG_CQ_ORDER then 4 else 0

/-- A ring as it stands right after enabling (R341); the doorbell values last written stay readable. -/
def Ring.enable (r : Ring) : Ring :=
  { Ring.init with enabled := true, phase := true, lastTail := r.lastTail, lastHead := r.lastHead }

/-- A write of EN 1 (R341). -/
def State.ringEnable (s : State) (n : Nat) (v : Nat) : State :=
  if (s.ring n).enabled then s
  else
    let s1 := s.writeRingCfg n (putBit v 0 true)
    let err := s1.enableErr n
    if err != 0 then (s1.setRing n { s1.ring n with err := err }).setEn n false
    else
      let s2 := s1.setRing n (s1.ring n).enable
      if n < 32 then s2 else s2.setRing mboxCq (s2.ring mboxCq).enable

/-- Completes each buffer of a stream SQ at a disable (R352): the open one closes, the others are aborted. -/
def State.abortBufs (s : State) (n : Nat) : Nat → State
  | 0 => s
  | fuel + 1 =>
    match (s.ring n).bufs with
    | [] => s
    | b :: _ =>
      (if b.items = 0 then s.closeBuf n .abortedDisabled 0 else s.closeBuf n .ok b.used).abortBufs n fuel

/-- Completes each descriptor fetched and not started with ABORTED_DISABLED, oldest first (R352). -/
def State.abortDescs (s : State) (n : Nat) : List (List Byte) → State
  | [] => s
  | d :: rest =>
    let r := s.ring n
    let s1 := s.setRing n { r with fetched := (if r.executing then r.fetched.take 1 else []) ++ rest }
    (s1.complete (s1.cplNow n (descTag d) (descOp d) .abortedDisabled 0)).abortDescs n rest

/-- R446: of the descriptors fetched while a flat-field acquisition runs only the one under execution stays, where it is one. -/
def State.cutLate (s : State) (n : Nat) : State :=
  let r := s.ring n
  { s with cal := { s.cal with flat := s.cal.flat.map fun a => { a with
      late := a.late.set (fun _ => 0) n (if r.executing && decide (r.fetched.length ≤ a.late.get (fun _ => 0) n) then 1 else 0) } } }

/-- A write of EN 0 (R352). -/
def State.ringDisable (s : State) (n : Nat) (v : Nat) : State :=
  let r := s.ring n
  if !r.enabled then s.writeRingCfg n (putBit v 0 false)
  else if s.ringKind n = 2 then
    if (List.range 32).any (fun m => (s.ring m).enabled && s.ringKind m != 2 && s.ringCq m == n) then
      s.setRing n { r with err := 5 }
    else (s.setRing n { r with enabled := false }).setEn n false
  else
    let s1 := (s.setRing n { r with disabling := true }).setEn n false
    let s2 := if s.ringKind n = 1 then (s1.setRing n { s1.ring n with claims := [] }).abortBufs n r.bufs.length
      else (s1.cutLate n).abortDescs n (if r.executing then r.fetched.drop 1 else r.fetched)
    s2.settleRing n

/-! ## Doorbells -/

/-- A discarded doorbell write counts (R347, R389). -/
def State.doorbellErr (s : State) (n : Nat) : State :=
  if n < 32 then s.count .RING_DB_ERR_COUNT 1 else s.count .MGMT_STAT_DB_ERR 1

/-- A doorbell write reaches the device: of PF0 BAR2, or of the mailbox, each host activity (R47). -/
def State.doorbellWrite (s : State) (n : Nat) (f : State → State) : State :=
  if n < 32 then s.pf0Write f else s.pf1Write fun s => f s.hostActivity

/-- R347, R348: a tail doorbell write. -/
def State.tailDoorbell (s : State) (n v : Nat) : State :=
  let s1 := s.setRing n { s.ring n with lastTail := BitVec.ofNat 32 v }
  let s1 := if n < 32 then s1 else s1.setFld .MGMT_SQ_TAIL_PTR v
  if 2 ^ 16 ≤ v || !s.ringOn n || s.ringKind n = 2 || s.ringSize n ≤ v then s1.doorbellErr n
  else s1.setRing n { s1.ring n with host := v }

/-- R347, R356: a head doorbell write of CQ `n` frees entries, lowers P and lets held completions be written. -/
def State.headDoorbell (s : State) (n v : Nat) : State :=
  let s1 := s.setRing n { s.ring n with lastHead := BitVec.ofNat 32 v }
  let s1 := if n < 32 then s1 else s1.setFld .MGMT_CQ_HEAD_PTR v
  let r := s1.ring n
  let size := s.ringSize n
  if 2 ^ 16 ≤ v || !s.ringOn n || s.ringKind n != 2 || size ≤ v || s.ringLoad n < (v + size - r.host) % size then
    s1.doorbellErr n
  else
    let left := (r.dev + size - v) % size
    let p := min r.unannounced left
    (s1.setRing n { r with host := v, unannounced := p, timer := if p = 0 then none else r.timer }).drainCq n

/-- SQ_TAIL_DOORBELL (R348); ring 32 is the mailbox. -/
def execSqTailDoorbell (ring : Fin 33) (value : Word) (s : State) : Host.Outcome State Fault Refusal :=
  .next (s.doorbellWrite ring.val fun s => s.tailDoorbell ring.val value.toNat)

/-- CQ_HEAD_DOORBELL (R356); ring 32 is the mailbox. -/
def execCqHeadDoorbell (ring : Fin 33) (value : Word) (s : State) : Host.Outcome State Fault Refusal :=
  .next (s.doorbellWrite ring.val fun s =>
    s.headDoorbell (if ring.val < 32 then ring.val else mboxCq) value.toNat)

/-! ## Fetches -/

/-- R327, R349: descriptors fetched and not completed on every command SQ. -/
def State.outstanding (s : State) : Nat :=
  ((List.range 33).map fun n => if s.ringKind n == 0 then s.uncompleted n else 0).sum

/-- May the device fetch the next entry of an SQ of this kind (R343, R350, R351), its turn apart? -/
def State.mayFetch (s : State) (n kind : Nat) : Bool :=
  let r := s.ring n
  s.ringOn n && s.ringKind n == kind && !r.stopped && s.ringLoad n != 0 && s.canDma (ringFn n) &&
    (if kind = 0 then r.fetched.length < 8 + boolNat r.executing && s.outstanding < 256 else s.uncompleted n < 16)

/-- R350: is it the turn of command SQ `n`? A ring fetched from in this round waits for every ring that is to be fetched from
and has not been. -/
def State.fetchTurn (s : State) (n : Nat) : Bool :=
  !s.pcie.fetchRound.contains n ||
    (List.range 33).all fun m => !s.mayFetch m 0 || s.pcie.fetchRound.contains m

/-- R350: command SQ `n` has had its turn. -/
def State.endTurn (s : State) (n : Nat) : State :=
  { s with pcie := { s.pcie with
      fetchRound := if s.pcie.fetchRound.contains n then [n] else n :: s.pcie.fetchRound } }

/-- R323, R351: the read of an SQ entry failed; the ring stops and the entry completes with BAD_DESCRIPTOR. -/
def State.fetchFailed (s : State) (n : Nat) (opcode : Nat) : State :=
  let r := s.ring n
  let s1 := (s.readFailed (ringFn n)).setRing n { r with stopped := true, err := 1 }
  s1.complete { s1.cplNow n 0xFFFF opcode .badDescriptor 0 with sqHead := some r.dev }

/-- The device pointer of an SQ moves past the entry it fetched. -/
def State.bumpDev (s : State) (n : Nat) : State :=
  let r := s.ring n
  s.setRing n { r with dev := if r.dev + 1 == s.ringSize n then 0 else r.dev + 1 }

/-- R446: a descriptor is fetched while a flat-field acquisition runs. -/
def State.noteFetch (s : State) (n : Nat) : State :=
  { s with cal := { s.cal with flat := s.cal.flat.map fun a => { a with late := a.late.modify (fun _ => 0) n (· + 1) } } }

/-- DESCRIPTOR_FETCH (R350, R351): the next posted descriptor of a command SQ whose turn it is is fetched, or its read fails.
The opcode byte of a failed fetch's completion is a free value (log 5). -/
def execDescriptorFetch (dt : Nat) (ring : Fin 33) (data : Option (List Byte)) (s : State) :
    Host.Outcome State Fault Refusal :=
  let s := s.advance dt
  let n := ring.val
  .next (if s.mayFetch n 0 && s.fetchTurn n then
    let s := s.endTurn n
    match data with
    | none => let (v, t) := s.free; t.fetchFailed n (v % 256)
    | some bs =>
      let s1 := (s.bumpDev n).noteFetch n
      let s2 := s1.setRing n { s1.ring n with fetched := (s1.ring n).fetched ++ [padTo 64 bs] }
      s2.dropUndefined n (s2.ring n).fetched.length
  else s)

/-- R342: the buffer an entry describes, where the entry keeps the layout. -/
def parseBuf (d : List Byte) : Option Buf :=
  let addr := bytesAt d 0 8
  let len := bytesAt d 8 4
  if addr % 64 = 0 ∧ len % 64 = 0 ∧ 64 ≤ len ∧ allZero (d.drop 14) then
    some { addr := addr, len := len, tag := bytesAt d 12 2, used := 0, items := 0, firstAt := 0, lastTick := 0,
           lastTag := 0 }
  else none

/-- BUFFER_FETCH (R342, R343, R351). -/
def execBufferFetch (dt : Nat) (ring : Fin 32) (data : Option (List Byte)) (s : State) :
    Host.Outcome State Fault Refusal :=
  let s := s.advance dt
  let n := ring.val
  .next (if s.mayFetch n 1 then
    match data with
    | none => s.fetchFailed n 0xFF
    | some bs =>
      let s1 := s.bumpDev n
      match parseBuf (padTo 64 bs) with
      | some b => s1.setRing n { s1.ring n with bufs := (s1.ring n).bufs ++ [b] }
      | none => s1.complete (s1.cplNow n (bytesAt bs 12 2) 0xFF .badDescriptor 0)
  else s)

/-! ## Timeouts -/

/-- BUFFER_FLUSH_TIMEOUT (R345): FLUSH µs have passed since the first item of the open buffer. -/
def execBufferFlushTimeout (dt : Nat) (ring : Fin 32) (s : State) : Host.Outcome State Fault Refusal :=
  let s := s.advance dt
  let n := ring.val
  .next (if s.gated 1 then s else s.closeFlushed n)

/-- MODERATION_TIMEOUT (R355, R358): the timer of a CQ has reached TIME; a message falls due, or PME is set in D3hot.
Ring 32 is the mailbox CQ. -/
def execModerationTimeout (dt : Nat) (ring : Fin 33) (s : State) : Host.Outcome State Fault Refusal :=
  let s := s.advance dt
  let n := if ring.val < 32 then ring.val else mboxCq
  .next (if s.modTimerDue n then
    if (s.fn (ringFn n)).d3hot then
      if (s.ring n).timerSpent then s
      else (s.setRing n { s.ring n with timerSpent := true }).setPme (ringFn n)
    else if (s.modCfg n).1 then s.cqDue n else s
  else s)

/-! ## The archive -/

/-- A write of RING_ARCH_CFG (R363): fields other than EN change only while EN is 0; setting EN starts the window anew,
and is ignored where SIZE is 0 or too large. Blocks gathered before are dropped with their archive (log 8). -/
def State.archCfgWrite (s : State) (v : Nat) : State :=
  if s.flag .RING_ARCH_CFG_EN then s.setFlag .RING_ARCH_CFG_EN (bitOf v 0)
  else
    let size := s.fld .RING_ARCH_SIZE_SIZE
    let ok := bitOf v 0 && size != 0 && size ≤ 131072
    let s1 := s.plainWriteReg Reg.RING_ARCH_CFG (BitVec.ofNat 32 (putBit v 0 ok))
    if ok then
      { (s1.setWide Reg.RING_ARCH_WPTR_LO 0).setFld .RING_ARCH_WRAPS_COUNT 0 with
        archive := { blocks := [], seq := 0, sinceReport := 0 } }
    else s1

/-- ARCHIVE_ENABLE (R363): a write of RING_ARCH_CFG with EN 1. -/
def execArchiveEnable (value : Word) (s : State) : Host.Outcome State Fault Refusal :=
  .next (s.pf0Write fun s => s.archCfgWrite (putBit value.toNat 0 true))

/-- ARCHIVE_BLOCK_FLUSH (R360): FLUSH ms have passed since a block's first item. -/
def execArchiveBlockFlush (dt : Nat) (kind : Fin 7) (cam : Fin 4) (s : State) : Host.Outcome State Fault Refusal :=
  let s := s.advance dt
  let b := s.archive.blocks.get (fun _ => ⟨[], 0, 0⟩) (kind.val * 4 + cam.val)
  .next (if !s.gated 1 && s.flag .RING_ARCH_CFG_EN && b.items != 0 &&
      1000000 * max 1 (s.fld .RING_ARCH_CFG_FLUSH) ≤ s.now - b.firstAt then
    let (evts, t) := s.flushBlock kind.val cam.val
    t.eventsN 4 evts
  else s)

/-- The effect of RING_CLR (R363). -/
def State.ringClr (s : State) (v : Nat) : State :=
  let s1 := if bitOf v 0 then s.setFld .RING_DB_ERR_COUNT 0 else s
  if bitOf v 1 then s1.setFld .RING_ARCH_DROP_COUNT 0 else s1

/-- RING_CLR (R363). -/
def execRingClr (value : Word) (s : State) : Host.Outcome State Fault Refusal :=
  .next (s.pf0Write fun s => s.ringClr value.toNat)

/-- The effect of RING_DROP_CLR (R363). -/
def State.ringDropClr (s : State) (v : Nat) : State :=
  (List.range 32).foldl (fun s n => if bitOf v n then s.setFld (.RING_DROP_DROP n) 0 else s) s

/-- RING_DROP_CLR (R363). -/
def execRingDropClr (value : Word) (s : State) : Host.Outcome State Fault Refusal :=
  .next (s.pf0Write fun s => s.ringDropClr value.toNat)

end Sys2Proof.Machine
end

