-- ==== Sys2Proof/Machine/Pcie.lean ====
section
/-! DEFINITION. The PCI Express endpoint: the link, the resets of R331, power states of the functions, the MSI-X tables
and the bits of configuration space that act on the device (R312 to R337). -/

namespace Sys2Proof.Machine

/-! ## The link -/

/-- The lanes that are not failed (R320): they completed training, and neither LANE_DIS nor LANE_FAIL marks them. -/
def State.goodLanes (s : State) (trained : List Bool) : List Bool :=
  (List.range 4).map fun i =>
    trained.getD i false && !bitOf (s.fld .HIF_LINK_CFG_LANE_DIS) i && !bitOf (s.fld .HIF_LINK_STAT_LANE_FAIL) i

/-- R320: width and reversal from the lanes not failed; `none` where the link does not train. -/
def linkWidth : List Bool → Option (Nat × Bool)
  | [true, true, true, true] => some (4, false)
  | [true, true, _, _] => some (2, false)
  | [_, _, true, true] => some (2, true)
  | [true, _, _, _] => some (1, false)
  | [_, _, _, true] => some (1, false)
  | _ => none

/-- A message held while the link retrained goes out: of a vector with the entry that it holds now, under its masks (R325). -/
def State.sendHeld (s : State) : Msg → State
  | .msix i v _ _ => s.msixDue i v
  | m => s.emit m

/-- R313: a training at 8 GT/s or more equalises the link; the presets of its lanes are a free value from then on (log 11). -/
def State.equalised (s : State) (speed : Nat) : State :=
  if speed < 3 then s
  else { s.free.2 with pcie := { s.pcie with eqDraw := some s.freeCtr, eq16 := s.pcie.eq16 || decide (4 ≤ speed) } }

/-- The link comes up with a width and a speed: what was held for it goes out, the writes of items first (R321, R353). -/
def State.linkTrained (s : State) (w : Nat) (rev : Bool) (speed : Nat) : State :=
  let s1 := (((s.setFld .HIF_LINK_STAT_WIDTH w).setFlag .HIF_LINK_STAT_REVERSED rev).setFld .HIF_LINK_STAT_SPEED
    speed).equalised speed
  let s2 := { s1 with pcie := { s1.pcie with link := .up, heldMsgs := [], heldWrites := [] } }
  let s3 := s.pcie.heldWrites.foldl (fun s w => s.writeMem w.1 w.2) s2
  let s4 := s.pcie.heldMsgs.foldl State.sendHeld s3
  (List.range 34).foldl (fun s n => if s.ringKind n = 2 then s.drainCq n else s) s4

/-- R321: the retraining of a link with a newly failed lane is complete: event 0x0008 gives its lanes, width and speed. -/
def State.laneReport (s : State) : State :=
  if s.pcie.laneEvent then
    { s with pcie := { s.pcie with laneEvent := false } }.event 0x8 .ok 0 (leBytes 1 (s.fld .HIF_LINK_STAT_LANE_FAIL) ++
      leBytes 1 (s.fld .HIF_LINK_STAT_WIDTH) ++ leBytes 1 (s.fld .HIF_LINK_STAT_SPEED))
  else s

/-- LINK_UP (R320, R321, R331): training completes on the lanes given, also out of L2, since a link that went down retrains;
FAIL_CLR takes effect at this training. -/
def execLinkUp (dt : Nat) (lanes : List Bool) (speed : Fin 5) (s : State) : Host.Outcome State Fault Refusal :=
  let s := s.advance dt
  .next (if s.pcie.link = .training ∨ s.pcie.link = .retraining ∨ s.pcie.link = .l2 then
    let s1 := if s.pcie.failClr then
      { (s.setFld .HIF_LINK_STAT_LANE_FAIL 0) with pcie := { s.pcie with failClr := false } } else s
    match linkWidth (s1.goodLanes lanes) with
    | some (w, rev) => (s1.linkTrained w rev (max 1 speed.val)).laneReport
    | none => s1
  else s)

/-- The link retrains (R320, R321). -/
def State.retrain (s : State) : State :=
  if s.pcie.link = .up then
    { (s.count .HIF_LINK_STAT_RETRAINS 1) with pcie := { s.pcie with link := .retraining } }
  else s

/-- A write of HIF_LINK_CFG (R337). -/
def State.linkCfgWrite (s : State) (v : Nat) : State :=
  let dis := getBits v 3 0
  let s1 := if bitOf dis 0 && bitOf dis 3 then s else s.setFld .HIF_LINK_CFG_LANE_DIS dis
  let s2 := if bitOf v 9 then { s1 with pcie := { s1.pcie with failClr := true } } else s1
  if bitOf v 8 then s2.retrain else s2

/-- LINK_RETRAIN (R320): a write of HIF_LINK_CFG with RETRAIN 1. -/
def execLinkRetrain (value : Word) (s : State) : Host.Outcome State Fault Refusal :=
  .next (s.pf0Write fun s => s.linkCfgWrite (putBit value.toNat 8 true))

/-- LANE_FAIL_CLR (R337): a write of HIF_LINK_CFG with FAIL_CLR 1. -/
def execLaneFailClr (value : Word) (s : State) : Host.Outcome State Fault Refusal :=
  .next (s.pf0Write fun s => s.linkCfgWrite (putBit value.toNat 9 true))

/-- PERST_N_RELEASE (R335): the link trains; in reset it trains once the device leaves it. -/
def execPerstNRelease (dt : Nat) (s : State) : Host.Outcome State Fault Refusal :=
  let s := s.advance dt
  .next (if !s.pcie.perst || s.off then s
    else if s.inReset || s.power.moulting then { s with pcie := { s.pcie with perst := false } }
    else { s with pcie := { s.pcie with perst := false, link := .training } })

/-- The effect of HIF_PCIE_CLR (R337). -/
def State.pcieClr (s : State) (v : Nat) : State :=
  let s1 := if bitOf v 0 then s.setReg Reg.HIF_RESET_STAT 0 else s
  let s2 := if bitOf v 1 then s1.setReg Reg.HIF_NORING_DROP 0 else s1
  let s3 := if bitOf v 2 then s2.setReg Reg.HIF_DMA_ERR 0 else s2
  if bitOf v 3 then s3.setReg Reg.HIF_LANE_ERR 0 else s3

/-- HIF_PCIE_CLR (R337). -/
def execHifPcieClr (value : Word) (s : State) : Host.Outcome State Fault Refusal :=
  .next (s.pf0Write fun s => s.pcieClr value.toNat)

/-- R323, R313: a correctable error is reported under AER by both functions: bit 0 for a receiver error; of any other kind the
bit is a free value. The lane of a receiver error shows in the lane error status. -/
def State.linkError (s : State) (lane : Option (Fin 4)) : State :=
  let (v, s1) := s.free
  let bit := if lane.isSome then 0 else [6, 7, 8, 12].getD (v % 4) 6
  let s2 := (s1.reportCorrectable 0 bit).reportCorrectable 1 bit
  match lane with
  | some l => s2.setFn 0 ((s2.fn 0).setCapBit 0x158 l.val)
  | none => s2

/-- R329: the latency tolerance reported, in ns; `none` is no requirement. -/
def State.latencyTolerance (s : State) : Option Nat :=
  if s.running && (List.range 32).any (fun n => s.ringOn n && s.ringKind n == 1) then some 20000 else none

/-! ## Tables -/

/-- Bytes are written to a bank of a table. -/
def State.writeTable (s : State) (key bank off : Nat) (bs : List Byte) : State :=
  { s with tables := { s.tables with bytes := s.tables.bytes.setMany tableReset (tableAddr key bank off) bs } }

/-- The table swaps among items, as TABLE and INDEX. -/
def swapsOf (l : List Item) : List (Nat × Nat) :=
  l.filterMap fun | .swap t i _ => some (t, i) | _ => none

/-- R370: may the shadow bank of a table be written? Not while an accepted group still swaps it, not before the edge after a
swap (R38), and not before the switch of a Weevil program (R290). -/
def State.bankIdle (s : State) (table index : Nat) : Bool :=
  !s.accepted.any (fun a => (swapsOf a.items).contains (table, index)) &&
    decide (s.tables.swapTick.get (fun _ => 0) (tableKey table index) ≤ s.lastTick) &&
    !(0x40 ≤ table && (s.wvRole (table - 0x40)).swap.isSome)

/-- Was the head of a ring fetched since an acquisition was accepted (R446)? -/
def Flat.fetchedLate (a : Flat) (s : State) (q : Nat) : Bool :=
  decide ((s.ring q).fetched.length ≤ a.late.get (fun _ => 0) q)

/-- R370, R446: may a load of a table by the head of a ring begin to write its shadow bank? During a flat-field acquisition one
that was fetched in its time may not. -/
def State.bankFree (s : State) (q table index : Nat) : Bool :=
  s.bankIdle table index && !((table == 0x22 || table == 0x23) && s.cal.flat.any fun a => a.fetchedLate s q)

/-- Does a load write its bank? It is free, and no earlier load of the table is open. -/
def State.loadStarted (s : State) (l : Load) : Bool :=
  s.bankFree l.ring l.table l.index && (s.loads.find? fun m => m.table == l.table && m.index == l.index) == some l

/-- A load ends without completing: some first part of its bytes, of a free length, has been written, and its shadow
bank is incomplete (R331, log 5). -/
def State.abandonLoad (s : State) (l : Load) : State :=
  let (v, s1) := s.free
  let key := tableKey l.table l.index
  let s2 := s1.writeTable key (1 - s1.activeBank key) l.offset (l.data.take (v % (l.data.length + 1)))
  { s2 with tables := { s2.tables with incomplete := s2.tables.incomplete.set (fun _ => false) key true } }

/-! ## Resets of the functions -/

/-- Registers in a range of addresses return to their reset values. -/
def State.resetRegs (s : State) (lo hi : Nat) : State :=
  { s with regs := s.regs.filter fun p => p.1 < lo || hi ≤ p.1 }

/-- An accepted group whose completion has no ring left to go to (R331). -/
def Accepted.orphan (a : Accepted) : Accepted := { a with ring := 64 }

/-- R331: what every reset of PF0 stops and discards. A load that has not begun to write leaves its bank alone. The blocks of the
archive that were open are dropped, and count after the reset of the registers (R361, log 8). -/
def State.stopF0 (s : State) : State :=
  let s1 := (s.loads.filter s.loadStarted).foldl (fun s l => s.abandonLoad l) s
  let s2 := { s1 with
    loads := [], groups := [], rings := s1.rings.filter (fun p => 32 ≤ p.1),
    accepted := s1.accepted.map Accepted.orphan,
    archive := { blocks := [], seq := 0, sinceReport := 0 },
    pcie := { s1.pcie with
      vecSent := [], heldMsgs := s1.pcie.heldMsgs.filter (·.fn != 0), heldWrites := [], heldItems := [], fetchRound := [] } }
  (s2.resetRegs 0x5000 0x6000).count .RING_ARCH_DROP_COUNT (s.archive.blocks.filter fun e => e.2.items != 0).length

/-- R331, R333: what every reset of PF1 stops and discards; sources held by the host target are completed, and a
mailbox command under execution completes without its completion. -/
def State.stopF1 (s : State) : State :=
  let s1 := { s with
    rings := s.rings.filter (fun p => p.1 < 32),
    mboxGen := s.mboxGen + 1,
    pcie := { s.pcie with heldMsgs := s.pcie.heldMsgs.filter (·.fn != 1) } }
  (s1.resetRegs 0x20000 0x20800).completeAllOf 2

/-- A reset of R331 stops a function, which by then sends no message any more. -/
def State.stopFn (s : State) (i : Nat) : State := if i = 0 then s.stopF0 else s.stopF1

/-- Does a configuration request of the host reach the device? -/
def State.cfgOk (s : State) : Bool := s.pcie.link = .up && !s.inReset && !s.off

/-- A function-level reset (R331 to R333). -/
def State.functionReset (s : State) (i : Nat) : State :=
  ((s.setFn i PciFn.init).stopFn i).count (if i = 0 then .HIF_RESET_STAT_FLR0 else .HIF_RESET_STAT_FLR1) 1

/-- FUNCTION_LEVEL_RESET (R331 to R333). -/
def execFunctionLevelReset (fn : Fin 2) (s : State) : Host.Outcome State Fault Refusal :=
  .next (if s.cfgOk then s.functionReset fn.val else s)

/-- Bus Master Enable is cleared (R331). -/
def State.busMasterOff (s : State) (i : Nat) : State :=
  if (s.fn i).busMaster then
    ((s.setFn i { s.fn i with busMaster := false }).stopFn i).count .HIF_RESET_STAT_BME_OFF 1
  else s

/-- BUS_MASTER_DISABLE (R331): a configuration write clears Bus Master Enable. -/
def execBusMasterDisable (fn : Fin 2) (s : State) : Host.Outcome State Fault Refusal :=
  .next (if s.cfgOk then s.busMasterOff fn.val else s)

/-- Is the link up, or retraining from there, so that it can go down (R393)? -/
def State.linked (s : State) : Bool := s.pcie.link = .up || s.pcie.link = .retraining

/-- R331, R393: both functions are reset with the link; fast source LINK_DOWN is raised where a link goes down. -/
def State.linkReset (s : State) (next : LinkState) (perst : Bool) : State :=
  let s1 := ((s.setFn 0 PciFn.init).setFn 1 PciFn.init).stopFn 0
  let s3 := (s1.stopFn 1).setFld .HIF_LINK_STAT_SPEED 0
  let s4 := { s3 with pcie := { s3.pcie with link := next, perst := perst, heldMsgs := [], heldWrites := [], eqDraw := none, eq16 := false, margin := [] } }
  let s5 := s4.count .HIF_RESET_STAT_LINK_RST 1
  if s.linked then s5.raiseFast 14 else s5

/-- R328, R331: the link goes down while both functions are in D3hot: they are reset with the link, which is in L2. What they
hold of a PME outlasts the reset, so that it can be pending (log 60). -/
def State.enterL2 (s : State) : State :=
  let keep (i : Nat) : PciFn := { PciFn.init with pmeEnable := (s.fn i).pmeEnable, pmeStatus := (s.fn i).pmeStatus }
  ((((s.count .HIF_LINK_STAT_RETRAINS 1).linkReset .l2 false).setFn 0 (keep 0)).setFn 1 (keep 1))

/-- HOT_RESET (R331): a hot reset, a link down or an assertion of PERST_N, whose level holds in reset and in OFF too. -/
def execHotReset (dt : Nat) (kind : LinkReset) (s : State) : Host.Outcome State Fault Refusal :=
  let s := s.advance dt
  .next (match kind with
    | .perstN =>
      if s.inReset || s.off || s.power.moulting then { s with pcie := { s.pcie with perst := true } }
      else s.linkReset .down true
    | _ =>
      if s.inReset || s.off || s.power.moulting || s.pcie.perst then s
      else if kind = .linkDown && s.pcie.link = .up && (s.fn 0).d3hot && (s.fn 1).d3hot then s.enterL2
      else
        let s1 := if s.linked then s.count .HIF_LINK_STAT_RETRAINS 1 else s
        s1.linkReset .training false)

/-! ## Pending messages -/

/-- Number of vectors of a function (R324). -/
def fnVectors (i : Nat) : Nat := if i = 0 then 64 else 8

/-- R325: a pending message of a vector goes out once the vector is not masked and messages can be sent. -/
def State.sendIfPending (s : State) (i v : Nat) : State :=
  if (s.fn i).pba.get (fun _ => false) v && !(s.fn i).masked v && s.canSignal i then
    (s.setFn i { s.fn i with pba := (s.fn i).pba.set (fun _ => false) v false }).sendVector i v
  else s

/-- R325: the pending messages of a function whose messages can be sent again go out. -/
def State.sendPending (s : State) (i : Nat) : State := (List.range (fnVectors i)).foldl (fun s v => s.sendIfPending i v) s

/-- An entry of the MSI-X table changes; a pending message goes out when the vector is unmasked (R325). -/
def State.setVector (s : State) (i v : Nat) (e : MsixEntry) : State :=
  let f := s.fn i
  (s.setFn i { f with vectors := f.vectors.set (fun _ => MsixEntry.init) v e }).sendIfPending i v

/-! ## Power states of the functions -/

/-- Every open buffer of the stream SQs closes (R345, R359). -/
def State.closeOpenBufs (s : State) : State :=
  (List.range 32).foldl (fun s n =>
    match (s.ring n).bufs with
    | b :: _ => if b.items = 0 then s else s.closeBuf n .ok b.used
    | [] => s) s

/-- A function enters D3hot (R326, R327, R359). -/
def State.enterD3hot (s : State) (i : Nat) : State :=
  if (s.fn i).d3hot then s
  else
    let s1 := s.setFn i { s.fn i with d3hot := true }
    if i = 0 then s1.closeOpenBufs else s1

/-- D3HOT_ENTRY (R326, R327, R359). -/
def execD3hotEntry (fn : Fin 2) (s : State) : Host.Outcome State Fault Refusal :=
  .next (if s.cfgOk then s.enterD3hot fn.val else s)

/-- R359: after a return to D0, a CQ's held completions are written, and then its message falls due where a condition
of R355 holds. The entries written start no timer. -/
def State.resumeCq (s : State) (q : Nat) : State :=
  let s1 := s.drainHeld q false (s.ring q).held
  if s1.modDue q then s1.cqDue q else s1

/-- A function returns to D0 (R325, R326, R359, R399). -/
def State.returnD0 (s : State) (i : Nat) : State :=
  if (s.fn i).d3hot then
    let s1 := (s.setFn i { s.fn i with d3hot := false }).sendPending i
    if i = 0 then
      (List.range 32).foldl (fun s n => if s.ringKind n = 2 then s.resumeCq n else s) s1
    else
      let s2 := s1.resumeCq mboxCq
      if s2.icx.host.asserted then s2.msixDue 1 1 else s2
  else s

/-- D0_RETURN (R326, R359, R399). -/
def execD0Return (fn : Fin 2) (s : State) : Host.Outcome State Fault Refusal :=
  .next (if s.cfgOk then s.returnD0 fn.val else s)

/-! ## MSI-X tables and configuration space -/

/-- A 32-bit write into the MSI-X table of a function (R319): word `j` of entry `v`. -/
def State.writeVectorWord (s : State) (i v j : Nat) (w : Word) : State :=
  let e := (s.fn i).vector v
  s.setVector i v (match j with
    | 0 => { e with addrLo := w &&& 0xFFFFFFFC#32 }
    | 1 => { e with addrHi := w }
    | 2 => { e with data := w }
    | _ => { e with control := w &&& 1#32 })

/-- A write of the host into a BAR of function `i`. -/
def State.barWrite (s : State) (i : Nat) (f : State → State) : State := if i = 0 then s.pf0Write f else s.pf1Write f

/-- MSIX_VECTOR_UNMASK (R325). -/
def execMsixVectorUnmask (fn : Fin 2) (vec : Fin 64) (s : State) : Host.Outcome State Fault Refusal :=
  .next (if vec.val < fnVectors fn.val then
    s.barWrite fn.val fun s =>
      s.setVector fn.val vec.val { (s.fn fn.val).vector vec.val with control := 0 }
  else s)

/-- The bits of a word of configuration space that the host writes and the device keeps (R313): error enables, the interrupt
line, ASPM and the other controls of the capabilities, at the places of the PCI Express standard (PRESUMED, log 11). The bits
that act on the device beside these are those of `PciFn`. -/
def cfgRw (i off : Nat) : Nat :=
  match off with
  | 0x04 => 0x140 | 0x3C => 0xFF | 0x78 => 0x10F | 0x80 => 0xCB | 0x98 => if i = 0 then 0x41F else 0x1F | 0xA0 => 0xF
  | 0x108 => 0x1FF010 | 0x10C => 0x1FF010 | 0x114 => 0x31C1
  | 0x154 => if i = 0 then 0x3 else 0
  | 0x1A8 => if i = 0 then 0xFF7F else 0 | 0x1AC => if i = 0 then 0xFF7F else 0
  | 0x1B0 => if i = 0 then 0xFF7F else 0 | 0x1B4 => if i = 0 then 0xFF7F else 0
  | 0x1C8 => if i = 0 then 0xE3FFFF0F else 0 | 0x1CC => if i = 0 then 0xFB else 0
  | 0x1E4 => if i = 0 then 0x1FFF1FFF else 0
  | _ => 0

/-- The bits of a word that an error sets and a write of 1 clears. -/
def cfgW1c (i off : Nat) : Nat :=
  match off with
  | 0x78 => 0xF0000 | 0xA0 => 0x200000 | 0x104 => 0x1FF010 | 0x110 => 0x31C1 | 0x158 => if i = 0 then 0xF else 0
  | 0x17C => if i = 0 then 0x10 else 0 | 0x180 => if i = 0 then 0xF else 0
  | 0x184 => if i = 0 then 0xF else 0 | 0x188 => if i = 0 then 0xF else 0
  | _ => 0

/-- The bits of a word that the device alone sets and that are kept (R313): the margining status of the lanes. -/
def cfgRo (i off : Nat) : Nat := if i = 0 ∧ 0x1A8 ≤ off ∧ off ≤ 0x1B4 ∧ off % 4 = 0 then 0xFF7F0000 else 0

/-- Can the receivers be margined: the link is up at 16 GT/s? -/
def State.marginReady (s : State) : Bool := s.pcie.link == .up && s.fld .HIF_LINK_STAT_SPEED == 4

/-- A margining command is written for a lane: the status takes its receiver, type and usage model, and its payload, where it
is no "No Command", is a free value (R313, log 11). -/
def State.marginCommand (s : State) (off : Nat) : State :=
  let f := s.fn 0
  let c := (f.cap off).toNat % 2 ^ 16
  let none_ := getBits c 5 3 == 7
  let status := if none_ then c else c % 2 ^ 7
  let s1 := s.setFn 0 { f with caps := f.caps.set capReset off (BitVec.ofNat 32 (c + 2 ^ 16 * status)) }
  if none_ then { s1 with pcie := { s1.pcie with margin := s1.pcie.margin.set (fun _ => 0) off 0 } }
  else { s1.free.2 with pcie := { s1.pcie with margin := s1.pcie.margin.set (fun _ => 0) off (s1.freeCtr + 1) } }

/-- The bits of `PciFn.caps` in a word after a write. -/
def State.capWrite (s : State) (i off v : Nat) : State :=
  let f := s.fn i
  let rw := BitVec.ofNat 32 (cfgRw i off)
  let w1c := BitVec.ofNat 32 (cfgW1c i off)
  let new := (BitVec.ofNat 32 v &&& rw) ||| (f.cap off &&& w1c &&& ~~~ (BitVec.ofNat 32 v)) |||
    (f.cap off &&& BitVec.ofNat 32 (cfgRo i off))
  if cfgRw i off = 0 ∧ cfgW1c i off = 0 then s
  else
    let s1 := s.setFn i { f with caps := f.caps.set capReset off new }
    if cfgRo i off ≠ 0 ∧ s.marginReady then s1.marginCommand off else s1

/-- A 32-bit write of the host to the configuration space of a function. The places of the bits are those of the PCI
Express standard (PRESUMED, log 11): the command register, PMCSR, the MSI-X control word, the device control words and
the PTM control word at the capability offsets of R313. Clearing Bus Master Enable, a change of power state and an FLR
act as their commands do. -/
def State.cfgWrite (s : State) (i off : Nat) (v : Nat) : State :=
  if !s.cfgOk then s else
  let s := s.capWrite i off v
  let f := s.fn i
  if off = 0x04 then
    let s1 := s.setFn i { f with memEnable := bitOf v 1 }
    if bitOf v 2 then (s1.setFn i { s1.fn i with busMaster := true }).sendPending i else s1.busMasterOff i
  else if 0x10 ≤ off ∧ off ≤ 0x1C ∧ off % 4 = 0 then
    let mask : Nat := if off = 0x10 then (if i = 0 then 0xFFFF0000 else 0xFFFFC000)
      else if off = 0x18 ∧ i = 0 then 0xFFFFF000 else if off = 0x14 ∨ (off = 0x1C ∧ i = 0) then 0xFFFFFFFF else 0
    s.setFn i { f with bars := f.bars.set (fun _ => 0) off (BitVec.ofNat 32 v &&& BitVec.ofNat 32 mask) }
  else if off = 0x44 then
    let s1 := s.setFn i { f with pmeEnable := bitOf v 8, pmeStatus := f.pmeStatus && !bitOf v 15 }
    if getBits v 1 0 = 3 then s1.enterD3hot i else if getBits v 1 0 = 0 then s1.returnD0 i else s1
  else if off = 0x50 then (s.setFn i { f with msixEnable := bitOf v 31, msixMask := bitOf v 30 }).sendPending i
  else if off = 0x78 then
    if bitOf v 15 then s.functionReset i else s.setFn i { f with maxPayload := getBits v 7 5, maxRead := getBits v 14 12 }
  else if off = 0x98 then s.setFn i { f with tag10 := bitOf v 12 }
  else if off = 0x1D8 ∧ i = 0 then s.setFn i { f with ptmEnable := bitOf v 0 }
  else s

end Sys2Proof.Machine
end

