-- ==== Sys2Proof/Machine/Nvm.lean ====
section
/-! DEFINITION. The NVM: its program sequences, the records of its journal and their log (R447, R458, R461, R498, R508, R521,
R522). -/

namespace Sys2Proof.Machine

/-! ## Program sequences that wait -/

/-- R461: does T_COLD_LIMIT stand crossed falling, so that program sequences are refused? -/
def State.coldRefused (s : State) : Bool := s.flag .THM_STAT_COLD_LIMIT

/-- R458, R461: are program sequences refused? -/
def State.nvmRefused (s : State) : Bool := s.coldRefused || s.thermal.trip.isSome

/-- A program sequence joins the queue; a record of the device waits among at most 64 entries while it is too cold,
and is counted as lost beyond them (R461). After T_TRIP no sequence starts any more (R458). -/
def State.program (s : State) (j : NvmJob) : State :=
  if s.coldRefused then
    if s.nvm.cold.length < 64 then { s with nvm := { s.nvm with cold := s.nvm.cold ++ [j] } }
    else s.count .THM_NVM_Q_LOST 1
  else if s.thermal.trip.isSome then s
  else { s with nvm := { s.nvm with jobs := s.nvm.jobs ++ [j] } }

/-- A journal record is to be written (R522). -/
def State.journal (s : State) (type : Nat) (body : List Byte) (note : NvmNote) : State :=
  s.program (.record type body note)

/-- A unit as the spare map in the journal names it. -/
def UnitInfo.code (u : UnitInfo) : List Nat :=
  [match u.state with | .inRole => 0 | .stock => 1 | .underTest => 2 | .retired => 3, (u.role.map (· + 1)).getD 0]

/-- What a record holds, as numbers. -/
def NvmNote.content : NvmNote → List Nat
  | .quiet => []
  | .spareMap u h k => (u.flatMap fun e => e.1 :: e.2.code) ++ (h.flatMap fun e => [e.1, e.2]) ++ k
  | .faultRecord b => b.map (·.toNat)
  | .owner r seq _ => seq :: r.map (·.toNat)
  | .snapshot m _ => m.flatMap fun e => [e.1, e.2]
  | .fwWrite len _ => [len]
  | .fullNext b => [boolNat b]
  | .moult r => [r.verdict, r.patterns, r.results.length] ++ r.results ++ r.partitions
  | .banks a b c => [a, b, c]
  | .wear m => m.flatMap fun e => [e.1, e.2]
  | .shutdown cause cut temp => [cause, boolNat cut, temp]

/-- The most bytes of a body that the spec does not lay out: a snapshot with its header and its marker has 16 KiB at most (R447),
and the records in force and the latest 4,096 fault records fit into half of the log (log 49). -/
def bodyLimit (type : Nat) : Nat := if type = 4 then 16360 else 8192

/-- A journal record whose body the spec does not lay out: its bytes follow from what it holds (log 4). -/
def State.journalOpaque (s : State) (type : Nat) (note : NvmNote) : State :=
  s.journal type ((Config.recordBody type s.nvm.seq note.content).take (bodyLimit type)) note

/-- T_COLD_LIMIT crosses rising: the waiting entries are written (R461). -/
def State.releaseCold (s : State) : State :=
  { s with nvm := { s.nvm with jobs := s.nvm.jobs ++ s.nvm.cold, cold := [] } }

/-- A fault record of R498. -/
structure FaultRec where
  kind : Nat
  cls : Nat
  source : Nat
  status : Status
  epoch : Nat
  role : Nat
  unit : Nat
  arg : Nat
  deriving DecidableEq, Repr

/-- The 32 bytes of a fault record (R498). -/
def State.faultBytes (s : State) (r : FaultRec) : List Byte :=
  leBytes 4 s.nvm.faultSeq ++ leBytes 1 r.kind ++ leBytes 1 r.cls ++ leBytes 1 r.source ++
    leBytes 1 r.status.code ++ leBytes 8 s.tb.toNat ++ leBytes 2 s.nvm.boot ++ leBytes 2 r.epoch ++
    leBytes 4 r.role ++ leBytes 4 r.unit ++ leBytes 4 r.arg

/-- A fault record is formed and written to the journal. -/
def State.faultRecord (s : State) (r : FaultRec) : State :=
  let b := s.faultBytes r
  let s1 := { s with nvm := { s.nvm with faultSeq := s.nvm.faultSeq + 1 } }
  s1.journal 2 b (.faultRecord b)

/-! ## The NVM -/

/-- Bytes of the NVM. -/
def State.nvmRange (s : State) (a n : Nat) : List Byte := s.nvm.bytes.getMany Config.nvmByte a n

/-- R393: a read of the NVM fails: fast source NVM_FAULT is raised, and what the read gives is free (log 49). -/
def State.nvmReadFailed (s : State) (len : Nat) : List Byte × State :=
  let (v, t) := (s.raiseFast 7).free
  ((List.range len).map fun i => BitVec.ofNat 8 (Config.freeAt v i), t)

/-- What a read of the NVM that holds `bs` gives; whether it fails is free (R393, log 49). -/
def State.nvmRead (s : State) (bs : List Byte) : List Byte × State :=
  let u := s.free.2
  if Config.nvmReadFails s.freeCtr then u.nvmReadFailed bs.length else (bs, u)

/-- Bytes are programmed into the NVM. -/
def State.writeNvm (s : State) (a : Nat) (bs : List Byte) : State :=
  { s with nvm := { s.nvm with bytes := s.nvm.bytes.setMany Config.nvmByte a bs } }

/-- A block of 4 KiB is erased (R521). -/
def State.eraseBlock (s : State) (b : Nat) : State :=
  let t := s.writeNvm (4096 * b) (List.replicate 4096 Config.erasedByte)
  { t with nvm := { t.nvm with erases := t.nvm.erases.modify (fun _ => 0) b (· + 1) } }

/-! ## The log of the journal -/

/-- Where the journal begins in the NVM (R521). -/
def journalAt : Nat := 0x300000

/-- The end of the journal. -/
def journalEnd : Nat := 786432

/-- The start of the log in the journal (R521), and of its second half: the log stands in one of the halves, and a compaction
moves it into the other (log 49). -/
def logStart : Nat := 65536
def logHalf : Nat := 425984

/-- Where the half of the log ends that the log stands in. -/
def State.logEnd (s : State) : Nat := if s.nvm.logBase < logHalf then logHalf else journalEnd

/-- The header of a journal record but for its CRC (R522). -/
def recordHead (type seq : Nat) (body : List Byte) : List Byte :=
  leBytes 2 type ++ leBytes 2 0 ++ leBytes 4 body.length ++ leBytes 4 seq

/-- The bytes of a journal record: header, body and commit marker (R522). -/
def recordBytes (type seq : Nat) (body : List Byte) : List Byte :=
  let head := recordHead type seq body
  head ++ leBytes 4 (Config.crc32 (head ++ body)).toNat ++ body ++ leBytes 4 seq ++ leBytes 4 0x434D4D54

/-- A record of the log: its type, its number and its bytes. -/
structure LogRecord where
  type : Nat
  seq : Nat
  bytes : List Byte
  deriving DecidableEq, Repr

/-- The body of a record. -/
def LogRecord.body (r : LogRecord) : List Byte := (r.bytes.drop 16).take (r.bytes.length - 24)

/-- R522: is the marker of a record written, and does its CRC hold? -/
def LogRecord.valid (r : LogRecord) : Bool := r.bytes == recordBytes r.type r.seq r.body

/-- The records that a stretch of the log holds, in order, the unfinished ones too. `fuel` bounds their number. -/
def parseLog : Nat → List Byte → List LogRecord
  | 0, _ => []
  | fuel + 1, bs =>
    if bs.length < 24 then []
    else
      let n := 24 + bytesAt bs 4 4
      ⟨bytesAt bs 0 2, bytesAt bs 8 4, bs.take n⟩ :: parseLog fuel (bs.drop n)

/-- R522: the records of the log that count, in order. -/
def State.logRecords (s : State) : List LogRecord :=
  let used := s.nvmRange (journalAt + s.nvm.logBase) (s.nvm.logTail - s.nvm.logBase)
  (parseLog used.length used).filter (·.valid)

/-- R522: the records that compaction keeps: those in force, and the latest 4,096 fault records. -/
def keptRecords (l : List LogRecord) : List LogRecord :=
  let faults := (l.filter (·.type == 2)).length
  (l.zipIdx.filter fun e =>
    if e.1.type = 2 then
      decide (faults ≤ ((l.take e.2).filter (·.type == 2)).length + 4096)
    else !(l.drop (e.2 + 1)).any (·.type == e.1.type)).map (·.1)

/-- The journal takes the wear counters (R522). -/
def State.journalWear (s : State) : State := s.journalOpaque 5 (.wear s.nvm.erases)

/-- R522: the log is compacted: the records kept are copied to the other half of the log, whose blocks are free, and then the
blocks of the originals are erased, of which the wear counters take note. -/
def State.compact (s : State) : State :=
  let kept := keptRecords s.logRecords
  let bytes := (kept.map (·.bytes)).flatten
  let base := if s.nvm.logBase < logHalf then logHalf else logStart
  let s1 := s.writeNvm (journalAt + base) bytes
  let s2 := (List.range ((s.nvm.logTail - s.nvm.logBase + 4095) / 4096)).foldl
    (fun s b => s.eraseBlock ((journalAt + s.nvm.logBase) / 4096 + b)) s1
  { s2 with nvm := { s2.nvm with
      logBase := base, logTail := base + bytes.length
      notes := s2.nvm.notes.filter fun e => kept.any (·.seq == e.1) } }.journalWear

/-- R522: room is made for a record of `n` bytes at the end of the log. -/
def State.makeRoom (s : State) (n : Nat) : State := if s.logEnd < s.nvm.logTail + n then s.compact else s

/-- Bytes take the place of a record at the end of the log, which is `n` bytes long, and its number is used. -/
def State.placeRecord (s : State) (n : Nat) (bs : List Byte) : State :=
  let t := s.writeNvm (journalAt + s.nvm.logTail) bs
  { t with nvm := { t.nvm with logTail := t.nvm.logTail + n, seq := (t.nvm.seq + 1) % 2 ^ 32 } }

/-- A journal record is programmed whole at the end of the log, which is compacted first where it does not fit (R522). -/
def State.writeRecord (s : State) (type : Nat) (body : List Byte) (note : NvmNote) : State :=
  let bs := recordBytes type s.nvm.seq body
  let t := s.makeRoom bs.length
  { t with nvm := { t.nvm with notes := t.nvm.notes.set (fun _ => .quiet) s.nvm.seq note } }.placeRecord bs.length bs

/-- A record is in force: what it holds is taken over (R483, R447, R494, R500, R508, R515, R522). -/
def State.takeNote (s : State) : NvmNote → State
  | .spareMap u h k => { s with nvm := { s.nvm with mapUnits := u, mapHolder := h, mapKept := k } }
  | .owner r seq _ => { s with nvm := { s.nvm with owner := r, ownerSeq := some seq } }
  | .snapshot m _ => { s with nvm := { s.nvm with snapshot := some m } }
  | .fullNext b => { s with nvm := { s.nvm with fullNext := b } }
  | .moult r => { s with nvm := { s.nvm with moult := r.verdict, moultRecord := some r } }
  | .banks a b c => { s with nvm := { s.nvm with bankRec := (a, b, c) } }
  | .wear m => { s with nvm := { s.nvm with wearRec := m } }
  | .quiet | .faultRecord _ | .fwWrite _ _ | .shutdown _ _ _ => s

/-- R522: a start takes the records of the log whose marker is written and whose CRC holds, the newest of each type last; the
others are discarded. What no record of the log tells stays as it was. A bank that was in a trial when the reset came is one
still, whatever its record came to (R512). -/
def State.readJournal (s : State) : State :=
  let l := s.logRecords
  let t := l.foldl (fun s r => s.takeNote (s.nvm.notes.get (fun _ => .quiet) r.seq)) s
  let faults := (l.filter (·.type == 2)).map (·.body)
  let (a, b, c) := t.nvm.bankRec
  { t with nvm := { t.nvm with
      bankA := if s.nvm.bankA = 4 then 4 else a, bankB := if s.nvm.bankB = 4 then 4 else b, confirmed := c, erases := t.nvm.wearRec
      faults := if faults.isEmpty then t.nvm.faults else faults.drop (faults.length - 4096) } }

/-- The program sequence under way is cut off, and those that wait are gone. How far it had come is a free value: a record that
had its header stays without a marker, of a chunk the first bytes are programmed, and a block is erased or not (R522, log 49). -/
def State.cutJob (s : State) : State :=
  let t := { s.free.2 with nvm := { s.nvm with jobs := [] } }
  let v := s.free.1
  match s.nvm.jobs with
  | [] => s
  | .record type body _ :: _ =>
    let bs := recordBytes type s.nvm.seq body
    let done := v % (bs.length - 7)
    if done < 16 then t else (t.makeRoom bs.length).placeRecord bs.length (bs.take done)
  | .chunk a data _ :: _ => t.writeNvm a (data.take (v % (data.length + 1)))
  | .erase b :: _ => if v % 2 = 0 then t.eraseBlock b else t

end Sys2Proof.Machine
end

