-- ==== Sys2Proof/Machine/Spares.lean ====
section
/-! DEFINITION. Spare classes, substitution and the ends of in-service self-tests (R472 to R491), and the
mailbox rules of R365, R387 and R503. -/

namespace Sys2Proof.Machine

/-! ## Units, roles and scopes (R472) -/

/-- The key of a unit, a role or an instance of a class. -/
def unitKey (cls n : Nat) : Nat := cls * 2 ^ 20 + n

/-- Number of physical units of a class. -/
def classUnits : Nat → Nat
  | 0 => 33280 | 1 => 18 | 2 => 34 | 3 => 680 | 4 => 9 | 5 => 5 | 6 => 17 | 7 => 5 | 8 => 18 | 9 => 4 | 10 => 2
  | 12 => 24 | 13 => 4 | _ => 0

/-- Number of roles of a class. -/
def classRoles : Nat → Nat
  | 0 => 32768 | 1 => 16 | 2 => 32 | 3 => 640 | 4 => 8 | 5 => 4 | 6 => 16 | 7 => 4 | 8 => 16 | 9 => 3 | 10 => 2
  | 12 => 24 | 13 => 4 | _ => 0

/-- The role a unit holds when no unit is retired. -/
def homeRole (cls u : Nat) : Option Nat :=
  match cls with
  | 0 => if u % 260 < 256 then some (u / 260 * 256 + u % 260) else none
  | 3 => if u % 17 < 16 then some (u / 17 * 16 + u % 17) else none
  | c => if u < classRoles c then some u else none

/-- The unit that holds a role when no unit is retired. -/
def homeUnit (cls r : Nat) : Nat :=
  match cls with
  | 0 => r / 256 * 260 + r % 256
  | 3 => r / 16 * 17 + r % 16
  | _ => r

/-- A unit as it stands when no unit is retired. -/
def unitHome (key : Nat) : UnitInfo :=
  match homeRole (key / 2 ^ 20) (key % 2 ^ 20) with
  | some r => ⟨.inRole, some r⟩
  | none => ⟨.stock, none⟩

/-- The unit `u` of a class. -/
def State.unitInfo (s : State) (cls u : Nat) : UnitInfo := s.spares.units.get unitHome (unitKey cls u)

/-- The journal takes the spare map (R483). -/
def State.journalMap (s : State) : State := s.journalOpaque 1 (.spareMap s.spares.units s.spares.holder s.spares.kept)

/-- R482: waiting changes that a condition holds for will find their role or their unit changed. -/
def State.staleSubsts (s : State) (p : Subst → Bool) : State :=
  { s with spares := { s.spares with queue := s.spares.queue.map fun (q : Subst) => if p q then { q with stale := true } else q } }

/-- A unit changes; the journal takes the spare map at every change of a unit's state (R483). -/
def State.setUnit (s : State) (cls u : Nat) (v : UnitInfo) : State :=
  let s1 := { s with spares := { s.spares with units := s.spares.units.set unitHome (unitKey cls u) v } }
  if (s.unitInfo cls u).state = v.state then s1
  else
    (if (s.unitInfo cls u).state = .stock then s1.staleSubsts fun q => q.cls == cls && q.new == some u else s1).journalMap

/-- The unit that holds a role. -/
def State.holder (s : State) (cls r : Nat) : Nat :=
  s.spares.holder.get (fun k => homeUnit (k / 2 ^ 20) (k % 2 ^ 20)) (unitKey cls r)

/-- A role passes to a unit. -/
def State.setHolder (s : State) (cls r u : Nat) : State :=
  let s := s.staleSubsts fun q => q.cls == cls && q.role == r
  { s with spares := { s.spares with
      holder := s.spares.holder.set (fun k => homeUnit (k / 2 ^ 20) (k % 2 ^ 20)) (unitKey cls r) u } }

/-- The epoch of a role (R41). -/
def State.epoch (s : State) (cls r : Nat) : Nat := s.spares.epoch.get (fun _ => 0) (unitKey cls r)

/-- A role has a new epoch. -/
def State.setEpoch (s : State) (cls r e : Nat) : State :=
  { s with spares := { s.spares with epoch := s.spares.epoch.set (fun _ => 0) (unitKey cls r) e } }

/-- A role's epoch increases by 1, modulo 2^16 (R41). -/
def State.bumpEpoch (s : State) (cls r : Nat) : State := s.setEpoch cls r ((s.epoch cls r + 1) % 2 ^ 16)

/-- Is a role left without a unit (R480)? -/
def State.roleLost (s : State) (cls r : Nat) : Bool := s.spares.lost.get (fun _ => false) (unitKey cls r)

/-- Does a unit serve a role? -/
def State.holds (s : State) (cls r u : Nat) : Bool := s.holder cls r == u && !s.roleLost cls r

/-- A role is lost, or served again. -/
def State.setLost (s : State) (cls r : Nat) (b : Bool) : State :=
  { s with spares := { s.spares with lost := s.spares.lost.set (fun _ => false) (unitKey cls r) b } }

/-- R480: a Weevil role stays on an engine that WV_MISS retired, or is served by a good one; the map in the journal tells it. -/
def State.setKept (s : State) (r : Nat) (b : Bool) : State :=
  let rest := s.spares.kept.filter (· != r)
  { s with spares := { s.spares with kept := if b then rest ++ [r] else rest } }

/-- A role is served under R480, or by a unit again; NOSPARE shows how many of the class are (R499). -/
def State.setNoSpare (s : State) (cls r : Nat) (b : Bool) : State :=
  let m := s.spares.noSpare.set (fun _ => false) (unitKey cls r) b
  { s with spares := { s.spares with noSpare := m } }.setFld (.SPR_CLASS_USE_NOSPARE cls)
    (min 65535 (m.filter fun (e : Nat × Bool) => e.1 / 2 ^ 20 == cls).length)

/-- May unit `u` serve role `r` of a class (R472)? -/
def inScope (cls r u : Nat) : Bool :=
  match cls with
  | 0 => u / 260 == r / 256
  | 3 => u / 17 == r / 16
  | 5 => r != 0 && u != 0
  | _ => true

/-- The units in STOCK that may serve a role, lowest first. -/
def State.scopeStock (s : State) (cls r : Nat) : List Nat :=
  (List.range (classUnits cls)).filter fun u => inScope cls r u && decide ((s.unitInfo cls u).state = .stock)

/-- The stock and the retired units of a class (R473), as SPR_CLASSc_STOCK shows them. -/
def State.classCount (s : State) (cls : Nat) (st : UnitState) : Nat :=
  ((List.range (classUnits cls)).filter fun u => decide ((s.unitInfo cls u).state = st)).length

/-! ## The mailbox -/

/-- R503: does the life-cycle state whose rights apply grant a mailbox command? -/
def mailboxGranted (rights op : Nat) : Bool :=
  if op == 0x81 || op == 0x84 || op == 0x9A || op == 0xA0 then true
  else match rights with
    | 1 => op != 0x88 && op != 0x82 && op != 0x83
    | 2 | 3 => true
    | 4 => op != 0x88
    | _ => false

/-- Are the bytes of a descriptor that its opcode does not define all 0 (R365)? `used` lists the ranges it defines. -/
def unusedZero (d : List Byte) (used : List (Nat × Nat)) : Bool :=
  (List.range 64).all fun i => used.any (fun u => u.1 ≤ i && i < u.1 + u.2) || d.getD i 0 == 0

/-- A mailbox command at the head of the mailbox SQ: denied by the life-cycle state, refused as a bad descriptor, or
carried out (R365, R387). `used` are the operand bytes that its opcode defines beside OPCODE and TAG; a command with ADDR, at
byte 8, accesses host memory, and waits while PF1 sends no request (R321, R327). -/
def State.mailbox (s : State) (op : Nat) (used : List (Nat × Nat)) (f : List Byte → State → State) : State :=
  match s.headFor mboxSq op with
  | none => s
  | some d =>
    if !mailboxGranted s.nvm.rights op then s.finishHead mboxSq .lifecycleDenied 0
    else if !unusedZero d ([(0, 1), (2, 2)] ++ used) || bytesAt d 8 8 % 64 != 0 then
      s.finishHead mboxSq .badDescriptor 0
    else if used.any (·.1 == 8) && !s.canDma 1 then s
    else f d s

/-- The mailbox command at the head completes. -/
def State.finishMbox (s : State) (st : Status) (result : Nat) : State := s.finishHead mboxSq st result

/-- A mailbox command that waited completes, unless a reset of PF1 took its completion away (R333). -/
def State.finishWaiting (s : State) (notify : Option Nat) (st : Status) (result : Nat) : State :=
  if notify = some s.mboxGen && (s.ring mboxSq).executing then s.finishMbox st result else s

/-- A mailbox command waits: it has started, and its completion comes later. -/
def State.waiting (s : State) : Option Nat := some s.mboxGen

/-! ## Substitution -/

/-- A test ends: its unit's state, SPR_ST_LAST, the counters, the record of a test not passed and the waiting command
(R486, R490, R491). Verdicts are 0 PASS, 1 FAIL, 2 INCOMPLETE. -/
def State.endTestWith (s : State) (t : SelfTest) (verdict patterns : Nat) (after : UnitInfo) : State :=
  let rest := s.spares.tests.filter (fun x => !(x.cls == t.cls && x.unit == t.unit))
  let s1 := { s with spares := { s.spares with tests := rest } }
  let s2 := s1.setReg Reg.SPR_ST_LAST (BitVec.ofNat 32 (verdict + 4 + 16 * t.cls + 256 * t.unit))
  let s3 := match rest.find? (·.active) with
    | some u => s2.setReg Reg.SPR_ST_STAT (BitVec.ofNat 32 (4 + 16 * u.cls + 256 * u.unit))
    | none => s2.setReg Reg.SPR_ST_STAT 0xF0
  let s4 := (s3.setFld .BIST_PATCNT_COUNT patterns).count
    (match verdict with
     | 0 => .SPR_ST_DONE_COUNT
     | 1 => .SPR_ST_FAIL_COUNT
     | _ => .SPR_ST_INCOMPLETE_COUNT) 1
  let s5 := s4.setUnit t.cls t.unit after
  let s6 := if verdict = 0 then
      (if t.was = .retired then
        s5.faultRecord ⟨5, t.cls, 0, .ok, 0, 0xFFFFFFFF, t.unit, 0⟩ else s5)
    else s5.faultRecord ⟨4, t.cls, 0, if verdict = 2 then .incomplete else .ok, 0, t.role.getD 0xFFFFFFFF, t.unit, patterns⟩
  s6.finishWaiting t.notify (if verdict = 2 then .incomplete else .ok) patterns

/-- Does a test in a role's scope run whose unit could take the role (R489)? -/
def State.testInScope (s : State) (cls r : Nat) : Option SelfTest :=
  s.spares.tests.find? fun t => t.active && t.cls == cls && cls ≤ 8 && t.was != .retired && inScope cls r t.unit

/-- The waiting changes are replaced; COPYING reads 1 while the background copy of a tracker bank runs for one of them
(R232). -/
def State.setQueue (s : State) (l : List Subst) : State :=
  { s with spares := { s.spares with queue := l } }.setFlag .TRK_BANK_STAT_COPYING (l.any (·.copying))

/-- A change of a role's holder joins the queue; that of a tracker bank waits for its copy (R232). -/
def State.pushSubst (s : State) (q : Subst) : State := s.setQueue (s.spares.queue ++ [q])

/-- R16, R232: the background copy of a tracker bank is complete; the rewrite of the map completes with it. -/
def State.copyDone (s : State) : State :=
  s.setQueue (s.spares.queue.map fun (q : Subst) =>
    if q.copying then { q with copying := false, earliest := timeAfter s.tb 2000 } else q)

/-- R16: a change of a role's holder that is asked for now, and for which a unit is still to be chosen. -/
def State.newSubst (s : State) (cls r old : Nat) (why : SubstWhy) : Subst :=
  ⟨cls, r, old, none, why, timeAfter s.tb 2000, false, false, s.now⟩

/-- A change of a role's holder joins the queue with the unit chosen for it, which leaves STOCK (R477, R479). -/
def State.queueSubst (s : State) (q : Subst) (new : Option Nat) : State :=
  let s1 := match new with
    | some u => s.setUnit q.cls u ⟨.inRole, none⟩
    | none => s
  s1.pushSubst { q with new := new, earliest := timeAfter s.tb 2000, copying := q.cls == 6 && new.isSome, stale := false }

/-- The unit that a waiting change would have used is in STOCK again. -/
def State.giveBack (s : State) (q : Subst) : State :=
  match q.new with
  | some u => if (s.unitInfo q.cls u) = ⟨.inRole, none⟩ then s.setUnit q.cls u ⟨.stock, none⟩ else s
  | none => s

/-- R489: a test that has not begun is given up: it has run no pattern, its unit keeps its role, and the spare chosen for it
is in STOCK again. -/
def State.dropTest (s : State) (t : SelfTest) : State :=
  let (mine, rest) := s.spares.queue.partition fun (q : Subst) =>
    q.cls == t.cls && decide (q.old = t.unit) && decide (q.why = .test)
  let s1 := mine.foldl (fun s q => s.giveBack q) (s.setQueue rest)
  s1.endTestWith t 2 0 (s1.unitInfo t.cls t.unit)

/-- A test that waits for the Coupling at which a spare of a role's scope takes its unit's role. -/
def State.testAhead (s : State) (cls r : Nat) : Option SelfTest :=
  s.spares.tests.find? fun t => !t.active && t.cls == cls && s.spares.queue.any fun (q : Subst) =>
    q.cls == cls && decide (q.old = t.unit) && decide (q.why = .test) && q.new.any (inScope cls r)

/-- R477, R489: a spare is sought for a role: the lowest unit in stock; else the unit of a test of the scope, which is
aborted; else the spare that a test which has not begun would use (log 42); with none of them, the role is served under R480
at the Coupling. -/
def State.chooseSpare (s : State) (q : Subst) : State :=
  match s.scopeStock q.cls q.role with
  | u :: _ => s.queueSubst q (some u)
  | [] =>
    match s.testInScope q.cls q.role with
    | some t =>
      let (v, s1) := s.free
      (s1.endTestWith t 2 (v % (s.fld .BIST_PATTERNS_COUNT + 1)) ⟨.stock, none⟩).queueSubst q (some t.unit)
    | none =>
      let s1 := match s.testAhead q.cls q.role with
        | some t => s.dropTest t
        | none => s
      s1.queueSubst q (s1.scopeStock q.cls q.role).head?

/-- Was a change asked for at this instant, for a lasting fault of a class in a role above `r`? -/
def State.askedNow (s : State) (cls r : Nat) (q : Subst) : Bool :=
  q.cls == cls && r < q.role && q.asked == s.now && match q.why with
    | .fault _ => true
    | _ => false

/-- R477, R479: a spare is sought for a role. Faults of one instant are served in ascending role order: a change of a higher
role that was asked for at this instant is decided again after this one. -/
def State.seekSpare (s : State) (cls r old : Nat) (why : SubstWhy) : State :=
  let again := sortBy (·.role) (s.spares.queue.filter (s.askedNow cls r))
  let s1 := again.foldl (fun s q => s.giveBack q) (s.setQueue (s.spares.queue.filter fun q => !again.contains q))
  again.foldl (fun s q => s.chooseSpare q) (s1.chooseSpare (s.newSubst cls r old why))

/-- R479: a unit that a waiting change would use has failed: the change takes the next unit in stock. A change for a test that
finds none is given up, with its test where that has not begun: the unit in the role is good and keeps it (R488, R489). -/
def State.replaceChosen (s : State) (cls u : Nat) : State :=
  let (mine, rest) := s.spares.queue.partition fun q => q.cls == cls && q.new == some u
  mine.foldl (fun s q =>
    if q.why = .test && (s.scopeStock q.cls q.role).isEmpty then
      match s.spares.tests.find? fun t => t.cls == q.cls && t.unit == q.old && !t.active with
      | some t => s.dropTest t
      | none => s
    else s.chooseSpare q) (s.setQueue rest)

/-- R44, R490: a unit leaves the role that it held when its test was asked for, before the test began: there is no test, and
the command that waits for it completes with ROLE_STALE. -/
def State.testGone (s : State) (cls u : Nat) : State :=
  let (mine, rest) := s.spares.tests.partition fun t => t.cls == cls && t.unit == u && !t.active
  mine.foldl (fun s t => s.finishWaiting t.notify .roleStale 0) { s with spares := { s.spares with tests := rest } }

/-- A waiting change has another reason. -/
def State.changeWhy (s : State) (q : Subst) (why : SubstWhy) : State :=
  { s with spares := { s.spares with queue := s.spares.queue.map fun x => if x = q then { x with why := why } else x } }

/-- A unit fails lastingly where a test of it may run: it is RETIRED, the test ends with FAIL (R489), and the fault that this
charges to the unit counts only, the unit being RETIRED (R475, R486). -/
def State.retireTested (s : State) (cls u : Nat) : State :=
  match s.spares.tests.find? (fun t => t.active && t.cls == cls && t.unit == u) with
  | some t =>
    let (v, s1) := s.free
    (s1.endTestWith t 1 (v % (s.fld .BIST_PATTERNS_COUNT + 1)) ⟨.retired, none⟩).count (.FLT_SRC_EVT_COUNT 12) 1
  | none => s.setUnit cls u ⟨.retired, none⟩

/-- A unit of classes 0 to 8 is retired, and its role is given to a spare (R477). A test that waits for the role's Coupling
gives way to the fault, which takes the spare chosen for it; an assignment by the host that waits for the role comes first, and
leaves the substitution nothing to do. -/
def State.retire (s : State) (cls u source : Nat) : State :=
  let info := s.unitInfo cls u
  match info.state with
  | .retired => s
  | .stock => s.setUnit cls u ⟨.retired, none⟩
  | .underTest => s.retireTested cls u
  | .inRole =>
    let s1 := s.setUnit cls u ⟨.retired, info.role⟩
    match info.role with
    | none => s1.replaceChosen cls u
    | some r =>
      match s1.spares.queue.filter fun q => q.cls == cls && q.role == r && decide (q.old = u) with
      | [] => s1.seekSpare cls r u (.fault source)
      | l =>
        match l.find? fun q => decide (q.why = .test) with
        | some q => (s1.testGone cls u).changeWhy q (.fault source)
        | none => if l.any fun q => match q.why with | .fault _ => true | _ => false then s1
          else s1.seekSpare cls r u (.fault source)

/-! ## Tests that end early -/

/-- The tests in service are replaced. -/
def State.setTests (s : State) (l : List SelfTest) : State := { s with spares := { s.spares with tests := l } }

/-- R489: a test is aborted; a unit that had left its role for it returns to the role at the next Coupling. -/
def State.abortTest (s : State) (t : SelfTest) : State :=
  if t.active then
    let (v, s1) := s.free
    let s2 := s1.endTestWith t 2 (v % (s.fld .BIST_PATTERNS_COUNT + 1))
      (if t.was = .retired then ⟨.retired, none⟩ else if t.cls = 10 then ⟨.inRole, t.role⟩ else ⟨.stock, none⟩)
    match t.was, t.role with
    | .inRole, some r =>
      if t.cls ≤ 8 then s2.queueSubst (s2.newSubst t.cls r (s2.holder t.cls r) .test) (some t.unit) else s2
    | _, _ => s2
  else s.dropTest t

/-- R489: a change out of ACTIVE aborts every test. -/
def State.abortTests (s : State) : State := s.spares.tests.foldl (fun s t => s.abortTest t) s

/-- R511: a takeover aborts the tests under way. One that waits for its Coupling goes on: the change that is staged for it
applies as staged. -/
def State.abortRunning (s : State) : State := (s.spares.tests.filter (·.active)).foldl (fun s t => s.abortTest t) s

end Sys2Proof.Machine
end

