-- ==== Sys2Proof/Machine/Takeover.lean ====
section
/-! DEFINITION. The lead and the standby Coachman, and the takeovers between them (R508, R510 to R513). -/

namespace Sys2Proof.Machine

/-! ## Firmware banks -/

/-- Where a firmware bank begins in the NVM (R521). -/
def bankAt (bank : Nat) : Nat := bank * 0x180000

/-- A number in the header of the image in a bank (R506). -/
def State.imageWord (s : State) (bank off : Nat) : Nat := leNat (s.nvmRange (bankAt bank + off) 4)

/-- The state of a bank (R508). -/
def State.bankState (s : State) (bank : Nat) : Nat := if bank = 0 then s.nvm.bankA else s.nvm.bankB

/-- A bank changes its state for the running device. -/
def State.putBank (s : State) (bank st : Nat) : State :=
  if bank = 0 then { s with nvm := { s.nvm with bankA := st } } else { s with nvm := { s.nvm with bankB := st } }

/-- The journal takes the confirmed bank and the trial state, in one record (R508, R522). -/
def State.journalBanks (s : State) : State := s.journalOpaque 6 (.banks s.nvm.bankA s.nvm.bankB s.nvm.confirmed)

/-- A bank changes its state, also in the journal. -/
def State.setBank (s : State) (bank st : Nat) : State := (s.putBank bank st).journalBanks

/-! ## Lead and standby -/

/-- The lead Coachman, 0 A or 1 B. -/
def State.lead (s : State) : Nat := s.fld .SEC_STAT_LEAD

/-- The bank that a Coachman runs. -/
def State.coachBank (s : State) (u : Nat) : Nat := if u = 0 then s.coach.bankA else s.coach.bankB

/-- A Coachman restarts on a bank. -/
def State.bootCoach (s : State) (u bank : Nat) : State :=
  if u = 0 then { s with coach := { s.coach with bankA := bank } } else { s with coach := { s.coach with bankB := bank } }

/-- Is a standby Coachman in service (R480, R510)? -/
def State.standbyServes (s : State) : Bool :=
  s.coach.started && decide ((s.unitInfo 10 (1 - s.lead)).state ≠ .retired)

/-- Is a trial under way that has not yet ended in a fallback (R512)? -/
def State.trialOn (s : State) : Bool :=
  s.coach.trial.isSome && (s.coach.takeover.map (·.2)) != some .fallback && s.coach.wanted != some .fallback

/-- The standby restarts on the confirmed bank. -/
def State.restartStandby (s : State) (u : Nat) (why : CoachWhy) : State :=
  let t := s.bootCoach u s.nvm.confirmed
  { t with coach := { t.coach with restart := some why } }

/-! ## Takeovers -/

/-- R511: the sources active at a former lead's target are completed and made pending again unless masked. -/
def State.returnSources (s : State) (t : Nat) : State :=
  let held := (s.icx.target t).active ++ (s.icx.target t).fast
  s.icxChange fun s =>
    (held.filter fun src => !s.flag (icxPlace 0 src)).foldl (fun s src => s.makePending src) (s.completeAllOf t)

/-- R41, R510: the roles of the two Coachmen change hands. -/
def State.swapCoaches (s : State) : State :=
  let old := s.lead
  let new := 1 - old
  let s1 := ((s.setFld .SEC_STAT_LEAD new).setHolder 10 0 new).bumpEpoch 10 0
  let s2 := s1.setUnit 10 new ⟨.inRole, some 0⟩
  if (s2.unitInfo 10 old).state = .retired then s2
  else ((s2.setHolder 10 1 old).bumpEpoch 10 1).setUnit 10 old ⟨.inRole, some 1⟩

/-- R512, R513: the former lead restarts on the confirmed bank, unless it is retired. -/
def State.restartFormer (s : State) (old : Nat) : State :=
  if (s.unitInfo 10 old).state = .retired then s else s.restartStandby old .plain

/-- What a takeover is for, once it has happened (R510, R512, R513). -/
def State.afterTakeOver (s : State) (old : Nat) (expired : Bool) : TakeWhy → State
  | .activate n =>
    let s1 := { s with coach := { s.coach with trial := some s.now } }
    let s2 := (s1.setBank (s.coachBank s.lead) 4).finishWaiting n .ok 0
    if expired then s2.restartFormer old else s2
  | .fallback =>
    let s1 := { s with coach := { s.coach with trial := none } }
    (s1.setBank (s.coachBank old) 5).restartFormer old
  | .watchdog => s.restartFormer old

/-- CAL_STAT.RUNNING shows an item. -/
def State.showItem (s : State) (item : Nat) (b : Bool) : State :=
  s.setFld .CAL_STAT_RUNNING (putBit (s.fld .CAL_STAT_RUNNING) item b)

/-- R511: a mailbox command under way goes back to the head of its ring, from where it runs again from its beginning; a test
of it ends without completing it. A command that only waits for what it staged, or for the NVM, is not interrupted, and an
activation completes with the takeover itself (log 44). -/
def State.rerunMailbox (s : State) : State :=
  let w := s.waiting
  let run := s.cal.run.map (·.notify) == some w
  let flat := s.cal.flat.map (·.notify) == some w
  let test := s.spares.tests.any fun t => t.active && t.notify == w
  if (run || flat || test) && (s.ring mboxSq).executing then
    let s1 := if run then
        ({ s with cal := { s.cal with run := none } }).setFld .CAL_STAT_RUNNING (s.fld .CAL_STAT_RUNNING &&& 128)
      else s
    let s2 := if flat then { s1.showItem 7 false with cal := { s1.cal with flat := none } } else s1
    let s3 := s2.setTests (s2.spares.tests.map fun t => if t.notify == w then { t with notify := none } else t)
    s3.setRing mboxSq { s3.ring mboxSq with executing := false }
  else s

/-- The standby takes the lead (R510, R511): event 0x0015 names the new lead, its bank and its version. After an expired
watchdog a mailbox command runs again (R513). -/
def State.takeOver (s : State) (why : TakeWhy) : State :=
  let old := s.lead
  let expired := s.coach.expired
  let s0 := if expired || why == .watchdog then s.rerunMailbox else s
  let s1 := s0.abortRunning.swapCoaches
  let s2 := { s1 with coach := { s1.coach with takeover := none, wanted := none, expired := false } }
  let bank := s2.coachBank s2.lead
  let s3 := s2.event 0x15 .ok s2.lead (leBytes 1 bank ++ leBytes 4 (s2.imageWord bank 4))
  (s3.returnSources old).afterTakeOver old expired why

/-- R510: the ready standby takes the lead at the first edge at least 2,000 ns from now, or at once while RUNNING is 0. -/
def State.requestTakeOver (s : State) (why : TakeWhy) : State :=
  if s.running then { s with coach := { s.coach with takeover := some (timeAfter s.tb 2000, why) } } else s.takeOver why

/-- A takeover is asked for: it waits for a standby that restarts, and comes to nothing where none serves. -/
def State.askTakeOver (s : State) (why : TakeWhy) : State :=
  if !s.standbyServes then s
  else if s.coach.restart.isSome then { s with coach := { s.coach with wanted := some why } }
  else if s.coach.takeover.isSome then s
  else s.requestTakeOver why

/-- The watchdog of the standby expired: it restarts, and what waited for it waits on. A standby that is retired leaves
the commands that waited for it without a spare. -/
def State.standbyExpired (s : State) (u : Nat) : State :=
  if (s.unitInfo 10 u).state = .retired then
    let t := { s with coach := { s.coach with restart := none, takeover := none, wanted := none } }
    match s.coach.restart, s.coach.takeover with
    | some (.activate n), _ | _, some (_, .activate n) => t.finishWaiting n .noSpare 0
    | some (.confirm n), _ => t.finishWaiting n .ok 0
    | _, _ => t
  else match s.coach.restart, s.coach.takeover with
    | some _, _ => s
    | none, some (_, .activate n) => { s with coach := { s.coach with restart := some (.activate n), takeover := none } }
    | none, some (_, w) =>
      let t := s.restartStandby u .plain
      { t with coach := { t.coach with takeover := none, wanted := some w } }
    | none, none => s.restartStandby u .plain

/-- R480, R512, R513: Coachman `u` leaves its role: the standby takes the lead from a lead, as the fallback of a trial that has
not ended, also where a fallback waits already; what waits for a standby goes on without it, or waits for its restart. -/
def State.coachGone (s : State) (u : Nat) : State :=
  if u = s.lead then
    { s with coach := { s.coach with expired := s.standbyServes } }.askTakeOver 
      (if s.coach.trial.isSome then .fallback else .watchdog)
  else s.standbyExpired u

end Sys2Proof.Machine
end

