-- ==== Sys2Proof/Machine/Faults.lean ====
section
/-! DEFINITION. Fault counting, what a lasting fault brings, the Coupling's part in substitutions, and the commands of spares
and self-test (R473 to R491, R498, R499). -/

namespace Sys2Proof.Machine

/-! ## Fault counting -/

/-- N of a source, and W in ns (R474). -/
def State.fltN (s : State) (src : Nat) : Nat := s.fld (.FLT_SRC_CFG_N (src - 1))

/-- The window of a source in ns. -/
def State.fltW (s : State) (src : Nat) : Nat := 10000000 * s.fld (.FLT_SRC_CFG_W (src - 1))

/-- The bucket of an instance (R475). -/
def bucketKey (src inst : Nat) : Nat := src * 2 ^ 30 + inst

/-- The units that have not leaked out of a bucket at the time `now` (R475). -/
def State.bucket (s : State) (src inst : Nat) : List Nat :=
  (s.spares.buckets.get (fun _ => []) (bucketKey src inst)).filter fun t => s.now - t < s.fltW src

/-- A bucket is replaced. -/
def State.setBucket (s : State) (src inst : Nat) (l : List Nat) : State :=
  { s with spares := { s.spares with buckets := s.spares.buckets.set (fun _ => []) (bucketKey src inst) l } }

/-- R321: PCIE_CORR became lasting: a lane with at least half of the receiver errors of the window is failed and the link
retrains; event 0x0008 follows when it has. -/
def State.laneCheck (s : State) : State :=
  let w := s.fltW 7
  let recent := s.pcie.laneErrs.filter fun e => s.now - e.2 < w
  match (List.range 4).find? fun l => !recent.isEmpty && recent.length ≤ 2 * (recent.filter (·.1 == l)).length with
  | some l =>
    let s1 := ((s.setFld .HIF_LINK_STAT_LANE_FAIL (putBit (s.fld .HIF_LINK_STAT_LANE_FAIL) l true)).setUnit 13 l
      ⟨.retired, none⟩).retrain
    { s1 with pcie := { s1.pcie with laneEvent := true } }
  | none => s

/-- The class of the unit an instance names; 0xFF where it names none (R474, R498). -/
def instClass (src inst : Nat) : Nat :=
  if src = 7 || src = 8 || src = 10 || src = 11 || inst / 2 ^ 20 = 15 then 0xFF else inst / 2 ^ 20

/-- The spare rows of a memory instance that are used: its retired rows (R472). -/
def State.retiredRows (s : State) (inst : Nat) : Nat :=
  (s.spares.units.filter fun e =>
    e.1 / 2 ^ 20 == 11 && e.1 % 2 ^ 20 / 1024 == inst && decide (e.2.state = .retired)).length

/-- A clock loop is retired (R420); as the standby loop it stands in no more. -/
def State.retireLoop (s : State) (u : Nat) : State :=
  let s1 := (s.retireTested 9 u).setFld .PLL_ROLE_RETIRED (putBit (s.fld .PLL_ROLE_RETIRED) u true)
  if s1.fld .PLL_ROLE_STANDBY = u then s1.setFlag .PLL_ROLE_NO_STANDBY true else s1

/-- R480: a role is left without a spare for its failed unit: event 0x0010, a record of KIND 3, and NOSPARE. -/
def State.leftWithout (s : State) (cls r u source : Nat) : State :=
  ((s.event 0x10 .noSpare (cls + 256 * r) (leBytes 4 u)).faultRecord ⟨3, cls, source, .noSpare, 0, r, u, 0⟩).setNoSpare cls r true

/-- R480: the standby role is left without a Coachman. -/
def State.coachLost (s : State) (u source : Nat) : State := (s.leftWithout 10 1 u source).setLost 10 1 true

/-- R477, R480, R484: a row's fault becomes lasting: the row is RETIRED, and a spare row of its instance takes its place at the
next Coupling; while it waits, its further faults ask for nothing. One without a spare row keeps its place, and R480 serves
it from that Coupling. -/
def State.spareRow (s : State) (n : Nat) : State :=
  let q : Subst := { s.newSubst 11 n n (.fault 2) with earliest := s.tb }
  if s.spares.queue.any (fun q => q.cls == 11 && q.role == n) then s
  else if 2 ≤ s.retiredRows (n / 1024) then s.pushSubst q
  else (s.setUnit 11 n ⟨.retired, none⟩).pushSubst { q with new := some n }

/-- What follows when a fault of a source becomes lasting, by the last column of R474. -/
def State.lastingEffect (s : State) (src inst : Nat) : State :=
  let cls := inst / 2 ^ 20
  let u := inst % 2 ^ 20
  match src with
  | 2 => s.spareRow u
  | 5 => (s.retireTested 9 u).setFld .PLL_ROLE_RETIRED (putBit (s.fld .PLL_ROLE_RETIRED) u true)
  | 7 => s.laneCheck
  | 14 => s.retireTested 10 u
  | 1 | 3 | 4 | 6 | 12 | 13 =>
    if cls ≤ 8 then s.retire cls u src
    else if cls = 9 then s.retireLoop u
    else if cls = 10 then ((s.retireTested 10 u).coachLost u src).coachGone u
    else s
  | _ => s

/-- R476: a fault becomes lasting: event 0x000F with N and W, a fault record that names the failed unit, FLT_SRCs_LAST, and its
consequence. A suspect calibration element of no spareable unit raises the event only (R474). -/
def State.lasting (s : State) (src inst unit : Nat) : State :=
  let n := s.fltN src
  let cls := instClass src inst
  let role := if cls = 0xFF then 0xFFFFFFFF else ((s.unitInfo cls unit).role.getD 0xFFFFFFFF)
  let s1 := s.event 0xF .ok src (leBytes 4 n ++ leBytes 4 (if n ≤ 1 then 0 else s.fltW src / 1000000))
  let s2 := if src = 12 ∧ cls = 0xFF then s1 else s1.faultRecord ⟨1, cls, src, .ok, 0, role, unit, 0⟩
  (s2.count (.FLT_SRC_LAST_COUNT (src - 1)) 1).lastingEffect src inst

/-- Is the unit that an instance names RETIRED (R475)? -/
def State.instRetired (s : State) (src inst : Nat) : Bool :=
  instClass src inst ≤ 11 && decide ((s.unitInfo (inst / 2 ^ 20) (inst % 2 ^ 20)).state = .retired)

/-- A fault of a unit is charged to an instance of a source (R474, R475): it counts, enters the bucket and becomes lasting when
the bucket reaches N. -/
def State.chargeFor (s : State) (src inst unit : Nat) : State :=
  let s1 := s.count (.FLT_SRC_EVT_COUNT (src - 1)) 1
  let n := s.fltN src
  if n = 0 || s.instRetired src inst then s1
  else
    let b := s1.bucket src inst ++ [s.now]
    if n ≤ b.length then (s1.setBucket src inst []).lasting src inst unit else s1.setBucket src inst b

/-- A fault is charged to an instance of a source that is the unit itself, as every source's but TEMP_DIS is. -/
def State.charge (s : State) (src inst : Nat) : State := s.chargeFor src inst (inst % 2 ^ 20)

/-- R474, R484: a memory that fails beyond its spare rows, or whose read meets an error that ECC cannot correct, charges the
unit that owns it. -/
def State.chargeMemory (s : State) (inst : Nat) : State := s.charge 3 (Config.memOwner inst)

/-- R480, R484: a row that fails while its instance has no spare row left: event 0x0010 and a record name it, and the unit that
owns the memory is charged. -/
def State.rowAlone (s : State) (n source : Nat) : State := (s.leftWithout 11 n n source).chargeMemory (n / 1024)

/-- R474: a corrected error is charged to its row. -/
def State.chargeRow (s : State) (n : Nat) : State := s.charge 2 (unitKey 11 n)

/-- The SRAM errors of a step beyond those of track contexts (R474). -/
def State.chargeSram (s : State) (e : SramErrors) : State :=
  e.memories.foldl (fun s m => (s.raiseFast 9).chargeMemory m) (e.rows.foldl (fun s n => s.chargeRow n) s)

/-- FAULT_BUCKET_LEAK (R475): the units that entered a bucket W ago or earlier leave it. -/
def execFaultBucketLeak (dt : Nat) (source : Fin 14) (inst : Nat) (s : State) : Host.Outcome State Fault Refusal :=
  let s := s.advance dt
  .next (s.setBucket (source.val + 1) inst (s.bucket (source.val + 1) inst))

/-- INTERNAL_MESSAGE (R43, R487): a message with the epoch of its role is accepted by the role's holder; a stale one is
discarded and counted under ROLE_STALE, and its sender sends it again, with the epoch that the role has now. -/
def execInternalMessage (dt : Nat) (cls : Fin 14) (role : Nat) (epoch : BitVec 16) (s : State) :
    Host.Outcome State Fault Refusal :=
  let s := s.advance dt
  let t := { s with spares := { s.spares with resent := s.spares.resent.erase (cls.val, role, epoch.toNat) } }
  .next (if s.epoch cls.val role = epoch.toNat then
    { t with spares := { t.spares with
        accepted := t.spares.accepted.modify (fun _ => 0) (unitKey cls.val role) (· + 1) } }
  else
    { t with spares := { t.spares with
        resent := t.spares.resent ++ [(cls.val, role, s.epoch cls.val role)] } }.charge 10 (unitKey cls.val role))

/-- PCIE_CORRECTABLE_ERROR (R321): a receiver error counts on its lane, and every correctable error is charged to
PCIE_CORR. -/
def execPcieCorrectableError (dt : Nat) (lane : Option (Fin 4)) (s : State) : Host.Outcome State Fault Refusal :=
  let s := s.advance dt
  .next (if s.pcie.link = .down || s.inReset || s.off then s
    else
      let s := s.linkError lane
      let s1 := match lane with
        | some l =>
          let t := s.count ⟨Reg.HIF_LANE_ERR, 8 * l.val + 7, 8 * l.val⟩ 1
          let recent := s.pcie.laneErrs.filter fun (e : Nat × Nat) => s.now - e.2 < s.fltW 7
          { t with pcie := { t.pcie with laneErrs := recent ++ [(l.val, s.now)] } }
        | none => s
      s1.charge 7 0)

/-! ## The Coupling's part -/

/-- The test of a unit runs its patterns from now on. -/
def SelfTest.activate (t : SelfTest) (cls u : Nat) : SelfTest :=
  if t.cls == cls && t.unit == u then { t with active := true } else t

/-- R477: a change of a role's holder applies, with the role's new epoch `e`: epoch, event, record and count; a unit under test
leaves its role, and the former holder of a host assignment enters STOCK. A lost role may come back to the unit that lost it,
or from one that has left it. -/
def State.applyNewHolder (s : State) (q : Subst) (u e : Nat) : State :=
  let s0 := if q.cls = 8 then s.setKept q.role false else s
  let s1 := (((s0.setHolder q.cls q.role u).setEpoch q.cls q.role e).setLost q.cls q.role false).setNoSpare q.cls q.role false
  let s2 := s1.setUnit q.cls u ⟨.inRole, some q.role⟩
  let old := s2.unitInfo q.cls q.old
  let s3 := if q.old = u ∨ old.role ≠ some q.role then s2 else match q.why with
    | .fault _ => s2.setUnit q.cls q.old { old with role := none }
    | .host _ => s2.setUnit q.cls q.old (if old.state = UnitState.retired then ⟨.retired, none⟩ else ⟨.stock, none⟩)
    | .test =>
      if s2.spares.tests.any (fun (t : SelfTest) => t.cls == q.cls && t.unit == q.old && !t.active) then
        ((s2.setUnit q.cls q.old ⟨.underTest, none⟩).setTests
          (s2.spares.tests.map fun (t : SelfTest) => t.activate q.cls q.old)).setReg Reg.SPR_ST_STAT
            (BitVec.ofNat 32 (4 + 16 * q.cls + 256 * q.old))
      else s2.setUnit q.cls q.old (if old.state = UnitState.retired then ⟨.retired, none⟩ else ⟨.stock, none⟩)
  let s4 := if q.why = .test then s3 else
    s3.event 0xE .ok (q.cls + 256 * q.role) (leBytes 4 q.old ++ leBytes 4 u ++ leBytes 2 e ++
      leBytes 2 (s3.scopeStock q.cls q.role).length)
  let s5 := s4.faultRecord ⟨match q.why with | .host _ => 8 | _ => 2, q.cls,
    match q.why with | .fault src => src | _ => 0, .ok, e, q.role, q.old, u⟩
  let s6 := s5.journalMap.count (.SPR_CLASS_USE_SUBST q.cls) 1
  match q.why with
  | .host n => s6.finishWaiting n .ok e
  | _ => s6

/-- R480: a change without a spare comes to its Coupling: event 0x0010, a record, and the role is lost; a Weevil role
that failed by WV_MISS stays on its engine. -/
def State.applyNoSpare (s : State) (q : Subst) : State :=
  let s1 := s.leftWithout q.cls q.role q.old (match q.why with | .fault src => src | _ => 0)
  if q.cls = 8 ∧ q.why = .fault 6 then (s1.setKept q.role true).journalMap else s1.setLost q.cls q.role true

/-- R44, R482, R490: has the role passed from the unit that the change was asked for, or has the unit that a host
assignment names left STOCK? -/
def State.substStale (s : State) (q : Subst) : Bool :=
  s.holder q.cls q.role != q.old || match q.why, q.new with
    | .host _, some u => q.stale || (s.unitInfo q.cls u).state != .stock
    | _, _ => false

/-- One waiting change applies at an edge; one that is stale has no effect (R44). A row's spare takes its place (R484), or the
row is left without one (R480). -/
def State.applySubst (s : State) (q : Subst) : State :=
  if q.cls = 11 then (if q.new.isSome then s.count (.SPR_CLASS_USE_SUBST 11) 1 else s.rowAlone q.role 2)
  else if s.substStale q then
    match q.why with
    | .host n => s.finishWaiting n .roleStale 0
    | .test => (s.giveBack q).testGone q.cls q.old
    | .fault _ => s.giveBack q
  else match q.new with
    | some u => s.applyNewHolder q u ((s.epoch q.cls q.role + 1) % 2 ^ 16)
    | none => s.applyNoSpare q

/-- The waiting changes that the edge at `t` applies (R16); all of them at the first edge after a start (R477). -/
def State.dueSubsts (s : State) (t : Time) (first : Bool) : List Subst :=
  s.spares.queue.filter fun q => !q.copying && (first || reached t q.earliest)

/-- The spare map's part of the Coupling: every change that is due applies, in the order in which they were asked for. -/
def State.coupleSpares (s : State) (t : Time) (first : Bool) : State :=
  let due := s.dueSubsts t first
  due.foldl (fun s q => s.applySubst q) (s.setQueue (s.spares.queue.filter fun q => !due.contains q))

/-! ## Commands -/

/-- SPARE_ASSIGN (R482). -/
def execSpareAssign (s : State) : Host.Outcome State Fault Refusal :=
  .next (s.mailbox 0x98 [(20, 12)] fun d s =>
    let cls := bytesAt d 20 4
    let r := bytesAt d 24 4
    let u := bytesAt d 28 4
    let any := u == 0xFFFFFFFF
    if 8 < cls || (cls == 5 && r == 0) || classRoles cls ≤ r || (!any && classUnits cls ≤ u) then
      s.finishMbox .badDescriptor 0
    else if !any && s.holds cls r u then s.finishMbox .ok (s.epoch cls r)
    else if any then
      match s.scopeStock cls r with
      | [] => s.finishMbox .noSpare 0
      | v :: _ =>
        (s.startHead mboxSq).pushSubst { s.newSubst cls r (s.holder cls r) (.host s.waiting) with new := some v, copying := cls == 6 }
    else if (s.unitInfo cls u).state = .underTest then s.finishMbox .busySelftest 0
    else if !inScope cls r u || (s.unitInfo cls u).state != .stock then s.finishMbox .badDescriptor 0
    else
      (s.startHead mboxSq).pushSubst { s.newSubst cls r (s.holder cls r) (.host s.waiting) with new := some u, copying := cls == 6 })

/-- A test of a unit starts: where it stands, or after a spare has taken its role (R486, R490). -/
def State.startTest (s : State) (cls u : Nat) (notify : Option Nat) : State :=
  let info := s.unitInfo cls u
  let t : SelfTest := { cls := cls, unit := u, role := info.role, active := false, was := info.state, notify := notify }
  let inPlace := cls == 9 || cls == 10 || info.state != .inRole
  if inPlace then
    let s1 := s.setUnit cls u { info with state := .underTest }
    (s1.setTests (s1.spares.tests ++ [t.activate cls u])).setReg Reg.SPR_ST_STAT (BitVec.ofNat 32 (4 + 16 * cls + 256 * u))
  else
    match info.role with
    | none => s
    | some r =>
      match s.scopeStock cls r with
      | [] => s
      | v :: _ =>
        let s1 := s.queueSubst (s.newSubst cls r u .test) (some v)
        s1.setTests (s1.spares.tests ++ [t])

/-- Is a loop the standby loop, or a Coachman the standby Coachman? -/
def State.isStandby (s : State) (cls u : Nat) : Bool :=
  if cls = 9 then s.fld .PLL_ROLE_STANDBY == u && !s.flag .PLL_ROLE_NO_STANDBY
  else s.fld .SEC_STAT_LEAD != u && (s.unitInfo 10 u).state != .retired

/-- SELFTEST_UNIT (R490). -/
def execSelftestUnit (s : State) : Host.Outcome State Fault Refusal :=
  .next (s.mailbox 0x99 [(20, 8)] fun d s =>
    let cls := bytesAt d 20 4
    let u := bytesAt d 24 4
    if 10 < cls || classUnits cls ≤ u || (8 < cls && !s.isStandby cls u) then s.finishMbox .badDescriptor 0
    else
      let info := s.unitInfo cls u
      if info.state = .underTest || s.spares.tests.any (fun t => t.cls == cls && t.unit == u) then
        s.finishMbox .busySelftest 0
      else if 8 < cls || info.state != .inRole then (s.startHead mboxSq).startTest cls u s.waiting
      else match info.role with
        | some r =>
          if (cls == 5 && u == 0) || (s.scopeStock cls r).isEmpty then s.finishMbox .noSpare 0
          else (s.startHead mboxSq).startTest cls u s.waiting
        | none => s.finishMbox .roleStale 0)

/-- SELFTEST_COMPLETE (R486, R490, R491): the test of a class ends with its signature's verdict and the patterns run. -/
def execSelftestComplete (dt : Nat) (cls : Fin 14) (pass : Bool) (patterns : Nat) (s : State) :
    Host.Outcome State Fault Refusal :=
  let s := s.advance dt
  .next (match s.spares.tests.find? (fun t => t.active && t.cls == cls.val) with
    | none => s
    | some t =>
      let verdict := if patterns < s.fld .BIST_PATTERNS_COUNT then 2 else if pass then 0 else 1
      let back : UnitInfo :=
        if t.was = .retired ∧ verdict ≠ 0 then ⟨.retired, none⟩
        else if t.cls = 10 then ⟨.inRole, t.role⟩ else ⟨.stock, none⟩
      let s1 := s.endTestWith t verdict patterns back
      if verdict = 1 then s1.charge 13 (unitKey t.cls t.unit) else s1)

/-- Is a unit tested in service (R472, R485)? -/
def State.testable (s : State) (cls u : Nat) : Bool :=
  (s.unitInfo cls u).state != .retired && !(cls == 5 && u == 0) && (cls ≤ 8 || s.isStandby cls u)

/-- The next unit of a class in ascending order that is tested in service (R485). -/
def State.turnUnit (s : State) (cls : Nat) : Option Nat :=
  let n := classUnits cls
  let start := s.spares.turn.get (fun _ => 0) cls
  ((List.range n).map fun i => (start + i) % n).find? (s.testable cls)

/-- R485: is the next turn of a class due: the tests of its units are spread evenly over PERIOD hours? -/
def State.turnDue (s : State) (cls : Nat) : Bool :=
  let last := s.spares.turnAt.get (fun _ => 0) cls
  let n := ((List.range (classUnits cls)).filter (s.testable cls)).length
  last == 0 || decide (s.fld .SPR_ST_CFG_PERIOD * 3600000000000 / n + last ≤ s.now + 1)

/-- SELFTEST_TURN (R485, R488): the next unit of a class is moved off its role for test, or skipped. -/
def execSelftestTurn (dt : Nat) (cls : Fin 14) (s : State) : Host.Outcome State Fault Refusal :=
  let s := s.advance dt
  let c := cls.val
  .next (if c ≤ 10 && bitOf (s.fld .SPR_ST_CFG_EN) c && s.fld .SPR_ST_CFG_PERIOD != 0 &&
      s.fld .PWR_STATE_STATE == 0 && s.alive && s.coach.started && s.nvm.rights != 0 && s.nvm.rights != 5 &&
      !s.spares.tests.any (·.cls == c) && s.turnDue c then
    match s.turnUnit c with
    | none => s
    | some u =>
      let s1 := { s with spares := { s.spares with
        turn := s.spares.turn.set (fun _ => 0) c ((u + 1) % classUnits c)
        turnAt := s.spares.turnAt.set (fun _ => 0) c (s.now + 1) } }
      match (s1.unitInfo c u).state, (s1.unitInfo c u).role with
      | .inRole, some r =>
        if c ≤ 8 && (s1.scopeStock c r).isEmpty then s1.count .SPR_ST_SKIP_COUNT 1 else s1.startTest c u none
      | .inRole, none => s1
      | _, _ => s1.startTest c u none
  else s)

/-- R489: a unit in place that takes a role while it is under test ends the test, and serves the role given. -/
def State.takenFromTest (s : State) (cls u r : Nat) : State :=
  match s.spares.tests.find? fun t => t.cls == cls && t.unit == u with
  | some t =>
    let (v, s1) := s.free
    s1.endTestWith t 2 (v % (s.fld .BIST_PATTERNS_COUNT + 1)) ⟨.inRole, some r⟩
  | none => s.setUnit cls u ⟨.inRole, some r⟩

/-- FAULT_READ (R393, R498): ARG1 fault records from the oldest held one whose SEQ is ARG0 or later. -/
def execFaultRead (s : State) : Host.Outcome State Fault Refusal :=
  .next (s.mailbox 0x9A [(8, 12), (20, 8)] fun d s =>
    let recs := (s.nvm.faults.filter fun r => bytesAt d 20 4 ≤ bytesAt r 0 4).take (bytesAt d 24 4)
    if bytesAt d 16 4 < 32 * recs.length then s.finishMbox .badDescriptor 0
    else
      let (bs, t) := s.nvmRead recs.flatten
      (t.writeMem (bytesAt d 8 8) bs).finishMbox .ok recs.length)

/-- The effect of SPR_CLR (R499). -/
def State.sprClr (s : State) (v : Nat) : State :=
  let s1 := (List.range 4).foldl (fun s i => if bitOf v i then s.setReg (Reg.SPR_ST_DONE + 4 * i) 0 else s) s
  if bitOf v 4 then (List.range 14).foldl (fun s c => s.setFld (.SPR_CLASS_USE_SUBST c) 0) s1 else s1

/-- SPR_CLR (R499). -/
def execSprClr (value : Word) (s : State) : Host.Outcome State Fault Refusal :=
  .next (s.pf1Write fun s => s.sprClr value.toNat)

/-- The effect of FLT_CLR (R499). -/
def State.fltClr (s : State) (v : Nat) : State :=
  (List.range 14).foldl (fun s i =>
    if bitOf v (i + 1) then (s.setFld (.FLT_SRC_EVT_COUNT i) 0).setFld (.FLT_SRC_LAST_COUNT i) 0 else s) s

/-- FLT_CLR (R499). -/
def execFltClr (value : Word) (s : State) : Host.Outcome State Fault Refusal :=
  .next (s.pf1Write fun s => s.fltClr value.toNat)

end Sys2Proof.Machine
end

