-- ==== Sys2Proof/Machine/IcxCmds.lean ====
section
/-! DEFINITION. The commands of the interrupt controller (R394 to R406), and what a read of the host returns. -/

namespace Sys2Proof.Machine

/-! ## Reads of the host -/

/-- A read of the host returns a value. -/
def State.answer (s : State) (v : Nat) : State := { s with rdata := BitVec.ofNat 32 v }

/-- Does a read of a BAR of the function reach the device (R326, R327)? -/
def State.barReach (s : State) (i : Nat) : Bool :=
  !s.inReset && !s.off && (s.pcie.link = .up || s.pcie.link = .retraining) && (s.fn i).memEnable && !(s.fn i).d3hot

/-- A read of the host that acts: until READY is 1 it returns 0 and does nothing (R335). -/
def State.barRead (s : State) (i : Nat) (f : State → Nat × State) : State :=
  if s.barOk i then (f s).2.answer (f s).1
  else if s.barReach i then s.answer 0 else s

/-! ## Claims and completions -/

/-- A completion in the fast bank; one out of order is charged to the ICX fault source (R401, R474). -/
def State.completeFastCharged (s : State) (t n : Nat) : State :=
  let r := s.completeFast t n
  if r.1 then r.2 else r.2.charge 11 0

/-- ICX_HCLAIM (R396). -/
def execIcxHclaim (s : State) : Host.Outcome State Fault Refusal := .next (s.barRead 1 fun s => s.claimNormal 2)

/-- ICX_HFCLAIM (R401). -/
def execIcxHfclaim (s : State) : Host.Outcome State Fault Refusal := .next (s.barRead 1 fun s => s.claimFast 2)

/-- ICX_HCOMPLETE (R400). -/
def execIcxHcomplete (value : Word) (s : State) : Host.Outcome State Fault Refusal :=
  .next (s.pf1Write fun s => s.completeNormal 2 (value.toNat % 256))

/-- ICX_HFCOMPLETE (R401). -/
def execIcxHfcomplete (value : Word) (s : State) : Host.Outcome State Fault Refusal :=
  .next (s.pf1Write fun s => s.completeFastCharged 2 (value.toNat % 256))

/-- Can a Coachman reach its registers in the ICX (R405, R535)? -/
def State.coachmanRuns (s : State) : Bool := !s.inReset && !s.off && !s.icxStopped

/-- COACHMAN_ICX_CLAIM (R396, R401). -/
def execCoachmanIcxClaim (core : Fin 2) (fast : Bool) (s : State) : Host.Outcome State Fault Refusal :=
  .next (if s.coachmanRuns then
    let r := if fast then s.claimFast core.val else s.claimNormal core.val
    r.2.answer r.1
  else s)

/-- COACHMAN_ICX_COMPLETE (R400, R401). -/
def execCoachmanIcxComplete (core : Fin 2) (fast : Bool) (value : Word) (s : State) :
    Host.Outcome State Fault Refusal :=
  .next (if s.coachmanRuns then
    if fast then s.completeFastCharged core.val (value.toNat % 256) else s.completeNormal core.val (value.toNat % 256)
  else s)

/-- HOST_CLAIM_WINDOW_EXPIRY (R398): the window of a source closes, and the source becomes eligible for the Coachmen. -/
def execHostClaimWindowExpiry (dt : Nat) (src : Nat) (s : State) : Host.Outcome State Fault Refusal :=
  let s := s.advance dt
  .next (if !s.icxStopped && s.icx.windows.any fun w => w.1 == src && decide (w.2 ≤ s.now) then
    s.icxChange fun s => { s with icx := { s.icx with windows := s.icx.windows.filter (·.1 != src) } }
  else s)

/-! ## The lock -/

/-- ICX_LOCK_READ (R403). Readers 0 and 1 are the Coachmen, 2 is the host. -/
def execIcxLockRead (reader : Fin 3) (s : State) : Host.Outcome State Fault Refusal :=
  .next (if reader.val = 2 then s.barRead 1 fun s => s.lockRead 2
    else if s.coachmanRuns then (s.lockRead reader.val).2.answer (s.lockRead reader.val).1 else s)

/-- ICX_LOCK_RELEASE (R403): a write of ICX_LOCK with RELEASE 1. -/
def execIcxLockRelease (reader : Fin 3) (value : Word) (s : State) : Host.Outcome State Fault Refusal :=
  let v := putBit value.toNat 1 true
  .next (if reader.val = 2 then s.pf1Write fun s => s.lockRelease 2 v
    else if s.coachmanRuns then s.lockRelease reader.val v else s)

/-- ICX_LOCK_TIMEOUT (R403): the device frees a lock held for 200 µs. -/
def execIcxLockTimeout (dt : Nat) (s : State) : Host.Outcome State Fault Refusal :=
  let s := s.advance dt
  .next (if !s.icxStopped && s.fld .ICX_LOCK_HOLDER != 3 && 200000 ≤ s.now - s.icx.lockSince then
    (s.setFld .ICX_LOCK_HOLDER 3).count .ICX_ERR_LOCK_TMO 1
  else s)

/-! ## Words and counters -/

/-- ICX_PEND_WRITE (R402): words 0 to 7 are ICX_PENDk, 8 is ICX_FPEND. -/
def execIcxPendWrite (word : Fin 9) (value : Word) (s : State) : Host.Outcome State Fault Refusal :=
  .next (s.pf1Write fun s => s.writePend word.val value.toNat)

/-- ICX_MASK_WRITE (R394, R402): words 0 to 7 are ICX_MASKk, 8 is ICX_FMASK. -/
def execIcxMaskWrite (word : Fin 9) (value : Word) (s : State) : Host.Outcome State Fault Refusal :=
  .next (s.pf1Write fun s => s.writeMask word.val value.toNat)

/-- The effect of a write of ICX_CNT_CLR (R406). -/
def State.icxCntClr (s : State) (v : Nat) : State :=
  let fast := bitOf v 8
  let src := v % 256
  let bank := if fast then icxFast else icxNormal
  let named := if fast then src + 256 else src
  bank.foldl (fun s n => if bitOf v 9 || n == named then s.setFld (icxCounter n) 0 else s) s

/-- ICX_CNT_CLR (R406). -/
def execIcxCntClr (value : Word) (s : State) : Host.Outcome State Fault Refusal :=
  .next (s.pf1Write fun s => s.icxCntClr value.toNat)

/-- ICX_ERR_CLR (R406): a write of ICX_ERR with CLR 1. -/
def execIcxErrClr (value : Word) (s : State) : Host.Outcome State Fault Refusal :=
  .next (s.pf1Write fun s => let _ := value; s.setReg Reg.ICX_ERR 0)

end Sys2Proof.Machine
end

