-- ==== Sys2Proof/Machine/Power.lean ====
section
/-! DEFINITION. Wake sources and the sleeps that they abort (R465, R466). The power states are entered and left in
PowerCmds.lean. -/

namespace Sys2Proof.Machine

/-- The code of a wake source in PWR_WAKE_SRC (R471). -/
def wakeCode : WakeSource → Nat
  | .trig pin => 1 + pin.val
  | .pcie => 5
  | .i3c => 6
  | .compare n => 16 + n.val

/-- R465: is a wake source enabled? -/
def State.wakeEnabled (s : State) : WakeSource → Bool
  | .trig pin => bitOf (s.fld .PWR_WAKE_EN_TRIG) pin.val
  | .pcie => s.flag .PWR_WAKE_EN_PCIE
  | .i3c => s.flag .PWR_WAKE_EN_I3C
  | .compare n => s.flag .PWR_WAKE_EN_CMP && s.flag (.CMP_CTL_WAKE n.val)

/-- R466: is a sleep asked for and not entered? -/
def State.sleepPending (s : State) : Bool :=
  match s.power.request with
  | some r => r.target == 1 || r.target == 2
  | none => false

/-- R466: the sleep asked for is aborted, and its command completes. -/
def State.abortSleep (s : State) : State :=
  let n := s.power.request.bind (·.notify)
  let s1 := ({ s with power := { s.power with request := none } }).setFlag .PWR_STATE_PENDING false
  (s1.count .PWR_SLEEP_ABORT_COUNT 1).finishWaiting n .sleepAbortedWake 0

/-- A wake source fires (R465 to R467): where it is enabled, it aborts a sleep that is asked for, and the device begins
its return from IDLE or STANDBY. In ACTIVE, with no sleep asked for, there is nothing to wake. -/
def State.wakeFires (s : State) (src : WakeSource) : State :=
  if !s.wakeEnabled src || s.inReset || s.off then s
  else if !s.sleepPending && s.fld .PWR_STATE_STATE == 0 then s
  else
    let s1 := s.setFld .PWR_WAKE_SRC_SRC (wakeCode src)
    let s2 := if s.sleepPending then s1.abortSleep else s1
    if s.fld .PWR_STATE_STATE == 0 then s2 else { s2 with power := { s2.power with waking := true } }

end Sys2Proof.Machine
end

