-- ==== Sys2Proof/Machine/Sequencer.lean ====
section
/-! DEFINITION. How a tick edge comes about (R19 to R23, R103 to R108): candidate edges of the three sources, the
minimum-tick test, and the edges that are ignored. TICK_EDGE, which takes an admitted candidate, is in Tick.lean. -/

namespace Sys2Proof.Machine

/-! ## Clock domains -/

/-- Was the role gated with no stand-in to come (R419, R421)? -/
def State.noStandIn (s : State) (role : Nat) : Bool := s.clocks.noStandIn.get (fun _ => false) role

/-- R419, R421: are tick edges ignored for want of role C or X? -/
def State.edgesHeld (s : State) : Bool :=
  (s.lossGated 0 && s.noStandIn 0) || (s.lossGated 1 && s.noStandIn 1) || s.clocks.refLost

/-- The tick source in force. -/
def State.tickSrc (s : State) : Nat := s.fld .EXP_TICK_SRC_SRC

/-- Does the tick source produce edges: RUN is 1 in ACTIVE (R467), or a trip waits for its first edge (R458)? -/
def State.edgesWanted (s : State) : Bool := (s.run && s.fld .PWR_STATE_STATE == 0) || s.thermal.trip.isSome

/-- Does the tick source produce edges now? -/
def State.ticking (s : State) : Bool := s.alive && s.edgesWanted && s.tbRuns

/-- R262, R458: has the first edge after a trip come, from which on the device queues no pulse? -/
def State.noPulse (s : State) : Bool :=
  s.thermal.noPulse || match s.thermal.trip with
    | some t => decide (t + 2 * s.seq.tmin ≤ s.now)
    | none => false

/-! ## Candidates -/

/-- ns since the previous edge, by the elapsed-time counter of R107, `lat` ns from now. -/
def State.sinceEdge (s : State) (lat : Nat) : Nat := s.clk + lat - s.seq.lastClk

/-- R22: does an edge `lat` ns from now come sooner than the effective minimum tick after the previous edge? -/
def State.tooEarly (s : State) (lat : Nat) : Bool :=
  s.seq.due.isSome || (s.seq.first && decide (s.sinceEdge lat < s.seq.tmin))

/-- A candidate edge, `lat` ns from now. It is held while the pixel supply or role C or X is not there (R96, R98, R419,
R421), ignored where it is early (R22), and else it is the next tick edge. A held edge restarts the INTERNAL period,
and the hold is tested before R22 (DESIGN CHOICE, log 26). After a trip no edge is taken: the first candidate only ends the
queuing of pulses (R458). -/
def State.candidate (s : State) (lat : Nat) : State :=
  let s1 := { s with seq := { s.seq with base := s.tb, baseClk := s.clk, start := none } }
  if s.thermal.trip.isSome then { s with thermal := { s.thermal with noPulse := true } }
  else if !s.flag .RO_PIXSUP_STAT_READY then s1.count .RO_PIXSUP_STAT_EDGE_HELD 1
  else if s.edgesHeld then s1.count .PLL_EDGE_HELD_VALUE 1
  else if s.tooEarly lat then s.count .HIF_TICK_EARLY_EARLY 1
  else { s1 with seq := { s1.seq with due := some (timeAfter s.tb lat) } }

/-- R105: an edge of the selected polarity at the selected pin advances the divider. It qualifies where the count reaches DIV;
a count that a direct write of DIV has left above it runs on (DESIGN CHOICE, log 26). -/
def State.trigCount (s : State) : State :=
  if s.seq.div = s.fld .EXP_TICK_SRC_DIV then
    { s with seq := { s.seq with div := 0 } }.candidate (s.fld .EXP_TRIG_LAT_LAT)
  else { s with seq := { s.seq with div := s.seq.div + 1 } }

/-- TRIG_IN_EDGE (R105, R117, R392, R465). -/
def execTrigInEdge (dt : Nat) (pin : Fin 4) (rising : Bool) (s : State) : Host.Outcome State Fault Refusal :=
  let s := (s.advance dt).setPin pin.val rising
  .next (if s.alive then
    let s1 := if bitOf (s.fld .ICX_TRIG_POL) pin.val == !rising then (s.raise (38 + pin.val)).wakeFires (.trig pin) else s
    if s1.edgesWanted && s1.tickSrc == 1 && s1.fld .EXP_TICK_SRC_PIN == pin.val && s1.flag .EXP_TICK_SRC_POL == !rising then
      if s1.gated 2 then s1.count .EXP_TRIG_LOST_LOST 1
      else if s1.tbRuns then s1.trigCount else s1
    else s1
  else s)

end Sys2Proof.Machine
end

