-- ==== Sys2Proof/Machine/Timebase.lean ====
section
/-! DEFINITION. The units of the timebase: compare units, capture pairs, gated counters, TSYNC and PTM (R295 to R311).
-/

namespace Sys2Proof.Machine

/-! ## Pins that the device drives -/

/-- A trigger output that has given no pulse. -/
def TrigOut.init : TrigOut := { queue := [], active := false, level := false, until_ := 0 }

/-- The trigger output `k`. -/
def State.trigOut (s : State) (k : Nat) : TrigOut := s.trigOuts.get (fun _ => TrigOut.init) k

/-- A trigger output is replaced. -/
def State.setTrigOut (s : State) (k : Nat) (t : TrigOut) : State :=
  { s with trigOuts := s.trigOuts.set (fun _ => TrigOut.init) k t }

/-- A pulse of output `k` is started, `ofs` ns from now, with the settings in force (R168). -/
def State.queueTrig (s : State) (k ofs : Nat) : State :=
  let x := s.trigOut k
  let at_ := s.clk + ofs
  s.setTrigOut k { x with queue := x.queue ++ [⟨at_, at_ + s.fld (.CSX_TO_WIDTH_VALUE k), !s.flag (.CSX_TO_CFG_POL k)⟩] }

/-! ## Compare units -/

/-- A compare unit. -/
def State.compare (s : State) (n : Nat) : Compare := s.tbu.cmps.get (fun _ => ⟨0, 0⟩) n

/-- A compare unit is replaced. -/
def State.setCompare (s : State) (n : Nat) (c : Compare) : State :=
  { s with tbu := { s.tbu with cmps := s.tbu.cmps.set (fun _ => ⟨0, 0⟩) n c } }

/-- A compare unit is armed (R299): it tests the count from the next count on. -/
def State.armCompare (s : State) (n : Nat) : State :=
  (s.setCompare n { s.compare n with armedAt := s.now }).setFlag (.CMP_CTL_ARMED n) true

/-- A write of CMPn_VAL_HI (R299). -/
def State.cmpValHi (s : State) (n : Nat) (v : Word) : State :=
  let s1 := s.setReg (Reg.CMP_VAL_HI n) v
  let s2 := s1.setCompare n { s1.compare n with value := BitVec.ofNat 64 (s1.wide (Reg.CMP_VAL_LO n)) }
  let s3 := s2.setFld (.CMP_CTL_SKIP n) 0
  if s.flag (.CMP_CTL_EN n) then s3.armCompare n else s3

/-- CMP_VAL_HI_WRITE (R299). -/
def execCmpValHiWrite (n : Fin 16) (value : Word) (s : State) : Host.Outcome State Fault Refusal :=
  .next (s.pf0Write fun s => s.cmpValHi n.val value)

/-- A write of CMPn_CTL (R299): setting EN arms the unit with the value loaded, clearing it disarms. -/
def State.cmpCtl (s : State) (n : Nat) (v : Word) : State :=
  let s1 := s.plainWriteReg (Reg.CMP_CTL n) v
  if bitOf v.toNat 0 then (if s.flag (.CMP_CTL_EN n) then s1 else s1.armCompare n)
  else s1.setFlag (.CMP_CTL_ARMED n) false

/-- CMP_CTL_WRITE (R299). -/
def execCmpCtlWrite (n : Fin 16) (value : Word) (s : State) : Host.Outcome State Fault Refusal :=
  .next (s.pf0Write fun s => s.cmpCtl n.val value)

/-- R300: the periodic reload: one period, and as many more as the next test would find reached; SKIP counts those. -/
def State.reloadCompare (s : State) (n : Nat) : State :=
  let p := max (s.fld (.CMP_PERIOD_PERIOD n)) 100
  let v := timeAfter (s.compare n).value p
  let next := timeAfter s.tb 1
  let k := if reached next v then (next - v).toNat / p + 1 else 0
  (s.setCompare n { s.compare n with value := timeAfter v (k * p) }).count (.CMP_CTL_SKIP n) k

/-- R168, R308: the outputs in COMPARE mode that select unit `n`. -/
def State.fireOutputs (s : State) (n : Nat) : State :=
  let s1 := (List.range 4).foldl (fun s k =>
    if !s.standby && s.fld (.CSX_TO_CFG_MODE k) == 2 && s.fld (.CSX_TO_CFG_CMP k) == n then
      s.queueTrig k 0 else s) s
  if s1.fld .TB_SYNC_OUT_MODE == 1 && s1.fld .TB_SYNC_OUT_CMP == n && !s1.standby then
    { s1.setPin 17 true with tbu := { s1.tbu with syncOutAt := some s1.clk } }
  else s1

/-- A compare unit fires (R300). -/
def State.fire (s : State) (n : Nat) : State :=
  let s1 := (s.setFld .CMP_FIRED_FIRED (putBit (s.fld .CMP_FIRED_FIRED) n true)).fireOutputs n
  let s2 := if s.flag (.CMP_CTL_IRQ n) then s1.raise (n + 1) else s1
  let s2 := if s.flag (.CMP_CTL_WAKE n) then s2.wakeFires (.compare (Fin.ofNat 16 n)) else s2
  let s3 := if s.flag (.CMP_CTL_MODE n) then s2.reloadCompare n else s2.setFlag (.CMP_CTL_ARMED n) false
  if s.ticking && s.tickSrc == 2 && s.fld .EXP_TICK_SRC_CMP == n then s3.candidate 0 else s3

/-- R299: does a unit find its value reached now? -/
def State.compareDue (s : State) (n : Nat) : Bool :=
  s.tbRuns && s.flag (.CMP_CTL_ARMED n) && decide ((s.compare n).armedAt < s.now) && reached s.tb (s.compare n).value

/-- COMPARE_FIRE (R299 to R301). -/
def execCompareFire (dt : Nat) (n : Fin 16) (s : State) : Host.Outcome State Fault Refusal :=
  let s := s.advance dt
  .next (if s.compareDue n.val then s.fire n.val else s)

/-! ## Capture pairs -/

/-- The register that stamps of a polarity go to: RISE or FALL. -/
def capReg (n : Nat) (rising : Bool) : Nat := if rising then Reg.CAP_RISE_LO n else Reg.CAP_FALL_LO n

/-- The shadow of a polarity. -/
def State.shadow (s : State) (n : Nat) (rising : Bool) : Option Time :=
  s.tbu.shadow.get (fun _ => none) (2 * n + boolNat (!rising))

/-- A shadow is replaced. -/
def State.setShadow (s : State) (n : Nat) (rising : Bool) (v : Option Time) : State :=
  { s with tbu := { s.tbu with shadow := s.tbu.shadow.set (fun _ => none) (2 * n + boolNat (!rising)) v } }

/-- A stamp goes into its register (R302). -/
def State.stampReg (s : State) (n : Nat) (rising : Bool) (t : Time) : State :=
  (s.setWide (capReg n rising) t.toNat).setFlag (if rising then .CAP_STAT_RVALID n else .CAP_STAT_FVALID n) true

/-- A stamp while the pair may be latched (R302, R303). -/
def State.stamp (s : State) (n : Nat) (rising : Bool) : State :=
  if !s.flag (.CAP_STAT_LATCHED n) then s.stampReg n rising s.tb
  else if (s.shadow n rising).isNone then (s.setShadow n rising (some s.tb)).setFlag (.CAP_STAT_PEND n) true
  else s.count (.CAP_STAT_LOST n) 1

/-- An edge of the source of an enabled pair (R302, R305). -/
def State.captureEdge (s : State) (n src : Nat) (rising : Bool) : State :=
  if s.flag .TB_STAT_HELD then (s.count (.CAP_STAT_LOST n) 1).setFlag (.CAP_STAT_HOLD n) true
  else if !s.tbRuns then s
  else if s.closeEdge src then s.count (.CAP_STAT_LOST n) 1
  else s.stamp n rising

/-- The latch of a pair is released (R303): its shadows move into the pair. -/
def State.capRelease (s : State) (n : Nat) : State :=
  if s.flag (.CAP_STAT_LATCHED n) then
    let move (s : State) (rising : Bool) : State :=
      match s.shadow n rising with
      | some t => (s.setShadow n rising none).stampReg n rising t
      | none => s
    ((move (move s true) false).setFlag (.CAP_STAT_LATCHED n) false).setFlag (.CAP_STAT_PEND n) false
  else s

/-- CAP_RISE_LO_READ (R303). -/
def execCapRiseLoRead (n : Fin 8) (s : State) : Host.Outcome State Fault Refusal :=
  .next (s.barRead 0 fun s =>
    ((s.reg (Reg.CAP_RISE_LO n.val)).toNat, s.setFlag (.CAP_STAT_LATCHED n.val) true))

/-- CAP_FALL_HI_READ (R303). -/
def execCapFallHiRead (n : Fin 8) (s : State) : Host.Outcome State Fault Refusal :=
  .next (s.barRead 0 fun s => ((s.reg (Reg.CAP_FALL_HI n.val)).toNat, s.capRelease n.val))

/-- CAP_RELEASE (R303): a write of 1 to CAPn_STAT.RELEASE. -/
def execCapRelease (n : Fin 8) (s : State) : Host.Outcome State Fault Refusal :=
  .next (s.pf0Write fun s => s.capRelease n.val)

/-- CAP_LOST_CLR (R311): a write of 1 to CAPn_STAT.LOST_CLR. -/
def execCapLostClr (n : Fin 8) (s : State) : Host.Outcome State Fault Refusal :=
  .next (s.pf0Write fun s => s.setFld (.CAP_STAT_LOST n.val) 0)

/-- A write of CAPn_STAT (R311). -/
def State.capStat (s : State) (n v : Nat) : State :=
  let s1 := if bitOf v 2 then s.setFlag (.CAP_STAT_HOLD n) false else s
  let s2 := if bitOf v 6 then s1.setFld (.CAP_STAT_LOST n) 0 else s1
  if bitOf v 5 then s2.capRelease n else s2

/-- Does a value name a source (R311)? -/
def srcDefined (v : Nat) : Bool := v ≤ 17 || (64 ≤ v && v ≤ 127)

/-- A write of CAPn_CTL (R302, R311): a pair newly enabled holds no edge. -/
def State.capCtl (s : State) (n v : Nat) : State :=
  let s1 := if bitOf v 0 && !s.flag (.CAP_CTL_EN n) then
      (s.setFlag (.CAP_STAT_RVALID n) false).setFlag (.CAP_STAT_FVALID n) false else s
  let s2 := s1.setFlag (.CAP_CTL_EN n) (bitOf v 0)
  if srcDefined (getBits v 7 1) then s2.setFld (.CAP_CTL_SRC n) (getBits v 7 1) else s2

/-! ## Gated counters -/

/-- A write of GCn_CTL (R306, R311). -/
def State.gcCtl (s : State) (n v : Nat) : State :=
  let s1 := (s.setFlag (.GC_CTL_EN n) (bitOf v 0)).setFlag (.GC_CTL_LEVEL n) (bitOf v 1)
  let s2 := if bitOf v 2 then s1.setWide (Reg.GC_LO n) 0 else s1
  let s3 := if bitOf v 3 then s2.setFlag (.GC_CTL_HOLD n) false else s2
  let s4 := if srcDefined (getBits v 10 4) then s3.setFld (.GC_CTL_SRC n) (getBits v 10 4) else s3
  if bitOf v 0 && s.flag .TB_STAT_HELD then s4.setFlag (.GC_CTL_HOLD n) true else s4

/-- GC_CLR (R306): a write of GCn_CTL with CLR 1. -/
def execGcClr (n : Fin 8) (value : Word) (s : State) : Host.Outcome State Fault Refusal :=
  .next (s.pf0Write fun s => s.gcCtl n.val (putBit value.toNat 2 true))

/-! ## TSYNC -/

/-- A write of TB_SYNC_CTL (R307); DISARM prevails over ARM in one write (log 15). -/
def State.syncCtl (s : State) (v : Nat) : State :=
  let s1 := s.setFlag .TB_SYNC_CTL_POL (bitOf v 1)
  if bitOf v 2 then s1.setFlag .TB_SYNC_CTL_ARM false
  else if bitOf v 0 then s1.setFlag .TB_SYNC_CTL_ARM true else s1

/-- TB_SYNC_ARM (R307): a write of TB_SYNC_CTL with ARM 1. -/
def execTbSyncArm (value : Word) (s : State) : Host.Outcome State Fault Refusal :=
  .next (s.pf0Write fun s => s.syncCtl (putBit value.toNat 0 true))

/-- TB_SYNC_DISARM (R307): a write of TB_SYNC_CTL with DISARM 1. -/
def execTbSyncDisarm (value : Word) (s : State) : Host.Outcome State Fault Refusal :=
  .next (s.pf0Write fun s => s.syncCtl (putBit value.toNat 2 true))

/-- R307: the count takes the value armed. -/
def State.loadTimebase (s : State) : State :=
  let v : Time := BitVec.ofNat 64 (s.wide Reg.TB_SYNC_VAL_LO)
  let roles := (List.range 16).foldl (fun m r => m.modify WvRole.init r fun w => { w with stepped := [] }) s.wvRoles
  let s1 := ({ s with tb := v, wvRoles := roles }.setWide Reg.TB_SYNC_DELTA_LO (v - s.tb).toNat)
  let s2 := (s1.setFlag .TB_SYNC_CTL_ARM false).setFlag .TB_STAT_LOADED true
  s2.event 0xA .ok 0 (leBytes 8 (v - s.tb).toNat)

/-- R308: in REPEAT mode TSYNC_OUT stands as TSYNC_IN did 5 ns ago, once STANDBY is left. -/
def State.repeatSync (s : State) : State :=
  if s.fld .TB_SYNC_OUT_MODE == 2 && !s.standby then s.setPin 17 s.tbu.syncSeen else s

/-- R308: an edge at TSYNC_IN is on its way to TSYNC_OUT. -/
def State.syncEdge (s : State) (level : Bool) : State :=
  ({ s with tbu := { s.tbu with syncEdges := s.tbu.syncEdges ++ [(s.now + 5, level)] } }).setPin 16 level

/-- TSYNC_IN_EDGE (R307, R308). In REPEAT mode TSYNC_OUT follows 5 ns later. -/
def execTsyncInEdge (dt : Nat) (rising : Bool) (s : State) : Host.Outcome State Fault Refusal :=
  let s := (s.advance dt).syncEdge rising
  .next (if s.alive && s.flag .TB_SYNC_CTL_ARM && s.flag .TB_SYNC_CTL_POL == !rising && s.tbRuns then s.loadTimebase
  else s)

/-- TSYNC_OUT_INACTIVE (R308): WIDTH ns after it rose, TSYNC_OUT falls. -/
def execTsyncOutInactive (dt : Nat) (s : State) : Host.Outcome State Fault Refusal :=
  let s := s.advance dt
  .next (match s.tbu.syncOutAt with
    | some t =>
      if max 20 (s.fld .TB_SYNC_OUT_WIDTH) ≤ s.clk - t then
        { s.setPin 17 false with tbu := { s.tbu with syncOutAt := none } }
      else s
    | none => s)

/-- A write of TB_SYNC_OUT (R308, R311). -/
def State.syncOut (s : State) (v : Nat) : State :=
  let mode := if getBits v 1 0 = 3 then s.fld .TB_SYNC_OUT_MODE else getBits v 1 0
  let s1 := s.plainWriteReg Reg.TB_SYNC_OUT (BitVec.ofNat 32 (putBits v 1 0 mode))
  if mode = s.fld .TB_SYNC_OUT_MODE then s1
  else
    let s2 := { s1 with tbu := { s1.tbu with syncOutAt := none } }
    s2.setPin 17 (mode == 2 && s2.tbu.syncSeen && !s2.standby)

/-! ## PTM -/

/-- Can PTM dialogues be sent (R330)? -/
def State.ptmOn (s : State) : Bool := s.pcie.f0.ptmEnable && !s.pcie.f0.d3hot && s.pcie.link = .up && s.alive

/-- A PTM dialogue is requested. -/
def State.ptmRequest (s : State) : State :=
  if s.ptmOn then { s with tbu := { s.tbu with ptmPending := true } } else s

/-- A write of TB_PTM_CTL (R310). -/
def State.ptmCtl (s : State) (v : Nat) : State :=
  let auto := getBits v 15 8
  let s1 := if auto = s.fld .TB_PTM_CTL_AUTO then s
    else { s with tbu := { s.tbu with ptmSince := s.now } }.setFld .TB_PTM_CTL_AUTO auto
  if bitOf v 0 then s1.ptmRequest else s1

/-- PTM_REQ (R310): a write of TB_PTM_CTL with REQ 1. -/
def execPtmReq (value : Word) (s : State) : Host.Outcome State Fault Refusal :=
  .next (s.pf0Write fun s => s.ptmCtl (putBit value.toNat 0 true))

/-- PTM_AUTO_EXPIRY (R310). -/
def execPtmAutoExpiry (dt : Nat) (s : State) : Host.Outcome State Fault Refusal :=
  let s := s.advance dt
  let auto := s.fld .TB_PTM_CTL_AUTO
  .next (if auto != 0 && s.ptmOn && 1000000 * auto ≤ s.now - s.tbu.ptmSince then
    { s with tbu := { s.tbu with ptmSince := s.now } }.ptmRequest
  else s)

/-- PTM_DIALOGUE_COMPLETE (R310): `localT` is the count at which the request that the master time describes was sent. -/
def execPtmDialogueComplete (dt : Nat) (master : Time) (localT : Time) (delay : Word) (s : State) :
    Host.Outcome State Fault Refusal :=
  let s := s.advance dt
  .next (if s.tbu.ptmPending && s.ptmOn then
    let s1 := { s with tbu := { s.tbu with ptmPending := false } }
    let s2 := s1.setWide Reg.TB_PTM_LOCAL_LO (timeAfter localT delay.toNat).toNat
    let s3 := (s2.setWide Reg.TB_PTM_MASTER_LO master.toNat).setReg Reg.TB_PTM_DELAY delay
    (s3.setReg Reg.TB_PTM_SEQ (s.reg Reg.TB_PTM_SEQ + 1)).raise 43
  else s)

end Sys2Proof.Machine
end

