-- ==== Sys2Proof/Machine/Settings.lean ====
section
/-! DEFINITION. What the settings of an edge say of a frame: depth, taps, exposure intervals, strobe pulses, windows,
readout time and minimum tick (R53 to R61, R110 to R114, R131 to R144). Each function reads the registers of a state;
a frame's own settings are read through `Frame.view`. -/

namespace Sys2Proof.Machine

/-- The state with the settings of a frame's edge in place of those in force (R39). -/
def Frame.view (f : Frame) (s : State) : State :=
  { s with regs := f.regs, tables := { s.tables with active := f.banks } }

/-! ## Modes -/

/-- The mode ID of SERVICE. -/
def serviceMode : Nat := 7

/-- Conversion depth in bits (R53, R131). DEPTH 3, which only a direct write can put in force, converts at 14 bits
(DESIGN CHOICE, log 62). -/
def State.depth (s : State) : Nat :=
  match s.mode with
  | 1 => 12 | 2 => 12 | 5 => 14
  | 7 => if s.fld .RO_SVC_DEPTH = 0 then 10 else if s.fld .RO_SVC_DEPTH = 1 then 12 else 14
  | _ => 10

/-- Is the frame binned (R53, R139)? -/
def State.binned (s : State) : Bool := s.mode == 3 || (s.mode == 7 && s.flag .RO_SVC_BIN)

/-- The taps whose settings the frame uses, in letter order (R111). -/
def State.taps (s : State) : List Nat :=
  match s.mode with
  | 1 => [0, 1]
  | 2 | 4 | 5 => [0]
  | 7 => (List.range 4).filter fun t => bitOf (s.fld .EXP_SVC_TAPS_EN) t
  | _ => [0, 1, 2, 3]

/-- The tap that takes the charge where the settings are those of tap `t`: in STRIP tap A in even ticks and tap B in
odd ticks (R60, R111). -/
def chargeTap (mode tick t : Nat) : Nat := if mode = 4 then tick % 2 else t

/-! ## Windows and readout time -/

/-- The enabled row bands as they are set, as first row and number of rows, in ascending order of START (R138). -/
def State.rowFields (s : State) : List (Nat × Nat) :=
  sortBy (·.1) (((List.range 4).filter fun n => bitOf (s.fld .RO_WIN_CFG_RB_EN) n).map fun n =>
    (4 * s.fld (.RO_RBAND_START n), 4 * s.fld (.RO_RBAND_HEIGHT n)))

/-- The enabled column bands as they are set, as first 64-column group and number of groups, in ascending order. -/
def State.colFields (s : State) : List (Nat × Nat) :=
  sortBy (·.1) (((List.range 16).filter fun n => bitOf (s.fld .RO_WIN_CFG_CB_EN) n).map fun n =>
    (s.fld (.RO_CBAND_START n), s.fld (.RO_CBAND_WIDTH n)))

/-- What of bands lies below `n`: no row band reaches a dark row (R82), and no column band an optical-black column (R144). -/
def clipBands (n : Nat) (l : List (Nat × Nat)) : List (Nat × Nat) :=
  (l.map fun b => (b.1, min b.2 (n - b.1))).filter fun b => b.2 != 0

/-- The row bands that are read. -/
def State.rowBands (s : State) : List (Nat × Nat) := clipBands 1536 s.rowFields

/-- The column bands that are read. -/
def State.colBands (s : State) : List (Nat × Nat) := clipBands 128 s.colFields

/-- The 64-column groups that are read. -/
def State.groups64 (s : State) : List Nat := s.colBands.flatMap fun b => (List.range b.2).map (· + b.1)

/-- The active columns that are read, in ascending order. -/
def State.columns (s : State) : List Nat := s.groups64.flatMap fun g => (List.range 64).map (· + 64 * g)

/-- The rows read for each tap, in the order of the bands: −12 to −1 and 1,536 to 1,547 are the dark rows of SERVICE
(R138, R144). -/
def State.rows (s : State) : List Int :=
  let active := s.rowBands.flatMap fun b => (List.range b.2).map fun i => ((b.1 + i : Nat) : Int)
  let dark (first : Int) : List Int := (List.range 12).map fun i => first + (i : Nat)
  if s.mode = serviceMode then
    (if s.flag .RO_SVC_DARK_TOP then dark (-12) else []) ++ active ++
      (if s.flag .RO_SVC_DARK_BOT then dark 1536 else [])
  else active

/-- The binned rows read for each tap (R139, R144). -/
def State.binnedRows (s : State) : List Int := (s.rows.filter fun y => y % 2 == 0).map fun y => y / 2

/-- The slot time in ns (R131). -/
def State.slotTime (s : State) : Nat := if s.depth = 10 then 450 else if s.depth = 12 then 1500 else 5600

/-- The slots of a frame (R140). -/
def State.slots (s : State) : Nat :=
  let t := s.taps.length
  let h := s.rows.length
  if s.binned then t * (((h + 7) / 8 + 1) / 2) else t * h / 4

/-- The readout time T_RO in ns (R140). -/
def State.readoutTime (s : State) : Nat := s.slots * s.slotTime

/-- The samples of a frame (R58). -/
def State.samples (s : State) : Nat :=
  let n := s.taps.length * s.columns.length * s.rows.length
  if s.binned then n / 4 else n

/-! ## Exposure intervals and strobe pulses -/

/-- An exposure interval: the tap whose settings time it, its start and end after the edge in ns, and the Fireflies
that it gates (R110). -/
structure Interval where
  tap : Nat
  start : Nat
  stop : Nat
  mask : Nat
  deriving DecidableEq, Repr

/-- The intervals of the sub-exposures of a tap (R110). -/
def State.tapIntervals (s : State) (t : Nat) : List Interval :=
  (List.range (s.fld (.EXP_TAP_SUB_COUNT t) + 1)).map fun k =>
    let a := s.fld (.EXP_TAP_OFS_OFS t) + k * s.fld (.EXP_TAP_PITCH_PITCH t)
    { tap := t, start := a, stop := a + s.fld (.EXP_TAP_DUR_DUR t), mask := s.fld (.EXP_TAP_SUB_FFMASK t) }

/-- The intervals of the frame, in order of start. -/
def State.intervals (s : State) : List Interval := sortBy (·.start) (s.taps.flatMap s.tapIntervals)

/-- The end of the last interval. -/
def State.lastStop (s : State) : Nat := s.intervals.foldl (fun m i => max m i.stop) 0

/-- Joins pulses that touch or overlap; the list is in order of start (R114). -/
def joinPulses : List (Nat × Nat) → List (Nat × Nat)
  | [] => []
  | p :: ps =>
    match joinPulses ps with
    | [] => [p]
    | q :: qs => if q.1 ≤ p.2 then (p.1, max p.2 q.2) :: qs else p :: q :: qs

/-- The pulses of a GATED Firefly in the frame, as start and end after the edge (R114). -/
def State.pulses (s : State) (f : Nat) : List (Nat × Nat) :=
  if s.fld (.FF_CFG_MODE f) = 1 then
    joinPulses ((s.intervals.filter fun i => bitOf i.mask f).map fun i =>
      (i.start - s.fld (.FF_LEAD_LEAD f), i.stop + s.fld (.FF_CFG_TRAIL f)))
  else []

/-! ## Minimum tick and exposure limit -/

/-- R56: the minimum tick of SERVICE. -/
def State.serviceMin (s : State) : Nat :=
  max 12500 (max (s.lastStop + 500 + s.readoutTime) ((s.samples + 63) / 64))

/-- The table minimum tick (R53), or the computed one of SERVICE (R56). -/
def State.tableMin (s : State) : Nat :=
  match s.mode with
  | 0 => 160000 | 1 => 400000 | 2 => 625000 | 3 => 80000 | 4 => 12500 | 5 => 2200000 | 6 => 200000
  | _ => s.serviceMin

/-- R55: the minimum tick of the mode in force, after an edge with mode `prevMode` and effective minimum tick
`prevMin`. -/
def State.minTick (s : State) (prevMode prevMin : Nat) : Nat :=
  let m := max s.tableMin (s.fld .HIF_TMIN_CFG_TMIN)
  let m := if s.mode = prevMode then m else max m prevMin
  if prevMode = 4 ∧ s.mode ≠ 4 then m + 8000 else m

/-- R61: the throttle tick floor, where the minimum tick is `m`. -/
def State.throttleFloor (s : State) (m : Nat) : Nat := max (2 * s.tableMin) m

/-- R57: the exposure limit for a tick of `m` ns. -/
def State.expLimit (s : State) (m : Nat) : Nat := if s.mode = 4 then m - 500 else m - 500 - s.readoutTime

end Sys2Proof.Machine
end

