-- ==== Sys2Proof/Machine/Exposure.lean ====
section
/-! DEFINITION. Exposure intervals, Firefly strobes, the start of the readout and the pixel supply (R86 to R89, R96 to
R98, R110 to R117). -/

namespace Sys2Proof.Machine

/-! ## Frames -/

/-- The newest frame. -/
def State.newest (s : State) : Option Frame := s.frames.getLast?

/-- The frame of a tick is changed. -/
def State.modFrame (s : State) (tick : Nat) (f : Frame → Frame) : State :=
  { s with frames := s.frames.map fun (x : Frame) => if x.tick = tick then f x else x }

/-- The frame of a tick. -/
def State.frameOf (s : State) (tick : Nat) : Option Frame := s.frames.find? fun (x : Frame) => x.tick == tick

/-- ns of the timebase clock domain since a frame's edge, less the delay of R71. -/
def State.sinceFrame (s : State) (f : Frame) : Int := (s.clk : Int) - (f.clk + f.delay : Nat)

/-! ## Events under a rate limit -/

/-- An event of which at most one is raised per 1,000 ms (R68, R97, R116, R162). -/
def State.limitedEvent (s : State) (code sub : Nat) (status : Status) (source : Nat) (args : List Byte) : State :=
  let key := code * 16 + sub
  let last := s.evtLimit.get (fun _ => 0) key
  if last != 0 && s.now + 1 < last + 1000000000 then s
  else { s with evtLimit := s.evtLimit.set (fun _ => 0) key (s.now + 1) }.event code status source args

/-! ## Exposure intervals -/

/-- EXPOSURE_INTERVAL_START (R86, R110): the drain gate closes for the next interval of the newest frame. -/
def execExposureIntervalStart (dt : Nat) (s : State) : Host.Outcome State Fault Refusal :=
  let s := s.advance dt
  .next (match s.newest with
    | some f =>
      match (f.view s).intervals[f.interval]? with
      | some i =>
        if !f.isOpen && !f.cut && s.tbRuns && (i.start : Int) ≤ s.sinceFrame f then
          s.modFrame f.tick fun f => { f with isOpen := true }
        else s
      | none => s
    | none => s)

/-- Is a physical pixel open to light (R77)? The key is row × 8,256 + column. -/
def openPixel (key : Nat) : Bool :=
  12 ≤ key / 8256 && key / 8256 ≤ 1547 && 32 ≤ key % 8256 && key % 8256 ≤ 8223

/-- R87, R88: the charge of an interval, at most what the photodiode holds, joins that of the storage node, at most
what the node holds. -/
def addCharge (nodes : Store Nat) (tap : Nat) (e : Nat × Nat) : Store Nat :=
  if openPixel e.1 then nodes.modify (fun _ => 0) (tap * 2 ^ 24 + e.1) fun q => min 9000 (q + min 12000 e.2) else nodes

/-- EXPOSURE_INTERVAL_END (R86 to R88): the transfer gate moves the charge of the interval to its tap. `light` gives the
electrons that each photodiode collected. -/
def execExposureIntervalEnd (dt : Nat) (light : List (Nat × Nat)) (s : State) : Host.Outcome State Fault Refusal :=
  let s := s.advance dt
  .next (match s.newest with
    | some f =>
      match (f.view s).intervals[f.interval]? with
      | some i =>
        if f.isOpen && s.tbRuns && (i.stop : Int) ≤ s.sinceFrame f then
          s.modFrame f.tick fun f =>
            { f with
              isOpen := false, interval := f.interval + 1,
              nodes := light.foldl (fun m e => addCharge m (chargeTap f.mode f.tick i.tap) e) f.nodes }
        else s
      | none => s
    | none => s)

/-! ## Fireflies -/

/-- A Firefly whose output has never been active. -/
def Firefly.init : Firefly := { active := false, level := false, until_ := 0, window := 0, onTime := 0 }

/-- A Firefly. -/
def State.firefly (s : State) (f : Nat) : Firefly := s.fireflies.get (fun _ => Firefly.init) f

/-- A Firefly is replaced. -/
def State.setFirefly (s : State) (f : Nat) (x : Firefly) : State :=
  { s with fireflies := s.fireflies.set (fun _ => Firefly.init) f x }

/-- R114, R115: the level of a Firefly's pin outside a pulse: the active level while it is STEADY and the device runs,
else the inverse of the active level; low in STANDBY, OFF and reset. -/
def State.fireflyRest (s : State) (f : Nat) : Bool :=
  let pol := s.flag (.FF_CFG_POL f)
  if s.standby || !s.alive then false
  else if s.fld (.FF_CFG_MODE f) = 2 && s.running && !s.gated 2 then !pol else pol

/-- Every Firefly outside a pulse drives its rest level. -/
def State.settleFireflies (s : State) : State :=
  (List.range 8).foldl (fun s f => if (s.firefly f).active then s else s.setPin (8 + f) (s.fireflyRest f)) s

/-- R116: a pulse is suppressed. -/
def State.suppressPulse (s : State) (frame : Nat) (f : Nat) : State :=
  let s1 := (s.count .FF_SUPPR_CNT_COUNT 1).setFld .FF_STAT_SUPPR (putBit (s.fld .FF_STAT_SUPPR) f true)
  let s2 := s1.modFrame frame fun x => { x with suppressed := true }
  let mask := putBit s2.suppressedMask f true
  let s3 := { s2 with suppressedMask := mask }
  let s4 := s3.limitedEvent 5 0 .ok mask (leBytes 4 (s3.fld .FF_SUPPR_CNT_COUNT))
  if s4.evSeq = s3.evSeq then s4 else { s4 with suppressedMask := 0 }

/-- R116: the on-time counted in the window in which a pulse would start. -/
def State.windowTime (s : State) (f : Nat) : Nat :=
  if (s.firefly f).window = s.tb.toNat / 1000000 then (s.firefly f).onTime else 0

/-- A pulse of Firefly `f` from `p.1` to `p.2` after the edge of `x` begins or is suppressed (R114, R116). -/
def State.startPulse (s : State) (x : Frame) (f : Nat) (p : Nat × Nat) : State :=
  let limit := (x.view s).fld (.FF_DUTY_LIMIT f)
  let t := s.windowTime f + (p.2 - p.1)
  let s1 := s.modFrame x.tick fun x =>
    { x with pulse := x.pulse.set (fun _ => 0) f (x.pulse.get (fun _ => 0) f + 1) }
  if limit != 0 && limit < t then s1.suppressPulse x.tick f
  else
    let level := !(x.view s).flag (.FF_CFG_POL f)
    (s1.setFirefly f { active := true, level := level, until_ := x.clk + x.delay + p.2,
                       window := s.tb.toNat / 1000000, onTime := t }).setPin (8 + f) level

/-- FIREFLY_PULSE_START (R114, R116). -/
def execFireflyPulseStart (dt : Nat) (f : Fin 8) (s : State) : Host.Outcome State Fault Refusal :=
  let s := s.advance dt
  .next (match s.newest with
    | some x =>
      match ((x.view s).pulses f.val)[x.pulse.get (fun _ => 0) f.val]? with
      | some p =>
        if s.tbRuns && !x.cut && !(s.firefly f.val).active && (p.1 : Int) ≤ s.sinceFrame x then
          s.startPulse x f.val p
        else s
      | none => s
    | none => s)

/-- FIREFLY_PULSE_END (R114). -/
def execFireflyPulseEnd (dt : Nat) (f : Fin 8) (s : State) : Host.Outcome State Fault Refusal :=
  let s := s.advance dt
  let x := s.firefly f.val
  .next (if x.active && s.tbRuns && x.until_ ≤ s.clk then
    (s.setFirefly f.val { x with active := false }).setPin (8 + f.val) !x.level
  else s)

/-! ## The start of the readout -/

/-- May the readout of a frame start (R60, R113)? In STRIP it starts at the next edge, or, where no edge comes, a
minimum tick after the frame's own (log 17). -/
def State.readoutDue (s : State) (f : Frame) : Bool :=
  f.readAt.isNone &&
    (if f.mode = 4 then s.newest.any (fun (x : Frame) => x.tick != f.tick) || decide (f.clk + f.tmin ≤ s.clk)
     else decide ((f.view s).intervals.length ≤ f.interval) && !f.isOpen &&
       decide (((f.view s).lastStop + 500 : Nat) ≤ s.sinceFrame f))

/-- When the readout of a frame that is due starts, on the clock of the timebase domain (R60, R113). -/
def State.readoutAt (s : State) (f : Frame) : Nat :=
  if f.mode = 4 then
    match s.frames.find? fun (x : Frame) => f.tick < x.tick with
    | some x => x.clk
    | none => f.clk + f.tmin
  else f.clk + f.delay + (f.view s).lastStop + 500

/-- READOUT_START (R113): the readout of the oldest frame that waits for it starts, at the time that R113 gives it. -/
def execReadoutStart (dt : Nat) (s : State) : Host.Outcome State Fault Refusal :=
  let s := s.advance dt
  .next (match s.frames.find? s.readoutDue with
    | some f => if s.tbRuns then s.modFrame f.tick fun f => { f with readAt := some (s.readoutAt f) } else s
    | none => s)

/-! ## The pixel supply -/

/-- Does the boost run (R96)? -/
def State.boostOn (s : State) : Bool := s.alive && !s.standby

/-- Is the newest frame between its first interval and its last transfer (R97)? -/
def State.exposing (s : State) (f : Frame) : Bool :=
  !f.cut && (f.isOpen || f.interval != 0) && decide (f.interval < (f.view s).intervals.length)

/-- R97: a sample outside regulation during the exposure of a frame. -/
def State.droop (s : State) (mv : Nat) : State :=
  match s.newest with
  | some f =>
    if s.exposing f && !f.pixsup then
      ((s.modFrame f.tick fun f => { f with pixsup := true }).count .RO_PIXSUP_DROOP_DROOP 1).limitedEvent 4 0 .ok 0
        (leBytes 2 mv)
    else s
  | none => s

/-- PIXSUP_MONITOR_SAMPLE (R97, R98): a sample of the boost in mV. Outside 3,300 to 3,550 mV the boost is out of
regulation and READY falls. -/
def execPixsupMonitorSample (dt : Nat) (mv : Nat) (s : State) : Host.Outcome State Fault Refusal :=
  let s := s.advance dt
  .next (if s.boostOn then
    let s1 := s.setFld .RO_PIXSUP_STAT_MV (min 4095 mv)
    if 3300 ≤ mv && mv ≤ 3550 then s1
    else
      let s2 := (s1.setFlag .RO_PIXSUP_STAT_READY false).droop mv
      if s.flag .RO_PIXSUP_STAT_READY && s.running then s2.raiseFast 10 else s2
  else s)

/-- PIXSUP_READY_RISE (R96): the boost is in regulation. -/
def execPixsupReadyRise (dt : Nat) (s : State) : Host.Outcome State Fault Refusal :=
  let s := s.advance dt
  .next (if s.boostOn then s.setFlag .RO_PIXSUP_STAT_READY true else s)

end Sys2Proof.Machine
end

