-- ==== Sys2Proof/Machine/Readout.lean ====
section
/-! DEFINITION. The readout: row slots of the column converters, and the Axle to the X-die (R131 to R154). -/

namespace Sys2Proof.Machine

/-! ## Row reads of a slot -/

/-- A row read of a slot: the tap whose node is read, the tap whose settings hold, the row (binned row where the frame
is binned), the converter position in its column, and, binned, which column of the pair converts it (R137 to R139). -/
structure RowRead where
  tap : Nat
  settings : Nat
  row : Int
  position : Nat
  half : Nat
  deriving DecidableEq, Repr

/-- The row reads of slot `k` of a frame, in ascending row order. `v` is the frame's view. -/
def rowReads (v : State) (f : Frame) (k : Nat) : List RowRead :=
  let n := v.taps.length
  match v.taps[k % n]? with
  | none => []
  | some t =>
    let tap := chargeTap f.mode f.tick t
    if v.binned then
      ((v.binnedRows.drop (8 * (k / n))).take 8).zipIdx.map fun p =>
        { tap := tap, settings := t, row := p.1, position := p.2 % 4, half := p.2 / 4 % 2 }
    else
      ((v.rows.drop (4 * (k / n))).take 4).map fun y =>
        { tap := tap, settings := t, row := y, position := (y % 4).toNat, half := 0 }

/-- The columns of a row read: active columns, or binned columns (R142, R143). -/
def readColumns (v : State) : List Nat :=
  if v.binned then (v.columns.filter fun x => x % 2 == 0).map (· / 2) else v.columns

/-- The active column whose converters convert column `x` of a row read. -/
def converterColumn (v : State) (r : RowRead) (x : Nat) : Nat := if v.binned then 2 * x + r.half else x

/-- The number of a sample: tap, row and column. -/
def sampleKey (tap : Nat) (row : Int) (x : Nat) : Nat := (tap * 4096 + (row + 12).toNat) * 8192 + x

/-- The number of a row read. -/
def rowKey (tap : Nat) (row : Int) : Nat := tap * 4096 + (row + 12).toNat

/-! ## One conversion -/

/-- The holder of a role in the spare map that the frame reads (R153). -/
def Frame.unit (f : Frame) (cls r : Nat) : Nat :=
  f.holder.get (fun k => homeUnit (k / 2 ^ 20) (k % 2 ^ 20)) (unitKey cls r)

/-- Is a role lost in the spare map that the frame reads (R154)? -/
def Frame.roleLost (f : Frame) (cls r : Nat) : Bool := f.lost.get (fun _ => false) (unitKey cls r)

/-- The gain code of a tap's settings (R136). -/
def State.gain (v : State) (t : Nat) : Nat := getBits (v.reg Reg.RO_GAIN).toNat (4 * t + 2) (4 * t)

/-- The combination cb of R434. The gain codes 5 to 7, which R136 gives no gain and which only a direct write can put in
force, convert at a gain of 2 to the code, with the offset entry that this number names (DESIGN CHOICE,
log 62). -/
def State.combo (v : State) (t : Nat) : Nat :=
  5 * (if v.depth = 10 then 0 else if v.depth = 12 then 1 else 2) + v.gain t

/-- The offset o_k of a converter (R135, R434). -/
def Frame.offset (f : Frame) (cb k : Nat) : Int :=
  signed 14 (f.cal.get (fun _ => 0) (5 * 2 ^ 20 + 33536 * cb + k))

/-- The pedestal at the frame's depth (R134). -/
def State.pedestal (v : State) : Nat := v.fld .RO_PED_PED10 * 2 ^ (v.depth - 10)

/-- The nominal raw code of a charge (R133): floor(Q ÷ K + 0.5) above the pedestal. -/
def State.nominal (v : State) (t q : Nat) : Nat :=
  let scaled := 2 * q * 2 ^ v.gain t * 2 ^ (v.depth - 10)
  v.pedestal + (if v.binned then (scaled + 18) / 36 else (scaled + 9) / 18)

/-- R132: the raw code of a conversion `dev` codes away from the nominal. -/
def State.rawCode (v : State) (t q : Nat) (dev : Int) : Nat :=
  min (2 ^ v.depth - 1) ((v.nominal t q : Nat) + dev).toNat

/-- R135: the corrected code. -/
def correctCode (b : Nat) (offset : Int) (raw : Nat) : Nat :=
  if raw = 2 ^ b - 1 then 2 ^ b - 1 else (max 1 (min (2 ^ b - 2 : Int) ((raw : Int) - offset))).toNat

/-- The charge that a conversion measures (R90, R91, R133). -/
def Frame.charge (f : Frame) (binned : Bool) (tap : Nat) (row : Int) (x : Nat) : Nat :=
  let node (y : Int) (x : Nat) : Nat := f.nodes.get (fun _ => 0) (tap * 2 ^ 24 + (y + 12).toNat * 8256 + x + 32)
  if binned then
    min 18000 (node (2 * row) (2 * x) + node (2 * row) (2 * x + 1) + node (2 * row + 1) (2 * x) +
      node (2 * row + 1) (2 * x + 1))
  else node row x

/-- What happened in the analog circuits of a converter in the slot. -/
def conversionOf (analog : List Conversion) (unit : Nat) : Option Conversion := analog.find? (·.converter == unit)

/-! ## Groups -/

/-- The lane roles that carry a group and are not lost. -/
def Frame.groupLanes (f : Frame) (g : Nat) : List Nat :=
  ((List.range 5).map (5 * g + ·)).filter fun l => !f.roleLost 3 l

/-- R150, R154: is a 64-column group lost at a depth? A group with fewer than four lanes left is taken as lost at every
depth (log 18). -/
def Frame.groupLost (f : Frame) (depth g : Nat) : Bool :=
  let lanes := (f.groupLanes g).length
  (depth == 10 && lanes < 5) || lanes < 4 || f.roleLost 1 (g / 8) || f.roleLost 2 (g / 4)

/-! ## The slot -/

/-- The code of one sample as it leaves the C-die: 0 where it is invalid (R135, R151, R154). -/
def slotCode (v : State) (f : Frame) (analog : List Conversion) (r : RowRead) (x : Nat) : Nat :=
  let col := converterColumn v r x
  let role := 4 * col + r.position
  let unit := f.unit 0 role
  let a := conversionOf analog unit
  let parity := analog.any fun c => c.parityFail && c.converter < 33280 && c.converter / 1040 == col / 256
  if f.roleLost 0 role || parity || a.any (·.outOfRange) then 0
  else correctCode v.depth (f.offset (v.combo r.settings) unit)
    (v.rawCode r.settings (f.charge v.binned r.tap r.row x) ((a.map (·.deviation)).getD 0))

/-- The optical-black samples of a row read that take part in its mean (R81, R145). -/
def obSamples (v : State) (f : Frame) (suspect : List Nat) (analog : List Conversion) (r : RowRead) : List Nat :=
  let cols := if v.binned then (List.range 32).map fun u => 2 * u + r.half else List.range 64
  (cols.map fun q => 33280 + 4 * q + r.position).filterMap fun k =>
    let a := conversionOf analog k
    if suspect.contains k || a.any (·.outOfRange) then none
    else some (correctCode v.depth (f.offset (v.combo r.settings) k) (v.rawCode r.settings 0 ((a.map (·.deviation)).getD 0)))

/-- R145: the optical-black word of a row read, with 2 fraction bits rounded down (log 19); the frame remembers it. -/
def obWord (v : State) (suspect : List Nat) (analog : List Conversion) (f : Frame) (r : RowRead) : Frame :=
  let l := obSamples v f suspect analog r
  let (value, rep) := if l.isEmpty then (f.obC.get (fun _ => 0) r.tap, true) else (4 * l.sum / l.length, false)
  { f with
    obC := f.obC.set (fun _ => 0) r.tap value
    wireOb := f.wireOb ++ [(r.tap, r.row, value, rep)] }

/-- The samples of a slot, by sample number; the samples of a lost group do not cross the Axle. -/
def slotSamples (v : State) (f : Frame) (analog : List Conversion) (rs : List RowRead) : Store Nat :=
  let w := if v.binned then 32 else 64
  rs.foldl (fun m r => (readColumns v).foldl (fun m x =>
    if f.groupLost v.depth (x / w) then m
    else Store.set (fun _ => 0) m (sampleKey r.tap r.row x) (slotCode v f analog r x)) m) []

/-! ## Packets of the Axle -/

/-- A packet of a lane (R147): its slot sequence, its payload and its side field, each with its first bit lowest, and the
CRC-16 over them. -/
structure AxlePacket where
  seq : Nat
  payload : Nat
  side : Nat
  crc : BitVec 16
  deriving DecidableEq, Repr

/-- The bits of a packet (R147), less those of the sequence, the side field and the CRC: 512, 1,772 or 6,692. -/
def payloadBits (depth : Nat) : Nat := if depth = 10 then 512 else if depth = 12 then 1772 else 6692

/-- The sample bits of a group in a slot, first sample lowest, and of each sample bit 0 first (DEDUCED, log 18). -/
def groupStream (v : State) (wire : Store Nat) (rs : List RowRead) (g : Nat) : Nat :=
  let w := if v.binned then 32 else 64
  let xs := rs.flatMap fun r => (List.range w).map fun i => wire.get (fun _ => 0) (sampleKey r.tap r.row (g * w + i))
  xs.foldr (fun x acc => x % 2 ^ v.depth + 2 ^ v.depth * acc) 0

/-- The payload of a lane: the 16-bit units of its group that are dealt to it, with zeros after the last sample bit (R147,
R150). -/
def Frame.payload (f : Frame) (v : State) (rs : List RowRead) (lane : Nat) : Nat :=
  let lanes := f.groupLanes (lane / 5)
  let stream := groupStream v f.wire rs (lane / 5)
  let first := lanes.idxOf lane
  ((List.range (payloadBits v.depth / 16)).foldl (fun p j =>
    p + 2 ^ (16 * j) * getBits stream (16 * (j * lanes.length + first) + 15) (16 * (j * lanes.length + first))) 0)

/-- The 5,120 bits of the side channel of a slot (R148): its optical-black words, and their second copy. -/
def Frame.sideChannel (f : Frame) : Nat :=
  let words := f.wireOb.foldr (fun w acc => w.2.2.1 % 2 ^ 16 + 2 ^ 16 * boolNat w.2.2.2 + 2 ^ 24 * acc) 0
  words + 2 ^ 2560 * words

/-- The bits of a packet before its CRC, first bit lowest. -/
def AxlePacket.fields (depth : Nat) (p : AxlePacket) : List Bool :=
  bitList 4 p.seq ++ bitList (payloadBits depth) p.payload ++ bitList 8 p.side

/-- The packet that a lane sends for the last slot (R147). The sequence is the number of the slot in its frame (log 18). -/
def Frame.packet (f : Frame) (v : State) (lane : Nat) : AxlePacket :=
  let rs := rowReads v f (f.slot - 1)
  let p : AxlePacket := { seq := (f.slot - 1) % 16, payload := f.payload v rs lane,
                          side := getBits f.sideChannel (8 * lane + 7) (8 * lane), crc := 0 }
  { p with crc := Config.crc16 (p.fields v.depth) }

/-- The packet as it arrives: the bits that `flips` names, in the order of the packet, are wrong. -/
def AxlePacket.flip (depth flips : Nat) (p : AxlePacket) : AxlePacket :=
  let n := payloadBits depth
  { seq := p.seq ^^^ getBits flips 3 0, payload := p.payload ^^^ getBits flips (n + 3) 4
    side := p.side ^^^ getBits flips (n + 11) (n + 4), crc := p.crc ^^^ BitVec.ofNat 16 (flips / 2 ^ (n + 12)) }

/-- R149: does the CRC of the packet that arrives match its fields? That of a packet that arrives as it was sent does. -/
def Frame.crcOk (f : Frame) (v : State) (lane flips : Nat) : Bool :=
  flips == 0 ||
    (let q := (f.packet v lane).flip v.depth flips
     q.crc == Config.crc16 (q.fields v.depth))

/-! ## Delivery at the X-die -/

/-- Did the packet of a lane for the last slot come and pass its CRC? -/
def Frame.laneGood (f : Frame) (l : Nat) : Bool := 2 ≤ f.lanes.get (fun _ => 0) l

/-- The bits of a lane's packet that arrived wrong though its CRC matched. -/
def Frame.laneFlips (f : Frame) (l : Nat) : Nat := f.lanes.get (fun _ => 0) l - 2

/-- The lanes that carry the bits of sample `i` of a group in a slot: 16-bit units dealt to its lanes (R147, R150), in turn and
in ascending order also to the four that are left (DEDUCED, log 18). -/
def sampleLanes (depth : Nat) (lanes : List Nat) (i : Nat) : List Nat :=
  let first := i * depth / 16
  let last := (i * depth + depth - 1) / 16
  (List.range (last + 1 - first)).map fun u => lanes.getD ((first + u) % lanes.length) 0

/-- The bits of sample `i` of a group that arrived wrong in packets that passed their CRC. -/
def Frame.sampleFlips (f : Frame) (depth : Nat) (lanes : List Nat) (i : Nat) : Nat :=
  if lanes.all fun l => f.laneFlips l == 0 then 0
  else (List.range depth).foldl (fun m b =>
    let bit := i * depth + b
    let unit := bit / 16
    m + 2 ^ b * boolNat (bitOf (f.laneFlips (lanes.getD (unit % lanes.length) 0)) (4 + 16 * (unit / lanes.length) + bit % 16))) 0

/-- The samples of the last slot reach the X-die, invalid where a packet that carries part of them failed (R149). -/
def Frame.deliverSamples (f : Frame) (v : State) (rs : List RowRead) : Store Nat :=
  let w := if v.binned then 32 else 64
  rs.zipIdx.foldl (fun m p => (readColumns v).foldl (fun m x =>
    let lanes := f.groupLanes (x / w)
    let ok := !f.groupLost v.depth (x / w) && (sampleLanes v.depth lanes (p.2 * w + x % w)).all f.laneGood
    let key := sampleKey p.1.tap p.1.row x
    if ok then
      Store.set (fun _ => 0) m key (f.wire.get (fun _ => 0) key ^^^ f.sampleFlips v.depth lanes (p.2 * w + x % w))
    else m) m) f.codes

/-- The side bits that three lanes from `l` on carry and that arrived wrong (R148). -/
def Frame.sideFlips (f : Frame) (depth l : Nat) : Nat :=
  (List.range 3).foldl (fun m i => m + 2 ^ (8 * i) * (f.laneFlips (l + i) / 2 ^ (payloadBits depth + 4) % 256)) 0

/-- The optical-black words of the last slot reach the X-die, from their second copy where the first failed (R148). -/
def Frame.deliverOb (f : Frame) (depth : Nat) : Frame :=
  f.wireOb.zipIdx.foldl (fun (f : Frame) (p : (Nat × Int × Nat × Bool) × Nat) =>
    let good (l : Nat) : Bool := f.laneGood l && f.laneGood (l + 1) && f.laneGood (l + 2)
    let tap := p.1.1
    let copy (l : Nat) : Nat × Bool :=
      let x := f.sideFlips depth l
      (p.1.2.2.1 ^^^ (x % 2 ^ 16), p.1.2.2.2 != bitOf x 16)
    let (value, rep) := if good (3 * p.2) then copy (3 * p.2)
      else if good (320 + 3 * p.2) then copy (320 + 3 * p.2)
      else (f.obX.get (fun _ => 0) tap, true)
    { f with
      obX := f.obX.set (fun _ => 0) tap value
      ob := f.ob.set (fun _ => (0, false)) (rowKey tap p.1.2.1) (value, rep) }) f

/-- The last slot's packets are taken in: the Axle is free for the next slot. -/
def State.deliver (s : State) (f : Frame) : Frame :=
  if f.slot = 0 then f
  else
    let v := f.view s
    let rs := rowReads v f (f.slot - 1)
    let g := { f with codes := f.deliverSamples v rs }.deliverOb v.depth
    { g with wire := [], wireOb := [], lanes := [] }

/-- R89, R128: the storage nodes of the rows that a slot read are empty. -/
def emptyNodes (v : State) (rs : List RowRead) (nodes : Store Nat) : Store Nat :=
  nodes.filter fun e => !rs.any fun r =>
    let row := (e.1 % 2 ^ 24 / 8256 : Nat) - (12 : Int)
    r.tap == e.1 / 2 ^ 24 && (if v.binned then row / 2 else row) == r.row

/-! ## Faults of the converter die -/

/-- The physical converters that convert in a slot. -/
def slotUnits (v : State) (f : Frame) (rs : List RowRead) : List Nat :=
  rs.flatMap fun r => (readColumns v).map fun x => f.unit 0 (4 * converterColumn v r x + r.position)

/-- R151: out-of-range conversions count and are charged to their converters, or, more than 64 of one ramp generator,
once to it; a parity failure is charged once to its counter segment. `used` are the converters that convert in the slot. -/
def State.chargeSlot (s : State) (f : Frame) (used : List Nat) (conv : List Conversion) : State :=
  let oor := conv.filter fun c => c.outOfRange && used.contains c.converter
  let s1 := s.count .RO_OOR_CNT_OOR oor.length
  let s2 := (List.range 16).foldl (fun s z =>
    let mine := oor.filter fun c => c.converter / 2080 == z
    if 64 < mine.length then s.charge 1 (unitKey 1 (f.unit 1 z))
    else mine.foldl (fun s c => s.charge 1 (unitKey 0 c.converter)) s) s1
  (List.range 32).foldl (fun s g =>
    if conv.any fun c => c.parityFail && c.converter / 1040 == g then s.charge 1 (unitKey 2 (f.unit 2 g)) else s) s2

/-! ## Commands -/

/-- The frame whose readout is under way. -/
def State.reading (s : State) : Option Frame :=
  s.frames.find? fun (f : Frame) => f.readAt.isSome && f.slot < (f.view s).slots

/-- Has the next slot of a frame run its time (R131, R138)? -/
def State.slotDue (s : State) (f : Frame) : Bool :=
  match f.readAt with
  | some c => !s.gated 0 && decide (c + (f.slot + 1) * (f.view s).slotTime ≤ s.clk)
  | none => false

/-- ROW_SLOT (R131 to R151): the next row slot converts. -/
def execRowSlot (dt : Nat) (analog : List Conversion) (s : State) : Host.Outcome State Fault Refusal :=
  let s := s.advance dt
  .next (match s.reading with
    | some f =>
      if s.slotDue f then
        let v := f.view s
        let rs := rowReads v f f.slot
        let f1 := s.deliver f
        let f2 := rs.foldl (obWord v s.cal.suspectRefs analog) f1
        let f3 := { f2 with wire := slotSamples v f analog rs, slot := f.slot + 1, nodes := emptyNodes v rs f.nodes }
        let used := slotUnits v f rs
        (s.modFrame f.tick fun _ => f3).chargeSlot f used analog
      else s
    | none => s)

/-- The frame whose last slot is on the Axle. -/
def State.onAxle (s : State) : Option Frame :=
  s.frames.reverse.find? fun (f : Frame) => f.slot != 0 && !f.piped.contains 0

/-- AXLE_PACKET (R147 to R149): the X-die receives the packet of a lane role for the last slot, with the bits of `flips`
wrong. -/
def execAxlePacket (dt : Nat) (lane : Fin 640) (flips : Nat) (s : State) : Host.Outcome State Fault Refusal :=
  let s := s.advance dt
  .next (match s.onAxle with
    | some f =>
      if !s.gated 0 && !f.roleLost 3 lane.val && f.lanes.get (fun _ => 0) lane.val == 0 then
        let ok := f.crcOk (f.view s) lane.val flips
        let s1 := s.modFrame f.tick fun f =>
          { f with lanes := f.lanes.set (fun _ => 0) lane.val (if ok then flips + 2 else 1) }
        if ok then s1 else (s1.count .RO_AXLE_CRC_CRC 1).charge 4 (unitKey 3 (f.unit 3 lane.val))
      else s
    | none => s)

end Sys2Proof.Machine
end

