-- ==== Sys2Proof/Machine/Companion.lean ====
section
/-! DEFINITION. Companion cameras: the CSI-2 receiver, companion frames, the merge buffer and the trigger outputs (R157
to R170). Camera n has the registers of index n − 1. -/

namespace Sys2Proof.Machine

/-! ## Receiver -/

/-- Does the receiver run? -/
def State.csiOn (s : State) : Bool := s.alive && !s.standby && s.flag .CSX_LINK_CFG_EN

/-- R39, R162: the tick to which a corrected frame-start time belongs: `none` where no edge precedes it; `some none`
where the tick is older than the frames under work. -/
def State.tickOfTime (s : State) (t : Time) : Option (Option Frame) :=
  match s.frames.reverse.find? fun (f : Frame) => reached t f.edge with
  | some f => some (some f)
  | none => match s.frames.head? with
    | some f => if f.tick = 0 then none else some none
    | none => none

/-- The corrected frame-start time of a frame of camera `n` that starts now (R161), by the LAT in force now (DESIGN CHOICE,
log 32). -/
def State.correctedNow (s : State) (n : Nat) : Time := s.tb - BitVec.ofNat 64 (s.fld (.CSX_CAM_LAT_LAT (n - 1)))

/-- The settings of a frame of camera `n` that starts now: those of the edge of its tick, or those in force where it belongs
to no frame under work (R39). -/
def State.camView (s : State) (n : Nat) : State :=
  match s.tickOfTime (s.correctedNow n) with
  | some (some f) => f.view s
  | _ => s

/-- The cameras that take a frame that starts now on a virtual channel (R159, R164). -/
def State.camsOn (s : State) (vc : Nat) : List Nat :=
  ([1, 2, 3] : List Nat).filter fun n =>
    let v := s.camView n
    v.flag (.CSX_CAM_CFG_EN (n - 1)) && v.fld (.CSX_CAM_CFG_VC (n - 1)) == vc

/-- The pipeline that serves a camera. -/
def State.camPipe (s : State) (n : Nat) : Nat := s.fld (.CSX_CAM_STAT_PIPE (n - 1))

/-- Pixels of a frame (R160). -/
def CamFrame.pixels (x : CamFrame) : Nat := x.width * x.height

/-- The frames that meet a condition are changed. -/
def State.modCam (s : State) (p : CamFrame → Bool) (f : CamFrame → CamFrame) : State :=
  { s with camFrames := s.camFrames.map fun x => if p x then f x else x }

/-- Is the frame still being received on a virtual channel? -/
def CamFrame.isOpen (x : CamFrame) (vc : Nat) : Bool := x.vc == vc && !x.complete

/-- The frame that is being received on a virtual channel. -/
def State.openCams (s : State) (vc : Nat) : List CamFrame := s.camFrames.filter (·.isOpen vc)

/-- A frame is let go. -/
def State.removeCam (s : State) (x : CamFrame) : State :=
  { s with camFrames := s.camFrames.filter fun y => !(y == x) }

/-- R160: a malformed frame is dropped whole. -/
def State.malformed (s : State) (x : CamFrame) : State :=
  (s.count (.CSX_CAM_ERR_MALFORMED (x.cam - 1)) 1).removeCam x

/-- R162: a dropped frame of camera `n`: its counter and its event. -/
def State.dropCam (s : State) (n : Nat) (st : Status) : State :=
  let s1 := s.count (.CSX_CAM_ERR_DROP (n - 1)) 1
  s1.limitedEvent 6 n st n (leBytes 4 (s1.reg (Reg.CSX_CAM_ERR (n - 1))).toNat)

/-- R166: does a frame of camera `n` wait in the merge buffer: is its pipeline shared, and busy or the buffer used? `v` has
the settings of its tick. -/
def State.mustWait (s v : State) (n : Nat) : Bool :=
  let shared := ([1, 2, 3] : List Nat).any fun m => m != n && v.flag (.CSX_CAM_CFG_EN (m - 1)) && v.camPipe m == v.camPipe n
  shared && s.camFrames.any fun x => x.pipe == v.camPipe n || x.buffered

/-- The free room of the merge buffer in samples (R166). -/
def State.mergeRoom (s : State) : Nat := 524288 - ((s.camFrames.filter (·.buffered)).map (·.pixels)).sum

/-- BUFFERED shows whether a frame of the camera waits in the merge buffer. -/
def State.showBuffered (s : State) : State :=
  ([1, 2, 3] : List Nat).foldl (fun s n => s.setFlag (.CSX_CAM_STAT_BUFFERED (n - 1))
    (s.camFrames.any fun x => x.cam == n && x.buffered)) s

/-- A frame of camera `n` starts (R161, R166). One that finds no room in the merge buffer is dropped at once, where R162
counts it at all. -/
def State.camStart (s : State) (vc n : Nat) : State :=
  let v := s.camView n
  let corrected := s.correctedNow n
  let owner := if s.running then s.tickOfTime corrected else none
  let tick := match owner with
    | some (some f) => f.tick + 1
    | _ => 0
  let wait := s.mustWait v n
  let x : CamFrame :=
    { cam := n, vc := vc, dt := v.fld (.CSX_CAM_CFG_DT (n - 1)), width := v.fld (.CSX_CAM_SIZE_WIDTH (n - 1)),
      height := v.fld (.CSX_CAM_SIZE_HEIGHT (n - 1)), pipe := v.camPipe n, captured := s.tb, corrected := corrected,
      later := tick != 0 && s.camLast.get (fun _ => 0) n == tick, held := s.flag .TB_STAT_HELD, tick := none, lines := [],
      complete := false, buffered := wait }
  let s1 := { s with camLast := s.camLast.set (fun _ => 0) n tick }.setWide (Reg.CSX_CAM_FS_LO (n - 1)) s.tb.toNat
  if wait && decide (s1.mergeRoom < x.pixels) then (if owner.isSome then s1.dropCam n .overload else s1)
  else { s1 with camFrames := s1.camFrames ++ [x] }

/-- R158: what the error code of a packet header shows; a packet whose header cannot be corrected is discarded. The second
component says whether the packet counts. -/
def State.csiHeader (s : State) : HeaderEcc → State × Bool
  | .good => (s, true)
  | .corrected => (s.count .CSX_ECC_CORR_COUNT 1, true)
  | .uncorrected => (s.count .CSX_ECC_UNCORR_COUNT 1, false)

/-- CSX_LINK_STAT shows the lanes (R169). -/
def State.showLanes (s : State) (l : CsiLanes) : State :=
  (s.setFld .CSX_LINK_STAT_STOP l.stop.toNat).setFlag .CSX_LINK_STAT_HS l.hs

/-- CSI_FRAME_START (R158 to R161). A frame that is still open on the channel is malformed (R160). -/
def execCsiFrameStart (dt : Nat) (packet : CsiShort) (s : State) : Host.Outcome State Fault Refusal :=
  let s := s.advance dt
  let vc := packet.vc.val
  .next (if s.csiOn then
    let (s1, counts) := (s.showLanes packet.lanes).csiHeader packet.header
    if counts then
      let s2 := (s1.openCams vc).foldl (fun s x => s.malformed x) s1
      ((s2.camsOn vc).foldl (fun s n => s.camStart vc n) s2).showBuffered
    else s1
  else s)

/-- Cuts a list into whole pieces of `n` (`fuel` bounds their number); what is left over is no piece. -/
def pieces (n : Nat) : Nat → List Byte → List (List Byte)
  | 0, _ => []
  | fuel + 1, l => if l.length < n then [] else l.take n :: pieces n fuel (l.drop n)

/-- The samples of a long packet's payload, packed as the MIPI CSI-2 standard packs RAW8, RAW10, RAW12 and RAW14
(PRESUMED, log 20). -/
def unpackRaw (dt : Nat) (payload : List Byte) : List Nat :=
  let at_ (p : List Byte) (i : Nat) : Nat := (p.getD i 0).toNat
  match dt with
  | 0x2A => payload.map (·.toNat)
  | 0x2B => (pieces 5 payload.length payload).flatMap fun p =>
      (List.range 4).map fun i => 4 * at_ p i + at_ p 4 / 4 ^ i % 4
  | 0x2C => (pieces 3 payload.length payload).flatMap fun p =>
      [16 * at_ p 0 + at_ p 2 % 16, 16 * at_ p 1 + at_ p 2 / 16]
  | _ => (pieces 7 payload.length payload).flatMap fun p =>
      (List.range 4).map fun i => 64 * at_ p i + (at_ p 4 + 256 * at_ p 5 + 65536 * at_ p 6) / 64 ^ i % 64

/-- Is a long packet of this channel and data type taken: is the type RAW8 to RAW14, and does an open frame or an enabled
camera have them (R157)? One of a RAW type on a channel that no camera has is not (DESIGN CHOICE, log 32). -/
def State.takesType (s : State) (vc dt : Nat) : Bool :=
  decide (0x2A ≤ dt ∧ dt ≤ 0x2D) && (((s.openCams vc).any fun x => x.dt == dt) || ([1, 2, 3] : List Nat).any fun n =>
    s.flag (.CSX_CAM_CFG_EN (n - 1)) && s.fld (.CSX_CAM_CFG_VC (n - 1)) == vc && s.fld (.CSX_CAM_CFG_DT (n - 1)) == dt)

/-- CSI_LONG_PACKET (R157, R158). -/
def execCsiLongPacket (dt : Nat) (packet : CsiPacket) (s : State) : Host.Outcome State Fault Refusal :=
  let s := s.advance dt
  .next (if s.csiOn then
    let (s1, counts) := (s.showLanes packet.lanes).csiHeader packet.header
    if !counts then s1
    else if !s1.takesType packet.vc.val packet.dataType.toNat then s1.count .CSX_DT_SKIP_COUNT 1
    else
      let s2 := if packet.crcOk then s1 else (s1.count .CSX_CRC_COUNT 1).charge 8 0
      let line : CsiLine := ⟨unpackRaw packet.dataType.toNat packet.payload, packet.crcOk⟩
      s2.modCam (fun x => x.isOpen packet.vc.val && x.dt == packet.dataType.toNat) fun x => { x with lines := x.lines ++ [line] }
  else s)

/-! ## The end of a frame -/

/-- R162: what becomes of a well-formed frame at its frame end: taken for a tick, dropped with a status, or let go. -/
inductive Take where
  | taken (tick : Nat)
  | drop (st : Status)
  | ignore
  deriving DecidableEq, Repr

/-- R162: the conditions, in the order of its table. -/
def State.takeCam (s : State) (x : CamFrame) : Take :=
  match (if s.running then s.tickOfTime x.corrected else none) with
  | none => .ignore
  | some none => .drop .overload
  | some (some f) =>
    if x.later || s.newest.any (fun (g : Frame) => g.tick != f.tick) ||
        5 * f.tmin / 2 < f.camPixels.get (fun _ => 0) x.pipe + x.pixels then .drop .overload
    else if x.held then .drop .clockLoss
    else .taken f.tick

/-- R160: is the frame well formed? -/
def CamFrame.wellFormed (x : CamFrame) : Bool :=
  x.lines.length == x.height && x.lines.all fun l => l.samples.length == x.width

/-- A frame ends (R160, R162). -/
def State.camEnd (s : State) (x : CamFrame) : State :=
  if !x.wellFormed then s.malformed x
  else
    match s.takeCam x with
    | .taken t =>
      (s.modCam (· == x) fun x => { x with tick := some t, complete := true }).modFrame t fun f =>
        { f with camPixels := f.camPixels.modify (fun _ => 0) x.pipe (· + x.pixels) }
    | .drop st => (s.removeCam x).dropCam x.cam st
    | .ignore => s.removeCam x

/-- CSI_FRAME_END (R158 to R160, R162). -/
def execCsiFrameEnd (dt : Nat) (packet : CsiShort) (s : State) : Host.Outcome State Fault Refusal :=
  let s := s.advance dt
  .next (if s.csiOn then
    let (s1, counts) := (s.showLanes packet.lanes).csiHeader packet.header
    if counts then ((s1.openCams packet.vc.val).foldl (fun s x => s.camEnd x) s1).showBuffered else s1
  else s)

/-- CSI_DESKEW_COMPLETE (R169). -/
def execCsiDeskewComplete (dt : Nat) (s : State) : Host.Outcome State Fault Refusal :=
  let s := s.advance dt
  .next (if s.csiOn then s.setFlag .CSX_LINK_STAT_DESKEW true else s)

/-! ## The merge buffer -/

/-- The waiting frame that goes next: of each pipeline the one captured first, lower camera first, once it is complete and
its pipeline is free (R166). -/
def State.mergeNext (s : State) : Option CamFrame :=
  let waiting := sortBy (fun (x : CamFrame) => x.captured.toNat * 4 + x.cam) (s.camFrames.filter (·.buffered))
  waiting.find? fun x => x.complete && (waiting.find? fun y => y.pipe == x.pipe) == some x &&
    !s.camFrames.any fun y => !y.buffered && y.pipe == x.pipe

/-- MERGE_BUFFER_DISPATCH (R166): the waiting frame leaves the buffer for its pipeline. -/
def execMergeBufferDispatch (dt : Nat) (s : State) : Host.Outcome State Fault Refusal :=
  let s := s.advance dt
  .next (match s.mergeNext with
    | some x =>
      if s.gated 1 then s
      else (s.modCam (fun y => y == x) fun y => { y with buffered := false }).showBuffered
    | none => s)

/-! ## Trigger outputs -/

/-- R168: the level of a trigger output outside a pulse: inactive; low in STANDBY, OFF and reset. -/
def State.trigRest (s : State) (k : Nat) : Bool := !(s.standby || !s.alive) && s.flag (.CSX_TO_CFG_POL k)

/-- Every trigger output outside a pulse drives its rest level. -/
def State.settleTrigs (s : State) : State :=
  (List.range 4).foldl (fun s k => if (s.trigOut k).active then s else s.setPin (4 + k) (s.trigRest k)) s

/-- Edge `n` starts the pulses of the outputs in TICK mode (R168). -/
def State.edgeTrigs (s : State) (n : Nat) : State :=
  (List.range 4).foldl (fun s k =>
    if s.fld (.CSX_TO_CFG_MODE k) == 1 && n % (s.fld (.CSX_TO_CFG_DIV k) + 1) == 0 then
      s.queueTrig k (s.fld (.CSX_TO_OFS_VALUE k)) else s) s

/-- Every pulse under way ends, its pin inactive (R168). -/
def State.endTrigs (s : State) : State :=
  ((List.range 4).foldl (fun s k => s.setTrigOut k { s.trigOut k with active := false }) s).settleTrigs

/-- The pulse of output `k` that is to begin now. -/
def State.trigDue (s : State) (k : Nat) : Option TrigPulse := (s.trigOut k).queue.find? fun p => decide (p.at_ ≤ s.clk)

/-- A pulse begins. It never shortens one under way, which it joins (R168; DESIGN CHOICE, log 31). -/
def TrigOut.begin_ (x : TrigOut) (p : TrigPulse) : TrigOut :=
  let queue := x.queue.erase p
  if x.active then { x with queue := queue, until_ := max x.until_ p.until_ }
  else { queue := queue, active := true, level := p.level, until_ := p.until_ }

/-- TRIG_OUT_ACTIVE (R168). -/
def execTrigOutActive (dt : Nat) (k : Fin 4) (s : State) : Host.Outcome State Fault Refusal :=
  let s := s.advance dt
  .next (match s.trigDue k.val with
    | some p =>
      if !s.alive || s.standby || !s.tbRuns then s
      else (s.trigOut k.val).begin_ p |> fun x => (s.setTrigOut k.val x).setPin (4 + k.val) x.level
    | none => s)

/-- TRIG_OUT_INACTIVE (R168). -/
def execTrigOutInactive (dt : Nat) (k : Fin 4) (s : State) : Host.Outcome State Fault Refusal :=
  let s := s.advance dt
  let x := s.trigOut k.val
  .next (if x.active && s.tbRuns && x.until_ ≤ s.clk then
    (s.setTrigOut k.val { x with active := false }).setPin (4 + k.val) (s.trigRest k.val)
  else s)

end Sys2Proof.Machine
end

