-- ==== Sys2Proof/Machine/Image.lean ====
section
/-! DEFINITION. The image pipeline from samples to machine-vision values: neighbourhoods, the seven stages, HDR2 fusion
and the background model (R171 to R195). One `Job` is one tap of one camera's frame. -/

namespace Sys2Proof.Machine

/-! ## Pixels -/

/-- The band that holds a position. -/
def bandOf (b : Bands) (x : Int) : Option Nat := b.findIdx? fun r => decide (r.1 ≤ x) && decide (x < r.1 + (r.2 : Int))

/-- Are two positions in one band, or in two bands that touch (R176)? -/
def bandsNear (b : Bands) (x y : Int) : Bool :=
  match bandOf b x, bandOf b y with
  | some i, some j =>
    i == j || (max i j == min i j + 1 && (b[min i j]?).any fun r => (b[max i j]?).any fun q => r.1 + (r.2 : Int) == q.1)
  | _, _ => false

/-- A pixel, or a binned pixel. -/
structure Pix where
  row : Int
  col : Int
  deriving DecidableEq, Repr

/-- The number of a pixel within a camera's image; dark rows precede row 0 (R138). -/
def pixKey (p : Pix) : Nat := (p.row + 12).toNat * 8192 + p.col.toNat

/-- The shape of camera 0's frame (R138, R144, R92). -/
def State.ownShape (v : State) : Shape :=
  let u : Nat := if v.binned then 2 else 1
  let dark (f : Fld) (first : Int) : Bands := if v.mode = serviceMode && v.flag f then [(first / u, 12 / u)] else []
  { rows := dark .RO_SVC_DARK_TOP (-12) ++ v.rowBands.map (fun b => (((b.1 / u : Nat) : Int), b.2 / u)) ++
      dark .RO_SVC_DARK_BOT 1536
    cols := v.colBands.map fun b => (((64 * b.1 / u : Nat) : Int), 64 * b.2 / u)
    binned := v.binned, colour := !Config.mono, active := 1536 / u }

/-- The shape of a companion camera's frame. -/
def State.camShape (v : State) (n : Nat) : Shape :=
  { rows := [(0, v.fld (.CSX_CAM_SIZE_HEIGHT (n - 1)))], cols := [(0, v.fld (.CSX_CAM_SIZE_WIDTH (n - 1)))],
    binned := false, colour := false, active := v.fld (.CSX_CAM_SIZE_HEIGHT (n - 1)) }

/-- The positions of a list of bands. -/
def bandPositions (b : Bands) : List Int := b.flatMap fun r => (List.range r.2).map fun i => r.1 + (i : Nat)

/-- The pixels read, in raster order. -/
def Shape.pixels (g : Shape) : List Pix :=
  (bandPositions g.rows).flatMap fun y => (bandPositions g.cols).map fun x => ⟨y, x⟩

/-- Is a pixel read? -/
def Shape.read (g : Shape) (p : Pix) : Bool := (bandOf g.rows p.row).isSome && (bandOf g.cols p.col).isSome

/-- Is a pixel in a dark row (R144)? -/
def Shape.dark (g : Shape) (p : Pix) : Bool := decide (p.row < 0) || decide ((g.active : Int) ≤ p.row)

/-- The colour bit of a coordinate: bit 1, or bit 0 of a binned one (R83, R92). -/
def Shape.colourBit (g : Shape) (x : Int) : Int := if g.binned then x % 2 else x / 2 % 2

/-- The channel slot of a pixel: 0 G, 1 R, 2 B, 3 N (R125). -/
def Shape.slot (g : Shape) (p : Pix) : Nat :=
  if g.colour then (g.colourBit p.col + 2 * g.colourBit p.row).toNat else 0

/-- The place of a coordinate on its same-colour grid (R176). -/
def Shape.toGrid (g : Shape) (x : Int) : Int :=
  if !g.colour then x else if g.binned then x / 2 else 2 * (x / 4) + x % 2

/-- The coordinate at a place of the grid of colour bit `b`. -/
def Shape.fromGrid (g : Shape) (b x : Int) : Int :=
  if !g.colour then x else if g.binned then 2 * x + b else 4 * (x / 2) + 2 * b + x % 2

/-- The pixel at an offset on the same-colour grid, where it takes part in a neighbourhood of `p` (R176). -/
def Shape.neighbour (g : Shape) (p : Pix) (dx dy : Int) : Option Pix :=
  let q : Pix := ⟨g.fromGrid (g.colourBit p.row) (g.toGrid p.row + dy), g.fromGrid (g.colourBit p.col) (g.toGrid p.col + dx)⟩
  if bandsNear g.rows p.row q.row && bandsNear g.cols p.col q.col then some q else none

/-- The neighbourhood of a pixel out to `r` grid steps, the pixel included. -/
def Shape.neighbours (g : Shape) (p : Pix) (r : Nat) : List Pix :=
  (List.range (2 * r + 1)).flatMap fun j => (List.range (2 * r + 1)).filterMap fun i =>
    g.neighbour p ((i : Int) - r) ((j : Int) - r)

/-! ## Planes -/

/-- A value for each pixel. -/
abbrev Plane := Store Int

/-- The value of a pixel. -/
def planeAt (m : Plane) (p : Pix) : Int := m.get (fun _ => 0) (pixKey p)

/-- A plane from a function of the pixels read. -/
def Shape.plane (g : Shape) (f : Pix → Int) : Plane :=
  g.pixels.filterMap fun p => if f p = 0 then none else some (pixKey p, f p)

/-- round(n ÷ d), where round(x) = floor(x + 1/2) (R175). -/
def roundDiv (n : Int) (d : Nat) : Int := (2 * n + d) / (2 * d : Nat)

/-- The floor of the mean of a list. -/
def floorMean (l : List Int) : Int := l.sum / (l.length : Int)

/-- R175: the limits of a working value. -/
def clampW (w : Int) : Int := max (-131072) (min 131071 w)

/-- The limits of an unsigned 16-bit value. -/
def clamp16 (w : Int) : Nat := (max 0 (min 65535 w)).toNat

/-! ## A job -/

/-- One tap of one camera's frame on its way through the pipeline. `v` holds the settings of the frame. -/
structure Job where
  v : State
  cam : Nat
  /-- The tap read, and the tap whose settings it had. -/
  tap : Nat
  settings : Nat
  depth : Nat
  shape : Shape
  /-- The sample of a pixel; none where it is invalid. -/
  sample : Pix → Option Nat
  /-- The code or datum of a pixel as it came, valid or not, which a raw output carries (R197). -/
  raw : Pix → Nat
  /-- The working value of a sample (R173, R174). -/
  working : Pix → Nat → Int
  /-- The pixels that the defect map and the drift list in force list for the tap. -/
  defects : List Nat

/-- A control bit of the camera. -/
def Job.on (j : Job) (f : Nat → Fld) : Bool := j.v.flag (f j.cam)

/-- Bytes of an active table of the frame. -/
def Job.table (j : Job) (table off n : Nat) : List Byte :=
  let key := tableKey table j.cam
  j.v.tableBytes key (j.v.activeBank key) off n

/-- R173, R174: is a pixel absent? -/
def Job.absent (j : Job) (p : Pix) : Bool :=
  (j.sample p).isNone || (j.on .PIPE_CAM_CTRL_DEF_EN && j.defects.contains (pixKey p))

/-- R173: is a pixel saturated? -/
def Job.saturated (j : Job) (p : Pix) : Bool := !j.absent p && j.sample p == some (2 ^ j.depth - 1)

/-- The entries of the active defect map of a camera (R185, R369). -/
def State.defectEntries (v : State) (cam : Nat) : List Nat :=
  let key := tableKey 0x21 cam
  let bank := v.activeBank key
  let n := v.tables.entries.get (fun _ => 0) (key * 2 + bank)
  (List.range n).map fun i => leNat (v.tableBytes key bank (4 * i) 4)

/-- The entries of a defect map in force for a tap, as pixels (R185, R93). -/
def defectPixels (v : State) (cam tap : Nat) (binned : Bool) (drift : List Nat) : List Nat :=
  ((v.defectEntries cam ++ drift).filter fun e => bitOf e (25 + tap)).map fun e =>
    let u := if binned then 2 else 1
    pixKey ⟨((getBits e 24 13 / u : Nat) : Int), ((getBits e 12 0 / u : Nat) : Int)⟩

/-- The job of a tap of camera 0 (R173). -/
def ownJob (v : State) (f : Frame) (settings : Nat) : Job :=
  let tap := chargeTap f.mode f.tick settings
  let code (p : Pix) : Nat := f.codes.get (fun _ => 0) (sampleKey tap p.row p.col.toNat)
  { v := v, cam := 0, tap := tap, settings := settings, depth := v.depth, shape := v.ownShape
    sample := fun p => if code p = 0 then none else some (code p)
    raw := code
    working := fun p c => (4 * (c : Int) - ((f.ob.get (fun _ => (0, false)) (rowKey tap p.row)).1 : Int)) * 2 ^ (14 - v.depth)
    defects := defectPixels v 0 tap v.binned f.drift }

/-- Bits of a sample of a CSI-2 data type (R157). -/
def csiDepth (dataType : Nat) : Nat :=
  if dataType = 0x2A then 8 else if dataType = 0x2B then 10 else if dataType = 0x2C then 12 else 14

/-- The job of a companion camera's frame (R174). -/
def camJob (v : State) (x : CamFrame) : Job :=
  let b := csiDepth (v.fld (.CSX_CAM_CFG_DT (x.cam - 1)))
  { v := v, cam := x.cam, tap := 0, settings := 0, depth := b, shape := v.camShape x.cam
    sample := fun p => match x.lines[p.row.toNat]? with
      | some l => if l.valid then l.samples[p.col.toNat]? else none
      | none => none
    raw := fun p => (x.lines[p.row.toNat]?.bind fun l => l.samples[p.col.toNat]?).getD 0
    working := fun _ d => ((d : Int) - v.fld (.PIPE_CAM_BLACK_BLACK x.cam)) * 2 ^ (16 - b)
    defects := defectPixels v x.cam 0 false [] }

/-! ## Stages 1 and 2 -/

/-- Stage 1: the working values. -/
def Job.stage1 (j : Job) : Plane := j.shape.plane fun p => clampW (j.working p ((j.sample p).getD 0))

/-- Stage 2 (R177), from the stage 1 values. -/
def Job.stage2 (j : Job) (w : Plane) : Plane :=
  let lut := (j.table 0x20 0 64).map (·.toNat)
  let shift := j.v.fld (.PIPE_CAM_NR_SHIFT j.cam)
  let strength : Int := j.v.fld (.PIPE_CAM_NR_STRENGTH j.cam)
  j.shape.plane fun p =>
    let w0 := planeAt w p
    if !j.on .PIPE_CAM_CTRL_NRS_EN || j.absent p then w0
    else
      let qs := (j.shape.neighbours p 2).filter fun q => !j.absent q
      let a (q : Pix) : Nat := if q = p then lut.getD 0 0 else lut.getD (min 63 ((planeAt w q - w0).natAbs / 2 ^ shift)) 0
      let sumA := (qs.map a).sum
      let sumAw := (qs.map fun q => (a q : Int) * planeAt w q).sum
      if sumA = 0 then w0
      else clampW (roundDiv (256 * sumA * w0 + strength * (sumAw - sumA * w0)) (256 * sumA))

/-! ## The background model and stage 3 -/

/-- The model cell of a pixel (R178); a dark row has none. -/
def Shape.cell (g : Shape) (p : Pix) : Option Nat :=
  let u := if g.binned then 4 else 8
  if g.dark p then none else some ((p.row / u).toNat * 1024 + (p.col / u).toNat)

/-- The number of a cell of a tap. -/
def cellKey (cam tap cell : Nat) : Nat := (cam * 4 + tap) * 2 ^ 20 + cell

/-- The number of a cell and slot of a tap. -/
def modelKey (cam tap cell slot : Nat) : Nat := cellKey cam tap cell * 4 + slot

/-- The model value of a pixel: 0 for a dark row (R178, R180). -/
def Job.model (j : Job) (value : Store Nat) (p : Pix) : Int :=
  match j.shape.cell p with
  | some c => ((value.get (fun _ => 0) (modelKey j.cam j.tap c (j.shape.slot p)) : Nat) : Int)
  | none => 0

/-- THR of a slot (R179). -/
def Job.threshold (j : Job) (slot : Nat) : Nat :=
  j.v.fld (match slot with
    | 0 => .PIPE_CAM_TTHR01_THR_LO j.cam
    | 1 => .PIPE_CAM_TTHR01_THR_HI j.cam
    | 2 => .PIPE_CAM_TTHR23_THR_LO j.cam
    | _ => .PIPE_CAM_TTHR23_THR_HI j.cam)

/-- R179: is a pixel a background pixel, by the stage 2 values and the model? In a frame that resets the model, none
is (R182). -/
def Job.background (j : Job) (reset : Bool) (value : Store Nat) (w : Plane) (p : Pix) : Bool :=
  !reset && !j.shape.dark p && !j.absent p &&
    (j.shape.neighbours p 1).all fun q =>
      j.shape.dark q || j.absent q ||
        (planeAt w q - j.model value q).natAbs ≤ j.threshold (j.shape.slot q)

/-- Stage 3 (R179), from the stage 2 values. -/
def Job.stage3 (j : Job) (reset : Bool) (value : Store Nat) (w : Plane) : Plane :=
  let alpha : Int := j.v.fld (.PIPE_CAM_TNR_ALPHA j.cam)
  j.shape.plane fun p =>
    let x := planeAt w p
    if j.on .PIPE_CAM_CTRL_NRT_EN && j.background reset value w p then
      clampW (roundDiv (256 * x + alpha * (j.model value p - x)) 256)
    else x

/-- The pixels of each cell that was read. -/
def Job.cells (j : Job) : Store (List Pix) :=
  j.shape.pixels.foldl (fun m p => match j.shape.cell p with
    | some c => m.modify (fun _ => []) c (· ++ [p])
    | none => m) []

/-- A cell takes the means of the stage 2 values of its non-absent pixels (R182). -/
def Job.resetCell (j : Job) (w : Plane) (cell : Nat × List Pix) (value : Store Nat) : Store Nat :=
  (List.range 4).foldl (fun m s =>
    let l := (cell.2.filter fun p => !j.absent p && j.shape.slot p == s).map (planeAt w)
    if l.isEmpty then m else m.set (fun _ => 0) (modelKey j.cam j.tap cell.1 s) (clamp16 (floorMean l))) value

/-- R182: the model of the tap is reset. -/
def Job.resetModel (j : Job) (w : Plane) (value : Store Nat) : Store Nat :=
  j.cells.foldl (fun m c => j.resetCell w c m) value

/-- R180: a cell without a foreground pixel moves towards its background. -/
def Job.updateCell (j : Job) (value : Store Nat) (w : Plane) (cell : Nat × List Pix) (m : Store Nat) : Store Nat :=
  let beta : Int := j.v.fld (.PIPE_CAM_TNR_BETA j.cam)
  (List.range 4).foldl (fun m s =>
    let l := (cell.2.filter fun p => j.shape.slot p == s && j.background false value w p).map (planeAt w)
    if l.isEmpty then m
    else m.modify (fun _ => 0) (modelKey j.cam j.tap cell.1 s) fun b =>
      clamp16 (roundDiv (256 * (b : Int) + beta * (floorMean l - b)) 256)) m

/-- R180, R181: one cell of a frame that does not reset the model: its values and its run counter. -/
def Job.cellStep (j : Job) (value : Store Nat) (w : Plane) (b : Background) (cell : Nat × List Pix) : Background :=
  let key := cellKey j.cam j.tap cell.1
  let stuck := j.v.fld (.PIPE_CAM_TNR_STUCK j.cam)
  if cell.2.any fun p => !j.absent p && !j.background false value w p then
    let n := min 65535 (b.run.get (fun _ => 0) key + 1)
    if stuck != 0 && decide (stuck ≤ n) then
      { b with value := j.resetCell w cell b.value, run := b.run.set (fun _ => 0) key 0 }
    else { b with run := b.run.set (fun _ => 0) key n }
  else { b with value := j.updateCell value w cell b.value, run := b.run.set (fun _ => 0) key 0 }

/-- The run counters of a tap read 0 (R182). -/
def clearRuns (cam tap : Nat) (run : Store Nat) : Store Nat := run.filter fun e => e.1 / 2 ^ 20 != cam * 4 + tap

/-- R180 to R182: the model after the frame. -/
def Job.updateModel (j : Job) (reset : Bool) (value : Store Nat) (w : Plane) (b : Background) : Background :=
  if reset then { b with value := j.resetModel w b.value, run := clearRuns j.cam j.tap b.run }
  else if j.on .PIPE_CAM_CTRL_BG_FREEZE then b
  else j.cells.foldl (j.cellStep value w) b

/-! ## Stage 4 -/

/-- The pairs of R184, as grid offsets of their first member. -/
def defectPairs : List (Int × Int) := [(-1, 0), (0, -1), (-1, -1), (1, -1)]

/-- Stage 4 (R184), from the stage 3 values. -/
def Job.stage4 (j : Job) (value : Store Nat) (w : Plane) : Plane :=
  let good (p : Pix) (dx dy : Int) : Option Int :=
    match j.shape.neighbour p dx dy with
    | some q => if j.absent q then none else some (planeAt w q)
    | none => none
  j.shape.plane fun p =>
    if !j.absent p then planeAt w p
    else
      let pairs := defectPairs.filterMap fun d => match good p d.1 d.2, good p (-d.1) (-d.2) with
        | some a, some b => some (a, b)
        | _, _ => none
      match (sortBy (fun (d : Int × Int) => (d.1 - d.2).natAbs) pairs).head? with
      | some (a, b) => (a + b) / 2
      | none =>
        let l := ((j.shape.neighbours p 1).filter fun q => q != p && !j.absent q).map (planeAt w)
        if l.isEmpty then j.model value p else floorMean l

/-- The invalid samples that stage 4 substitutes. -/
def Job.invalid (j : Job) : Nat := (j.shape.pixels.filter fun p => (j.sample p).isNone).length

/-! ## Stage 5 and HDR2 fusion -/

/-- The zone of a pixel (R125). -/
def Shape.zone (g : Shape) (p : Pix) : Nat := (if g.binned then p.col / 256 else p.col / 512).toNat

/-- A 16-bit entry of an active table. -/
def Job.table16 (j : Job) (table i : Nat) : Nat := leNat (j.table table (2 * i) 2)

/-- C of R187 or C_x of R188 for a pixel. -/
def Job.coarse (j : Job) (p : Pix) : Nat :=
  if j.cam = 0 then j.table16 0x23 (64 * j.tap + 16 * j.shape.slot p + j.shape.zone p) else j.table16 0x24 p.col.toNat

/-- The fine gain g of a pixel (R187). -/
def Job.fine (j : Job) (p : Pix) : Nat :=
  let at_ (y x : Int) : Nat := leNat (j.table 0x22 (y.toNat * 8192 + x.toNat) 1)
  if j.shape.binned then
    (at_ (2 * p.row) (2 * p.col) + at_ (2 * p.row) (2 * p.col + 1) + at_ (2 * p.row + 1) (2 * p.col) +
      at_ (2 * p.row + 1) (2 * p.col + 1) + 2) / 4
  else at_ p.row p.col

/-- Stage 5 (R187, R188), from the stage 4 values. -/
def Job.stage5 (j : Job) (w : Plane) : Plane :=
  j.shape.plane fun p =>
    let x := planeAt w p
    if !j.on .PIPE_CAM_CTRL_FF_EN || j.shape.dark p then x
    else if j.cam = 0 then clampW (roundDiv (x * (j.fine p + 384) * j.coarse p) (2 ^ 23))
    else clampW (roundDiv (x * j.coarse p) 16384)

/-- E of R189: the exposure of a tap times its ramp gain factor. -/
def State.exposureOf (v : State) (t : Nat) : Nat :=
  v.fld (.EXP_TAP_DUR_DUR t) * (v.fld (.EXP_TAP_SUB_COUNT t) + 1) * 2 ^ v.gain t

/-- R189: the fused value of one pixel; with E_B at 0 the quotient is the free value `draw` (DESIGN CHOICE, log 24). -/
def fuse (v : State) (draw : Nat) (saturated : Bool) (a b : Int) : Int :=
  let r : Rat := max 1 (if v.exposureOf 1 = 0 then (draw : Rat) else (v.exposureOf 0 : Rat) / v.exposureOf 1)
  let knee : Rat := v.fld (.PIPE_CAM_HDR_KNEE 0)
  let f : Rat :=
    if saturated then b * r
    else if (a : Rat) ≤ knee then a
    else a + min 1 (((a : Rat) - knee) / (65536 - knee)) * (b * r - a)
  (f / 2 ^ v.fld (.PIPE_CAM_HDR_SHIFT 0)).floor

/-- R189: F in place of tap A. -/
def Job.fused (a : Job) (draw : Nat) (wa wb : Plane) : Plane :=
  a.shape.plane fun p => clampW (fuse a.v draw (a.saturated p) (planeAt wa p) (planeAt wb p))

/-! ## Stages 6 and 7 -/

/-- The pixels of the block that starts at the place of `p` within its block (R190): the sum of their values. -/
def blockSum (u : Nat) (w : Plane) (p : Pix) : Int :=
  let y := p.row / u * u
  let x := p.col / u * u
  ((List.range u).flatMap fun i => (List.range u).map fun k => planeAt w ⟨y + (i : Nat), x + (k : Nat)⟩).sum

/-- The offsets, in blocks, of the candidates for channel `c` at a pixel of slot `own` (R190). -/
def candidates (own c : Nat) : List (Int × Int) :=
  let bx := own % 2 != c % 2
  let by_ := own / 2 != c / 2
  if bx && by_ then [(-1, -1), (1, -1), (-1, 1), (1, 1)] else if bx then [(-1, 0), (1, 0)] else [(0, -1), (0, 1)]

/-- R190: channel `c` of a pixel that has another colour. -/
def Job.missing (j : Job) (lut : List Nat) (w : Plane) (p : Pix) (c : Nat) : Int :=
  let u : Nat := if j.shape.binned then 1 else 2
  let move (d : Int × Int) (n : Int) : Pix := ⟨p.row + n * d.2 * u, p.col + n * d.1 * u⟩
  let ks := (candidates (j.shape.slot p) c).filter fun d => j.shape.read (move d 1)
  let a (d : Int × Int) : Nat :=
    let g := if j.shape.read (move d 2) then (blockSum u w p - blockSum u w (move d 2)).natAbs else 0
    lut.getD (min 63 (g / (u * u * 2 ^ j.v.fld (.PIPE_CAM_DM_SHIFT j.cam)))) 0
  let sumA := (ks.map a).sum
  if sumA = 0 then floorMean (ks.map fun d => planeAt w (move d 1))
  else roundDiv ((ks.map fun d => (a d : Int) * planeAt w (move d 1)).sum) sumA

/-- Stage 6 (R190, R191): the planes of the slots carried. -/
def Job.stage6 (j : Job) (w : Plane) : List Plane :=
  if !j.shape.colour then [w]
  else
    let lut := (j.table 0x20 64 64).map (·.toNat)
    (List.range 4).map fun c => j.shape.plane fun p =>
      if j.shape.slot p = c then planeAt w p
      else if j.on .PIPE_CAM_CTRL_DM_EN then clampW (j.missing lut w p c)
      else 0

/-- Coefficient M[k] (R192). -/
def Job.coefficient (j : Job) (k : Nat) : Int :=
  signed 16 (j.v.fld (if k % 2 = 0 then .PIPE_CAM_CCM_M_LO j.cam (k / 2) else .PIPE_CAM_CCM_M_HI j.cam (k / 2)))

/-- OFS of a slot (R192). -/
def Job.offsetOf (j : Job) (i : Nat) : Int :=
  signed 16 (j.v.fld (match i with
    | 0 => .PIPE_CAM_CCO01_OFS_LO j.cam
    | 1 => .PIPE_CAM_CCO01_OFS_HI j.cam
    | 2 => .PIPE_CAM_CCO23_OFS_LO j.cam
    | _ => .PIPE_CAM_CCO23_OFS_HI j.cam))

/-- Stage 7 on the values of the slots carried (R192). -/
def Job.matrix (j : Job) (x : List Int) : List Int :=
  if j.on .PIPE_CAM_CTRL_CCM_EN then
    (List.range x.length).map fun i =>
      clampW (roundDiv ((x.zipIdx.map fun e => j.coefficient (4 * i + e.2) * e.1).sum) 4096 + j.offsetOf i)
  else x

/-- R205: is the pixel in a column of a lost slice role? -/
def Job.lostSlice (j : Job) (f : Frame) (p : Pix) : Bool :=
  j.cam == 0 && f.roleLost 4 ((if j.shape.binned then p.col / 512 else p.col / 1024).toNat)

/-- Stage 7 and R205: the output planes. -/
def Job.stage7 (j : Job) (f : Frame) (ws : List Plane) : List Plane :=
  (List.range ws.length).map fun i => j.shape.plane fun p =>
    if j.lostSlice f p then 0 else (j.matrix (ws.map fun w => planeAt w p)).getD i 0

/-- R195: the machine-vision value of an output. -/
def mvValue (out : Int) : Nat := clamp16 out / 16

/-! ## A whole tap -/

/-- What the stages leave of a tap. -/
structure Developed where
  job : Job
  /-- The model was reset from this frame; the model values of the frame. -/
  reset : Bool
  model : Store Nat
  w1 : Plane
  w2 : Plane
  w5 : Plane
  /-- The slots after stage 7. -/
  out : List Plane

/-- Stages 1 to 5 of a tap; `out` is still to come. -/
def Job.develop (j : Job) (reset : Bool) (model : Store Nat) : Developed :=
  let w1 := j.stage1
  let w2 := j.stage2 w1
  let value := if reset then j.resetModel w2 model else model
  { job := j, reset := reset, model := value, w1 := w1, w2 := w2,
    w5 := j.stage5 (j.stage4 value (j.stage3 reset value w2)), out := [] }

/-- Stages 6 and 7. -/
def Developed.finish (d : Developed) (f : Frame) : Developed :=
  { d with out := d.job.stage7 f (d.job.stage6 d.w5) }

/-- R189: in HDR2 tap A of camera 0 continues with F. -/
def fuseTaps (hdr : Bool) (draw : Nat) : List Developed → List Developed
  | [a, b] => if hdr then [{ a with w5 := a.job.fused draw a.w5 b.w5 }, b] else [a, b]
  | l => l

end Sys2Proof.Machine
end

