-- ==== Sys2Proof/Machine/Outputs.lean ====
section
/-! DEFINITION. What a pipeline hands over: the display, coding and machine-vision outputs (R196 to R202) and the
statistics of camera 0 (R123 to R127, R381, R382). -/

namespace Sys2Proof.Machine

/-! ## Placement of frame outputs -/

/-- A frame output: its stream kind, camera, header and payload (R201). -/
structure Output where
  kind : Nat
  cam : Nat
  header : List Byte
  payload : List Byte

/-- The claims of a ring for frames before `tick`, which brought no output, are given up. -/
def State.passClaims (s : State) (n tick : Nat) : State :=
  s.setClaims n ((s.ring n).claims.filter fun c => c.2 || decide (tick ≤ c.1))

/-- The claims of a ring without one for the frame of `tick`. -/
def State.withoutClaim (s : State) (n tick : Nat) : List (Nat × Bool) := (s.ring n).claims.erase (tick, false)

/-- The oldest fetched buffer of a ring takes bytes of the frame of `tick` and completes (R344). -/
def State.fillBuf (s : State) (n : Nat) (bytes : List Byte) (tick : Nat) (tag : Word) (st : Status) : State :=
  match (s.ring n).bufs with
  | [] => s
  | b :: rest =>
    let b' := { b with used := bytes.length, items := 1, firstAt := s.now, lastTick := tick, lastTag := tag }
    let claims := s.withoutClaim n tick
    let s1 := (s.postMem b.addr bytes).setRing n { s.ring n with bufs := b' :: rest }
    (s1.closeBuf n st bytes.length).setClaims n claims

/-- R202, R344: an output goes into the oldest fetched buffer of its ring, whose completion carries the frame's tick;
a buffer too small takes the header only, whose STATUS stays OK (DESIGN CHOICE, log 31). -/
def State.placeOutput (s : State) (n : Nat) (o : Output) (tick : Nat) (tag : Word) : State :=
  let (full, s) := s.drayFull false
  let s := s.passClaims n tick
  match (s.ring n).bufs with
  | [] => s.count (.RING_DROP_DROP n) 1
  | b :: _ =>
    if full || (s.fn 0).d3hot then (s.count (.RING_DROP_DROP n) 1).setClaims n (s.withoutClaim n tick)
    else if 64 + o.payload.length ≤ b.len then s.fillBuf n (o.header ++ o.payload) tick tag .ok
    else (s.fillBuf n o.header tick tag .badDescriptor).count .PIPE_SHORT_BUF_COUNT 1

/-- A frame output is handed to the Drays and to the archive, where it is a block of its own (R344, R346, R360). -/
def State.handOutput (s : State) (o : Output) (tick : Nat) (tag : Word) : State :=
  let (evts, s1) :=
    if s.flag .RING_ARCH_CFG_EN && bitOf (s.fld .RING_ARCH_CFG_STREAMS) o.kind then
      s.writeBlock o.kind o.cam 1 (o.header ++ o.payload)
    else ([], s)
  let s2 := s1.eventsN 4 evts
  match s2.streamRing o.kind o.cam with
  | some n => s2.placeOutput n o tick tag
  | none => s2.count .HIF_NORING_DROP_DROP 1

/-! ## The header -/

/-- What the header of R201 says of a frame beside its size. -/
structure OutputInfo where
  frame : Frame
  cam : Nat
  tap : Nat
  time : Time
  flags : Nat
  colMask : Nat

/-- The 64 bytes of a header (R201). `kind` is its KIND. -/
def OutputInfo.headerOf (i : OutputInfo) (st : Status) (kind width height row0 stride payload : Nat) : List Byte :=
  leBytes 1 kind ++ leBytes 1 st.code ++ leBytes 1 i.cam ++ leBytes 1 i.tap ++ leBytes 4 i.flags ++
    leBytes 8 (i.frame.tick % 2 ^ 48) ++ leBytes 8 i.time.toNat ++ leBytes 4 i.frame.gen ++
    leBytes 4 i.frame.tag.toNat ++ leBytes 2 width ++ leBytes 2 height ++ leBytes 2 row0 ++ leBytes 2 0 ++
    leBytes 4 stride ++ leBytes 4 payload ++ leBytes 16 i.colMask

/-- The header of a complete output (R201). -/
def OutputInfo.header (i : OutputInfo) (kind width height row0 stride payload : Nat) : List Byte :=
  i.headerOf .ok kind width height row0 stride payload

/-- Is a 64-column group with columns read lost to the Axle in the frame (R150, R154)? -/
def axleLost (v : State) (f : Frame) : Bool := v.groups64.any (f.groupLost v.depth)

/-- The flags of an output of a job (R201): a background reset, samples substituted and HDR2 fusion are its own. -/
def Job.flags (j : Job) (f : Frame) (reset substituted fused : Bool) : Nat :=
  let bits := [reset, f.pixsup, f.suppressed, f.transition, f.mode == serviceMode,
    j.shape.pixels.any (j.lostSlice f), j.cam == 0 && axleLost j.v f, substituted, fused]
  (bits.zipIdx.map fun b => boolNat b.1 * 2 ^ b.2).sum

/-- Bit g is 1 where 64-column group g was read (R201). -/
def colMask (v : State) : Nat := (v.groups64.map fun g => 2 ^ g).sum

/-- What the header says of an output of a job. -/
def Job.info (j : Job) (f : Frame) (time : Time) (flags : Nat) : OutputInfo :=
  { frame := f, cam := j.cam, tap := j.tap, time := time, flags := flags, colMask := if j.cam = 0 then colMask j.v else 0 }

/-- Is the tap's output F (R189)? A raw output of it carries the flag too (DESIGN CHOICE, log 33). -/
def Job.isFused (j : Job) (f : Frame) : Bool := f.mode == 1 && j.cam == 0 && j.tap == 0

/-- What the header says of an output of a developed tap. -/
def Developed.info (d : Developed) (f : Frame) (time : Time) : OutputInfo :=
  d.job.info f time (d.job.flags f d.reset (d.job.invalid != 0) (d.job.isFused f))

/-- Lines laid out at a stride (R201): the stride and the payload. -/
def layLines (lines : List (List Byte)) : Nat × List Byte :=
  let stride := roundUp 64 ((lines.map (·.length)).foldl max 0)
  (stride, lines.flatMap (padTo stride))

/-! ## The packed window -/

/-- The mean over a block of FX × FY packed pixels of a slot (R196). -/
def Developed.block (d : Developed) (slot fx fy x y : Nat) : Nat :=
  let cols := ((bandPositions d.job.shape.cols).drop (x * fx)).take fx
  let rows := ((bandPositions d.job.shape.rows).drop (y * fy)).take fy
  let plane := d.out.getD slot []
  let sum := (rows.flatMap fun r => cols.map fun c => (clamp16 (planeAt plane ⟨r, c⟩) : Int)).sum
  (roundDiv sum (fx * fy)).toNat

/-- The packed width and height. -/
def Shape.packed (g : Shape) : Nat × Nat := ((g.cols.map (·.2)).sum, (g.rows.map (·.2)).sum)

/-! ## sRGB -/

/-- The greatest r of at most `bits` bits with r^n ≤ k. -/
def rootFloor (n k : Nat) : Nat → Nat → Nat
  | 0, acc => acc
  | bits + 1, acc => rootFloor n k bits (if (acc + 2 ^ bits) ^ n ≤ k then acc + 2 ^ bits else acc)

/-- V of R198 for a value on the 16-bit scale, as floor(2^60 × V) (log 21). -/
def srgb (value : Nat) : Nat :=
  if 10000000 * value ≤ 31308 * 65535 then 1292 * value * 2 ^ 60 / (100 * 65535)
  else (1055 * rootFloor 12 (value ^ 5 * 2 ^ 720 / 65535 ^ 5) 61 0 - 55 * 2 ^ 60) / 1000

/-- A code within ±1 of `x`, from 0 to `top` (log 21). -/
def nearCode (draw i : Nat) (x : Int) (top : Nat) : Nat :=
  (max 0 (min (top : Int) (x + (Config.codeError draw i).val - 1))).toNat

/-- The slots of R, G and B (R198). -/
def Developed.rgbSlots (d : Developed) : List Nat := if d.out.length = 4 then [1, 0, 2] else [0, 0, 0]

/-- The three values V of a block, R first. -/
def Developed.rgb (d : Developed) (fx fy x y : Nat) : List Nat := d.rgbSlots.map fun s => srgb (d.block s fx fy x y)

/-! ## The display stream -/

/-- FX and W of a display output, and FY and H (R196, R198). -/
def Job.displaySize (j : Job) : (Nat × Nat) × (Nat × Nat) :=
  let fx := j.v.fld (.PIPE_CAM_DSP_FXM1 j.cam) + 1
  let fy := j.v.fld (.PIPE_CAM_DSP_FYM1 j.cam) + 1
  ((fx, j.shape.packed.1 / fx), (fy, j.shape.packed.2 / fy))

/-- The payload of a display output: W and H, and its lines (R198). -/
def Developed.display (d : Developed) (draw : Nat) : Nat × Nat × List (List Byte) :=
  let ((fx, w), (fy, h)) := d.job.displaySize
  (w, h, (List.range h).map fun y => (List.range w).flatMap fun x =>
    (d.rgb fx fy x y).zipIdx.map fun e =>
      BitVec.ofNat 8 (nearCode draw (3 * (y * w + x) + e.2) (roundDiv (255 * (e.1 : Int)) (2 ^ 60)) 255))

/-- R200: does the 60-per-second limit admit a frame of a camera to the display stream? -/
def State.displayDue (s : State) (cam : Nat) (time : Time) : Bool :=
  match s.dspLast.get (fun _ => none) cam with
  | some t => decide (16666667 ≤ timeDiff time t)
  | none => true

/-- The tap that a DSP or COD register selects; the tap read in STRIP and on companions (R198). -/
def pickTap (f : Frame) (cam sel : Nat) (ds : List Developed) : Option Developed :=
  if f.mode = 4 ∨ cam ≠ 0 then ds.head? else ds.find? fun d => d.job.tap == sel

/-- R198, R200: the display output of a frame. -/
def State.handDisplay (s : State) (f : Frame) (cam : Nat) (time : Time) (v : State) (ds : List Developed) : State :=
  if v.flag (.PIPE_CAM_DSP_EN cam) && f.tick % (v.fld (.PIPE_CAM_DSP_DECIM cam) + 1) == 0 then
    if !s.displayDue cam time then s.count .PIPE_DSP_SKIP_COUNT 1
    else match pickTap f cam (v.fld (.PIPE_CAM_DSP_TAP cam)) ds with
      | none => s
      | some d =>
        let (draw, s1) := s.free
        let (w, h, lines) := d.display draw
        let (stride, payload) := layLines lines
        let o : Output := ⟨2, cam, (d.info f time).header 0 w h 0 stride payload.length, payload⟩
        { s1 with dspLast := s1.dspLast.set (fun _ => none) cam (some time) }.handOutput o f.tick f.tag
  else s

/-! ## The coding stream -/

/-- A 10-bit sample in bits [15:6] of a word. -/
def codingWord (x : Nat) : List Byte := leBytes 2 (64 * x)

/-- Y_l of R199 for values V, with 2^60 × 10,000 as 1. -/
def lumaOf (rgb : List Nat) : Int := 2126 * rgb.getD 0 0 + 7152 * rgb.getD 1 0 + 722 * rgb.getD 2 0

/-- The rounded values Y, Cb and Cr of R199. -/
def codingY (rgb : List Nat) : Int := 64 + roundDiv (876 * lumaOf rgb) (10000 * 2 ^ 60)
def codingCb (rgb : List Nat) : Int := 512 + roundDiv (896 * (10000 * (rgb.getD 2 0 : Int) - lumaOf rgb)) (18556 * 2 ^ 60)
def codingCr (rgb : List Nat) : Int := 512 + roundDiv (896 * (10000 * (rgb.getD 0 0 : Int) - lumaOf rgb)) (15748 * 2 ^ 60)

/-- FX and W of a coding output, and FY and H, W and H even (R196, R199). -/
def Job.codingSize (j : Job) : (Nat × Nat) × (Nat × Nat) :=
  let fx := j.v.fld (.PIPE_CAM_COD_FXM1 j.cam) + 1
  let fy := j.v.fld (.PIPE_CAM_COD_FYM1 j.cam) + 1
  ((fx, j.shape.packed.1 / fx / 2 * 2), (fy, j.shape.packed.2 / fy / 2 * 2))

/-- The payload of a coding output: W and H, and its lines, luma first (R199). -/
def Developed.coding (d : Developed) (draw : Nat) : Nat × Nat × List (List Byte) :=
  let ((fx, w), (fy, h)) := d.job.codingSize
  let luma := (List.range h).map fun y => (List.range w).flatMap fun x =>
    codingWord (nearCode draw (y * w + x) (codingY (d.rgb fx fy x y)) 1023)
  let chroma := (List.range (h / 2)).map fun y => (List.range (w / 2)).flatMap fun x =>
    let c := d.rgb (2 * fx) (2 * fy) x y
    let i := h * w + 2 * (y * (w / 2) + x)
    codingWord (nearCode draw i (codingCb c) 1023) ++ codingWord (nearCode draw (i + 1) (codingCr c) 1023)
  (w, h, luma ++ chroma)

/-- R199, R200: the coding output of a frame. -/
def State.handCoding (s : State) (f : Frame) (cam : Nat) (time : Time) (v : State) (ds : List Developed) : State :=
  if v.flag (.PIPE_CAM_COD_EN cam) && f.tick % (v.fld (.PIPE_CAM_COD_DECIM cam) + 1) == 0 then
    match pickTap f cam (v.fld (.PIPE_CAM_COD_TAP cam)) ds with
    | none => s
    | some d =>
      let (draw, s1) := s.free
      let (w, _, lines) := d.coding draw
      let (stride, payload) := layLines lines
      let o : Output := ⟨3, cam, (d.info f time).header 1 w lines.length 0 stride payload.length, payload⟩
      s1.handOutput o f.tick f.tag
  else s

/-! ## The machine-vision stream -/

/-- A line of a machine-vision output (R197, R205). -/
def Developed.mvLine (d : Developed) (f : Frame) (raw : Bool) (row : Int) : List Byte :=
  (bandPositions d.job.shape.cols).flatMap fun c =>
    let p : Pix := ⟨row, c⟩
    if raw then leBytes 2 (if d.job.lostSlice f p then 0 else d.job.raw p)
    else d.out.flatMap fun w => leBytes 2 (mvValue (planeAt w p))

/-- R197: the machine-vision outputs of a frame. -/
def State.handMv (s : State) (f : Frame) (cam : Nat) (time : Time) (v : State) (ds : List Developed) : State :=
  if v.flag (.PIPE_CAM_MV_EN cam) && f.tick % (v.fld (.PIPE_CAM_MV_DECIM cam) + 1) == 0 then
    ds.foldl (fun s d =>
      let row0 := v.fld (.PIPE_CAM_MV_ROWS_ROW0 cam)
      let height := v.fld (.PIPE_CAM_MV_ROWS_HEIGHT cam)
      let rest := (bandPositions d.job.shape.rows).drop row0
      let rows := if height = 0 then rest else rest.take height
      if rows.isEmpty || !bitOf (v.fld (.PIPE_CAM_MV_TAPS cam)) d.job.tap then s
      else
        let raw := v.flag (.PIPE_CAM_MV_SRC cam)
        let (stride, payload) := layLines (rows.map (d.mvLine f raw))
        let h := (d.info f time).header (if raw then 3 else 2) d.job.shape.packed.1 rows.length row0 stride
          payload.length
        s.handOutput ⟨4, cam, h, payload⟩ f.tick f.tag) s
  else s

/-- The outputs of a camera's frame. -/
def State.handOutputs (s : State) (f : Frame) (cam : Nat) (time : Time) (v : State) (ds : List Developed) : State :=
  ((s.handDisplay f cam time v ds).handCoding f cam time v ds).handMv f cam time v ds

/-! ## Claimed buffers -/

/-- The outputs that a frame of tick `n` has on a frame stream (2 DISP, 3 CODE, 4 MV) of a camera under the settings in force:
none where the stream is off, or its camera (R164, R197 to R200). -/
def State.outputsOf (s : State) (kind cam n : Nat) : Nat :=
  let due (en : Bool) (decim : Nat) : Bool := en && n % (decim + 1) == 0
  if cam != 0 && !s.flag (.CSX_CAM_CFG_EN (cam - 1)) then 0
  else if kind = 2 then boolNat (due (s.flag (.PIPE_CAM_DSP_EN cam)) (s.fld (.PIPE_CAM_DSP_DECIM cam)))
  else if kind = 3 then boolNat (due (s.flag (.PIPE_CAM_COD_EN cam)) (s.fld (.PIPE_CAM_COD_DECIM cam)))
  else if due (s.flag (.PIPE_CAM_MV_EN cam)) (s.fld (.PIPE_CAM_MV_DECIM cam)) then
    ((if cam = 0 then s.taps else [0]).filter fun t => bitOf (s.fld (.PIPE_CAM_MV_TAPS cam)) t).length
  else 0

/-- Is the stream of a camera on? -/
def State.streamOn (s : State) (kind cam : Nat) : Bool :=
  (cam == 0 || s.flag (.CSX_CAM_CFG_EN (cam - 1))) &&
    s.flag (if kind = 2 then .PIPE_CAM_DSP_EN cam else if kind = 3 then .PIPE_CAM_COD_EN cam else .PIPE_CAM_MV_EN cam)

/-- Claims buffers for the outputs of the frame of `tick` that has none yet, as far as fetched buffers are free. -/
def State.claimFrame (s : State) (n tick : Nat) : State :=
  let r := s.ring n
  let want := s.outputsOf (s.fld (.RING_CFG_STREAM n)) (s.fld (.RING_CFG_CAM n)) tick
  if r.claims.any fun c => c.1 == tick then s
  else s.setRing n { r with
    claims := r.claims ++ List.replicate (min want (r.bufs.length - r.claims.length)) (tick, false) }

/-- May a frame of a camera still bring an output of tick `n`: it is to come, or it has not been processed? -/
def State.outputAhead (s : State) (cam n : Nat) : Bool :=
  decide (s.lastTick < n) ||
    if cam = 0 then s.frames.any fun f => f.tick == n && !f.piped.contains 0
    else s.newest.any (fun f => f.tick == n) || s.camFrames.any fun x => x.cam == cam && x.tick == some n

/-- The claims for frames that brought no output are given up, and what waited behind them completes (R164, R202). -/
def State.dropClaims (s : State) : State :=
  (List.range 32).foldl (fun s n =>
    if (s.ring n).claims.isEmpty then s
    else s.setClaims n ((s.ring n).claims.filter fun c => c.2 || s.outputAhead (s.fld (.RING_CFG_CAM n)) c.1)) s

/-- R164, R202: at edge `tick` the frame streams claim buffers for the outputs of that frame and of the next; the claims of a
stream that is off, of that frame and later, complete with FLUSHED. When a buffer is claimed is the model's choice
(log 31). -/
def State.claimOutputs (s : State) (tick : Nat) : State :=
  (List.range 32).foldl (fun s n =>
    let kind := s.fld (.RING_CFG_STREAM n)
    if s.ringOn n && s.ringKind n == 1 && 2 ≤ kind && kind ≤ 4 then
      if s.streamOn kind (s.fld (.RING_CFG_CAM n)) then (s.claimFrame n tick).claimFrame n (tick + 1)
      else s.setClaims n ((s.ring n).claims.map fun c => (c.1, c.2 || decide (tick ≤ c.1)))
    else s) s.dropClaims

/-- The header of an output that a lost frame would have had on a stream (R201, R202). It counts no lines and no payload, of
which there are none (log 31). -/
def Job.lostHeader (j : Job) (f : Frame) (time : Time) (kind : Nat) : List Byte :=
  let head := (j.info f time (j.flags f false false (j.isFused f))).headerOf .clockLoss
  let raw := j.on .PIPE_CAM_MV_SRC
  let width := j.shape.packed.1
  if kind = 2 then head 0 j.displaySize.1.2 0 0 (roundUp 64 (3 * j.displaySize.1.2)) 0
  else if kind = 3 then head 1 j.codingSize.1.2 0 0 (roundUp 64 (2 * j.codingSize.1.2)) 0
  else head (if raw then 3 else 2) width 0 (j.v.fld (.PIPE_CAM_MV_ROWS_ROW0 j.cam))
    (roundUp 64 (2 * (if raw || !j.shape.colour then 1 else 4) * width)) 0

/-- The jobs of a frame whose outputs a stream carries (R197 to R199). -/
def streamJobs (f : Frame) (kind : Nat) (js : List Job) : List Job :=
  js.filter fun j =>
    if kind = 4 then bitOf (j.v.fld (.PIPE_CAM_MV_TAPS j.cam)) j.tap
    else f.mode == 4 || j.cam != 0 || j.tap == j.v.fld (if kind = 2 then .PIPE_CAM_DSP_TAP j.cam else .PIPE_CAM_COD_TAP j.cam)

/-- R202: buffers claimed for a frame marked CLOCK_LOSS complete with that status and carry the header only; in D3hot nothing is
written, and they carry none (R327). -/
def State.loseOutputs (s : State) (f : Frame) (js : List Job) (time : Time) : State :=
  [2, 3, 4].foldl (fun s kind => match s.streamRing kind ((js.map (·.cam)).headD 0) with
    | none => s
    | some n =>
      let t := s.passClaims n f.tick
      ((streamJobs f kind js).take (((t.ring n).claims.filter fun c => c == (f.tick, false)).length)).foldl (fun s j =>
        s.fillBuf n (if (s.fn 0).d3hot then [] else j.lostHeader f time kind) f.tick f.tag .clockLoss) t) s

/-! ## Statistics -/

/-- v of R123 for a pixel; an invalid sample has code 0 (log 22). -/
def Job.statValue (j : Job) (p : Pix) : Nat := (j.sample p).getD 0 * 2 ^ (16 - j.depth)

/-- The optical-black level of a tap (R124). -/
def obLevel (v : State) (f : Frame) (tap : Nat) : Nat :=
  let rows := if v.binned then v.binnedRows else v.rows
  let sum := (rows.map fun r => (f.ob.get (fun _ => (0, false)) (rowKey tap r)).1).sum
  if rows.isEmpty then 0 else sum * 2 ^ (14 - v.depth) / rows.length

/-- The statistics of a tap of camera 0 (R124, R125, R183). Zones hold no dark row; a mean of the
background model beyond 16 bits saturates (DESIGN CHOICE, log 33). -/
def Developed.stat (d : Developed) (f : Frame) : TapStat :=
  let j := d.job
  let ps := j.shape.pixels
  let inZone := ps.filter fun p => !j.shape.dark p
  let zones := inZone.foldl (fun m p =>
    Store.modify (fun _ => (0, 0, 0)) m (16 * j.shape.slot p + j.shape.zone p) fun z =>
      (z.1 + 1, z.2.1 + j.statValue p, z.2.2 + boolNat (j.sample p == some (2 ^ j.depth - 1)))) []
  let bins := (ps.filter fun p => j.shape.slot p == 0).foldl
    (fun m p => Store.modify (fun _ => 0) m (j.statValue p / 256) (· + 1)) []
  let ob := obLevel j.v f j.tap
  { tap := j.settings, charge := j.tap
    zones := (List.range 64).map fun k => zones.get (fun _ => (0, 0, 0)) k
    hist := (List.range 256).map fun b => bins.get (fun _ => 0) b
    ob := ob
    bg := (List.range 4).map fun s =>
      let l := (inZone.filter fun p => j.shape.slot p == s).map (j.model d.model)
      if l.isEmpty then 0 else min 65535 ((floorMean l).toNat + ob) }

/-- The zone valid mask (R124). -/
def TapStat.valid (t : TapStat) : Nat :=
  ((List.range 16).map fun z =>
    boolNat ((List.range 4).any fun s => (t.zones.getD (16 * s + z) (0, 0, 0)).1 != 0) * 2 ^ z).sum

/-- The tap settings that a tap block reports (R382). -/
def statSettings (v : State) (f : Frame) (tap charge : Nat) : Nat → List Byte := fun valid =>
  leBytes 1 charge ++ leBytes 1 (v.fld (.EXP_TAP_SUB_COUNT tap)) ++ leBytes 2 valid ++
    leBytes 4 (v.fld (.EXP_TAP_OFS_OFS tap) + f.delay) ++ leBytes 4 (v.fld (.EXP_TAP_DUR_DUR tap)) ++
    leBytes 4 (v.fld (.EXP_TAP_PITCH_PITCH tap))

/-- A tap block (R382). -/
def TapStat.bytes (t : TapStat) (v : State) (f : Frame) : List Byte :=
  padTo 1536 (padTo 64 (statSettings v f t.tap t.charge t.valid ++ leBytes 2 t.ob ++ t.bg.flatMap (leBytes 2)) ++
    (t.zones.flatMap fun z => leBytes 2 (if z.1 = 0 then 0 else z.2.1 / z.1)) ++
    (t.zones.flatMap fun z => leBytes 4 z.2.2) ++ t.hist.flatMap (leBytes 4))

/-- The header of a statistics record (R381). -/
def statHeader (f : Frame) (charges : List Nat) (st : Status) : List Byte :=
  let flags := [f.pixsup, f.suppressed, f.govern, f.transition, f.delay != 0]
  padTo 64 (leBytes 4 (64 + 1536 * charges.length) ++ leBytes 1 st.code ++ leBytes 1 f.mode ++
    leBytes 1 ((charges.map fun t => 2 ^ t).sum) ++
    leBytes 1 ((flags.zipIdx.map fun b => boolNat b.1 * 2 ^ b.2).sum) ++ leBytes 6 f.tick ++ leBytes 2 0 ++
    leBytes 8 f.edge.toNat ++ leBytes 4 f.gen ++ leBytes 4 f.tag.toNat)

/-- R126, R127: the statistics record of a frame; of a frame marked CLOCK_LOSS it holds the tap settings only. -/
def State.handStats (s : State) (f : Frame) (v : State) (ts : List TapStat) : State :=
  let charges := v.taps.map (chargeTap f.mode f.tick)
  let blocks :=
    if f.clockLoss then v.taps.flatMap fun t => padTo 1536 (statSettings v f t (chargeTap f.mode f.tick t) 0)
    else ts.flatMap fun t => t.bytes v f
  if v.flag .EXP_STAT_CFG_EN && f.tick % (v.fld .EXP_STAT_CFG_DECIM + 1) == 0 then
    s.hand 5 0 (statHeader f charges (if f.clockLoss then .clockLoss else .ok) ++ blocks) f.tick f.tag
  else s

/-- The governor's newest statistics (R119). -/
def State.keepStats (s : State) (f : Frame) (ts : List TapStat) : State :=
  let x : StatFrame :=
    { tick := f.tick, regs := f.regs,
      usable := !f.clockLoss && !f.pixsup && !f.suppressed && !f.transition, taps := ts }
  { s with statFrame := some x }

end Sys2Proof.Machine
end

