-- ==== Sys2Proof/Machine/Segment.lean ====
section
/-! DEFINITION. Segments and their features (R208 to R214), and the caps on segments (R64 to R66, R68). -/

namespace Sys2Proof.Machine

/-! ## Foreground -/

/-- The background reference r_s of every slot at a pixel (R208). -/
def Developed.reference (d : Developed) (fused : Bool) (p : Pix) : List Nat :=
  let j := d.job
  let g (s : Nat) : Int :=
    match j.shape.cell p with
    | none => 0
    | some c =>
      let b : Int := (d.model.get (fun _ => 0) (modelKey j.cam j.tap c s) : Nat)
      let k := if j.cam = 0 then j.table16 0x23 (64 * j.tap + 16 * s + j.shape.zone p) else j.table16 0x24 p.col.toNat
      if j.on .PIPE_CAM_CTRL_FF_EN then roundDiv (b * k) 16384 else b
  let gs := (List.range d.out.length).map fun s => if fused then g s / 2 ^ j.v.fld (.PIPE_CAM_HDR_SHIFT 0) else g s
  (j.matrix gs).map mvValue

/-- The machine-vision value of a slot at a pixel; 0 in a slot that the camera does not carry (R195, R214). -/
def Developed.mv (d : Developed) (s : Nat) (p : Pix) : Nat := mvValue (planeAt (d.out.getD s []) p)

/-- R208: is a pixel foreground? -/
def Developed.foreground (d : Developed) (f : Frame) (p : Pix) : Bool :=
  let v := d.job.v
  let rs := d.reference (d.job.isFused f) p
  !d.job.lostSlice f p && rs.zipIdx.any fun r =>
    let hi := v.fld (.SEG_THR_HI r.2)
    let lo := v.fld (.SEG_THR_LO r.2)
    bitOf (v.fld .SEG_CFG_SLOT_EN) r.2 &&
      ((hi != 0 && decide (r.1 + hi ≤ d.mv r.2 p)) || (lo != 0 && decide (d.mv r.2 p + lo ≤ r.1)))

/-! ## Components -/

/-- R209: are two pixels connected? -/
def connected (p q : Pix) : Bool := (p.row - q.row).natAbs ≤ 1 && (p.col - q.col).natAbs ≤ 1

/-- A pixel joins the components that it touches into one. -/
def addPixel (cs : List (List Pix)) (p : Pix) : List (List Pix) :=
  let touch := cs.filter fun c => c.any (connected p)
  let rest := cs.filter fun c => !c.any (connected p)
  (touch.flatten ++ [p]) :: rest

/-- The maximal sets of connected pixels, each in raster order. -/
def components (ps : List Pix) : List (List Pix) := (ps.foldl addPixel []).map (sortBy pixKey)

/-- The lowest column of a set of pixels. -/
def minCol (c : List Pix) : Nat := (c.map fun p => p.col.toNat).foldl min 8191

/-- The last row of a set of pixels. -/
def maxRow (c : List Pix) : Int := (c.map (·.row)).foldl max (-12)

/-- R65: the place in closing order: last row, lowest column, first pixel. -/
def closingKey (c : List Pix) : Nat :=
  (((maxRow c + 12).toNat * 8192 + minCol c) * 2 ^ 26) + ((c.head?.map pixKey).getD 0)

/-- The rows of a component. -/
def rowsOf : List Pix → List (List Pix)
  | [] => []
  | p :: ps =>
    match rowsOf ps with
    | [] => [[p]]
    | r :: rs => if r.head?.any (·.row == p.row) then (p :: r) :: rs else [p] :: r :: rs

/-- R211: the pieces of a component; `acc` is the piece being filled. -/
def splitRows (acc : List Pix) : List (List Pix) → List (List Pix)
  | [] => if acc.isEmpty then [] else [acc]
  | r :: rs =>
    if acc.length + r.length ≤ 4096 then splitRows (acc ++ r) rs
    else
      let done := if acc.isEmpty then [] else [acc]
      if r.length ≤ 4096 then done ++ splitRows r rs
      else done ++ r.take 4096 :: splitRows (r.drop 4096) rs

/-! ## Features -/

/-- The limits of a 16-bit feature. -/
def clampU16 (n : Int) : Nat := clamp16 n

/-- Twice the coordinate of R213: the pixel, or the centre of a binned pixel. -/
def Shape.doubled (g : Shape) (x : Int) : Int := if g.binned then 4 * x + 1 else 2 * x

/-- XMIN, XMAX, YMIN, YMAX (R213). -/
def Shape.box (g : Shape) (c : List Pix) : Int × Int × Int × Int :=
  let xs := c.map (·.col)
  let ys := c.map (·.row)
  let lo (l : List Int) : Int := l.foldl min (l.headD 0)
  let hi (l : List Int) : Int := l.foldl max (l.headD 0)
  if g.binned then (2 * lo xs, 2 * hi xs + 1, 2 * lo ys, 2 * hi ys + 1) else (lo xs, hi xs, lo ys, hi ys)

/-- The four neighbours of a grid position that share a side with it. -/
def sides (p : Pix) : List Pix := [⟨p.row, p.col - 1⟩, ⟨p.row, p.col + 1⟩, ⟨p.row - 1, p.col⟩, ⟨p.row + 1, p.col⟩]

/-- Feature 20 (R213): the pairs of horizontal and vertical neighbours. -/
def gradFeature (m : Pix → Nat) (c : List Pix) : Nat :=
  let pairs := c.flatMap fun p => ([⟨p.row, p.col + 1⟩, ⟨p.row + 1, p.col⟩] : List Pix).filterMap fun q =>
    if c.contains q then some (((m p : Int) - m q).natAbs) else none
  if pairs.isEmpty then 0 else (pairs.map fun d => d * d).sum / (16 * pairs.length)

/-- A slot's features MEAN, SD, MIN and MAX (R213). -/
def slotFeatures (ms : List Nat) : Nat × Nat × Nat × Nat :=
  let a := ms.length
  let s1 := ms.sum
  let s2 := (ms.map fun m => m * m).sum
  (16 * s1 / a, Nat.sqrt (256 * (a * s2 - s1 * s1) / (a * a)), ms.foldl min 4095, ms.foldl max 0)

/-- Features 32 + 8s to 39 + 8s (R213). -/
def histFeatures (ms : List Nat) : List Nat :=
  let h (b : Nat) : Nat := (roundDiv (255 * ((ms.filter fun m => m / 256 == b).length : Int)) ms.length).toNat
  (List.range 8).map fun k => h (2 * k) + 256 * h (2 * k + 1)

/-- The features of a set of pixels (R213, R214). -/
def Developed.features (d : Developed) (c : List Pix) : List Nat :=
  let g := d.job.shape
  let v := d.job.v
  let a := c.length
  let dx := c.map fun p => g.doubled p.col
  let dy := c.map fun p => g.doubled p.row
  let sx := dx.sum
  let sy := dy.sum
  let moment (l r : List Int) (p q : Int) : Int := roundDiv (4 * ((a : Int) * ((l.zip r).map fun e => e.1 * e.2).sum - p * q)) (a * a)
  let box := g.box c
  let u : Int := if g.binned then 2 else 1
  let faces := (c.map fun p => ((sides p).filter fun q => !c.contains q).length).sum
  let ms (s : Nat) : List Nat := c.map (d.mv s)
  let carried (s : Nat) : Bool := decide (s < d.out.length)
  let sf (s : Nat) : Nat × Nat × Nat × Nat := if carried s then slotFeatures (ms s) else (0, 0, 0, 0)
  let slots := List.range 4
  let nir := (ms 3).sum + (ms 1).sum
  let sat := (c.filter fun p => slots.any fun s => d.mv s p == 4095).length
  let dark := (c.filter fun p => d.mv (v.fld .SEG_DARK_SLOT) p < v.fld .SEG_DARK_LEVEL).length
  [clampU16 a, clampU16 box.1, clampU16 box.2.1, clampU16 box.2.2.1, clampU16 box.2.2.2,
   clampU16 (roundDiv (4 * sx) a), clampU16 (roundDiv (4 * sy) a),
   clampU16 (moment dx dx sx sx), clampU16 (moment dy dy sy sy),
   unsigned 16 (max (-32768) (min 32767 (moment dx dy sx sy))),
   clampU16 (((if g.binned then 1608 else 804) * faces + 128) / 256 : Nat)] ++
  (slots.map fun s => clampU16 (sf s).1) ++ (slots.map fun s => clampU16 (sf s).2.1) ++
  [if carried 3 && nir != 0 then clampU16 (32768 * (ms 3).sum / nir : Nat) else 0,
   clampU16 (gradFeature (d.mv (v.fld .SEG_CFG_GCH)) c), clampU16 sat,
   clampU16 (65535 * a / (((box.2.1 + 1 - box.1) / u * ((box.2.2.2 + 1 - box.2.2.1) / u)).toNat) : Nat), clampU16 dark] ++
  (slots.map fun s => clampU16 (sf s).2.2.1) ++ (slots.map fun s => clampU16 (sf s).2.2.2) ++
  slots.flatMap fun s => if carried s then histFeatures (ms s) else List.replicate 8 0

/-! ## Segments -/

/-- R212: does a segment touch the edge of what was read? -/
def Shape.edgeOf (g : Shape) (c : List Pix) : Bool :=
  c.any fun p => ([-1, 0, 1] : List Int).any fun dy => ([-1, 0, 1] : List Int).any fun dx =>
    !g.read ⟨p.row + dy, p.col + dx⟩

/-- The segment of a set of pixels. -/
def Developed.segment (d : Developed) (c : List Pix) (split : Bool) (piece : Nat) : Segment :=
  let g := d.job.shape
  { area := c.length, sumX := (c.map fun p => g.doubled p.col).sum, sumY := (c.map fun p => g.doubled p.row).sum,
    box := g.box c, edge := g.edgeOf c, split := split, piece := piece, overload := false, feats := d.features c }

/-- R209 to R211: the segments of a tap in closing order, the components discarded and those split. -/
def Developed.segments (d : Developed) (f : Frame) : List Segment × Nat × Nat :=
  let cs := sortBy closingKey (components (d.job.shape.pixels.filter (d.foreground f)))
  let big := cs.filter fun c => d.job.v.fld .SEG_CFG_MIN_AREA ≤ c.length
  let parts (c : List Pix) : List Segment :=
    if 4096 < c.length then (splitRows [] (rowsOf c)).zipIdx.map fun e => d.segment e.1 true e.2
    else [d.segment c false 0]
  (big.flatMap parts, cs.length - big.length, (big.filter fun c => 4096 < c.length).length)

/-! ## Caps -/

/-- Segments per tick (R64). -/
def tickCap (mode taps : Nat) : Nat :=
  match mode with
  | 0 | 3 | 6 => 131072
  | 1 => 65536
  | 7 => 32768 * taps
  | _ => 32768

/-- Segments per tap, and per companion camera, and tick (R64). -/
def tapCap (cam : Nat) : Nat := if cam = 0 then 32768 else 8192

/-- R66: an OVERLOAD segment keeps its box and centroid only. -/
def Segment.overloaded (x : Segment) : Segment := { x with overload := true, feats := [] }

/-- R65, R66: the segments of a tap after the caps; `before` were kept of earlier taps. -/
def capSegments (perTap perTick before : Nat) (segs : List Segment) : List Segment :=
  segs.zipIdx.map fun e => if perTap ≤ e.2 || perTick ≤ before + e.2 then e.1.overloaded else e.1

/-- R68: a cap was reached in a tick. -/
def State.capReached (s : State) (f : Frame) : State :=
  if (s.frameOf f.tick).any (·.capped) then s
  else
    let s1 := (s.modFrame f.tick fun x => { x with capped := true }).count .HIF_OVL_TICK_TICKS 1
    s1.limitedEvent 3 0 .ok f.mode (leBytes 4 (s1.fld .HIF_OVL_SEG_SEG) ++ leBytes 4 (s1.fld .HIF_OVL_DEC_DEC))

/-- R215: the sighting time of an own-array tap after the edge in ns. -/
def sightingOffset (v : State) (f : Frame) (t : Nat) : Nat :=
  f.delay + v.fld (.EXP_TAP_OFS_OFS t) +
    (v.fld (.EXP_TAP_SUB_COUNT t) * v.fld (.EXP_TAP_PITCH_PITCH t) + v.fld (.EXP_TAP_DUR_DUR t)) / 2

/-- The segments of a developed tap become a round of its frame (R64 to R66, R210, R211, R216). Those of a companion in
SERVICE count against the caps of R64, and none of its sightings reaches the tracker (R163). -/
def State.addRound (s : State) (f : Frame) (time : Time) (d : Developed) : State :=
  let (segs, small, split) := d.segments f
  let cam := d.job.cam
  let perTick := if cam = 0 then tickCap f.mode d.job.v.taps.length else tapCap cam
  let before := if cam = 0 then ((s.frameOf f.tick).map (·.kept)).getD 0 else 0
  let capped := capSegments (tapCap cam) perTick before segs
  let lost := (capped.filter (·.overload)).length
  let kept := segs.length - lost
  let reached := !segs.isEmpty && (decide (tapCap cam ≤ segs.length) || decide (perTick ≤ before + kept))
  let round : Round := { cam := cam, tap := d.job.tap, time := time, capped := reached, segs := capped }
  let s1 := ((s.count .SEG_SMALL_COUNT small).count .SEG_SPLIT_COUNT split).count .HIF_OVL_SEG_SEG lost
  let s2 := s1.modFrame f.tick fun x =>
    { x with rounds := if cam = 0 ∨ f.mode = 6 then x.rounds ++ [round] else x.rounds, kept := if cam = 0 then x.kept + kept else x.kept }
  if reached then s2.capReached f else s2

end Sys2Proof.Machine
end

