-- ==== Sys2Proof/Machine/Detect.lean ====
section
/-! DEFINITION. What calibration gathers from the frames of camera 0: the drift defect detector (R439 to R442) and
flat-field acquisition (R444 to R446); and the staging of class B changes (R431). -/

namespace Sys2Proof.Machine

/-! ## Entries -/

/-- The key of an entry of the result space. -/
def calKey (item index : Nat) : Nat := item * 2 ^ 20 + index

/-- The entry in force. -/
def State.calEntry (s : State) (item index : Nat) : Nat := s.cal.entries.get (fun _ => 0) (calKey item index)

/-- An entry changes. -/
def State.setCalEntry (s : State) (item index v : Nat) : State :=
  { s with cal := { s.cal with entries := s.cal.entries.set (fun _ => 0) (calKey item index) v } }

/-- The redundant pair that COMP chooses: the lowest absolute offset, ties to the lowest pair (R425). -/
def choosePair (m : List Int) : Nat :=
  (List.range 4).foldl (fun b p => if (m.getD p 0).natAbs < (m.getD b 0).natAbs then p else b) 0

/-- The entry that a measurement gives (R434). -/
def calPack (item : Nat) (m : List Int) : Nat :=
  match item with
  | 0 => unsigned 8 (m.getD 0 0) + 2 ^ 8 * unsigned 16 (m.getD 1 0)
  | 2 => unsigned 12 (m.getD 0 0)
  | 3 | 6 => unsigned 16 (m.getD 0 0) + 2 ^ 16 * unsigned 16 (m.getD 1 0)
  | 4 => choosePair m
  | 5 => unsigned 14 (m.getD 0 0)
  | _ => unsigned 16 (m.getD 0 0)

/-- The quantities that an entry holds. -/
def calUnpack (item v : Nat) : List Int :=
  match item with
  | 0 => [(getBits v 7 0 : Nat), signed 16 (v / 2 ^ 8)]
  | 2 => [signed 12 v]
  | 3 | 6 => [signed 16 v, signed 16 (v / 2 ^ 16)]
  | 4 => [(v % 4 : Nat)]
  | 5 => [signed 14 v]
  | _ => [signed 16 v]

/-- R436: an entry moves towards the measured value by at most one unit in each quantity. -/
def calMove (item old target : Nat) : Nat :=
  calPack item (((calUnpack item old).zip (calUnpack item target)).map fun p => p.1 + max (-1) (min 1 (p.2 - p.1)))

/-- Entries take effect at once, all of an item together (R430). -/
def State.applyEntries (s : State) (es : List (Nat × Nat × Nat)) : State :=
  es.foldl (fun s e => s.setCalEntry e.1 e.2.1 e.2.2) s

/-- A background update takes effect: each entry moves towards the value measured (R436). -/
def State.moveEntries (s : State) (es : List (Nat × Nat × Nat)) : State :=
  es.foldl (fun s e => s.setCalEntry e.1 e.2.1 (calMove e.1 (s.calEntry e.1 e.2.1) e.2.2)) s

/-! ## Class B changes -/

/-- R431: a class B change is staged, at most one per 10 ms, for the first edge at least 2,000 ns later. -/
def State.stageClassB (s : State) (c : MgmtChange) : State :=
  let wait := s.cal.nextB - s.now
  { s with
    mgmt := s.mgmt ++ [⟨c, timeAfter s.tb (wait + 2000)⟩]
    cal := { s.cal with nextB := s.now + wait + 10000000 } }

/-! ## The drift list -/

/-- An entry of the drift list (R434, R185). -/
def driftEntry (x y kind : Nat) : Nat := x + y * 2 ^ 13 + 0xF * 2 ^ 25 + kind * 2 ^ 29

/-- The place of an entry in the order of R186. -/
def driftOrder (e : Nat) : Nat := getBits e 24 0

/-- Does the drift list hold a pixel? -/
def State.drifts (s : State) (x y : Nat) : Bool := s.cal.drift.any fun e => driftOrder e == x + y * 2 ^ 13

/-- The drift list takes a pixel that it does not hold yet, if it holds fewer than 256 (R441). -/
def State.addDrift (s : State) (x y kind : Nat) : State :=
  if s.cal.drift.length < 256 ∧ !s.drifts x y then
    let l := insertBy driftOrder (driftEntry x y kind) s.cal.drift
    { s with cal := { s.cal with drift := l } }.setFld .CAL_DLIST_COUNT l.length
  else s

/-- The drift list takes the pixels newly classed. -/
def State.addDrifts (s : State) (ps : List (Nat × Nat × Nat)) : State :=
  ps.foldl (fun s p => s.addDrift p.1 p.2.1 p.2.2) s

/-- R441: the event of a pixel newly classed. -/
def State.classEvent (s : State) (p : Nat × Nat × Nat) : State :=
  s.event 0x14 .ok 7 (leBytes 4 p.1 ++ leBytes 4 p.2.1 ++ leBytes 4 p.2.2)

/-- R431, R441, R442: the pixels that one frame classes: their events, and their entries, which are together one class B
change while AUTO_DEF is 1, and one that waits while a flat-field acquisition measures item 7 (R438). -/
def State.classPixels (s : State) (ps : List (Nat × Nat × Nat)) : State :=
  if ps.isEmpty then s
  else
    let s1 := ps.foldl State.classEvent s
    if s1.flag .CAL_CTL_AUTO_DEF || bitOf (s1.fld .CAL_STAT_RUNNING) 7 then s1.stageClassB (.driftAdd ps) else s1.addDrifts ps

/-! ## The detector -/

/-- R439: e of a pixel. Where its neighbourhood holds no other sample, the mean is a free value (log 23). -/
def Developed.deviation (d : Developed) (draw : Nat) (p : Pix) : Int :=
  let l := ((d.job.shape.neighbours p 1).filter fun q => q != p && !d.job.absent q).map (planeAt d.w1)
  planeAt d.w1 p - (if l.isEmpty then ((Config.freeAt draw (pixKey p) : Nat) : Int) else floorMean l)

/-- R439, R440: one observation of a pixel: its counts, and its class when n reaches 256 (2 HOT, 3 BLINK, 0 neither). -/
def observe (hot blink : Nat) (e : Int) (c : Nat × Nat × Nat × Nat × Bool) : (Nat × Nat × Nat × Nat × Bool) × Option Nat :=
  let test := decide (blink ≤ e.natAbs)
  let n := c.1 + 1
  let h := c.2.1 + boolNat (decide ((hot : Int) ≤ e))
  let b := c.2.2.1 + boolNat test
  let t := c.2.2.2.1 + boolNat (c.1 != 0 && test != c.2.2.2.2)
  if n = 256 then
    ((0, 0, 0, 0, false), some (if 240 ≤ h then 2 else if 16 ≤ b ∧ b ≤ 224 ∧ 8 ≤ t then 3 else 0))
  else ((n, h, b, t, test), none)

/-- R441: is a pixel in the active defect map, for any tap, or in the drift list? -/
def State.knownPixel (s v : State) (x y : Nat) : Bool :=
  s.drifts x y || (v.defectEntries 0).any fun e => driftOrder e == x + y * 2 ^ 13

/-- The detector observes one pixel; the second component gathers the pixels newly classed. -/
def State.observePixel (d : Developed) (draw : Nat) (acc : State × List (Nat × Nat × Nat)) (p : Pix) :
    State × List (Nat × Nat × Nat) :=
  let s := acc.1
  let k := pixKey p
  let zero : Nat → (Nat × Nat × Nat × Nat × Bool) := fun _ => (0, 0, 0, 0, false)
  let (c, verdict) := observe (s.fld .CAL_DEF_THR_HOT) (s.fld .CAL_DEF_THR_BLINK) (d.deviation draw p) (s.cal.counts.get zero k)
  let s1 := { s with cal := { s.cal with counts := s.cal.counts.set zero k c } }
  match verdict with
  | none => (s1, acc.2)
  | some kind =>
    let s2 := { s1 with cal := { s1.cal with full := if s1.cal.full.contains k then s1.cal.full else k :: s1.cal.full } }
    let x := p.col.toNat
    let y := p.row.toNat
    (s2, if kind != 0 && !s2.knownPixel d.job.v x y then acc.2 ++ [(x, y, kind)] else acc.2)

/-- The next group that is read, after `g`; the first again after the last (R440). -/
def nextGroup (groups : List Nat) (g : Nat) : Nat :=
  match groups.find? (fun k => decide (g < k)) with
  | some k => k
  | none => groups.headD 0

/-- R440: the group advances. -/
def State.advanceGroup (s : State) (d : Developed) : State :=
  let mine := d.job.shape.pixels.filter fun p => !d.job.shape.dark p && p.col.toNat / 64 == s.cal.group
  if mine.all (fun p => s.cal.full.contains (pixKey p)) || decide (4096 ≤ s.cal.examined) then
    { s with cal := { s.cal with
      group := nextGroup d.job.v.groups64 s.cal.group, examined := 0, counts := [], full := [] } }
  else s

/-- R439: the detector examines a frame of camera 0. -/
def State.detectDrift (s : State) (f : Frame) (ds : List Developed) : State :=
  if !s.flag .CAL_CTL_DRIFT_EN || f.mode == serviceMode || f.mode == 3 then s
  else match ds.find? fun d => d.job.tap == s.fld .CAL_CTL_DEF_TAP with
    | none => s
    | some d =>
      let (draw, s1) := s.free
      let seen := d.job.shape.pixels.filter fun p =>
        p.col.toNat / 64 == s.cal.group && d.job.background d.reset d.model d.w2 p
      let (s2, found) := seen.foldl (State.observePixel d draw) (s1, [])
      ({ s2 with cal := { s2.cal with examined := s2.cal.examined + 1 } }.advanceGroup d).classPixels found

/-! ## Flat-field acquisition -/

/-- round of an exact quotient (R175). -/
def roundRat (x : Rat) : Int := (x + 1 / 2).floor

/-- Does a frame belong to an acquisition's examination, and may it be used (R444)? -/
def flatUsable (a : Flat) (f : Frame) (ds : List Developed) : Bool :=
  !f.clockLoss && !f.pixsup && !f.suppressed && !f.transition && ds.any fun d => a.taps.contains d.job.tap

/-- The settings that may not change between usable frames (R444). In STRIP every frame converts at the gain of tap A
(R136). -/
def flatSettings (v : State) (f : Frame) (a : Flat) : Nat × List (Nat × Nat) × List (Nat × Nat) × List Nat :=
  (f.mode, v.rowBands, v.colBands, a.taps.map fun t => v.gain (if f.mode = 4 then 0 else t))

/-- R444: does a usable frame meet the conditions of the acquisition? -/
def State.flatMeets (s : State) (a : Flat) (f : Frame) (v : State) (ts : List TapStat) : Bool :=
  let segmented := ((s.frameOf f.tick).map (·.rounds)).getD []
  !v.binned && (a.first.all fun x => x == flatSettings v f a) &&
    (ts.filter fun t => a.taps.contains t.charge).all fun t =>
      let z := t.zones.take 16
      let n := (z.map (·.1)).sum
      let m := (z.map fun e => if e.1 = 0 then 0 else e.1 * (e.2.1 / e.1)).sum
      decide (s.fld .CAL_FF_LIM_LO * n ≤ m) && decide (m ≤ s.fld .CAL_FF_LIM_HI * n) &&
        t.zones.all (fun e => e.2.2 == 0) &&
        !segmented.any fun r => r.cam == 0 && r.tap == t.charge && !r.segs.isEmpty

/-- The sums of a usable frame (R445). -/
def Flat.gather (a : Flat) (ds : List Developed) : Store (Int × Nat) :=
  ds.foldl (fun m d =>
    if !a.taps.contains d.job.tap then m
    else d.job.shape.pixels.foldl (fun m p =>
      if d.job.absent p || d.job.shape.dark p then m
      else Store.modify (fun _ => ((0 : Int), (0 : Nat))) m (d.job.tap * 2 ^ 26 + pixKey p) fun e =>
        (e.1 + planeAt d.w1 p, e.2 + 1)) m) a.sums

/-- p̄ of a pixel (R445). -/
def Flat.mean (a : Flat) (tap : Nat) (p : Pix) : Option Rat :=
  let e := a.sums.get (fun _ => ((0 : Int), (0 : Nat))) (tap * 2 ^ 26 + pixKey p)
  if e.2 = 0 then none else some ((e.1 : Rat) / e.2)

/-- The mean of a list of exact values; none of an empty list. -/
def meanRat (l : List Rat) : Option Rat := if l.isEmpty then none else some (l.sum / l.length)

/-- M_tsz of R445. -/
def Flat.zoneMean (a : Flat) (g : Shape) (tap slot zone : Nat) : Option Rat :=
  meanRat ((g.pixels.filter fun p => !g.dark p && g.slot p == slot && g.zone p == zone).filterMap (a.mean tap))

/-- M_s of R445. -/
def Flat.slotMean (a : Flat) (g : Shape) (slot : Nat) : Option Rat :=
  meanRat (a.taps.flatMap fun t => (List.range 16).filterMap fun z => a.zoneMean g t slot z)

/-- The active bank of a table is copied into its shadow bank. -/
def State.copyBank (s : State) (key : Nat) : State :=
  let src := tableAddr key (s.activeBank key) 0
  let dst := tableAddr key (1 - s.activeBank key) 0
  let mine := s.tables.bytes.filter fun e => src ≤ e.1 && e.1 < src + 2 ^ 24
  let rest := s.tables.bytes.filter fun e => !(dst ≤ e.1 && e.1 < dst + 2 ^ 24)
  { s with tables := { s.tables with
      bytes := mine.foldl (fun m e => Store.set tableReset m (dst + (e.1 - src)) e.2) rest } }

/-- C_tsz of R445; a free value where M_tsz is 0 (log 23). -/
def Flat.coarseGain (a : Flat) (g : Shape) (draw tap slot zone : Nat) : Option Nat :=
  match a.zoneMean g tap slot zone, a.slotMean g slot with
  | some m, some ms =>
    some (if m = 0 then Config.freeAt draw (64 * tap + 16 * slot + zone) % 2 ^ 16
      else clamp16 (roundRat (16384 * ms / m)))
  | _, _ => none

/-- g of R445 and whether it was clamped; a free value where p̄ is 0 (log 23). -/
def Flat.fineGain (a : Flat) (g : Shape) (draw tap : Nat) (p : Pix) : Nat × Bool :=
  match a.mean tap p, a.zoneMean g tap (g.slot p) (g.zone p) with
  | some m, some z =>
    if m = 0 then (Config.freeAt draw (2 ^ 16 + pixKey p) % 2 ^ 8, false)
    else
      let x := roundRat (512 * z / m) - 384
      ((max 0 (min 255 x)).toNat, decide (x < 0) || decide (255 < x))
  | _, _ => (128, false)

/-- R445, R446: the results go into the shadow banks of FF_FINE and FF_COARSE, which are then complete. -/
def State.writeFlat (s : State) (a : Flat) (g : Shape) : State :=
  let (draw, s0) := s.free
  let fine := tableKey 0x22 0
  let coarse := tableKey 0x23 0
  let s1 := (s0.copyBank fine).copyBank coarse
  let s2 := a.taps.foldl (fun s t => (List.range 64).foldl (fun s k =>
    match a.coarseGain g draw t (k / 16) (k % 16) with
    | some c => s.writeTable coarse (1 - s.activeBank coarse) (2 * (64 * t + k)) (leBytes 2 c)
    | none => s) s) s1
  let t0 := a.taps.headD 0
  let gains := (g.pixels.filter fun p => !g.dark p).map fun p => (p, a.fineGain g draw t0 p)
  let s3 := gains.foldl (fun s e =>
    s.writeTable fine (1 - s.activeBank fine) (e.1.row.toNat * 8192 + e.1.col.toNat) (leBytes 1 e.2.1)) s2
  let done (m : Store Bool) (k : Nat) : Store Bool := m.set (fun _ => false) k false
  let s4 := s3.setReg Reg.CAL_FF_CLIP (BitVec.ofNat 32 (gains.filter fun e => e.2.2).length)
  { s4 with tables := { s4.tables with incomplete := done (done s4.tables.incomplete fine) coarse } }

/-- An acquisition ends with a status (R444). -/
def State.endFlat (s : State) (a : Flat) (st : Status) (result : Nat) : State :=
  let s1 := { s with cal := { s.cal with flat := none } }
  (s1.setFld .CAL_STAT_RUNNING (putBit (s1.fld .CAL_STAT_RUNNING) 7 false)).finishWaiting a.notify st result

/-- A CAL_RUN ends: with OK, or with PRECONDITION where it was stopped or failed its check (R443). -/
def State.endCalRun (s : State) (r : CalRun) (st : Status) : State :=
  let s1 := { s with cal := { s.cal with run := none } }
  (s1.setFld .CAL_STAT_RUNNING (s1.fld .CAL_STAT_RUNNING &&& 128)).finishWaiting r.notify st r.done

/-- R73, R443: a change out of SERVICE stops a CAL_RUN that still holds items that need SERVICE. -/
def State.stopCalRun (s : State) : State :=
  match s.cal.run with
  | some r => if r.items.any (2 ≤ ·) then s.endCalRun r .precondition else s
  | none => s

/-- R38, R446: the results of an acquisition are written once both shadow banks may be, behind the loads that were fetched
before it was accepted; it is then complete. -/
def State.settleFlat (s : State) : State :=
  match s.cal.flat with
  | none => s
  | some a =>
    match a.ready with
    | none => s
    | some g =>
      let early := s.loads.any fun l => (l.table == 0x22 || l.table == 0x23) && !a.fetchedLate s l.ring
      if s.bankIdle 0x22 0 && s.bankIdle 0x23 0 && !early then (s.writeFlat a g).endFlat a .ok a.used else s

/-- R444, R445: the acquisition takes a frame of camera 0. -/
def State.flatFrame (s : State) (f : Frame) (v : State) (ds : List Developed) (ts : List TapStat) : State :=
  match s.cal.flat with
  | none => s
  | some a =>
    if !reached f.edge a.earliest || a.ready.isSome then s
    else
      let b := { a with ticks := a.ticks + 1 }
      let keep (x : Flat) : State :=
        if x.want + 256 ≤ x.ticks then s.endFlat x .precondition 0 else { s with cal := { s.cal with flat := some x } }
      if !flatUsable a f ds then keep b
      else if !s.flatMeets a f v ts then s.endFlat b .precondition 0
      else
        let c := { b with used := b.used + 1, sums := b.gather ds, first := some (a.first.getD (flatSettings v f a)) }
        if c.want ≤ c.used then
          { s with cal := { s.cal with flat := some { c with ready := some v.ownShape } } }.settleFlat
        else keep c

end Sys2Proof.Machine
end

