-- ==== Sys2Proof/Machine/Pipeline.lean ====
section
/-! DEFINITION. what a pipeline does with a frame (R172, R180 to R184, R202 to R205). -/

namespace Sys2Proof.Machine

/-! ## Resets of the background model -/

/-- A tap that has never been exposed. -/
def BgTap.init : BgTap := { exposed := false, mode := 0, gain := 0, resets := [] }

/-- A tap of a camera. -/
def Background.tap (b : Background) (cam tap : Nat) : BgTap := b.taps.get (fun _ => BgTap.init) (cam * 4 + tap)

/-- R182: is the model of a tap reset from a frame? -/
def resetsFrom (b : Background) (f : Frame) (cam tap gain : Nat) : Bool :=
  let t := b.tap cam tap
  !t.exposed || t.resets.any (fun n => decide (n ≤ f.tick)) || t.mode != f.mode || t.gain != gain

/-- A frame has exposed the tap. -/
def Background.expose (b : Background) (f : Frame) (cam tap gain : Nat) : Background :=
  { b with taps := b.taps.modify (fun _ => BgTap.init) (cam * 4 + tap) fun t =>
      { exposed := true, mode := f.mode, gain := gain, resets := t.resets.filter fun n => decide (f.tick < n) } }

/-- A BG_RESET that applied at the edge of a tick waits for every tap of the camera (R182). -/
def Background.requestReset (b : Background) (cam tick : Nat) : Background :=
  (List.range 4).foldl (fun b t =>
    { b with taps := b.taps.modify (fun _ => BgTap.init) (cam * 4 + t) fun x => { x with resets := x.resets ++ [tick] } }) b

/-- HIF_RUN.RUN was set, and the tick given is the first of the run: every tap is reset from the first frame since that
exposes it (R182). -/
def Background.restart (b : Background) (tick : Nat) : Background :=
  (List.range 4).foldl (fun b cam => b.requestReset cam tick) b

/-! ## Taps -/

/-- The ramp gain of a job's tap; companions have none. -/
def Job.gainCode (j : Job) : Nat := if j.cam = 0 then j.v.gain j.settings else 0

/-- Stages 1 to 5 of a job with the model in force (R180). -/
def State.develop (s : State) (f : Frame) (j : Job) : Developed :=
  j.develop (resetsFrom s.bg f j.cam j.tap j.gainCode) s.bg.value

/-- The model after a developed tap (R180 to R182), and the tap exposed. -/
def State.learn (f : Frame) (s : State) (d : Developed) : State :=
  { s with bg := ((d.job.updateModel d.reset d.model d.w2 s.bg).expose f d.job.cam d.job.tap d.job.gainCode) }

/-- The number of a machine-vision value in `Frame.planes`. -/
def planeKey (cam tap slot : Nat) (p : Pix) : Nat := ((cam * 4 + tap) * 4 + slot) * 2 ^ 26 + pixKey p

/-- The machine-vision values of a developed tap. -/
def Developed.planes (d : Developed) (m : Store Nat) : Store Nat :=
  (List.range d.out.length).foldl (fun m s => d.job.shape.pixels.foldl (fun m p =>
    Store.set (fun _ => 0) m (planeKey d.job.cam d.job.tap s p) (d.mv s p)) m) m

/-- A frame keeps what crops and the tracker need of a camera's developed taps. -/
def Frame.keepViews (f : Frame) (cam : Nat) (time : Time) (ds : List Developed) : Frame :=
  let g := (ds.head?.map fun d => d.job.shape.packed).getD (0, 0)
  { f with
    planes := ds.foldl (fun m d => d.planes m) f.planes
    views := f.views ++ [⟨cam, time, g.1, g.2, (ds.filter fun d => d.job.invalid != 0).map fun d => d.job.tap⟩] }

/-- The developed taps in the order of their rounds: ascending sighting time, then letter (R65, R216). -/
def roundOrder (v : State) (f : Frame) (ds : List Developed) : List Developed :=
  sortBy (fun (d : Developed) => sightingOffset v f d.job.settings) ds

/-! ## Frames -/

/-- A camera's frame of a tick has been through its pipeline. -/
def State.markPiped (s : State) (f : Frame) (cam : Nat) (done : Bool) : State :=
  s.modFrame f.tick fun x => { x with piped := cam :: x.piped, done := x.done || done }

/-- R126, R202: a frame of camera 0 that is marked CLOCK_LOSS: its record, and the headers of the
buffers claimed for it. -/
def State.pipeLost (s : State) (f : Frame) : State :=
  let v := f.view s
  let s1 := ((s.markPiped f 0 true).handStats f v []).keepStats f []
  (s1.flatFrame f v [] []).loseOutputs f (v.taps.map (ownJob v f)) f.edge

/-- Pipeline 0 processes a frame. -/
def State.pipeOwn (s : State) (f0 : Frame) : State :=
  let f := s.deliver f0
  if f.clockLoss then s.pipeLost f
  else
    let v := f.view s
    let (draw, s) := if f.mode == 1 && v.exposureOf 1 == 0 then s.free else (0, s)
    let half := v.taps.map fun t => s.develop f (ownJob v f t)
    let ds := (fuseTaps (f.mode == 1) draw half).map fun d => d.finish f
    let f1 := f.keepViews 0 f.edge ds
    let s1 := (s.modFrame f.tick fun _ => f1).markPiped f 0 false
    let s2 := half.foldl (State.learn f) s1
    let s3 := s2.count .PIPE_INVALID_CNT_COUNT ((ds.map fun d => d.job.invalid).sum)
    let s4 := (roundOrder v f ds).foldl
      (fun s d => s.addRound f (timeAfter f.edge (sightingOffset v f d.job.settings)) d) s3
    let ts := ds.map fun d => d.stat f
    let s5 := ((s4.handOutputs f 0 f.edge v ds).handStats f v ts).keepStats f ts
    (s5.detectDrift f ds).flatFrame f v ds ts

/-- The pipeline of a companion camera processes a taken frame (R163, R171, R172). -/
def State.pipeCam (s : State) (f : Frame) (x : CamFrame) : State :=
  let s0 := { s with camFrames := s.camFrames.filter fun y => !(y == x) }
  if f.clockLoss then (s0.markPiped f x.cam false).loseOutputs f [camJob (f.view s) x] x.corrected
  else
    let v := f.view s
    let half := s.develop f (camJob v x)
    let d := half.finish f
    let f1 := f.keepViews x.cam x.corrected [d]
    let s1 := (s0.modFrame f.tick fun _ => f1).markPiped f x.cam false
    let s2 := (State.learn f s1 half).count .PIPE_INVALID_CNT_COUNT d.job.invalid
    let s3 := if f.mode = 6 ∨ f.mode = serviceMode then s2.addRound f x.corrected d else s2
    s3.handOutputs f x.cam x.corrected v [d]

/-! ## The next frame -/

/-- The frame that pipeline 0 takes next: the oldest not processed. -/
def State.nextOwn (s : State) : Option Frame := s.frames.find? fun (f : Frame) => !f.piped.contains 0

/-- R60, R128: may pipeline 0 process a frame now: it has been read, and its tick is over? -/
def State.ownDue (s : State) (f : Frame) : Bool :=
  (f.clockLoss || (f.readAt.isSome && f.slot == (f.view s).slots)) &&
    (f.mode == 4 || s.newest.any (fun (x : Frame) => x.tick != f.tick) || decide (f.clk + f.tmin ≤ s.clk))

/-- The taken frame of a companion camera that its pipeline takes next. -/
def State.nextCam (s : State) (n : Nat) : Option CamFrame :=
  s.camFrames.find? fun x => x.cam == n && x.complete && !x.buffered && x.tick.isSome

/-- A pipeline processes the frame that is next for it, where there is one (R172). -/
def State.pipeline (s : State) (cam : Nat) : State :=
  if cam = 0 then
    match s.nextOwn with
    | some f => if s.ownDue f then s.pipeOwn f else s
    | none => s
  else
    match s.nextCam cam with
    | some x =>
      match s.frameOf (x.tick.getD 0) with
      | some f => s.pipeCam f x
      | none => { s with camFrames := s.camFrames.filter fun y => !(y == x) }
    | none => s

end Sys2Proof.Machine
end

