-- ==== Sys2Proof/Machine/Eject.lean ====
section
/-! DEFINITION. Decisions: the forest (R237 to R243), the crossing of the ejector rows (R244 to R246), the valves that a
span covers and the pulse at each (R247 to R250), and the queuing and merging of pulses (R251 to R259). -/

namespace Sys2Proof.Machine

/-! ## The forest -/

/-- A little-endian value of the forest in force. -/
def State.forestAt (v : State) (off n : Nat) : Nat :=
  let key := tableKey 0x30 0
  leNat (v.tableBytes key (v.activeBank key) off n)

/-- Bits of node `n` of the forest in force (R239). -/
def State.forestNode (v : State) (n : Nat) : Nat := v.forestAt (512 + 8 * n) 8

/-- The action of a class (R238). -/
def State.classAction (v : State) (c : Nat) : Nat := v.forestAt 4 4 / 4 ^ c % 4

/-- R239: is the selected value of the fused vector below the node's threshold? -/
def nodeBelow (feats : List Nat) (node : Nat) : Bool :=
  let i := getBits node 6 1
  let x := feats.getD i 0
  let th := getBits node 24 9
  match getBits node 8 7 with
  | 1 => decide (x % 256 < th)
  | 2 => decide (x / 256 % 256 < th)
  | _ => if i = 9 then decide (signed 16 x < signed 16 th) else decide (x < th)

/-- R241: the leaf that a walk from node `n` reaches: class and weight. `fuel` bounds the internal nodes. -/
def State.walkTree (v : State) (feats : List Nat) : Nat → Nat → Nat × Nat
  | 0, _ => (0, 0)
  | fuel + 1, n =>
    let node := v.forestNode n
    if node % 2 = 1 then (getBits node 4 1, getBits node 16 9)
    else v.walkTree feats fuel (if nodeBelow feats node then getBits node 40 25 else getBits node 56 41)

/-- What a forest evaluation gives (R241). -/
structure Verdict where
  cls : Nat
  conf : Nat
  action : Nat
  fallback : Bool
  deriving DecidableEq, Repr

/-- R241: the forest scores a fused vector. -/
def State.forest (v : State) (feats : List Nat) : Verdict :=
  let leaves := (List.range (v.forestAt 0 1)).map fun t => v.walkTree feats 11 (v.forestAt (72 + 2 * t) 2)
  let score (c : Nat) : Nat := ((leaves.filter fun l => l.1 == c).map (·.2)).sum
  let total := (leaves.map (·.2)).sum
  let w := (List.range 16).foldl (fun best c => if score best < score c then c else best) 0
  let ok := decide (0 < total) && decide (v.forestAt (8 + 2 * w) 2 ≤ score w)
  let c := if ok then w else v.forestAt 1 1 % 16
  { cls := c, conf := if total = 0 then 0 else 255 * score c / total, action := v.classAction c, fallback := !ok }

/-- R253: does a firing class have reject-priority against a protected class? -/
def State.rejectPriority (v : State) (firing protect : Nat) : Bool := bitOf (v.forestAt (40 + 2 * firing) 2) protect

/-! ## Exact roots -/

/-- The number α + β √q. -/
structure Surd where
  α : Rat
  β : Rat
  q : Rat

/-- Is a surd above 0? -/
def Surd.positive (x : Surd) : Bool :=
  let b := x.β * x.β * x.q
  if x.β < 0 then decide (0 < x.α) && decide (b < x.α * x.α)
  else decide (0 < x.α) || decide (x.α * x.α < b)

/-- The floor of a surd. -/
def Surd.floor (x : Surd) : Int :=
  let r := x.β * x.β * x.q
  let d : Nat := x.α.den * r.den
  let m : Nat := (r.num.toNat * r.den) * x.α.den * x.α.den
  let n : Int := x.α.num * r.den
  let root : Nat := Nat.sqrt m
  let up : Nat := if root * root = m then root else root + 1
  (if x.β < 0 then n - up else n + root) / (d : Int)

/-- A surd scaled and shifted. -/
def Surd.affine (x : Surd) (scale shift : Rat) : Surd := { α := scale * x.α + shift, β := scale * x.β, q := x.q }

/-- The square of a surd. -/
def Surd.square (x : Surd) : Surd := { α := x.α * x.α + x.β * x.β * x.q, β := 2 * x.α * x.β, q := x.q }

/-- The sum of two surds of one root. -/
def Surd.add (x y : Surd) : Surd := { α := x.α + y.α, β := x.β + y.β, q := x.q }

/-! ## Decisions -/

/-- A decision of a tick with what its record holds (R375). -/
structure Decision where
  objId : Nat
  parent : Nat
  context : Option Nat
  status : Status
  cls : Nat
  conf : Nat
  action : Nat
  /-- The class that it has for merging (R242, R253, R259). -/
  mergeClass : Nat
  time : Time
  x : Int
  y : Int
  vx : Int
  vy : Int
  ax : Int
  ay : Int
  w : Int
  h : Int
  firstTick : Nat
  lastTick : Nat
  sight : Nat
  area : Nat
  camMask : Nat
  flags : Nat
  /-- The row of FIRE_TIME and FIRST_VALVE, and the valve fields (R258). -/
  row : Nat
  firstValve : Nat
  valveCount : Nat
  fireTime : Time
  deriving DecidableEq, Repr

/-- R376: a flag of the record is set. -/
def Decision.flag (d : Decision) (i : Nat) : Decision := { d with flags := putBit d.flags i true }

/-! ## Crossing the rows -/

/-- Is ejector row `r` (0 row 1, 1 row 2) present (R244)? -/
def State.rowPresent (v : State) (r : Nat) : Bool := v.flag (.EJ_ROW_CTL_EN r)

/-- The present rows. -/
def State.presentRows (v : State) : List Nat := [0, 1].filter v.rowPresent

/-- R245: the time to reach a row in ms, as an exact number. -/
def crossingTau (s v a : Rat) : Option Surd :=
  if s ≤ 0 then none
  else if a = 0 then (if v ≤ 0 then none else some ⟨s / v, 0, 0⟩)
  else
    let q := v * v + 2 * a * s
    if q < 0 then none
    else
      let plus : Surd := ⟨-v / a, 1 / a, q⟩
      let minus : Surd := ⟨-v / a, -1 / a, q⟩
      let (low, high) := if a < 0 then (plus, minus) else (minus, plus)
      if low.positive then some low else if high.positive then some high else none

/-- R245: when and where a decision crosses row `r`: t_c less its state time, in ns, and x_c in 1/64 px. -/
def State.crossing (v : State) (d : Decision) (r : Nat) : Option (Int × Int) :=
  let sign : Rat := if v.flag .EJ_CFG_FALL then -1 else 1
  let dist : Rat := signed 32 (v.fld (.EJ_ROW_DIST_DIST r))
  match crossingTau (sign * (dist - d.y) / 64) (sign * d.vy / 256) (sign * d.ay / 65536) with
  | none => none
  | some tau =>
    let tc := (tau.affine 1000000 (1 / 2)).floor
    let ax : Rat := if v.flag .TRK_CFG_AX_EN then d.ax else 0
    let x := (tau.affine ((d.vx : Rat) / 256) ((d.x : Rat) / 64)).add (tau.square.affine (ax / 131072) 0)
    some (tc, (x.affine 64 (1 / 2)).floor)

/-- R246: does a crossing come within the horizon? -/
def State.inHorizon (v : State) (now : Time) (d : Decision) (tc : Int) : Bool :=
  decide (tc + timeDiff d.time now ≤ (1000000 * v.fld .EJ_CFG_HORIZON : Nat))

/-! ## Valves -/

/-- An enabled entry of the valve map (R247). -/
structure Valve where
  num : Nat
  direct : Bool
  pos : Nat
  port : Nat
  minOff : Nat
  latOpen : Nat
  latClose : Nat
  duty : Nat
  deriving DecidableEq, Repr

/-- Word `k` of an entry of the valve map in force. -/
def State.valveWord (v : State) (n k : Nat) : Nat :=
  let key := tableKey 0x31 0
  leNat (v.tableBytes key (v.activeBank key) (16 * n + 4 * k) 4)

/-- Entry `n` of the valve map in force. -/
def State.valve (v : State) (n : Nat) : Valve :=
  let w0 := v.valveWord n 0
  let w1 := v.valveWord n 1
  let w3 := v.valveWord n 3
  { num := n, direct := bitOf w0 31, pos := getBits w1 7 0, port := getBits w1 11 8, minOff := getBits w1 23 16,
    latOpen := getBits (v.valveWord n 2) 19 0, latClose := getBits w3 19 0, duty := getBits w3 29 20 }

/-- R249: the enabled valves of row `r` that the span from `a` to `b` covers. -/
def State.spanValves (v : State) (r : Nat) (a b : Rat) : List Valve :=
  ((List.range 4096).filter fun n =>
    let w := v.valveWord n 0
    bitOf w 30 && boolNat (bitOf w 29) == r && decide ((getBits w 12 0 : Rat) - 1 / 2 ≤ b) &&
      decide (a ≤ (getBits w 28 16 : Rat) + 1 / 2)).map v.valve

/-- A decision's pulse at a row: t_c, t_o, PW and the valves of its span (R249, R250). -/
structure Cross where
  tc : Time
  start : Time
  width : Nat
  valves : List Valve
  deriving DecidableEq, Repr

/-- A timebase value some ns later or earlier. -/
def timeShift (t : Time) (n : Int) : Time := t + BitVec.ofInt 64 n

/-- R249, R250: the crossing of row `r`, whether or not the horizon holds it; none where there is none, or its span covers
no valve. -/
def State.cross (v : State) (d : Decision) (r : Nat) : Option Cross :=
  match v.crossing d r with
  | none => none
  | some (tc, xc) =>
    let half : Rat := (d.w : Rat) / 2 + (v.fld .EJ_SPAN_MARGIN : Rat) / 64
    let valves := v.spanValves r ((xc : Rat) / 64 - half) ((xc : Rat) / 64 + half)
    let pw := max (v.fld .EJ_PW_MIN_VALUE : Int)
      (min (v.fld .EJ_PW_MAX_VALUE : Int) (v.fld .EJ_PW_BASE_VALUE + d.h * v.fld .EJ_PW_FACTOR_VALUE))
    let t := timeShift d.time tc
    if valves.isEmpty then none
    else some ⟨t, timeShift t (signed 24 (v.fld (.EJ_ROW_CTL_SHIFT r)) - pw / 2), pw.toNat, valves⟩

/-- The crossing of row `r` where R246 and R249 make it reachable. -/
def State.reach (v : State) (now : Time) (d : Decision) (r : Nat) : Option Cross :=
  match v.crossing d r with
  | some c => if v.inHorizon now d c.1 then v.cross d r else none
  | none => none

/-- The row at which an action fires (R230). -/
def actionRow (action : Nat) : Option Nat := if action = 1 then some 0 else if action = 2 then some 1 else none

/-- Is row `a` upstream of row `b` (R244)? -/
def State.upstream (v : State) (a b : Nat) : Bool :=
  let dist (r : Nat) : Int := signed 32 (v.fld (.EJ_ROW_DIST_DIST r))
  if v.flag .EJ_CFG_FALL then decide (dist b < dist a) else decide (dist a < dist b)

/-- R252: is an object protected at row `r` before any pulse of its tick is queued? -/
def State.protectedAt (v : State) (fire : Option Nat) (r : Nat) : Bool :=
  match fire with
  | none => true
  | some g => if g = r then false else if v.rowPresent g then v.upstream r g else true

/-! ## Planning one valve's pulse -/

/-- What becomes of a pulse on one valve. -/
inductive Plan where
  | late
  | overDuty
  | fresh (openAt closeAt : Time)
  /-- It merges with queued pulses: the first of them, and the merged open and close (R254). -/
  | join (first : Pulse) (all : List Pulse) (openAt closeAt : Time)
  deriving DecidableEq, Repr

/-- ns from `b` to `a`. -/
def after (a b : Time) : Int := timeDiff a b

/-- The later and the earlier of two times. -/
def laterOf (a b : Time) : Time := if 0 ≤ after a b then a else b
def earlierOf (a b : Time) : Time := if 0 ≤ after a b then b else a

/-- R254: the queued pulses of a valve that conflict with the interval, and those that conflict with the union. -/
def conflicting (gap : Nat) (all : List Pulse) : Nat → Time → Time → List Pulse
  | 0, _, _ => []
  | fuel + 1, o, c =>
    let hit := all.filter fun p => decide (after o p.closeAt < gap) && decide (after p.openAt c < gap)
    let o' := hit.foldl (fun t p => earlierOf t p.openAt) o
    let c' := hit.foldl (fun t p => laterOf t p.closeAt) c
    if o' = o ∧ c' = c then hit else conflicting gap all fuel o' c'

/-- The window of a commanded open (R255). -/
def dutyWindow (t : Time) : Nat := t.toNat / 10000000

/-- On-time counted for a valve in a window. -/
def State.dutyUsed (s : State) (valve window : Nat) : Nat := s.ej.duty.get (fun _ => 0) (window * 4096 + valve)

/-- R255: would `ns` more on-time exceed the valve's limit? -/
def State.exceedsDuty (s : State) (x : Valve) (window : Nat) (ns : Int) : Bool :=
  x.duty != 0 && decide (0 < ns) && decide ((10000 * x.duty : Nat) < (s.dutyUsed x.num window : Int) + ns)

/-- R255: the on-time counted for pulses of a valve outside a window moves into it, with their commanded open. -/
def State.moveDuty (s : State) (window : Nat) (ps : List Pulse) : State :=
  (ps.filter fun q => q.window != window).foldl (fun s q =>
    let ns := (after q.closeAt q.openAt).toNat
    let less := s.ej.duty.modify (fun _ => 0) (q.window * 4096 + q.valve) (· - ns)
    { s with ej := { s.ej with duty := less.modify (fun _ => 0) (window * 4096 + q.valve) (· + ns) } }) s

/-- R256: does an edge lie less than MIN_LEAD after now? -/
def State.tooSoon (s v : State) (t : Time) : Bool := decide (after t s.tb < v.fld .EJ_LEAD_MIN_LEAD)

/-- R254 to R256, R284: the plan for a pulse from `o` to `c` on a valve. A merged pulse counts, with what its parts counted,
in the window of its own commanded open (R255). -/
def State.plan (s v : State) (x : Valve) (o c : Time) : Plan :=
  let gap := 1000 * x.minOff
  let o1 := match s.ej.lastPulse.get (fun _ => none) x.num with
    | some (t, t') => if after o t' < gap ∧ after t c < gap then timeAfter t' gap else o
    | none => o
  if o1 ≠ o ∧ after c o1 < 10000 then .late
  else
    let mine := s.ej.pulses.filter (·.valve == x.num)
    let hit := conflicting gap mine (mine.length + 1) o1 c
    match hit with
    | [] =>
      if s.exceedsDuty x (dutyWindow o1) (after c o1) then .overDuty
      else if s.tooSoon v o1 then .late
      else .fresh o1 c
    | p :: ps =>
      let first := ps.foldl (fun b q => if after q.openAt b.openAt < 0 then q else b) p
      let last := hit.foldl (fun t q => laterOf t q.closeAt) p.closeAt
      let newOpen := if first.opened then first.openAt else earlierOf first.openAt o1
      let newClose := laterOf last c
      let held := (hit.map fun q => after q.closeAt q.openAt).sum
      let grow := after newClose newOpen - held
      let window := if first.opened then first.window else dutyWindow newOpen
      if (s.moveDuty window hit).exceedsDuty x window grow then .overDuty
      else if (newOpen ≠ first.openAt && s.tooSoon v newOpen) ||
          (hit.any (fun q => q.closeAt != newClose) && s.tooSoon v newClose) then .late
      else .join first hit newOpen newClose

/-- A plan is carried out on a valve for a decision: the latest commanded close comes with the state. -/
def State.commitPlan (s : State) (x : Valve) (d : Decision) (tick : Nat) : Plan → State × Option Time
  | .fresh o c =>
    let p : Pulse :=
      { valve := x.num, direct := x.direct, port := x.port, pos := x.pos, openAt := o, closeAt := c, opened := false, latch := o,
        window := dutyWindow o, tick := tick, owners := if d.context.isSome then [d.objId] else [] }
    ({ s with ej := { s.ej with
        pulses := s.ej.pulses ++ [p]
        duty := s.ej.duty.modify (fun _ => 0) (p.window * 4096 + x.num) (· + (after c o).toNat) } }, some c)
  | .join first all o c =>
    let held := (all.map fun q => after q.closeAt q.openAt).sum
    let window := if first.opened then first.window else dutyWindow o
    let s := s.moveDuty window all
    let merged : Pulse := { first with
      openAt := o, closeAt := c, window := window, tick := (all.map (·.tick)).foldl min tick
      owners := (all.flatMap (·.owners)) ++ if d.context.isSome then [d.objId] else [] }
    let pulses := (s.ej.pulses.map fun q => if q = first then merged else q).filter fun q =>
      q == merged || !all.contains q
    ({ s with ej := { s.ej with
        pulses := pulses
        duty := s.ej.duty.modify (fun _ => 0) (window * 4096 + x.num) (· + (after c o - held).toNat) } }.count
      .EJ_MERGED_COUNT all.length, some c)
  | _ => (s, none)

/-! ## Queuing a tick's decisions -/

/-- The passages of a decision of a tick at every present row (R251, R252). An object that fires at a row beyond its reach
is protected there at once. -/
def State.passagesOf (v : State) (now : Time) (tick : Nat) (fire : Option Nat) (d : Decision) : List Passage :=
  v.presentRows.filterMap fun r => (v.cross d r).map fun c =>
    { objId := d.objId, row := r, start := c.start, stop := timeAfter c.start c.width
      valves := c.valves.map (·.num), cls := d.mergeClass
      protect := v.protectedAt fire r || (v.reach now d r).isNone, tick := tick, fired := [] }

/-- Do the passage of an object and a pulse of another at its row overlap in time on a valve of the list (R253)? -/
def Passage.meets (p : Passage) (id row : Nat) (start stop : Time) (valves : List Nat) : Bool :=
  p.objId != id && p.row == row && decide (after start p.stop < 0) && decide (after p.start stop < 0) &&
    valves.any p.valves.contains

/-- R253: the passages with which the pulse of a firing decision at row `r` conflicts. -/
def State.conflicts (s : State) (d : Decision) (r : Nat) (c : Cross) : List Passage :=
  s.ej.passages.filter fun p =>
    p.protect && p.meets d.objId r c.start (timeAfter c.start c.width) (c.valves.map (·.num))

/-- The decisions of a tick under queuing. -/
abbrev Queuing := State × List Decision

/-- A flag is set in the decisions of the tick that have the OBJ_IDs given. -/
def flagAll (i : Nat) (ids : List Nat) (ds : List Decision) : List Decision :=
  ds.map fun d => if ids.contains d.objId then d.flag i else d

/-- R252: the pulses of an object at a row were not queued: it is protected there from now on. -/
def State.protect (s : State) (id r : Nat) : State :=
  { s with ej := { s.ej with passages := s.ej.passages.map fun p =>
      if p.objId = id ∧ p.row = r then { p with protect := true } else p } }

/-- The passage of an object at a row holds the valves on which its pulses are queued. -/
def State.noteFired (s : State) (id r tick : Nat) (valves : List Nat) : State :=
  { s with ej := { s.ej with passages := s.ej.passages.map fun p =>
      if p.objId = id ∧ p.row = r ∧ p.tick = tick then { p with fired := valves } else p } }

/-- R253: a passage of a tick, protected, conflicts with pulses that objects of earlier ticks have queued: these stand. Each
pair counts, and shows in the record of the protected object alone, since the other has been handed over. -/
def pastConflicts (acc : Queuing) (p : Passage) : Queuing :=
  let hit := acc.1.ej.passages.filter fun f => f.tick != p.tick && p.meets f.objId f.row f.start f.stop f.fired
  if hit.isEmpty then acc else (acc.1.count .EJ_CONFLICT_COUNT hit.length, flagAll 9 [p.objId] acc.2)

/-- The valve fields of a context after queuing (R258). -/
def State.noteQueued (s : State) (d : Decision) (lastFire : Nat) : State :=
  match d.context with
  | none => s
  | some i => { s with tracker := { s.tracker with
      tracks := s.tracker.tracks.modify (fun _ => Track.free) i fun t =>
        { t with firstValve := d.firstValve, row := d.row, valveCount := d.valveCount, pending := d.valveCount,
                 lastFire := lastFire } } }

/-- A decision is replaced in the list of its tick. -/
def putDecision (d : Decision) (ds : List Decision) : List Decision :=
  ds.map fun e => if e.objId = d.objId then d else e

/-- R253 to R258: the pulses of one firing decision, at row `r`, are queued or not. Between objects of different ticks the
earlier decision prevails whatever the policy: a passage of an earlier tick takes every valve of a conflict from the pulse
(DEDUCED, log 35). -/
def fireDecision (v : State) (tick r : Nat) (acc : Queuing) (id : Nat) : Queuing :=
  match acc.2.find? fun d => d.objId == id with
  | none => acc
  | some d =>
    let s := acc.1
    match (if v.rowPresent r then v.reach s.tb d r else none) with
    | none => ((s.count .EJ_NOREACH_COUNT 1).protect id r, putDecision (d.flag 8) acc.2)
    | some c =>
      let cs := s.conflicts d r c
      let yield_ := cs.filter fun p => p.tick != tick || !v.rejectPriority d.mergeClass p.cls
      let removed := c.valves.filter fun x => yield_.any fun p => p.valves.contains x.num
      let s1 := (s.count .EJ_CONFLICT_COUNT cs.length).count .EJ_SUPPRESSED_COUNT removed.length
      let ds1 := flagAll 9 (if cs.isEmpty then [] else d.objId :: cs.map (·.objId)) acc.2
      let d1 := if cs.isEmpty then d else d.flag 9
      let plans := (c.valves.filter fun x => !removed.contains x).map fun x =>
        let o := timeShift c.start (-(x.latOpen : Int))
        (x, s1.plan v x o (laterOf (timeAfter o 10000) (timeShift (timeAfter c.start c.width) (-(x.latClose : Int)))))
      let lates := (plans.filter fun p => p.2 == .late).length
      let duties := (plans.filter fun p => p.2 == .overDuty).length
      let s2 := (s1.count .EJ_LATE_COUNT lates).count .EJ_DUTY_COUNT duties
      let d2 := if duties = 0 then d1 else d1.flag 10
      let d3 := if lates = 0 then d2 else d2.flag 11
      let go := plans.filter fun p => p.2 != .late && p.2 != .overDuty
      let fresh := (go.filter fun p => match p.2 with | .fresh _ _ => true | _ => false).length
      if 262144 < s2.ej.pulses.length + fresh then
        ((s2.count .EJ_QFULL_COUNT 1).protect id r, putDecision (d3.flag 8) ds1)
      else if go.isEmpty then
        (if removed.isEmpty then s2.protect id r else s2, putDecision d3 ds1)
      else
        let (s3, closes) := go.foldl (fun (a : State × List Time) p =>
          let (t, c) := a.1.commitPlan p.1 d3 tick p.2
          (t, a.2 ++ c.toList)) (s2, [])
        let d4 := { d3 with
          row := r, firstValve := (go.map fun p => p.1.num).foldl min 4095, valveCount := go.length, fireTime := c.start }
        ((s3.noteFired id r tick (go.map fun p => p.1.num)).noteQueued d4 (closes.foldl laterOf (closes.headD 0)).toNat, putDecision d4 ds1)

/-- R258: the fire time of an object that was not fired: t_c at the downstream present row that it reaches. -/
def State.passTime (v : State) (now : Time) (d : Decision) : Decision :=
  if d.valveCount != 0 then d
  else
    let rows := v.presentRows.filterMap fun r => (v.reach now d r).map fun c => (r, c.tc)
    match rows with
    | [] => d
    | [(r, t)] => { d with row := r, fireTime := t }
    | (r, t) :: (r', t') :: _ => if v.upstream r r' then { d with row := r', fireTime := t' } else { d with row := r, fireTime := t }

/-- The order in which firing decisions are queued: t_c at the firing row, then OBJ_ID (R251). -/
def State.queueKey (v : State) (now : Time) (r : Nat) (d : Decision) : Nat :=
  match v.reach now d r with
  | some c => (after c.tc now + 2 ^ 63).toNat * 2 ^ 32 + d.objId
  | none => d.objId

/-- R251 to R258: the decisions of a tick queue their pulses. `noFire`: none of them does (R74, R262). -/
def State.queueTick (s v : State) (noFire : Bool) (tick : Nat) (ds : List Decision) : Queuing :=
  let now := s.tb
  let fire (d : Decision) : Option Nat := if noFire then none else actionRow d.action
  let kept := s.ej.passages.filter fun p => decide (0 < after p.stop now)
  let s1 := { s with ej := { s.ej with passages := kept ++ ds.flatMap fun d => v.passagesOf now tick (fire d) d } }
  let firing := (ds.filterMap fun d => (fire d).map fun r => (v.queueKey now r d, r, d.objId))
  let past := (s1.ej.passages.filter fun p => p.tick == tick && p.protect).foldl pastConflicts (s1, ds)
  let (s2, ds2) := (sortBy (·.1) firing).foldl (fun acc e => fireDecision v tick e.2.1 acc e.2.2) past
  (s2, ds2.map (v.passTime now))

end Sys2Proof.Machine
end

