-- ==== Sys2Proof/Machine/Tracker.lean ====
section
/-! DEFINITION. Sightings, association and the track contexts (R215 to R227, R231, R233). Times are taken in ms as exact
numbers; positions are held with 6 fraction bits, velocities with 8 and accelerations with 16 (R218). -/

namespace Sys2Proof.Machine

/-! ## Rounding and prediction -/

/-- A value limited to a signed field of `w` bits. -/
def limitS (w : Nat) (v : Int) : Int := max (-(2 ^ (w - 1) : Nat)) (min ((2 ^ (w - 1) : Nat) - 1) v)

/-- round_f of the chapter, as the raw value of a signed field of `w` bits. -/
def roundField (f w : Nat) (v : Rat) : Int := limitS w (v * (2 ^ f : Nat) + 1 / 2).floor

/-- ns from the state time of a track to `t`. -/
def Track.since (x : Track) (t : Time) : Int := timeDiff t x.time

/-- The prediction of R221 for one axis after `dt` ms. -/
def predictAxis (pos vel acc : Int) (dt : Rat) : Rat :=
  (pos : Rat) / 64 + (vel : Rat) / 256 * dt + (acc : Rat) / 65536 * dt * dt / 2

/-- The prediction of a track `ns` after its state time (R221). -/
def Track.predict (x : Track) (ns : Int) : Rat × Rat :=
  let dt : Rat := (ns : Rat) / 1000000
  (predictAxis x.x x.vx x.ax dt, predictAxis x.y x.vy x.ay dt)

/-! ## Sightings -/

/-- A sighting of a round: its place in the closing order, its segment and its position (R215). -/
structure Sighting where
  pos : Nat
  seg : Segment
  x : Rat
  y : Rat

/-- R215: the position of a segment of a round. -/
def sightingOf (v : State) (cam : Nat) (e : Segment × Nat) : Sighting :=
  let a : Rat := 2 * e.1.area
  let cx : Rat := e.1.sumX / a
  let cy : Rat := e.1.sumY / a
  if cam = 0 then
    { pos := e.2, seg := e.1, x := (roundField 6 24 cx : Rat) / 64, y := (roundField 6 24 cy : Rat) / 64 }
  else
    let ofs (f : Fld) : Rat := (signed 24 (v.fld f) : Rat) / 64
    let scale (f : Fld) : Rat := (signed 16 (v.fld f) : Rat) / 4096
    { pos := e.2, seg := e.1,
      x := ofs (.TRK_CAM_XOFS_OFS (cam - 1)) + scale (.TRK_CAM_SCALE_XSCALE (cam - 1)) * cx,
      y := ofs (.TRK_CAM_YOFS_OFS (cam - 1)) + scale (.TRK_CAM_SCALE_YSCALE (cam - 1)) * cy }

/-- The segments of a round as sightings; OVERLOAD segments are told apart by their flag. -/
def Round.sightings (r : Round) (v : State) : List Sighting := r.segs.zipIdx.map (sightingOf v r.cam)

/-- The split and edge flags of a segment, as a track's FLAGS hold them (R223). -/
def Segment.trackFlags (x : Segment) : Nat := 4 * boolNat x.split + 8 * boolNat x.edge

/-! ## Contexts -/

/-- A context. -/
def State.track (s : State) (i : Nat) : Track := s.tracker.tracks.get (fun _ => Track.free) i

/-- A context is changed. -/
def State.modTrack (s : State) (i : Nat) (f : Track → Track) : State :=
  { s with tracker := { s.tracker with tracks := s.tracker.tracks.modify (fun _ => Track.free) i f } }

/-- A context becomes FREE; its fused vector stays readable (R388). -/
def State.freeTrack (s : State) (i : Nat) : State := s.modTrack i fun x => { Track.free with fused := x.fused }

/-- Is a track live (R223)? A DECIDED track that R233 ended is not. -/
def Track.live (x : Track) : Bool := x.state == 1 || (x.state == 2 && !x.ended)

/-- The live tracks, in ascending index (R223). -/
def State.liveTracks (s : State) : List (Nat × Track) := s.tracker.tracks.filter fun e => e.2.live

/-- The lowest number from `n` on that a rising list does not hold. -/
def firstGap (n : Nat) : List Nat → Nat
  | [] => n
  | x :: xs => if x = n then firstGap (n + 1) xs else firstGap n xs

/-- The lowest free index of a bank role. -/
def State.freeIn (s : State) (role : Nat) : Option Nat :=
  let used := (s.tracker.tracks.filter fun e => e.1 / 16384 == role && e.2.state != 0).map (·.1)
  let i := firstGap (16384 * role) used
  if i / 16384 = role && !s.roleLost 6 role then some i else none

/-- R217: the context of the next new track; none where every role is full or lost. -/
def State.allocate (s : State) : Option (Nat × State) :=
  ((List.range 16).findSome? fun k => s.freeIn ((s.tracker.lastRole + 1 + k) % 16)).map fun i =>
    (i, { s with tracker := { s.tracker with lastRole := i / 16384 } })

/-- Takes the next OBJ_ID (R218). -/
def State.takeId (s : State) : Nat × State :=
  (s.tracker.nextId, { s with tracker := { s.tracker with nextId := (s.tracker.nextId + 1) % 2 ^ 32 } })

/-! ## Fusion -/

/-- A rule of R220 on one value. -/
def fuseRule (rule : Nat) (larger : Bool) (f s : Int) : Int :=
  match rule with
  | 0 => if larger then s else f
  | 1 => max f s
  | 2 => min f s
  | _ => (3 * f + s + 2) / 4

/-- The rule of a feature (R220). -/
def State.fuseRuleOf (v : State) (i : Nat) : Nat := v.fld (.TRK_FUSE_RULES (i / 16)) / 4 ^ (i % 16) % 4

/-- R220: feature `i` of a sighting is combined into a fused value. -/
def State.fuseFeature (v : State) (i : Nat) (larger : Bool) (f s : Nat) : Nat :=
  let rule := fuseRule (v.fuseRuleOf i) larger
  if i = 9 then unsigned 16 (rule (signed 16 f) (signed 16 s))
  else if i < 32 then (rule f s).toNat
  else (rule (f % 256 : Nat) (s % 256 : Nat)).toNat + 256 * (rule (f / 256 : Nat) (s / 256 : Nat)).toNat

/-- R220: the fused vector after an own-array sighting. -/
def State.fuseOwn (v : State) (larger : Bool) (f s : List Nat) : List Nat :=
  f.zipIdx.map fun e => v.fuseFeature e.2 larger e.1 (s.getD e.2 0)

/-- R220: the features of slot 0 of a companion sighting, with the features of the slot that they feed. -/
def companionFeatures (slot : Nat) : List (Nat × Nat) :=
  [(11, 11 + slot), (15, 15 + slot), (24, 24 + slot), (28, 28 + slot), (32, 32 + 8 * slot), (33, 33 + 8 * slot),
   (34, 34 + 8 * slot), (35, 35 + 8 * slot)]

/-- R220: the fused vector after a companion sighting. -/
def State.fuseCompanion (v : State) (slot : Nat) (larger : Bool) (f s : List Nat) : List Nat :=
  (companionFeatures slot).foldl (fun f e => f.set e.2 (v.fuseFeature e.1 larger (f.getD e.2 0) (s.getD e.1 0))) f

/-! ## The update of R221 -/

/-- The gains of a track whose SIGHT is `k`: ALPHA, BETA, GAMMA. -/
def State.gainsOf (v : State) (k : Nat) : Nat × Nat × Nat :=
  let i := min k 15 - 1
  (v.fld (.TRK_GAIN_ALPHA i), v.fld (.TRK_GAIN_BETA i), v.fld (.TRK_GAIN_GAMMA i))

/-- R221: position, velocity and acceleration of one axis after a sighting at `z`, `ns` after the state time. -/
def State.updateAxis (v : State) (k : Nat) (isY : Bool) (ns : Int) (pos vel acc : Int) (z : Rat) : Int × Int × Int :=
  let dt : Rat := (ns : Rat) / 1000000
  let (alpha, beta, gamma) := v.gainsOf k
  let p := predictAxis pos vel acc dt
  let pv : Rat := (vel : Rat) / 256 + (acc : Rat) / 65536 * dt
  let r := z - p
  let vel' := if (max (v.fld .TRK_DT_DTV) 1 : Nat) ≤ ns then pv + beta * r / (512 * dt) else pv
  let acc' := if (max (v.fld .TRK_DT_DTA) 1 : Nat) ≤ ns && (isY || v.flag .TRK_CFG_AX_EN)
    then roundField 16 24 ((acc : Rat) / 65536 + 2 * gamma * r / (512 * dt * dt)) else acc
  (roundField 6 24 (p + alpha * r / 512), roundField 8 16 vel', acc')

/-- R221: the state of a track after a sighting. -/
def State.updateTrack (v : State) (x : Track) (t : Time) (o : Sighting) : Track :=
  let ns := x.since t
  let a := v.updateAxis x.sight false ns x.x x.vx x.ax o.x
  let b := v.updateAxis x.sight true ns x.y x.vy x.ay o.y
  { x with time := t, x := a.1, vx := a.2.1, ax := a.2.2, y := b.1, vy := b.2.1, ay := b.2.2 }

/-- R223: a sighting is counted in an OPEN track. -/
def State.countOpen (v : State) (tick : Nat) (t : Time) (o : Sighting) (x : Track) : Track :=
  let larger := decide (x.repArea ≤ o.seg.area)
  { v.updateTrack x t o with
    sight := min 255 (x.sight + 1), lastTick := tick, miss := 0, camMask := putBit x.camMask 0 true
    flags := x.flags ||| o.seg.trackFlags, fused := v.fuseOwn larger x.fused o.seg.feats
    repArea := if larger then o.seg.area else x.repArea }

/-- R223: a sighting is counted in context `i`. -/
def State.countIn (s v : State) (tick : Nat) (t : Time) (o : Sighting) (i : Nat) : State :=
  if (s.track i).state = 2 then
    (s.modTrack i fun x => { v.updateTrack x t o with miss := 0 }).count .TRK_POSTDEC_COUNT 1
  else s.modTrack i (v.countOpen tick t o)

/-! ## Gates -/

/-- GX and GY of R222 in px, `ns` after the state time of a track with SIGHT `k`. -/
def State.gate (v : State) (companion : Bool) (k : Nat) (ns : Int) : Rat × Rat :=
  let dt : Rat := (ns : Rat) / 1000000
  let g (b r : Fld) : Rat := (v.fld b : Rat) / 64 + (v.fld r : Rat) / 256 * dt
  if companion then (g .TRK_GATEC_GX .TRK_GATEC_R_GX, g .TRK_GATEC_GY .TRK_GATEC_R_GY)
  else if k = 1 then (g .TRK_GATE1_GX .TRK_GATE1_R_GX, g .TRK_GATE1_GY .TRK_GATE1_R_GY)
  else (g .TRK_GATE_GX .TRK_GATE_R_GX, g .TRK_GATE_GY .TRK_GATE_R_GY)

/-- The square of a residual over its semi-axis; a free value where the semi-axis is 0 (log 24). -/
def gateTerm (draw i : Nat) (r g : Rat) : Rat := if g = 0 then (Config.freeAt draw i : Nat) else r / g * (r / g)

/-- The normalised distance d(o, t) of R222. -/
def State.distance (v : State) (companion : Bool) (draw : Nat) (t : Time) (o : Sighting) (e : Nat × Track) : Rat :=
  let ns := e.2.since t
  let p := e.2.predict ns
  let g := v.gate companion e.2.sight ns
  gateTerm draw (2 * (o.pos * 2 ^ 18 + e.1)) (o.x - p.1) g.1 +
    gateTerm draw (2 * (o.pos * 2 ^ 18 + e.1) + 1) (o.y - p.2) g.2

/-- The tracks in whose gate a sighting lies, with their distances. -/
def State.candidatesOf (v : State) (companion : Bool) (draw : Nat) (t : Time) (live : List (Nat × Track))
    (o : Sighting) : List (Nat × Rat) :=
  (live.map fun e => (e.1, v.distance companion draw t o e)).filter fun c => decide (c.2 ≤ 1)

/-- The member of a list with the least value; the first of equal ones. -/
def leastBy {α : Type} (f : α → Rat) : List α → Option α
  | [] => none
  | x :: xs => match leastBy f xs with
    | none => some x
    | some y => if f y < f x then some y else some x

/-- A claim of R223: a sighting, the track that claims it, and their distance. -/
structure Claim where
  sighting : Sighting
  track : Nat
  dist : Rat

/-- R223: the claim of a sighting on its nearest track. -/
def claimOf (o : Sighting) (cand : List (Nat × Rat)) : Option Claim :=
  (leastBy (·.2) cand).map fun c => ⟨o, c.1, c.2⟩

/-! ## Untracked objects -/

/-- R231, R259: the untracked object of a segment. -/
def State.untrackedOf (v : State) (tick : Nat) (r : Round) (o : Sighting) (id : Nat) : Untracked :=
  let b := o.seg.box
  { objId := id, overload := o.seg.overload, firstTick := tick, lastTick := tick, time := r.time, x := roundField 6 24 o.x, y := roundField 6 24 o.y
    vx := signed 16 (v.fld .TRK_VNOM_VX), vy := signed 16 (v.fld .TRK_VNOM_VY), ax := 0
    ay := signed 24 (v.fld .TRK_ANOM_AY), w := b.2.1 + 1 - b.1, h := b.2.2.2 + 1 - b.2.2.1, area := o.seg.area
    camMask := 2 ^ r.cam, flags := o.seg.trackFlags + 16 * boolNat o.seg.overload }

/-- Have the decisions of a frame been made, at the end of its last round or, for a lost one, at the next edge (R262)? -/
def Frame.decided (f : Frame) : Bool := if f.clockLoss then f.settled else f.done

/-- R231, R354: the tick whose decisions an untracked object of tick `tick` joins: its own, or the first one still to be
decided where those of its own have been made; none where every tick begun has been decided. -/
def State.decisionTick (s : State) (tick : Nat) : Option Nat :=
  let left := s.frames.filter fun (f : Frame) => !f.decided
  match left.find? fun (f : Frame) => f.tick == tick with
  | some f => some f.tick
  | none => left.head?.map (·.tick)

/-- An untracked object joins those of its tick, or of the tick that is decided next. -/
def State.addUntracked (s : State) (tick : Nat) (u : Untracked) : State :=
  match s.decisionTick tick with
  | some t => s.modFrame t fun x => { x with untracked := x.untracked ++ [u] }
  | none => { s with tracker := { s.tracker with late := s.tracker.late ++ [u] } }

/-- A segment of a round becomes an untracked object with the next OBJ_ID. -/
def State.loseSighting (s v : State) (f : Frame) (r : Round) (o : Sighting) : State :=
  let (id, s1) := s.takeId
  s1.addUntracked f.tick (v.untrackedOf f.tick r o id)

/-- R224: no context could be allocated for a sighting. -/
def State.noContext (s v : State) (f : Frame) (r : Round) (o : Sighting) : State :=
  (s.count .TRK_NOCTX_COUNT 1).loseSighting v f r o

/-! ## New tracks and splits -/

/-- The new track of a sighting (R224). -/
def State.newTrack (v : State) (tick id : Nat) (t : Time) (o : Sighting) : Track :=
  { Track.free with
    state := 1, objId := id, parent := id, firstTick := tick, lastTick := tick, time := t
    x := roundField 6 24 o.x, y := roundField 6 24 o.y
    vx := signed 16 (v.fld .TRK_VNOM_VX), vy := signed 16 (v.fld .TRK_VNOM_VY), ay := signed 24 (v.fld .TRK_ANOM_AY)
    camMask := 1, sight := 1, flags := o.seg.trackFlags, repArea := o.seg.area, fused := o.seg.feats }

/-- What a round has done: the state, and the contexts that counted a sighting. -/
abbrev RoundAcc := State × List Nat

/-- R224: a new track starts from a sighting. -/
def startTrack (v : State) (f : Frame) (r : Round) (acc : RoundAcc) (o : Sighting) : RoundAcc :=
  match acc.1.allocate with
  | none => (acc.1.noContext v f r o, acc.2)
  | some (i, s1) =>
    let (id, s2) := s1.takeId
    (s2.modTrack i fun _ => v.newTrack f.tick id r.time o, i :: acc.2)

/-- FLAGS bits of a context (R218). -/
def Track.setFlag (x : Track) (b : Nat) : Track := { x with flags := putBit x.flags b true }

/-- R223: track `i` is split with a sighting; `was` is the track as it stood before its own sighting was counted. -/
def splitTrack (v : State) (f : Frame) (r : Round) (i : Nat) (acc : RoundAcc) (o : Sighting) : RoundAcc :=
  let s := acc.1.modTrack i (·.setFlag 0)
  match s.allocate with
  | none => (s.noContext v f r o, acc.2)
  | some (j, s1) =>
    let (id, s2) := s1.takeId
    let was := s2.track i
    let s3 := (s2.modTrack j fun _ => { was.setFlag 1 with objId := id, parent := was.objId }).count .TRK_AMBIG_COUNT 1
    (s3.countIn v f.tick r.time o j, j :: acc.2)

/-- R223: what a track does with the sightings that it claims. -/
def resolveClaims (v : State) (f : Frame) (r : Round) (claims : List Claim) (acc : RoundAcc) (i : Nat) : RoundAcc :=
  let mine := claims.filter (·.track == i)
  match leastBy (·.dist) mine with
  | none => acc
  | some c =>
    let others := mine.filter fun d => d.sighting.pos != c.sighting.pos
    let acc1 :=
      if (acc.1.track i).state = 2 then (acc.1.count .TRK_POSTDEC_COUNT others.length, acc.2)
      else others.foldl (fun a d => splitTrack v f r i a d.sighting) acc
    (acc1.1.countIn v f.tick r.time c.sighting i, i :: acc1.2)

/-! ## Rounds -/

/-- R66: an OVERLOAD segment marks the nearest live track in whose gate it lies, and becomes an untracked object. -/
def State.overloadSegment (s v : State) (f : Frame) (r : Round) (draw : Nat) (o : Sighting) : State :=
  let s1 := match claimOf o (v.candidatesOf (r.cam != 0) draw r.time s.liveTracks o) with
    | some c => s.modTrack c.track (·.setFlag 4)
    | none => s
  s1.loseSighting v f r o

/-- Does a value lie within the pixel extents of a band from `first` on of `n` pixels (R79, R227)? -/
def inExtent (x : Rat) (first : Int) (n : Nat) : Bool :=
  decide ((first : Rat) - 1 / 2 ≤ x) && decide (x < (first : Rat) + n - 1 / 2)

/-- The dark rows that a frame of SERVICE reads as if they formed row bands (R144). -/
def State.darkBands (v : State) : List (Int × Nat) :=
  if v.mode = serviceMode then
    (if v.flag .RO_SVC_DARK_TOP then [(-12, 12)] else []) ++ if v.flag .RO_SVC_DARK_BOT then [(1536, 12)] else []
  else []

/-- R227: does a prediction lie within a row band and a column band that were read? -/
def State.inBands (v : State) (p : Rat × Rat) : Bool :=
  (v.rowBands.any (fun b => inExtent p.2 b.1 b.2) || v.darkBands.any fun b => inExtent p.2 b.1 b.2) &&
    v.colBands.any fun b => inExtent p.1 (64 * b.1) (64 * b.2)

/-- R227: the live tracks that counted no sighting in a round and were to be seen in it miss once more. -/
def State.countMisses (s v : State) (r : Round) (live : List (Nat × Track)) (counted : List Nat) : State :=
  if r.capped then s
  else live.foldl (fun s e =>
    if counted.contains e.1 || !v.inBands (e.2.predict (e.2.since r.time)) then s
    else s.modTrack e.1 fun x => { x with miss := min 255 (x.miss + 1) }) s

/-- R223, R224, R66, R227: an own-array round. A frame of SERVICE whose rounds come after SERVICE was left starts no track
(R73). -/
def State.ownRound (s v : State) (f : Frame) (r : Round) : State :=
  let (draw, s0) := s.free
  let live := s0.liveTracks
  let all := r.sightings v
  let seen := (all.filter fun o => !o.seg.overload).map fun o => (o, v.candidatesOf false draw r.time live o)
  let s1 := seen.foldl (fun s e =>
    if 2 ≤ e.2.length then e.2.foldl (fun s c => s.modTrack c.1 (·.setFlag 0)) s else s) s0
  let claims := seen.filterMap fun e => claimOf e.1 e.2
  let acc := (live.map (·.1)).foldl (resolveClaims v f r claims) (s1, [])
  let new := if f.tick < s0.tracker.leftService then [] else seen.filter fun e => e.2.isEmpty
  let acc2 := new.foldl (fun a e => startTrack v f r a e.1) acc
  let s2 := (all.filter (·.seg.overload)).foldl (fun s o => s.overloadSegment v f r draw o) acc2.1
  s2.countMisses v r live acc2.2

/-- R220, R226: a companion sighting is counted in a track. -/
def State.countCompanion (v : State) (cam : Nat) (o : Sighting) (x : Track) : Track :=
  let slot := v.fld (.TRK_CAM_SLOT_SLOT (cam - 1))
  let larger := decide (x.repArea ≤ o.seg.area)
  let y := { x with camMask := putBit x.camMask cam true }
  if slot < 4 then
    { y with fused := v.fuseCompanion slot larger x.fused o.seg.feats
             repArea := if larger then o.seg.area else x.repArea }
  else y

/-- R226: a companion round. -/
def State.companionRound (s v : State) (f : Frame) (r : Round) : State :=
  let (draw, s0) := s.free
  let live := s0.liveTracks
  let all := r.sightings v
  let seen := (all.filter fun o => !o.seg.overload).map fun o => (o, v.candidatesOf true draw r.time live o)
  let claims := seen.filterMap fun e => claimOf e.1 e.2
  let kept := live.filterMap fun e => leastBy (·.dist) (claims.filter (·.track == e.1))
  let s1 := kept.foldl (fun s c => s.modTrack c.track (v.countCompanion r.cam c.sighting)) s0
  let s2 := s1.count .TRK_ORPHAN_COUNT (seen.length - kept.length)
  (all.filter (·.seg.overload)).foldl (fun s o => s.overloadSegment v f r draw o) s2

/-! ## Contexts that are lost -/

/-- R233: the untracked object that an OPEN track becomes: its last state, a new OBJ_ID, and the FLAGS of R231. -/
def Track.lose (x : Track) (id : Nat) : Untracked :=
  { objId := id, overload := false, firstTick := x.firstTick, lastTick := x.lastTick, time := x.time, x := x.x, y := x.y, vx := x.vx, vy := x.vy, ax := x.ax, ay := x.ay
    w := (x.fused.getD 2 0 : Int) + 1 - x.fused.getD 1 0, h := (x.fused.getD 4 0 : Int) + 1 - x.fused.getD 3 0
    area := x.repArea, camMask := x.camMask, flags := x.flags / 4 % 4 * 4 }

end Sys2Proof.Machine
end

