-- ==== Sys2Proof/Machine/Decide.lean ====
section
/-! DEFINITION. The end of a tick's rounds: due tracks, decisions, object records, crops and releases (R67, R72 to R74,
R228 to R231, R237 to R243, R259, R375 to R379), and the rounds as commands. -/

namespace Sys2Proof.Machine

/-! ## Due tracks -/

/-- R228: does a prediction at T + LOOK lie outside what was read? -/
def State.leaving (v : State) (x : Track) : Bool :=
  let p := x.predict (v.fld .TRK_LOOK_LOOK)
  let inside (q : Rat) (l : List Int) : Bool :=
    match l with
    | [] => false
    | a :: _ => decide ((l.foldl min a : Rat) - 1 / 2 ≤ q) && decide (q < (l.foldl max a : Rat) + 1 / 2)
  !(inside p.2 v.rows && inside p.1 (v.columns.map fun c => (c : Int)))

/-- MISS_MAX; 0 acts as 1. -/
def State.missMax (v : State) : Nat := max 1 (v.fld .TRK_CFG_MISS_MAX)

/-- R228: is an OPEN track due after the last round of a frame? -/
def State.isDue (v : State) (x : Track) : Bool :=
  x.state == 1 && (decide (max 1 (v.fld .TRK_CFG_DUE_N) ≤ x.sight) || decide (v.missMax ≤ x.miss) || v.leaving x)

/-- R229: may a DECIDED track be released? -/
def State.isOver (v : State) (x : Track) : Bool :=
  x.state == 2 && x.pending == 0 && (x.ended || decide (v.missMax ≤ x.miss) || v.leaving x)

/-! ## Decisions -/

/-- The decisions per tick of a mode (R64). -/
def modeCap (mode : Nat) : Nat := if mode = 3 then 8192 else if mode = 4 then 1024 else 16384

/-- R243: the decision cap of a frame, by the classifier roles lost at its edge. -/
def Frame.decisionCap (f : Frame) : Nat :=
  modeCap f.mode * (4 - ((List.range 4).filter fun r => f.roleLost 7 r).length) / 4

/-- What a context gives its decision (R245, R249, R375). -/
def Track.decision (x : Track) (i : Nat) : Decision :=
  { objId := x.objId, parent := x.parent, context := some i, status := .ok, cls := 0, conf := 0, action := 0
    mergeClass := 0, time := x.time, x := x.x, y := x.y, vx := x.vx, vy := x.vy, ax := x.ax, ay := x.ay
    w := (x.fused.getD 2 0 : Int) + 1 - x.fused.getD 1 0, h := (x.fused.getD 4 0 : Int) + 1 - x.fused.getD 3 0
    firstTick := x.firstTick, lastTick := x.lastTick, sight := x.sight, area := x.repArea, camMask := x.camMask
    flags := x.flags % 32, row := 0, firstValve := 0, valveCount := 0, fireTime := 0 }

/-- R67: the earliest crossing of a decision at any present row, in ns from now. A crossing counts whether or not the
decision's span covers a valve there (DESIGN CHOICE, log 34). -/
def State.earliestCrossing (v : State) (now : Time) (d : Decision) : Option Int :=
  let ts := v.presentRows.filterMap fun r => match v.crossing d r with
    | some c => if v.inHorizon now d c.1 then some (c.1 + timeDiff d.time now) else none
    | none => none
  match ts with
  | [] => none
  | t :: rest => some (rest.foldl min t)

/-- R67: the order in which due tracks count against the cap. -/
def State.capKey (v : State) (now : Time) (d : Decision) : Nat :=
  match v.earliestCrossing now d with
  | some t => (t + 2 ^ 64).toNat
  | none => 2 ^ 66

/-- R67, R259: a decision beyond the cap. -/
def State.overloadDecision (v : State) (d : Decision) : Decision :=
  { d with status := .overload, action := v.fld .TRK_ACT_OVL, mergeClass := v.fld .EJ_CFG_UNT_CLASS }

/-- R225, R242: the outcome of a forced ambiguity policy; of the values 5 to 7, which no group may set, the action is a
free value (log 24). -/
def State.forcedDecision (v : State) (draw : Nat) (d : Decision) : Decision :=
  let p := v.fld .TRK_ACT_AMBIG
  { d.flag 6 with
    action := if p ≤ 4 then p - 1 else Config.freeAt draw p % 4, mergeClass := v.fld .EJ_CFG_UNT_CLASS }

/-- R241, R242: the outcome of the forest. -/
def Decision.classify (d : Decision) (c : Verdict) : Decision :=
  let e := { d with cls := c.cls, conf := c.conf, action := c.action, mergeClass := c.cls }
  if c.fallback then e.flag 5 else e

/-- R241: a due track within the cap is decided. -/
def State.decideOne (v : State) (draw : Nat) (s : State) (d : Decision) : State × Decision :=
  if d.flags % 2 = 1 && v.fld .TRK_ACT_AMBIG != 0 then (s, v.forcedDecision draw d)
  else
    let c := v.forest ((d.context.map fun i => (s.track i).fused).getD [])
    let s1 := if c.fallback then s.count .CLS_FALLBACK_CNT_COUNT 1 else s
    (s1.count (.CLS_CLASS_COUNT c.cls) 1, d.classify c)

/-- R231, R259: the decision of an untracked object. -/
def State.untrackedDecision (v : State) (u : Untracked) : Decision :=
  { objId := u.objId, parent := u.objId, context := none, status := if u.overload then .overload else .noContext
    cls := 0, conf := 0, action := if u.overload then v.fld .TRK_ACT_OVL else v.fld .TRK_ACT_NOCTX
    mergeClass := v.fld .EJ_CFG_UNT_CLASS, time := u.time, x := u.x, y := u.y, vx := u.vx, vy := u.vy, ax := u.ax
    ay := u.ay, w := u.w, h := u.h, firstTick := u.firstTick, lastTick := u.lastTick, sight := 1, area := u.area
    camMask := u.camMask, flags := u.flags, row := 0, firstValve := 0, valveCount := 0, fireTime := 0 }

/-- R49, R74, R242, R376: the policy in force at the decision tick, and the service flag. -/
def Frame.govern_ (f : Frame) (d : Decision) : Decision :=
  let e := match f.policy with
    | 1 => { d.flag 7 with action := 0 }
    | 2 => { d.flag 7 with action := f.policyRow + 1 }
    | _ => d
  if f.mode = serviceMode then e.flag 12 else e

/-! ## Records -/

/-- The 64 bytes of an object record (R375). -/
def Decision.bytes (d : Decision) (tick : Nat) (tag : Word) : List Byte :=
  leBytes 4 d.objId ++ leBytes 4 d.parent ++ leBytes 6 d.firstTick ++ leBytes 6 d.lastTick ++ leBytes 6 tick ++
    leBytes 1 d.status.code ++ leBytes 1 (d.cls + 16 * d.action + 64 * d.row) ++ leBytes 1 d.conf ++ leBytes 1 d.sight ++
    leBytes 3 (unsigned 24 d.x) ++ leBytes 3 (unsigned 24 d.y) ++ leBytes 2 (unsigned 16 d.vx) ++
    leBytes 2 (unsigned 16 d.vy) ++ leBytes 2 d.area ++ leBytes 3 (d.context.getD 0xFFFFFF) ++
    leBytes 1 (d.camMask % 16) ++ leBytes 2 d.firstValve ++ leBytes 2 d.valveCount ++ leBytes 2 d.flags ++
    leBytes 4 tag.toNat ++ leBytes 8 d.fireTime.toNat

/-- The order of a tick's records (R354): ascending fire time with 0 last, then the order of OBJ_ID assignment. -/
def State.recordKey (s : State) (d : Decision) : Nat :=
  let fire := if d.fireTime = 0 then 2 ^ 66 else (after d.fireTime s.tb + 2 ^ 65).toNat
  fire * 2 ^ 32 + (d.objId + 2 ^ 32 - s.tracker.nextId) % 2 ^ 32

/-! ## Crops -/

/-- R378: does a decision's record ask for crops? -/
def State.wantsCrops (v : State) (d : Decision) : Bool :=
  v.flag .HIF_CROP_CFG_EN &&
    ((d.status == .ok && bitOf (v.fld .HIF_CROP_CFG_CLASSES) d.cls) || d.action == 3 ||
      (v.flag .HIF_CROP_CFG_UNT && (d.status == .overload || d.status == .noContext)))

/-- The position of a decided object at a time, in px (R221). -/
def Decision.predict (d : Decision) (t : Time) : Rat × Rat :=
  let dt : Rat := (timeDiff t d.time : Rat) / 1000000
  (predictAxis d.x d.vx d.ax dt, predictAxis d.y d.vy d.ay dt)

/-- Where a crop lies (R378): camera, tap, time, corner and size in the crop's grid. -/
structure Crop where
  cam : Nat
  tap : Nat
  time : Time
  x0 : Int
  y0 : Int
  w : Nat
  h : Nat

/-- R378: the crop of camera 0. -/
def State.ownCrop (v : State) (f : Frame) (d : Decision) : Crop :=
  let sel := v.fld .HIF_CROP_CFG_TAP
  let settings := if v.taps.contains sel then sel else v.taps.headD 0
  let t := timeAfter f.edge (sightingOffset v f settings)
  let p := if d.context.isSome then d.predict t else ((d.x : Rat) / 64, (d.y : Rat) / 64)
  let w := v.fld .HIF_CROP_SIZE_W
  let h := v.fld .HIF_CROP_SIZE_H
  let corner (c : Rat) (n : Nat) : Int :=
    if v.binned then ((c / 2 + 1 / 2).floor - (n / 2 : Nat)) / 2 * 2 else ((c + 1 / 2).floor - (n / 2 : Nat)) / 4 * 4
  { cam := 0, tap := chargeTap f.mode f.tick settings, time := t, x0 := corner p.1 w, y0 := corner p.2 h, w := w, h := h }

/-- R378: the crop of a companion camera; the inverse of a scale of 0 is a free value (log 24). -/
def State.camCrop (v : State) (draw : Nat) (d : Decision) (c : CamView) : Crop :=
  let i := c.cam - 1
  let w := v.fld .HIF_CROP_SIZE_W
  let h := v.fld .HIF_CROP_SIZE_H
  let inv (p : Rat) (o sc : Fld) (k : Nat) : Int :=
    let m := signed 16 (v.fld sc)
    if m = 0 then (Config.freeAt draw (8 * c.cam + k) : Nat)
    else ((p - (signed 24 (v.fld o) : Rat) / 64) * 4096 / m).floor
  let p := d.predict c.time
  { cam := c.cam, tap := 0, time := c.time, w := w, h := h
    x0 := inv p.1 (.TRK_CAM_XOFS_OFS i) (.TRK_CAM_SCALE_XSCALE i) 0 - (w / 2 : Nat)
    y0 := inv p.2 (.TRK_CAM_YOFS_OFS i) (.TRK_CAM_SCALE_YSCALE i) 1 - (h / 2 : Nat) }

/-- The crops formed for a decision (R378). -/
def State.cropsOf (v : State) (f : Frame) (draw : Nat) (d : Decision) : List Crop :=
  if !v.wantsCrops d || f.clockLoss then []
  else
    let cams := v.fld .HIF_CROP_CFG_CAMS
    (if bitOf cams 0 then [v.ownCrop f d] else []) ++
      if f.mode = 6 then (f.views.filter fun c => c.cam != 0 && bitOf cams c.cam).map (v.camCrop draw d) else []

/-- The slots of a camera's crops (R379). -/
def cropSlots (cam : Nat) : Nat := if cam = 0 && !Config.mono then 4 else 1

/-- The header of a crop (R379). -/
def Crop.header (c : Crop) (f : Frame) (d : Decision) (flags stride : Nat) : List Byte :=
  padTo 64 (leBytes 4 d.objId ++ leBytes 1 Status.ok.code ++ leBytes 1 c.cam ++ leBytes 1 c.tap ++
    leBytes 1 (cropSlots c.cam) ++ leBytes 6 f.tick ++ leBytes 2 flags ++ leBytes 8 c.time.toNat ++
    leBytes 4 f.tag.toNat ++ leBytes 2 (unsigned 16 c.x0) ++ leBytes 2 (unsigned 16 c.y0) ++ leBytes 2 c.w ++
    leBytes 2 c.h ++ leBytes 4 stride)

/-- A crop item (R379). -/
def Crop.item (c : Crop) (v : State) (f : Frame) (d : Decision) : List Byte :=
  let g := if c.cam = 0 then v.ownShape else v.camShape c.cam
  let at_ (y x : Nat) : Pix := ⟨c.y0 + (y : Nat), c.x0 + (x : Nat)⟩
  let inside (p : Pix) : Bool := decide (-12 ≤ p.row) && decide (0 ≤ p.col) && g.read p
  let all := (List.range c.h).flatMap fun y => (List.range c.w).map fun x => at_ y x
  let stride := roundUp 64 (2 * cropSlots c.cam * c.w)
  let line (y : Nat) : List Byte := (List.range c.w).flatMap fun x => (List.range (cropSlots c.cam)).flatMap fun s =>
    leBytes 2 (if inside (at_ y x) then f.planes.get (fun _ => 0) (planeKey c.cam c.tap s (at_ y x)) else 0)
  let lost := c.cam == 0 && all.any fun p => inside p && (ownJob v f c.tap).lostSlice f p
  let invalid := f.views.any fun w => w.cam == c.cam && w.invalid.contains c.tap
  let bits := [all.any fun p => !inside p, v.binned && c.cam == 0, lost, invalid, f.mode == serviceMode]
  c.header f d ((bits.zipIdx.map fun b => boolNat b.1 * 2 ^ b.2).sum) stride ++
    (List.range c.h).flatMap fun y => padTo stride (line y)

/-! ## A tick's decisions -/

/-- R228, R242: a context takes its decision. -/
def Track.decide_ (x : Track) (d : Decision) (tick : Nat) : Track :=
  { x with state := 2, cls := d.cls, action := d.action, conf := d.conf, dTick := tick }

/-- R24, R251, R375, R378: the decisions of a tick are queued, their contexts become DECIDED, and their records and crops
are handed over. After a trip no pulse is queued and records carry NOT_FIRED (R458). -/
def State.carryOut (s v : State) (f : Frame) (ds0 : List Decision) : State :=
  let (draw, s0) := s.free
  let ds := ds0.map f.govern_
  let s1 := ds.foldl (fun s d => match d.context with
    | some i => s.modTrack i fun x => x.decide_ d f.tick
    | none => s) s0
  let (s2, ds1) := s1.queueTick v (f.noFire || f.mode == serviceMode || s1.noPulse) f.tick ds
  let ds2 := if s1.noPulse then ds1.map (·.flag 8) else ds1
  (sortBy s2.recordKey ds2).foldl (fun s d =>
    let crops := v.cropsOf f draw d
    let e := if crops.isEmpty then d else d.flag 13
    crops.foldl (fun s c => s.hand 1 c.cam (c.item v f e) f.tick f.tag) (s.hand 0 0 (e.bytes f.tick f.tag) f.tick f.tag)) s2

/-! ## Contexts that are lost -/

/-- R233: track `i` ends at once; `tick` is the decision tick of the untracked object that an OPEN track becomes, where its
decisions are still to come. -/
def State.endTrack (s : State) (tick i : Nat) : State :=
  let x := s.track i
  if x.state = 1 then
    let (id, s1) := s.takeId
    (s1.addUntracked tick (x.lose id)).freeTrack i
  else if x.state = 2 then
    if x.pending = 0 then s.freeTrack i else s.modTrack i fun x => { x with ended := true }
  else s

/-- R233, R474: contexts whose read met an uncorrected SRAM error end; each error is charged to the bank that holds the
context, and fast source 9 is raised. -/
def State.contextErrors (s : State) (tick : Nat) (contexts : List Nat) : State :=
  contexts.foldl (fun s i =>
    if (s.track i).live then
      ((s.endTrack tick i).raiseFast 9).charge 3 (unitKey 6 (s.holder 6 (i / 16384)))
    else s) s

/-- R233, R474: the SRAM errors of a step act at a tick: those of contexts, and those of the other memories, which are charged. -/
def State.sramErrors (s : State) (tick : Nat) (e : SramErrors) : State := (s.contextErrors tick e.contexts).chargeSram e

/-! ## The decisions of a frame -/

/-- R67, R68, R237: the due tracks of a frame within and beyond the decision cap. -/
def State.decideDue (s v : State) (f : Frame) : State × List Decision :=
  let (draw, s0) := s.free
  let due := (s.tracker.tracks.filter fun e => v.isDue e.2).map fun e => e.2.decision e.1
  let cap := f.decisionCap
  let order := if cap < due.length then sortBy (v.capKey s.tb) due else due
  let beyond := (order.drop cap).map v.overloadDecision
  let s1 := s0.count .HIF_OVL_DEC_DEC beyond.length
  let s2 := if !due.isEmpty && cap ≤ due.length then s1.capReached f else s1
  let r := (order.take cap).foldl (fun (acc : State × List Decision) d =>
    let (t, e) := v.decideOne draw acc.1 d
    (t, acc.2 ++ [e])) (s2, [])
  (r.1, r.2 ++ beyond)

/-! ## Releases -/

/-- R229: DECIDED tracks that are over become FREE. -/
def State.releaseOver (s v : State) : State :=
  (s.tracker.tracks.filter fun e => v.isOver e.2).foldl (fun s e => s.freeTrack e.1) s

/-- R72, R73, R464: live tracks are released at tick `tick`: every OPEN one hands a record with status FLUSHED; DECIDED
ones are released where `all` says so. `service`: SERVICE is in force at that edge. -/
def State.flushTracks (s : State) (tick : Nat) (tag : Word) (service all : Bool) : State :=
  let open_ := s.tracker.tracks.filter fun e => e.2.state == 1
  let ds := open_.map fun e =>
    let d := { e.2.decision e.1 with status := .flushed }
    if service then d.flag 12 else d
  let s1 := { s with tracker := { s.tracker with tracks := s.tracker.tracks.map fun e =>
    (e.1, if e.2.state == 1 || (all && e.2.state == 2) then { e.2 with state := 3 } else e.2) } }
  (sortBy s1.recordKey ds).foldl (fun s d => s.hand 0 0 (d.bytes tick tag) tick tag) s1

/-- Does a frame before tick `n` still have decisions to come, those after a clock loss among them (R262)? -/
def State.workBefore (s : State) (n : Nat) : Bool :=
  s.frames.any fun (f : Frame) => (!f.done || f.clockLoss && !f.settled) && decide (f.tick < n)

/-- R72: the drain into SERVICE. After the decisions of the last frame before it, undecided tracks are released; once no
pulse of an earlier decision tick is queued, DRAINING returns to 0. -/
def State.settleDrain (s : State) : State :=
  match s.ej.drain with
  | none => s
  | some e =>
    let s1 :=
      if s.ej.released || s.workBefore e then s
      else
        let t := s.flushTracks e (((s.frameOf e).map (·.tag)).getD s.cfgTag) true false
        { t with ej := { t.ej with released := true } }
    if s1.ej.released && !s1.ej.pulses.any fun p => decide (p.tick < e) then
      ({ s1 with ej := { s1.ej with drain := none } }).setFlag .HIF_MODE_DRAINING false
    else s1

/-! ## The end of a frame's work -/

/-- Frames whose work is done go, but for the newest, those whose CLOCK_LOSS decisions are to come, and those whose
companion frames are still to be processed or to have their round. -/
def State.dropFrames (s : State) : State :=
  let last := s.newest.map (·.tick)
  { s with frames := s.frames.filter fun (f : Frame) =>
      !f.done || !f.rounds.isEmpty || last == some f.tick || (f.clockLoss && !f.settled) ||
        s.camFrames.any fun x => x.tick == some f.tick }

/-- The work of a frame is done (R24). -/
def State.endFrame (s : State) (f : Frame) : State :=
  (s.modFrame f.tick fun x => { x with done := true, untracked := [] }).dropFrames.settleDrain

/-- The end of the last round of a frame: decisions, records and releases (R228, R229). -/
def State.finishTick (s : State) (f0 : Frame) : State :=
  let f := (s.frameOf f0.tick).getD f0
  let v := f.view s
  let (s1, ds) := s.decideDue v f
  let s2 := s1.carryOut v f (ds ++ f.untracked.map v.untrackedDecision)
  (s2.releaseOver v).endFrame f

/-! ## The commands -/

/-- R23, R216: the frame whose rounds come next: the oldest whose work is not done, once every frame of its tick that
yields rounds has been processed. A companion frame that ends after R24 had the work of its tick done (R162) has its round
then, without decisions of its own (DESIGN CHOICE, log 32). -/
def State.roundFrame (s : State) : Option Frame :=
  match s.frames.find? fun (f : Frame) => !f.done || !f.rounds.isEmpty with
  | some f =>
    if f.piped.contains 0 && !(f.mode == 6 && s.camFrames.any fun x => x.tick == some f.tick) then some f else none
  | none => none

/-- R216: the next round of a frame. -/
def Frame.nextRound (f : Frame) : Option Round :=
  (sortBy (fun (r : Round) => ((timeDiff r.time f.edge + 2 ^ 63).toNat * 4 + r.cam) * 4 + r.tap) f.rounds).head?

/-- A round has been handled: the last one of a frame brings its decisions. Untracked objects of one that comes after them are
decided with the next tick (DESIGN CHOICE, log 34). -/
def State.endRound (s : State) (f : Frame) (r : Round) : State :=
  let s1 := s.modFrame f.tick fun x => { x with rounds := x.rounds.erase r }
  match s1.frameOf f.tick with
  | some g => if !g.rounds.isEmpty then s1 else if g.done then s1.dropFrames else s1.finishTick g
  | none => s1

/-- The tick at which an SRAM error of a step acts: that of the frame whose rounds come next, else of the newest frame. -/
def State.errorTick (s : State) : Nat :=
  match s.roundFrame with
  | some f => f.tick
  | none => (s.newest.map (·.tick)).getD s.lastTick

/-- A round of the kind asked for is handled, where one is next. -/
def State.runRound (s : State) (own : Bool) : State :=
  match s.roundFrame with
  | none => s
  | some f =>
    match f.nextRound with
    | none => if own then s.finishTick f else s
    | some r =>
      if (r.cam == 0) != own then s
      else
        let v := f.view s
        (if own then s.ownRound v f r else s.companionRound v f r).endRound f r

/-- TRACKER_ROUND (R223): the SRAM errors of the step act, then the round, where one of the own sensor is next. -/
def execTrackerRound (dt : Nat) (sram : SramErrors) (s : State) : Host.Outcome State Fault Refusal :=
  let s := s.advance dt
  .next (if s.gated 1 || !s.alive then s else (s.sramErrors s.errorTick sram).runRound true)

/-- COMPANION_ROUND (R226). -/
def execCompanionRound (dt : Nat) (sram : SramErrors) (s : State) : Host.Outcome State Fault Refusal :=
  let s := s.advance dt
  .next (if s.gated 1 || !s.alive then s else (s.sramErrors s.errorTick sram).runRound false)

/-- TRACKER_BANK_COPY_COMPLETE (R232): the background copy has brought the bank up to date. -/
def execTrackerBankCopyComplete (dt : Nat) (s : State) : Host.Outcome State Fault Refusal :=
  let s := s.advance dt
  .next (if s.gated 1 || !s.alive then s else s.copyDone)

end Sys2Proof.Machine
end

