-- ==== Sys2Proof/Machine/Weevil.lean ====
section
/-! DEFINITION. Weevil engines: conditions, records, safe levels, program swaps and the hand-over of a role to another
engine (R268 to R292). -/

namespace Sys2Proof.Machine

/-! ## Conditions and entries -/

/-- A source of a condition bit (R269); the invalid codes 14 and 15, which no checked program holds, read a free value. -/
def State.condSource (s : State) (r : Nat) (x : Engine) (draw code : Nat) : Bool :=
  match code with
  | 8 => x.tx.isEmpty
  | 9 => decide (64 ≤ x.rx.length)
  | 10 => reached s.tb x.time
  | 11 => x.shift.isNone
  | 12 => x.captured
  | 13 => false
  | n => if n < 8 then s.laneIn r n else Config.freeAt draw n % 2 == 1

/-- The entry that an engine reads (R268, R269). -/
def State.wvEntry (s : State) (r : Nat) (x : Engine) (draw : Nat) : Nat :=
  let sel := s.wvProg r 10 2
  let cond := ((List.range 4).map fun c => boolNat (s.condSource r x draw (sel / 16 ^ c % 16)) * 2 ^ c).sum
  s.wvProg r (64 + 8 * (16 * x.state + cond)) 8

/-- OP of an entry. -/
def entryOp (e : Nat) : Nat := getBits e 25 22

/-- ARG of an entry. -/
def entryArg (e : Nat) : Nat := getBits e 47 26

/-! ## Records and the TX FIFO -/

/-- R282: records that wait are written into the TX FIFO as far as it has room for them whole. -/
def fillTx (tx : List Word) : List WvRecord → List Word × List WvRecord
  | [] => (tx, [])
  | x :: xs => if tx.length + x.words.length ≤ 64 then fillTx (tx ++ x.words) xs else (tx, x :: xs)

/-- Room may have appeared in the TX FIFO of a role. -/
def State.feed (s : State) (r : Nat) : State :=
  let w := s.wvRole r
  let (tx, rest) := fillTx (s.engine w.engine).tx w.waiting
  (s.modEngine w.engine fun x => { x with tx := tx }).modWv r fun w => { w with waiting := rest }

/-- A record is handed to a role (R282, R283). -/
def State.handRecord (s : State) (r : Nat) (words : List Word) : State :=
  let x : WvRecord := ⟨words, false⟩
  (s.modWv r fun w => { w with unacked := w.unacked ++ [x], waiting := w.waiting ++ [x] }).feed r

/-- R283: the TX FIFO of a role was emptied: every unacknowledged record is written again. -/
def State.replay (s : State) (r : Nat) : State :=
  let w := s.wvRole r
  let n := w.unacked.length - w.waiting.length
  let again := w.unacked.zipIdx.map fun e => if e.2 < n then { e.1 with replay := true } else e.1
  let s1 := s.modEngine w.engine fun x => { x with tx := [] }
  ((s1.modWv r fun w => { w with unacked := again, waiting := again }).count .WV_REPLAY_COUNT n).feed r

/-! ## Safe levels -/

/-- R393: fast source EJ_SAFE. -/
def State.ejSafe (s : State) : State := s.raiseFast 6

/-- R393: fast source EJ_SAFE for every role with a program whose pins go to SAFE now. -/
def State.raiseSafe (s : State) : State :=
  (List.range 16).foldl (fun t r => if (s.wvRole r).loaded && !s.pinsSafe r then t.ejSafe else t) s

/-- Does a role still have pulses queued or records not acknowledged? -/
def State.wvBusy (s : State) (r : Nat) : Bool :=
  !(s.wvRole r).unacked.isEmpty ||
    s.ej.pulses.any fun p => if p.direct then s.fld (.WV_DIR_ROLE p.pos) == r else p.port == r

/-- R287, R458: after a trip, a role whose last close edge has been applied and acknowledged goes to SAFE, and its engine
stops. Until the first edge after the trip more pulses may be queued (R262), so that none is known to be the last. -/
def State.settleTrip (s : State) : State :=
  if s.thermal.trip.isNone || !s.noPulse then s
  else (List.range 16).foldl (fun s r =>
    if s.wvBusy r || (s.wvRole r).stopped then s
    else if !(s.wvRole r).loaded then s.modWv r fun w => { w with safe := true, stopped := true }
    else (((s.modWv r fun w => { w with safe := true, stopped := true }).stopEngine (s.wvRole r).engine).ejSafe).drive r) s

/-! ## Starting and swapping programs -/

/-- The role's engine starts the program of the active bank at its ENTRY state (R288). After a thermal shutdown has stopped
it, it stays so (R287). -/
def State.startProgram (s : State) (r : Nat) : State :=
  let bank := s.activeBank (wvKey r)
  let lost := s.roleLost 8 r
  let s1 := s.modWv r fun w => { w with bank := bank, loaded := true, halted := lost, swap := none }
  let entry := s1.wvProg r 8 1 % 64
  let clocks := s1.lanesOf r 2
  let cpol := s1.wvCpol r
  (s1.modEngine (s1.wvRole r).engine fun x => { x with
    role := some r, state := entry, next := entry, busy := if lost || (s1.wvRole r).stopped then .halted else .ready
    lanes := clocks.foldl (fun m l => putBit m l cpol) x.lanes }).drive r

/-- R289: a swap is forced, of a role that stays with its engine. -/
def State.forceSwap (s : State) (r : Nat) : State :=
  let e := (s.wvRole r).engine
  let s1 := (s.count .WV_FORCED_COUNT 1).modEngine e fun _ =>
    { s.engineNow e with shift := none, tx := [], rx := [] }
  let s2 := (s1.modWv r fun w => { w with safe := true }).startProgram r
  (s2.ejSafe).replay r

/-- R287: input pins stay high-Z, so the lanes of a role's first program read no SAFE level that was driven at their pins
while the modes were unknown (log 59). -/
def State.clearInputs (s : State) (r : Nat) : State :=
  (s.pinsOf r).foldl (fun s n =>
    if s.laneOut r (s.fld (.WV_PIN_LANE n)) then s else s.modWvPin n fun x => { x with edges := [] }) s

/-- R291: the pins of a role move to its new engine, with the levels that the pins have: those of TIMED and SHIFT_DATA lanes
stay. A role that runs a program starts it, or the one swapped in since, at ENTRY; the records are replayed in any case. The
RX words of the old engine are lost only where the move is forced (R289). -/
def State.moveRole (s : State) (r : Nat) (forced : Bool) : State :=
  let w := s.wvRole r
  let old := s.engineNow w.engine
  let new := s.holder 8 r
  let s1 := s.modWv r fun w => { w with safe := w.safe || forced }
  let present := (List.range 8).foldl (fun m l => match s1.lanePin r l with
    | some n => putBit m l (s1.wvPin n)
    | none => m) old.lanes
  let rx := if forced then [] else old.rx
  let s2 := s1.modEngine w.engine fun _ => { Engine.init with
    rx := rx, role := if rx.isEmpty then none else old.role, drained := old.drained }
  let s3 := s2.modEngine new fun x => { x with
    role := some r, shift := none, tx := [], lanes := present, oe := old.oe, armed := none, captured := false
    busy := if w.halted || w.stopped then .halted else .ready }
  let s4 := s3.modWv r fun w => { w with engine := new, move := none }
  (if !w.loaded || w.halted then s4 else s4.startProgram r).replay r

/-- R289: a swap is forced; where the role moves at the same edge, its new engine starts the new program (R291). -/
def State.forceNow (s : State) (r : Nat) : State :=
  if (s.wvRole r).move.isSome then
    (((s.count .WV_FORCED_COUNT 1).modWv r fun w => { w with halted := false, loaded := true }).moveRole r true).ejSafe
  else s.forceSwap r

/-- R279, R288: a program starts at once in a role without one, or halted: in the engine that takes the role, where it moves
at the same edge (R291). -/
def State.startNow (s : State) (r : Nat) : State :=
  let s1 := s.modWv r fun w => { w with safe := true }
  if (s.wvRole r).move.isSome then (s1.modWv r fun w => { w with halted := false }).moveRole r false
  else s1.startProgram r

/-- R288, R289: the program banks of a role swap at an edge: a forced swap, or one under a limit of 0, is forced at once; a
role without a program, or halted, starts at once; any other waits for a safe state. -/
def State.swapProgram (s : State) (r : Nat) (force : Bool) : State :=
  let w := s.wvRole r
  let now (t : State) : State := if w.loaded then t else t.clearInputs r
  if force then now (s.forceNow r)
  else if s.fld .WV_CFG_SWAP_TMO = 0 then now ((s.forceNow r).raiseFast 8)
  else if !w.loaded || w.halted then now (s.startNow r)
  else s.modWv r fun w => { w with swap := some s.now }

/-- Is an engine about to start, or stalled at, the operation of a safe state (R288)? -/
def State.atSafeState (s : State) (r : Nat) (x : Engine) : Bool :=
  s.wvSafeState r x.state && (x.busy == .ready || (x.busy == .pull && x.tx.isEmpty))

/-! ## What stands between an engine and its next operation -/

/-- Do engines run: the timebase counts, and the device is not in STANDBY (R287, R292)? -/
def State.wvRun (s : State) : Bool := s.alive && s.tbRuns && !s.standby

/-- The role that an engine drives. -/
def State.driving (s : State) (e : Nat) : Option Nat :=
  match (s.engine e).role with
  | some r => if (s.wvRole r).engine == e && (s.wvRole r).loaded && !(s.wvRole r).halted then some r else none
  | none => none

/-- The engine's state with the time that has passed taken into account. -/
def State.refreshEngine (s : State) (e : Nat) : State := s.modEngine e fun _ => s.engineNow e

/-- The operation that engine `e` starts now, where it is `op`: its role, its ARG, and the state with the entry's STATIC
lanes and output enables driven (R272). -/
def State.startOp (s0 : State) (e op : Nat) : Option (Nat × Nat × State) :=
  let s := s0.refreshEngine e
  match s.driving e with
  | none => none
  | some r =>
    let x := s.engine e
    let w := s.wvRole r
    if s.wvRun && x.busy == .ready && !((w.swap.isSome || w.move.isSome) && s.wvSafeState r x.state) then
      let (draw, s1) := s.free
      let entry := s.wvEntry r x draw
      if entryOp entry = op then
        let out := getBits entry 13 6
        let lanes := (s.lanesOf r 0).foldl (fun m l => putBit m l (bitOf out l)) x.lanes
        let s2 := s1.modEngine e fun x => { x with next := entry % 64, lanes := lanes, oe := getBits entry 21 14 }
        some (r, entryArg entry, (s2.modWv r fun w => { w with safe := false }).drive r)
      else none
    else none

/-- The operation under way completes: the engine enters NEXT. -/
def Engine.complete (x : Engine) : Engine := { x with state := x.next, busy := .ready }

/-- The operation of engine `e` completes, with a last change of the engine. -/
def State.completeOp (s : State) (e : Nat) (f : Engine → Engine) : State := s.modEngine e fun x => (f x).complete

/-- A meaning of an operation: it runs where the engine starts it, and nothing else happens otherwise. -/
def State.runOp (s : State) (e op : Nat) (f : Nat → Nat → State → State) : State :=
  match s.startOp e op with
  | some (r, arg, t) => f r arg t
  | none => s

end Sys2Proof.Machine
end

