-- ==== Sys2Proof/Machine/WeevilOps.lean ====
section
/-! DEFINITION. The operations of a Weevil engine and what completes them (R272 to R279, R283, R288 to R292). -/

namespace Sys2Proof.Machine

/-! ## Operations that move words -/

/-- R273: SR takes the oldest TX word. -/
def State.doPull (s : State) (e r : Nat) : State :=
  match (s.engine e).tx with
  | [] => s
  | w :: rest => (((s.modEngine e fun x => { x with tx := rest }).writeSr e w).completeOp e fun x => x).feed r

/-- R273: SR is appended to the RX FIFO; a shift that idled for want of room goes on (R274). -/
def State.doPush (s : State) (e : Nat) : State :=
  s.completeOp e fun x => { x with rx := x.rx ++ [x.sr], shift := x.shift.map fun h => h.resume s.clk }

/-- R274: a PUSH finds the RX FIFO full: the engine stalls, its lanes hold their levels, and the shifter idles. -/
def State.stallPush (s : State) (e : Nat) : State :=
  s.modEngine e fun x => { x with busy := .push, shift := x.shift.map fun h => h.pause s.clk }

/-- WEEVIL_NOP (R273): E further cycles pass. -/
def execWeevilNop (dt : Nat) (e : Fin 18) (s : State) : Host.Outcome State Fault Refusal :=
  let s := s.advance dt
  .next (s.runOp e.val 0 fun _ arg s =>
    let n := arg % 65536
    if n = 0 then s.completeOp e.val fun x => x
    else s.modEngine e.val fun x => { x with busy := .pause (s.clk + (5 * n + 1) / 2) })

/-- PULL (R273, R274). -/
def execPull (dt : Nat) (e : Fin 18) (s : State) : Host.Outcome State Fault Refusal :=
  let s := s.advance dt
  .next (s.runOp e.val 1 fun r _ s =>
    let x := s.engine e.val
    if x.shift.isNone && !x.tx.isEmpty then s.doPull e.val r else s.modEngine e.val fun x => { x with busy := .pull })

/-- PUSH (R273, R274). -/
def execPush (dt : Nat) (e : Fin 18) (s : State) : Host.Outcome State Fault Refusal :=
  let s := s.advance dt
  .next (s.runOp e.val 2 fun _ _ s =>
    if (s.engine e.val).rx.length < 64 then s.doPush e.val else s.stallPush e.val)

/-- STALL_RESUME (R274): a word or room has appeared. -/
def execStallResume (dt : Nat) (e : Fin 18) (s : State) : Host.Outcome State Fault Refusal :=
  let s := s.advance dt
  let x := s.engineNow e.val
  .next (match s.driving e.val, x.busy with
    | some r, .pull =>
      if s.wvRun && x.shift.isNone && !x.tx.isEmpty then (s.refreshEngine e.val).doPull e.val r else s
    | some _, .push => if s.wvRun && x.rx.length < 64 then (s.refreshEngine e.val).doPush e.val else s
    | _, _ => s)

/-! ## Shifts -/

/-- R275: a shift starts, and its operation completes; with the first period, the data lanes take their first bits. -/
def State.startShift (s : State) (e r arg : Nat) (out : Bool) : State :=
  let h : WvShift :=
    { out := out, bits := arg % 32 + 1, width := if out then 2 ^ getBits arg 6 5 else 1, half := getBits arg 10 7
      start := s.clk, moved := 0, pauses := [] }
  ((s.completeOp e fun x => { x with shift := some h }).refreshEngine e).drive r

/-- The start of a shift, where the shifter is idle; else the operation waits for it. -/
def State.askShift (s : State) (e r arg : Nat) (out : Bool) : State :=
  if (s.engine e).shift.isNone then s.startShift e r arg out
  else s.modEngine e fun x => { x with busy := if out then .shiftOut arg else .shiftIn arg }

/-- Does an engine start a SHIFT_OUT of width code 3, which R273 calls invalid and no checked program holds? -/
def badShift (x : Option (Nat × Nat × State)) : Bool := x.any fun t => getBits t.2.1 6 5 == 3

/-- SHIFT_OUT (R273, R275); width code 3 is invalid. -/
def execShiftOut (dt : Nat) (e : Fin 18) (s : State) : Host.Outcome State Fault Refusal :=
  let s := s.advance dt
  if badShift (s.startOp e.val 3) then .fault .weevilInvalidOp
  else .next (s.runOp e.val 3 fun r arg s => s.askShift e.val r arg true)

/-- SHIFT_IN (R273, R275). -/
def execShiftIn (dt : Nat) (e : Fin 18) (s : State) : Host.Outcome State Fault Refusal :=
  let s := s.advance dt
  .next (s.runOp e.val 4 fun r arg s => s.askShift e.val r arg false)

/-- What waited for the shifter goes on. -/
def State.afterShift (s : State) (e r : Nat) : State :=
  let x := s.engine e
  match x.busy with
  | .pull => if x.tx.isEmpty then s else s.doPull e r
  | .shiftOut arg => s.startShift e r arg true
  | .shiftIn arg => s.startShift e r arg false
  | _ => s

/-- What stands at the WV_IO pins changes from outside, as `pads` says. -/
def State.padEdges (s : State) (pads : List PadEdge) : State :=
  pads.foldl (fun s p => (s.advance p.dt).wvEdge p.pin.val p.level) s

/-- SHIFT_COMPLETE (R275): a shift has run its clock periods, while the pins took the levels of `pads` from outside. -/
def execShiftComplete (dt : Nat) (e : Fin 18) (pads : List PadEdge) (s : State) : Host.Outcome State Fault Refusal :=
  let s := ((s.padEdges pads).advance dt).refreshEngine e.val
  .next (match (s.engine e.val).shift, s.driving e.val with
    | some h, some r =>
      if s.wvRun && h.over s.clk then
        ((s.modEngine e.val fun x => { x with shift := none }).afterShift e.val r).drive r
      else s
    | _, _ => s)

/-! ## TIME and LATCH_AT -/

/-- The time register after SET_TIME (R273). -/
def setTime (mode v : Nat) (sr : Word) (time now : Time) : Time :=
  match mode with
  | 0 => BitVec.ofNat 64 (time.toNat / 2 ^ 32 * 2 ^ 32 + sr.toNat)
  | 1 => BitVec.ofNat 64 (sr.toNat * 2 ^ 32 + time.toNat % 2 ^ 32)
  | 2 => timeAfter time v
  | _ => timeAfter now v

/-- SET_TIME (R273). -/
def execSetTime (dt : Nat) (e : Fin 18) (s : State) : Host.Outcome State Fault Refusal :=
  let s := s.advance dt
  .next (s.runOp e.val 5 fun _ arg s =>
    s.completeOp e.val fun x => { x with time := setTime (arg % 4) (getBits arg 21 2) x.sr x.time s.tb })

/-- WAIT_TIME (R273). -/
def execWaitTime (dt : Nat) (e : Fin 18) (s : State) : Host.Outcome State Fault Refusal :=
  let s := s.advance dt
  .next (s.runOp e.val 6 fun _ _ s =>
    if reached s.tb (s.engine e.val).time then s.completeOp e.val fun x => x
    else s.modEngine e.val fun x => { x with busy := .wait })

/-- TIME_REACHED (R269, R273): a WAIT_TIME completes. -/
def execTimeReached (dt : Nat) (e : Fin 18) (s : State) : Host.Outcome State Fault Refusal :=
  let s := s.advance dt
  let x := s.engine e.val
  .next (if s.wvRun && (s.driving e.val).isSome && x.busy == .wait && reached s.tb x.time then
    s.completeOp e.val fun x => x
  else s)

/-- Is the direct valve of lane `k` of a role inverted (R293)? -/
def State.laneInv (s : State) (r k : Nat) : Bool :=
  (List.range 48).any fun q =>
    s.flag (.WV_DIR_EN q) && s.fld (.WV_DIR_ROLE q) == r && s.fld (.WV_DIR_LANE q) == k && s.flag (.WV_DIR_INV q)

/-- Does a record hold open a position of a chained port, or a direct lane (R280, R281)? A lane outside MASK stays as it is. -/
def State.recordOpen (s : State) (r : Nat) (words : List Word) (k : Nat) : Bool :=
  if s.flag (.WV_PORT_CFG_EN r) then (words.getD (2 + k / 32) 0).getLsbD (k % 32) != s.flag (.WV_PORT_CFG_INV r)
  else if (words.getD 2 0).getLsbD k then (words.getD 2 0).getLsbD (8 + k) != s.laneInv r k
  else (s.wvRole r).openNow.contains k

/-- The positions of a role's records. -/
def State.recordSpan (s : State) (r : Nat) : List Nat :=
  if s.flag (.WV_PORT_CFG_EN r) then List.range (32 * ((s.fld (.WV_PORT_CFG_LENGTH r) + 31) / 32)) else List.range 8

/-- R262, R292: does the record to be applied close a valve less than 10,000 ns after it opened late, at a step? -/
def State.tooShort (s : State) (r : Nat) : Bool :=
  let w := s.wvRole r
  match w.unacked with
  | [] => false
  | x :: _ => (s.recordSpan r).any fun k =>
      !s.recordOpen r x.words k && w.openNow.contains k &&
        (let t := w.openedAt.get (fun _ => 0) k; t != 0 && decide (s.clk + 1 < t + 10000))

/-- Did TIME of an engine fall within the step of a hold (R277, R292)? -/
def State.inStep (s : State) (r : Nat) (t : Time) : Bool :=
  (s.wvRole r).stepped.any fun h => decide (after t h.1 ≥ 0) && decide (after h.2 t ≥ 0)

/-- R283: the oldest unacknowledged record that has been written is acknowledged. What it opens at a step of the timebase
(`late`) stays open for 10,000 ns at least (R262). -/
def State.ackRecord (s : State) (r : Nat) (late : Bool) : State :=
  let w := s.wvRole r
  match w.unacked with
  | [] => s
  | x :: rest =>
    if w.unacked.length ≤ w.waiting.length then s
    else
      let now := (s.recordSpan r).filter (s.recordOpen r x.words)
      let opened := (now.filter fun k => !w.openNow.contains k).foldl (fun m k =>
        Store.set (fun _ => 0) m k (if late then s.clk + 1 else 0)) w.openedAt
      (s.modWv r fun w => { w with unacked := rest, openNow := now, openedAt := opened }).settleTrip

/-- The time of the latch that the oldest unacknowledged record of a role is for (R280, R281). -/
def State.recordTime (s : State) (r : Nat) : Time :=
  let words := ((s.wvRole r).unacked.head?.map (·.words)).getD []
  BitVec.ofNat 64 ((words.getD 0 0).toNat + 2 ^ 32 * (words.getD 1 0).toNat)

/-- R276: the edge of a LATCH_AT is driven, and the operation completes. A record is late at a step by the time of its own
latch (R262), whatever the TIME of the operation that acknowledges it. -/
def State.driveLatch (s : State) (e r mask level : Nat) (ack : Bool) : State :=
  let timed := s.lanesOf r 5
  let late := s.inStep r (s.recordTime r)
  let s1 := (s.completeOp e fun x => { x with
    lanes := timed.foldl (fun m l => if bitOf mask l then putBit m l (bitOf level l) else m) x.lanes
    lastLatch := some x.time }).drive r
  if ack then s1.ackRecord r late else s1

/-- R277: a LATCH_AT that starts later than the tolerance after its TIME is a miss, but for one whose TIME fell within a
hold and one that replays a record. -/
def State.latchMiss (s : State) (e r : Nat) : State :=
  let x := s.engine e
  let replayed := (s.wvRole r).unacked.head?.any (·.replay)
  if decide (after s.tb x.time > s.fld .WV_CFG_MISS_TOL) && !s.inStep r x.time && !replayed then
    (s.count .WV_MISS_COUNT 1).charge 6 (unitKey 8 e)
  else s

/-- R276: does a LATCH_AT follow the last one too closely to keep its time? -/
def latchClose (x : Engine) : Bool :=
  match x.lastLatch with
  | some t => decide (0 ≤ after x.time t) && decide (after x.time t < 10)
  | none => false

/-- LATCH_AT (R273, R276, R277). -/
def execLatchAt (dt : Nat) (e : Fin 18) (s : State) : Host.Outcome State Fault Refusal :=
  let s := s.advance dt
  .next (s.runOp e.val 7 fun r arg s =>
    let x := s.engine e.val
    let word := if bitOf arg 16 then x.sr.toNat else arg
    let mask := getBits word 7 0
    let level := getBits word 15 8
    let ack := bitOf arg 17
    let u := s.latchMiss e.val r
    if (reached s.tb x.time && !s.tooShort r) || latchClose x then u.driveLatch e.val r mask level ack
    else u.modEngine e.val fun x => { x with busy := .latch mask level ack })

/-- LATCH_EDGE (R276): TIME has come, and the edge is driven. -/
def execLatchEdge (dt : Nat) (e : Fin 18) (s : State) : Host.Outcome State Fault Refusal :=
  let s := s.advance dt
  let x := s.engine e.val
  .next (match s.driving e.val, x.busy with
    | some r, .latch mask level ack =>
      if s.wvRun && reached s.tb x.time && !s.tooShort r then s.driveLatch e.val r mask level ack
      else s
    | _, _ => s)

/-! ## Captures, events and HALT -/

/-- CAPTURE (R273); MODE 3 is invalid. -/
def execCapture (dt : Nat) (e : Fin 18) (s : State) : Host.Outcome State Fault Refusal :=
  let s := s.advance dt
  if (s.startOp e.val 8).any fun t => getBits t.2.1 5 4 == 3 then .fault .weevilInvalidOp
  else .next (s.runOp e.val 8 fun _ arg s =>
    let cap := (s.engine e.val).cap.toNat
    match getBits arg 5 4 with
    | 0 => s.completeOp e.val fun x => { x with armed := some (arg % 8, !bitOf arg 3), captured := false }
    | 1 => (s.writeSr e.val (BitVec.ofNat 32 cap)).completeOp e.val fun x => x
    | _ => (s.writeSr e.val (BitVec.ofNat 32 (cap / 2 ^ 32))).completeOp e.val fun x => x)

/-- WEEVIL_CAPTURE_EDGE (R273): the edge that an engine armed occurs at the lane's pin: at one that the device drives, only
where its pad takes that level just now. -/
def execWeevilCaptureEdge (dt : Nat) (e : Fin 18) (s : State) : Host.Outcome State Fault Refusal :=
  let s := s.advance dt
  .next (match s.driving e.val, (s.engine e.val).armed with
    | some r, some (lane, rising) =>
      match (s.pinsOf r).find? fun n => s.fld (.WV_PIN_LANE n) == lane with
      | some n =>
        let t := s.toldEdge (64 + n) rising
        if t.hasEdge (64 + n) rising && t.wvRun then
          t.modEngine e.val fun x => { x with cap := s.tb, armed := none, captured := true }
        else t
      | none => s
    | _, _ => s)

/-- R278: the event of a RAISE_EVENT, at most one per code and role in 1,000 ms. -/
def State.weevilEvent (s : State) (e r code : Nat) (fault : Bool) : State :=
  let s1 := s.count .WV_EVENTS_COUNT 1
  let s2 := s1.limitedEvent 0xB (r * 256 + code) .ok (r + 256 * e) (leBytes 1 code ++ leBytes 1 (boolNat fault))
  if fault then s2.raiseFast 8 else s2

/-- RAISE_EVENT (R273, R278). -/
def execRaiseEvent (dt : Nat) (e : Fin 18) (s : State) : Host.Outcome State Fault Refusal :=
  let s := s.advance dt
  .next (s.runOp e.val 9 fun r arg s =>
    (s.completeOp e.val fun x => x).weevilEvent e.val r (arg % 256) (bitOf arg 8))

/-- HALT (R273, R279). -/
def execHalt (dt : Nat) (e : Fin 18) (s : State) : Host.Outcome State Fault Refusal :=
  let s := s.advance dt
  .next (s.runOp e.val 10 fun r _ s =>
    ((((s.stopEngine e.val).modWv r fun w => { w with halted := true }).drive r).raiseFast 8).ejSafe)

/-- RX_FIFO_DRAIN (R278): up to 8 words of an RX FIFO go into an event. -/
def execRxFifoDrain (dt : Nat) (e : Fin 18) (s : State) : Host.Outcome State Fault Refusal :=
  let s := s.advance dt
  let x := s.engine e.val
  .next (match x.role with
    | some r =>
      if s.alive && !x.rx.isEmpty && (x.drained == 0 || decide (x.drained + 9999 ≤ s.now)) then
        let words := x.rx.take 8
        (s.modEngine e.val fun x => { x with rx := x.rx.drop 8, drained := s.now + 1 }).event 0xC .ok
          (r + 256 * e.val + 65536 * words.length) (words.flatMap fun w => leBytes 4 w.toNat)
      else s
    | none => s)

/-! ## Capture pairs -/

/-- CAPTURE_EDGE (R302): an edge of the source that capture pair `n` selects. A source that the device drives has an edge
only where its pad takes that level just now; an edge told from outside is one, whatever was told of the pad before. -/
def execCaptureEdge (dt : Nat) (n : Fin 8) (rising : Bool) (s : State) : Host.Outcome State Fault Refusal :=
  let s := s.advance dt
  let src := s.fld (.CAP_CTL_SRC n.val)
  let s1 := s.toldEdge src rising
  .next (if s1.hasEdge src rising && s1.alive && s1.flag (.CAP_CTL_EN n.val) then s1.captureEdge n.val src rising else s1)

/-! ## Swaps and hand-overs -/

/-- SAFE_STATE_SWITCH (R288): an engine with a swap pending is at a safe state. -/
def execSafeStateSwitch (dt : Nat) (e : Fin 18) (s : State) : Host.Outcome State Fault Refusal :=
  let s := (s.advance dt).refreshEngine e.val
  .next (match s.driving e.val with
    | some r =>
      if s.wvRun && (s.wvRole r).swap.isSome && (s.wvRole r).move.isNone && s.atSafeState r (s.engine e.val) then
        s.startProgram r
      else s
    | none => s)

/-- FORCED_SWAP_TIMEOUT (R289, R291): SWAP_TMO has passed without a safe state. -/
def execForcedSwapTimeout (dt : Nat) (e : Fin 18) (s : State) : Host.Outcome State Fault Refusal :=
  let s := s.advance dt
  let late (t : Option Nat) : Bool := t.any fun t => decide (t + 1000 * s.fld .WV_CFG_SWAP_TMO ≤ s.now)
  .next (match (s.engine e.val).role with
    | some r =>
      if (s.wvRole r).engine != e.val || !s.wvRun then s
      else if late (s.wvRole r).move then (((s.count .WV_FORCED_COUNT 1).moveRole r true).raiseFast 8).ejSafe
      else if (s.wvRole r).move.isNone && late (s.wvRole r).swap then (s.forceSwap r).raiseFast 8
      else s
    | none => s)

/-- WEEVIL_ROLE_HANDOVER (R291): the old engine is at a safe state, and the role's pins move to the new one. -/
def execWeevilRoleHandover (dt : Nat) (r : Fin 16) (s : State) : Host.Outcome State Fault Refusal :=
  let s := s.advance dt
  let w := s.wvRole r.val
  .next (if s.wvRun && w.move.isSome && (w.halted || s.atSafeState r.val (s.engineNow w.engine)) then
    s.moveRole r.val false
  else s)

end Sys2Proof.Machine
end

