-- ==== Sys2Proof/Machine/Handover.lean ====
section
/-! DEFINITION. The hand-over of valve edges to the Weevils (R257, R258, R260, R262, R280 to R282). -/

namespace Sys2Proof.Machine

/-! ## Edges -/

/-- The next edge of a queued pulse that is not applied. -/
def Pulse.nextEdge (p : Pulse) : Time := if p.opened then p.closeAt else p.openAt

/-- The earliest of some times under the half-range rule. -/
def earliest : List Time → Option Time
  | [] => none
  | t :: ts => some (ts.foldl earlierOf t)

/-- R258, R233: the close edge of a pulse on one valve of an object has been applied. -/
def State.closeOwner (s : State) (id : Nat) : State :=
  match s.tracker.tracks.find? fun e => e.2.objId == id && e.2.state != 0 with
  | none => s
  | some e =>
    let s1 := s.modTrack e.1 fun x => { x with pending := x.pending - 1 }
    if e.2.ended && e.2.pending ≤ 1 then s1.freeTrack e.1 else s1

/-- R257, R284: a pulse whose close edge is applied leaves the queue. -/
def State.closePulse (s : State) (p : Pulse) : State :=
  let s1 := { s with ej := { s.ej with
    pulses := s.ej.pulses.filter fun q => !(q == p)
    lastPulse := s.ej.lastPulse.set (fun _ => none) p.valve (some (p.openAt, p.closeAt)) } }
  p.owners.foldl (fun s id => s.closeOwner id) s1

/-- R254, R262: the open edge of a pulse is applied by the latch at `l`. One that is late, after a step of the timebase, keeps its valve open
for 10,000 ns at least. -/
def State.openPulse (s : State) (l : Time) (p : Pulse) : State :=
  let least := timeAfter s.tb 10000
  let late := decide (0 < after s.tb p.openAt)
  { s with ej := { s.ej with pulses := s.ej.pulses.map fun q =>
      if q == p then { q with opened := true, latch := l, closeAt := if late then laterOf q.closeAt least else q.closeAt } else q } }

/-- The next edge of a pulse is applied by the latch at `l`: is the valve then commanded open? -/
def State.applyEdge (s : State) (l : Time) (p : Pulse) : State :=
  let open_ := !p.opened
  let s1 := { s with ej :=
    if p.direct then { s.ej with direct := s.ej.direct.set (fun _ => false) p.pos open_ }
    else { s.ej with chain := s.ej.chain.set (fun _ => false) (p.port * 256 + p.pos) open_ } }
  if open_ then s1.openPulse l p else s1.closePulse p

/-! ## Records -/

/-- The port width (R293). -/
def State.portWidth (s : State) (p : Nat) : Nat := 2 ^ s.fld (.WV_PORT_CFG_WIDTH p)

/-- The position that shift bit `k` of a chain image of `n` words carries (R280). -/
def chainPosition (n w k : Nat) : Nat := w * (32 * n / w - 1 - k / w) + k % w

/-- The chain image of a port (R280). -/
def State.chainImage (s : State) (p : Nat) : List Word :=
  let len := s.fld (.WV_PORT_CFG_LENGTH p)
  let n := (len + 31) / 32
  let w := s.portWidth p
  let inv := s.flag (.WV_PORT_CFG_INV p)
  (List.range n).map fun j => BitVec.ofNat 32 (((List.range 32).map fun b =>
    let pos := chainPosition n w (32 * j + 31 - b)
    boolNat (pos < len && (s.ej.chain.get (fun _ => false) (p * 256 + pos) != inv)) * 2 ^ b).sum)

/-- The two words of a time, low half first. -/
def timeWords (t : Time) : List Word := [BitVec.ofNat 32 t.toNat, BitVec.ofNat 32 (t.toNat / 2 ^ 32)]

/-- R260, R280: the latch at `l` of a chained port is handed over. -/
def State.handChain (s : State) (p : Nat) (l : Time) : State :=
  let due := s.ej.pulses.filter fun q => !q.direct && q.port == p && decide (after q.nextEdge l ≤ 4999)
  let early := (due.filter fun q => decide (0 < after q.nextEdge l)).length
  let s1 := (due.foldl (fun s q => s.applyEdge l q) s).count .EJ_COALESCE_COUNT early
  s1.handRecord p (timeWords l ++ s1.chainImage p)

/-- R281: the edges of a role's direct valves at `t` are handed over. -/
def State.handDirect (s : State) (r : Nat) (t : Time) : State :=
  let due := s.ej.pulses.filter fun q => q.direct && s.fld (.WV_DIR_ROLE q.pos) == r && q.nextEdge == t
  let lane (q : Pulse) : Nat := s.fld (.WV_DIR_LANE q.pos)
  let mask := due.foldl (fun m q => putBit m (lane q) true) 0
  let level := due.foldl (fun m q => putBit m (lane q) (!q.opened != s.flag (.WV_DIR_INV q.pos))) 0
  (due.foldl (fun s q => s.applyEdge t q) s).handRecord r (timeWords t ++ [BitVec.ofNat 32 (mask + 256 * level)])

/-- CHAIN_RECORD_HANDOVER (R260, R282): at L less PREP the record of a port's next latch is handed over. -/
def execChainRecordHandover (dt : Nat) (p : Fin 16) (s : State) : Host.Outcome State Fault Refusal :=
  let s := s.advance dt
  .next (match earliest ((s.ej.pulses.filter fun q => !q.direct && q.port == p.val).map (·.nextEdge)) with
    | some l =>
      if s.alive && s.tbRuns && reached s.tb (timeShift l (-(s.fld (.WV_PORT_PREP_PREP p.val) : Int))) then
        ((s.handChain p.val l).settleDrain).settleTrip
      else s
    | none => s)

/-- DIRECT_RECORD_HANDOVER (R281, R282): at t less PREP the record of a role's next direct edges is handed over. -/
def execDirectRecordHandover (dt : Nat) (r : Fin 16) (s : State) : Host.Outcome State Fault Refusal :=
  let s := s.advance dt
  .next (match earliest ((s.ej.pulses.filter fun q => q.direct && s.fld (.WV_DIR_ROLE q.pos) == r.val).map (·.nextEdge)) with
    | some t =>
      if s.alive && s.tbRuns && reached s.tb (timeShift t (-(s.fld .WV_DIR_PREP_PREP : Int))) then
        ((s.handDirect r.val t).settleDrain).settleTrip
      else s
    | none => s)

end Sys2Proof.Machine
end

