-- ==== Sys2Proof/Machine/Checks.lean ====
section
/-! DEFINITION. The checks that make a commit group invalid (R62, R63): field ranges, the readout settings of R141, the
tap rules of R112, companion cameras, outputs, ejection, and the contents of the tables that a group swaps. Each function
reads the settings of a state in which the group has been laid over those in force. -/

namespace Sys2Proof.Machine

/-! ## Field ranges -/

/-- Does a value lie within a range? -/
def inRange (lo hi n : Nat) : Bool := lo ≤ n && n ≤ hi

/-- Ranges of the exposure fields (R103, R122, R129). -/
def State.exposureFieldsOk (v : State) : Bool :=
  v.fld .EXP_TICK_SRC_SRC != 3 && v.fld .EXP_GOV_CFG_METRIC < 2 &&
    (List.range 4).all (fun t => inRange 250 (v.fld (.EXP_GOV_MAX_BOUND t)) (v.fld (.EXP_GOV_MIN_BOUND t))) &&
    (List.range 8).all fun f => v.fld (.FF_CFG_MODE f) != 3 && v.fld (.FF_CFG_TRAIL f) ≤ 400 &&
      v.fld (.FF_LEAD_LEAD f) ≤ 10000

/-- Ranges of the companion fields (R160, R169). -/
def State.companionFieldsOk (v : State) : Bool :=
  inRange 1 4 (v.fld .CSX_LINK_CFG_LANES) && inRange 80 4500 (v.fld .CSX_LINK_CFG_RATE) &&
    (List.range 3).all (fun i => inRange 0x2A 0x2D (v.fld (.CSX_CAM_CFG_DT i)) &&
      inRange 4 4096 (v.fld (.CSX_CAM_SIZE_WIDTH i)) && v.fld (.CSX_CAM_SIZE_WIDTH i) % 4 == 0 &&
      inRange 1 4096 (v.fld (.CSX_CAM_SIZE_HEIGHT i))) &&
    (List.range 4).all fun k => v.fld (.CSX_TO_CFG_MODE k) != 3 && 20 ≤ v.fld (.CSX_TO_WIDTH_VALUE k)

/-- Ranges of the pipeline, segmentation, tracker and crop fields (R206, R210, R225, R235, R380). -/
def State.imageFieldsOk (v : State) : Bool :=
  v.fld (.PIPE_CAM_HDR_SHIFT 0) ≤ 4 && inRange 4 4096 (v.fld .SEG_CFG_MIN_AREA) &&
    v.fld .TRK_ACT_AMBIG ≤ 4 && v.fld .TRK_GATE1_GX != 0 && v.fld .TRK_GATE1_GY != 0 && v.fld .TRK_GATE_GX != 0 &&
    v.fld .TRK_GATE_GY != 0 && v.fld .TRK_GATEC_GX != 0 && v.fld .TRK_GATEC_GY != 0 &&
    inRange 4 256 (v.fld .HIF_CROP_SIZE_W) && v.fld .HIF_CROP_SIZE_W % 4 == 0 &&
    inRange 4 256 (v.fld .HIF_CROP_SIZE_H) && v.fld .HIF_CROP_SIZE_H % 4 == 0

/-- Ranges of the ejection and Weevil fields (R250, R263, R293). -/
def State.ejectFieldsOk (v : State) : Bool :=
  inRange 1 1000 (v.fld .EJ_CFG_HORIZON) && 1000 ≤ v.fld .EJ_LEAD_MIN_LEAD &&
    inRange 10000 (v.fld .EJ_PW_MAX_VALUE) (v.fld .EJ_PW_MIN_VALUE) &&
    inRange 100 60000 (v.fld .WV_DIR_PREP_PREP) &&
    (List.range 16).all (fun p => inRange 500 60000 (v.fld (.WV_PORT_PREP_PREP p)) && v.fld (.WV_PORT_CFG_WIDTH p) != 3) &&
    (List.range 64).all fun n => !inRange 16 30 (v.fld (.WV_PIN_ROLE n))

/-! ## Readout settings -/

/-- Do no two of a list of bands share a position? The list is in ascending order of its starts. -/
def bandsApart : List (Nat × Nat) → Bool
  | a :: b :: rest => a.1 + a.2 ≤ b.1 && bandsApart (b :: rest)
  | _ => true

/-- The limits of rows per tap (R53). -/
def rowLimits (mode : Nat) : Nat × Nat :=
  match mode with
  | 0 => (4, 256) | 1 => (4, 384) | 2 => (1536, 1536) | 3 => (8, 512) | 4 => (64, 64) | 5 => (1536, 1536)
  | 6 => (4, 256) | _ => (0, 1560)

/-- R141. -/
def State.readoutOk (v : State) : Bool :=
  let rows := v.rowFields
  let cols := v.colFields
  let total := (rows.map (·.2)).sum
  let lim := rowLimits v.mode
  rows.all (fun b => 4 ≤ b.2 && b.1 + b.2 ≤ 1536 && (!v.binned || b.2 % 8 == 0)) &&
    cols.all (fun b => 1 ≤ b.2 && b.1 + b.2 ≤ 128) && bandsApart rows && bandsApart cols &&
    !rows.isEmpty && !cols.isEmpty && inRange lim.1 lim.2 total &&
    (if v.mode = 2 ∨ v.mode = 5 then total == 1536 && (cols.map (·.2)).sum == 128 else true) &&
    v.taps.all (fun t => v.gain t ≤ 4) &&
    (v.mode != serviceMode || (v.fld .RO_SVC_DEPTH != 3 && v.fld .EXP_SVC_TAPS_EN != 0))

/-! ## Taps -/

/-- R112: the intervals, in order of start, are 500 ns apart. -/
def intervalsApart : List Interval → Bool
  | a :: b :: rest => a.stop + 500 ≤ b.start && intervalsApart (b :: rest)
  | _ => true

/-- R112: the lead and the isolation of a Firefly. -/
def State.fireflyOk (v : State) (f : Nat) : Bool :=
  v.fld (.FF_CFG_MODE f) != 1 ||
    (v.intervals.all (fun i => !bitOf i.mask f || v.fld (.FF_LEAD_LEAD f) ≤ i.start) &&
      v.intervals.all fun i => bitOf i.mask f || (v.pulses f).all fun p => p.2 ≤ i.start || i.stop ≤ p.1)

/-- The delay of R71 after an edge whose mode was `prevMode`. -/
def State.stripDelay (v : State) (prevMode : Nat) : Nat := if prevMode = 4 ∧ v.mode ≠ 4 then 8000 else 0

/-- R112, with the minimum tick `m` of R55 and the delay of R71. -/
def State.tapsOk (v : State) (m delay : Nat) : Bool :=
  v.taps.all (fun t => 250 ≤ v.fld (.EXP_TAP_DUR_DUR t) &&
      (v.fld (.EXP_TAP_SUB_COUNT t) == 0 || v.fld (.EXP_TAP_DUR_DUR t) + 500 ≤ v.fld (.EXP_TAP_PITCH_PITCH t))) &&
    intervalsApart v.intervals && v.lastStop + delay ≤ v.expLimit m && (List.range 8).all v.fireflyOk

/-- R57, R63: a tap that the governor set to its upper bound ends by the exposure limit too. In SERVICE the
minimum tick, and with it the limit, follows the taps (R56), so that it holds whatever the bounds (DEDUCED, log 61). -/
def State.govBoundsOk (v : State) (m delay : Nat) : Bool :=
  v.mode == serviceMode || v.taps.all fun t =>
    (v.setFld (.EXP_TAP_DUR_DUR t) (v.fld (.EXP_GOV_MAX_BOUND t))).lastStop + delay ≤ v.expLimit m

/-! ## Companion cameras and outputs -/

/-- Is a camera enabled? -/
def State.camEnabled (v : State) (n : Nat) : Bool := v.flag (.CSX_CAM_CFG_EN (n - 1))

/-- R165: may camera `n` share the pipeline of its PARTNER? -/
def State.partnerOk (v : State) (n : Nat) : Bool :=
  let m := v.fld (.CSX_CAM_CFG_PARTNER (n - 1))
  m != 0 && m != n && v.camEnabled m && !v.flag (.CSX_CAM_CFG_SHARE (m - 1))

/-- R159, R165. -/
def State.camerasOk (v : State) : Bool :=
  [1, 2, 3].all fun n =>
    (!v.camEnabled n || [1, 2, 3].all fun m => m == n || !v.camEnabled m ||
      v.fld (.CSX_CAM_CFG_VC (m - 1)) != v.fld (.CSX_CAM_CFG_VC (n - 1))) &&
    (!v.flag (.CSX_CAM_CFG_SHARE (n - 1)) || v.partnerOk n)

/-- R200: the display and the coding output of a camera. -/
def State.outputsOk (v : State) (n : Nat) : Bool :=
  let p := (if n = 0 then v.ownShape else v.camShape n).packed
  let dw := p.1 / (v.fld (.PIPE_CAM_DSP_FXM1 n) + 1)
  let dh := p.2 / (v.fld (.PIPE_CAM_DSP_FYM1 n) + 1)
  let cw := p.1 / (v.fld (.PIPE_CAM_COD_FXM1 n) + 1) / 2 * 2
  let ch := p.2 / (v.fld (.PIPE_CAM_COD_FYM1 n) + 1) / 2 * 2
  (!v.flag (.PIPE_CAM_DSP_EN n) || (inRange 1 1920 dw && dh != 0)) &&
    (!v.flag (.PIPE_CAM_COD_EN n) || (inRange 1 4096 cw && ch != 0))

/-! ## Ejection -/

/-- The numbers of the enabled valves of the map in force. -/
def State.enabledValves (v : State) : List Nat := (List.range 4096).filter fun n => bitOf (v.valveWord n 0) 30

/-- R285: is a role's program there, and is a lane of it TIMED? The program is that of the bank in force at the edge. -/
def State.timedLane (v : State) (r l : Nat) : Bool :=
  let bank := v.activeBank (wvKey r)
  let w := v.wvRole r
  (w.loaded || w.swap.isSome || bank != w.bank) && v.wvHeader r bank 12 4 / 16 ^ l % 16 == 5

/-- R285: does an enabled valve name a port or a direct valve that serves it? -/
def State.valveServed (v : State) (n : Nat) : Bool :=
  let x := v.valve n
  if x.direct then x.pos < 48 && v.flag (.WV_DIR_EN x.pos)
  else v.flag (.WV_PORT_CFG_EN x.port) && x.pos < v.fld (.WV_PORT_CFG_LENGTH x.port)

/-- R244, R282, R285. -/
def State.ejectionOk (v : State) : Bool :=
  let lead := v.fld .EJ_LEAD_MIN_LEAD
  !(v.rowPresent 0 && v.rowPresent 1 && v.fld (.EJ_ROW_DIST_DIST 0) == v.fld (.EJ_ROW_DIST_DIST 1)) &&
    v.fld .WV_DIR_PREP_PREP ≤ lead &&
    (List.range 16).all (fun p => !v.flag (.WV_PORT_CFG_EN p) ||
      (v.fld (.WV_PORT_PREP_PREP p) + 5000 ≤ lead && inRange 1 256 (v.fld (.WV_PORT_CFG_LENGTH p)) &&
        v.fld (.WV_PORT_CFG_LENGTH p) % 2 ^ v.fld (.WV_PORT_CFG_WIDTH p) == 0)) &&
    (List.range 48).all (fun d => !v.flag (.WV_DIR_EN d) ||
      (!v.flag (.WV_PORT_CFG_EN (v.fld (.WV_DIR_ROLE d))) && v.timedLane (v.fld (.WV_DIR_ROLE d)) (v.fld (.WV_DIR_LANE d)))) &&
    v.enabledValves.all v.valveServed

/-! ## Tables -/

/-- Is a list of numbers strictly rising? -/
def rising : List Nat → Bool
  | a :: b :: rest => a < b && rising (b :: rest)
  | _ => true

/-- R186: the defect map of a camera. -/
def State.defectMapOk (v : State) (cam : Nat) : Bool :=
  let key := tableKey 0x21 cam
  let bank := v.activeBank key
  let n := v.tables.entries.get (fun _ => 0) (key * 2 + bank)
  let places := (List.range n).map fun i => leNat (v.tableBytes key bank (4 * i) 4) % 2 ^ 25
  let w := if cam = 0 then 8192 else v.fld (.CSX_CAM_SIZE_WIDTH (cam - 1))
  let h := if cam = 0 then 1536 else v.fld (.CSX_CAM_SIZE_HEIGHT (cam - 1))
  rising places && places.all fun p => p % 8192 < w && p / 8192 < h

/-- R240: does every path from node `n` keep its indices in range and reach a leaf after at most `fuel` internal nodes? -/
def State.treeOk (v : State) : Nat → Nat → Bool
  | 0, n => n ≤ v.forestAt 2 2 && v.forestNode n % 2 == 1
  | fuel + 1, n =>
    let node := v.forestNode n
    n ≤ v.forestAt 2 2 &&
      (node % 2 == 1 ||
        ((getBits node 8 7 == 0 || (getBits node 8 7 != 3 && 32 ≤ getBits node 6 1)) &&
          v.treeOk fuel (getBits node 40 25) && v.treeOk fuel (getBits node 56 41)))

/-- R240. -/
def State.forestOk (v : State) : Bool :=
  inRange 1 128 (v.forestAt 0 1) && (List.range (v.forestAt 0 1)).all fun t => v.treeOk 10 (v.forestAt (72 + 2 * t) 2)

/-- R248: the column ranges of a row, in ascending number. -/
def rangesApart : List (Nat × Nat) → Bool
  | a :: b :: rest => a.2 < b.1 && rangesApart (b :: rest)
  | _ => true

/-- R248. -/
def State.valveMapOk (v : State) : Bool :=
  let on := v.enabledValves
  let ranges (r : Nat) := (on.filter fun n => boolNat (bitOf (v.valveWord n 0) 29) == r).map fun n =>
    (getBits (v.valveWord n 0) 12 0, getBits (v.valveWord n 0) 28 16)
  let places := on.map fun n =>
    let x := v.valve n
    if x.direct then 2 ^ 16 + x.pos else x.port * 256 + x.pos
  [0, 1].all (fun r => (ranges r).all (fun p => p.1 ≤ p.2 && p.2 ≤ 8191) && rangesApart (ranges r)) &&
    rising (sortBy (fun x => x) places) && on.all fun n => 5 ≤ (v.valve n).minOff

/-- R271: one entry of a program; `lanes` answers the mode of a lane. -/
def wvEntryOk (lanes : Nat → Nat) (e : Nat) : Bool :=
  let op := entryOp e
  let arg := entryArg e
  let data := ((List.range 8).filter fun l => lanes l == 3).length
  let clock := (List.range 8).any fun l => lanes l == 2
  let half := 3 ≤ getBits arg 10 7
  (List.range 8).all (fun l => !bitOf (getBits e 21 14) l || (lanes l != 1 && lanes l != 4)) &&
    (match op with
     | 0 => arg < 2 ^ 16
     | 1 | 2 | 6 | 10 => arg == 0
     | 3 => arg < 2 ^ 11 && getBits arg 6 5 != 3 && 2 ^ getBits arg 6 5 ≤ data && clock && half &&
         (getBits arg 4 0 + 1) % 2 ^ getBits arg 6 5 == 0
     | 4 => arg < 2 ^ 11 && getBits arg 6 5 == 0 && clock && half
     | 5 => true
     | 7 => arg < 2 ^ 18
     | 8 => arg < 2 ^ 6 && getBits arg 5 4 != 3
     | 9 => arg < 2 ^ 9
     | _ => false)

/-- R271: the program of role `r` in the bank in force. -/
def State.programOk (v : State) (r : Nat) : Bool :=
  let bank := v.activeBank (wvKey r)
  let sel := v.wvHeader r bank 10 2
  let modes := v.wvHeader r bank 12 4
  let lanes (l : Nat) : Nat := modes / 16 ^ l % 16
  (List.range 4).all (fun c => sel / 16 ^ c % 16 ≤ 13) && (List.range 8).all (fun l => lanes l ≤ 5) &&
    ((List.range 8).filter fun l => lanes l == 2).length ≤ 1 &&
    ((List.range 8).filter fun l => lanes l == 4).length ≤ 1 &&
    bitOf (v.wvHeader r bank 0 8) (v.wvHeader r bank 8 1 % 64) &&
    (List.range 1024).all fun i => wvEntryOk lanes (v.wvHeader r bank (64 + 8 * i) 8)

/-- The check of a table that a group swaps, on the bank that the group puts in force (R186, R240, R248, R271). -/
def State.tableOk (v : State) (table index : Nat) : Bool :=
  if table = 0x21 then v.defectMapOk index
  else if table = 0x30 then v.forestOk
  else if table = 0x31 then v.valveMapOk
  else if 0x40 ≤ table then v.programOk (table - 0x40)
  else true

/-! ## The whole check -/

/-- R62, R63: are the settings of `v` valid at an edge that follows one with mode `prevMode` and effective minimum tick
`prevMin`, where the group checked swaps `swaps`? -/
def State.validCfg (v : State) (prevMode prevMin : Nat) (swaps : List (Nat × Nat)) : Bool :=
  v.exposureFieldsOk && v.companionFieldsOk && v.imageFieldsOk && v.ejectFieldsOk && v.readoutOk &&
    v.tapsOk (v.minTick prevMode prevMin) (v.stripDelay prevMode) &&
    v.govBoundsOk (v.minTick prevMode prevMin) (v.stripDelay prevMode) && v.camerasOk &&
    (List.range 4).all v.outputsOk && v.ejectionOk && swaps.all fun t => v.tableOk t.1 t.2

end Sys2Proof.Machine
end

