-- ==== Sys2Proof/Machine/Commands.lean ====
section
/-! DEFINITION. The descriptors of the PF0 command rings (R364 to R372): staging into commit groups, table loads and
swaps, commits, and Britor bundles (R516, R517). -/

namespace Sys2Proof.Machine

/-! ## Items and groups -/

/-- R367: may STAGE_REG name the register at `a`? -/
def stageable (a : Nat) : Bool :=
  a == Reg.WV_SWAP || a == Reg.HIF_TMIN_CFG || a == Reg.HIF_CROP_CFG || a == Reg.HIF_CROP_SIZE ||
    (0x1000 ≤ a && a < 0x5000 && (regRow a).any fun r => r.rw != 0)

/-- R367: the bits of a stageable register that R9 does not reserve. Beside RW fields, WV_SWAP holds WO bits, and
PIPE_CAMn_CTRL holds DM_EN (bit 4) and BG_RESET (bit 9). -/
def definedBits (a : Nat) : Nat :=
  if a = Reg.WV_SWAP then 2 ^ 32 - 1
  else
    let rw := ((regRow a).map (·.rw)).getD 0
    if a % 0x100 = 0 ∧ Reg.PIPE_CAM_CTRL 0 ≤ a ∧ a ≤ Reg.PIPE_CAM_CTRL 3 then rw ||| 0x210 else rw

/-- R367: the items that a register and a value stage; none where the descriptor fails. -/
def regItems (a v : Nat) : Option (List Item) :=
  if !stageable a || v &&& (2 ^ 32 - 1 - definedBits a) != 0 then none
  else if a = Reg.WV_SWAP then
    some (((List.range 16).filter fun r => bitOf v r).map fun r => Item.swap (0x40 + r) 0 (bitOf v (16 + r)))
  else some [.reg a (BitVec.ofNat 32 v)]

/-- R368: do two items set the same thing? -/
def Item.same : Item → Item → Bool
  | .reg a _, .reg b _ => a == b
  | .swap t i _, .swap u j _ => t == u && i == j
  | .mode _, .mode _ => true
  | _, _ => false

/-- R368: an item joins a group in place of an earlier one of the same thing. -/
def addItem (l : List Item) (x : Item) : List Item := l.filter (fun y => !x.same y) ++ [x]

/-- R368: the most items of a group. -/
def groupFits (l : List Item) : Bool :=
  (l.filter fun | .reg _ _ => true | _ => false).length ≤ 1024 &&
    (l.filter fun | .swap _ _ _ => true | _ => false).length ≤ 64

/-- The items staged in a group. -/
def State.group (s : State) (g : Nat) : List Item := s.groups.get (fun _ => []) g

/-- A group's items are replaced. -/
def State.setGroup (s : State) (g : Nat) (l : List Item) : State := { s with groups := s.groups.set (fun _ => []) g l }

/-- R371: the device is owner-locked. -/
def State.ownerLocked (s : State) : Bool := bitOf (bytesAt s.nvm.owner 8 1) 0

/-! ## Descriptors -/

/-- A PF0 descriptor at the head of ring `q`: it fails under R365, or is carried out. `used` lists the operand bytes
that its opcode defines beside the header, and `grouped` says whether it names a group. TABLE_LOAD and BUNDLE read host
memory, and wait while PF0 sends no request (R321, R327). -/
def State.command (s : State) (q op : Nat) (grouped : Bool) (used : List (Nat × Nat)) (f : List Byte → State → State) :
    State :=
  match s.headFor q op with
  | none => s
  | some d =>
    if !unusedZero d ([(0, 4)] ++ used) || (if grouped then 16 ≤ bytesAt d 1 1 else bytesAt d 1 1 != 0) then
      s.finishHead q .badDescriptor 0
    else if (op == 4 || op == 8) && !s.canDma 0 then s
    else f d s

/-- R365, R371: the items of a staging descriptor join its group; none where the descriptor fails. -/
def State.stage (s : State) (q : Nat) (d : List Byte) (items : Option (List Item)) (result : Nat) : State :=
  match items with
  | none => s.finishHead q .badDescriptor 0
  | some l =>
    let g := (l.foldl addItem (s.group (bytesAt d 1 1)))
    if groupFits g then (s.setGroup (bytesAt d 1 1) g).finishHead q .ok result else s.finishHead q .badDescriptor 0

/-- R371: what an owner-locked device refuses. -/
def State.unlessLocked (s : State) (q : Nat) (f : State → State) : State :=
  if s.ownerLocked then s.finishHead q .sigFail 0 else f s

/-- Joins the items of several sources; none where one of them fails. -/
def allItems : List (Option (List Item)) → Option (List Item)
  | [] => some []
  | none :: _ => none
  | some l :: rest => (allItems rest).map (l ++ ·)

/-- NOP (R366). -/
def execNop (q : Fin 32) (s : State) : Host.Outcome State Fault Refusal :=
  .next (s.command q.val 1 false [] fun _ s => s.finishHead q.val .ok 0)

/-- STAGE_REG (R366, R367, R371). -/
def execStageReg (q : Fin 32) (s : State) : Host.Outcome State Fault Refusal :=
  .next (s.command q.val 2 true [(4, 60)] fun d s => s.unlessLocked q.val fun s =>
    let n := bytesAt d 4 4
    let pairs := (List.range n).map fun i => regItems (bytesAt d (8 + 8 * i) 4) (bytesAt d (12 + 8 * i) 4)
    s.stage q.val d (if 1 ≤ n && n ≤ 7 && allZero (d.drop (8 + 8 * n)) then allItems pairs else none) n)

/-- The items of a mode, with the configured minimum tick where `tmin` gives one (R366). -/
def modeItems (m : Nat) (set : Bool) (tmin : Nat) : Option (List Item) :=
  if h : m < 8 then
    if !set && tmin != 0 then none
    else some (.mode ⟨m, h⟩ :: if set then [.reg Reg.HIF_TMIN_CFG (BitVec.ofNat 32 tmin)] else [])
  else none

/-- SET_MODE (R366, R371). -/
def execSetMode (q : Fin 32) (s : State) : Host.Outcome State Fault Refusal :=
  .next (s.command q.val 3 true [(4, 8)] fun d s => s.unlessLocked q.val fun s =>
    let p := bytesAt d 4 4
    s.stage q.val d (if p % 2 ^ 8 < 8 && p < 2 ^ 9 then modeItems (p % 8) (bitOf p 8) (bytesAt d 8 4) else none) 0)

/-! ## Tables -/

/-- R369: the size of a table; none where TABLE and INDEX name none. -/
def tableSize (table index : Nat) : Option Nat :=
  if table = 0x20 then (if index < 4 then some 128 else none)
  else if table = 0x21 then (if index = 0 then some 65536 else if index < 4 then some 4096 else none)
  else if table = 0x22 then (if index = 0 then some 12582912 else none)
  else if table = 0x23 then (if index = 0 then some 512 else none)
  else if table = 0x24 then (if 1 ≤ index ∧ index < 4 then some 8192 else none)
  else if table = 0x30 then (if index = 0 then some 524800 else none)
  else if table = 0x31 then (if index = 0 then some 65536 else none)
  else if 0x40 ≤ table ∧ table ≤ 0x4F then (if index = 0 then some 8256 else none)
  else none

/-- R366, R369: may a load name these operands? `w` is the word of ENTRIES and SET_COUNT. -/
def loadOk (table index offset length w : Nat) : Bool :=
  match tableSize table index with
  | none => false
  | some size => offset % 4 == 0 && length % 4 == 0 && 4 ≤ length && offset + length ≤ size &&
      (if table = 0x21 then getBits w 30 17 == 0 && w % 2 ^ 17 ≤ size / 4 else w == 0)

/-- The number of entries that a load sets (R369). -/
def loadEntries (w : Nat) : Option Nat := if bitOf w 31 then some (w % 2 ^ 17) else none

/-- The swap that TABLE_SWAP or a bundle asks for (R366). -/
def swapItems (table index : Nat) (force : Bool) : Option (List Item) :=
  if (tableSize table index).isNone || (force && table < 0x40) then none else some [.swap table index force]

/-- A load has written its last byte (R369, R370). -/
def State.writeLoad (s : State) (l : Load) : State :=
  let key := tableKey l.table l.index
  let bank := 1 - s.activeBank key
  let s1 := s.writeTable key bank l.offset l.data
  { s1 with tables := { s1.tables with
      incomplete := s1.tables.incomplete.set (fun _ => false) key false
      entries := match l.entries with
        | some n => s1.tables.entries.set (fun _ => 0) (key * 2 + bank) n
        | none => s1.tables.entries } }

/-- A shadow bank is marked incomplete (R331, R370). -/
def State.markIncomplete (s : State) (table index : Nat) : State :=
  { s with tables := { s.tables with incomplete := s.tables.incomplete.set (fun _ => false) (tableKey table index) true } }

/-- Does a TABLE_LOAD of a table wait or run? -/
def State.loading (s : State) (t : Nat × Nat) : Bool := s.loads.any fun l => l.table == t.1 && l.index == t.2

/-- Does a load of a table wait or run, a flat-field acquisition among them (R370, R446)? -/
def State.loadOpen (s : State) (t : Nat × Nat) : Bool :=
  s.loading t || (s.cal.flat.isSome && (t == (0x22, 0) || t == (0x23, 0)))

/-- R370: has a TABLE_LOAD of a table been fetched on an SQ other than `q` and not started? One behind the COMMIT on its own
SQ starts only after it. -/
def State.loadFetched (s : State) (q : Nat) (t : Nat × Nat) : Bool :=
  (List.range 32).any fun n => n != q && s.ringKind n == 0 &&
    ((s.ring n).fetched.drop (boolNat (s.ring n).executing)).any fun d =>
      descOp d == 4 && bytesAt d 4 1 == t.1 && bytesAt d 5 3 == t.2

/-- TABLE_SWAP (R366, R369, R371). -/
def execTableSwap (q : Fin 32) (s : State) : Host.Outcome State Fault Refusal :=
  .next (s.command q.val 5 true [(4, 4)] fun d s => s.unlessLocked q.val fun s =>
    let p := bytesAt d 4 4
    s.stage q.val d (if p < 2 ^ 17 then swapItems (p % 256) (getBits p 15 8) (bitOf p 16) else none) 0)

/-! ## Commits -/

/-- R20: the number that the next edge takes. -/
def State.nextTick (s : State) : Nat := if s.seq.first then s.lastTick + 1 else 0

/-- R29: the coupling lead of a group. -/
def leadOf (l : List Item) : Nat := if (swapsOf l).contains (0x30, 0) then 4000 else 2000

/-- The bank in force of a table changes. -/
def State.toggleBank (s : State) (key : Nat) : State :=
  { s with tables := { s.tables with active := s.tables.active.set (fun _ => 0) key (1 - s.activeBank key) } }

/-- R76, R462: the host sets the mode; while SERVICE is held for cold, it is kept and not yet in force. -/
def State.hostSetsMode (s : State) (m : Nat) : State :=
  let s1 := { s with hostMode := m }
  if s1.thermal.coldHeld then s1 else s1.setFld .HIF_MODE_MODE m

/-- R462: SERVICE comes into force for cold, or the committed mode does again; a lift comes to nothing where T_COLD_LIMIT
stands crossed again. -/
def State.coldHold (s : State) (on : Bool) : State :=
  if on then { s.setFld .HIF_MODE_MODE serviceMode with thermal := { s.thermal with coldHeld := true } }
  else if s.flag .THM_STAT_COLD_LIMIT then s
  else { (s.setFlag .THM_STAT_COLD_HOLD false).setFld .HIF_MODE_MODE s.hostMode with
         thermal := { s.thermal with coldHeld := false } }

/-- An item is laid over the settings (R62). -/
def State.layItem (s : State) : Item → State
  | .reg a v => s.plainWriteReg a v
  | .swap t i _ => s.toggleBank (tableKey t i)
  | .mode m => s.hostSetsMode m.val

/-- Items are laid over the settings. -/
def State.lay (s : State) (l : List Item) : State := l.foldl (fun s x => s.layItem x) s

/-- Every accepted group whose provisional edge is at or before `p` is laid over the settings (R62). -/
def State.layUpTo (s : State) (p : Nat) : State :=
  (s.accepted.filter fun a => decide (a.prov ≤ p)).foldl (fun s a => s.lay a.items) s

/-- R76, R336: the settings that the next edge starts from; the mode of HIF_MODE_INIT is the first after RUN is set. -/
def State.upcoming (s : State) : State :=
  if s.seq.fresh || !s.run then s.hostSetsMode (s.fld .HIF_MODE_INIT_MODE) else s

/-- The effective minimum tick (R22, R61) that settings give after an edge with a mode and a minimum tick. -/
def State.effectiveMin (v : State) (prevMode prevMin : Nat) : Nat :=
  let m := v.minTick prevMode prevMin
  if v.seq.throttle then v.throttleFloor m else m

/-- The mode and the effective minimum tick that the device foresees at edge `p`: `acc` holds them at an earlier edge,
third. An edge between at which no accepted group applies keeps the mode. -/
def State.foreseeAt (v : State) (acc : Nat × Nat × Nat) (p : Nat) : Nat × Nat × Nat :=
  let before := v.layUpTo (p - 1)
  let now := v.layUpTo p
  let min := if acc.2.2 + 1 < p then before.effectiveMin before.mode 0 else acc.2.1
  (now.mode, now.effectiveMin acc.1 min, p)

/-- R55, R62: the mode and the effective minimum tick at the edge before edge `p`, as far as the device foresees them. -/
def State.foresee (s : State) (p : Nat) : Nat × Nat :=
  let v := s.upcoming
  let n0 := s.nextTick
  if p ≤ n0 then (s.mode, s.seq.tmin)
  else
    let provs := sortBy (fun x => x) ((n0 :: s.accepted.map (·.prov)).filter fun x => n0 ≤ x && x < p)
    let r := provs.foldl (fun acc x => if acc.2.2 = x ∧ x ≠ n0 then acc else v.foreseeAt acc x)
      (s.mode, s.seq.tmin, n0 - 1)
    let at_ := v.layUpTo (p - 1)
    (at_.mode, if r.2.2 + 1 < p then at_.effectiveMin at_.mode 0 else r.2.1)

/-- R104: when the first edge under INTERNAL falls, for a RUN set now. -/
def State.firstEdge (s : State) : Time :=
  let t : Time := BitVec.ofNat 64 (s.wide Reg.EXP_TICK_START_LO)
  if 2000 ≤ timeDiff t s.tb then t else timeAfter s.tb 2000

/-- R62: the time foreseen for the next edge under INTERNAL; while RUN is 0, that of a RUN set now (log 25). -/
def State.nextEdgeTime (s : State) : Time :=
  match s.seq.due with
  | some t => t
  | none =>
    let t := if !s.run then s.firstEdge else (s.seq.start).getD (timeAfter s.seq.base (s.fld .EXP_TICK_PERIOD_PERIOD))
    let least := if s.seq.first then timeAfter s.tb (s.seq.lastClk + s.seq.tmin - s.clk) else s.tb
    if 0 ≤ timeDiff t least then t else least

/-- R22: the effective minimum tick, which before the first edge is that of the settings in force. -/
def State.tickFloor (s : State) : Nat := if s.seq.first then s.seq.tmin else s.effectiveMin s.mode 0

/-- R62: the first edge foreseen under INTERNAL whose time is `t` or later. -/
def State.edgeAt (s : State) (t : Time) : Nat :=
  let step := max 1 (max (s.fld .EXP_TICK_PERIOD_PERIOD) s.tickFloor)
  s.nextTick + ((timeDiff t s.nextEdgeTime).toNat + step - 1) / step

/-- R62: the provisional edge of a target whose group has the lead `lead`. -/
def State.provisional (s : State) (target : Target) (lead : Nat) : Nat :=
  let n0 := s.nextTick
  let next := if s.tickSrc = 0 then s.edgeAt (timeAfter s.tb lead) else n0
  match target with
  | .tick n => if s.run then n else max n n0
  | .next => if s.run then next else n0
  | .time t =>
    if reached s.tb t then (if s.run then next else n0)
    else if s.tickSrc = 0 then s.edgeAt t
    else s.accepted.foldl (fun m a => max m (a.prov + 1)) n0

/-- R62, R462: cold holds, and their lifts, that the device foresees before edge `p` are in force there. At an edge itself
they apply after the host groups (R34, R63). -/
def State.foreseeCold (s : State) (p : Nat) : State :=
  s.mgmt.foldl (fun t m => match m.change with
    | .coldHold on => if (if s.tickSrc = 0 then s.edgeAt m.earliest else s.nextTick) < p then t.coldHold on else t
    | _ => t) s

/-- R62: does a group pass the check at its provisional edge? -/
def State.acceptable (s : State) (l : List Item) (prov : Nat) : Bool :=
  let (mode, min) := s.foresee prov
  !(swapsOf l).any (fun t => s.tables.incomplete.get (fun _ => false) (tableKey t.1 t.2)) &&
    (((s.upcoming.layUpTo prov).foreseeCold prov).lay l).validCfg mode min (swapsOf l)

/-- A COMMIT at the head of a ring is accepted, or completes with BAD_DESCRIPTOR and leaves its group (R28, R32, R62). -/
def State.acceptCommit (s : State) (q : Nat) (d : List Byte) (target : Target) : State :=
  let g := bytesAt d 1 1
  let items := s.group g
  let lead := leadOf items
  let prov := s.provisional target lead
  let far := match target with | .tick n => decide (s.lastTick + 2 ^ 32 < n) | _ => false
  if 16 ≤ s.accepted.length || far || !s.acceptable items prov then s.finishHead q .badDescriptor 0
  else
    let missed := match target with
      | .tick n => decide (n < s.nextTick)
      | .time t => s.run && s.seq.first && reached (BitVec.ofNat 64 (s.wide Reg.HIF_EDGE_TIME_LO)) t
      | .next => false
    let a : Accepted := { items := items, target := target, at_ := s.tb, lead := lead, stopped := !s.run,
                          missed := missed, prov := prov, ring := q, tag := descTag d }
    ({ s.setGroup g [] with accepted := s.accepted ++ [a] }).nextHead q

/-- The target that a COMMIT names (R27, R366); none where its operands fail. -/
def commitTarget (d : List Byte) : Option Target :=
  let v := bytesAt d 8 8
  match bytesAt d 4 4 with
  | 0 => if v = 0 then some .next else none
  | 1 => if v < 2 ^ 48 then some (.tick v) else none
  | 2 => some (.time (BitVec.ofNat 64 v))
  | _ => none

/-- R370: a COMMIT waits while a load of a bank that its group swaps is open. -/
def State.tryCommit (s : State) (q : Nat) (d : List Byte) : State :=
  match commitTarget d with
  | none => s.finishHead q .badDescriptor 0
  | some t =>
    if (swapsOf (s.group (bytesAt d 1 1))).any fun t => s.loadOpen t || s.loadFetched q t then s.startHead q
    else s.acceptCommit q d t

/-- R370: the COMMITs that waited for loads are tried again. -/
def State.retryCommits (s : State) : State :=
  (List.range 32).foldl (fun s q =>
    match (s.ring q).executing, (s.ring q).fetched with
    | true, d :: _ => if descOp d = 6 then s.tryCommit q d else s
    | _, _ => s) s

/-- PIPELINE_FRAME (R172). A COMMIT that waited for a flat-field acquisition is accepted where the frame ends it (R370,
R446). -/
def execPipelineFrame (reads : MemoryStep) (cam : Fin 4) (s : State) : Host.Outcome State Fault Refusal :=
  let s := s.advance reads.dt
  .next (if s.gated 1 || !s.alive then s
    else
      let t := ((s.sramErrors s.errorTick reads.sram).pipeline cam.val).dropClaims.dropFrames.settleDrain
      if s.cal.flat.isSome && t.cal.flat.isNone then t.retryCommits else t)

/-- COMMIT (R28 to R32, R62, R366, R370). -/
def execCommit (q : Fin 32) (s : State) : Host.Outcome State Fault Refusal :=
  .next (s.command q.val 6 true [(4, 12)] fun d s => s.tryCommit q.val d)

/-- TABLE_LOAD (R366, R369 to R371). The read of the data is made when the load may begin, so one that fails does so
then. -/
def execTableLoad (q : Fin 32) (data : Option (List Byte)) (s : State) : Host.Outcome State Fault Refusal :=
  .next (s.command q.val 4 false [(4, 24)] fun d s => s.unlessLocked q.val fun s =>
    let p := bytesAt d 4 4
    let table := p % 256
    let index := p / 256
    let len := bytesAt d 20 4
    if !loadOk table index (bytesAt d 16 4) len (bytesAt d 24 4) || bytesAt d 8 8 % 4 != 0 then
      s.finishHead q.val .badDescriptor 0
    else match data with
      | some bs =>
        let l : Load := ⟨q.val, table, index, bytesAt d 16 4, padTo len bs, loadEntries (bytesAt d 24 4)⟩
        { s.startHead q.val with loads := s.loads ++ [l] }
      | none =>
        if s.bankFree q.val table index && !s.loading (table, index) then
          ((s.readFailed 0).markIncomplete table index).finishHead q.val .badDescriptor 0
        else s).retryCommits

/-- A ring is disabled (R352). A COMMIT that waited for a load that goes with the ring is tried again (R370). -/
def State.ringDrop (s : State) (n v : Nat) : State :=
  let t := s.ringDisable n v
  if (t.ring n).fetched = (s.ring n).fetched then t else t.retryCommits

/-- A write of a ring's configuration register: of PF0 for rings 0 to 31, of PF1 for the mailbox. -/
def State.ringCfgWrite (s : State) (n v : Nat) (en : Bool) : State :=
  let f (s : State) := if en then s.ringEnable n v else s.ringDrop n v
  if n < 32 then s.pf0Write f else s.pf1Write f

/-- RING_ENABLE (R341, R363, R389). -/
def execRingEnable (ring : Fin 33) (value : Word) (s : State) : Host.Outcome State Fault Refusal :=
  .next (s.ringCfgWrite ring.val value.toNat true)

/-- RING_DISABLE (R352, R389). -/
def execRingDisable (ring : Fin 33) (value : Word) (s : State) : Host.Outcome State Fault Refusal :=
  .next (s.ringCfgWrite ring.val value.toNat false)

/-- TABLE_LOAD_COMPLETE (R38, R290, R370): the load of a ring's head has written its last byte, and COMMITs that
waited for it are accepted. Loads of one bank are written in their order. -/
def execTableLoadComplete (dt : Nat) (q : Fin 32) (s : State) : Host.Outcome State Fault Refusal :=
  let s := s.advance dt
  .next (match s.loads.find? (fun l => l.ring == q.val) with
    | none => s
    | some l =>
      if s.loadStarted l then
        let s1 := { s.writeLoad l with loads := s.loads.filter fun m => m.ring != q.val }
        (s1.finishHead q.val .ok l.data.length).settleFlat.retryCommits
      else s)

/-- DISCARD (R368). -/
def execDiscard (q : Fin 32) (s : State) : Host.Outcome State Fault Refusal :=
  .next (s.command q.val 7 true [] fun d s =>
    let g := bytesAt d 1 1
    (s.setGroup g []).finishHead q.val .ok (s.group g).length)

/-! ## Bundles -/

/-- What a bundle holds: items for its group, table data, and how many items the bundle counts. -/
structure BundleBody where
  items : List Item
  loads : List Load
  deriving DecidableEq, Repr

/-- R516: one item of a bundle's body; none where it breaks a rule. -/
def bundleItem (q : Nat) (b : List Byte) : Option BundleBody :=
  let f := bytesAt b
  let size := b.length
  if f 2 2 != 0 then none
  else match f 0 2 with
    | 1 => if size = 16 then (regItems (f 8 4) (f 12 4)).map fun l => ⟨l, []⟩ else none
    | 2 => if size = 16 ∧ f 9 1 < 2 ∧ f 10 2 = 0 then (modeItems (f 8 1) (f 9 1 == 1) (f 12 4)).map fun l => ⟨l, []⟩ else none
    | 3 =>
      if loadOk (f 8 1) (f 9 1) (f 12 4) (f 16 4) (f 20 4) && f 10 2 == 0 && size == 24 + roundUp 8 (f 16 4) &&
          allZero (b.drop (24 + f 16 4)) then
        some ⟨[], [⟨q, f 8 1, f 9 1, f 12 4, (b.drop 24).take (f 16 4), loadEntries (f 20 4)⟩]⟩
      else none
    | 4 => if size = 16 ∧ f 10 1 < 2 ∧ f 11 5 = 0 then (swapItems (f 8 1) (f 9 1) (f 10 1 == 1)).map fun l => ⟨l, []⟩ else none
    | _ => none

/-- R516: `n` items of a body, which they fill. -/
def bundleItems (q : Nat) : Nat → List Byte → Option BundleBody
  | 0, b => if b.isEmpty then some ⟨[], []⟩ else none
  | n + 1, b =>
    let size := bytesAt b 4 4
    if size < 8 || size % 8 != 0 || b.length < size then none
    else
      match bundleItem q (b.take size), bundleItems q n (b.drop size) with
      | some x, some y => some ⟨x.items ++ y.items, x.loads ++ y.loads⟩
      | _, _ => none

/-- R517: `n` items of a body of which the last was read in part, its table data so far with them; none where an item is
missing or breaks a rule. -/
def cutItems (q : Nat) : Nat → List Byte → Option BundleBody
  | 0, _ => some ⟨[], []⟩
  | n + 1, b =>
    let size := bytesAt b 4 4
    if size < 8 || size % 8 != 0 then none
    else if b.length < size then
      (if n = 0 ∧ 24 ≤ b.length then
        (bundleItem q (padTo size b)).map fun x => ⟨x.items, x.loads.map fun l => { l with data := l.data.take (b.length - 24) }⟩
      else none)
    else
      match bundleItem q (b.take size), cutItems q n (b.drop size) with
      | some x, some y => some ⟨x.items ++ y.items, x.loads ++ y.loads⟩
      | _, _ => none

/-- R516: the header of a bundle of `len` bytes. -/
def bundleHead (b : List Byte) (len : Nat) : Bool :=
  let body := bytesAt b 8 4
  bytesAt b 0 4 == 0x4E55424B && bytesAt b 4 4 == len && body % 8 == 0 && allZero ((b.take 64).drop 24) &&
    (len == 64 + body || len == roundUp 64 (64 + body) + 3373)

/-- R516: the form of a bundle of `len` bytes; answers whether it is signed. -/
def bundleForm (b : List Byte) (len : Nat) : Option Bool :=
  let body := bytesAt b 8 4
  let sigAt := roundUp 64 (64 + body)
  if !bundleHead b len then none
  else if len = 64 + body then some false
  else if len = sigAt + 3373 ∧ allZero ((b.take sigAt).drop (64 + body)) then some true
  else none

/-- R371, R517: both signatures of a bundle verify under the owner key in force. -/
def State.bundleSigned (s : State) (b : List Byte) : Bool :=
  let msg := b.take (64 + bytesAt b 8 4)
  let sigAt := roundUp 64 (64 + bytesAt b 8 4)
  Config.ed25519Verify ((s.nvm.owner.drop 16).take 32) msg ((b.drop sigAt).take 64) &&
    Config.mlDsaVerify ((s.nvm.owner.drop 48).take 1952) msg ((b.drop (sigAt + 64)).take 3309)

/-- R514: is an owner key enrolled? -/
def State.ownerEnrolled (s : State) : Bool := !s.nvm.owner.isEmpty

/-- R517: the status with which a bundle of good form is refused; none where its origin is accepted. -/
def State.bundleRefused (s : State) (b : List Byte) (signed : Bool) : Bool :=
  (bytesAt b 16 8 != 0 && bytesAt b 16 8 != Config.serial.toNat) || (s.ownerEnrolled && !(signed && s.bundleSigned b))

/-- R517: every item of a bundle passes, and its items and table data are staged and written. -/
def State.stageBundle (s : State) (q : Nat) (d b : List Byte) : State :=
  match bundleItems q (bytesAt b 12 4) ((b.drop 64).take (bytesAt b 8 4)) with
  | none => s.finishHead q .badDescriptor 0
  | some x =>
    let g := x.items.foldl addItem (s.group (bytesAt d 1 1))
    if !groupFits g then s.finishHead q .badDescriptor 0
    else if x.loads.all fun l => s.bankFree q l.table l.index && !s.loading (l.table, l.index) then
      ((x.loads.foldl (fun s l => s.writeLoad l) s).setGroup (bytesAt d 1 1) g).finishHead q .ok (bytesAt b 12 4)
    else s

/-- R517: the read of a bundle failed. Where what was read passes every check, without an owner whose signatures would have to
verify first, the banks whose data had come are written so far and marked incomplete, once they are free; else nothing is
written (log 29). -/
def State.bundleCut (s : State) (q : Nat) (d b : List Byte) (len : Nat) : State :=
  let fails := (s.readFailed 0).finishHead q .badDescriptor 0
  match cutItems q (bytesAt b 12 4) ((b.drop 64).take (bytesAt b 8 4)) with
  | none => fails
  | some x =>
    if b.length < 64 || !bundleHead b len || s.ownerEnrolled || s.bundleRefused b false ||
        !groupFits (x.items.foldl addItem (s.group (bytesAt d 1 1))) then fails
    else if x.loads.all fun l => s.bankFree q l.table l.index && !s.loading (l.table, l.index) then
      (x.loads.foldl (fun s l => (s.writeLoad l).markIncomplete l.table l.index) (s.readFailed 0)).finishHead q .badDescriptor 0
    else s

/-- BUNDLE (R371, R516, R517): `data` is what the device read; fewer bytes than LENGTH where the read failed. -/
def execBundle (q : Fin 32) (data : Option (List Byte)) (s : State) : Host.Outcome State Fault Refusal :=
  .next (s.command q.val 8 true [(8, 12)] fun d s =>
    let len := bytesAt d 16 4
    let b := (data.getD []).take len
    if bytesAt d 8 8 % 64 != 0 then s.finishHead q.val .badDescriptor 0
    else if b.length < len then s.bundleCut q.val d b len
    else match bundleForm b len with
      | none => s.finishHead q.val .badDescriptor 0
      | some signed =>
        if s.bundleRefused b signed then s.finishHead q.val .sigFail 0 else s.stageBundle q.val d b)

end Sys2Proof.Machine
end

