-- ==== Sys2Proof/Machine/Governor.lean ====
section
/-! DEFINITION. The exposure governor (R119 to R122), and CTX_READ (R388). -/

namespace Sys2Proof.Machine

/-! ## The metric -/

/-- R120, METRIC 0: the mean of v over the pixels of channel CH in the selected zones, as an exact rational (R121; the floor
of R123 is that of the means a record holds: DESIGN CHOICE, log 61); none where they hold no pixel. -/
def State.zoneMetric (s : State) (t : TapStat) : Option Rat :=
  let ch := s.fld .EXP_GOV_CFG_CH
  let zones := ((List.range 16).filter fun z => bitOf (s.fld .EXP_GOV_TARGET_ZONES) z).map fun z =>
    t.zones.getD (16 * ch + z) (0, 0, 0)
  let n := (zones.map (·.1)).sum
  if n = 0 then none else some (((zones.map fun z => z.2.1).sum : Nat) / (n : Rat))

/-- The lowest bin at which the cumulative count reaches a number. -/
def binReaching (target : Nat) : Nat → Nat → List Nat → Nat
  | b, _, [] => b
  | b, acc, h :: hs => if target ≤ (acc + h) * 256 then b else binReaching target (b + 1) (acc + h) hs

/-- R120, METRIC 1: the histogram percentile; none where the histogram is empty. -/
def State.histMetric (s : State) (t : TapStat) : Option Rat :=
  let total := t.hist.sum
  if total = 0 then none
  else some ((256 * binReaching (s.fld .EXP_GOV_PCT_PCT * total) 0 0 t.hist + 128 : Nat) : Rat)

/-- R120; the codes 2 and 3 of METRIC, which only a direct write can put in force, give a free value (log 24). -/
def State.govMetric (s : State) (draw : Nat) (t : TapStat) : Option Rat :=
  match s.fld .EXP_GOV_CFG_METRIC with
  | 0 => s.zoneMetric t
  | 1 => s.histMetric t
  | _ => some (Config.freeAt draw t.tap : Nat)

/-! ## New durations -/

/-- R121: the factor from a metric, before its limits. -/
def State.govFactor (s : State) (m : Rat) : Rat :=
  if m = 0 then ((256 + s.fld .EXP_GOV_CFG_STEP : Nat) : Rat) / 256 else (s.fld .EXP_GOV_TARGET_TARGET : Nat) / m

/-- R121: the factor within its limits. -/
def State.govClamp (s : State) (f : Rat) : Rat :=
  let g : Rat := ((256 + s.fld .EXP_GOV_CFG_STEP : Nat) : Rat)
  max (256 / g) (min f (g / 256))

/-- R121: is nothing to be changed for the governed taps? -/
def State.govStops (s : State) (taps : List Nat) (f : Rat) : Bool :=
  let d : Rat := if 1 ≤ f then f - 1 else 1 - f
  decide (d ≤ (s.fld .EXP_GOV_CFG_DEADBAND : Nat) / (256 : Rat)) &&
    taps.all fun t => s.fld (.EXP_GOV_MIN_BOUND t) ≤ s.fld (.EXP_TAP_DUR_DUR t) &&
      s.fld (.EXP_TAP_DUR_DUR t) ≤ s.fld (.EXP_GOV_MAX_BOUND t)

/-- Does the frame with a duration for a tap pass R112 in the mode in force? -/
def State.durFits (v : State) (t d : Nat) : Bool :=
  let w := v.setFld (.EXP_TAP_DUR_DUR t) d
  w.tapsOk (w.minTick w.mode 0) 0

/-- R121: a duration is lowered while it is above the present one and fails R112. -/
def State.lowerDur (v : State) (t old : Nat) : Nat → Nat → Nat
  | 0, d => d
  | fuel + 1, d => if old < d && !v.durFits t d then v.lowerDur t old fuel (d - 1) else d

/-- R121: the new duration of a tap. -/
def State.newDur (v : State) (t : Nat) (f : Rat) : Nat :=
  let old := v.fld (.EXP_TAP_DUR_DUR t)
  let d := max (v.fld (.EXP_GOV_MIN_BOUND t)) (min (((old : Nat) : Rat) * f).floor.toNat (v.fld (.EXP_GOV_MAX_BOUND t)))
  v.lowerDur t old (d - old) d

/-- R121: the taps governed together, with their factor; none where their metric gives no change. The statistics of an odd
frame of STRIP, whose charge lies in tap B, count under tap A, whose settings it had; with LINK 1 a REF_TAP that the frame
does not expose gives no change (DESIGN CHOICE, log 61). -/
def State.govPlan (s : State) (draw : Nat) (x : StatFrame) : List (List Nat × Rat) :=
  let stat (t : Nat) : Option TapStat := x.taps.find? fun (y : TapStat) => y.tap == t
  let plan (taps : List Nat) (ref : Nat) : Option (List Nat × Rat) :=
    match (stat ref).bind (s.govMetric draw) with
    | none => none
    | some m =>
      let f := s.govFactor m
      if s.govStops taps f then none else some (taps, s.govClamp f)
  if s.flag .EXP_GOV_CFG_LINK then (plan s.taps (s.fld .EXP_GOV_CFG_REF_TAP)).toList
  else s.taps.filterMap fun t => plan [t] t

/-- The settings with the new durations. -/
def State.applyPlan (s : State) (plan : List (List Nat × Rat)) : State :=
  plan.foldl (fun v p => p.1.foldl (fun v t => v.setFld (.EXP_TAP_DUR_DUR t) (v.newDur t p.2)) v) s

/-- R121, R122: the governor stages new durations as one management-staged change, which applies no earlier than two
edges after the edge of the evaluated frame `tick`; `e` has the settings that the evaluation goes by. -/
def State.stageDurations (s e : State) (tick : Nat) (plan : List (List Nat × Rat)) : State :=
  let v := e.applyPlan plan
  let taps := plan.flatMap (·.1)
  let dur (t : Nat) : Nat := v.fld (.EXP_TAP_DUR_DUR t)
  let s1 := s.stageMgmt (.durations (taps.map fun t => (t, BitVec.ofNat 32 (dur t))) (tick + 2))
  let s2 := s1.setFld .EXP_GOV_STAT_CHANGES (s1.fld .EXP_GOV_STAT_CHANGES + 1)
  let s3 := s2.setFlag .EXP_GOV_STAT_AT_MIN (taps.any fun t => dur t == e.fld (.EXP_GOV_MIN_BOUND t))
  s3.setFlag .EXP_GOV_STAT_AT_MAX (taps.any fun t => dur t == e.fld (.EXP_GOV_MAX_BOUND t) || !v.durFits t (dur t + 1))

/-- R118, R119: may the frame be evaluated? It is the newest whose statistics are complete, exposed under the governor's
last change, free of the flags, and its edge had EN in force (log 61). -/
def State.govUsable (s : State) (x : StatFrame) : Bool :=
  x.usable && ({ s with regs := x.regs } : State).flag .EXP_GOV_CFG_EN && decide (s.gov.since ≤ x.tick) && s.mgmt.all fun (m : Mgmt) => match m.change with
    | .durations _ _ => false
    | _ => true

/-- R119: is an evaluation due? -/
def State.govDue (s : State) : Bool :=
  s.alive && s.flag .EXP_GOV_CFG_EN && s.mode != serviceMode &&
    (s.gov.last == 0 || decide (s.gov.last + max 1 (s.fld .EXP_GOV_CFG_PERIOD) ≤ s.lastTick + 1))

/-- The registers of the governor's configuration and bounds. -/
def govRegs : List Nat :=
  [Reg.EXP_GOV_CFG, Reg.EXP_GOV_TARGET, Reg.EXP_GOV_PCT] ++
    (List.range 4).flatMap fun t => [Reg.EXP_GOV_MIN t, Reg.EXP_GOV_MAX t]

/-- R34, R118: what an evaluation of a frame goes by: the settings in force, durations among them, with the governor's
configuration and bounds of the frame's edge. -/
def State.govView (s : State) (x : StatFrame) : State :=
  { s with regs := govRegs.foldl (fun m a => m.set regReset a (x.regs.get regReset a)) s.regs }

/-- GOVERNOR_EVALUATE (R119 to R122). -/
def execGovernorEvaluate (dt : Nat) (s : State) : Host.Outcome State Fault Refusal :=
  let s := s.advance dt
  .next (if s.govDue then
    let s1 := { s with gov := { s.gov with last := s.lastTick + 1 } }
    match s1.statFrame with
    | some x =>
      if s1.govUsable x then
        let v := s1.govView x
        let (draw, s2) := if v.fld .EXP_GOV_CFG_METRIC < 2 then (0, s1) else (s1.freeCtr, { s1 with freeCtr := s1.freeCtr + 1 })
        match v.govPlan draw x with
        | [] => s2
        | plan => s2.stageDurations v x.tick plan
      else s1
    | none => s1
  else s)

/-! ## CTX_READ -/

/-- The 64 bytes of a track context (R218); a FREE one reads as zeros (R388). -/
def Track.bytes (x : Track) : List Byte :=
  if x.state = 0 then List.replicate 64 0
  else
    leBytes 4 x.objId ++ leBytes 6 x.firstTick ++ leBytes 6 x.lastTick ++ leBytes 8 x.time.toNat ++
      leBytes 3 (unsigned 24 x.x) ++ leBytes 3 (unsigned 24 x.y) ++ leBytes 2 (unsigned 16 x.vx) ++
      leBytes 2 (unsigned 16 x.vy) ++ leBytes 3 (unsigned 24 x.ax) ++ leBytes 3 (unsigned 24 x.ay) ++
      leBytes 1 (x.state + 16 * x.camMask) ++ leBytes 1 (min 255 x.sight) ++ leBytes 1 (min 255 x.miss) ++
      leBytes 1 x.flags ++ leBytes 2 x.repArea ++ leBytes 1 (x.cls + 16 * x.action) ++ leBytes 1 x.conf ++
      leBytes 2 x.dTick ++ leBytes 4 x.parent ++ leBytes 2 (x.firstValve + 4096 * x.row) ++ leBytes 2 x.valveCount ++
      leBytes 2 x.pending ++ leBytes 4 x.lastFire

/-- The 192 bytes that CTX_READ writes for a context (R388). A fused vector that no sighting has written reads 0
(log 9). -/
def Track.image (x : Track) : List Byte := x.bytes ++ padTo 128 (x.fused.flatMap fun f => leBytes 2 f)

/-- CTX_READ (R386, R388). -/
def execCtxRead (s : State) : Host.Outcome State Fault Refusal :=
  .next (s.mailbox 0x80 [(8, 12), (20, 8)] fun d s =>
    let first := bytesAt d 20 4
    let n := bytesAt d 24 4
    if n = 0 || 4096 < n || 262144 < first + n || bytesAt d 16 4 < 192 * n then s.finishMbox .badDescriptor 0
    else
      let (draw, s1) := s.free
      let bad := ((List.range n).map (first + ·)).filter fun i => Config.freeAt draw i % 2 == 1
      ((s1.writeMem (bytesAt d 8 8) ((List.range n).flatMap fun i => (s.track (first + i)).image)).contextErrors
        s1.errorTick bad).finishMbox .ok n)

end Sys2Proof.Machine
end

