-- ==== Sys2Proof/Machine/Coach.lean ====
section
/-! DEFINITION. The Coachmen and their firmware (R506 to R513): image checks, live update, trials and takeovers. -/

namespace Sys2Proof.Machine

/-! ## Firmware images -/

/-- The greatest length of a firmware image (R506). -/
def bankSize : Nat := 0x180000

/-- Where the signatures of the image in a bank begin (R506). -/
def State.imageSigAt (s : State) (bank : Nat) : Nat := roundUp 64 (256 + s.imageWord bank 12)

/-- The measurement M of the image in a bank: over bytes 0 to 255 + BODY_LEN − 1, the last one included (R506). -/
def State.measurement (s : State) (bank : Nat) : List Byte :=
  (Config.sha3 (s.nvmRange (bankAt bank) (255 + s.imageWord bank 12))).toList

/-- R507: does the image in a bank keep the form of R506? -/
def State.imageForm (s : State) (bank : Nat) : Bool :=
  let len := s.imageWord bank 12
  let sigAt := s.imageSigAt bank
  s.imageWord bank 0 == 0x4B584657 && s.imageWord bank 8 < 256 && allZero (s.nvmRange (bankAt bank + 20) 236) &&
    decide (sigAt + 3373 ≤ bankSize) && allZero (s.nvmRange (bankAt bank + 256 + len) (sigAt - (256 + len)))

/-- R507: the failure that a check of a bank's image finds, coded as SEC_FW_STAT.REASON; 0 for a valid image. -/
def State.imageReason (s : State) (bank : Nat) : Nat :=
  let m := s.measurement bank
  let sigAt := bankAt bank + s.imageSigAt bank
  if !s.imageForm bank then 1
  else if s.imageWord bank 8 < s.nvm.rollback then 2
  else if !bitOf (s.imageWord bank 16) s.nvm.lifecycle then 3
  else if !Config.ed25519Verify Config.fwKeyEd m (s.nvmRange sigAt 64) then 4
  else if !Config.mlDsaVerify Config.fwKeyMl m (s.nvmRange (sigAt + 64) 3309) then 5
  else 0

/-! ## Lead and standby -/

/-- R508: the inactive bank; none where the two Coachmen run different banks. -/
def State.inactiveBank (s : State) : Option Nat :=
  let b := s.coachBank s.lead
  if s.standbyServes && s.coachBank (1 - s.lead) != b then none else some (1 - b)

/-! ## Takeovers -/

/-- A takeover that waits for an edge comes with the stop of the tick sequencer (R510). -/
def State.settleTakeOver (s : State) : State :=
  match s.coach.takeover with
  | some (_, why) => if s.running then s else s.takeOver why
  | none => s

/-- Do the Coachmen act at all? -/
def State.coachAlive (s : State) : Bool := s.alive && s.coach.started

/-- STANDBY_READY (R510 to R513): the standby that restarts reports ready. -/
def execStandbyReady (dt : Nat) (s : State) : Host.Outcome State Fault Refusal :=
  let s := s.advance dt
  .next (if !s.coachAlive || s.standby then s
  else
    let t := { s with coach := { s.coach with restart := none } }
    match s.coach.restart, s.coach.wanted with
    | none, _ => s
    | some (.activate n), _ => t.requestTakeOver (.activate n)
    | some (.confirm n), none => t.finishWaiting n .ok 0
    | some (.confirm n), some w => (t.finishWaiting n .ok 0).requestTakeOver w
    | some .plain, some w => t.requestTakeOver w
    | some .plain, none => t)

/-- TRIAL_TIMEOUT (R512): TRIAL_S seconds of a trial have passed without FW_CONFIRM. -/
def execTrialTimeout (dt : Nat) (s : State) : Host.Outcome State Fault Refusal :=
  let s := s.advance dt
  .next (match s.coach.trial with
    | some t =>
      if s.coachAlive && s.trialOn && decide (t + 1000000000 * s.fld .SEC_FW_CFG_TRIAL_S ≤ s.now) then
        s.askTakeOver .fallback
      else s
    | none => s)

/-- COACHMAN_WATCHDOG_EXPIRY (R393, R474, R512, R513). -/
def execCoachmanWatchdogExpiry (dt : Nat) (core : Fin 2) (s : State) : Host.Outcome State Fault Refusal :=
  let s := s.advance dt
  let u := core.val
  .next (if !s.coachAlive || decide ((s.unitInfo 10 u).state = .retired) then s
  else
    let s1 := (s.raiseFast 12).charge 14 (unitKey 10 u)
    (if (s1.unitInfo 10 u).state = .retired then s1.coachLost u 14 else s1).coachGone u)

/-! ## Commands -/

/-- FW_WRITE (R509). -/
def execFwWrite (data : Option (List Byte)) (s : State) : Host.Outcome State Fault Refusal :=
  .next (s.mailbox 0x85 [(8, 16)] fun d s =>
    let len := bytesAt d 16 4
    let off := bytesAt d 20 4
    if off % 256 != 0 || len % 256 != 0 || !inRange 256 16384 len || bankSize < off + len then
      s.finishMbox .badDescriptor 0
    else match s.inactiveBank, data with
      | some b, some bs =>
        if s.coach.trial.isSome || s.nvmRefused then s.finishMbox .precondition 0
        else
          let s1 := s.startHead mboxSq
          let s2 := if s.bankState b = 1 then s1
            else (List.range 384).foldl (fun s i => s.program (.erase (b * 384 + i))) (s1.setBank b 1)
          s2.program (.chunk (bankAt b + off) (padTo len bs) (.fwWrite len s.waiting))
      | none, _ => s.finishMbox .precondition 0
      | some _, none =>
        if s.coach.trial.isSome || s.nvmRefused then s.finishMbox .precondition 0
        else (s.readFailed 1).finishMbox .badDescriptor 0)

/-- Is a takeover asked for, and still to come? -/
def State.takeOverDue (s : State) : Bool := s.coach.takeover.isSome || s.coach.wanted.isSome

/-- FW_ACTIVATE (R510). One that meets a takeover still to come is the new lead's to run: it waits for it (R511, R513). -/
def execFwActivate (s : State) : Host.Outcome State Fault Refusal :=
  .next (s.mailbox 0x86 [] fun _ s =>
    if s.takeOverDue then s
    else if !s.standbyServes then s.finishMbox .noSpare 0
    else match s.inactiveBank with
      | none => s.finishMbox .precondition 0
      | some b =>
        if s.coach.trial.isSome || s.nvmRefused then s.finishMbox .precondition 0
        else
          let r := s.imageReason b
          if r != 0 then ((s.setFld .SEC_FW_STAT_REASON r).setBank b 5).finishMbox .sigFail 0
          else
            let s1 := ((s.startHead mboxSq).setBank b 2).bootCoach (1 - s.lead) b
            { s1 with coach := { s1.coach with restart := some (.activate s.waiting) } })

/-- R512: the trial bank becomes the confirmed one, and the other bank keeps VERIFIED only where its SVN allows it. -/
def State.confirmTrial (s : State) : State :=
  let b := s.coachBank s.lead
  let s1 := { s with
    nvm := { s.nvm with rollback := max s.nvm.rollback (s.imageWord b 8), confirmed := b }
    coach := { s.coach with trial := none } }
  ((s1.putBank b 3).putBank (1 - b) (if s1.nvm.rollback ≤ s1.imageWord (1 - b) 8 then 2 else 0)).journalBanks

/-- FW_CONFIRM (R512). -/
def execFwConfirm (s : State) : Host.Outcome State Fault Refusal :=
  .next (s.mailbox 0x87 [] fun _ s =>
    if !s.trialOn || s.nvmRefused then s.finishMbox .precondition 0
    else
      let s1 := s.confirmTrial
      if s1.standbyServes then (s1.startHead mboxSq).restartStandby (1 - s.lead) (.confirm s.waiting)
      else s1.finishMbox .ok 0)

end Sys2Proof.Machine
end

