-- ==== Sys2Proof/Machine/Tick.lean ====
section
/-! DEFINITION. The tick edge (R20 to R39): the Coupling of host groups, management-staged changes and the spare map,
the mode change, the configuration digest (R518, R519), and the frame that the edge begins. -/

namespace Sys2Proof.Machine

/-! ## The settings that the generation follows -/

/-- R36: everything whose change at an edge changes the settings generation. -/
structure Settings where
  regs : Store Word
  mode : Nat
  banks : Store Nat
  cal : Store Nat
  drift : List Nat
  policy : Nat × Nat
  throttle : Bool
  holder : Store Nat
  lost : Store Bool
  rows : List Nat
  host : Store Word × Nat
  deriving DecidableEq, Repr

/-- The rows that the spare map has replaced (R484): one whose change waits for its Coupling is not among them. -/
def State.sparedRows (s : State) : List Nat :=
  ((s.spares.units.filter fun e => e.1 / 2 ^ 20 == 11 && decide (e.2.state = .retired)).map (·.1 % 2 ^ 20)).filter fun n =>
    !s.spares.queue.any fun (q : Subst) => q.cls == 11 && q.role == n

/-- The settings in force, with what the host has committed where another value stands in its place. -/
def State.settings (s : State) : Settings :=
  { regs := s.regs.filter fun p => stageable p.1, mode := s.mode, banks := s.tables.active, cal := s.cal.entries
    drift := s.cal.drift, policy := (s.hostWatch.policy, s.hostWatch.row), throttle := s.seq.throttle
    holder := s.spares.holder, lost := s.spares.lost, rows := s.sparedRows, host := (s.cfgHost, s.hostMode) }

/-! ## Host groups -/

/-- R169: CSX_LINK_STAT.DESKEW counts from the moment EN is set. How the lanes stand then is free (log 54); they are not
looked at while EN is 0. -/
def State.settleDeskew (s before : State) : State :=
  if s.flag .CSX_LINK_CFG_EN = before.flag .CSX_LINK_CFG_EN then s
  else
    let s1 := s.setFlag .CSX_LINK_STAT_DESKEW false
    if s1.flag .CSX_LINK_CFG_EN then
      let (v, s2) := s1.free
      s2.showLanes ⟨BitVec.ofNat 4 v, bitOf v 4⟩
    else s1.showLanes ⟨0, false⟩

/-- A stageable register takes a value that the host gave it, by a group at edge `n` or by a direct write before edge `n`
(R18, R31, R169, R182, R518). -/
def State.takeSetting (s : State) (n a : Nat) (v : Word) : State :=
  let s1 := s.plainWriteReg a v
  let s2 := { s1 with cfgHost := s1.cfgHost.set regReset a (s1.reg a) }
  let s3 := if a % 0x100 = 0 ∧ Reg.PIPE_CAM_CTRL 0 ≤ a ∧ a ≤ Reg.PIPE_CAM_CTRL 3 ∧ bitOf v.toNat 9 then
      { s2 with bg := s2.bg.requestReset ((a - Reg.PIPE_CAM_CTRL 0) / 0x100) n }
    else s2
  s3.settleDeskew s

/-- An item of a group is applied at edge `n` (R31, R38, R182, R369, R518). -/
def State.applyItem (s : State) (n : Nat) : Item → State
  | .reg a v => s.takeSetting n a v
  | .swap t i _ =>
    let s1 := s.toggleBank (tableKey t i)
    { s1 with tables := { s1.tables with swapTick := s1.tables.swapTick.set (fun _ => 0) (tableKey t i) (n + 1) } }
  | .mode m => s.hostSetsMode m.val

/-- What an edge decides for an accepted group: it waits, with or without its target edge behind it, or it is due with
a status. -/
inductive Due where
  | wait (missed : Bool)
  | now (status : Status)
  deriving DecidableEq, Repr

/-- R30, R336: what edge `n` at time `edge` decides for a group. -/
def Accepted.due (a : Accepted) (n : Nat) (edge : Time) : Due :=
  let ready := a.stopped || decide ((a.lead : Int) ≤ timeDiff edge a.at_)
  let hit := match a.target with
    | .next => ready
    | .tick m => decide (m ≤ n)
    | .time t => reached edge t
  if a.missed then (if ready then .now .lateApplied else .wait true)
  else if !hit then .wait false
  else if ready then .now .ok else .wait true

/-- The host groups of an edge: the settings as they become, the groups that wait on, those that are finished, and the
items applied. -/
structure EdgeGroups where
  state : State
  kept : List Accepted
  finished : List (Accepted × Status)
  items : List Item

/-- R30, R33, R63: one accepted group at edge `n`. -/
def EdgeGroups.take (n : Nat) (edge : Time) (mode min : Nat) (acc : EdgeGroups) (a : Accepted) : EdgeGroups :=
  match a.due n edge with
  | .wait m => { acc with kept := acc.kept ++ [{ a with missed := m }] }
  | .now st =>
    if (acc.state.lay a.items).validCfg mode min (swapsOf a.items) then
      { acc with
        state := a.items.foldl (fun s x => s.applyItem n x) acc.state
        finished := acc.finished ++ [(a, st)]
        items := acc.items ++ a.items }
    else { acc with finished := acc.finished ++ [(a, .badDescriptor)] }

/-- R33: the host groups of edge `n` in order of acceptance, where the edge before had a mode and an effective minimum
tick. A change of the tick source or its divider clears the divider's count (R105). -/
def State.hostGroups (s : State) (n mode min : Nat) : EdgeGroups :=
  let r := s.accepted.foldl (EdgeGroups.take n s.tb mode min) { state := s, kept := [], finished := [], items := [] }
  let t := { r.state with accepted := r.kept }
  let same := t.tickSrc == s.tickSrc && t.fld .EXP_TICK_SRC_DIV == s.fld .EXP_TICK_SRC_DIV
  let late := (r.finished.filter fun f => f.2 == Status.lateApplied).length
  { r with state := (if same then t else { t with seq := { t.seq with div := 0 } }).count .HIF_CPL_LATE_LATE late }

/-- R374: the completion of a group at the edge that applied or refused it. -/
def State.completeGroup (s : State) (f : Accepted × Status) : State :=
  let ok := f.2 == Status.ok || f.2 == Status.lateApplied
  s.complete (s.cplNow f.1.ring f.1.tag 6 f.2 (if ok then s.fld .HIF_GEN_GEN else 0))

/-- The completions of the groups of an edge, in order. A ring being disabled stays enabled until its last one (R352). -/
def State.completeGroups (s : State) : List (Accepted × Status) → State
  | [] => s
  | f :: rest =>
    let t := ({ s with accepted := s.accepted ++ rest.map Prod.fst }).completeGroup f
    State.completeGroups { t with accepted := t.accepted.take s.accepted.length } rest

/-! ## The configuration digest -/

/-- The tables of R369, by TABLE and INDEX, in ascending order. -/
def allTables : List (Nat × Nat) :=
  [(0x20, 0), (0x20, 1), (0x20, 2), (0x20, 3), (0x21, 0), (0x21, 1), (0x21, 2), (0x21, 3), (0x22, 0), (0x23, 0),
    (0x24, 1), (0x24, 2), (0x24, 3), (0x30, 0), (0x31, 0)] ++ (List.range 16).map fun r => (0x40 + r, 0)

/-- R518: the registers that the digest covers, in ascending order. -/
def digestRegs : List Nat := ((List.range 0x1400).map (4 * ·)).filter fun a => stageable a && a != Reg.WV_SWAP

/-- R518: the part of S for a register. -/
def State.digestReg (s : State) (a : Nat) : List Byte :=
  let rw := ((regRow a).map (·.rw)).getD 0
  leBytes 4 a ++ leBytes 4 ((s.cfgHost.get regReset a).toNat &&& rw)

/-- R518: the part of S for a table. -/
def State.digestTable (s : State) (t : Nat × Nat) : List Byte :=
  let key := tableKey t.1 t.2
  let bank := s.activeBank key
  let len := if t.1 = 0x21 then 4 * s.tables.entries.get (fun _ => 0) (key * 2 + bank) else (tableSize t.1 t.2).getD 0
  leBytes 1 t.1 ++ leBytes 1 t.2 ++ leBytes 2 0 ++ leBytes 4 len ++ (Config.sha3 (s.tableBytes key bank 0 len)).toList

/-- R518: the bytes S that the digest is formed over. They begin with the ASCII text KX815CFG. -/
def State.digestInput (s : State) : List Byte :=
  [0x4B, 0x58, 0x38, 0x31, 0x35, 0x43, 0x46, 0x47] ++ leBytes 4 1 ++ leBytes 4 s.hostMode ++
    digestRegs.flatMap s.digestReg ++ allTables.flatMap s.digestTable

/-- R518: the digest is formed, and with it the config tag. -/
def State.formDigest (s : State) : State :=
  let d := (Config.sha3 s.digestInput).toList
  ({ s with digest := { s.digest with value := d } }).setReg Reg.HIF_CFG_TAG (BitVec.ofNat 32 (bytesAt d 0 4))

/-- R519: the digest formed is compared with the expected one. -/
def State.checkDigest (s : State) : State :=
  match s.digest.expected with
  | none => s
  | some e =>
    if e = s.digest.value then s.setFlag .SEC_STAT_DIGEST_MATCH true
    else (s.setFlag .SEC_STAT_DIGEST_MATCH false).event 0xD .ok 0 s.digest.value

/-! ## Management-staged changes -/

/-- R36, R457: the throttle tick floor is enforced or lifted at the edge. A request that a later rising crossing made
stands on (log 46). -/
def State.applyThrottle (s : State) (on : Bool) : State :=
  let s1 := ({ s with seq := { s.seq with throttle := on } }).setFlag .HIF_STAT_THROTTLED on
  let s2 := s1.setFlag .THM_STAT_ENFORCED on
  if on || s2.flag .THM_STAT_HOT_WARN then s2 else s2.setFlag .THM_STAT_THROTTLE_REQ false

/-- One management-staged change applies at edge `n` (R26, R34). -/
def State.applyMgmt (s : State) (n : Nat) : MgmtChange → State
  | .policy code row => { s with hostWatch := { s.hostWatch with policy := code, row := row } }
  | .durations ws _ =>
    let s1 := ws.foldl (fun s w => s.setReg (Reg.EXP_TAP_DUR w.1) w.2) s
    { s1 with gov := { s1.gov with since := n } }
  | .calibration tracking es => if tracking then s.moveEntries es else s.applyEntries es
  | .driftClear => ({ s with cal := { s.cal with drift := [] } }).setFld .CAL_DLIST_COUNT 0
  | .driftAdd ps => s.addDrifts ps
  | .throttle on => s.applyThrottle on
  | .coldHold on => s.coldHold on

/-- Does edge `n` at time `edge` apply a change (R16, R122)? -/
def Mgmt.isDue (m : Mgmt) (n : Nat) (edge : Time) : Bool :=
  reached edge m.earliest && match m.change with
    | .durations _ k => decide (k ≤ n)
    | _ => true

/-- R34: does a change set an item that a host group set at the same edge? -/
def MgmtChange.clashes (c : MgmtChange) (items : List Item) : Bool :=
  match c with
  | .durations ws _ => items.any fun x => match x with
    | .reg a _ => ws.any fun w => Reg.EXP_TAP_DUR w.1 == a
    | _ => false
  | _ => false

/-- R433: of the class B entries that a background update sets, those that a host write sets at the same edge are
withdrawn. -/
def MgmtChange.yield (due : List MgmtChange) (c : MgmtChange) : MgmtChange :=
  let host := due.flatMap fun d => match d with
    | .calibration false es => es.map fun e => (e.1, e.2.1)
    | _ => []
  match c with
  | .calibration true es => .calibration true (es.filter fun e => !host.contains (e.1, e.2.1))
  | c => c

/-- R437, R438: does a staged background update wait, since D lies outside its limits or its item is being measured on
request? -/
def State.calHeld (s : State) : MgmtChange → Bool
  | .calibration true es => es.any fun e =>
    bitOf (s.fld .CAL_STAT_RUNNING) e.1 || (2 ≤ e.1 && s.flag .CAL_STAT_DRIFT_PAUSED)
  | .driftAdd _ => bitOf (s.fld .CAL_STAT_RUNNING) 7
  | _ => false

/-- R34: the management-staged changes of edge `n` apply after the host groups; one that clashes with them is
withdrawn. The second component says whether the governor's durations changed. A staged change of the governor also applies at an edge
in SERVICE or after EN was cleared (DESIGN CHOICE, log 61). -/
def State.mgmtChanges (s : State) (n : Nat) (items : List Item) : State × Bool :=
  let ready (m : Mgmt) : Bool := m.isDue n s.tb && !s.calHeld m.change
  let due := (s.mgmt.filter ready).map (·.change)
  let now := (due.filter fun c => !c.clashes items).map (MgmtChange.yield due)
  let s1 := { s with mgmt := s.mgmt.filter fun m => !ready m }
  (now.foldl (fun s c => s.applyMgmt n c) s1, now.any fun c => match c with | .durations _ _ => true | _ => false)

/-- R456, R457: event 0x0012 for each time that this edge enforces the floor, of `floor` ns, or lifts it. -/
def State.throttleEvents (s : State) (floor : Nat) (changes : List Bool) : State :=
  changes.foldl (fun s on => s.event 0x12 .ok (boolNat on) (leBytes 4 (if on then floor else 0))) s

/-- The throttle changes that apply at edge `n`, in order. -/
def State.throttleChanges (s : State) (n : Nat) : List Bool :=
  s.mgmt.filterMap fun m => match m.change with
    | .throttle on => if m.isDue n s.tb then some on else none
    | _ => none

/-! ## The spare map -/

/-- R234: the live tracks of bank roles that this edge leaves without a bank end; `before` are the roles lost before. -/
def State.loseBanks (s : State) (n : Nat) (before : State) : State :=
  let gone := (List.range 16).filter fun r => s.roleLost 6 r && !before.roleLost 6 r
  (s.liveTracks.filter fun e => gone.contains (e.1 / 16384)).foldl (fun s e => s.endTrack n e.1) s

/-- R279, R480: a Weevil role left without an engine halts. -/
def State.haltLost (s : State) (r : Nat) : State :=
  ((((s.stopEngine (s.wvRole r).engine).modWv r fun w => { w with halted := true }).drive r).raiseFast 8).ejSafe

/-- R279, R291, R480: a Weevil role whose holder changes awaits its hand-over, and one left without an engine halts. One that
was left without moves to the engine that serves it now, and stays halted until a program swap, as after a HALT. -/
def State.coupleWeevil (before : State) (s : State) (r : Nat) : State :=
  if s.roleLost 8 r then (if before.roleLost 8 r then s else s.haltLost r)
  else
    let w := s.wvRole r
    if s.holder 8 r = w.engine || w.move.isSome then s
    else if !w.loaded || before.roleLost 8 r then s.moveRole r false
    else s.modWv r fun w => { w with move := some s.now }

/-- R165: camera `n` uses the pipeline of its partner, or one of its own. -/
def State.setShared (s : State) (n : Nat) (b : Bool) : State := s.setFlag (.CSX_CAM_STAT_SHARED (n - 1)) b

/-- R165: a camera with SHARE begins to share a pipeline, and its own joins the stock. -/
def State.beginShare (s : State) (n : Nat) : State :=
  if s.flag (.CSX_CAM_CFG_SHARE (n - 1)) && !s.flag (.CSX_CAM_STAT_SHARED (n - 1)) then
    let u := s.holder 5 n
    (if s.unitInfo 5 u = ⟨.inRole, some n⟩ then s.setUnit 5 u ⟨.stock, none⟩ else s).setShared n true
  else s

/-- R165: a camera without SHARE that shared a pipeline takes one of its own again; where none is in stock, R480 serves its
role. One whose role is lost goes on sharing (R167). -/
def State.endShare (s : State) (n : Nat) : State :=
  if s.flag (.CSX_CAM_STAT_SHARED (n - 1)) && !s.flag (.CSX_CAM_CFG_SHARE (n - 1)) && !s.roleLost 5 n then
    let s1 := s.setShared n false
    if s1.unitInfo 5 (s1.holder 5 n) = ⟨.inRole, some n⟩ then s1
    else match s1.scopeStock 5 n with
    | u :: _ => (s1.setHolder 5 n u).setUnit 5 u ⟨.inRole, some n⟩
    | [] => s1.applyNoSpare (s1.newSubst 5 n (s1.holder 5 n) .test)
  else s

/-- R165: what SHARE in force asks of the three cameras: every pipeline that sharing frees is in stock before one is taken. -/
def State.coupleShares (s : State) : State :=
  [1, 2, 3].foldl (fun s n => s.endShare n) ([1, 2, 3].foldl (fun s n => s.beginShare n) s)

/-- R167: may camera `n` share the pipeline of its partner: one that R165 allows, that has a pipeline of its own? -/
def State.partnerServes (s : State) (n : Nat) : Bool :=
  let m := s.fld (.CSX_CAM_CFG_PARTNER (n - 1))
  s.partnerOk n && !s.flag (.CSX_CAM_STAT_SHARED (m - 1)) && !s.roleLost 5 m

/-- R167: a camera whose pipeline has failed with no spare left shares that of its partner, or stops: its EN in force is cleared.
A camera that shares already stops with the pipeline of its partner; so does one whose SHARE a direct write put in force with
a PARTNER that R165 forbids (log 32). -/
def State.coupleCamera (s : State) (n : Nat) : State :=
  let shared := s.flag (.CSX_CAM_STAT_SHARED (n - 1))
  if !s.camEnabled n then s
  else if shared && !s.partnerServes n || !shared && s.roleLost 5 n && !s.partnerServes n then
    (s.setFlag (.CSX_CAM_CFG_EN (n - 1)) false).event 7 .noSpare n []
  else if s.roleLost 5 n && !shared then s.setShared n true
  else s

/-- The pipeline that serves camera `n` from this edge on (R165). -/
def State.showPipe (s : State) (n : Nat) : State :=
  let role := if s.flag (.CSX_CAM_STAT_SHARED (n - 1)) then s.fld (.CSX_CAM_CFG_PARTNER (n - 1)) else n
  s.setFld (.CSX_CAM_STAT_PIPE (n - 1)) (s.holder 5 role)

/-- R41, R165: the role of camera `n` has passed to another pipeline, its own or its partner's, than served it in `before`: its
epoch increases, once (log 42). -/
def State.stepPipe (before s : State) (n : Nat) : State :=
  let t := s.showPipe n
  let f : Fld := .CSX_CAM_STAT_PIPE (n - 1)
  if t.fld f != before.fld f && t.epoch 5 n == before.epoch 5 n then t.bumpEpoch 5 n else t

/-- R165, R167: the pipelines of the three companion cameras follow SHARE and PARTNER in force, with a direct write of them at
once (R18). -/
def State.settleShares (s : State) : State := [1, 2, 3].foldl (State.stepPipe s) s.coupleShares

/-- R16, R42: the spare map's part of the Coupling, and what follows in the units that it serves. -/
def State.coupleMap (s : State) (first : Bool) : State :=
  let s1 := [1, 2, 3].foldl (fun s n => s.coupleCamera n) (s.coupleSpares s.tb first).coupleShares
  let s2 := [1, 2, 3].foldl (State.stepPipe s) s1
  (List.range 16).foldl (State.coupleWeevil s) s2

/-! ## Decisions after a clock loss -/

/-- R262: the tracks that leave at a lost frame are decided with status CLOCK_LOSS at the next edge, and its untracked objects
with their own (R231). -/
def State.settleLoss (s : State) (f : Frame) : State :=
  let v := f.view s
  let gone := s.tracker.tracks.filter fun e => e.2.state == 1 && v.leaving e.2
  let ds := gone.map fun e => { e.2.decision e.1 with
    status := .clockLoss, action := v.fld .EJ_CFG_CLK_ACT, mergeClass := v.fld .EJ_CFG_UNT_CLASS }
  (s.carryOut v f (ds ++ f.untracked.map v.untrackedDecision)).modFrame f.tick fun x => { x with settled := true, untracked := [] }

/-- Every lost frame whose decisions are still to come. -/
def State.settleLosses (s : State) : State :=
  (s.frames.filter fun f => f.clockLoss && !f.settled).foldl (fun s f => s.settleLoss f) s

/-! ## The edge -/

/-- R20, R21: the edge takes its number, and its time is captured. -/
def State.number (s : State) (n : Nat) : State :=
  let s1 := (s.setWide Reg.HIF_TICK_LO n).setWide Reg.HIF_EDGE_TIME_LO s.tb.toNat
  { s1 with seq := { s1.seq with due := none, start := none, first := true, base := s.tb, baseClk := s.clk, lastClk := s.clk } }

/-- DRAINED contexts become FREE (R219). -/
def State.freeDrained (s : State) : State :=
  (s.tracker.tracks.filter fun e => e.2.state == 3).foldl (fun s e => s.freeTrack e.1) s

/-- R76: the first edge after RUN is set takes the mode of HIF_MODE_INIT. -/
def State.initMode (s : State) : State :=
  if s.seq.fresh then
    ({ s with seq := { s.seq with fresh := false } }).hostSetsMode (s.fld .HIF_MODE_INIT_MODE)
  else s

/-- A register shows a number of ns; the spec states no value for a number that it cannot hold, so that a free value
stands there (log 5). -/
def State.showNs (s : State) (f : Fld) (v : Nat) : State :=
  if v < 2 ^ f.width then s.setFld f v
  else
    let (x, t) := s.free
    t.setFld f x

/-- R22, R55, R57, R61: the minimum tick and the exposure limit that the edge puts in force. -/
def State.setLimits (s : State) (prevMode prevMin : Nat) : State :=
  let m := s.effectiveMin prevMode prevMin
  let s0 := { s with seq := { s.seq with tmin := m } }
  let s1 := (s0.showNs .HIF_TMIN_TMIN m).showNs .HIF_EXP_LIMIT_LIMIT (s.expLimit m)
  s1.setFlag .HIF_STAT_CLAMPED (s1.tickSrc == 0 && decide (s1.fld .EXP_TICK_PERIOD_PERIOD < m))

/-- R72, R73: what a change into or out of SERVICE at edge `n` does. -/
def State.changeMode (s : State) (n prevMode : Nat) : State :=
  if s.mode = serviceMode ∧ prevMode ≠ serviceMode then
    ({ s with ej := { s.ej with drain := some n, released := false } }).setFlag .HIF_MODE_DRAINING true
  else if s.mode ≠ serviceMode ∧ prevMode = serviceMode then
    let t := (s.flushTracks n s.cfgTag false true).stopCalRun
    { t with tracker := { t.tracker with leftService := n } }
  else s

/-- R219, R235: the number of contexts that are not FREE at the edge, and its peak. -/
def State.sampleLive (s : State) : State :=
  let n := (s.tracker.tracks.filter fun e => e.2.state != 0).length
  (s.setFld .TRK_LIVE_COUNT n).setFld .TRK_LIVE_PEAK_COUNT (max n (s.fld .TRK_LIVE_PEAK_COUNT))

/-- The frame that the edge begins, with everything it is governed by (R39, R118). -/
def State.newFrame (s : State) (n prevMode base : Nat) (govern change : Bool) : Frame :=
  { tick := n, edge := s.tb, clk := s.clk, gen := s.fld .HIF_GEN_GEN, tag := s.cfgTag, mode := s.mode
    tmin := s.seq.tmin, base := base, delay := s.stripDelay prevMode, regs := s.regs
    banks := s.tables.active, cal := s.cal.entries
    drift := if s.flag .CAL_CTL_AUTO_DEF then s.cal.drift else []
    holder := s.spares.holder, lost := s.spares.lost, policy := s.hostWatch.policy, policyRow := s.hostWatch.row
    clockLoss := s.lossGated 0 || s.lossGated 1, settled := false, cut := false, pixsup := false, suppressed := false, govern := govern
    transition := change, capped := false, interval := 0, isOpen := false, pulse := [], nodes := []
    readAt := none, slot := 0, wire := [], wireOb := [], lanes := [], codes := [], ob := [], obC := [], obX := []
    piped := [], camPixels := [], planes := [], views := [], rounds := [], kept := 0, untracked := s.tracker.late, noFire := s.mode == serviceMode
    done := false }

/-- R288, R289: the roles whose program banks this edge swapped. -/
def State.swapPrograms (s : State) (items : List Item) : State :=
  (List.range 16).foldl (fun s r =>
    let mine := items.filterMap fun x => match x with
      | .swap t _ force => if t = 0x40 + r then some force else none
      | _ => none
    if mine.isEmpty then s else s.swapProgram r (mine.any id)) s

/-- A frame begins, with the untracked objects that waited for its decisions (R354). -/
def State.beginFrame (s : State) (f : Frame) : State :=
  { s with frames := s.frames ++ [f], tracker := { s.tracker with late := [] } }

/-- Outputs that the settings drive take the levels of the edge's settings. -/
def State.settlePins (s : State) : State := s.settleFireflies.settleTrigs.driveAll

/-- R510: a takeover whose time has come. -/
def State.edgeTakeOver (s : State) : State :=
  match s.coach.takeover with
  | some (t, why) => if reached s.tb t then s.takeOver why else s
  | none => s

/-- The tick sequencer takes an edge (R20 to R24, R26 to R39). Before the first edge after reset, SERVICE is in force
(R75), and there is no edge before it whose mode or minimum tick R55 and R71 could count; that HIF_MODE_INIT replaces
SERVICE there is no mode change for TRANSITION, and a later start compares with the mode last in force (DESIGN CHOICE,
log 25). TRK_LIVE is sampled before the contexts of a bank role that the edge leaves without a bank become FREE (DESIGN
CHOICE, log 25). -/
def State.takeEdge (s0 : State) : State :=
  let n := s0.nextTick
  let first := !s0.running
  let s1 := ((s0.settleLosses.number n).freeDrained).initMode
  let prevMode := s0.mode
  let prevMin := s0.seq.tmin
  let was := s0.settings
  let g := s1.hostGroups n prevMode prevMin
  let applied := g.finished.any fun f => f.2 != Status.badDescriptor
  let s2 := if applied || n = 0 then g.state.formDigest else g.state
  let (s3, governed) := s2.mgmtChanges n g.items
  let change := s3.mode != if s0.seq.first then prevMode else s1.mode
  let s4 := ((((s3.setLimits prevMode prevMin).setFlag .HIF_MODE_TRANSITION change).setFlag .HIF_STAT_RUNNING
    true)).throttleEvents (s3.throttleFloor (s3.minTick prevMode prevMin)) (s2.throttleChanges n)
  let s5 := (if applied || n = 0 then s4.checkDigest else s4).coupleMap first
  let s6 := (s5.swapPrograms g.items).edgeTakeOver
  let moved := s6.settings != was || !(swapsOf g.items).isEmpty
  let s7 := if moved then s6.setFld .HIF_GEN_GEN (s6.fld .HIF_GEN_GEN + 1) else s6
  let s8 := (s7.changeMode n prevMode).sampleLive
  let s9 := (s8.edgeTrigs n).beginFrame (s8.newFrame n prevMode (s8.minTick prevMode prevMin) governed change)
  let s10 := (((s9.loseBanks n s0).dropFrames).settlePins).claimOutputs n
  (s10.completeGroups g.finished).settleDrain

/-- R98, R419, R421: an admitted candidate whose time comes while no edge is taken is held like any other. -/
def State.holdEdge (s : State) : State :=
  let s1 := { s with seq := { s.seq with due := none } }
  if !s1.flag .RO_PIXSUP_STAT_READY then s1.count .RO_PIXSUP_STAT_EDGE_HELD 1 else s1.count .PLL_EDGE_HELD_VALUE 1

/-- R38, R446: the edge may have freed the banks that a flat-field acquisition waits for. -/
def State.freeFlat (s : State) : State :=
  let t := s.settleFlat
  if s.cal.flat.isSome && t.cal.flat.isNone then t.retryCommits else t

/-- An uncorrected read at the edge meets the frame that the edge begins, so that an OPEN track becomes an object of it (R233).
TICK_EDGE (R20 to R24, R26 to R39, R98, R104, R105, R233, R419, R421). -/
def execTickEdge (reads : MemoryStep) (s : State) : Host.Outcome State Fault Refusal :=
  let s := s.advance reads.dt
  .next (match s.seq.due with
    | some t =>
      if s.alive && s.run && s.tbRuns && reached s.tb t then
        (if s.flag .RO_PIXSUP_STAT_READY && !s.edgesHeld then s.takeEdge.freeFlat.sramErrors s.nextTick reads.sram else s.holdEdge)
      else s
    | none => s)

end Sys2Proof.Machine
end

