-- ==== Sys2Proof/Machine/RunControl.lean ====
section
/-! DEFINITION. Starting and stopping the tick sequencer (R20, R52, R104, R105), and the registers that clear counters. -/

namespace Sys2Proof.Machine

/-! ## The INTERNAL source -/

/-- Has the INTERNAL period expired (R104, R107)? A PERIOD below the effective minimum tick runs at that minimum (R22), after
an edge that was held as after one that was taken. -/
def State.internalDue (s : State) : Bool :=
  !s.tooEarly 0 && match s.seq.start with
    | some t => reached s.tb t
    | none => reached s.tb (timeAfter s.seq.base (s.fld .EXP_TICK_PERIOD_PERIOD)) &&
        decide (s.seq.baseClk + s.tickFloor ≤ s.clk)

/-- INTERNAL_PERIOD_EXPIRY (R104). -/
def execInternalPeriodExpiry (dt : Nat) (s : State) : Host.Outcome State Fault Refusal :=
  let s := s.advance dt
  .next (if s.ticking && s.tickSrc == 0 && s.internalDue then s.candidate 0 else s)

/-! ## RUN -/

/-- R458, R496, R503: may RUN be set? -/
def State.mayRun (s : State) : Bool :=
  s.nvm.rights != 0 && s.nvm.rights != 5 && !s.flag .BIST_STAT_DEV_FAIL && s.thermal.trip.isNone

/-- RUN becomes 1: the first edge is placed, the divider starts at 0, HIF_MODE_INIT is to apply, and the background
models begin anew (R76, R104, R105, R182). EXP_TICK_START is taken here (DESIGN CHOICE, log 25). -/
def State.startRun (s : State) : State :=
  if s.mayRun && !s.run then
    let s1 := s.setFlag .HIF_RUN_RUN true
    { s1 with
      seq := { s1.seq with due := none, start := some s.firstEdge, fresh := true, base := s.tb, baseClk := s.clk, div := 0 }
      bg := s1.bg.restart s1.nextTick
      hostWatch := { s1.hostWatch with since := s.now } }
  else s

/-- RUN becomes 0: no further edge is taken (R52). -/
def State.stopRun (s : State) : State :=
  { s.setFlag .HIF_RUN_RUN false with seq := { s.seq with due := none, start := none } }

/-- HIF_RUN_SET: a write of HIF_RUN with RUN 1. -/
def execHifRunSet (value : Word) (s : State) : Host.Outcome State Fault Refusal :=
  .next (s.pf0Write fun s => if bitOf value.toNat 0 then s.startRun else s)

/-- HIF_RUN_CLEAR: a write of HIF_RUN with RUN 0. -/
def execHifRunClear (value : Word) (s : State) : Host.Outcome State Fault Refusal :=
  .next (s.pf0Write fun s => if bitOf value.toNat 0 then s else s.stopRun)

/-- RUN_STOP_COMPLETE (R24, R52): the work of the last taken tick is complete after RUN was cleared. -/
def execRunStopComplete (dt : Nat) (s : State) : Host.Outcome State Fault Refusal :=
  let s := s.advance dt
  .next (if s.alive && !s.run && s.running && s.frames.all (·.done) then
    let s1 := (s.setFlag .HIF_STAT_RUNNING false).setFlag .HIF_STAT_CLAMPED false
    s1.settlePins.settleTakeOver
  else s)

/-! ## Clearing counters -/

/-- Each register listed beside a bit that a clearing write holds returns to 0. -/
def State.clearList (s : State) (v : Word) (l : List (Nat × Nat)) : State :=
  l.foldl (fun s e => if bitOf v.toNat e.1 then s.setReg e.2 0 else s) s

/-- The effect of HIF_CNT_CLR (R52). -/
def State.cntClr (s : State) (v : Word) : State :=
  s.clearList v [(0, Reg.HIF_CPL_LATE), (1, Reg.HIF_TICK_EARLY), (2, Reg.HIF_WR_DISCARD)]

/-- HIF_CNT_CLR (R52). -/
def execHifCntClr (value : Word) (s : State) : Host.Outcome State Fault Refusal :=
  .next (s.pf0Write fun s => s.cntClr value)

/-- The effect of HIF_OVL_CLR (R76). -/
def State.ovlClr (s : State) (v : Word) : State :=
  s.clearList v [(0, Reg.HIF_OVL_SEG), (1, Reg.HIF_OVL_DEC), (2, Reg.HIF_OVL_TICK)]

/-- HIF_OVL_CLR (R76). -/
def execHifOvlClr (value : Word) (s : State) : Host.Outcome State Fault Refusal :=
  .next (s.pf0Write fun s => s.ovlClr value)

/-- The effect of HIF_EXP_CLR (R130). -/
def State.expClr (s : State) (v : Word) : State :=
  let s1 := s.clearList v [(0, Reg.EXP_TRIG_LOST), (1, Reg.FF_SUPPR_CNT)]
  s1.setFld .FF_STAT_SUPPR (s1.fld .FF_STAT_SUPPR &&& (255 - getBits v.toNat 15 8))

/-- HIF_EXP_CLR (R130). -/
def execHifExpClr (value : Word) (s : State) : Host.Outcome State Fault Refusal :=
  .next (s.pf0Write fun s => s.expClr value)

/-- The effect of HIF_RO_CLR (R156). -/
def State.roClr (s : State) (v : Word) : State :=
  let s1 := s.clearList v [(0, Reg.RO_AXLE_CRC), (1, Reg.RO_OOR_CNT), (3, Reg.RO_PIXSUP_DROOP)]
  if bitOf v.toNat 2 then s1.setFld .RO_PIXSUP_STAT_EDGE_HELD 0 else s1

/-- HIF_RO_CLR (R156). -/
def execHifRoClr (value : Word) (s : State) : Host.Outcome State Fault Refusal :=
  .next (s.pf0Write fun s => s.roClr value)

/-- The effect of HIF_CSX_CLR (R170). -/
def State.csxClr (s : State) (v : Word) : State :=
  s.clearList v ([(0, Reg.CSX_ECC_CORR), (0, Reg.CSX_ECC_UNCORR), (0, Reg.CSX_CRC), (0, Reg.CSX_DT_SKIP)] ++
    (List.range 3).map fun i => (i + 1, Reg.CSX_CAM_ERR i))

/-- HIF_CSX_CLR (R170). -/
def execHifCsxClr (value : Word) (s : State) : Host.Outcome State Fault Refusal :=
  .next (s.pf0Write fun s => s.csxClr value)

/-- The effect of HIF_PIPE_CLR (R207). -/
def State.pipeClr (s : State) (v : Word) : State :=
  s.clearList v [(0, Reg.PIPE_INVALID_CNT), (1, Reg.PIPE_DSP_SKIP), (2, Reg.PIPE_SHORT_BUF)]

/-- HIF_PIPE_CLR (R207). -/
def execHifPipeClr (value : Word) (s : State) : Host.Outcome State Fault Refusal :=
  .next (s.pf0Write fun s => s.pipeClr value)

/-- The effect of HIF_TRK_CLR (R236). -/
def State.trkClr (s : State) (v : Word) : State :=
  let s1 := s.clearList v [(0, Reg.SEG_SMALL), (1, Reg.SEG_SPLIT), (2, Reg.TRK_NOCTX), (3, Reg.TRK_AMBIG),
    (4, Reg.TRK_ORPHAN), (5, Reg.TRK_POSTDEC)]
  if bitOf v.toNat 6 then s1.setFld .TRK_LIVE_PEAK_COUNT (s1.fld .TRK_LIVE_COUNT) else s1

/-- HIF_TRK_CLR (R236). -/
def execHifTrkClr (value : Word) (s : State) : Host.Outcome State Fault Refusal :=
  .next (s.pf0Write fun s => s.trkClr value)

/-- The effect of HIF_EJ_CLR (R264). -/
def State.ejClr (s : State) (v : Word) : State :=
  s.clearList v ((List.range 8).map (fun i => (i, Reg.EJ_CONFLICT + 4 * i)) ++ [(8, Reg.CLS_FALLBACK_CNT)] ++
    (List.range 16).map fun i => (9, Reg.CLS_CLASS i))

/-- HIF_EJ_CLR (R264). -/
def execHifEjClr (value : Word) (s : State) : Host.Outcome State Fault Refusal :=
  .next (s.pf0Write fun s => s.ejClr value)

/-- The effect of HIF_WV_CLR (R294). -/
def State.wvClr (s : State) (v : Word) : State :=
  s.clearList v [(0, Reg.WV_MISS), (1, Reg.WV_FORCED), (2, Reg.WV_REPLAY), (3, Reg.WV_EVENTS)]

/-- HIF_WV_CLR (R294). -/
def execHifWvClr (value : Word) (s : State) : Host.Outcome State Fault Refusal :=
  .next (s.pf0Write fun s => s.wvClr value)

/-- The effect of PLL_CLR (R424). -/
def State.pllClr (s : State) (v : Word) : State :=
  s.clearList v [(0, Reg.PLL_LOSS), (1, Reg.PLL_REF_LOSS), (2, Reg.PLL_EDGE_HELD)]

/-- PLL_CLR (R424). -/
def execPllClr (value : Word) (s : State) : Host.Outcome State Fault Refusal :=
  .next (s.pf1Write fun s => s.pllClr value)

/-- R18: a write of a data-plane register; while RUNNING is 1 it is discarded and counted. -/
def State.whileStopped (s : State) (f : State → State) : State :=
  if s.running then s.count .HIF_WR_DISCARD_DISCARD 1 else f s

/-- The effect of a write of RO_FACT_DEFECTS (R102). -/
def State.factDefectsClr (s : State) (v : Word) : State :=
  s.whileStopped fun s =>
    let s1 := if bitOf v.toNat 30 then s.setFld .RO_PIXSUP_STAT_EDGE_HELD 0 else s
    s1.clearList v [(31, Reg.RO_PIXSUP_DROOP)]

/-- RO_FACT_DEFECTS_CLR (R18, R102). -/
def execRoFactDefectsClr (value : Word) (s : State) : Host.Outcome State Fault Refusal :=
  .next (s.pf0Write fun s => s.factDefectsClr value)

/-- The effect of a write of THM_PEAK (R471). -/
def State.peakClr (s : State) (v : Word) : State :=
  if bitOf v.toNat 31 then s.setFld .THM_PEAK_TEMP (s.fld .THM_HOT_TEMP) else s

/-- THM_PEAK_CLR (R471). -/
def execThmPeakClr (value : Word) (s : State) : Host.Outcome State Fault Refusal :=
  .next (s.pf1Write fun s => s.peakClr value)

/-- The effect of a write of PWR_SLEEP_ABORT (R471). -/
def State.abortClr (s : State) (v : Word) : State :=
  if bitOf v.toNat 31 then s.setFld .PWR_SLEEP_ABORT_COUNT 0 else s

/-- PWR_SLEEP_ABORT_CLR (R471). -/
def execPwrSleepAbortClr (value : Word) (s : State) : Host.Outcome State Fault Refusal :=
  .next (s.pf1Write fun s => s.abortClr value)

end Sys2Proof.Machine
end

