-- ==== Sys2Proof/Machine/Clocks.lean ====
section
/-! DEFINITION. The clock loops (R407 to R424): loss of lock, stand-ins, the hold and the step of the timebase, and the
loss of the reference. Roles are 0 C, 1 X, 2 T; loops are 0 C, 1 X, 2 T, 3 S. -/

namespace Sys2Proof.Machine

/-! ## Loops and roles -/

/-- Is a loop locked (R412)? -/
def State.loopLocked (s : State) (p : Nat) : Bool := bitOf (s.fld .PLL_STAT_LOCKED) p

/-- A loop locks, or loses lock. -/
def State.setLocked (s : State) (p : Nat) (b : Bool) : State := s.setFld .PLL_STAT_LOCKED (putBit (s.fld .PLL_STAT_LOCKED) p b)

/-- The field of PLL_ROLE that names the loop of a role. -/
def roleField : Nat → Fld
  | 0 => .PLL_ROLE_C
  | 1 => .PLL_ROLE_X
  | _ => .PLL_ROLE_T

/-- The loop that holds a role. -/
def State.loopOf (s : State) (role : Nat) : Nat := s.fld (roleField role)

/-- The role that a loop holds. -/
def State.roleOf (s : State) (p : Nat) : Option Nat := [0, 1, 2].find? fun r => s.loopOf r == p

/-- The standby loop, where one is free to stand in (R416). -/
def State.standbyLoop (s : State) : Option Nat :=
  if s.flag .PLL_ROLE_NO_STANDBY || !s.loopLocked (s.fld .PLL_ROLE_STANDBY) then none
  else some (s.fld .PLL_ROLE_STANDBY)

/-- The domain of a role is gated off from now on, or runs again. -/
def State.setGated (s : State) (role : Nat) (at_ : Option Nat) (noStandIn : Bool) : State :=
  { s with clocks := { s.clocks with
      gated := s.clocks.gated.set (fun _ => none) role at_
      noStandIn := s.clocks.noStandIn.set (fun _ => false) role noStandIn } }

/-- The domain of a role runs again, and with that of X the Drays, which write what they held. -/
def State.ungate (s : State) (role : Nat) : State := (s.setGated role none false).releaseItems

/-- Event 0x0013 (R415): the role, the kind and the step. -/
def State.loopEvent (s : State) (role kind step : Nat) : State :=
  s.event 0x13 .ok role (leBytes 1 kind ++ leBytes 8 step)

/-! ## Frames -/

/-- R417: a frame is marked CLOCK_LOSS; what has not been done for it is not done. Its untracked objects are decided with its
CLOCK_LOSS decisions (R231, R262). -/
def State.markLost (s : State) (f : Frame) : State :=
  s.modFrame f.tick fun x =>
    if x.piped.contains 0 then { x with clockLoss := true, rounds := [], done := true }
    else { x with clockLoss := true }

/-- R417: the frames that a loss of role C or X marks: that of the tick under way, and any whose readout is under way. -/
def State.markLosses (s : State) : State :=
  let hit := s.frames.filter fun f => !f.done && !f.clockLoss &&
    ((s.newest.map (·.tick)) == some f.tick || (f.readAt.isSome && decide (f.slot < (f.view s).slots)))
  hit.foldl (fun s f => s.markLost f) s

/-- R117, R168: role T is gated off: every Firefly goes inactive, the drain gates open, the pulses of TRIG_OUT end, and the
frame is marked. -/
def State.cutFrame (s : State) : State :=
  let s1 := (List.range 8).foldl (fun s f => s.setFirefly f { s.firefly f with active := false }) s
  let s2 := match s1.newest with
    | some f =>
      let t := s1.modFrame f.tick fun x => { x with cut := true, isOpen := false }
      if f.done then t else t.markLost f
    | none => s1
  s2.endTrigs.settleFireflies

/-! ## The timebase -/

/-- R306: the counters that a hold stops show it. -/
def State.holdCounters (s : State) : State :=
  (List.range 8).foldl (fun s n => if s.flag (.GC_CTL_EN n) then s.setFlag (.GC_CTL_HOLD n) true else s) s

/-- R418: the timebase is held at its count. -/
def State.holdTimebase (s : State) : State := (((s.setFlag .TB_STAT_HELD true).raiseFast 13).holdCounters).cutFrame

/-- R262: a pulse whose open was handed over for a latch in the gap from `c0` on opens at the step; it closes no earlier than
10,000 ns after that. -/
def State.delayCloses (s : State) (c0 : Time) : State :=
  { s with ej := { s.ej with pulses := s.ej.pulses.map fun q =>
      if q.opened ∧ 0 < timeDiff q.latch c0 then { q with closeAt := laterOf q.closeAt (timeAfter s.tb 10000) }
      else q } }

/-- R418, R292: the timebase steps by the time that has passed since `t`. A STEADY Firefly that the hold turned off goes
active again at the next edge (DESIGN CHOICE, log 31). -/
def State.stepTimebase (s : State) (t : Nat) : State :=
  let c0 := s.tb
  let s1 := { s with tb := timeAfter c0 (s.now - t) }
  let s2 := (s1.setWide Reg.TB_STEP_LO (s.now - t)).setFlag .TB_STAT_HELD false
  let s3 := (s2.setFlag .TB_STAT_STEPPED true).raiseFast 13
  ((List.range 16).foldl (fun s r => s.modWv r fun w => { w with stepped := w.stepped ++ [(c0, s1.tb)] }) s3).delayCloses c0

/-- R421: role T goes into holdover, once its loop has locked. -/
def State.enterHoldover (s : State) : State :=
  if s.flag .PLL_STAT_HOLDOVER || !s.tbStarted then s
  else { s with clocks := { s.clocks with holdSince := some s.now } }.setFlag .PLL_STAT_HOLDOVER true

/-- R422: role T returns from holdover. -/
def State.leaveHoldover (s : State) : State :=
  match s.clocks.holdSince with
  | some t =>
    let s1 := ({ s with clocks := { s.clocks with holdSince := none } }).setFlag .PLL_STAT_HOLDOVER false
    (s1.setFld .PLL_HOLDOVER_VALUE (min (2 ^ 32 - 1) ((s.now - t) / 1000))).setFlag .PLL_STAT_DRIFTED true
  | none => s

/-! ## Loss of a loop -/

/-- R411: the dividers of a role are loaded into a loop's buffer; every buffer loaded before an edge of REF_IN, whose period
is 40 ns, transfers at it (log 45). -/
def State.loadDividers (s : State) (p role : Nat) : State :=
  { s with clocks := { s.clocks with
      divBuffer := s.clocks.divBuffer.set (fun _ => []) p (roleDividers role)
      refEdge := some (s.clocks.refEdge.getD (s.now + 40)) } }

/-- R480: a role is left without a loop. -/
def State.loopAlone (s : State) (role : Nat) : State := s.leftWithout 9 role (s.loopOf role) 5

/-- R416, R417: a role whose loop lost lock is gated off until the standby loop, into whose buffer its dividers are loaded,
drives its domain. -/
def State.awaitStandIn (s : State) (role : Nat) : State :=
  let s1 := ((s.setGated role (some s.now) false).setFlag .PLL_ROLE_NO_STANDBY true).loadDividers
    (s.fld .PLL_ROLE_STANDBY) role
  if role = 2 then s1.holdTimebase else s1.markLosses

/-- R419: a role whose loop lost lock while no standby loop is locked. Whether the DCO of role T lies within the 1,000 ppm
that holdover asks for is a free value. -/
def State.noStandInFor (s : State) (role : Nat) : State :=
  let s1 := (s.loopEvent role 1 0).loopAlone role
  if role = 2 then
    let (v, s2) := s1.free
    if v % 2 = 0 then s2.enterHoldover else (s2.setGated 2 (some s2.now) true).holdTimebase
  else (s1.setGated role (some s1.now) true).markLosses

/-- Role T goes on on its own loop, in holdover, from a hold that began at `t` (R418, R421). -/
def State.holdoverFrom (s : State) (t : Nat) : State := ((s.ungate 2).stepTimebase t).enterHoldover

/-- R415, R419: a role that awaited a stand-in since `t` is left without one, with Kind 1. Role T goes into holdover where
REF_IN is lost (R421), or where its DCO lies within the 1,000 ppm, which is a free value. -/
def State.leftAlone (s : State) (role t : Nat) : State :=
  let s1 := (s.loopEvent role 1 0).loopAlone role
  if role = 2 then
    let (v, s2) := s1.free
    if s.clocks.refLost || v % 2 = 0 then s2.holdoverFrom t else s2.setGated 2 (some t) true
  else s1.setGated role (some t) true

/-- The standby loop can no longer stand in: a role that awaits it is left without a stand-in (R419). -/
def State.standbyGone (s : State) : State :=
  [0, 1, 2].foldl (fun s r => match s.clocks.gated.get (fun _ => none) r with
    | some t => if s.noStandIn r then s else s.leftAlone r t
    | none => s) (s.setFlag .PLL_ROLE_NO_STANDBY true)

/-- What a loss of lock does to the role of the loop (R415, R416, R419). -/
def State.roleLoss (s : State) (p : Nat) : State :=
  match s.roleOf p with
  | some r =>
    let s1 := s.raiseFast (2 + r)
    match s1.standbyLoop with
    | some _ => s1.awaitStandIn r
    | none => s1.noStandInFor r
  | none => (s.loopEvent 3 1 0).standbyGone

/-- LOOP_LOCK_LOSS (R412, R415 to R419). -/
def execLoopLockLoss (dt : Nat) (p : Fin 4) (s : State) : Host.Outcome State Fault Refusal :=
  let s := s.advance dt
  .next (if s.alive && s.loopLocked p.val then
    let r := ((s.roleOf p.val).getD 3) + 1
    let s1 := s.setLocked p.val false
    let s2 := { s1 with clocks := { s1.clocks with lostRole := s1.clocks.lostRole.set (fun _ => 0) p.val r } }
    let s3 := (s2.count ⟨Reg.PLL_LOSS, 8 * p.val + 7, 8 * p.val⟩ 1).charge 5 (unitKey 9 p.val)
    s3.roleLoss p.val
  else s)

/-- R416, R418: the standby loop takes a role, with the role's dividers in force (R411); a test of it ends (R489). -/
def State.takeRole (s : State) (role : Nat) (since : Nat) : State :=
  let old := s.loopOf role
  let new := s.fld .PLL_ROLE_STANDBY
  let s1 := ((s.setFld (roleField role) new).setHolder 9 role new).bumpEpoch 9 role
  let s2 := (s1.transferDividers.setNoSpare 9 role false).ungate role
  let s3 := if role = 2 then s2.stepTimebase since else s2
  let s4 := (s3.loopEvent role 0 (if role = 2 then s.now - since else 0)).takenFromTest 9 new role
  if bitOf (s4.fld .PLL_ROLE_RETIRED) old then s4
  else
    let s5 := s4.setUnit 9 old ⟨.stock, none⟩
    if s5.loopLocked old then (s5.setFld .PLL_ROLE_STANDBY old).setFlag .PLL_ROLE_NO_STANDBY false else s5

/-- STAND_IN (R416): the standby loop drives the domains of a role. -/
def execStandIn (dt : Nat) (role : Fin 3) (s : State) : Host.Outcome State Fault Refusal :=
  let s := s.advance dt
  .next (match s.clocks.gated.get (fun _ => none) role.val with
    | some t =>
      if s.alive && !s.noStandIn role.val && (role.val == 2 || decide (t + 200 ≤ s.now)) then s.takeRole role.val t else s
    | none => s)

/-- A loop that locks takes its role again where its domain is gated for want of a stand-in, or ends a holdover (R419,
R422). -/
def State.resumeRole (s : State) (r : Nat) : State :=
  let s := s.setNoSpare 9 r false
  let s1 := match s.clocks.gated.get (fun _ => none) r with
    | some t =>
      if s.noStandIn r then (if r = 2 then (s.ungate r).stepTimebase t else s.ungate r) else s
    | none => s
  if r = 2 then s1.leaveHoldover else s1

/-- R420: a loop that holds no role becomes the standby loop. -/
def State.becomeStandby (s : State) (p lost : Nat) : State :=
  let s1 := (s.setFld .PLL_ROLE_STANDBY p).setFlag .PLL_ROLE_NO_STANDBY false
  if lost = 0 then s1 else s1.loopEvent (lost - 1) 2 0

/-- LOOP_RELOCK (R412, R419, R420, R422). The first lock of the loop that holds role T starts the timebase (R295). -/
def execLoopRelock (dt : Nat) (p : Fin 4) (s : State) : Host.Outcome State Fault Refusal :=
  let s := s.advance dt
  let lost := s.clocks.lostRole.get (fun _ => 0) p.val
  let t : State := { s.setLocked p.val true with
    tbStarted := s.tbStarted || s.roleOf p.val == some 2
    clocks := { s.clocks with lostRole := s.clocks.lostRole.set (fun _ => 0) p.val 0 } }
  .next (if !s.alive || s.clocks.refLost || s.loopLocked p.val then s
  else match s.roleOf p.val with
    | some r => if s.standby && r != 2 then s else t.resumeRole r
    | none =>
      if bitOf (s.fld .PLL_ROLE_RETIRED) p.val || !s.flag .PLL_CTL_STANDBY_EN || s.standby then s
      else if (s.standbyLoop).isSome then t
      else t.becomeStandby p.val lost)

/-! ## Loss of the reference -/

/-- R421: the domain of a role whose loop ran is gated for want of the reference. -/
def State.refGate (s : State) (r : Nat) : State :=
  let s1 := s.setLocked (s.loopOf r) false
  if s1.lossGated r then s1 else s1.setGated r (some s1.now) true

/-- REF_IN_LOSS (R408, R421). The SOURCE of its event names no role, and is a free value. Roles that awaited the standby
loop, which stops, are left without a stand-in (R415). -/
def execRefInLoss (dt : Nat) (s : State) : Host.Outcome State Fault Refusal :=
  let s := s.advance dt
  .next (if s.alive && !s.clocks.refLost then
    let s1 := ({ s with clocks := { s.clocks with refLost := true } }).setFlag .PLL_STAT_REF_OK false
    let s2 := (((s1.count .PLL_REF_LOSS_COUNT 1).refGate 0).refGate 1).setLocked (s1.fld .PLL_ROLE_STANDBY) false
    let s3 := (s2.setLocked (s2.loopOf 2) false).standbyGone
    let s4 := if s3.gated 2 then s3 else s3.enterHoldover
    let (v, s5) := (s4.markLosses.raiseFast 5).free
    s5.loopEvent (v % 4) 3 0
  else s)

/-- REF_IN_GOOD (R408, R422). -/
def execRefInGood (dt : Nat) (s : State) : Host.Outcome State Fault Refusal :=
  let s := s.advance dt
  .next (if s.alive && s.clocks.refLost then
    let s1 := ({ s with clocks := { s.clocks with refLost := false } }).setFlag .PLL_STAT_REF_OK true
    let (v, s2) := s1.leaveHoldover.free
    s2.loopEvent (v % 4) 4 0
  else s)

end Sys2Proof.Machine
end

