-- ==== Sys2Proof/Machine/PowerCmds.lean ====
section
/-! DEFINITION. The power states and the commands that enter and leave them (R463 to R468). -/

namespace Sys2Proof.Machine

/-! ## Entering -/

/-- R464: the sequencer has stopped, no pulse is queued and every Weevil record is acknowledged. -/
def State.settled (s : State) : Bool :=
  !s.running && s.ej.pulses.isEmpty && (List.range 16).all fun r => (s.wvRole r).unacked.isEmpty

/-- R463, R467: do the loops beside that of role T run? Those that stop lose lock without an event, and
those that start again lock, unless the reference is lost or the loop is retired or switched off; a domain that was gated
for want of its loop runs again with the lock (R419, R422). -/
def State.sleepLoops (s : State) (stop : Bool) : State :=
  if stop then
    ((List.range 4).foldl (fun s p => if p = s.loopOf 2 then s else s.setLocked p false) s).standbyGone
  else if s.clocks.refLost then s
  else
    let s1 := [0, 1].foldl (fun s r => (s.setLocked (s.loopOf r) true).resumeRole r) s
    let p := s1.fld .PLL_ROLE_STANDBY
    if (s1.roleOf p).isSome || bitOf (s1.fld .PLL_ROLE_RETIRED) p || !s1.flag .PLL_CTL_STANDBY_EN then s1
    else (s1.setLocked p true).setFlag .PLL_ROLE_NO_STANDBY false

/-- R115, R168, R308: pulses end, and the pins take the levels of the power state in force. -/
def State.endPulses (s : State) : State :=
  let s1 := (List.range 8).foldl (fun s f => s.setFirefly f { s.firefly f with active := false }) s
  let s2 := (List.range 4).foldl (fun s k => s.setTrigOut k TrigOut.init) s1
  ({ s2.setPin 17 false with tbu := { s2.tbu with syncOutAt := none } }).settlePins

/-- The power state changes to IDLE or STANDBY (R463, R468). -/
def State.enterSleep (s : State) (target : Nat) : State :=
  let was := s.fld .PWR_STATE_STATE
  let s1 := s.setFld .PWR_STATE_STATE target
  if target = 2 then (((s.raiseSafe.stopIcx.setFld .PWR_STATE_STATE target).sleepLoops true).setFlag .RO_PIXSUP_STAT_READY
    false).endPulses
  else if was = 2 then ((s1.sleepLoops false).applyLatches).settlePins.repeatSync
  else s1

/-- R464: every live track is released with status FLUSHED. -/
def State.flushAll (s : State) : State := s.flushTracks s.lastTick s.cfgTag (s.mode == serviceMode) true

/-- POWER_STATE (R464, R466). -/
def execPowerState (s : State) : Host.Outcome State Fault Refusal :=
  .next (s.mailbox 0xA8 [(20, 4)] fun d s =>
    let a := bytesAt d 20 4
    if 2 < a then s.finishMbox .badDescriptor 0
    else if s.fld .PWR_STATE_STATE = a && s.power.request.isNone then s.finishMbox .ok 0
    else
      let s1 := s.startHead mboxSq
      if s.power.request.isSome then s1
      else
        let s2 := { s1 with power := { s1.power with request := some ⟨a, s.waiting⟩ } }
        if a = 0 then s2 else (if s2.run then s2.stopRun else s2).setFlag .PWR_STATE_PENDING true)

/-- POWER_STATE_ENTRY (R464, R468, R489): the device enters IDLE or STANDBY once what it waits for is done. -/
def execPowerStateEntry (dt : Nat) (s : State) : Host.Outcome State Fault Refusal :=
  let s := s.advance dt
  .next (match s.power.request with
    | some r =>
      if s.alive && s.sleepPending && !s.power.waking && s.settled then
        let s1 := ({ s.flushAll.abortTests with power := { s.power with request := none } }).setFlag .PWR_STATE_PENDING
          false
        (s1.enterSleep r.target).finishWaiting r.notify .ok 0
      else s
    | none => s)

/-! ## Waking -/

/-- R467: ACTIVE is reached: the loops are locked and the boost is ready, latched raises are applied (R405), the Drays write what
they held, a waiting
POWER_STATE completes, and AUTORUN sets RUN after a wake. -/
def State.reachActive (s : State) : State :=
  let was := s.fld .PWR_STATE_STATE
  let autorun := s.power.waking && s.flag .PWR_WAKE_EN_AUTORUN
  let back := s.power.request.filter fun r => r.target == 0
  let s1 := ({ s with power := { s.power with waking := false, request := if back.isSome then none else s.power.request
      } }).setFld .PWR_STATE_STATE 0
  let s2 := if was = 2 then ((s1.sleepLoops false).setFlag .RO_PIXSUP_STAT_READY true).applyLatches.repeatSync else s1
  let s3 := match back with
    | some r => s2.releaseItems.settlePins.finishWaiting r.notify .ok 0
    | none => s2.releaseItems.settlePins
  if autorun then s3.startRun else s3

/-- Is the device to return to ACTIVE? -/
def State.returning (s : State) : Bool :=
  s.fld .PWR_STATE_STATE != 0 && (s.power.waking || (s.power.request.map (·.target)) == some 0)

/-- WAKE (R405, R465 to R467): a wake source fires where it is enabled, and a device that returns to ACTIVE reaches it. -/
def execWake (dt : Nat) (source : WakeSource) (s : State) : Host.Outcome State Fault Refusal :=
  let s := s.advance dt
  .next (if s.alive && s.thermal.trip.isNone then
    let s1 := s.wakeFires source
    if s1.returning then s1.reachActive else s1
  else s)

end Sys2Proof.Machine
end

