-- ==== Sys2Proof/Machine/Thermal.lean ====
section
/-! DEFINITION. The temperature sensors, their thresholds and what they lead to (R449 to R462, R469), and the end of the
start-up at the eighth sample (R335, R412, R454). Temperatures are in 1/16 °C. -/

namespace Sys2Proof.Machine

/-! ## Sensor sites -/

/-- What one sample gives for a site: the reading, the difference of its oscillators, and the two oscillators. -/
structure SiteSample where
  temp : Int
  diff : Nat
  a : Int
  b : Int
  deriving DecidableEq, Repr

/-- The oscillator of a site that is retired: 0 none, 1 the first, 2 the second. -/
def State.oscRetired (s : State) (site : Nat) : Nat := s.thermal.retired.get (fun _ => 0) site

/-- R450: the reading of a site: the mean of its oscillators, rounded down; the higher where they differ by more than
4 °C; the remaining one where one is retired. -/
def siteReading (retired : Nat) (a b : Int) : Int :=
  if retired = 1 then b
  else if retired = 2 then a
  else if 64 < (a - b).natAbs then max a b
  else (a + b) / 2

/-- The reading of an oscillator, 2 × site + oscillator: what its factory trim gives less the offset that calibration
found (R425, R430, R449). -/
def State.oscReading (s : State) (counts : List Nat) (i : Nat) : Int :=
  signed 16 (counts.getD i 0) - signed 16 (s.calEntry 1 i)

/-- The sample of a site, from the readings of the 24 oscillators as 16-bit numbers. -/
def State.siteSample (s : State) (counts : List Nat) (site : Nat) : SiteSample :=
  let a := s.oscReading counts (2 * site)
  let b := s.oscReading counts (2 * site + 1)
  ⟨siteReading (s.oscRetired site) a b, (a - b).natAbs, a, b⟩

/-- The samples of the 12 sites. -/
def State.siteSamples (s : State) (counts : List Nat) : List SiteSample := (List.range 12).map (s.siteSample counts)

/-- The reading of a site in a list of samples. -/
def readingAt (l : List SiteSample) (site : Nat) : Int := ((l[site]?).map (·.temp)).getD 0

/-- R450: the oscillator of a site that lies further from the mean of the other sites of its die: 1 or 2; 0 where both lie
as far. -/
def furtherOsc (l : List SiteSample) (site : Nat) : Nat :=
  let die := 4 * (site / 4)
  let others := (List.range 4).filter fun i => die + i != site
  let sum := (others.map fun i => readingAt l (die + i)).sum
  match l[site]? with
  | some x =>
    let da := (3 * x.a - sum).natAbs
    let db := (3 * x.b - sum).natAbs
    if db < da then 1 else if da < db then 2 else 0
  | none => 0

/-- R450: oscillator `which` of a site is retired. -/
def State.retireOsc (s : State) (site which : Nat) : State :=
  let s1 := { s with thermal := { s.thermal with retired := s.thermal.retired.set (fun _ => 0) site which } }
  (s1.setFlag (.THM_SITE_RETIRED site) true).setUnit 12 (2 * site + which - 1) ⟨.retired, none⟩

/-- R450, R498: a disagreement of a site's oscillators is charged to the site, and retires one of them, which its fault record
names, when it is lasting; where both lie as far from the mean, which of them is a free value. -/
def State.judgeSite (s : State) (l : List SiteSample) (site : Nat) : State :=
  match l[site]? with
  | some x =>
    if s.oscRetired site = 0 ∧ 64 < x.diff then
      let before := s.fld (.FLT_SRC_LAST_COUNT 8)
      let k := furtherOsc l site
      let (which, s0) := if k = 0 then (1 + s.free.1 % 2, s.free.2) else (k, s)
      let s1 := s0.chargeFor 9 (unitKey 12 site) (2 * site + which - 1)
      if before < s1.fld (.FLT_SRC_LAST_COUNT 8) then s1.retireOsc site which else s1
    else s
  | none => s

/-- THM_SITEn takes the reading and the difference of a sample. -/
def State.showSite (s : State) (l : List SiteSample) (site : Nat) : State :=
  match l[site]? with
  | some x => (s.setFld (.THM_SITE_TEMP site) (unsigned 16 x.temp)).setFld (.THM_SITE_DIFF site) (min 4095 x.diff)
  | none => s

/-- R451: the site that gives the hot reading, or the cold one: the lowest of those that read the same. -/
def extremeSite (l : List SiteSample) (hot : Bool) : Nat :=
  (List.range 12).foldl (fun m i =>
    if (if hot then readingAt l m < readingAt l i else readingAt l i < readingAt l m) then i else m) 0

/-- R451, R471: THM_HOT, THM_COLD and THM_PEAK. The first sample after reset sets the peak. -/
def State.showExtremes (s : State) (l : List SiteSample) (first : Bool) : State :=
  let h := extremeSite l true
  let c := extremeSite l false
  let s1 := (s.setFld .THM_HOT_TEMP (unsigned 16 (readingAt l h))).setFld .THM_HOT_SITE h
  let s2 := (s1.setFld .THM_COLD_TEMP (unsigned 16 (readingAt l c))).setFld .THM_COLD_SITE c
  if first || decide (signed 16 (s2.fld .THM_PEAK_TEMP) < readingAt l h) then
    s2.setFld .THM_PEAK_TEMP (unsigned 16 (readingAt l h))
  else s2

/-! ## OFF -/

/-- The device enters OFF (R458 to R460, R463, R494): the link is down, pulses end, and what waited is gone. -/
def State.goOff (s : State) : State :=
  let s := s.cutJob
  let s1 := { s with
    off := true
    pcie := { s.pcie with link := .down, heldMsgs := [], heldWrites := [], heldItems := [] }
    power := { request := none, waking := false, moulting := false }
    nvm := { s.nvm with jobs := [], cold := [] } }
  s1.endPulses

/-- THM_SHUT is written (R458, R459), and THERM_N stays low in OFF (R455). -/
def State.writeShut (s : State) (cause : Nat) (cut : Bool) (temp : Nat) : State :=
  { s with
    nvm := { s.nvm with shutCause := cause, shutCut := cut, shutTemp := temp, shutNoted := false }
    thermal := { s.thermal with shut := true } }

/-- The mailbox incarnation that waits for a program sequence. -/
def NvmJob.notify : NvmJob → Option Nat
  | .record _ _ (.owner _ _ n) => n
  | .record _ _ (.snapshot _ n) => n
  | .chunk _ _ (.fwWrite _ n) => n
  | _ => none

/-- R458, R461: the program sequences that have not started are refused. One that serves a command ends it with
PRECONDITION; the records of the device are kept where `keep` says so. -/
def State.refuseWaiting (s : State) (keep : Bool) : State :=
  let later := s.nvm.jobs.tail
  let own := later.filter fun j => match j with
    | .record _ _ _ => j.notify.isNone
    | _ => false
  let s1 := { s with nvm := { s.nvm with jobs := s.nvm.jobs.take 1 } }
  let s2 := if keep then own.foldl (fun s j => s.program j) s1 else s1
  later.foldl (fun s j => if j.notify.isSome then s.finishWaiting j.notify .precondition 0 else s) s2

/-- ORDERLY_SHUTDOWN (R458): the crossing of T_TRIP. -/
def State.orderlyShutdown (s : State) : State :=
  let s1 := s.raiseFast 1
  let s2 := { s1 with
    thermal := { s1.thermal with trip := some s1.now, tripTemp := s1.fld .THM_HOT_TEMP }
    power := { s1.power with moulting := false } }
  (s2.stopRun.refuseWaiting false).settleTrip

/-- R459: every Weevil role drives its SAFE levels, and its queued records are discarded. -/
def State.safeNow (s : State) : State :=
  let s1 := { s.raiseSafe with ej := { s.ej with pulses := [] } }
  ((List.range 16).foldl (fun s r =>
    ((s.modWv r fun w => { w with
      unacked := [], waiting := [], safe := w.loaded, halted := true, stopped := true }).stopEngine
      (s.wvRole r).engine).modEngine (s.wvRole r).engine fun x => { x with tx := [] }) s1).driveAll

/-- IMMEDIATE_SHUTDOWN (R459): the crossing of T_ABS. A program sequence under way stops. -/
def State.immediateShutdown (s : State) : State :=
  let cut := !s.nvm.jobs.isEmpty
  ((s.stopRun.safeNow).writeShut 2 cut (s.fld .THM_HOT_TEMP)).goOff

/-! ## Thresholds -/

/-- The thresholds of R452: 0 T_COLD_LIMIT, 1 T_COLD_WARN, 2 T_HOT_WARN, 3 T_TRIP, 4 T_ABS. -/
def threshold : Nat → Int
  | 0 => -400
  | 1 => -160
  | 2 => 1520
  | 3 => 1792
  | _ => 1920

/-- Is a threshold a cold one? -/
def isCold (k : Nat) : Bool := k ≤ 1

/-- The hysteresis of a threshold. -/
def State.hysteresis (s : State) : Nat → Int
  | 0 => 16 * (s.fld .THM_HYST_COLD_LIMIT : Nat)
  | 1 => 16 * (s.fld .THM_HYST_COLD_WARN : Nat)
  | _ => 16 * (s.fld .THM_HYST_HOT_WARN : Nat)

/-- R453: does a reading qualify for a crossing of a threshold, rising or falling? T_TRIP and T_ABS never cross falling. -/
def State.qualifies (s : State) (k : Nat) (rising : Bool) (t : Int) : Bool :=
  if isCold k then (if rising then decide (threshold k + s.hysteresis k ≤ t) else decide (t ≤ threshold k))
  else if rising then decide (threshold k ≤ t)
  else k = 2 && decide (t ≤ threshold k - s.hysteresis k)

/-- Does a threshold stand crossed: a cold one falling, a hot one rising? -/
def State.crossed (s : State) : Nat → Bool
  | 0 => s.flag .THM_STAT_COLD_LIMIT
  | 1 => s.flag .THM_STAT_COLD_WARN
  | 2 => s.flag .THM_STAT_HOT_WARN
  | 3 => s.thermal.trip.isSome
  | _ => s.off

/-- Samples in a row, up to 8, that qualify for a crossing. -/
def State.thmRun (s : State) (k : Nat) (rising : Bool) : Nat :=
  s.thermal.runs.get (fun _ => 0) (2 * k + boolNat (!rising))

/-- A sample counts for both crossings of a threshold. -/
def State.countRuns (s : State) (k : Nat) (t : Int) : State :=
  [true, false].foldl (fun s up =>
    let n := if s.qualifies k up t then min 8 (s.thmRun k up + 1) else 0
    { s with thermal := { s.thermal with runs := s.thermal.runs.set (fun _ => 0) (2 * k + boolNat (!up)) n } }) s

/-- R455: the event of a crossing. -/
def State.crossingEvent (s : State) (k : Nat) (rising : Bool) : State :=
  let site := if isCold k then s.fld .THM_COLD_SITE else s.fld .THM_HOT_SITE
  let temp := if isCold k then s.fld .THM_COLD_TEMP else s.fld .THM_HOT_TEMP
  s.event 0x11 .ok ((Config.thresholdCode k).toNat + 256 * boolNat rising) (leBytes 1 site ++ leBytes 2 temp)

/-- R452, R456 to R462: what a crossing leads to. -/
def State.crossingEffect (s : State) (k : Nat) (rising : Bool) : State :=
  match k, rising with
  | 0, false =>
    let s1 := (((s.setFlag .THM_STAT_COLD_LIMIT true).setFlag .THM_STAT_COLD_HOLD true).refuseWaiting true).stageMgmt
      (.coldHold true)
    if s1.mode = serviceMode then { s1 with thermal := { s1.thermal with coldHeld := true } } else s1
  | 0, true => ((s.setFlag .THM_STAT_COLD_LIMIT false).releaseCold).stageMgmt (.coldHold false)
  | 1, _ => s.setFlag .THM_STAT_COLD_WARN (!rising)
  | 2, true =>
    let s1 := ((s.setFlag .THM_STAT_HOT_WARN true).setFlag .THM_STAT_THROTTLE_REQ true).setFlag .THM_STAT_GRACE true
    { s1 with thermal := { s1.thermal with grace := some s1.now } }
  | 2, false =>
    let s1 := s.setFlag .THM_STAT_HOT_WARN false
    if s.thermal.grace.isSome then
      { (s1.setFlag .THM_STAT_GRACE false).setFlag .THM_STAT_THROTTLE_REQ false with
        thermal := { s1.thermal with grace := none } }
    else s1.stageMgmt (.throttle false)
  | 3, true => s.orderlyShutdown
  | 4, true => s.immediateShutdown
  | _, _ => s

/-- R453, R454: a threshold crosses where 8 samples in a row qualify and it stands on the other side. -/
def State.testThreshold (s : State) (k : Nat) : State :=
  let toward := if isCold k then false else true
  if s.off then s
  else if !s.crossed k && s.thmRun k toward == 8 then (s.crossingEvent k toward).crossingEffect k toward
  else if s.crossed k && s.thmRun k (!toward) == 8 then (s.crossingEvent k (!toward)).crossingEffect k (!toward)
  else s

/-! ## Readiness -/

/-- R335, R412, R507: is the start-up complete? -/
def State.startUpDone (s : State) : Bool :=
  s.flag .CAL_STAT_POWERUP_DONE && s.coach.started &&
    (List.range 4).all fun p => s.loopLocked p || bitOf (s.fld .PLL_ROLE_RETIRED) p

/-- HIF_READY rises (R335, R454). -/
def State.settleReady (s : State) : State :=
  if s.flag .HIF_READY_READY || !s.startUpDone || s.off then s
  else (s.setFlag .HIF_READY_READY true).setFld .HIF_READY_START_MS (min 65535 ((s.now - s.startAt) / 1000000))

/-! ## Commands -/

/-- R454: the samples of the start count from the end of the power-up calibration on; from the eighth on thresholds act. -/
def State.countStart (s : State) : State :=
  if s.flag .CAL_STAT_POWERUP_DONE then
    { s with thermal := { s.thermal with startSamples := min 8 (s.thermal.startSamples + 1) } }
  else s

/-- THERMAL_SAMPLE (R449 to R455, R457 to R462, R469). `counts` are the readings of the 24 oscillators under their factory
trims, by 2 × site + oscillator, as 16-bit numbers. -/
def execThermalSample (dt : Nat) (counts : List Nat) (s : State) : Host.Outcome State Fault Refusal :=
  let s := s.advance dt
  .next (if !s.alive then s
  else
    let l := s.siteSamples counts
    let s1 := ((List.range 12).foldl (fun s i => (s.showSite l i).judgeSite l i) s).showExtremes l (!s.thermal.sampled)
    let s2 := State.countStart { s1 with thermal := { s1.thermal with sampled := true } }
    if s2.thermal.startSamples = 0 then s2
    else
      let hot := readingAt l (extremeSite l true)
      let cold := readingAt l (extremeSite l false)
      let s3 := (List.range 5).foldl (fun s k => s.countRuns k (if isCold k then cold else hot)) s2
      if s3.thermal.startSamples < 8 then s3
      else ((List.range 5).foldl (fun s k => s.testThreshold k) s3).settleReady)

/-- GRACE_EXPIRY (R456): the throttle tick floor is to be enforced. -/
def execGraceExpiry (dt : Nat) (s : State) : Host.Outcome State Fault Refusal :=
  let s := s.advance dt
  .next (match s.thermal.grace with
    | some t =>
      if s.alive && decide (t + 1000000 * s.fld .THM_GRACE_GRACE ≤ s.now) then
        let s1 := s.setFlag .THM_STAT_GRACE false
        { s1 with thermal := { s1.thermal with grace := none } }.stageMgmt (.throttle true)
      else s
    | none => s)

/-- SHUTDOWN_COMPLETE (R458): the orderly shutdown ends when the program sequence under way, the queued pulses and the
records are done and every role drives its SAFE levels. -/
def execShutdownComplete (dt : Nat) (s : State) : Host.Outcome State Fault Refusal :=
  let s := s.advance dt
  .next (if s.alive && s.thermal.trip.isSome && s.noPulse && s.nvm.jobs.isEmpty && s.ej.pulses.isEmpty then
    let t := s.settleTrip
    if (List.range 16).all fun r => (t.wvRole r).unacked.isEmpty then
      (t.writeShut 1 false t.thermal.tripTemp).goOff
    else t
  else s)

end Sys2Proof.Machine
end

