-- ==== Sys2Proof/Machine/Calib.lean ====
section
/-! DEFINITION. Calibration (R425 to R447): measurements, the result space, the power-up sequence, background tracking,
calibration on request, flat-field acquisition and snapshots. A measured value is in units of its entry's field. -/

namespace Sys2Proof.Machine

/-! ## Items -/

/-- Entries of an item (R434). -/
def calCount : Nat → Nat
  | 0 => 4 | 1 => 24 | 2 => 34 | 3 => 270 | 4 => 33536 | 5 => 503040 | 6 => 60 | _ => 256

/-- The bits that an entry holds (R434). -/
def calMask : Nat → Nat
  | 0 => 2 ^ 24 - 1 | 1 => 2 ^ 16 - 1 | 2 => 2 ^ 12 - 1 | 4 => 3 | 5 => 2 ^ 14 - 1 | _ => 2 ^ 32 - 1

/-- Quantities that one measurement of an item gives (R425): LOOP band and TDC gain; RAMP gain and offset; COMP the
offset of each pair; DARK dark-row and optical-black mean. -/
def calParts : Nat → Nat
  | 0 => 2 | 3 => 2 | 4 => 4 | 6 => 2 | _ => 1

/-- The depth of an entry, 0 for 10, 1 for 12 and 2 for 14 bits (R434). -/
def calDepth (item index : Nat) : Nat :=
  match item with
  | 3 | 6 => index % 15 / 5
  | 5 => index / 33536 / 5
  | _ => 0

/-! ## Repeat and agree -/

/-- Do two numbers lie within a distance of each other? -/
def within (d : Nat) (a b : Int) : Bool := decide ((a - b).natAbs ≤ d)

/-- R425: do two measurements of an entry agree? -/
def calAgree (item index : Nat) (a b : List Int) : Bool :=
  let unit := 4 ^ calDepth item index
  let near (i d : Nat) : Bool := within d (a.getD i 0) (b.getD i 0)
  match item with
  | 0 => near 0 0 && near 1 655
  | 1 => near 0 8
  | 2 => near 0 4
  | 3 => near 0 50 && near 1 (8 * unit)
  | 4 => choosePair a == choosePair b && (List.range 4).all fun p => near p 8
  | 5 => near 0 (2 ^ calDepth item index)
  | _ => near 0 (2 * unit) && near 1 (2 * unit)

/-- R426: the mean of two agreeing measurements; for COMP the common choice stands. -/
def calMean (item : Nat) (a b : List Int) : List Int :=
  if item = 4 then a else (a.zip b).map fun p => (p.1 + p.2 + 1) / 2

/-- What the measurements of an entry come to: not yet resolved, a result, or a suspect element with its three values. -/
inductive Resolved where
  | open_
  | result (m : List Int)
  | suspect (ms : List (List Int))
  deriving DecidableEq, Repr

/-- R426. -/
def resolve (item index : Nat) (ms : List (List Int)) : Resolved :=
  match ms with
  | a :: b :: rest =>
    if calAgree item index a b then .result (calMean item a b)
    else match rest with
      | c :: _ =>
        if calAgree item index a c then .result (calMean item a c)
        else if calAgree item index b c then .result (calMean item b c)
        else .suspect [a, b, c]
      | [] => .open_
  | _ => .open_

/-- The measurements of an entry among the values given, in order. -/
def measuresOf (meas : List Measurement) (item index : Nat) : List (List Int) :=
  let part (c : Nat) : List Int :=
    (meas.filter fun x => x.item.val == item && x.element == index * calParts item + c).map (·.value)
  let n := (List.range (calParts item)).foldl (fun m c => min m (part c).length) (part 0).length
  (List.range n).map fun j => (List.range (calParts item)).map fun c => (part c).getD j 0

/-! ## Suspect elements -/

/-- The physical index of an entry (R434). -/
def calUnit (item index : Nat) : Nat :=
  match item with
  | 3 | 6 => index / 15
  | 5 => index % 33536
  | _ => index

/-- The instance that a suspect element is charged to: its unit, or the element where it is of no spareable unit (R474). -/
def calInstance (item index : Nat) : Nat :=
  let u := calUnit item index
  match item with
  | 0 => unitKey 9 u
  | 2 => unitKey 2 u
  | 3 => unitKey 1 u
  | 4 | 5 => if u < 33280 then unitKey 0 u else unitKey 15 u
  | _ => unitKey 15 u

/-- R427: a measured value as ARGS holds it: the entry that it gives; of COMP the offset of the pair that it chooses. -/
def calArg (item : Nat) (m : List Int) : Nat :=
  if item = 4 then unsigned 32 (m.getD (choosePair m) 0) else calPack item m

/-- R427: an element is suspect: it keeps its value, it is counted, reported where `report` says so, and charged; a
reference converter is left out of the optical-black mean. -/
def State.markSuspect (s : State) (item index : Nat) (ms : List (List Int)) (report : Bool) : State :=
  let s1 := s.count .CAL_SUSPECT_VALUE 1
  let s2 := if report then
      s1.event 0x14 .ok (item + 256 * calUnit item index) (ms.flatMap fun m => leBytes 4 (calArg item m))
    else s1
  let u := calUnit item index
  let s3 := if (item = 4 ∨ item = 5) ∧ 33280 ≤ u ∧ !s2.cal.suspectRefs.contains u then
      { s2 with cal := { s2.cal with suspectRefs := s2.cal.suspectRefs ++ [u] } }
    else s2
  s3.charge 12 (calInstance item index)

/-! ## The dark-level check -/

/-- R429: does D, with 2 fraction bits, lie within the limits? -/
def State.darkOk (s : State) (d : Int) : Bool :=
  decide (signed 16 (s.fld .CAL_DARK_LIM_LO) ≤ d) && decide (d ≤ signed 16 (s.fld .CAL_DARK_LIM_HI))

/-- R429, R437: event 0x0014 of a failed check. -/
def State.darkEvent (s : State) (d : Int) : State := s.event 0x14 .precondition 6 (leBytes 4 (unsigned 32 d))

/-- D among the values given; a free value where none is given. -/
def State.darkLevel (s : State) (meas : List Measurement) : Int × State :=
  match meas.find? fun x => x.item.val == 7 with
  | some x => (x.value, s)
  | none => let (v, t) := s.free; (signed 16 v, t)

/-! ## Measuring items -/

/-- A pass over the elements of an item: the state, the entries found, the elements resolved, and the events raised. -/
structure CalPass where
  state : State
  found : List (Nat × Nat × Nat)
  measured : Store Bool
  events : Nat

/-- One element of a pass (R426, R427). -/
def CalPass.take (meas : List Measurement) (item : Nat) (p : CalPass) (index : Nat) : CalPass :=
  if p.measured.get (fun _ => false) index then p
  else match resolve item index (measuresOf meas item index) with
    | .open_ => p
    | .result m =>
      { p with
        found := p.found ++ [(item, index, calPack item m)]
        measured := p.measured.set (fun _ => false) index true }
    | .suspect ms =>
      { p with
        state := p.state.markSuspect item index ms (p.events < 64)
        measured := p.measured.set (fun _ => false) index true
        events := p.events + 1 }

/-- The elements of an item that are measured: of LOOP the standby loop only, outside the power-up sequence. -/
def State.calElements (s : State) (item : Nat) (all : Bool) : List Nat :=
  if item = 0 ∧ !all then (if s.flag .PLL_ROLE_NO_STANDBY then [] else [s.fld .PLL_ROLE_STANDBY])
  else List.range (calCount item)

/-- The results of an item take effect: class B staged together (R431), the others at once (R430). -/
def State.applyResults (s : State) (item : Nat) (es : List (Nat × Nat × Nat)) : State :=
  if es.isEmpty then s
  else if item = 4 ∨ item = 5 then s.stageClassB (.calibration false es)
  else s.applyEntries es

/-! ## Calibration on request -/

/-- A CAL_RUN is replaced. -/
def State.setCalRun (s : State) (r : CalRun) : State := { s with cal := { s.cal with run := some r } }

/-- The item under way takes the values given; once every element is resolved, its results take effect and the next item
begins. `fuel` bounds the items. -/
def State.advanceCalRun (meas : List Measurement) (s : State) : Nat → State
  | 0 => s
  | fuel + 1 =>
    match s.cal.run with
    | none => s
    | some r =>
      match r.items with
      | [] => s.endCalRun r .ok
      | item :: rest =>
        if item = 0 ∧ s.flag .PLL_ROLE_NO_STANDBY then
          ((s.showItem 0 false).setCalRun { r with items := rest, measured := [], results := [] }).advanceCalRun meas fuel
        else if 2 ≤ item ∧ !r.checked then
          if meas.any (fun x => x.item.val == 7) then
            let (d, s1) := s.darkLevel meas
            if s1.darkOk d then (s1.setCalRun { r with checked := true }).advanceCalRun meas fuel
            else ((s1.setFlag .CAL_STAT_PRECOND true).darkEvent d).endCalRun r .precondition
          else s
        else
          let els := s.calElements item false
          let p := els.foldl (CalPass.take meas item)
            { state := s.showItem item true, found := r.results, measured := r.measured, events := r.events }
          if els.all fun i => p.measured.get (fun _ => false) i then
            let r1 : CalRun := { r with items := rest, done := r.done + 1, measured := [], results := [], events := p.events }
            (((p.state.applyResults item p.found).showItem item false).setCalRun r1).advanceCalRun meas fuel
          else p.state.setCalRun { r with measured := p.measured, results := p.found, events := p.events }

/-- R146, R463: the values that a measurement which ends now may keep: items 2 to 6 use converter slots in which no frame is
read, and a slot that still ran when the readout of a frame had to start gives nothing. The converters and ramps are off in
IDLE, and the loops beside that of role T are stopped in STANDBY. -/
def State.keptValues (s : State) (meas : List Measurement) : List Measurement :=
  meas.filter fun x =>
    if x.item.val = 1 then true
    else if x.item.val = 0 then !s.standby
    else s.fld .PWR_STATE_STATE == 0 && s.reading.isNone && !s.frames.any s.readoutDue

/-- CAL_RUN (R146, R443): the command at the head starts, and the run under way takes the values measured. A run goes on over
as many of these commands as its values need. -/
def execCalRun (meas : List Measurement) (s : State) : Host.Outcome State Fault Refusal :=
  let meas := s.keptValues meas
  .next (if s.cal.run.isSome then (if s.alive && s.coach.started then s.advanceCalRun meas 16 else s)
  else s.mailbox 0x90 [(20, 4)] fun d s =>
    let mask := bytesAt d 20 4
    let items := (List.range 7).filter fun i => bitOf mask i
    if 128 ≤ mask then s.finishMbox .badDescriptor 0
    else if items.any (2 ≤ ·) && s.mode != serviceMode then s.finishMbox .precondition 0
    else
      let r : CalRun := { items := items, done := 0, measured := [], results := [], events := 0, checked := false,
                          notify := s.waiting }
      (((s.startHead mboxSq).setFlag .CAL_STAT_PRECOND false).setCalRun r).advanceCalRun meas 16)

/-! ## The power-up sequence -/

/-- The entries that a start loads (R428): the snapshot, or the factory reference set; OFFSET reads 0. -/
def State.loadEntries (s : State) : State :=
  match s.nvm.snapshot with
  | some m =>
    let l := (m.filter fun e => e.1 / 2 ^ 20 = 7).map (·.2)
    ({ s with cal := { s.cal with entries := m.filter fun e => e.1 / 2 ^ 20 != 7, drift := l } }.setFld
      .CAL_DLIST_COUNT l.length).setFld .CAL_STAT_SRC 2
  | none =>
    let keys := [0, 1, 2, 3, 4, 6].flatMap fun i => (List.range (calCount i)).map (calKey i)
    let m : Store Nat := (keys.map fun k => (k, (Config.factoryCal k).toNat &&& calMask (k / 2 ^ 20))).filter fun e => e.2 != 0
    ({ s with cal := { s.cal with entries := m } }).setFld .CAL_STAT_SRC 1

/-- At the start a role whose loop is retired passes to the standby loop, with the role's dividers (R411, R412); without one it
is left without a loop, gated off (R419, R480). -/
def State.passRole (s : State) (r : Nat) : State :=
  let p := s.fld .PLL_ROLE_STANDBY
  if !bitOf (s.fld .PLL_ROLE_RETIRED) (s.loopOf r) then s
  else if s.flag .PLL_ROLE_NO_STANDBY then (s.loopAlone r).setGated r (some s.now) true
  else
    ((((((s.setFld (roleField r) p).setHolder 9 r p).setUnit 9 p ⟨.inRole, some r⟩).loadDividers p
      r).transferDividers).setFlag .PLL_ROLE_NO_STANDBY true)

/-- R412: the loops that fail to lock are retired and the others lock; the timebase starts with the lock of the loop that
holds role T (R295). A role whose loop is retired passes to the standby loop. While REF_IN is lost no loop locks, and none is
retired for it. -/
def State.lockLoops (s : State) (unlocked : List (Fin 4)) : State :=
  if s.clocks.refLost then s
  else
    let s1 := [0, 1, 2].foldl State.passRole (unlocked.foldl (fun s p => s.retireLoop p.val) s)
    let s2 := (List.range 4).foldl (fun s p =>
      if bitOf (s.fld .PLL_ROLE_RETIRED) p then s else s.setLocked p true) (s1.setFlag .PLL_STAT_REF_OK true)
    { s2 with tbStarted := s2.tbStarted || s2.loopLocked (s2.loopOf 2) }

/-- An item of the power-up sequence: it is measured, and all its results are in force (R428). -/
def State.powerUpItem (meas : List Measurement) (s : State) (item : Nat) : State :=
  let p := (s.calElements item true).foldl (CalPass.take meas item)
    { state := s, found := [], measured := [], events := s.cal.events }
  ({ p.state with cal := { p.state.cal with events := p.events } }).applyEntries p.found

/-- POWERUP_CALIBRATION (R428, R429): `unlocked` are the loops that fail to lock (R412). An element without values keeps the
value loaded. -/
def execPowerupCalibration (dt : Nat) (found : PowerUp) (s : State) : Host.Outcome State Fault Refusal :=
  let s := s.advance dt
  let meas := found.meas
  .next (if s.alive && s.coach.started && !s.flag .CAL_STAT_POWERUP_DONE then
    let s1 := ((s.loadEntries.powerUpItem meas 0).lockLoops found.unlocked).powerUpItem meas 1
    let (d, s2) := s1.darkLevel meas
    let s3 := if s2.darkOk d then [2, 3, 4, 5, 6].foldl (State.powerUpItem meas) s2
      else (s2.setFlag .CAL_STAT_PRECOND true).darkEvent d
    { (s3.setFlag .CAL_STAT_POWERUP_DONE true).setFld .CAL_LAST_MS_DURATION (min 65535 (dt / 1000000)) with
      cal := { s3.cal with cycleAt := s3.now, events := 0 } }
  else s)

/-! ## Background tracking -/

/-- Does item `i` take background updates now (R437, R438)? -/
def State.tracks (s : State) (item : Nat) : Bool :=
  !bitOf (s.fld .CAL_STAT_RUNNING) item && !(2 ≤ item && s.flag .CAL_STAT_DRIFT_PAUSED)

/-- The combination of an entry that belongs to one (R434). -/
def calCombo (item index : Nat) : Option Nat :=
  match item with
  | 3 | 6 => some (index % 15)
  | 5 => some (index / 33536)
  | _ => none

/-- R435: the combinations of the taps' gains at the depth in force, which a cycle measures first. -/
def State.firstCombos (s : State) : List Nat := ((List.range 4).map s.combo).eraseDups

/-- Are the entries of the first combinations all measured in this cycle? -/
def State.firstDone (s : State) : Bool :=
  let cs := s.firstCombos
  (s.cal.measured.filter fun e => (calCombo (e.1 / 2 ^ 20) (e.1 % 2 ^ 20)).any cs.contains).length =
    cs.length * (18 + 33536 + 4)

/-- The elements of an item among the values given, in order: those of the first combinations, or the others. -/
def State.trackElements (s : State) (meas : List Measurement) (item : Nat) (first : Bool) : List Nat :=
  let cs := s.firstCombos
  ((meas.filter fun x => x.item.val == item).map fun x => x.element / calParts item).eraseDups.filter fun i =>
    decide (i < calCount item) && (item != 0 || (s.calElements 0 false).contains i) &&
      ((calCombo item i).all cs.contains == first)

/-- One element of a background measurement (R435, R436). -/
def CalPass.track (meas : List Measurement) (item : Nat) (p : CalPass) (index : Nat) : CalPass :=
  match resolve item index (measuresOf meas item index) with
  | .open_ => p
  | .result m =>
    let q := { p with measured := p.measured.set (fun _ => false) (calKey item index) true }
    if item = 4 then q else { q with found := q.found ++ [(item, index, calPack item m)] }
  | .suspect ms =>
    { p with
      state := p.state.markSuspect item index ms (p.events < 64)
      measured := p.measured.set (fun _ => false) (calKey item index) true
      events := p.events + 1 }

/-- Elements of one item of a background measurement. The results of class B are staged, the others move at once; an item
that takes no updates is measured all the same (R437, R438). -/
def State.trackItem (meas : List Measurement) (first : Bool) (s : State) (item : Nat) : State :=
  let p := (s.trackElements meas item first).foldl (CalPass.track meas item)
    { state := s, found := [], measured := s.cal.measured, events := s.cal.events }
  let t := { p.state with cal := { p.state.cal with measured := p.measured, events := p.events } }
  if p.found.isEmpty || !s.tracks item then t
  else if item = 5 then t.stageClassB (.calibration true p.found)
  else t.moveEntries p.found

/-- R435: the items of a background measurement, the combinations in force first; values of the others that come before
those are complete belong to no measurement of the device. -/
def State.trackAll (s : State) (meas : List Measurement) : State :=
  let s1 := (List.range 7).foldl (State.trackItem meas true) s
  if s1.firstDone then (List.range 7).foldl (State.trackItem meas false) s1 else s1

/-- R437: a background measurement of DARK of tap A at 1× and 10 bits is tested as D. -/
def State.testDark (s : State) (d : Int) : State :=
  if s.darkOk d then s.setFlag .CAL_STAT_DRIFT_PAUSED false
  else if s.flag .CAL_STAT_DRIFT_PAUSED then s
  else (s.setFlag .CAL_STAT_DRIFT_PAUSED true).darkEvent d

/-- Does an element count in a drift cycle (R435)? Of LOOP the standby loop alone; of COMP none. -/
def State.inCycle (s : State) (key : Nat) : Bool :=
  match key / 2 ^ 20 with
  | 0 => (s.calElements 0 false).contains key
  | item => item != 4

/-- R435: a drift cycle ends when every element of its items has been measured. -/
def State.settleCycle (s : State) : State :=
  let want := [1, 2, 3, 5, 6].foldl (fun n i => n + calCount i) (s.calElements 0 false).length
  let have_ := (s.cal.measured.filter fun e => s.inCycle e.1).length
  if want ≤ have_ then
    { s.setFld .CAL_DRIFT_CYCLE_VALUE ((s.now - s.cal.cycleAt) / 1000000) with
      cal := { s.cal with measured := [], cycleAt := s.now, events := 0 } }
  else s

/-- BACKGROUND_DRIFT_MEASURE (R146, R435 to R438). The measurements lie in the time that passes. -/
def execBackgroundDriftMeasure (dt : Nat) (meas : List Measurement) (s : State) : Host.Outcome State Fault Refusal :=
  let s := s.advance dt
  let meas := s.keptValues meas
  .next (if s.alive && s.coach.started && s.flag .CAL_STAT_POWERUP_DONE && s.flag .CAL_CTL_DRIFT_EN &&
      s.fld .PWR_STATE_STATE == 0 then
    let s1 := (measuresOf meas 6 0).foldl (fun s m => s.testDark (m.getD 0 0)) s
    (s1.trackAll meas).settleCycle
  else s)

/-! ## The result space -/

/-- R432: an access increases INDEX by 1, modulo its width. -/
def State.nextIndex (s : State) : State := s.setFld .CAL_IDX_INDEX ((s.fld .CAL_IDX_INDEX + 1) % 2 ^ 19)

/-- R432, R448: a read of CAL_DATA; an access to DLIST, or out of range, sets ERR. -/
def State.calRead (s : State) : Nat × State :=
  let item := s.fld .CAL_IDX_ITEM
  let i := s.fld .CAL_IDX_INDEX
  let t := if item = 7 ∨ calCount item ≤ i then s.setFlag .CAL_IDX_ERR true else s
  (if calCount item ≤ i then 0 else if item = 7 then s.cal.drift.getD i 0 else s.calEntry item i, t.nextIndex)

/-- R432, R433: a write of CAL_DATA; one out of range or to DLIST sets ERR, and one to an item that is measured sets BUSY. -/
def State.calWrite (s : State) (v : Word) : State :=
  let item := s.fld .CAL_IDX_ITEM
  let i := s.fld .CAL_IDX_INDEX
  let bad := decide (item = 7 ∨ calCount item ≤ i)
  let busy := bitOf (s.fld .CAL_STAT_RUNNING) item
  if bad || busy then
    let s1 := if bad then s.setFlag .CAL_IDX_ERR true else s
    (if busy then s1.setFlag .CAL_IDX_BUSY true else s1).nextIndex
  else
    let e := v.toNat &&& calMask item
    (if item = 4 ∨ item = 5 then s.stageMgmt (.calibration false [(item, i, e)])
      else s.setCalEntry item i e).nextIndex

/-- CAL_DATA_ACCESS (R432, R433): a read of CAL_DATA, or a write of a value. -/
def execCalDataAccess (write : Option Word) (s : State) : Host.Outcome State Fault Refusal :=
  .next (match write with
    | some v => s.pf1Write fun s => s.calWrite v
    | none => s.barRead 1 fun s => s.calRead)

/-- The effect of a write of CAL_DLIST (R442). -/
def State.dlistClr (s : State) (v : Word) : State := if bitOf v.toNat 31 then s.stageClassB .driftClear else s

/-- CAL_DLIST_CLR (R442). -/
def execCalDlistClr (value : Word) (s : State) : Host.Outcome State Fault Refusal :=
  .next (s.pf1Write fun s => s.dlistClr value)

/-! ## Mailbox commands -/

/-- FLAT_ACQUIRE (R444, R446). -/
def execFlatAcquire (s : State) : Host.Outcome State Fault Refusal :=
  .next (s.mailbox 0x92 [(20, 8)] fun d s =>
    let mask := bytesAt d 20 4
    let n := bytesAt d 24 4
    if mask = 0 || 16 ≤ mask || !inRange 1 256 n then s.finishMbox .badDescriptor 0
    else if s.ownerLocked then s.finishMbox .sigFail 0
    else
      let a : Flat := { taps := (List.range 4).filter fun t => bitOf mask t, want := n, earliest := timeAfter s.tb 2000,
                        ticks := 0, used := 0, first := none, sums := [], late := [], ready := none, notify := s.waiting }
      { (s.startHead mboxSq).showItem 7 true with cal := { s.cal with flat := some a } })

/-- The values that a snapshot holds: items 0 to 4 and 6, and the drift list (R447). -/
def State.snapshotEntries (s : State) : Store Nat :=
  (s.cal.entries.filter fun e => e.1 / 2 ^ 20 != 5) ++ s.cal.drift.zipIdx.map fun e => (calKey 7 e.2, e.1)

/-- CAL_SNAPSHOT (R447). -/
def execCalSnapshot (s : State) : Host.Outcome State Fault Refusal :=
  .next (s.mailbox 0x91 [] fun _ s =>
    if s.nvmRefused then s.finishMbox .precondition 0
    else (s.startHead mboxSq).journalOpaque 4 (.snapshot s.snapshotEntries s.waiting))

end Sys2Proof.Machine
end

