-- ==== Sys2Proof/Machine/Security.lean ====
section
/-! DEFINITION. Identity, life cycle, owner keys, the configuration digest, attestation, and the NVM with its journal
(R501 to R505, R514, R515, R519 to R524). -/

namespace Sys2Proof.Machine

/-! ## The log of the journal -/

/-- JOURNAL_COMPACTION (R522). -/
def execJournalCompaction (dt : Nat) (s : State) : Host.Outcome State Fault Refusal :=
  let s := s.advance dt
  .next (if s.alive && s.nvm.jobs.isEmpty && !s.nvmRefused then s.compact else s)

/-! ## Program sequences -/

/-- What follows when a program sequence has ended; `seq` is the number of its record. -/
def State.nvmDone (s : State) (seq : Nat) (note : NvmNote) : State :=
  let t := s.takeNote note
  match note with
  | .faultRecord b =>
    let l := t.nvm.faults ++ [b]
    { t with nvm := { t.nvm with faults := l.drop (l.length - 4096) } }
  | .owner _ _ n => t.finishWaiting n .ok 0
  | .snapshot _ n => t.finishWaiting n .ok seq
  | .fwWrite len n => t.finishWaiting n .ok len
  | .moult _ => { t with nvm := { t.nvm with moultConsumed := false, ageCharged := some t.now } }
  | _ => t

/-- A program sequence has run to its end. The last of several erasures brings a record of the wear counters (R522). -/
def State.runJob (s : State) : NvmJob → State
  | .record type body note => (s.writeRecord type body note).nvmDone s.nvm.seq note
  | .chunk a data note => (s.writeNvm a data).nvmDone 0 note
  | .erase b =>
    let t := s.eraseBlock b
    match s.nvm.jobs with
    | .erase _ :: _ => t
    | _ => t.journalWear

/-- R393, R521: a sequence failed: its block is replaced by a reserve block, on which it runs again; with none left it is
abandoned, and a command that waits for it ends with PRECONDITION. -/
def State.jobFailed (s : State) (j : NvmJob) : State :=
  let s1 := (s.count .NVM_ERR_VALUE 1).raiseFast 7
  if s1.nvm.reserve = 0 then
    { s1 with nvm := { s1.nvm with jobs := s1.nvm.jobs.tail, noReserve := true } }.finishWaiting j.notify .precondition 0
  else { s1 with nvm := { s1.nvm with reserve := s1.nvm.reserve - 1, noReserve := s1.nvm.noReserve || s1.nvm.reserve == 1 } }

/-- NVM_PROGRAM_SEQUENCE_COMPLETE (R521, R522): the sequence under way ends, or fails in its block. -/
def execNvmProgramSequenceComplete (dt : Nat) (ok : Bool) (s : State) : Host.Outcome State Fault Refusal :=
  let s := s.advance dt
  .next (match s.nvm.jobs with
    | j :: rest =>
      if !s.alive then s
      else if ok then ({ s with nvm := { s.nvm with jobs := rest } }).runJob j
      else s.jobFailed j
    | [] => s)

/-! ## Identity -/

/-- The version of the image that a bank holds, 0 where it holds none verified (R504). -/
def State.bankVersion (s : State) (bank : Nat) : Nat :=
  let st := s.bankState bank
  if st = 2 ∨ st = 3 ∨ st = 4 then s.imageWord bank 4 else 0

/-- OWNER_ID (R504). -/
def State.ownerId (s : State) : List Byte :=
  if s.ownerEnrolled then (Config.sha3 ((s.nvm.owner.drop 16).take 1984)).toList else List.replicate 32 0

/-- The identity record (R504). -/
def State.identity (s : State) : List Byte :=
  leBytes 1 1 ++ leBytes 1 Config.variantBit ++ leBytes 1 Config.stepping.toNat ++ leBytes 1 s.nvm.lifecycle ++
    leBytes 8 Config.serial.toNat ++ (List.range 3).flatMap Config.dieId ++ leBytes 1 s.nvm.rollback ++
    leBytes 3 0 ++ leBytes 4 (s.imageWord (s.coachBank s.lead) 4) ++ leBytes 4 (s.bankVersion 0) ++
    leBytes 4 (s.bankVersion 1) ++ s.ownerId ++ List.replicate 32 0

/-- A command that writes bytes to its buffer: its descriptor is bad where LEN cannot hold them (R387). -/
def State.mboxWrite (s : State) (d bs : List Byte) (result : Nat) : State :=
  if bytesAt d 16 4 < bs.length then s.finishMbox .badDescriptor 0
  else (s.writeMem (bytesAt d 8 8) bs).finishMbox .ok result

/-- ID_READ (R504). -/
def execIdRead (s : State) : Host.Outcome State Fault Refusal :=
  .next (s.mailbox 0x81 [(8, 12)] fun d s => s.mboxWrite d s.identity 128)

/-- The certificate of a scheme, 0 Ed25519 or 1 ML-DSA-65 (R505). -/
def certificate (scheme : Nat) : List Byte :=
  (List.range (min (if scheme = 0 then 1024 else 8192) (Config.certLength scheme))).map fun i => Config.certByte scheme i

/-- CERT_READ (R505). -/
def execCertRead (s : State) : Host.Outcome State Fault Refusal :=
  .next (s.mailbox 0x82 [(8, 16)] fun d s =>
    let scheme := bytesAt d 20 4
    if 1 < scheme then s.finishMbox .badDescriptor 0
    else s.mboxWrite d (certificate scheme) (certificate scheme).length)

/-- An entry of the factory defect list (R101): column, row, class code of R99 and, for class 4, the tap. -/
structure FactDefect where
  x : Nat
  y : Nat
  cls : Nat
  tap : Option Nat
  deriving DecidableEq, Repr

/-- R101: entry `i` of the factory defect list, held in the journal's factory region in the layout of R185 (DEDUCED, log 49). -/
def State.factDefect (s : State) (i : Nat) : FactDefect :=
  let w := leNat (s.nvmRange (journalAt + Config.factDefectAt.val + 4 * i) 4)
  let cls := getBits w 31 29
  { x := getBits w 12 0, y := getBits w 24 13, cls := cls
    tap := if cls = 4 then (List.range 4).find? fun t => bitOf w (25 + t) else none }

/-- FACT_DEFECTS (R101, R393): ARG1 entries of the factory defect list from entry ARG0 on, as far as the list goes. -/
def execFactDefects (s : State) : Host.Outcome State Fault Refusal :=
  .next (s.mailbox 0x84 [(8, 12), (20, 8)] fun d s =>
    let first := bytesAt d 20 4
    let n := min (bytesAt d 24 4) (Config.factDefectCount.toNat - first)
    if bytesAt d 16 4 < 4 * n then s.finishMbox .badDescriptor 0
    else
      let (bs, t) := s.nvmRead (s.nvmRange (journalAt + Config.factDefectAt.val + 4 * first) (4 * n))
      t.mboxWrite d bs n)

/-- JOURNAL_READ (R393, R523). -/
def execJournalRead (s : State) : Host.Outcome State Fault Refusal :=
  .next (s.mailbox 0xA0 [(8, 16)] fun d s =>
    let off := bytesAt d 20 4
    let len := bytesAt d 16 4
    if journalEnd < off + len then s.finishMbox .badDescriptor 0
    else
      let (bs, t) := s.nvmRead (s.nvmRange (journalAt + off) len)
      (t.writeMem (bytesAt d 8 8) bs).finishMbox .ok len)

/-! ## The digest and attestation -/

/-- The digest in force: 32 free bytes before the device has formed one. -/
def State.digestNow (s : State) : List Byte × State :=
  if s.digest.value.isEmpty then
    let (v, t) := s.free
    ((List.range 32).map fun i => BitVec.ofNat 8 (Config.freeAt v i), t)
  else (s.digest.value, s)

/-- DIGEST_READ (R519). -/
def execDigestRead (s : State) : Host.Outcome State Fault Refusal :=
  .next (s.mailbox 0x8A [(8, 12)] fun d s =>
    let (bs, t) := s.digestNow
    t.mboxWrite d bs 32)

/-- DIGEST_EXPECT (R519). -/
def execDigestExpect (s : State) : Host.Outcome State Fault Refusal :=
  .next (s.mailbox 0x89 [(32, 32)] fun d s =>
    let e := (d.drop 32).take 32
    { s with digest := { s.digest with expected := if allZero e then none else some e } }.finishMbox .ok 0)

/-- FLAGS of a quote (R520). -/
def State.quoteFlags (s : State) : Nat :=
  boolNat s.ownerLocked + 2 * boolNat s.coach.trial.isSome + 4 * boolNat (s.flag .SEC_STAT_ALARM) +
    8 * boolNat (s.digest.expected.isSome && s.flag .SEC_STAT_DIGEST_MATCH)

/-- Bytes 0 to 319 of a quote (R520). -/
def State.quoteHead (s : State) (digest nonce : List Byte) : List Byte :=
  leBytes 4 0x51544F51 ++ leBytes 4 3693 ++ s.identity ++ s.measurement (s.coachBank s.lead) ++
    (if s.standbyServes then s.measurement (s.coachBank (1 - s.lead)) else List.replicate 32 0) ++ digest ++
    leBytes 6 s.lastTick ++ leBytes 2 s.quoteFlags ++ leBytes 8 s.tb.toNat ++ nonce ++ List.replicate 40 0

/-- QUOTE (R520). -/
def execQuote (s : State) : Host.Outcome State Fault Refusal :=
  .next (s.mailbox 0x83 [(8, 12), (32, 32)] fun d s =>
    if bytesAt d 16 4 < 3693 then s.finishMbox .badDescriptor 0
    else
      let (digest, t) := s.digestNow
      let head := t.quoteHead digest ((d.drop 32).take 32)
      (t.writeMem (bytesAt d 8 8) (head ++ (Config.ed25519Sign head).toList ++ (Config.mlDsaSign head).toList)).finishMbox
        .ok 3693)

/-! ## Owner keys and the life cycle -/

/-- R514, R515: does a record release the owner? -/
def ownerRelease (b : List Byte) : Bool := allZero ((b.drop 16).take 1984)

/-- R514: the form of an owner key record. -/
def ownerForm (b : List Byte) : Bool :=
  bytesAt b 0 4 == 0x4F574B52 && bytesAt b 8 1 < 2 && allZero ((b.drop 9).take 7) && allZero ((b.drop 2000).take 48) &&
    !(ownerRelease b && bytesAt b 8 1 != 0)

/-- R514, R515: is a record accepted? The record in force, whose SEQ it must exceed, may be a release (R522). -/
def State.ownerAccepted (s : State) (b : List Byte) : Bool :=
  let key := if s.ownerEnrolled then s.nvm.owner else b
  ownerForm b && (s.ownerEnrolled || !ownerRelease b) &&
    s.nvm.ownerSeq.all (fun n => decide (n < bytesAt b 4 4)) &&
    Config.ed25519Verify ((key.drop 16).take 32) (b.take 2048) ((b.drop 2048).take 64) &&
    Config.mlDsaVerify ((key.drop 48).take 1952) (b.take 2048) ((b.drop 2112).take 3309)

/-- OWNER_ENROLL (R514, R515). -/
def execOwnerEnroll (data : Option (List Byte)) (s : State) : Host.Outcome State Fault Refusal :=
  .next (s.mailbox 0x88 [(8, 12)] fun d s =>
    if bytesAt d 16 4 < 5421 then s.finishMbox .badDescriptor 0
    else if s.nvmRefused then s.finishMbox .precondition 0
    else match data with
      | none => (s.readFailed 1).finishMbox .badDescriptor 0
      | some bs =>
        let b := padTo 5421 bs
        if s.ownerAccepted b then
          (s.startHead mboxSq).journal 7 b
            (.owner (if ownerRelease b then [] else b.take 2048) (bytesAt b 4 4) s.waiting)
        else s.finishMbox .sigFail 0)

/-- R502: the transitions that LIFECYCLE permits. -/
def State.transitionOk (s : State) (t : Nat) : Bool :=
  match s.nvm.lifecycle, t with
  | 2, 3 => true
  | 3, 4 => !s.ownerEnrolled
  | 2, 5 | 3, 5 | 4, 5 => !s.ownerEnrolled
  | _, _ => false

/-- R497, R503: do the rights in force grant the scan engine and Coachman debug through JTAG? -/
def State.jtagGranted (s : State) : Bool := s.nvm.rights == 1 || s.nvm.rights == 4

/-- R497, R503: where the rights in force deny the scan engine and Coachman debug, an access taken before ends. -/
def State.endAccess (s : State) : State :=
  if s.jtagGranted then s
  else match s.jtag with
    | .scanAccess | .debugAccess => { s with jtag := .bypass }
    | _ => s

/-- The life-cycle fuses are burned (R501, R502): SCRAPPED erases the identity private keys and takes its rights away at
once. -/
def State.burn (s : State) (t : Nat) : State :=
  if t = 5 then ({ s with nvm := { s.nvm with lifecycle := 5, rights := 5, keysErased := true } }).endAccess
  else { s with nvm := { s.nvm with lifecycle := t } }

/-- LIFECYCLE (R502). -/
def execLifecycle (s : State) : Host.Outcome State Fault Refusal :=
  .next (s.mailbox 0x8B [(20, 4)] fun d s =>
    if s.coldRefused then s.finishMbox .precondition 0
    else if s.transitionOk (bytesAt d 20 4) then (s.burn (bytesAt d 20 4)).finishMbox .ok 0
    else s.finishMbox .lifecycleDenied 0)

/-! ## Alarms -/

/-- SEC_ALARM (R524). -/
def execSecAlarm (dt : Nat) (s : State) : Host.Outcome State Fault Refusal :=
  let s := s.advance dt
  .next (if s.alive then ((s.count .SEC_ALARM_CNT_VALUE 1).setFlag .SEC_STAT_ALARM true).raiseFast 15 else s)

end Sys2Proof.Machine
end

