-- ==== Sys2Proof/Machine/Sideband.lean ====
section
/-! DEFINITION. The I3C target on the sideband pins (R525) and the JTAG port (R497, R502, R503, R543). What a read
returns stands in `rbytes`. -/

namespace Sys2Proof.Machine

/-! ## I3C -/

/-- R525: does the target answer at all? -/
def State.i3cOn (s : State) : Bool := !s.inReset && !s.off

/-- Does the target answer a private transfer or a directed code? It holds a dynamic address. -/
def State.i3cAddressed (s : State) : Bool := s.i3cOn && s.i3c.addr.isSome

/-- A transfer to the target's dynamic address. -/
def State.i3cDirect (s : State) (f : State → State) : State := if s.i3cAddressed then f s else s

/-- A private command; in SCRAPPED only ID is answered (R525). -/
def State.i3cPrivate (s : State) (f : State → State) : State :=
  if s.i3cAddressed && s.nvm.rights != 5 then f s else s

/-- A read of the target returns bytes. -/
def State.i3cAnswer (s : State) (bs : List Byte) : State := { s with rbytes := bs }

/-- ENTDAA (R525): a target without a dynamic address takes one. -/
def execEntdaa (addr : BitVec 7) (s : State) : Host.Outcome State Fault Refusal :=
  .next (if s.i3cOn && s.i3c.addr.isNone then { s with i3c := { s.i3c with addr := some addr } } else s)

/-- SETDASA to the static address 0x4A (R525). -/
def execSetdasa (addr : BitVec 7) (s : State) : Host.Outcome State Fault Refusal :=
  .next (if s.i3cOn && s.i3c.addr.isNone then { s with i3c := { s.i3c with addr := some addr } } else s)

/-- RSTDAA (R525): the dynamic address is given up. -/
def execRstdaa (s : State) : Host.Outcome State Fault Refusal :=
  .next (if s.i3cOn then { s with i3c := { s.i3c with addr := none } } else s)

/-- GETPID (R525): 6 bytes, most significant first. -/
def execGetpid (s : State) : Host.Outcome State Fault Refusal :=
  .next (s.i3cDirect fun s => s.i3cAnswer (leBytes 6 Config.i3cPid.toNat).reverse)

/-- GETBCR (R525). -/
def execGetbcr (s : State) : Host.Outcome State Fault Refusal :=
  .next (s.i3cDirect fun s => s.i3cAnswer [Config.i3cBcr])

/-- GETDCR (R525). -/
def execGetdcr (s : State) : Host.Outcome State Fault Refusal :=
  .next (s.i3cDirect fun s => s.i3cAnswer [Config.i3cDcr])

/-- GETSTATUS (R525): 2 bytes that the spec leaves open. -/
def execGetstatus (s : State) : Host.Outcome State Fault Refusal :=
  .next (s.i3cDirect fun s =>
    let (v, t) := s.free
    t.i3cAnswer (leBytes 2 v))

/-- GETMRL (R525): 2 bytes, most significant first. -/
def execGetmrl (s : State) : Host.Outcome State Fault Refusal :=
  .next (s.i3cDirect fun s => s.i3cAnswer (leBytes 2 Config.i3cMrl.toNat).reverse)

/-- GETMWL (R525): 2 bytes, most significant first. -/
def execGetmwl (s : State) : Host.Outcome State Fault Refusal :=
  .next (s.i3cDirect fun s => s.i3cAnswer (leBytes 2 Config.i3cMwl.toNat).reverse)

/-- ENEC (R525): events are enabled. -/
def execEnec (events : Byte) (s : State) : Host.Outcome State Fault Refusal :=
  .next (if s.i3cOn then { s with i3c := { s.i3c with events := s.i3c.events ||| events } } else s)

/-- DISEC (R525): events are disabled. -/
def execDisec (events : Byte) (s : State) : Host.Outcome State Fault Refusal :=
  .next (if s.i3cOn then { s with i3c := { s.i3c with events := s.i3c.events &&& ~~~events } } else s)

/-- I3C_ID (R525), answered in every life-cycle state. -/
def execI3cId (s : State) : Host.Outcome State Fault Refusal :=
  .next (s.i3cDirect fun s => s.i3cAnswer (leBytes 1 Config.variantBit ++ leBytes 1 Config.stepping.toNat ++
    leBytes 1 s.nvm.lifecycle ++ leBytes 1 0 ++ leBytes 8 Config.serial.toNat ++ leBytes 4 s.cfgTag.toNat))

/-- I3C_STATUS (R525). -/
def execI3cStatus (s : State) : Host.Outcome State Fault Refusal :=
  .next (s.i3cPrivate fun s => s.i3cAnswer (leBytes 1 (s.fld .PWR_STATE_STATE) ++ leBytes 1 (s.fld .HIF_READY_READY) ++
    leBytes 1 (s.fld .HIF_STAT_RUNNING) ++ leBytes 1 (s.reg Reg.THM_STAT).toNat ++ leBytes 2 (s.fld .THM_HOT_TEMP) ++
    leBytes 1 s.nvm.shutCause ++ leBytes 1 (s.fld .BIST_STAT_DEV_FAIL)))

/-- I3C_TEMPS (R525). -/
def execI3cTemps (s : State) : Host.Outcome State Fault Refusal :=
  .next (s.i3cPrivate fun s => s.i3cAnswer ((List.range 12).flatMap fun n => leBytes 2 (s.fld (.THM_SITE_TEMP n))))

/-- I3C_TICK (R525). -/
def execI3cTick (s : State) : Host.Outcome State Fault Refusal :=
  .next (s.i3cPrivate fun s =>
    s.i3cAnswer (leBytes 6 s.lastTick ++ leBytes 4 s.cfgTag.toNat ++ leBytes 4 (s.fld .HIF_GEN_GEN)))

/-- The newest fault record, 32 bytes of 0 where there is none. -/
def State.newestFault (s : State) : List Byte := s.nvm.faults.getLast?.getD (List.replicate 32 0)

/-- I3C_FAULT (R525). -/
def execI3cFault (s : State) : Host.Outcome State Fault Refusal :=
  .next (s.i3cPrivate fun s => s.i3cAnswer (leBytes 4 (bytesAt s.newestFault 0 4) ++ s.newestFault))

/-- I3C_WAKE (R465, R525). -/
def execI3cWake (s : State) : Host.Outcome State Fault Refusal :=
  .next (s.i3cPrivate fun s => s.wakeFires .i3c)

/-- I3C_REQUEST (R392, R465, R525): a request on the sideband raises source 42, and wakes the device where I3C may. -/
def execI3cRequest (arg : Word) (s : State) : Host.Outcome State Fault Refusal :=
  .next (s.i3cPrivate fun s => ((s.setReg Reg.SEC_I3C_REQ arg).raise 42).wakeFires .i3c)

/-! ## JTAG -/

/-- The 32 bits of IDCODE (R543). -/
def idcodeWord : Nat :=
  Config.idcodeLow.toNat + 2 ^ 12 * 0x8150 + 2 ^ 28 * (Config.stepping.toNat % 16)

/-- R502: the transitions that the factory makes through JTAG. -/
def State.factoryOk (s : State) (t : Nat) : Bool :=
  (s.nvm.lifecycle == 0 && t == 1) || (s.nvm.lifecycle == 1 && t == 2)

/-- R537: does TDO drive? It is high-Z in reset and in OFF, and outside the Shift-DR and Shift-IR states. -/
def State.tdoDriven (s : State) : Bool := s.alive && (s.tap == .shiftDr || s.tap == .shiftIr)

/-- An instruction is in force at the JTAG port: the tester has raised TRST_N and shifted it in, and the port is idle
(log 50). -/
def State.jtagTakes (s : State) (i : JtagIns) : State := { s with jtag := i, tap := .runTestIdle }

/-- IDCODE: its register shifts out at TDO, where TDO drives (R537, R543). -/
def State.idcodeOut (s : State) : State :=
  let t := s.jtagTakes .idcode
  if ({ t with tap := .shiftDr }).tdoDriven then { t with rdata := BitVec.ofNat 32 idcodeWord } else t

/-- JTAG_INSTRUCTION (R497, R502, R503, R543): an instruction that the life-cycle state does not grant selects BYPASS. -/
def execJtagInstruction (ins : JtagIns) (s : State) : Host.Outcome State Fault Refusal :=
  .next (match ins with
    | .idcode => s.idcodeOut
    | .bypass => s.jtagTakes .bypass
    | .sample => s.jtagTakes .sample
    | .extest => s.jtagTakes .extest
    | .scanAccess => s.jtagTakes (if s.jtagGranted then .scanAccess else .bypass)
    | .debugAccess => s.jtagTakes (if s.jtagGranted then .debugAccess else .bypass)
    | .factoryTransition t =>
      if s.factoryOk t.val then (s.burn t.val).jtagTakes (.factoryTransition t) else s.jtagTakes .bypass)

end Sys2Proof.Machine
end

