-- ==== Sys2Proof/Machine/Start.lean ====
section
/-! DEFINITION. Reset, the start-up and the Moult (R334, R460, R483, R484, R492 to R497, R507, R508, R512, R533 to R535).
A start and a Moult are told which signatures and memory rows failed, as numbers: k below 17 is the shared signature of
partition k (16 is partition C); 17 + class × 2^20 + unit is a unit signature; 2^30 + 1,024 × instance + row is a row of a
memory; 2^44 more says that the test was incomplete (R491); and 2^45 says that a read of the NVM at the start failed (R393). -/

namespace Sys2Proof.Machine

/-! ## Reset -/

/-- The pins that are inputs only: TRIG_IN and TSYNC_IN. -/
def inputPin (n : Nat) : Bool := n < 4 || n == 16

/-- The WV_IO pins that stand high from outside. -/
def State.wvHigh (s : State) : Store WvPin := s.wvPins.filter fun p => p.2.outside

/-- RESET_N or a brownout resets the whole device (R334, R533, R535). What is kept is time, the NVM and the fuses, the
levels at the input pins and the edges of the synchroniser, what the device has already sent, and the TAP, which has a
reset of its own. The rights of the life-cycle state apply from here on (R502). -/
def State.reboot (s : State) : State :=
  { State.reset with
    now := s.now, freeCtr := s.freeCtr, hostMem := s.hostMem, sent := s.sent, rdata := s.rdata, rbytes := s.rbytes
    mboxGen := s.mboxGen + 1, resetN := s.resetN, railLow := s.railLow, jtag := s.jtag, tap := s.tap, pending := s.pending
    pins := (s.pins.filter fun p => inputPin p.1) ++ s.wvHigh.map fun p => (64 + p.1, true)
    wvPins := s.wvHigh.map fun p => (p.1, { WvPin.init with outside := true })
    pcie := { State.reset.pcie with perst := s.pcie.perst }
    tbu := { State.reset.tbu with syncSeen := s.tbu.syncSeen, syncEdges := s.tbu.syncEdges }
    nvm := { s.nvm with
      jobs := [], cold := [], rights := s.nvm.lifecycle
      actAtStart := if s.inReset then s.nvm.actAtStart else s.flag .SEC_FW_CFG_ACT_AT_START } }

/-- A reset: it cuts off the program sequence under way (R522), and an access through JTAG that the rights deny from here on
(R497, R503). -/
def State.resetAll (s : State) : State := s.cutJob.reboot.endAccess

/-- RESET_N_ASSERT (R535): RESET_N has been low for 1 µs. -/
def execResetNAssert (dt : Nat) (s : State) : Host.Outcome State Fault Refusal :=
  let s := s.advance dt
  .next ({ s with resetN := false }).resetAll

/-- BROWNOUT (R533): a rail has been below 92 % of nominal for 1 µs. -/
def execBrownout (dt : Nat) (s : State) : Host.Outcome State Fault Refusal :=
  let s := s.advance dt
  .next ({ s with railLow := true }).resetAll

/-- RAIL_FAULT (R393, R533). -/
def execRailFault (dt : Nat) (s : State) : Host.Outcome State Fault Refusal :=
  let s := s.advance dt
  .next (if s.alive then s.raiseFast 11 else s)

/-! ## The spare map -/

/-- R483: the RETIRED states of these classes end with RESET_N. -/
def forgetsRetired (cls : Nat) : Bool := cls == 9 || cls == 10 || cls == 12 || cls == 13

/-- A unit as the map restores it: retired, or in the role that it holds, or in stock. -/
def State.mapUnit (s : State) (key : Nat) : UnitInfo :=
  let cls := key / 2 ^ 20
  let u := key % 2 ^ 20
  if decide ((s.nvm.mapUnits.get unitHome key).state = .retired) && !forgetsRetired cls then ⟨.retired, none⟩
  else match s.spares.holder.find? fun e => e.1 / 2 ^ 20 == cls && e.2 == u with
    | some e => ⟨.inRole, some (e.1 % 2 ^ 20)⟩
    | none =>
      match homeRole cls u with
      | some r => if s.holder cls r = u then ⟨.inRole, some r⟩ else ⟨.stock, none⟩
      | none => ⟨.stock, none⟩

/-- R483: the role assignments and the retirements of the journal's map are restored; epochs start at 0. -/
def State.restoreMap (s : State) : State :=
  let h := s.nvm.mapHolder.filter fun e => !forgetsRetired (e.1 / 2 ^ 20)
  let s1 := { s with spares := { Spares.init with holder := h, kept := s.nvm.mapKept } }
  let keys := s.nvm.mapUnits.map (·.1) ++ h.map (fun e => unitKey (e.1 / 2 ^ 20) e.2) ++
    h.map fun e => unitKey (e.1 / 2 ^ 20) (homeUnit (e.1 / 2 ^ 20) (e.1 % 2 ^ 20))
  { s1 with spares := { s1.spares with
      units := keys.foldl (fun m k => Store.set unitHome m k (s1.mapUnit k)) [] } }

/-- The roles of classes 0 to 8 whose holder is retired. -/
def State.emptyRoles (s : State) : List (Nat × Nat × Nat) :=
  (s.spares.units.filter fun e => decide (e.2.state = .retired) && e.1 / 2 ^ 20 ≤ 8).flatMap fun e =>
    let cls := e.1 / 2 ^ 20
    let u := e.1 % 2 ^ 20
    let moved := (s.spares.holder.filter fun h => h.1 / 2 ^ 20 == cls && h.2 == u).map fun h => (cls, h.1 % 2 ^ 20, u)
    match homeRole cls u with
    | some r => if s.holder cls r = u then (cls, r, u) :: moved else moved
    | none => moved

/-- R496: roles left without a unit are filled from stock before the first edge, or are served under R480. A Weevil role that
stayed on its engine after WV_MISS stays on it again. Every role starts at epoch 0 (R483). -/
def State.fillRoles (s : State) : State :=
  let s1 := s.emptyRoles.foldl (fun s e =>
    if s.spares.queue.any (fun (q : Subst) => q.cls == e.1 && q.role == e.2.1) then s
    else s.seekSpare e.1 e.2.1 e.2.2 (.fault (if e.1 = 8 && s.spares.kept.contains e.2.1 then 6 else 13))) s
  s1.spares.queue.foldl (fun s q => match q.new with
    | some u => s.applyNewHolder q u 0
    | none => s.applyNoSpare q) (s1.setQueue [])

/-! ## Test results -/

/-- What a result of the tests names. -/
inductive Failure where
  | shared (partition : Nat)
  | unit (cls u : Nat)
  | row (n : Nat)
  deriving DecidableEq, Repr

/-- A result and whether its test was incomplete. -/
def decodeResult (r : Nat) : Failure × Bool :=
  let k := r % 2 ^ 44
  (if k < 17 then .shared k
    else if k < 2 ^ 30 then .unit ((k - 17) / 2 ^ 20) ((k - 17) % 2 ^ 20)
    else .row (k - 2 ^ 30), 2 ^ 44 ≤ r)

/-- R492: the partition that holds a unit's signature; none for a unit without one. -/
def unitPartition (cls u : Nat) : Option Nat :=
  match cls with
  | 2 => some 16
  | 4 => some (if u ≤ 4 then 2 else 3)
  | 5 => if u = 0 then none else some 4
  | 6 => some (if u ≤ 8 then 6 else 7)
  | 7 => some 8
  | 8 => some 10
  | 9 => some 12
  | 10 => some (if u = 0 then 14 else 15)
  | _ => none

/-- BIST_STAT.FAIL marks a partition. -/
def State.markPartition (s : State) (p : Nat) : State :=
  s.setFld .BIST_STAT_FAIL (putBit (s.fld .BIST_STAT_FAIL) p true)

/-- R491: a signature of a full start that ran too few patterns, how many being a free value: it is INCOMPLETE, and charges
nothing. -/
def State.signatureCut (s : State) (f : Failure) : State :=
  let (v, s1) := s.free
  let note (cls unit : Nat) : State :=
    s1.faultRecord ⟨7, cls, 0, .incomplete, 0, 0xFFFFFFFF, unit, v % s.fld .BIST_PATTERNS_COUNT⟩
  match f with
  | .shared p => note 0xFF p
  | .unit cls u => note cls u
  | .row _ => s

/-- R496: one failed signature of a full start. -/
def State.signatureFailed (s : State) : Failure → State
  | .shared p =>
    ((s.markPartition p).setFlag .BIST_STAT_DEV_FAIL true).faultRecord
      ⟨7, 0xFF, 0, .ok, 0, 0xFFFFFFFF, p, s.fld .BIST_PATTERNS_COUNT⟩
  | .unit cls u =>
    match unitPartition cls u with
    | some p => (s.markPartition p).charge 13 (unitKey cls u)
    | none => s
  | .row _ => s

/-- R484, R496: a memory row that fails is spared, and charges the unit that owns its memory where no spare row is left. -/
def State.rowFailed (s : State) (n : Nat) : State :=
  if (s.unitInfo 11 n).state = .retired then s
  else if s.retiredRows (n / 1024) < 2 then
    (s.setUnit 11 n ⟨.retired, none⟩).count (.SPR_CLASS_USE_SUBST 11) 1
  else s.rowAlone n 0

/-- R496: a retired row that passes the memory test returns to stock. -/
def State.rowPassed (s : State) (n : Nat) : State :=
  (s.setUnit 11 n ⟨.stock, none⟩).faultRecord ⟨5, 11, 0, .ok, 0, 0xFFFFFFFF, n, 0⟩

/-- The memory test of a start; `bad` are the rows that fail. -/
def State.memoryTest (s : State) (bad : List Nat) : State :=
  let back := (s.spares.units.filter fun e =>
    e.1 / 2 ^ 20 == 11 && decide (e.2.state = .retired) && !bad.contains (e.1 % 2 ^ 20)).map (·.1 % 2 ^ 20)
  bad.foldl (fun s n => s.rowFailed n) (back.foldl (fun s n => s.rowPassed n) s)

/-! ## The start -/

/-- R494: the state of the age timer: unexpired for 64 h, expired after 80 h, and a free value between. -/
def State.ageOk (s : State) : Bool × State :=
  match s.nvm.ageCharged with
  | none => (false, s)
  | some t =>
    if s.now - t < 64 * 3600000000000 then (true, s)
    else if 80 * 3600000000000 ≤ s.now - t then (false, s)
    else let (v, s1) := s.free; (v % 2 == 0, s1)

/-- R495: is a start quick? -/
def State.quickStart (s : State) (ageOk : Bool) : Bool :=
  s.nvm.moult == 1 && !s.nvm.moultConsumed && ageOk && !s.nvm.fullNext && (s.nvm.rights == 2 || s.nvm.rights == 3)

/-- R480, R483: the engines that the spare map names serve their roles from the start; a role left without one is halted. -/
def State.seatEngines (s : State) : State :=
  (List.range 16).foldl (fun s r =>
    if s.roleLost 8 r then s.haltLost r else if s.holder 8 r = (s.wvRole r).engine then s else s.moveRole r false) s

/-- R512: a bank that was in a trial when the reset came is rejected. -/
def State.endTrial (s : State) : State :=
  [0, 1].foldl (fun s b => if s.bankState b = 4 then s.setBank b 5 else s) s

/-- The Coachman that leads after a start: A, unless it is retired. -/
def State.firstLead (s : State) : Nat := if (s.unitInfo 10 0).state = .retired then 1 else 0

/-- R507, R508, R512: the boot code checks the confirmed image and starts the Coachmen on it; where ACT_AT_START asks for
it, the lead starts on a verified inactive bank, as a trial. -/
def State.bootCoachmen (s : State) : State :=
  let b := s.nvm.confirmed
  let r := s.imageReason b
  let lead := s.firstLead
  let s1 := if r = 0 then s else s.setFld .SEC_FW_STAT_REASON r
  if r != 0 || (s.unitInfo 10 lead).state = .retired then s1
  else
    let s2 := (s1.setFld .SEC_STAT_LEAD lead).setHolder 10 0 lead
    let s3 := { s2 with coach := { s2.coach with started := true, bankA := b, bankB := b } }
    if s.nvm.actAtStart && s.bankState (1 - b) == 2 then
      let r2 := s3.imageReason (1 - b)
      if r2 = 0 then
        let s4 := (s3.bootCoach lead (1 - b)).setBank (1 - b) 4
        { s4 with coach := { s4.coach with trial := some s4.now } }
      else (s3.setFld .SEC_FW_STAT_REASON r2).setBank (1 - b) 5
    else s3

/-- R460: the cause of a thermal shutdown goes to the journal at the start that follows it. -/
def State.noteShutdown (s : State) : State :=
  if s.coach.started && s.nvm.shutCause != 0 && !s.nvm.shutNoted then
    ({ s with nvm := { s.nvm with shutNoted := true } }).journalOpaque 9
      (.shutdown s.nvm.shutCause s.nvm.shutCut s.nvm.shutTemp)
  else s

/-- R393: a read of the NVM at a start fails, and is repeated: fast source NVM_FAULT is raised (log 49). -/
def State.startReads (s : State) (failed : Bool) : State := if failed then s.raiseFast 7 else s

/-- The device leaves reset, reads its journal and runs its start-up tests (R393, R495, R496, R533). -/
def State.start (s : State) (all : List Nat) : State :=
  let results := all.filter (· != 2 ^ 45)
  let s0 := s.readJournal
  let s1 := { s0 with inReset := false, startAt := s.now, nvm := { s0.nvm with boot := (s.nvm.boot + 1) % 2 ^ 16 } }
  let (age, s2) := s1.ageOk
  let quick := s2.quickStart age
  let s3 := (((s2.setFlag .BIST_STAT_QUICK quick).setFlag .BIST_STAT_AGE_OK age).setFlag .HIF_READY_FULL
    (!quick)).setFlag .BIST_CTL_FULL_NEXT s2.nvm.fullNext
  let s4 := { s3 with nvm := { s3.nvm with moultConsumed := s3.nvm.moultConsumed || s3.nvm.moult != 0 } }.restoreMap
  let fails := (results.filter fun r => !(decodeResult r).2).map fun r => (decodeResult r).1
  let cut := (results.filter fun r => (decodeResult r).2).map fun r => (decodeResult r).1
  let s5 := s4.memoryTest (fails.filterMap fun f => match f with
    | .row n => some n
    | _ => none)
  let s6 := if quick then s5
    else (cut.foldl (fun s f => s.signatureCut f) (fails.foldl (fun s f => s.signatureFailed f) s5)).setFld .BIST_PATCNT_COUNT (s5.fld .BIST_PATTERNS_COUNT)
  let s7 := ([1, 2, 3].foldl (fun s n => s.showPipe n) s6.fillRoles).seatEngines
  let s8 := if s7.pcie.perst then s7 else { s7 with pcie := { s7.pcie with link := .training } }
  ((s8.endTrial.bootCoachmen.noteShutdown).startReads (all.contains (2 ^ 45))).settlePins

/-- RESET_N_RELEASE (R495, R534): RESET_N rises; while a rail is low the device stays in reset. -/
def execResetNRelease (dt : Nat) (results : List Nat) (s : State) : Host.Outcome State Fault Refusal :=
  let s := s.advance dt
  .next (if s.resetN then s
  else
    let t := { s with resetN := true }
    if t.railLow then t else t.start results)

/-- BROWNOUT_RESET_EXIT (R533): every rail has been back for 1 ms; while RESET_N is low the device stays in reset. -/
def execBrownoutResetExit (dt : Nat) (results : List Nat) (s : State) : Host.Outcome State Fault Refusal :=
  let s := s.advance dt
  .next (if s.railLow then
    let t := { s with railLow := false }
    if t.resetN then t.start results else t
  else s)

/-! ## The clean shutdown and the Moult -/

/-- R493: a clean shutdown is asked for: the sequencer stops. A sleep that was asked for gives way to it. -/
def State.askShutdown (s : State) : State :=
  if s.nvm.rights = 0 ∨ s.nvm.rights = 5 ∨ s.thermal.trip.isSome then s
  else
    let n := s.power.request.bind (·.notify)
    let s1 := s.finishWaiting n .precondition 0
    let s2 := { s1 with power := { s1.power with request := some ⟨3, none⟩, waking := false } }
    (if s2.run then s2.stopRun else s2).setFlag .PWR_STATE_PENDING true

/-- A write of BIST_CTL (R493, R500). -/
def State.bistCtl (s : State) (v : Nat) : State :=
  let b := bitOf v 16
  let s1 := if s.flag .BIST_CTL_FULL_NEXT = b then s
    else (s.setFlag .BIST_CTL_FULL_NEXT b).journalOpaque 8 (.fullNext b)
  if getBits v 15 0 = 0x4D4F then s1.askShutdown else s1

/-- BIST_SHUTDOWN (R493): a write of BIST_CTL. -/
def execBistShutdown (value : Word) (s : State) : Host.Outcome State Fault Refusal :=
  .next (s.pf1Write fun s => s.bistCtl value.toNat)

/-- Every Weevil role drives its SAFE levels, and its engine stops. -/
def State.allSafe (s : State) : State :=
  ((List.range 16).foldl (fun s r =>
    (s.modWv r fun w => { w with safe := w.loaded }).stopEngine (s.wvRole r).engine) s.raiseSafe).driveAll

/-- MOULT_START (R493): the device writes the entries held if it can, drives its Weevil pins SAFE, takes the link down and
begins the Moult. -/
def execMoultStart (dt : Nat) (s : State) : Host.Outcome State Fault Refusal :=
  let s := s.advance dt
  .next (if s.alive && (s.power.request.map (·.target)) == some 3 && s.settled && s.thermal.trip.isNone then
    let s1 := (s.flushAll.abortTests).setFlag .PWR_STATE_PENDING false
    let s2 := if s1.coldRefused then s1 else s1.releaseCold
    let s3 := { s2 with power := { request := none, waking := false, moulting := true } }
    s3.allSafe.linkReset .down s3.pcie.perst
  else s)

/-- R491, R494: what results come to: 1 PASS, 2 FAIL, 3 INCOMPLETE. -/
def moultVerdict (results : List Nat) : Nat :=
  if results.isEmpty then 1 else if results.any fun r => !(decodeResult r).2 then 2 else 3

/-- The partition whose signatures hold that of a result (R492). -/
def resultPartition (r : Nat) : Option Nat :=
  match (decodeResult r).1 with
  | .shared p => some p
  | .unit cls u => unitPartition cls u
  | .row _ => none

/-- R494: the record of a Moult: the signatures that did not pass, each with whether it was incomplete, the patterns run,
and the verdicts of the 17 partitions and of the whole. -/
def moultRecord (patterns : Nat) (results : List Nat) : MoultRecord :=
  { verdict := moultVerdict results, results := results, patterns := patterns
    partitions := (List.range 17).map fun p => moultVerdict (results.filter fun r => resultPartition r == some p) }

/-- Every program sequence that is queued runs to its end, with those that it brings. `fuel` bounds their number. -/
def State.runJobs : Nat → State → State
  | 0, s => s
  | fuel + 1, s => match s.nvm.jobs with
    | [] => s
    | j :: rest => State.runJobs fuel ({ s with nvm := { s.nvm with jobs := rest } }.runJob j)

/-- The record of a Moult that did not pass (R498). -/
def State.moultFault (s : State) (v patterns : Nat) : State :=
  if v = 1 then s
  else s.faultRecord ⟨6, 0xFF, 0, if v = 3 then .incomplete else .ok, 0, 0xFFFFFFFF, 0, patterns⟩

/-- The patterns that a Moult has run: COUNT, or fewer, how many being a free value, where a signature was incomplete (R491). -/
def State.moultPatterns (s : State) (results : List Nat) : Nat × State :=
  let n := s.fld .BIST_PATTERNS_COUNT
  if results.any fun r => (decodeResult r).2 then let (v, t) := s.free; (v % n, t) else (n, s)

/-- MOULT_COMPLETE (R493, R494): the record is committed, the age timer charged, and the device enters OFF. While the NVM
refuses program sequences there is no record (R461). -/
def execMoultComplete (dt : Nat) (results : List Nat) (s : State) : Host.Outcome State Fault Refusal :=
  let s := s.advance dt
  .next (if s.alive && s.power.moulting && s.thermal.trip.isNone then
    let v := moultVerdict results
    if s.coldRefused then s.goOff
    else
      let (patterns, s0) := s.moultPatterns results
      let s1 := (s0.setFld .BIST_PATCNT_COUNT patterns).moultFault v patterns
      let s2 := s1.journalOpaque 3 (.moult (moultRecord patterns results))
      (State.runJobs (2 * s2.nvm.jobs.length + 8) s2).goOff
  else s)

end Sys2Proof.Machine
end

