-- ==== Sys2Proof/Machine/RegWrite.lean ====
section
/-! DEFINITION. REGISTER_WRITE: a write of the host to any register of the BARs and of configuration space (R8, R18, R319,
R335, R336, R367, R372), each by the rules of its register. -/

namespace Sys2Proof.Machine

/-! ## Settings -/

/-- R18: a direct write of a setting that STAGE_REG may name, while the device is stopped and not owner-locked: the
register takes the value at once, and its pins follow. WV_SWAP swaps programs, and BG_RESET asks for its reset at the next
edge. A write of EXP_TICK_SRC with SRC 3 is discarded whole (log 40); an FF_CFG with MODE 3, with TRAIL above 400 or
with LEAD above 10,000 is stored (DESIGN CHOICE, log 40). -/
def State.settingWrite (s : State) (a : Nat) (v : Word) : State :=
  if a = Reg.WV_SWAP then
    (List.range 16).foldl (fun s r =>
      if bitOf v.toNat r then (s.toggleBank (tableKey (0x40 + r) 0)).swapProgram r (bitOf v.toNat (16 + r)) else s) s
  else if a = Reg.EXP_TICK_SRC ∧ getBits v.toNat 1 0 = 3 then s
  else (s.takeSetting s.nextTick a v).settleShares.settlePins

/-- R372: a write that an owner-locked device discards and counts. -/
def State.unlessOwned (s : State) (f : State → State) : State :=
  if s.ownerLocked then s.count .HIF_WR_DISCARD_DISCARD 1 else f s

/-! ## The blocks of PF0 BAR0 -/

/-- A write of HIF_HOST_POLICY (R52). -/
def State.policyWrite (s : State) (v : Nat) : State :=
  let s1 := if getBits v 1 0 = 3 then s else s.setFld .HIF_HOST_POLICY_POLICY (getBits v 1 0)
  s1.setFlag .HIF_HOST_POLICY_ROW (bitOf v 4)

/-- A write to the HIF block beside its stageable registers (R52, R76, R130, R337). -/
def State.hifWrite (s : State) (a : Nat) (v : Word) : State :=
  if a = Reg.HIF_RUN then (if bitOf v.toNat 0 then s.startRun else s.stopRun)
  else if a = Reg.HIF_HOST_POLICY then s.policyWrite v.toNat
  else if a = Reg.HIF_MODE_INIT then s.unlessOwned fun s => s.whileStopped fun s => s.plainWriteReg a v
  else if a = Reg.HIF_CNT_CLR then s.cntClr v
  else if a = Reg.HIF_OVL_CLR then s.ovlClr v
  else if a = Reg.HIF_EXP_CLR then s.expClr v
  else if a = Reg.HIF_RO_CLR then s.roClr v
  else if a = Reg.HIF_CSX_CLR then s.csxClr v
  else if a = Reg.HIF_PIPE_CLR then s.pipeClr v
  else if a = Reg.HIF_TRK_CLR then s.trkClr v
  else if a = Reg.HIF_EJ_CLR then s.ejClr v
  else if a = Reg.HIF_WV_CLR then s.wvClr v
  else if a = Reg.HIF_PCIE_CLR then s.pcieClr v.toNat
  else if a = Reg.HIF_LINK_CFG then s.linkCfgWrite v.toNat
  else s.plainWriteReg a v

/-- A write to the compare units (R299, R311). -/
def State.cmpWrite (s : State) (a : Nat) (v : Word) : State :=
  let n := (a - Reg.CMP_VAL_LO 0) / 16
  if a = Reg.CMP_VAL_HI n then s.cmpValHi n v
  else if a = Reg.CMP_CTL n then s.cmpCtl n v
  else s.plainWriteReg a v

/-- A write to the TB block (R299 to R311). -/
def State.tbWrite (s : State) (a : Nat) (v : Word) : State :=
  if a = Reg.TB_SYNC_CTL then s.syncCtl v.toNat
  else if a = Reg.TB_SYNC_OUT then s.syncOut v.toNat
  else if a = Reg.TB_PTM_CTL then s.ptmCtl v.toNat
  else if Reg.CMP_VAL_LO 0 ≤ a ∧ a < Reg.CMP_FIRED then s.cmpWrite a v
  else if Reg.CAP_CTL 0 ≤ a ∧ a < Reg.GC_CTL 0 then
    let n := (a - Reg.CAP_CTL 0) / 32
    if a = Reg.CAP_CTL n then s.capCtl n v.toNat else if a = Reg.CAP_STAT n then s.capStat n v.toNat else s
  else if Reg.GC_CTL 0 ≤ a ∧ a ≤ Reg.GC_CTL 7 ∧ a % 16 = 0 then s.gcCtl ((a - Reg.GC_CTL 0) / 16) v.toNat
  else s.plainWriteReg a v

/-- R355: a change of the moderation of a CQ makes its message fall due where a condition holds now. -/
def State.modChanged (s : State) (n : Nat) : State := if s.ringKind n = 2 && s.modDue n then s.cqDue n else s

/-- A write to the RING block (R341, R352, R355, R363). -/
def State.ringWrite (s : State) (a : Nat) (v : Word) : State :=
  if a < Reg.RING_DB_ERR then
    let n := (a - Reg.RING_BASE_LO 0) / 64
    if a = Reg.RING_CFG n then
      (if bitOf v.toNat 0 then s.ringEnable n v.toNat else s.ringDrop n v.toNat)
    else if a = Reg.RING_MOD n then (s.plainWriteReg a v).modChanged n
    else s.plainWriteReg a v
  else if a = Reg.RING_ARCH_CFG then s.archCfgWrite v.toNat
  else if a = Reg.RING_CLR then s.ringClr v.toNat
  else if a = Reg.RING_DROP_CLR then s.ringDropClr v.toNat
  else s.plainWriteReg a v

/-- A write to the MSI-X table of a function, which begins at `base`; a 64-bit one writes two words (R319). -/
def State.vectorWrite (s : State) (i base a : Nat) (value : BitVec 64) (words : Nat) : State :=
  let put (s : State) (k : Nat) : State :=
    let o := a - base + 4 * k
    s.writeVectorWord i (o / 16) (o % 16 / 4) (BitVec.ofNat 32 (value.toNat / 2 ^ (32 * k)))
  (List.range words).foldl put s

/-- How many words an access to an MSI-X table has: one or two, or none where it is not aligned (R319). -/
def vectorWords (a width : Nat) : Nat :=
  if width = 4 ∧ a % 4 = 0 then 1 else if width = 8 ∧ a % 8 = 0 then 2 else 0

/-- A write to PF0 BAR0 (R8, R18, R316, R319, R372). -/
def State.bar0Write (s : State) (a width : Nat) (value : BitVec 64) : State :=
  let v : Word := value.setWidth 32
  if 0x6000 ≤ a ∧ a < 0x6400 then s.vectorWrite 0 0x6000 a value (vectorWords a width)
  else if width ≠ 4 ∨ a % 4 ≠ 0 ∨ 0x6000 ≤ a then s
  else if stageable a then s.unlessOwned fun s => s.whileStopped fun s => s.settingWrite a v
  else if a = Reg.RO_FACT_DEFECTS then s.factDefectsClr v
  else if 0x1000 ≤ a ∧ a < 0x5000 then (if (regRow a).isSome then s.whileStopped fun s => s.plainWriteReg a v else s)
  else if a < 0x400 then s.hifWrite a v
  else if a < 0x1000 then s.tbWrite a v
  else if 0x5000 ≤ a then s.ringWrite a v
  else s

/-- A write to PF0 BAR2: the doorbells (R317, R347). -/
def State.bar2Write (s : State) (a width : Nat) (value : BitVec 64) : State :=
  let v := (value.setWidth 32).toNat
  if width ≠ 4 ∨ a % 4 ≠ 0 ∨ 0x100 ≤ a then s
  else if a % 8 = 0 then s.tailDoorbell (a / 8) v else s.headDoorbell (a / 8) v

/-! ## The blocks of PF1 BAR0 -/

/-- A write to the MGMT block (R389). -/
def State.mgmtWrite (s : State) (a : Nat) (v : Word) : State :=
  if a = Reg.MGMT_CFG then (if bitOf v.toNat 0 then s.ringEnable 32 v.toNat else s.ringDrop 32 v.toNat)
  else if a = Reg.MGMT_SQ_TAIL then s.hostActivity.tailDoorbell 32 v.toNat
  else if a = Reg.MGMT_CQ_HEAD then s.hostActivity.headDoorbell mboxCq v.toNat
  else if a = Reg.MGMT_MOD then (s.plainWriteReg a v).modChanged mboxCq
  else s.plainWriteReg a v

/-- A write to the ICX block (R394 to R406). -/
def State.icxWrite (s : State) (a : Nat) (v : Word) : State :=
  if a = Reg.ICX_HCOMPLETE then s.completeNormal 2 (v.toNat % 256)
  else if a = Reg.ICX_HFCOMPLETE then s.completeFastCharged 2 (v.toNat % 256)
  else if a = Reg.ICX_LOCK then s.lockRelease 2 v.toNat
  else if a = Reg.ICX_FMASK then s.writeMask 8 v.toNat
  else if a = Reg.ICX_FPEND then s.writePend 8 v.toNat
  else if Reg.ICX_MASK 0 ≤ a ∧ a ≤ Reg.ICX_MASK 7 then s.writeMask ((a - Reg.ICX_MASK 0) / 4) v.toNat
  else if Reg.ICX_PEND 0 ≤ a ∧ a ≤ Reg.ICX_PEND 7 then s.writePend ((a - Reg.ICX_PEND 0) / 4) v.toNat
  else if a = Reg.ICX_CNT_CLR then s.icxCntClr v.toNat
  else if a = Reg.ICX_ERR then (if bitOf v.toNat 31 then s.setReg Reg.ICX_ERR 0 else s)
  else s.icxChange fun s => s.plainWriteReg a v

/-- A write of PLL_CTL (R424): with STANDBY_EN 0 the standby loop stops. -/
def State.pllCtlWrite (s : State) (v : Word) : State :=
  let s1 := s.plainWriteReg Reg.PLL_CTL v
  if bitOf v.toNat 0 || s1.flag .PLL_ROLE_NO_STANDBY then s1
  else (s1.setLocked (s1.fld .PLL_ROLE_STANDBY) false).standbyGone

/-- A write to the PLL and CAL blocks (R424, R432, R448). -/
def State.pllCalWrite (s : State) (a : Nat) (v : Word) : State :=
  if a = Reg.PLL_CTL then s.pllCtlWrite v
  else if a = Reg.PLL_CLR then s.pllClr v
  else if a = Reg.CAL_IDX then ((s.plainWriteReg a v).setFlag .CAL_IDX_ERR false).setFlag .CAL_IDX_BUSY false
  else if a = Reg.CAL_DATA then s.calWrite v
  else if a = Reg.CAL_DLIST then s.dlistClr v
  else s.plainWriteReg a v

/-- R471: a field takes a value in its range; any other value leaves it. -/
def State.fldInRange (s : State) (f : Fld) (lo hi v : Nat) : State := if lo ≤ v ∧ v ≤ hi then s.setFld f v else s

/-- A write to the THM and PWR block (R465, R471). -/
def State.thmWrite (s : State) (a : Nat) (v : Word) : State :=
  let n := v.toNat
  if a = Reg.THM_HYST then
    ((s.fldInRange .THM_HYST_COLD_LIMIT 1 8 (getBits n 3 0)).fldInRange .THM_HYST_COLD_WARN 1 8 (getBits n 7 4)).fldInRange
      .THM_HYST_HOT_WARN 1 8 (getBits n 11 8)
  else if a = Reg.THM_GRACE then s.fldInRange .THM_GRACE_GRACE 10 10000 (getBits n 13 0)
  else if a = Reg.THM_PEAK then s.peakClr v
  else if a = Reg.PWR_WAKE then (if bitOf n 0 then s.wakeFires .pcie else s)
  else if a = Reg.PWR_SLEEP_ABORT then s.abortClr v
  else s.plainWriteReg a v

/-- A write to the SPR, FLT, SEC and BIST blocks (R497, R499, R500, R526). -/
def State.sprWrite (s : State) (a : Nat) (v : Word) : State :=
  if a = Reg.SPR_CLR then s.sprClr v.toNat
  else if a = Reg.FLT_CLR then s.fltClr v.toNat
  else if a = Reg.SEC_FW_CFG then
    (s.fldInRange .SEC_FW_CFG_TRIAL_S 10 65535 (getBits v.toNat 15 0)).setFlag .SEC_FW_CFG_ACT_AT_START (bitOf v.toNat 16)
  else if a = Reg.BIST_CTL then s.bistCtl v.toNat
  else if a = Reg.BIST_PATTERNS then
    if s.nvm.rights = 1 ∨ s.nvm.rights = 4 then s.setFld .BIST_PATTERNS_COUNT (getBits v.toNat 23 0) else s
  else s.plainWriteReg a v

/-- A write to PF1 BAR0 (R8, R318, R319). -/
def State.bar1Write (s : State) (offset width : Nat) (value : BitVec 64) : State :=
  let v : Word := value.setWidth 32
  let a := offset + 0x20000
  if 0x3800 ≤ offset ∧ offset < 0x3880 then s.vectorWrite 1 0x3800 offset value (vectorWords offset width)
  else if width ≠ 4 ∨ offset % 4 ≠ 0 ∨ 0x3800 ≤ offset then s
  else if offset < 0x800 then s.mgmtWrite a v
  else if offset < 0x1000 then s.icxWrite a v
  else if offset < 0x1800 then s.pllCalWrite a v
  else if offset < 0x2000 then s.thmWrite a v
  else s.sprWrite a v

/-- A write of the lead Coachman to the ICX block (R395, R402, R403): it sets A and B of a target word, and, while it holds the
lock, mask and pending words. -/
def State.leadIcxWrite (s : State) (a v : Nat) : State :=
  let put (m : Nat) : State := s.icxChange fun s => s.setReg a
    ((s.reg a &&& ~~~ (BitVec.ofNat 32 m)) ||| (BitVec.ofNat 32 v &&& BitVec.ofNat 32 m))
  let holds := s.fld .ICX_LOCK_HOLDER == s.lead
  if a = Reg.ICX_TGT 0 then put 0x33333330
  else if a = Reg.ICX_TGT 31 then put 0x03333333
  else if Reg.ICX_TGT 0 < a ∧ a < Reg.ICX_TGT 31 then put 0x33333333
  else if a = Reg.ICX_FTGT 0 ∨ a = Reg.ICX_FTGT 1 then put 0x33333333
  else if !holds then s
  else if a = Reg.ICX_FMASK then s.writeMask 8 v
  else if a = Reg.ICX_FPEND then s.writePend 8 v
  else if Reg.ICX_MASK 0 ≤ a ∧ a ≤ Reg.ICX_MASK 7 then s.writeMask ((a - Reg.ICX_MASK 0) / 4) v
  else if Reg.ICX_PEND 0 ≤ a ∧ a ≤ Reg.ICX_PEND 7 then s.writePend ((a - Reg.ICX_PEND 0) / 4) v
  else s

end Sys2Proof.Machine
end

