-- ==== Sys2Proof/Machine/Views.lean ====
section
/-! DEFINITION. What a read of the host returns, and the levels of the pins that follow the state. Most registers hold what
a read returns; those here are computed from the state behind them. A read changes nothing, but for the reads that have
commands of their own (the claims and the lock of the ICX, the latches of the captures, CAL_DATA). -/

namespace Sys2Proof.Machine

/-- A word made of fields, each given by its value, its lowest bit and its width. -/
def pack (l : List (Nat × Nat × Nat)) : Nat := l.foldl (fun v f => v + f.1 % 2 ^ f.2.2 * 2 ^ f.2.1) 0

/-- The number whose bit `i` is `p i`, for `i` below `n`. -/
def bitsOf (n : Nat) (p : Nat → Bool) : Nat := (List.range n).foldl (fun v i => v + boolNat (p i) * 2 ^ i) 0

/-! ## Registers of PF0 BAR0 that are computed -/

/-- The device's settings as a frame taken now would have them (R118). -/
def State.frameNow (s : State) : Frame := s.newFrame s.lastTick s.mode 0 false false

/-- The role that a spare unit holds; `none_` where it holds none. A unit that is retired holds its role until the Coupling
at which another takes it (R477). -/
def State.spareRole (s : State) (cls u none_ : Nat) : Nat :=
  match (s.unitInfo cls u).role with
  | some r => if s.holder cls r = u && !s.roleLost cls r then r else none_
  | none => none_

/-- RO_GRP_LOST word `n` (R150, R154). -/
def State.viewGroups (s : State) (n : Nat) : Nat := bitsOf 32 fun i => s.frameNow.groupLost s.depth (32 * n + i)

/-- PIPE_CAMn_TBL (R206). -/
def State.viewTables (s : State) (n : Nat) : Nat :=
  let defect := tableKey 0x21 n
  pack [(s.activeBank (tableKey 0x20 n), 0, 1), (s.activeBank defect, 1, 1),
    (s.activeBank (if n = 0 then tableKey 0x22 0 else tableKey 0x24 n), 2, 1),
    (if n = 0 then s.activeBank (tableKey 0x23 0) else 0, 3, 1),
    (s.tables.entries.get (fun _ => 0) (defect * 2 + s.activeBank defect), 16, 16)]

/-- CLS_STAT and CLS_FOREST (R243, R263). -/
def State.viewClassifier (s : State) (a : Nat) : Nat :=
  if a = Reg.CLS_STAT then
    pack [(bitsOf 4 fun r => s.roleLost 7 r, 0, 4), (s.spareRole 7 4 7, 4, 3), (s.activeBank (tableKey 0x30 0), 7, 1),
      (if s.seq.first then s.frameNow.decisionCap else 0, 8, 15)]
  else pack [(s.forestAt 0 1, 0, 8), (s.forestAt 1 1, 8, 4), (s.forestAt 2 2, 16, 16)]

/-- WV_ROLEr_STAT (R293). -/
def State.viewRole (s : State) (r : Nat) : Nat :=
  let w := s.wvRole r
  let x := s.engineNow w.engine
  let stallTx := match x.busy with
    | .pull => x.tx.isEmpty && x.shift.all (·.over s.clk)
    | _ => false
  let stallRx := match x.busy with
    | .push => true
    | _ => false
  let shifting := match x.shift with
    | some h => !h.over s.clk
    | none => false
  pack [(x.state, 0, 6), (w.bank, 6, 1), (boolNat w.halted, 7, 1), (boolNat stallTx, 8, 1), (boolNat stallRx, 9, 1),
    (boolNat w.swap.isSome, 10, 1), (boolNat shifting, 11, 1), (boolNat (!w.loaded), 12, 1), (s.holder 8 r, 16, 5),
    (x.tx.length, 24, 7)]

/-- Registers of the data plane that are computed from the state; none for any other. -/
def State.viewData (s : State) (a : Nat) : Option Nat :=
  if a = Reg.EXP_GOV_STAT then
    some (putBit (s.reg a).toNat 0 (s.flag .EXP_GOV_CFG_EN && s.mode != serviceMode))
  else if a = Reg.FF_STAT then some (putBits (s.reg a).toNat 15 8 (bitsOf 8 fun f => s.pin (8 + f)))
  else if a = Reg.RO_SLOTS then 
    some (if !s.seq.first then 0 else if s.slots < 2048 then s.slots else Config.freeAt s.freeCtr 0 % 2048)
  else if a = Reg.RO_TRO then some (if s.seq.first then s.readoutTime else 0)
  else if a = Reg.RO_CONV_NOSPARE then some (s.spares.lost.filter fun e => e.1 / 2 ^ 20 == 0 && e.2).length
  else if Reg.RO_GRP_LOST 0 ≤ a ∧ a ≤ Reg.RO_GRP_LOST 3 then some (s.viewGroups ((a - Reg.RO_GRP_LOST 0) / 4))
  else if a = Reg.CSX_LINK_STAT then
    some (if s.csiOn then (s.reg a).toNat else putBits (s.reg a).toNat 4 0 0)
  else if a % 0x100 = 0x60 ∧ Reg.PIPE_CAM_TBL 0 ≤ a ∧ a ≤ Reg.PIPE_CAM_TBL 3 then
    some (s.viewTables ((a - Reg.PIPE_CAM_TBL 0) / 0x100))
  else if a = Reg.PIPE_SLICE_STAT then some (pack [(bitsOf 8 fun r => s.roleLost 4 r, 0, 8), (s.spareRole 4 8 15, 8, 4)])
  else if a = Reg.TRK_BANK_STAT then
    some (pack [(bitsOf 16 fun r => s.roleLost 6 r, 0, 16), (s.spareRole 6 16 31, 16, 5),
      (s.fld .TRK_BANK_STAT_COPYING, 21, 1)])
  else if a = Reg.CLS_STAT ∨ a = Reg.CLS_FOREST then some (s.viewClassifier a)
  else if a = Reg.EJ_STAT then some (pack [(s.ej.pulses.length, 0, 19), (s.activeBank (tableKey 0x31 0), 19, 1)])
  else if a = Reg.WV_SPARE then some (pack [(s.spareRole 8 16 31, 0, 5), (s.spareRole 8 17 31, 8, 5)])
  else if a = Reg.WV_PIN_LVL_LO then some (bitsOf 32 s.wvPin)
  else if a = Reg.WV_PIN_LVL_HI then some (bitsOf 32 fun i => s.wvPin (32 + i))
  else if Reg.WV_ROLE_STAT 0 ≤ a ∧ a ≤ Reg.WV_ROLE_STAT 15 then some (s.viewRole ((a - Reg.WV_ROLE_STAT 0) / 4))
  else none

/-- TB_TIME and the rings: registers of PF0 that are computed (R295, R363). FETCHED of 256 entries,
which its eight bits cannot show, reads a free value (log 5). -/
def State.viewRings (s : State) (a : Nat) : Option Nat :=
  if a = Reg.TB_TIME_LO then some (s.tb.toNat % 2 ^ 32)
  else if a = Reg.TB_TIME_HI then some (s.tb.toNat / 2 ^ 32)
  else
    let n := (a - Reg.RING_BASE_LO 0) / 64
    let r := s.ring n
    if a < 0x5000 ∨ 32 ≤ n then none
    else if a = Reg.RING_PTR n then some (pack [(r.dev, 0, 16), (r.host, 16, 16)])
    else if a = Reg.RING_STAT n then
      some (pack [(boolNat r.enabled, 0, 1), (boolNat r.phase, 1, 1), (boolNat r.stopped, 2, 1),
        (boolNat (!r.held.isEmpty), 3, 1), (r.err, 4, 4),
        (if s.uncompleted n < 256 then s.uncompleted n else Config.freeAt s.freeCtr n, 8, 8)])
    else none

/-! ## Registers of PF1 BAR0 that are computed -/

/-- MGMT_PTR, MGMT_STAT and ICX_HSTAT (R389, R406). -/
def State.viewMgmt (s : State) (a : Nat) : Option Nat :=
  let sq := s.ring mboxSq
  let cq := s.ring mboxCq
  if a = Reg.MGMT_PTR then some (pack [(sq.dev, 0, 16), (cq.dev, 16, 16)])
  else if a = Reg.MGMT_STAT then
    some (pack [(boolNat sq.enabled, 0, 1), (boolNat cq.phase, 1, 1), (boolNat sq.stopped, 2, 1),
      (boolNat (!cq.held.isEmpty), 3, 1), (sq.err, 4, 4), (s.fld .MGMT_STAT_DB_ERR, 8, 8)])
  else if a = Reg.ICX_HSTAT then
    some (pack [(boolNat s.icx.host.asserted, 0, 1), (s.icx.host.fast.length, 1, 3), (s.fld .ICX_HSTAT_ORDER_ERR, 4, 1),
      ((s.icx.host.fast.head?.map (· - 256)).getD 0, 8, 8)])
  else none

/-- Does loop `p` drive a domain: it holds a role that is not gated off, and it is locked, or its DCO, in holdover or steered
back from it (R416, R419, R422), runs the timebase? -/
def State.loopDrives (s : State) (p : Nat) : Bool :=
  match s.roleOf p with
  | some r => !s.gated r && (s.loopLocked p || (r == 2 && s.tbStarted))
  | none => false

/-- The PLL registers (R424). -/
def State.viewPll (s : State) (a : Nat) : Option Nat :=
  if a = Reg.PLL_STAT then
    some (putBit (putBits (s.reg a).toNat 7 4 (bitsOf 4 s.loopDrives)) 11 s.standbyLoop.isSome)
  else if a = Reg.PLL_EPOCH_CX then some (pack [(s.epoch 9 0, 0, 16), (s.epoch 9 1, 16, 16)])
  else if a = Reg.PLL_EPOCH_T then some (s.epoch 9 2)
  else none

/-- THM_SHUT and THM_NVM_Q (R460, R461). -/
def State.viewThm (s : State) (a : Nat) : Option Nat :=
  if a = Reg.THM_SHUT then
    some (if s.nvm.shutCause = 0 then 0
      else pack [(s.nvm.shutCause, 0, 2), (boolNat s.nvm.shutCut, 2, 1), (s.nvm.shutTemp, 16, 16)])
  else if a = Reg.THM_NVM_Q then some (putBits (s.reg a).toNat 6 0 s.nvm.cold.length)
  else none

/-- The scopes of a class without a unit in stock. -/
def State.emptyScopes (s : State) (cls scopes perScope : Nat) : Nat :=
  ((List.range scopes).filter fun g =>
    (List.range perScope).all fun i => decide ((s.unitInfo cls (g * perScope + i)).state ≠ .stock)).length

/-- The memory instances with both spare rows in use (R484). -/
def State.fullMemories (s : State) : Nat :=
  (((s.spares.units.filter fun e => e.1 / 2 ^ 20 == 11).map fun e => e.1 % 2 ^ 20 / 1024).dedup.filter fun i =>
    decide (2 ≤ s.retiredRows i)).length

/-- The units of a class in stock (R473); of class 11 the spare rows left. -/
def State.classStock (s : State) (c : Nat) : Nat :=
  if c = 11 then
    2 * Config.memInstances - (s.spares.units.filter fun e => e.1 / 2 ^ 20 == 11 && decide (e.2.state = .retired)).length
  else s.classCount c .stock

/-- The units of a class that are retired. -/
def State.classRetired (s : State) (c : Nat) : Nat :=
  (s.spares.units.filter fun e => e.1 / 2 ^ 20 == c && decide (e.2.state = .retired)).length

/-- The SPR, FLT and BIST registers (R494, R498 to R500). -/
def State.viewSpr (s : State) (a : Nat) : Option Nat :=
  if a % 8 = 0 ∧ Reg.SPR_CLASS_STOCK 0 ≤ a ∧ a ≤ Reg.SPR_CLASS_STOCK 13 then
    let c := (a - Reg.SPR_CLASS_STOCK 0) / 8
    some (pack [(s.classStock c, 0, 16), (s.classRetired c, 16, 16)])
  else if a = Reg.SPR_SCOPE_EMPTY then
    some (pack [(s.emptyScopes 0 128 260, 0, 8), (s.emptyScopes 3 40 17, 8, 8), (s.fullMemories, 16, 16)])
  else if a = Reg.FLT_JSEQ then some (bytesAt s.newestFault 0 4)
  else if a = Reg.BIST_MOULT then some (pack [(s.nvm.moult, 0, 2), (boolNat s.nvm.moultConsumed, 2, 1)])
  else none

/-- The seconds left in the trial (R512). -/
def State.trialLeft (s : State) : Nat :=
  match s.coach.trial with
  | some t => s.fld .SEC_FW_CFG_TRIAL_S - (s.now - t) / 1000000000
  | none => 0

/-- SEC_FW_VERA and SEC_FW_VERB (R526): the version of the image that a bank holds, 0 where it is EMPTY or WRITING. -/
def State.fwVersion (s : State) (bank : Nat) : Nat := if s.bankState bank ≤ 1 then 0 else s.imageWord bank 4

/-- The SEC, ID and NVM registers (R526). -/
def State.viewSec (s : State) (a : Nat) : Option Nat :=
  if a = Reg.SEC_STAT then
    some (pack [(s.nvm.lifecycle, 0, 3), (boolNat s.ownerEnrolled, 3, 1), (boolNat s.ownerLocked, 4, 1),
      (boolNat s.coach.trial.isSome, 5, 1), (s.fld .SEC_STAT_DIGEST_MATCH, 6, 1),
      (boolNat s.digest.expected.isSome, 7, 1), (s.fld .SEC_STAT_ALARM, 8, 1), (s.lead, 9, 1),
      (s.coachBank s.lead, 10, 1)])
  else if a = Reg.SEC_FW_STAT then
    some (pack [(s.nvm.bankA, 0, 3), (s.nvm.bankB, 4, 3), (s.fld .SEC_FW_STAT_REASON, 8, 4), (s.nvm.rollback, 16, 8)])
  else if a = Reg.SEC_FW_VERA then some (s.fwVersion 0)
  else if a = Reg.SEC_FW_VERB then some (s.fwVersion 1)
  else if a = Reg.SEC_TRIAL_LEFT then some s.trialLeft
  else if a = Reg.ID_SERIAL_LO then some (Config.serial.toNat % 2 ^ 32)
  else if a = Reg.ID_SERIAL_HI then some (Config.serial.toNat / 2 ^ 32)
  else if a = Reg.ID_PART then some (pack [(Config.variantBit, 0, 1), (Config.stepping.toNat, 8, 8)])
  else if a = Reg.NVM_STAT then
    some (pack [(boolNat (!s.nvm.jobs.isEmpty), 0, 1), (boolNat s.nvmRefused, 1, 1), (boolNat s.nvm.noReserve, 2, 1),
      (s.nvm.reserve, 8, 7)])
  else if a = Reg.NVM_WEAR then some (s.nvm.erases.foldl (fun m e => max m e.2) 0)
  else if a = Reg.NVM_JFREE then some ((journalEnd - logStart - (s.nvm.logTail - s.nvm.logBase)) / 1024)
  else none

/-! ## Reads -/

/-- What a read of the register at `a` of the register space returns once READY is 1 (R9, R10). A read of a claim register
and of ICX_LOCK returns what their commands return; WO fields read 0. -/
def State.readReg (s : State) (a : Nat) : Nat :=
  let v :=
    if a < 0x400 then none
    else if a < 0x1000 then s.viewRings a
    else if a < 0x5000 then s.viewData a
    else if a < 0x20000 then s.viewRings a
    else if a < 0x21000 then
      if a = Reg.ICX_HCLAIM then some (s.claimNormal 2).1
      else if a = Reg.ICX_HFCLAIM then some (s.claimFast 2).1
      else if a = Reg.ICX_LOCK then some (s.lockRead 2).1
      else s.viewMgmt a
    else if a < 0x21400 then s.viewPll a
    else if a < 0x21800 then (if a = Reg.CAL_DATA then some s.calRead.1 else none)
    else if a < 0x22000 then s.viewThm a
    else (s.viewSpr a).or (s.viewSec a)
  v.getD (s.reg a).toNat

/-- A word of the MSI-X table of a function, at offset `o` in the table. -/
def State.readVector (s : State) (i o : Nat) : Nat :=
  let e := (s.fn i).vector (o / 16)
  match o % 16 / 4 with
  | 0 => e.addrLo.toNat
  | 1 => e.addrHi.toNat
  | 2 => e.data.toNat
  | _ => e.control.toNat

/-- A word of the pending-bit array of a function. -/
def State.readPba (s : State) (i w : Nat) : Nat :=
  bitsOf 32 fun b => decide (32 * w + b < fnVectors i) && (s.fn i).pba.get (fun _ => false) (32 * w + b)

/-- The read-only content of the capability structures of R313, at the places and with the codes of the PCI Express standard
(PRESUMED, log 11): the two lists, power management, the places of the MSI-X table and PBA (R316, R318), the device and link
capabilities with the exit latencies of R329, and the extended capabilities. -/
def State.capWord (s : State) (i off : Nat) : Nat :=
  let pf0 (v : Nat) : Nat := if i = 0 then v else 0
  let ext (id version next : Nat) : Nat := id + version * 2 ^ 16 + next * 2 ^ 20
  match off with
  | 0x04 => 2 ^ 20
  | 0x34 => 0x40
  | 0x40 => 0x01 + 0x50 * 2 ^ 8 + 0xC803 * 2 ^ 16
  | 0x50 => 0x70 * 2 ^ 8
  | 0x54 => if i = 0 then 0x6000 else 0x3800
  | 0x58 => if i = 0 then 0x7000 else 0x3C00
  | 0x70 => 0x10 + 2 * 2 ^ 16
  | 0x74 => pack [(2, 0, 3), (1, 5, 1), (1, 15, 1), (1, 28, 1)]
  | 0x7C => pack [(4, 0, 4), (4, 4, 6), (3, 10, 2), (4, 12, 3), (3, 15, 3)]
  | 0x80 => pack [(s.fld .HIF_LINK_STAT_SPEED, 16, 4), (s.fld .HIF_LINK_STAT_WIDTH, 20, 6)]
  | 0x94 => pack [(0xF, 0, 4), (1, 4, 1), (1 - i, 11, 1), (1, 17, 1)]
  | 0x9C => 0x1E
  | 0x100 => ext 0x01 2 0x140
  | 0x140 => ext 0x03 1 (pf0 0x150)
  | 0x144 => Config.serial.toNat % 2 ^ 32
  | 0x148 => Config.serial.toNat / 2 ^ 32
  | 0x150 => pf0 (ext 0x19 1 0x170)
  | 0x170 => pf0 (ext 0x26 1 0x1A0)
  | 0x1A0 => pf0 (ext 0x27 1 0x1C0)
  | 0x1C0 => pf0 (ext 0x1E 1 0x1D0)
  | 0x1C4 => pf0 0x1F
  | 0x1D0 => pf0 (ext 0x1F 1 0x1E0)
  | 0x1D4 => pf0 1
  | 0x1E0 => pf0 (ext 0x18 1 0)
  | _ => 0

/-- The bits of a word of configuration space that act on the device, the header values of R312 and the BARs of R315. The
offsets of header fields are those of the PCI Express standard (PRESUMED, log 11). -/
def State.headWord (s : State) (i off : Nat) : Nat :=
  let f := s.fn i
  if off = 0x00 then 0x1D47 + (if i = 0 then 0x8150 else 0x8151) * 2 ^ 16
  else if off = 0x04 then pack [(boolNat f.memEnable, 1, 1), (boolNat f.busMaster, 2, 1)]
  else if off = 0x08 then Config.stepping.toNat + 0x048000 * 2 ^ 8
  else if off = 0x0C then (if i = 0 then 0x80 else 0) * 2 ^ 16
  else if off = 0x2C then 0x1D47 + (1 + Config.variantBit) * 2 ^ 16
  else if off = 0x10 ∨ off = 0x18 then
    (if i = 1 ∧ off = 0x18 then 0 else (f.bars.get (fun _ => 0) off).toNat + 4)
  else if 0x10 ≤ off ∧ off ≤ 0x24 then (f.bars.get (fun _ => 0) off).toNat
  else if off = 0x44 then pack [(if f.d3hot then 3 else 0, 0, 2), (1, 3, 1), (boolNat f.pmeEnable, 8, 1),
    (boolNat f.pmeStatus, 15, 1)]
  else if off = 0x50 then
    pack [(0x11, 0, 8), (fnVectors i - 1, 16, 11), (boolNat f.msixMask, 30, 1), (boolNat f.msixEnable, 31, 1)]
  else if off = 0x78 then pack [(f.maxPayload, 5, 3), (f.maxRead, 12, 3)]
  else if off = 0x98 then pack [(boolNat f.tag10, 12, 1)]
  else if off = 0x1D8 ∧ i = 0 then boolNat f.ptmEnable
  else 0

/-- What the link shows in a word of a function (R313): equalisation status, the presets that the last equalisation gave the
lanes, which are free values (log 11), whether the lanes can be margined, and a free payload of a margining status. -/
def State.linkWord (s : State) (i off : Nat) : Nat :=
  if off = 0xA0 then (if s.pcie.eqDraw.isSome then 0x1E0000 else 0)
  else if i ≠ 0 then 0
  else match off with
    | 0x15C | 0x160 => (match s.pcie.eqDraw with | some d => Config.freeAt d off &&& 0x7F007F00 | none => 0x7F007F00)
    | 0x17C => if s.pcie.eq16 then 0xF else 0
    | 0x190 => (match s.pcie.eqDraw, s.pcie.eq16 with
      | some d, true => Config.freeAt d off &&& 0xF0F0F0F0
      | _, _ => 0xF0F0F0F0)
    | 0x1A4 => if s.marginReady then 0x10000 else 0
    | _ => (match s.pcie.margin.get (fun _ => 0) off with | 0 => 0 | d + 1 => Config.freeNat d % 2 ^ 8 * 2 ^ 24)

/-- A word of configuration space (R312, R313, R315). -/
def State.readCfg (s : State) (i off : Nat) : Nat :=
  s.headWord i off ||| s.capWord i off ||| s.linkWord i off |||
    (((s.fn i).cap off).toNat &&& (cfgRw i off ||| cfgW1c i off ||| cfgRo i off))

/-- What an aligned 32-bit read of the MSI-X structures of a function returns: word `o` of the table at `table`, or of the PBA
at `pba` (R316, R318); none outside them. -/
def State.readMsix (s : State) (i table pba o : Nat) : Option Nat :=
  if table ≤ o ∧ o < table + 16 * fnVectors i then some (s.readVector i (o - table))
  else if o = pba then some (s.readPba i 0)
  else if o = pba + 4 then some (s.readPba i 1)
  else none

/-- What a read of `width` bytes in a BAR returns: a 32-bit word of a register, or one or two words of an MSI-X structure; any
other width or alignment returns 0 (R8, R319). -/
def State.readWords (msix : Nat → Option Nat) (reg : Nat → Nat) (o width : Nat) : Nat :=
  match vectorWords o width with
  | 1 => (msix o).getD (reg o)
  | 2 => ((msix o).map fun lo => lo + 2 ^ 32 * (msix (o + 4)).getD 0).getD 0
  | _ => 0

/-- What a read of the host of `width` bytes returns (R8, R316 to R319, R335): none where it does not reach the device. A read
of configuration space of fewer than 4 bytes returns those bytes of its word. -/
def State.hostRead (s : State) (space : Space) (o width : Nat) : Option Nat :=
  let cfg (i : Nat) : Option Nat :=
    if !s.cfgOk then none
    else if 4 < o % 4 + width then some 0
    else some (s.readCfg i (o / 4 * 4) / 2 ^ (8 * (o % 4)) % 2 ^ (8 * width))
  let bar (i : Nat) (v : Nat) : Option Nat :=
    if !s.barReach i then none else if s.flag .HIF_READY_READY then some v else some 0
  match space with
  | .pf0Cfg => cfg 0
  | .pf1Cfg => cfg 1
  | .pf0Bar0 =>
    if o = Reg.HIF_READY ∧ width = 4 then (if s.barReach 0 then some (s.reg Reg.HIF_READY).toNat else none)
    else bar 0 (State.readWords (s.readMsix 0 0x6000 0x7000)
      (fun o => if (regRow o).isSome then s.readReg o else 0) o width)
  | .pf0Bar2 =>
    bar 0 (State.readWords (fun _ => none) (fun o => if 0x100 ≤ o then 0
      else if o % 8 = 0 then (s.ring (o / 8)).lastTail.toNat else (s.ring (o / 8)).lastHead.toNat) o width)
  | .pf1Bar0 =>
    bar 1 (State.readWords (s.readMsix 1 0x3800 0x3C00)
      (fun o => if (regRow (o + 0x20000)).isSome then s.readReg (o + 0x20000) else 0) o width)
  | .icxLead => if s.coachmanRuns then
      some (State.readWords (fun _ => none) (fun o => s.readReg (Reg.ICX_HCLAIM + o)) o width) else none

/-- The command that a read of the host is, where it has an effect (R303, R396, R401, R403): an aligned 32-bit read of one of
these registers. A read of any other width or alignment is none (R8). -/
def readCommand (space : Space) (o width : Nat) : Option Instr :=
  if width ≠ 4 then none
  else match space with
    | .pf0Bar0 =>
      ((List.finRange 8).find? fun n => Reg.CAP_RISE_LO n.val == o).map Instr.capRiseLoRead <|>
        ((List.finRange 8).find? fun n => Reg.CAP_FALL_HI n.val == o).map Instr.capFallHiRead
    | .pf1Bar0 =>
      if o + 0x20000 = Reg.ICX_HCLAIM then some .icxHclaim
      else if o + 0x20000 = Reg.ICX_HFCLAIM then some .icxHfclaim
      else if o + 0x20000 = Reg.ICX_LOCK then some (.icxLockRead 2)
      else none
    | _ => none

/-! ## Writes of the host -/

/-- A write of the host of `width` bytes to a word of configuration space: a byte that is not written keeps what it reads,
and none of its bits is cleared (PCI Express standard: PRESUMED, log 11). -/
def State.cfgWriteBytes (s : State) (i o width v : Nat) : State :=
  let a := o / 4 * 4
  let m := BitVec.ofNat 32 ((2 ^ (8 * width) - 1) * 2 ^ (8 * (o % 4)))
  let w1c := BitVec.ofNat 32 (cfgW1c i a ||| (if a = 0x44 then 0x8000 else 0))
  let old := BitVec.ofNat 32 (s.readCfg i a) &&& ~~~ m &&& ~~~ w1c
  if 4 < o % 4 + width then s else s.cfgWrite i a (old ||| (BitVec.ofNat 32 (v * 2 ^ (8 * (o % 4))) &&& m)).toNat

/-- REGISTER_WRITE (R8, R18, R319, R335, R372, R395): a write of `width` bytes by the host, or by the lead Coachman. -/
def execRegisterWrite (space : Space) (offset width : Nat) (value : BitVec 64) (s : State) :
    Host.Outcome State Fault Refusal :=
  .next (match space with
    | .pf0Bar0 => s.pf0Write fun s => s.bar0Write offset width value
    | .pf0Bar2 => s.pf0Write fun s => s.bar2Write offset width value
    | .pf1Bar0 => s.pf1Write fun s => s.bar1Write offset width value
    | .pf0Cfg => s.cfgWriteBytes 0 offset width value.toNat
    | .pf1Cfg => s.cfgWriteBytes 1 offset width value.toNat
    | .icxLead =>
      if s.coachmanRuns && s.coach.started && width == 4 && offset % 4 == 0 then
        s.leadIcxWrite (Reg.ICX_HCLAIM + offset) (value.setWidth 32).toNat
      else s)

/-! ## Pins that follow the state -/

/-- FAULT_N (R537, R538): low in reset, until READY is 1, in OFF, after a failed shared signature and while no Coachman has
started. -/
def State.faultN (s : State) : Bool :=
  !(s.inReset || s.off || !s.flag .HIF_READY_READY || s.flag .BIST_STAT_DEV_FAIL || !s.coach.started)

/-- ALERT_N (R537, R538): low while the host's asserted flag is 1. -/
def State.alertN (s : State) : Bool := s.inReset || s.off || !s.icx.host.asserted

/-- THERM_N (R455, R537): low while T_HOT_WARN stands crossed, from a trip on, and in OFF after a thermal shutdown. -/
def State.thermN (s : State) : Bool :=
  if s.inReset then true
  else if s.off then !s.thermal.shut
  else !(s.flag .THM_STAT_HOT_WARN || s.thermal.trip.isSome)

/-- What a pad drives, by the source coding of R311 (R286, R287, R537): none where it is high-Z. The Fireflies, TRIG_OUT and
TSYNC_OUT are high-Z, with a pull-down, in reset and in OFF. -/
def State.padDrive (s : State) (src : Nat) : Option Bool :=
  if 64 ≤ src then s.pinDrive (src - 64)
  else if !s.drivesPin src || s.inReset || s.off then none
  else some (s.pin src)

/-- WAKE_N (R328): low in L2 while a PME is pending on a function. -/
def State.wakeN (s : State) : Bool :=
  !(s.pcie.link = .l2 && !s.inReset && (s.pcie.f0.pmeStatus || s.pcie.f1.pmeStatus))

end Sys2Proof.Machine
end

