-- ==== Sys2Proof/Machine/Dispatch.lean ====
section
/-! DEFINITION. One arm per command: the call of its meaning. -/

namespace Sys2Proof.Machine

/-- The effect of a command on everything but the queue. -/
def exec (i : Instr) (s : State) : Host.Outcome State Fault Refusal :=
  match i with
  | .tickEdge reads => Sys2Proof.Machine.execTickEdge reads s
  | .internalPeriodExpiry dt => Sys2Proof.Machine.execInternalPeriodExpiry dt s
  | .trigInEdge dt pin rising => Sys2Proof.Machine.execTrigInEdge dt pin rising s
  | .compareFire dt n => Sys2Proof.Machine.execCompareFire dt n s
  | .exposureIntervalStart dt => Sys2Proof.Machine.execExposureIntervalStart dt s
  | .exposureIntervalEnd dt light => Sys2Proof.Machine.execExposureIntervalEnd dt light s
  | .fireflyPulseStart dt f => Sys2Proof.Machine.execFireflyPulseStart dt f s
  | .fireflyPulseEnd dt f => Sys2Proof.Machine.execFireflyPulseEnd dt f s
  | .readoutStart dt => Sys2Proof.Machine.execReadoutStart dt s
  | .rowSlot dt analog => Sys2Proof.Machine.execRowSlot dt analog s
  | .axlePacket dt lane flips => Sys2Proof.Machine.execAxlePacket dt lane flips s
  | .pipelineFrame reads cam => Sys2Proof.Machine.execPipelineFrame reads cam s
  | .trackerRound dt sram => Sys2Proof.Machine.execTrackerRound dt sram s
  | .companionRound dt sram => Sys2Proof.Machine.execCompanionRound dt sram s
  | .trackerBankCopyComplete dt => Sys2Proof.Machine.execTrackerBankCopyComplete dt s
  | .governorEvaluate dt => Sys2Proof.Machine.execGovernorEvaluate dt s
  | .pixsupMonitorSample dt mv => Sys2Proof.Machine.execPixsupMonitorSample dt mv s
  | .pixsupReadyRise dt => Sys2Proof.Machine.execPixsupReadyRise dt s
  | .csiFrameStart dt packet => Sys2Proof.Machine.execCsiFrameStart dt packet s
  | .csiLongPacket dt packet => Sys2Proof.Machine.execCsiLongPacket dt packet s
  | .csiFrameEnd dt packet => Sys2Proof.Machine.execCsiFrameEnd dt packet s
  | .mergeBufferDispatch dt => Sys2Proof.Machine.execMergeBufferDispatch dt s
  | .trigOutActive dt k => Sys2Proof.Machine.execTrigOutActive dt k s
  | .trigOutInactive dt k => Sys2Proof.Machine.execTrigOutInactive dt k s
  | .tsyncInEdge dt rising => Sys2Proof.Machine.execTsyncInEdge dt rising s
  | .tsyncOutInactive dt => Sys2Proof.Machine.execTsyncOutInactive dt s
  | .tbSyncArm value => Sys2Proof.Machine.execTbSyncArm value s
  | .tbSyncDisarm value => Sys2Proof.Machine.execTbSyncDisarm value s
  | .cmpValHiWrite n value => Sys2Proof.Machine.execCmpValHiWrite n value s
  | .cmpCtlWrite n value => Sys2Proof.Machine.execCmpCtlWrite n value s
  | .captureEdge dt n rising => Sys2Proof.Machine.execCaptureEdge dt n rising s
  | .capRiseLoRead n => Sys2Proof.Machine.execCapRiseLoRead n s
  | .capFallHiRead n => Sys2Proof.Machine.execCapFallHiRead n s
  | .capRelease n => Sys2Proof.Machine.execCapRelease n s
  | .capLostClr n => Sys2Proof.Machine.execCapLostClr n s
  | .gcClr n value => Sys2Proof.Machine.execGcClr n value s
  | .ptmReq value => Sys2Proof.Machine.execPtmReq value s
  | .ptmAutoExpiry dt => Sys2Proof.Machine.execPtmAutoExpiry dt s
  | .ptmDialogueComplete dt master localT delay => Sys2Proof.Machine.execPtmDialogueComplete dt master localT delay s
  | .chainRecordHandover dt p => Sys2Proof.Machine.execChainRecordHandover dt p s
  | .directRecordHandover dt r => Sys2Proof.Machine.execDirectRecordHandover dt r s
  | .weevilNop dt e => Sys2Proof.Machine.execWeevilNop dt e s
  | .pull dt e => Sys2Proof.Machine.execPull dt e s
  | .push dt e => Sys2Proof.Machine.execPush dt e s
  | .shiftOut dt e => Sys2Proof.Machine.execShiftOut dt e s
  | .shiftIn dt e => Sys2Proof.Machine.execShiftIn dt e s
  | .shiftComplete dt e pads => Sys2Proof.Machine.execShiftComplete dt e pads s
  | .setTime dt e => Sys2Proof.Machine.execSetTime dt e s
  | .waitTime dt e => Sys2Proof.Machine.execWaitTime dt e s
  | .timeReached dt e => Sys2Proof.Machine.execTimeReached dt e s
  | .latchAt dt e => Sys2Proof.Machine.execLatchAt dt e s
  | .latchEdge dt e => Sys2Proof.Machine.execLatchEdge dt e s
  | .capture dt e => Sys2Proof.Machine.execCapture dt e s
  | .weevilCaptureEdge dt e => Sys2Proof.Machine.execWeevilCaptureEdge dt e s
  | .raiseEvent dt e => Sys2Proof.Machine.execRaiseEvent dt e s
  | .halt dt e => Sys2Proof.Machine.execHalt dt e s
  | .stallResume dt e => Sys2Proof.Machine.execStallResume dt e s
  | .rxFifoDrain dt e => Sys2Proof.Machine.execRxFifoDrain dt e s
  | .safeStateSwitch dt e => Sys2Proof.Machine.execSafeStateSwitch dt e s
  | .forcedSwapTimeout dt e => Sys2Proof.Machine.execForcedSwapTimeout dt e s
  | .weevilRoleHandover dt r => Sys2Proof.Machine.execWeevilRoleHandover dt r s
  | .hostAbsenceExpiry dt => Sys2Proof.Machine.execHostAbsenceExpiry dt s
  | .hifRunSet value => Sys2Proof.Machine.execHifRunSet value s
  | .hifRunClear value => Sys2Proof.Machine.execHifRunClear value s
  | .runStopComplete dt => Sys2Proof.Machine.execRunStopComplete dt s
  | .hifHostAlive value => Sys2Proof.Machine.execHifHostAlive value s
  | .hifCntClr value => Sys2Proof.Machine.execHifCntClr value s
  | .hifOvlClr value => Sys2Proof.Machine.execHifOvlClr value s
  | .hifExpClr value => Sys2Proof.Machine.execHifExpClr value s
  | .hifRoClr value => Sys2Proof.Machine.execHifRoClr value s
  | .hifCsxClr value => Sys2Proof.Machine.execHifCsxClr value s
  | .hifPipeClr value => Sys2Proof.Machine.execHifPipeClr value s
  | .hifTrkClr value => Sys2Proof.Machine.execHifTrkClr value s
  | .hifEjClr value => Sys2Proof.Machine.execHifEjClr value s
  | .hifWvClr value => Sys2Proof.Machine.execHifWvClr value s
  | .hifPcieClr value => Sys2Proof.Machine.execHifPcieClr value s
  | .ringClr value => Sys2Proof.Machine.execRingClr value s
  | .ringDropClr value => Sys2Proof.Machine.execRingDropClr value s
  | .pllClr value => Sys2Proof.Machine.execPllClr value s
  | .sprClr value => Sys2Proof.Machine.execSprClr value s
  | .fltClr value => Sys2Proof.Machine.execFltClr value s
  | .icxCntClr value => Sys2Proof.Machine.execIcxCntClr value s
  | .icxErrClr value => Sys2Proof.Machine.execIcxErrClr value s
  | .roFactDefectsClr value => Sys2Proof.Machine.execRoFactDefectsClr value s
  | .thmPeakClr value => Sys2Proof.Machine.execThmPeakClr value s
  | .pwrSleepAbortClr value => Sys2Proof.Machine.execPwrSleepAbortClr value s
  | .registerWrite space offset width value => Sys2Proof.Machine.execRegisterWrite space offset width value s
  | .nop q => Sys2Proof.Machine.execNop q s
  | .stageReg q => Sys2Proof.Machine.execStageReg q s
  | .setMode q => Sys2Proof.Machine.execSetMode q s
  | .tableLoad q data => Sys2Proof.Machine.execTableLoad q data s
  | .tableLoadComplete dt q => Sys2Proof.Machine.execTableLoadComplete dt q s
  | .tableSwap q => Sys2Proof.Machine.execTableSwap q s
  | .commit q => Sys2Proof.Machine.execCommit q s
  | .discard q => Sys2Proof.Machine.execDiscard q s
  | .bundle q data => Sys2Proof.Machine.execBundle q data s
  | .sqTailDoorbell ring value => Sys2Proof.Machine.execSqTailDoorbell ring value s
  | .cqHeadDoorbell ring value => Sys2Proof.Machine.execCqHeadDoorbell ring value s
  | .ringEnable ring value => Sys2Proof.Machine.execRingEnable ring value s
  | .ringDisable ring value => Sys2Proof.Machine.execRingDisable ring value s
  | .descriptorFetch dt ring data => Sys2Proof.Machine.execDescriptorFetch dt ring data s
  | .bufferFetch dt ring data => Sys2Proof.Machine.execBufferFetch dt ring data s
  | .bufferFlushTimeout dt ring => Sys2Proof.Machine.execBufferFlushTimeout dt ring s
  | .moderationTimeout dt ring => Sys2Proof.Machine.execModerationTimeout dt ring s
  | .archiveEnable value => Sys2Proof.Machine.execArchiveEnable value s
  | .archiveBlockFlush dt kind cam => Sys2Proof.Machine.execArchiveBlockFlush dt kind cam s
  | .perstNRelease dt => Sys2Proof.Machine.execPerstNRelease dt s
  | .linkRetrain value => Sys2Proof.Machine.execLinkRetrain value s
  | .laneFailClr value => Sys2Proof.Machine.execLaneFailClr value s
  | .pcieCorrectableError dt lane => Sys2Proof.Machine.execPcieCorrectableError dt lane s
  | .functionLevelReset fn => Sys2Proof.Machine.execFunctionLevelReset fn s
  | .busMasterDisable fn => Sys2Proof.Machine.execBusMasterDisable fn s
  | .hotReset dt kind => Sys2Proof.Machine.execHotReset dt kind s
  | .d3hotEntry fn => Sys2Proof.Machine.execD3hotEntry fn s
  | .d0Return fn => Sys2Proof.Machine.execD0Return fn s
  | .msixVectorUnmask fn vec => Sys2Proof.Machine.execMsixVectorUnmask fn vec s
  | .ctxRead => Sys2Proof.Machine.execCtxRead s
  | .idRead => Sys2Proof.Machine.execIdRead s
  | .certRead => Sys2Proof.Machine.execCertRead s
  | .quote => Sys2Proof.Machine.execQuote s
  | .factDefects => Sys2Proof.Machine.execFactDefects s
  | .fwWrite data => Sys2Proof.Machine.execFwWrite data s
  | .fwActivate => Sys2Proof.Machine.execFwActivate s
  | .fwConfirm => Sys2Proof.Machine.execFwConfirm s
  | .ownerEnroll data => Sys2Proof.Machine.execOwnerEnroll data s
  | .digestExpect => Sys2Proof.Machine.execDigestExpect s
  | .digestRead => Sys2Proof.Machine.execDigestRead s
  | .lifecycle => Sys2Proof.Machine.execLifecycle s
  | .calRun meas => Sys2Proof.Machine.execCalRun meas s
  | .calSnapshot => Sys2Proof.Machine.execCalSnapshot s
  | .flatAcquire => Sys2Proof.Machine.execFlatAcquire s
  | .spareAssign => Sys2Proof.Machine.execSpareAssign s
  | .selftestUnit => Sys2Proof.Machine.execSelftestUnit s
  | .faultRead => Sys2Proof.Machine.execFaultRead s
  | .journalRead => Sys2Proof.Machine.execJournalRead s
  | .powerState => Sys2Proof.Machine.execPowerState s
  | .powerStateEntry dt => Sys2Proof.Machine.execPowerStateEntry dt s
  | .wake dt source => Sys2Proof.Machine.execWake dt source s
  | .loopLockLoss dt p => Sys2Proof.Machine.execLoopLockLoss dt p s
  | .standIn dt role => Sys2Proof.Machine.execStandIn dt role s
  | .loopRelock dt p => Sys2Proof.Machine.execLoopRelock dt p s
  | .refInLoss dt => Sys2Proof.Machine.execRefInLoss dt s
  | .refInGood dt => Sys2Proof.Machine.execRefInGood dt s
  | .powerupCalibration dt found => Sys2Proof.Machine.execPowerupCalibration dt found s
  | .backgroundDriftMeasure dt meas => Sys2Proof.Machine.execBackgroundDriftMeasure dt meas s
  | .calDataAccess write => Sys2Proof.Machine.execCalDataAccess write s
  | .calDlistClr value => Sys2Proof.Machine.execCalDlistClr value s
  | .thermalSample dt counts => Sys2Proof.Machine.execThermalSample dt counts s
  | .shutdownComplete dt => Sys2Proof.Machine.execShutdownComplete dt s
  | .graceExpiry dt => Sys2Proof.Machine.execGraceExpiry dt s
  | .faultBucketLeak dt source inst => Sys2Proof.Machine.execFaultBucketLeak dt source inst s
  | .selftestTurn dt cls => Sys2Proof.Machine.execSelftestTurn dt cls s
  | .selftestComplete dt cls pass patterns => Sys2Proof.Machine.execSelftestComplete dt cls pass patterns s
  | .bistShutdown value => Sys2Proof.Machine.execBistShutdown value s
  | .moultComplete dt results => Sys2Proof.Machine.execMoultComplete dt results s
  | .resetNAssert dt => Sys2Proof.Machine.execResetNAssert dt s
  | .resetNRelease dt results => Sys2Proof.Machine.execResetNRelease dt results s
  | .brownout dt => Sys2Proof.Machine.execBrownout dt s
  | .railFault dt => Sys2Proof.Machine.execRailFault dt s
  | .standbyReady dt => Sys2Proof.Machine.execStandbyReady dt s
  | .trialTimeout dt => Sys2Proof.Machine.execTrialTimeout dt s
  | .coachmanWatchdogExpiry dt core => Sys2Proof.Machine.execCoachmanWatchdogExpiry dt core s
  | .secAlarm dt => Sys2Proof.Machine.execSecAlarm dt s
  | .journalCompaction dt => Sys2Proof.Machine.execJournalCompaction dt s
  | .entdaa addr => Sys2Proof.Machine.execEntdaa addr s
  | .setdasa addr => Sys2Proof.Machine.execSetdasa addr s
  | .rstdaa => Sys2Proof.Machine.execRstdaa s
  | .getpid => Sys2Proof.Machine.execGetpid s
  | .getbcr => Sys2Proof.Machine.execGetbcr s
  | .getdcr => Sys2Proof.Machine.execGetdcr s
  | .getstatus => Sys2Proof.Machine.execGetstatus s
  | .getmrl => Sys2Proof.Machine.execGetmrl s
  | .getmwl => Sys2Proof.Machine.execGetmwl s
  | .enec events => Sys2Proof.Machine.execEnec events s
  | .disec events => Sys2Proof.Machine.execDisec events s
  | .i3cId => Sys2Proof.Machine.execI3cId s
  | .i3cStatus => Sys2Proof.Machine.execI3cStatus s
  | .i3cTemps => Sys2Proof.Machine.execI3cTemps s
  | .i3cTick => Sys2Proof.Machine.execI3cTick s
  | .i3cFault => Sys2Proof.Machine.execI3cFault s
  | .i3cWake => Sys2Proof.Machine.execI3cWake s
  | .i3cRequest arg => Sys2Proof.Machine.execI3cRequest arg s
  | .icxHclaim => Sys2Proof.Machine.execIcxHclaim s
  | .icxHfclaim => Sys2Proof.Machine.execIcxHfclaim s
  | .icxHcomplete value => Sys2Proof.Machine.execIcxHcomplete value s
  | .icxHfcomplete value => Sys2Proof.Machine.execIcxHfcomplete value s
  | .icxLockRead reader => Sys2Proof.Machine.execIcxLockRead reader s
  | .icxLockRelease reader value => Sys2Proof.Machine.execIcxLockRelease reader value s
  | .icxLockTimeout dt => Sys2Proof.Machine.execIcxLockTimeout dt s
  | .hostClaimWindowExpiry dt src => Sys2Proof.Machine.execHostClaimWindowExpiry dt src s
  | .icxPendWrite word value => Sys2Proof.Machine.execIcxPendWrite word value s
  | .icxMaskWrite word value => Sys2Proof.Machine.execIcxMaskWrite word value s
  | .internalMessage dt cls role epoch => Sys2Proof.Machine.execInternalMessage dt cls role epoch s
  | .csiDeskewComplete dt => Sys2Proof.Machine.execCsiDeskewComplete dt s
  | .linkUp dt lanes speed => Sys2Proof.Machine.execLinkUp dt lanes speed s
  | .nvmProgramSequenceComplete dt ok => Sys2Proof.Machine.execNvmProgramSequenceComplete dt ok s
  | .brownoutResetExit dt results => Sys2Proof.Machine.execBrownoutResetExit dt results s
  | .moultStart dt => Sys2Proof.Machine.execMoultStart dt s
  | .coachmanIcxClaim core fast => Sys2Proof.Machine.execCoachmanIcxClaim core fast s
  | .coachmanIcxComplete core fast value => Sys2Proof.Machine.execCoachmanIcxComplete core fast value s
  | .jtagInstruction ins => Sys2Proof.Machine.execJtagInstruction ins s

end Sys2Proof.Machine
end

