-- ==== Sys2Proof/Safety.lean ====
section
/-! DEFINITION. The terms in which the statements speak: what an observer of the block reads, what a step leaves as it
was, and the properties that every step keeps. -/

namespace Sys2Proof.Safety

open Sys2Proof.Machine

/-- Every register but those that `p` picks out reads as before. -/
def RegsKept (s t : State) (p : Nat → Prop) : Prop := ∀ a, ¬ p a → t.reg a = s.reg a

/-- Every byte of host memory that `p` does not pick out is as before. -/
def MemKept (s t : State) (p : Nat → Prop) : Prop := ∀ a, ¬ p a → t.memByte a = s.memByte a

/-- The addresses of `n` bytes from `a` on, as the 64-bit address bus has them. -/
def span (a n : Nat) : Nat → Prop := fun x => a % 2 ^ 64 ≤ x ∧ x < a % 2 ^ 64 + n

/-- The mailbox command with descriptor `d` and opcode `op` stands at the head of the mailbox SQ, the life-cycle state
grants it, and `d` is well formed: beside OPCODE, TAG and the ranges `used`, which its opcode defines, it holds zeros,
its buffer is aligned (R365, R387, R503), and the device may reach host memory where the command has a buffer (R321, R327,
R331). -/
def MailboxTakes (s : State) (op : Nat) (used : List (Nat × Nat)) (d : List Byte) : Prop :=
  s.headFor mboxSq op = some d ∧ mailboxGranted s.nvm.rights op = true ∧
    unusedZero d ([(0, 1), (2, 2)] ++ used) = true ∧ bytesAt d 8 8 % 64 = 0 ∧
    (used.any (fun u => u.1 == 8) = true → s.canDma 1 = true)

/-- R331, R361: the registers of the ring block read their reset values, but that RING_ARCH_DROP counts the archive blocks that
were open (log 8). -/
def RingBlockReset (s t : State) : Prop := ∀ a, 0x5000 ≤ a → a < 0x6000 →
  t.reg a = if a = Reg.RING_ARCH_DROP then
    BitVec.ofNat 32 (min (2 ^ 32 - 1) (s.archive.blocks.filter fun e => e.2.items != 0).length) else regReset a

/-- What the part keeps for good: the life-cycle state, the rights in force, and whether the identity keys are erased. -/
structure Standing where
  lifecycle : Nat
  rights : Nat
  keysErased : Bool
  deriving DecidableEq, Repr

/-- The standing of a state. -/
def standing (s : State) : Standing := ⟨s.nvm.lifecycle, s.nvm.rights, s.nvm.keysErased⟩

/-- R501, R502: the life-cycle state is one of the six, and a SCRAPPED part has the rights of a SCRAPPED part and no
identity key. -/
def Standing.Legal (x : Standing) : Prop :=
  x.lifecycle ≤ 5 ∧ x.rights ≤ 5 ∧ (x.lifecycle = 5 → x.rights = 5 ∧ x.keysErased = true)

/-- The invariant of the life cycle. -/
def LifecycleLegal (s : State) : Prop := (standing s).Legal

/-- The registers and the host memory are in their canonical forms: addresses strictly rising, and no entry that repeats
what an unlisted address reads as. -/
def StoresCanonical (s : State) : Prop :=
  Store.wf regReset s.regs = true ∧ Store.wf (fun _ => (0 : Byte)) s.hostMem = true

end Sys2Proof.Safety
end

