-- ==== Sys2Proof/Certificates/Slice0/Obligations.lean ====
section
/-! DEFINITION. The statements about the machine, for the provers. -/

open Sys2Proof Sys2Proof.Machine Sys2Proof.Safety

/-- A step carries out the command at the front of the queue on the rest of the queue. For every command c, queue q and
state s: step of s with queue c :: q is exec of c on s with queue q. (The row's cut: commands in a queue
(opcode_table.json)) -/
def Obligations.StepRunsFrontCommand : Prop :=
  ∀ (c : Instr) (q : List Instr) (s : State), step { s with pending := c :: q } = exec c { s with pending := q }

/-- With an empty queue 1 ns passes: the model's clock, and the timebase where it runs (DESIGN CHOICE, log 1). With
nothing pending a step answers a next state in which the model's clock is 1 higher, the timebase is 1 higher exactly
where it runs, no register below the gated counters changes, and host memory, the rings and the queue stay. That 1 ns
passes is the model's own choice (log 1). (spec/11_timebase.md (the timebase counts ns), notes/assumptions/1.md) -/
def Obligations.EmptyQueueLetsOneNsPass : Prop :=
  ∀ s : State, s.pending = [] →
    ∃ t, step s = .next t ∧ t.now = s.now + 1 ∧ t.tb = (if s.tbRuns then s.tb + 1 else s.tb) ∧
      (∀ a, a < Reg.GC_LO 0 → t.reg a = s.reg a) ∧ MemKept s t (fun _ => False) ∧ t.rings = s.rings ∧ t.pending = []

/-- After reset nothing runs: tick counter 0, no ring, no host access, no link; mode 7 is in force. State.reset: the tick
counter reads 0 and no edge has been taken, RUN and RUNNING read 0, HIF_MODE.MODE reads 7, READY reads 0, no ring is
enabled, no command waits, the link is down, and no access of the host to a BAR of either function acts. (The
life-cycle state FIELD at reset is the model's choice, log 14, and is not stated here.) (R20, R52, R76, R335, R363) -/
def Obligations.ResetStopsEverything : Prop :=
  State.reset.lastTick = 0 ∧ State.reset.seq.first = false ∧ State.reset.run = false ∧ State.reset.running = false ∧ State.reset.mode = 7 ∧
    State.reset.flag .HIF_READY_READY = false ∧ (∀ n, (State.reset.ring n).enabled = false) ∧
    State.reset.pending = [] ∧ State.reset.pcie.link = .down ∧ (∀ i, State.reset.barOk i = false)

/-- A write of the host to a BAR that cannot be reached, or before READY, changes nothing. Where an access of the host to
PF0 does not act (READY 0, no link, Memory Space Enable 0 or D3hot), every write of PF0 among the commands
(registers, rings, doorbells, MSI-X vectors) leaves the whole state as it was; the same for PF1 and the writes of
PF1, those of the mailbox rings, of CAL_DATA and of ICX_LOCK among them. (R335, R326, R327) -/
def Obligations.HostWritesNeedAnAccessibleDevice : Prop :=
  ∀ (s : State) (v : Word) (n16 : Fin 16) (n8 : Fin 8) (off w : Nat) (x : BitVec 64) (ring : Fin 33) (vec : Fin 64),
    (s.barOk 0 = false →
      (∀ c ∈ [Instr.hifRunSet v, .hifRunClear v, .hifHostAlive v, .hifCntClr v, .hifOvlClr v, .hifExpClr v, .hifRoClr v,
          .hifCsxClr v, .hifPipeClr v, .hifTrkClr v, .hifEjClr v, .hifWvClr v, .hifPcieClr v, .ringClr v, .ringDropClr v,
          .roFactDefectsClr v, .tbSyncArm v, .tbSyncDisarm v, .cmpValHiWrite n16 v, .cmpCtlWrite n16 v, .capRelease n8,
          .capLostClr n8, .gcClr n8 v, .ptmReq v, .archiveEnable v, .linkRetrain v, .laneFailClr v,
          .registerWrite .pf0Bar0 off w x, .registerWrite .pf0Bar2 off w x, .msixVectorUnmask 0 vec], exec c s = .next s) ∧
      (ring.val < 32 → ∀ c ∈ [Instr.sqTailDoorbell ring v, .cqHeadDoorbell ring v, .ringEnable ring v, .ringDisable ring v],
        exec c s = .next s)) ∧
    (s.barOk 1 = false →
      ∀ c ∈ [Instr.pllClr v, .sprClr v, .fltClr v, .icxCntClr v, .icxErrClr v, .thmPeakClr v, .pwrSleepAbortClr v,
        .bistShutdown v, .calDlistClr v, .icxHcomplete v, .icxHfcomplete v, .icxLockRelease 2 v, .calDataAccess (some v),
        .sqTailDoorbell 32 v, .cqHeadDoorbell 32 v, .ringEnable 32 v, .ringDisable 32 v, .msixVectorUnmask 1 vec,
        .registerWrite .pf1Bar0 off w x],
        exec c s = .next s)

/-- A write to PF0 BAR0 or BAR2 and a write of the mailbox doorbell restart the absence timer. For every register write
to an accessible PF0 BAR0 or BAR2, and for the mailbox doorbells, the operation that the command applies is made on
the state after host activity: the time of the last host activity is now. HIF_HOST_ALIVE is host activity and nothing
else. A write of configuration space and the reads of the host that are commands leave that time alone. (R47) -/
def Obligations.HostActivityRestartsAbsenceTimer : Prop :=
  (∀ (s : State) (v : Word), s.barOk 0 = true →
    ∃ t, exec (.hifHostAlive v) s = .next t ∧ t = s.hostActivity ∧ t.hostWatch.since = s.now) ∧
  (∀ (s : State) (off w : Nat) (x : BitVec 64), s.barOk 0 = true →
    ∃ t, exec (.registerWrite .pf0Bar0 off w x) s = .next t ∧ t = s.hostActivity.bar0Write off w x) ∧
  (∀ (s : State) (off w : Nat) (x : BitVec 64), s.barOk 0 = true →
    ∃ t, exec (.registerWrite .pf0Bar2 off w x) s = .next t ∧ t = s.hostActivity.bar2Write off w x) ∧
  (∀ (s : State) (v : Word), s.barOk 1 = true →
    (∃ t, exec (.sqTailDoorbell 32 v) s = .next t ∧ t = s.hostActivity.tailDoorbell 32 v.toNat) ∧
    (∃ t, exec (.cqHeadDoorbell 32 v) s = .next t ∧ t = s.hostActivity.headDoorbell mboxCq v.toNat)) ∧
  (∀ s : State, s.hostActivity.hostWatch.since = s.now) ∧
  (∀ (s t : State) (off w : Nat) (x : BitVec 64) (n : Fin 8) (c : Instr),
    c ∈ [Instr.registerWrite .pf0Cfg off w x, .registerWrite .pf1Cfg off w x, .capRiseLoRead n, .capFallHiRead n,
      .icxHclaim, .icxHfclaim, .icxLockRead 2, .calDataAccess none] →
    exec c s = .next t → t.hostWatch = s.hostWatch)

/-- The expired absence timer makes the host absent, and host activity ends the absence. HOST_ABSENCE_EXPIRY at an
expired timer: HIF_HOST_POLICY.ABSENT reads 1, the policy is staged for the first edge at least 2,000 ns later, the
absence begins now, the event 0x0001 is raised with the policy and the row in its ARGS, and nothing else changes.
HIF_HOST_ALIVE while ABSENT is 1: ABSENT reads 0, the timer restarts, the host-committed configuration is staged for
the first edge at least 2,000 ns later and the event 0x0002 is raised with the length of the absence in ms; while
ABSENT is 0 nothing but the timer changes. (What raising an event does to the rings is State.event, R383 and R384.)
(R48, R50, R383) -/
def Obligations.HostAbsenceComesAndEnds : Prop :=
  (∀ (s : State) (dt : Nat),
    let u := s.advance dt
    u.absenceRuns = true → u.flag .HIF_HOST_POLICY_ABSENT = false →
    1000000 * u.fld .HIF_HOST_TIMEOUT_TIMEOUT_MS ≤ u.now - u.hostWatch.since →
    ∃ t w : State, exec (.hostAbsenceExpiry dt) s = .next t ∧
      t = w.event 0x1 .ok 0 (leBytes 1 (u.fld .HIF_HOST_POLICY_POLICY) ++ leBytes 1 (u.fld .HIF_HOST_POLICY_ROW)) ∧
      w.flag .HIF_HOST_POLICY_ABSENT = true ∧ w.hostWatch.absentSince = u.now ∧
      w.mgmt = u.mgmt ++ [⟨.policy (u.fld .HIF_HOST_POLICY_POLICY) (u.fld .HIF_HOST_POLICY_ROW), timeAfter u.tb 2000⟩] ∧
      RegsKept u w (· = Reg.HIF_HOST_POLICY) ∧
      w = { u with regs := w.regs, mgmt := w.mgmt, hostWatch := { u.hostWatch with absentSince := u.now } }) ∧
  (∀ (s : State) (v : Word), s.barOk 0 = true → s.flag .HIF_HOST_POLICY_ABSENT = true →
    ∃ t w : State, exec (.hifHostAlive v) s = .next t ∧
      t = w.event 0x2 .ok 0 (leBytes 4 ((s.now - s.hostWatch.absentSince) / 1000000)) ∧
      w.flag .HIF_HOST_POLICY_ABSENT = false ∧ w.mgmt = s.mgmt ++ [⟨.policy 0 0, timeAfter s.tb 2000⟩] ∧
      RegsKept s w (· = Reg.HIF_HOST_POLICY) ∧
      w = { s with regs := w.regs, mgmt := w.mgmt, hostWatch := { s.hostWatch with since := s.now } }) ∧
  (∀ (s : State) (v : Word), s.barOk 0 = true → s.flag .HIF_HOST_POLICY_ABSENT = false →
    exec (.hifHostAlive v) s = .next { s with hostWatch := { s.hostWatch with since := s.now } })

/-- Setting RUN places the first edge and clears the divider; clearing RUN takes the edges away. On an accessible PF0
whose RUN may be set and reads 0, a write of HIF_RUN with RUN 1 sets RUN, changes no other register, clears the
divider of R105, and places the first edge of INTERNAL at EXP_TICK_START where that lies at least 2,000 ns ahead and
else 2,000 ns ahead. A write with RUN 0 clears RUN and leaves no edge placed. The state meant is the one after host
activity. (R52, R104, R105, R458, R503) -/
def Obligations.RunSetAndClear : Prop :=
  (∀ (s : State) (v : Word), s.barOk 0 = true → bitOf v.toNat 0 = true →
    let u := s.hostActivity
    u.mayRun = true → u.run = false →
    ∃ t, exec (.hifRunSet v) s = .next t ∧ t.run = true ∧ RegsKept u t (· = Reg.HIF_RUN) ∧ MemKept u t (fun _ => False) ∧
      t.seq.div = 0 ∧ t.seq.due = none ∧
      t.seq.start = some (if 2000 ≤ timeDiff (BitVec.ofNat 64 (u.wide Reg.EXP_TICK_START_LO)) u.tb
        then BitVec.ofNat 64 (u.wide Reg.EXP_TICK_START_LO) else u.tb + 2000)) ∧
  (∀ (s : State) (v : Word), s.barOk 0 = true → bitOf v.toNat 0 = false →
    let u := s.hostActivity
    ∃ t, exec (.hifRunClear v) s = .next t ∧ t.run = false ∧ RegsKept u t (· = Reg.HIF_RUN) ∧ t.seq.due = none ∧
      t.seq.start = none ∧ t = { u with regs := t.regs, seq := t.seq }) ∧
  (∀ (s : State) (dt : Nat),
    let u := s.advance dt
    u.alive = true → u.run = false → u.running = true → u.frames.all (·.done) = true →
    exec (.runStopComplete dt) s =
      .next (((u.setFlag .HIF_STAT_RUNNING false).setFlag .HIF_STAT_CLAMPED false).settlePins.settleTakeOver))

/-- Each bit written 1 to a clear register returns the counters beside it to 0, and nothing else changes. For the clear
registers HIF_CNT_CLR, HIF_OVL_CLR, HIF_CSX_CLR, HIF_PIPE_CLR, HIF_EJ_CLR, HIF_WV_CLR and HIF_PCIE_CLR of PF0 and
PLL_CLR of PF1, on an accessible function: each counter beside a bit that the write holds as 1 reads 0 after it, each
beside a bit written 0 and every other register read as before, and the rest of the state is as before. A 32-bit
write of the same value at the register's offset is the same. For PF0 'before' is the state after host activity.
(R52, R76, R170, R207, R264, R294, R337, R424) -/
def Obligations.ClearRegistersReturnCountersToZero : Prop :=
  (∀ (s : State) (v : Word), s.barOk 0 = true →
    let u := s.hostActivity
    ∀ e ∈ [(Instr.hifCntClr v, 0x138, [(0, Reg.HIF_CPL_LATE), (1, Reg.HIF_TICK_EARLY), (2, Reg.HIF_WR_DISCARD)]),
        (.hifOvlClr v, 0x160, [(0, Reg.HIF_OVL_SEG), (1, Reg.HIF_OVL_DEC), (2, Reg.HIF_OVL_TICK)]),
        (.hifCsxClr v, 0x188, [(0, Reg.CSX_ECC_CORR), (0, Reg.CSX_ECC_UNCORR), (0, Reg.CSX_CRC), (0, Reg.CSX_DT_SKIP),
          (1, Reg.CSX_CAM_ERR 0), (2, Reg.CSX_CAM_ERR 1), (3, Reg.CSX_CAM_ERR 2)]),
        (.hifPipeClr v, 0x18c, [(0, Reg.PIPE_INVALID_CNT), (1, Reg.PIPE_DSP_SKIP), (2, Reg.PIPE_SHORT_BUF)]),
        (.hifEjClr v, 0x194, (List.range 8).map (fun i => (i, 0x3950 + 4 * i)) ++ [(8, Reg.CLS_FALLBACK_CNT)] ++
          (List.range 16).map (fun i => (9, Reg.CLS_CLASS i))),
        (.hifWvClr v, 0x198, [(0, Reg.WV_MISS), (1, Reg.WV_FORCED), (2, Reg.WV_REPLAY), (3, Reg.WV_EVENTS)]),
        (.hifPcieClr v, 0x1c, [(0, Reg.HIF_RESET_STAT), (1, Reg.HIF_NORING_DROP), (2, Reg.HIF_DMA_ERR), (3, Reg.HIF_LANE_ERR)])],
      exec (.registerWrite .pf0Bar0 e.2.1 4 (v.setWidth 64)) s = exec e.1 s ∧
      ∃ t, exec e.1 s = .next t ∧ (∀ p ∈ e.2.2, t.reg p.2 = if bitOf v.toNat p.1 then 0 else u.reg p.2) ∧
        RegsKept u t (fun a => ∃ p ∈ e.2.2, p.2 = a) ∧ t = { u with regs := t.regs }) ∧
  (∀ (s : State) (v : Word), s.barOk 1 = true →
    exec (.registerWrite .pf1Bar0 (Reg.PLL_CLR - 0x20000) 4 (v.setWidth 64)) s = exec (.pllClr v) s ∧
    ∃ t, exec (.pllClr v) s = .next t ∧
      (∀ p ∈ [(0, Reg.PLL_LOSS), (1, Reg.PLL_REF_LOSS), (2, Reg.PLL_EDGE_HELD)],
        t.reg p.2 = if bitOf v.toNat p.1 then 0 else s.reg p.2) ∧
      RegsKept s t (fun a => a = Reg.PLL_LOSS ∨ a = Reg.PLL_REF_LOSS ∨ a = Reg.PLL_EDGE_HELD) ∧
      t = { s with regs := t.regs })

/-- HIF_EXP_CLR, HIF_RO_CLR, HIF_TRK_CLR, RING_CLR and RING_DROP_CLR clear what their bits name. On an accessible PF0 and
relative to the state after host activity: HIF_EXP_CLR returns EXP_TRIG_LOST and FF_SUPPR_CNT to 0 and clears the
bits of FF_STAT.SUPPR written 1; HIF_RO_CLR clears RO_AXLE_CRC, RO_OOR_CNT, RO_PIXSUP_STAT.EDGE_HELD and
RO_PIXSUP_DROOP; HIF_TRK_CLR clears the six counters and with bit 6 sets TRK_LIVE_PEAK to TRK_LIVE; RING_CLR clears
the two drop counters and RING_DROP_CLR the one of each ring written 1. No other register and nothing else of the
state changes. A 32-bit write of the same value at the register's offset is the same. (R130, R156, R236, R363) -/
def Obligations.ClearRegistersWithFields : Prop :=
  ∀ (s : State) (v : Word), s.barOk 0 = true →
    let u := s.hostActivity
    (exec (.registerWrite .pf0Bar0 0x180 4 (v.setWidth 64)) s = exec (.hifExpClr v) s ∧ ∃ t, exec (.hifExpClr v) s = .next t ∧
      (∀ p ∈ [(0, Reg.EXP_TRIG_LOST), (1, Reg.FF_SUPPR_CNT)], t.reg p.2 = if bitOf v.toNat p.1 then 0 else u.reg p.2) ∧
      (∀ i, i < 8 → bitOf (t.fld .FF_STAT_SUPPR) i = (bitOf (u.fld .FF_STAT_SUPPR) i && !bitOf v.toNat (8 + i))) ∧
      RegsKept u t (fun a => a = Reg.EXP_TRIG_LOST ∨ a = Reg.FF_SUPPR_CNT ∨ a = Fld.FF_STAT_SUPPR.addr) ∧
      t = { u with regs := t.regs }) ∧
    (exec (.registerWrite .pf0Bar0 0x184 4 (v.setWidth 64)) s = exec (.hifRoClr v) s ∧ ∃ t, exec (.hifRoClr v) s = .next t ∧
      (∀ p ∈ [(0, Reg.RO_AXLE_CRC), (1, Reg.RO_OOR_CNT), (3, Reg.RO_PIXSUP_DROOP)],
        t.reg p.2 = if bitOf v.toNat p.1 then 0 else u.reg p.2) ∧
      t.fld .RO_PIXSUP_STAT_EDGE_HELD = (if bitOf v.toNat 2 then 0 else u.fld .RO_PIXSUP_STAT_EDGE_HELD) ∧
      t.flag .RO_PIXSUP_STAT_READY = u.flag .RO_PIXSUP_STAT_READY ∧ t.fld .RO_PIXSUP_STAT_MV = u.fld .RO_PIXSUP_STAT_MV ∧
      RegsKept u t (fun a => a = Reg.RO_AXLE_CRC ∨ a = Reg.RO_OOR_CNT ∨ a = Reg.RO_PIXSUP_DROOP ∨ a = Reg.RO_PIXSUP_STAT) ∧
      t = { u with regs := t.regs }) ∧
    (exec (.registerWrite .pf0Bar0 0x190 4 (v.setWidth 64)) s = exec (.hifTrkClr v) s ∧ ∃ t, exec (.hifTrkClr v) s = .next t ∧
      (∀ p ∈ [(0, Reg.SEG_SMALL), (1, Reg.SEG_SPLIT), (2, Reg.TRK_NOCTX), (3, Reg.TRK_AMBIG), (4, Reg.TRK_ORPHAN),
        (5, Reg.TRK_POSTDEC)], t.reg p.2 = if bitOf v.toNat p.1 then 0 else u.reg p.2) ∧
      t.fld .TRK_LIVE_PEAK_COUNT = (if bitOf v.toNat 6 then u.fld .TRK_LIVE_COUNT else u.fld .TRK_LIVE_PEAK_COUNT) ∧
      RegsKept u t (fun a => a ∈ [Reg.SEG_SMALL, Reg.SEG_SPLIT, Reg.TRK_NOCTX, Reg.TRK_AMBIG, Reg.TRK_ORPHAN, Reg.TRK_POSTDEC,
        Reg.TRK_LIVE_PEAK]) ∧ t = { u with regs := t.regs }) ∧
    (exec (.registerWrite .pf0Bar0 0x5824 4 (v.setWidth 64)) s = exec (.ringClr v) s ∧ ∃ t, exec (.ringClr v) s = .next t ∧
      t.fld .RING_DB_ERR_COUNT = (if bitOf v.toNat 0 then 0 else u.fld .RING_DB_ERR_COUNT) ∧
      t.fld .RING_ARCH_DROP_COUNT = (if bitOf v.toNat 1 then 0 else u.fld .RING_ARCH_DROP_COUNT) ∧
      RegsKept u t (fun a => a = Reg.RING_DB_ERR ∨ a = Reg.RING_ARCH_DROP) ∧ t = { u with regs := t.regs }) ∧
    (exec (.registerWrite .pf0Bar0 0x5828 4 (v.setWidth 64)) s = exec (.ringDropClr v) s ∧ ∃ t, exec (.ringDropClr v) s = .next t ∧
      (∀ n, n < 32 → t.fld (.RING_DROP_DROP n) = if bitOf v.toNat n then 0 else u.fld (.RING_DROP_DROP n)) ∧
      RegsKept u t (fun a => ∃ n, n < 32 ∧ a = (Fld.RING_DROP_DROP n).addr) ∧ t = { u with regs := t.regs })

/-- Register writes: only aligned 32-bit ones act; a setting is discarded and counted while RUNNING is 1, else in force
at once. On an accessible function, a write to PF0 BAR0, PF0 BAR2 or PF1 BAR0 of another width than 4 bytes or at an
unaligned offset, outside the MSI-X tables (which R319 excepts), has no effect: for PF0 nothing beyond host activity,
for PF1 nothing at all. So has an aligned 32-bit write to a reserved offset of PF0 BAR0 that no register holds. An
aligned 32-bit write to a register that STAGE_REG may name, or to HIF_MODE_INIT, on an accessible PF0, while
HIF_STAT.RUNNING is 1 or the device is owner-locked (RUNNING 0 or 1): HIF_WR_DISCARD counts one (up to its largest
value), and no other register, no byte of host memory and nothing else of the state changes beyond host activity. Any
other register of the blocks EXP to WV likewise discards and counts a write while RUNNING is 1 (R18). An aligned
32-bit write, on an accessible PF0 that is stopped and not owner-locked, to a register that STAGE_REG may name, other
than WV_SWAP (which swaps programs) and EXP_TICK_SRC with the undefined SRC 3: the register's RW bits take the
written bits, its other bits stay, and every other register and all of host memory stay, but for CSX_LINK_STAT.DESKEW
on a write of CSX_LINK_CFG. (R8, R10, R18, R319, R335, R367, R372) -/
def Obligations.RegisterWritesFollowTheRulesOfR8AndR18 : Prop :=
  (∀ (s : State) (off w : Nat) (x : BitVec 64), s.barOk 0 = true → (w ≠ 4 ∨ off % 4 ≠ 0) → (off < 0x6000 ∨ 0x6400 ≤ off) →
    ∃ t, exec (.registerWrite .pf0Bar0 off w x) s = .next t ∧ t = s.hostActivity) ∧
  (∀ (s : State) (off w : Nat) (x : BitVec 64), s.barOk 0 = true → (w ≠ 4 ∨ off % 4 ≠ 0) →
    ∃ t, exec (.registerWrite .pf0Bar2 off w x) s = .next t ∧ t = s.hostActivity) ∧
  (∀ (s : State) (off w : Nat) (x : BitVec 64), s.barOk 1 = true → (w ≠ 4 ∨ off % 4 ≠ 0) → (off < 0x3800 ∨ 0x3880 ≤ off) →
    ∃ t, exec (.registerWrite .pf1Bar0 off w x) s = .next t ∧ t = s) ∧
  (∀ (s : State) (off : Nat) (x : BitVec 64), s.barOk 0 = true → (off < 0x6000 ∨ 0x6400 ≤ off) → regRow off = none →
    ∃ t, exec (.registerWrite .pf0Bar0 off 4 x) s = .next t ∧ t = s.hostActivity) ∧
  (∀ (s : State) (off : Nat) (x : BitVec 64), s.barOk 0 = true → (stageable off = true ∨ off = Reg.HIF_MODE_INIT) →
    off % 4 = 0 → s.hostActivity.running = true ∨ s.hostActivity.ownerLocked = true →
    ∃ t, exec (.registerWrite .pf0Bar0 off 4 x) s = .next t ∧
      t.fld .HIF_WR_DISCARD_DISCARD = min (2 ^ 32 - 1) (s.hostActivity.fld .HIF_WR_DISCARD_DISCARD + 1) ∧
      RegsKept s.hostActivity t (· = Reg.HIF_WR_DISCARD) ∧ t = { s.hostActivity with regs := t.regs }) ∧
  (∀ (s : State) (off : Nat) (x : BitVec 64) (r : RegRow), s.barOk 0 = true → regRow off = some r → stageable off = false →
    off % 4 = 0 → 0x1000 ≤ off → off < 0x5000 → s.hostActivity.running = true →
    ∃ t, exec (.registerWrite .pf0Bar0 off 4 x) s = .next t ∧
      t.fld .HIF_WR_DISCARD_DISCARD = min (2 ^ 32 - 1) (s.hostActivity.fld .HIF_WR_DISCARD_DISCARD + 1) ∧
      RegsKept s.hostActivity t (· = Reg.HIF_WR_DISCARD) ∧ t = { s.hostActivity with regs := t.regs }) ∧
  (∀ (s : State) (off : Nat) (x : BitVec 64) (r : RegRow), s.barOk 0 = true → regRow off = some r → stageable off = true →
    off % 4 = 0 → off ≠ Reg.WV_SWAP → (off = Reg.EXP_TICK_SRC → getBits x.toNat 1 0 ≠ 3) →
    s.hostActivity.running = false → s.hostActivity.ownerLocked = false →
    ∃ t, exec (.registerWrite .pf0Bar0 off 4 x) s = .next t ∧
      (∀ i, i < 32 → (t.reg off).getLsbD i =
        if r.rw.testBit i then x.getLsbD i else (s.hostActivity.reg off).getLsbD i) ∧
      RegsKept s.hostActivity t (fun a => a = off ∨ (off = Reg.CSX_LINK_CFG ∧ a = Reg.CSX_LINK_STAT)) ∧
      MemKept s.hostActivity t (fun _ => False))

/-- A taken tick edge has the next number, reports the timebase as its edge time, and RUNNING reads 1 from it on.
TICK_EDGE where an admitted candidate edge has come (the device acts, RUN is 1, the timebase runs and has reached the
candidate's time, the pixel supply is ready and no role C or X is missing), whatever SRAM errors come with it: the
counter takes the next number (0 for the first, else one more, below 2^48), HIF_EDGE_TIME holds the timebase, RUNNING
reads 1, no time passes beyond dt, and the newest frame is that of the edge. With READY 0 the edge is not taken: it
counts in RO_PIXSUP_STAT.EDGE_HELD, no candidate stays, and nothing else changes; with a role C or X missing it
counts in PLL_EDGE_HELD. (R20, R21, R52, R96, R98, R419) -/
def Obligations.TickEdgeTakesItsNumberAndTime : Prop :=
  ∀ (s : State) (reads : MemoryStep) (t0 : Time),
    let u := s.advance reads.dt
    u.seq.due = some t0 → u.alive = true → u.run = true → u.tbRuns = true → reached u.tb t0 = true →
    (u.flag .RO_PIXSUP_STAT_READY = true → u.edgesHeld = false → u.nextTick < 2 ^ 48 →
      ∃ t, exec (.tickEdge reads) s = .next t ∧ t.lastTick = u.nextTick ∧ t.wide Reg.HIF_EDGE_TIME_LO = u.tb.toNat ∧
        t.seq.first = true ∧ t.running = true ∧ t.newest.map (·.tick) = some u.nextTick ∧ t.tb = u.tb ∧ t.now = u.now) ∧
    (u.flag .RO_PIXSUP_STAT_READY = false →
      ∃ t, exec (.tickEdge reads) s = .next t ∧ t.seq = { u.seq with due := none } ∧
        t.fld .RO_PIXSUP_STAT_EDGE_HELD =
          min (2 ^ Fld.RO_PIXSUP_STAT_EDGE_HELD.width - 1) (u.fld .RO_PIXSUP_STAT_EDGE_HELD + 1) ∧
        RegsKept u t (· = Reg.RO_PIXSUP_STAT) ∧ t = { u with regs := t.regs, seq := t.seq }) ∧
    (u.flag .RO_PIXSUP_STAT_READY = true → u.edgesHeld = true →
      ∃ t, exec (.tickEdge reads) s = .next t ∧ t.seq = { u.seq with due := none } ∧
        t.fld .PLL_EDGE_HELD_VALUE = min (2 ^ Fld.PLL_EDGE_HELD_VALUE.width - 1) (u.fld .PLL_EDGE_HELD_VALUE + 1) ∧
        RegsKept u t (· = Reg.PLL_EDGE_HELD) ∧ t = { u with regs := t.regs, seq := t.seq })

/-- A candidate edge becomes due, or is ignored and counted when it comes before the effective minimum tick. With the
pixel supply ready, roles C and X there and no trip. INTERNAL_PERIOD_EXPIRY: an expired period makes the edge due now
and changes no register. TRIG_IN_EDGE under EXTERNAL: an edge before the divider's last advances the divider only;
the last one restarts the divider, and the edge is due LAT ns later, or, where it comes earlier than the effective
minimum tick after the edge before, is ignored: it counts in HIF_TICK_EARLY and no edge becomes due. (R22, R104,
R105, R107, R96, R98) -/
def Obligations.TickCandidatesAreAdmittedOrIgnored : Prop :=
  (∀ (s : State) (dt : Nat),
    let u := s.advance dt
    u.ticking = true → u.tickSrc = 0 → u.internalDue = true → u.thermal.trip = none →
    u.flag .RO_PIXSUP_STAT_READY = true → u.edgesHeld = false →
    ∃ t, exec (.internalPeriodExpiry dt) s = .next t ∧ t.seq.due = some u.tb ∧ t = { u with seq := t.seq }) ∧
  (∀ (s : State) (dt : Nat) (pin : Fin 4) (rising : Bool),
    let u := (s.advance dt).setPin pin.val rising
    let v := if bitOf (u.fld .ICX_TRIG_POL) pin.val == !rising then (u.raise (38 + pin.val)).wakeFires (.trig pin) else u
    u.alive = true → v.edgesWanted = true → v.tickSrc = 1 → v.fld .EXP_TICK_SRC_PIN = pin.val →
    v.flag .EXP_TICK_SRC_POL = !rising → v.gated 2 = false → v.tbRuns = true → v.thermal.trip = none →
    v.flag .RO_PIXSUP_STAT_READY = true → v.edgesHeld = false →
    ∃ t, exec (.trigInEdge dt pin rising) s = .next t ∧
      (v.seq.div ≠ v.fld .EXP_TICK_SRC_DIV → t.seq.div = v.seq.div + 1 ∧ t.seq.due = v.seq.due ∧ t.regs = v.regs) ∧
      (v.seq.div = v.fld .EXP_TICK_SRC_DIV → t.seq.div = 0 ∧
        (v.tooEarly (v.fld .EXP_TRIG_LAT_LAT) = false →
          t.seq.due = some (timeAfter v.tb (v.fld .EXP_TRIG_LAT_LAT)) ∧ t.regs = v.regs) ∧
        (v.tooEarly (v.fld .EXP_TRIG_LAT_LAT) = true → t.seq.due = v.seq.due ∧
          t.fld .HIF_TICK_EARLY_EARLY = min (2 ^ 32 - 1) (v.fld .HIF_TICK_EARLY_EARLY + 1) ∧
          RegsKept v t (· = Reg.HIF_TICK_EARLY))))

/-- An exposure interval opens once its start has come, and its end moves the charge to the tap within the limits. At the
start of the next interval of the newest frame the frame stands open and nothing else changes. At its end the frame
stands closed with the next interval to come; a pixel that collected e electrons, and whose storage node for the tap
held q, then holds min(9000, q + min(12000, e)), and every other node keeps its charge. (R86, R87, R88, R110) -/
def Obligations.ExposureIntervalsGatherCharge : Prop :=
  (∀ (s : State) (dt : Nat) (f : Frame) (i : Interval),
    let u := s.advance dt
    u.newest = some f → (f.view u).intervals[f.interval]? = some i → f.isOpen = false → f.cut = false →
    u.tbRuns = true → (i.start : Int) ≤ u.sinceFrame f →
    ∃ t, exec (.exposureIntervalStart dt) s = .next t ∧
      t = { u with frames := u.frames.map fun x => if x.tick = f.tick then { x with isOpen := true } else x }) ∧
  (∀ (s : State) (dt : Nat) (f : Frame) (i : Interval) (pixel e : Nat),
    let u := s.advance dt
    u.newest = some f → (f.view u).intervals[f.interval]? = some i → f.isOpen = true → u.tbRuns = true →
    (i.stop : Int) ≤ u.sinceFrame f → openPixel pixel = true →
    let node := chargeTap f.mode f.tick i.tap * 2 ^ 24 + pixel
    ∃ t g, exec (.exposureIntervalEnd dt [(pixel, e)]) s = .next t ∧ t.newest = some g ∧ g.isOpen = false ∧
      g.interval = f.interval + 1 ∧
      g.nodes.get (fun _ => 0) node = min 9000 (f.nodes.get (fun _ => 0) node + min 12000 e) ∧
      (∀ k, k ≠ node → g.nodes.get (fun _ => 0) k = f.nodes.get (fun _ => 0) k) ∧ t = { u with frames := t.frames })

/-- A GATED Firefly's pulse drives its pin to the active level, is suppressed above the duty limit, and ends at its end.
FIREFLY_PULSE_START at the time of the next pulse of the newest frame: with the window's on-time, this pulse
included, within LIMIT (0 is no limit), the pin takes the active level, the Firefly is active until the pulse's end,
and its on-time counts wholly in this window; above LIMIT the pin keeps its level, FF_SUPPR_CNT counts and
FF_STAT.SUPPR shows the Firefly. FIREFLY_PULSE_END at or after the end of a pulse returns the pin to the inverse of
the active level and changes nothing else but the Firefly and the note of the edge at the pad (R302). (R114, R116) -/
def Obligations.FireflyPulsesDriveTheirPins : Prop :=
  (∀ (s : State) (dt : Nat) (f : Fin 8) (x : Frame) (p : Nat × Nat),
    let u := s.advance dt
    u.newest = some x → ((x.view u).pulses f.val)[x.pulse.get (fun _ => 0) f.val]? = some p → u.tbRuns = true →
    x.cut = false → (u.firefly f.val).active = false → (p.1 : Int) ≤ u.sinceFrame x →
    ∃ t, exec (.fireflyPulseStart dt f) s = .next t ∧
      ((x.view u).fld (.FF_DUTY_LIMIT f.val) = 0 ∨
          u.windowTime f.val + (p.2 - p.1) ≤ (x.view u).fld (.FF_DUTY_LIMIT f.val) →
        t.pin (8 + f.val) = !(x.view u).flag (.FF_CFG_POL f.val) ∧ (t.firefly f.val).active = true ∧
        (t.firefly f.val).until_ = x.clk + x.delay + p.2 ∧ (t.firefly f.val).onTime = u.windowTime f.val + (p.2 - p.1) ∧
        t.regs = u.regs) ∧
      ((x.view u).fld (.FF_DUTY_LIMIT f.val) ≠ 0 ∧
          (x.view u).fld (.FF_DUTY_LIMIT f.val) < u.windowTime f.val + (p.2 - p.1) →
        t.pins = u.pins ∧ t.fireflies = u.fireflies ∧
        t.fld .FF_SUPPR_CNT_COUNT = min (2 ^ 32 - 1) (u.fld .FF_SUPPR_CNT_COUNT + 1) ∧
        bitOf (t.fld .FF_STAT_SUPPR) f.val = true)) ∧
  (∀ (s : State) (dt : Nat) (f : Fin 8),
    let u := s.advance dt
    (u.firefly f.val).active = true → u.tbRuns = true → (u.firefly f.val).until_ ≤ u.clk →
    ∃ t, exec (.fireflyPulseEnd dt f) s = .next t ∧ t.pin (8 + f.val) = !(u.firefly f.val).level ∧
      (∀ n, n ≠ 8 + f.val → t.pin n = u.pin n) ∧ (t.firefly f.val).active = false ∧
      t = { u with pins := t.pins, tbu := t.tbu, fireflies := t.fireflies } ∧
      t.tbu = { u.tbu with lastEdge := t.tbu.lastEdge })

/-- The readout of a due frame starts; each row slot converts its rows; each Axle packet is taken in once. READOUT_START
stamps the oldest frame whose readout is due with the time that R113 gives its start (State.readoutAt: 500 ns after
its last interval; in STRIP at the next edge) and changes nothing else. ROW_SLOT, once the slot's time has run: the
packets of the slot before are taken in, the frame stands one slot further, the samples on the Axle are the
conversions of the rows of the slot with the settings of the frame's edge, the storage nodes of those rows are empty
and every other node keeps its charge, and every other frame is as before. AXLE_PACKET of a lane role that is not
lost and has not come for the slot: the lane is marked; where its CRC matches its fields, which it does where no bit
is flipped, nothing else changes; where it does not, RO_AXLE_CRC counts one and the lane that serves the role is
charged (State.charge, R474). (R113, R131, R89, R128, R136, R147, R149, R151) -/
def Obligations.ReadoutStartsAndItsSlotsConvert : Prop :=
  (∀ (s : State) (dt : Nat) (f : Frame),
    let u := s.advance dt
    u.frames.find? u.readoutDue = some f → u.tbRuns = true →
    exec (.readoutStart dt) s =
      .next { u with frames := u.frames.map fun x => if x.tick = f.tick then { x with readAt := some (u.readoutAt f) } else x }) ∧
  (∀ (s : State) (dt : Nat) (analog : List Conversion) (f : Frame),
    let u := s.advance dt
    u.reading = some f → u.slotDue f = true →
    let v := f.view u
    let rs := rowReads v f f.slot
    ∃ t g, exec (.rowSlot dt analog) s = .next t ∧ g.slot = f.slot + 1 ∧ g.tick = f.tick ∧
      g.wire = slotSamples v f analog rs ∧ g.nodes = emptyNodes v rs f.nodes ∧ g.codes = (u.deliver f).codes ∧
      (∀ k, g.nodes.get (fun _ => 0) k =
        if rs.any (fun r => r.tap == k / 2 ^ 24 &&
          (if v.binned then ((k % 2 ^ 24 / 8256 : Nat) - (12 : Int)) / 2 else (k % 2 ^ 24 / 8256 : Nat) - (12 : Int)) == r.row)
        then 0 else f.nodes.get (fun _ => 0) k) ∧
      t.frames = u.frames.map fun x => if x.tick = f.tick then g else x) ∧
  (∀ (s : State) (dt : Nat) (lane : Fin 640) (flips : Nat) (f : Frame),
    let u := s.advance dt
    u.onAxle = some f → u.gated 0 = false → f.roleLost 3 lane.val = false → f.lanes.get (fun _ => 0) lane.val = 0 →
    let taken (mark : Nat) := u.frames.map fun x =>
      if x.tick = f.tick then { x with lanes := x.lanes.set (fun _ => 0) lane.val mark } else x
    f.crcOk (f.view u) lane.val 0 = true ∧
    (f.crcOk (f.view u) lane.val flips = true →
      exec (.axlePacket dt lane flips) s = .next { u with frames := taken (flips + 2) }) ∧
    (f.crcOk (f.view u) lane.val flips = false →
      ∃ t w : State, exec (.axlePacket dt lane flips) s = .next t ∧ t = w.charge 4 (unitKey 3 (f.unit 3 lane.val)) ∧
        w.fld .RO_AXLE_CRC_CRC = min (2 ^ 32 - 1) (u.fld .RO_AXLE_CRC_CRC + 1) ∧ RegsKept u w (· = Reg.RO_AXLE_CRC) ∧
        w = { u with regs := w.regs, frames := taken 1 }))

/-- A sample of the boost shows in RO_PIXSUP_STAT; READY falls outside 3,300 to 3,550 mV and rises again on recovery.
PIXSUP_MONITOR_SAMPLE while the boost runs: MV shows the sample (at most 4,095); within the range nothing else
changes, outside it READY reads 0. PIXSUP_READY_RISE while the boost runs: READY reads 1 and no other register
changes. (R96, R97, R98) -/
def Obligations.PixelSupplyIsMonitored : Prop :=
  (∀ (s : State) (dt mv : Nat),
    let u := s.advance dt
    u.boostOn = true →
    ∃ t, exec (.pixsupMonitorSample dt mv) s = .next t ∧ t.fld .RO_PIXSUP_STAT_MV = min 4095 mv ∧
      (3300 ≤ mv → mv ≤ 3550 → t.flag .RO_PIXSUP_STAT_READY = u.flag .RO_PIXSUP_STAT_READY ∧
        RegsKept u t (· = Reg.RO_PIXSUP_STAT) ∧ t = { u with regs := t.regs }) ∧
      (mv < 3300 ∨ 3550 < mv → t.flag .RO_PIXSUP_STAT_READY = false)) ∧
  (∀ (s : State) (dt : Nat),
    let u := s.advance dt
    u.boostOn = true →
    ∃ t, exec (.pixsupReadyRise dt) s = .next t ∧ t.flag .RO_PIXSUP_STAT_READY = true ∧
      t.fld .RO_PIXSUP_STAT_MV = u.fld .RO_PIXSUP_STAT_MV ∧ RegsKept u t (· = Reg.RO_PIXSUP_STAT) ∧
      t = { u with regs := t.regs })

/-- The CSI-2 receiver takes frames, lines and their errors as the spec says. While the receiver runs. Every packet shows
the lane state that comes with it in CSX_LINK_STAT.STOP and HS (log 54). A packet whose header cannot be corrected
counts in CSX_ECC_UNCORR and nothing else happens; below, every header is good or corrected, and a corrected one
counts in CSX_ECC_CORR. A frame start on a virtual channel that one camera takes: a frame still open on the channel
goes (malformed), CSX_CAMn_FS holds the timebase, and a frame of that camera, with the size, type and pipeline of its
tick, open and with no line yet, is the newest, unless it must wait in the merge buffer and finds no room there. A
long packet that no camera takes counts in CSX_DT_SKIP (also one of a RAW type on a channel that no camera has: the
model's choice, log 32); one that cameras take adds its samples as a line to each open frame of its channel and type,
an invalid one where the CRC failed, which also counts in CSX_CRC and is charged to source 8. A deskew sets DESKEW.
The frame end of a channel with no frame open changes no frame. A waiting frame whose pipeline is free leaves the
merge buffer. (R157, R158, R159, R160, R161, R162, R166, R169, notes/assumptions/32.md, notes/assumptions/54.md) -/
def Obligations.CompanionPacketsAreReceived : Prop :=
  (∀ (s : State) (dt : Nat) (lanes : CsiLanes), let u := (s.advance dt).showLanes lanes
    u.fld .CSX_LINK_STAT_STOP = lanes.stop.toNat ∧ u.flag .CSX_LINK_STAT_HS = lanes.hs ∧
    RegsKept (s.advance dt) u (· = Reg.CSX_LINK_STAT) ∧ u = { s.advance dt with regs := u.regs }) ∧
  (∀ (s : State) (dt : Nat) (vc : Fin 16) (lanes : CsiLanes) (p : CsiPacket),
    let u := (s.advance dt).showLanes lanes
    u.csiOn = true →
    exec (.csiFrameStart dt ⟨vc, .uncorrected, lanes⟩) s = .next (u.count .CSX_ECC_UNCORR_COUNT 1) ∧
    exec (.csiFrameEnd dt ⟨vc, .uncorrected, lanes⟩) s = .next (u.count .CSX_ECC_UNCORR_COUNT 1) ∧
    exec (.csiLongPacket dt { p with header := .uncorrected, lanes := lanes }) s =
      .next (u.count .CSX_ECC_UNCORR_COUNT 1)) ∧
  (∀ (s : State) (dt : Nat) (vc : Fin 16) (header : HeaderEcc) (lanes : CsiLanes) (n : Nat),
    let u := (s.advance dt).showLanes lanes
    let v := u.camView n
    let w := { u with camFrames := u.camFrames.filter fun y => !y.isOpen vc.val }
    u.csiOn = true → header ≠ .uncorrected → u.camsOn vc.val = [n] →
    (w.mustWait v n = false ∨ v.fld (.CSX_CAM_SIZE_WIDTH (n - 1)) * v.fld (.CSX_CAM_SIZE_HEIGHT (n - 1)) ≤ w.mergeRoom) →
    ∃ t x, exec (.csiFrameStart dt ⟨vc, header, lanes⟩) s = .next t ∧ t.camFrames = w.camFrames ++ [x] ∧ x.cam = n ∧ x.vc = vc.val ∧
      x.dt = v.fld (.CSX_CAM_CFG_DT (n - 1)) ∧ x.width = v.fld (.CSX_CAM_SIZE_WIDTH (n - 1)) ∧
      x.height = v.fld (.CSX_CAM_SIZE_HEIGHT (n - 1)) ∧ x.pipe = v.fld (.CSX_CAM_STAT_PIPE (n - 1)) ∧ x.captured = u.tb ∧
      x.corrected = u.tb - BitVec.ofNat 64 (u.fld (.CSX_CAM_LAT_LAT (n - 1))) ∧ x.lines = [] ∧ x.complete = false ∧
      x.buffered = w.mustWait v n ∧ t.wide (Reg.CSX_CAM_FS_LO (n - 1)) = u.tb.toNat ∧
      t.fld .CSX_ECC_CORR_COUNT = (if header = .corrected then min (2 ^ 32 - 1) (u.fld .CSX_ECC_CORR_COUNT + 1)
        else u.fld .CSX_ECC_CORR_COUNT)) ∧
  (∀ (s : State) (dt : Nat) (p : CsiPacket),
    let u := (s.advance dt).showLanes p.lanes
    let c := if p.header = .corrected then u.count .CSX_ECC_CORR_COUNT 1 else u
    let w := if p.crcOk then c else (c.count .CSX_CRC_COUNT 1).charge 8 0
    let takes (x : CamFrame) : CamFrame := if x.isOpen p.vc.val && x.dt == p.dataType.toNat then
      { x with lines := x.lines ++ [⟨unpackRaw p.dataType.toNat p.payload, p.crcOk⟩] } else x
    u.csiOn = true → p.header ≠ .uncorrected →
    (u.takesType p.vc.val p.dataType.toNat = false →
      exec (.csiLongPacket dt p) s = .next (c.count .CSX_DT_SKIP_COUNT 1)) ∧
    (u.takesType p.vc.val p.dataType.toNat = true →
      exec (.csiLongPacket dt p) s = .next { w with camFrames := u.camFrames.map takes })) ∧
  (∀ (s : State) (dt : Nat),
    let u := s.advance dt
    u.csiOn = true →
    ∃ t, exec (.csiDeskewComplete dt) s = .next t ∧ t.flag .CSX_LINK_STAT_DESKEW = true ∧
      RegsKept u t (· = Fld.CSX_LINK_STAT_DESKEW.addr) ∧ t = { u with regs := t.regs }) ∧
  (∀ (s : State) (dt : Nat) (vc : Fin 16) (header : HeaderEcc) (lanes : CsiLanes),
    let u := (s.advance dt).showLanes lanes
    u.csiOn = true → header ≠ .uncorrected → u.openCams vc.val = [] →
    ∃ t, exec (.csiFrameEnd dt ⟨vc, header, lanes⟩) s = .next t ∧ t.camFrames = u.camFrames) ∧
  (∀ (s : State) (dt : Nat) (x : CamFrame),
    let u := s.advance dt
    u.mergeNext = some x → u.gated 1 = false →
    ∃ t, exec (.mergeBufferDispatch dt) s = .next t ∧
      t.camFrames = u.camFrames.map fun y => if y = x then { y with buffered := false } else y)

/-- A well-formed companion frame is taken for its tick at its frame end, dropped or let go; a malformed one is dropped.
CSI_FRAME_END, its header not beyond correction, on a channel with one open frame x of camera n. Malformed: the frame
goes and CSX_CAMn_ERR.MALFORMED counts. Well formed and taken under R162 for tick k: it is complete and belongs to
tick k, and its pixels count towards those of the tick on its pipeline. Well formed and dropped under R162: it goes
and CSX_CAMn_ERR.DROP counts. Otherwise (no edge has come yet) it goes. (R160, R162) -/
def Obligations.CompanionFrameEndDecidesItsTick : Prop :=
  ∀ (s : State) (dt : Nat) (vc : Fin 16) (header : HeaderEcc) (lanes : CsiLanes) (n : Fin 3) (x : CamFrame),
    let u := (s.advance dt).showLanes lanes
    u.csiOn = true → header ≠ .uncorrected → u.openCams vc.val = [x] → x.cam = n.val + 1 →
    ∃ t, exec (.csiFrameEnd dt ⟨vc, header, lanes⟩) s = .next t ∧
      (x.wellFormed = false → t.camFrames = u.camFrames.filter (fun y => !(y == x)) ∧
        t.fld (.CSX_CAM_ERR_MALFORMED n.val) = min (2 ^ 16 - 1) (u.fld (.CSX_CAM_ERR_MALFORMED n.val) + 1)) ∧
      (∀ k, x.wellFormed = true → u.takeCam x = .taken k →
        t.camFrames = (u.camFrames.map fun y => if y == x then { y with tick := some k, complete := true } else y) ∧
        t.frames = u.frames.map fun f => if f.tick = k then
          { f with camPixels := f.camPixels.modify (fun _ => 0) x.pipe (· + x.width * x.height) } else f) ∧
      (∀ st, x.wellFormed = true → u.takeCam x = .drop st → t.camFrames = u.camFrames.filter (fun y => !(y == x)) ∧
        t.fld (.CSX_CAM_ERR_DROP n.val) = min (2 ^ 16 - 1) (u.fld (.CSX_CAM_ERR_DROP n.val) + 1)) ∧
      (x.wellFormed = true → u.takeCam x = .ignore → t.camFrames = u.camFrames.filter (fun y => !(y == x)))

/-- A trigger output in COMPARE mode that has fired drives its active level for WIDTH ns and then its inactive level.
COMPARE_FIRE of a due unit that an output in COMPARE mode selects, outside STANDBY, starts a pulse of the output,
from now until WIDTH ns from now, at the level that POL makes active. TRIG_OUT_ACTIVE at the time of a started pulse
(of a compare unit, or OFS ns after an edge in TICK mode): with the output inactive the pin takes the pulse's level
and the output is active until the pulse's end; a pulse under way keeps its level and ends at the later of the two
ends (the model's reading of pulses that overlap, log 31); the pulse is used up, and no other pin and no register
changes. TRIG_OUT_INACTIVE at or after the end: the pin takes the rest level and the output is inactive. (R168, R300,
notes/assumptions/31.md) -/
def Obligations.TriggerOutputsPulse : Prop :=
  (∀ (s : State) (dt : Nat) (k : Fin 4) (n : Fin 16),
    let u := s.advance dt
    u.compareDue n.val = true → u.standby = false → u.fld (.CSX_TO_CFG_MODE k.val) = 2 → u.fld (.CSX_TO_CFG_CMP k.val) = n.val →
    ∃ t, exec (.compareFire dt n) s = .next t ∧ (t.trigOut k.val).queue = (u.trigOut k.val).queue ++
      [⟨u.clk, u.clk + u.fld (.CSX_TO_WIDTH_VALUE k.val), !u.flag (.CSX_TO_CFG_POL k.val)⟩]) ∧
  (∀ (s : State) (dt : Nat) (k : Fin 4) (p : TrigPulse),
    let u := s.advance dt
    u.alive = true → u.standby = false → u.tbRuns = true → (u.trigOut k.val).queue.find? (fun q => decide (q.at_ ≤ u.clk)) =
      some p →
    ∃ t, exec (.trigOutActive dt k) s = .next t ∧
      t.pin (4 + k.val) = (if (u.trigOut k.val).active then (u.trigOut k.val).level else p.level) ∧
      (∀ n, n ≠ 4 + k.val → t.pin n = u.pin n) ∧ (t.trigOut k.val).active = true ∧
      (t.trigOut k.val).until_ = (if (u.trigOut k.val).active then max (u.trigOut k.val).until_ p.until_ else p.until_) ∧
      (t.trigOut k.val).queue = (u.trigOut k.val).queue.erase p ∧
      t = { u with pins := t.pins, tbu := t.tbu, trigOuts := t.trigOuts } ∧
      t.tbu = { u.tbu with lastEdge := t.tbu.lastEdge }) ∧
  (∀ (s : State) (dt : Nat) (k : Fin 4),
    let u := s.advance dt
    (u.trigOut k.val).active = true → u.tbRuns = true → (u.trigOut k.val).until_ ≤ u.clk →
    ∃ t, exec (.trigOutInactive dt k) s = .next t ∧ t.pin (4 + k.val) = u.trigRest k.val ∧
      (∀ n, n ≠ 4 + k.val → t.pin n = u.pin n) ∧ (t.trigOut k.val).active = false ∧
      t = { u with pins := t.pins, tbu := t.tbu, trigOuts := t.trigOuts } ∧
      t.tbu = { u.tbu with lastEdge := t.tbu.lastEdge })

/-- A pipeline processes the frame that is next for it, and the frame is marked as processed. PIPELINE_FRAME with the X
domain clocked, whatever SRAM errors come with it (they act first). Camera 0, where its oldest unprocessed frame has
been read and its tick is over: the frame goes through the pipeline, and every frame of its tick that is still held
is marked processed for camera 0; COMMITs that waited for a flat acquisition that the frame ends are tried again.
Camera 1 to 3, where a taken frame of the camera waits: that frame is no longer waiting. (R128, R163, R171, R172,
R202) -/
def Obligations.PipelineTakesTheNextFrame : Prop :=
  (∀ (s : State) (reads : MemoryStep) (f : Frame),
    let u := s.advance reads.dt
    let v := u.sramErrors u.errorTick reads.sram
    let w := (v.pipeOwn f).dropClaims.dropFrames.settleDrain
    u.gated 1 = false → u.alive = true → v.nextOwn = some f → v.ownDue f = true →
    ∃ t, exec (.pipelineFrame reads 0) s = .next t ∧
      t = (if u.cal.flat.isSome && w.cal.flat.isNone then w.retryCommits else w) ∧
      ∀ g ∈ t.frames, g.tick = f.tick → 0 ∈ g.piped) ∧
  (∀ (s : State) (reads : MemoryStep) (cam : Fin 4) (x : CamFrame),
    let u := s.advance reads.dt
    let v := u.sramErrors u.errorTick reads.sram
    u.gated 1 = false → u.alive = true → cam.val ≠ 0 → v.nextCam cam.val = some x →
    ∃ t, exec (.pipelineFrame reads cam) s = .next t ∧ t.camFrames = v.camFrames.filter fun y => !(y == x))

/-- A tracker round handles the next round of the frame at work; of a command of the other kind only the SRAM errors act
(log 2). TRACKER_ROUND where the next round of the frame at work is one of the own array: the SRAM errors given are
taken in, the round is run with the settings of the frame, and the round is over; COMPANION_ROUND likewise for a
round of a companion. Where the next round is of the other kind, the command runs no round and only the SRAM errors
that come with it act (log 2, DEDUCED: a command whose event is not due changes nothing of its own).
TRACKER_BANK_COPY_COMPLETE: no bank copy runs any more, and each change that waited for its copy may take effect from
2,000 ns on. (R216, R223, R226, R233, notes/assumptions/2.md) -/
def Obligations.TrackerRoundsRunInOrder : Prop :=
  (∀ (s : State) (dt : Nat) (sram : SramErrors) (f : Frame) (r : Round),
    let u := s.advance dt
    u.gated 1 = false → u.alive = true → u.roundFrame = some f → f.nextRound = some r →
    let w := u.sramErrors f.tick sram
    (r.cam = 0 →
      exec (.trackerRound dt sram) s = .next ((w.ownRound (f.view w) f r).endRound f r) ∧
      exec (.companionRound dt sram) s = .next w) ∧
    (r.cam ≠ 0 →
      exec (.companionRound dt sram) s = .next ((w.companionRound (f.view w) f r).endRound f r) ∧
      exec (.trackerRound dt sram) s = .next w)) ∧
  (∀ (s : State) (dt : Nat),
    let u := s.advance dt
    u.gated 1 = false → u.alive = true →
    ∃ t, exec (.trackerBankCopyComplete dt) s = .next t ∧ t.flag .TRK_BANK_STAT_COPYING = false ∧
      t.spares.queue = u.spares.queue.map (fun q =>
        if q.copying then { q with copying := false, earliest := timeAfter u.tb 2000 } else q) ∧
      RegsKept u t (· = Fld.TRK_BANK_STAT_COPYING.addr))

/-- A due evaluation of the exposure governor changes no setting itself: it stages at most one change of durations.
GOVERNOR_EVALUATE where an evaluation is due: the evaluation is noted for the last tick; no register but EXP_GOV_STAT
changes, and either nothing is staged, or one management-staged change of durations, which applies no earlier than
2,000 ns later and no earlier than two edges after the edge of the evaluated frame. (R119, R121, R122, R16) -/
def Obligations.GovernorStagesItsChange : Prop :=
  ∀ (s : State) (dt : Nat),
    let u := s.advance dt
    u.govDue = true →
    ∃ t, exec (.governorEvaluate dt) s = .next t ∧ t.gov.last = u.lastTick + 1 ∧ RegsKept u t (· = Reg.EXP_GOV_STAT) ∧
      (t.mgmt = u.mgmt ∨ ∃ x ws, u.statFrame = some x ∧
        t.mgmt = u.mgmt ++ [⟨.durations ws (x.tick + 2), timeAfter u.tb 2000⟩])

/-- At L less PREP the record of a port's next latch, or of a role's next direct edges, joins those handed and
unacknowledged. CHAIN_RECORD_HANDOVER once the timebase has reached the next latch time l of port p less PREP: the
role p has one more unacknowledged record, which begins with l, low half first. DIRECT_RECORD_HANDOVER likewise for
role r: the record is the time and one word. (R260, R280, R281, R282, R283) -/
def Obligations.ValveRecordsAreHandedToTheirRoles : Prop :=
  (∀ (s : State) (dt : Nat) (p : Fin 16) (l : Time),
    let u := s.advance dt
    earliest ((u.ej.pulses.filter fun q => !q.direct && q.port == p.val).map (·.nextEdge)) = some l → u.alive = true →
    u.tbRuns = true → reached u.tb (timeShift l (-(u.fld (.WV_PORT_PREP_PREP p.val) : Int))) = true →
    ∃ t image, exec (.chainRecordHandover dt p) s = .next t ∧
      (t.wvRole p.val).unacked = (u.wvRole p.val).unacked ++ [⟨timeWords l ++ image, false⟩] ∧
      image.length = (u.fld (.WV_PORT_CFG_LENGTH p.val) + 31) / 32) ∧
  (∀ (s : State) (dt : Nat) (r : Fin 16) (l : Time),
    let u := s.advance dt
    earliest ((u.ej.pulses.filter fun q => q.direct && u.fld (.WV_DIR_ROLE q.pos) == r.val).map (·.nextEdge)) = some l →
    u.alive = true → u.tbRuns = true → reached u.tb (timeShift l (-(u.fld .WV_DIR_PREP_PREP : Int))) = true →
    ∃ t w, exec (.directRecordHandover dt r) s = .next t ∧
      (t.wvRole r.val).unacked = (u.wvRole r.val).unacked ++ [⟨timeWords l ++ [w], false⟩])

/-- TSYNC: arming, the load at the selected edge, and the output pulse's end. A write of TB_SYNC_CTL with ARM 1 and
DISARM 0 arms and takes POL; one with DISARM 1 disarms, also with ARM 1 beside it, which R307 leaves open (the
model's own choice, log 15, DESIGN CHOICE); no other register changes. An edge of the armed polarity at TSYNC_IN
while the timebase runs loads TB_SYNC_VAL, as it stands at the edge (R307 says only that ARM arms a load with the
value; the model's own choice, log 16, DESIGN CHOICE), into the timebase, reports the signed step in TB_SYNC_DELTA,
sets LOADED, disarms and leaves the elapsed-time counter alone (R107). TSYNC_OUT falls WIDTH ns (at least 20) after
it rose. (R307, R308, notes/assumptions/15.md, notes/assumptions/16.md) -/
def Obligations.TimebaseLoadsAtTsync : Prop :=
  (∀ (s : State) (v : Word), s.barOk 0 = true →
    let u := s.hostActivity
    (bitOf v.toNat 2 = false → ∃ t, exec (.tbSyncArm v) s = .next t ∧ t.flag .TB_SYNC_CTL_ARM = true ∧
      t.flag .TB_SYNC_CTL_POL = bitOf v.toNat 1 ∧ RegsKept u t (· = Reg.TB_SYNC_CTL) ∧ t = { u with regs := t.regs }) ∧
    (∃ t, exec (.tbSyncDisarm v) s = .next t ∧ t.flag .TB_SYNC_CTL_ARM = false ∧
      t.flag .TB_SYNC_CTL_POL = bitOf v.toNat 1 ∧ RegsKept u t (· = Reg.TB_SYNC_CTL) ∧ t = { u with regs := t.regs })) ∧
  (∀ (s : State) (dt : Nat) (rising : Bool),
    let u := s.advance dt
    u.alive = true → u.flag .TB_SYNC_CTL_ARM = true → u.flag .TB_SYNC_CTL_POL = !rising → u.tbRuns = true →
    ∃ t, exec (.tsyncInEdge dt rising) s = .next t ∧ t.tb = BitVec.ofNat 64 (u.wide Reg.TB_SYNC_VAL_LO) ∧
      t.wide Reg.TB_SYNC_DELTA_LO = (t.tb - u.tb).toNat ∧ t.flag .TB_STAT_LOADED = true ∧
      t.flag .TB_SYNC_CTL_ARM = false ∧ t.clk = u.clk ∧ t.pin 16 = rising) ∧
  (∀ (s : State) (dt at_ : Nat),
    let u := s.advance dt
    u.tbu.syncOutAt = some at_ → max 20 (u.fld .TB_SYNC_OUT_WIDTH) ≤ u.clk - at_ →
    ∃ t, exec (.tsyncOutInactive dt) s = .next t ∧ t.pin 17 = false ∧ (∀ n, n ≠ 17 → t.pin n = u.pin n) ∧ t.regs = u.regs ∧
      t.tbu.syncOutAt = none)

/-- Writes of a compare unit load and arm it; a due unit fires once, or reloads by whole periods. A write of CMPn_VAL_HI
loads the 64-bit value, clears SKIP and, with EN 1, arms. A write of CMPn_CTL with EN 1 on a unit with EN 0 arms it
with the value loaded; with EN 0 disarms. COMPARE_FIRE of a due unit shows in CMP_FIRED; in one-shot mode the unit is
then not armed, in periodic mode its value has moved on by a whole number of periods of at least 100 ns, at least
one. (R299, R300) -/
def Obligations.CompareUnitsArmAndFire : Prop :=
  (∀ (s : State) (n : Fin 16) (v : Word), s.barOk 0 = true →
    let u := s.hostActivity
    (∃ t, exec (.cmpValHiWrite n v) s = .next t ∧ t.reg (Reg.CMP_VAL_HI n.val) = v ∧
      (t.compare n.val).value = BitVec.ofNat 64 ((u.reg (Reg.CMP_VAL_LO n.val)).toNat + 2 ^ 32 * v.toNat) ∧
      t.fld (.CMP_CTL_SKIP n.val) = 0 ∧ (u.flag (.CMP_CTL_EN n.val) = true → t.flag (.CMP_CTL_ARMED n.val) = true) ∧
      RegsKept u t (fun a => a = Reg.CMP_VAL_HI n.val ∨ a = Reg.CMP_CTL n.val)) ∧
    (∃ t, exec (.cmpCtlWrite n v) s = .next t ∧ t.flag (.CMP_CTL_EN n.val) = bitOf v.toNat 0 ∧
      (bitOf v.toNat 0 = true → u.flag (.CMP_CTL_EN n.val) = false → t.flag (.CMP_CTL_ARMED n.val) = true) ∧
      (bitOf v.toNat 0 = false → t.flag (.CMP_CTL_ARMED n.val) = false) ∧
      (t.compare n.val).value = (u.compare n.val).value ∧ RegsKept u t (· = Reg.CMP_CTL n.val))) ∧
  (∀ (s : State) (dt : Nat) (n : Fin 16),
    let u := s.advance dt
    u.compareDue n.val = true →
    ∃ t, exec (.compareFire dt n) s = .next t ∧ bitOf (t.fld .CMP_FIRED_FIRED) n.val = true ∧
      (u.flag (.CMP_CTL_MODE n.val) = false → t.flag (.CMP_CTL_ARMED n.val) = false) ∧
      (u.flag (.CMP_CTL_MODE n.val) = true → ∃ m, 1 ≤ m ∧ (t.compare n.val).value =
        timeAfter (u.compare n.val).value (m * max (u.fld (.CMP_PERIOD_PERIOD n.val)) 100)))

/-- An edge stamps the pair's register, or its shadow while latched; reads latch and release; the lost count clears.
CAPTURE_EDGE at an enabled pair (at a source that the device drives itself, where the pad has changed to that level
just now, log 2), the timebase running and not held and the edge before at the pad 4 ns ago or more: unlatched, the
register of the polarity takes the timebase; latched with an empty shadow, the shadow takes it and PEND reads 1;
latched with a full one, LOST counts. An edge closer than 4 ns to the one before counts in LOST and stamps nothing.
CAP_RISE_LO_READ returns the low half and latches. CAP_FALL_HI_READ returns the high half and releases the latch;
CAP_RELEASE releases it. CAP_LOST_CLR sets LOST to 0. (R302, R303, R311, notes/assumptions/2.md) -/
def Obligations.CapturePairsStampAndLatch : Prop :=
  (∀ (s : State) (dt : Nat) (n : Fin 8) (rising : Bool),
    let w := s.advance dt
    let src := w.fld (.CAP_CTL_SRC n.val)
    let u := w.toldEdge src rising
    u.hasEdge src rising = true → u.alive = true → u.flag (.CAP_CTL_EN n.val) = true → u.flag .TB_STAT_HELD = false →
    u.tbRuns = true →
    ((src < 64 ∧ w.drivesPin src = false ∧ (w.lastEdge src = 0 ∨ w.lastEdge src + 4 ≤ w.now + 1)) ∨
      u.closeEdge src = false) →
    ∃ t, exec (.captureEdge dt n rising) s = .next t ∧
      (u.flag (.CAP_STAT_LATCHED n.val) = false → t.wide (capReg n.val rising) = u.tb.toNat ∧
        t.flag (if rising then .CAP_STAT_RVALID n.val else .CAP_STAT_FVALID n.val) = true) ∧
      (u.flag (.CAP_STAT_LATCHED n.val) = true → u.shadow n.val rising = none →
        t.shadow n.val rising = some u.tb ∧ t.flag (.CAP_STAT_PEND n.val) = true ∧
        t.wide (capReg n.val rising) = u.wide (capReg n.val rising)) ∧
      (u.flag (.CAP_STAT_LATCHED n.val) = true → u.shadow n.val rising ≠ none →
        t.fld (.CAP_STAT_LOST n.val) =
          min (2 ^ (Fld.CAP_STAT_LOST n.val).width - 1) (u.fld (.CAP_STAT_LOST n.val) + 1) ∧
        t.wide (capReg n.val rising) = u.wide (capReg n.val rising))) ∧
  (∀ (s : State) (dt : Nat) (n : Fin 8) (rising : Bool),
    let w := s.advance dt
    let src := w.fld (.CAP_CTL_SRC n.val)
    let u := w.toldEdge src rising
    u.hasEdge src rising = true → u.alive = true → u.flag (.CAP_CTL_EN n.val) = true → u.flag .TB_STAT_HELD = false →
    u.tbRuns = true → u.closeEdge src = true →
    ∃ t, exec (.captureEdge dt n rising) s = .next t ∧
      t.fld (.CAP_STAT_LOST n.val) =
        min (2 ^ (Fld.CAP_STAT_LOST n.val).width - 1) (u.fld (.CAP_STAT_LOST n.val) + 1) ∧
      RegsKept u t (· = Reg.CAP_STAT n.val) ∧ t = { u with regs := t.regs }) ∧
  (∀ (s : State) (n : Fin 8), s.barOk 0 = true →
    (∃ t, exec (.capRiseLoRead n) s = .next t ∧ t.rdata = s.reg (Reg.CAP_RISE_LO n.val) ∧
      t.flag (.CAP_STAT_LATCHED n.val) = true ∧ RegsKept s t (· = Reg.CAP_STAT n.val)) ∧
    (∃ t, exec (.capFallHiRead n) s = .next t ∧ t.rdata = s.reg (Reg.CAP_FALL_HI n.val) ∧
      t.flag (.CAP_STAT_LATCHED n.val) = false) ∧
    (∃ t, exec (.capRelease n) s = .next t ∧ t.flag (.CAP_STAT_LATCHED n.val) = false ∧
      (s.hostActivity.flag (.CAP_STAT_LATCHED n.val) = true → t.shadow n.val true = none ∧ t.shadow n.val false = none)) ∧
    (∃ t, exec (.capLostClr n) s = .next t ∧ t.fld (.CAP_STAT_LOST n.val) = 0 ∧
      RegsKept s.hostActivity t (· = Reg.CAP_STAT n.val)))

/-- GCn_CTL.CLR returns a gated counter to 0; PTM dialogues are requested and their result is reported. A write of
GCn_CTL with CLR 1 returns the 64-bit count to 0 and takes EN and LEVEL. A write of TB_PTM_CTL with REQ 1 where PTM
can be sent requests a dialogue and takes AUTO. PTM_AUTO_EXPIRY, once AUTO ms have passed, requests one and starts
the next interval. PTM_DIALOGUE_COMPLETE of a requested dialogue reports master and local time and the delay, counts
TB_PTM_SEQ by one, and ends the request. (R306, R310) -/
def Obligations.GatedCountersAndPtm : Prop :=
  (∀ (s : State) (n : Fin 8) (v : Word), s.barOk 0 = true →
    ∃ t, exec (.gcClr n v) s = .next t ∧ t.wide (Reg.GC_LO n.val) = 0 ∧ t.flag (.GC_CTL_EN n.val) = bitOf v.toNat 0 ∧
      t.flag (.GC_CTL_LEVEL n.val) = bitOf v.toNat 1 ∧
      RegsKept s.hostActivity t (fun a => a = Reg.GC_CTL n.val ∨ a = Reg.GC_LO n.val ∨ a = Reg.GC_LO n.val + 4)) ∧
  (∀ (s : State) (v : Word), s.barOk 0 = true → s.hostActivity.ptmOn = true →
    ∃ t, exec (.ptmReq v) s = .next t ∧ t.tbu.ptmPending = true ∧ t.fld .TB_PTM_CTL_AUTO = getBits v.toNat 15 8 ∧
      RegsKept s.hostActivity t (· = Reg.TB_PTM_CTL)) ∧
  (∀ (s : State) (dt : Nat),
    let u := s.advance dt
    u.fld .TB_PTM_CTL_AUTO ≠ 0 → u.ptmOn = true → 1000000 * u.fld .TB_PTM_CTL_AUTO ≤ u.now - u.tbu.ptmSince →
    exec (.ptmAutoExpiry dt) s = .next { u with tbu := { u.tbu with ptmSince := u.now, ptmPending := true } }) ∧
  (∀ (s : State) (dt : Nat) (master localT : Time) (delay : Word),
    let u := s.advance dt
    u.tbu.ptmPending = true → u.ptmOn = true →
    ∃ t, exec (.ptmDialogueComplete dt master localT delay) s = .next t ∧ t.wide Reg.TB_PTM_MASTER_LO = master.toNat ∧
      t.wide Reg.TB_PTM_LOCAL_LO = (timeAfter localT delay.toNat).toNat ∧ t.reg Reg.TB_PTM_DELAY = delay ∧
      t.reg Reg.TB_PTM_SEQ = u.reg Reg.TB_PTM_SEQ + 1 ∧ t.tbu.ptmPending = false)

/-- NOP, SET_TIME, WAIT_TIME and its end, as R273 gives them. Where engine e starts the operation with argument arg and
the entry's lanes driven (state v). NOP with E 0 enters NEXT at once; with E more it pauses 2.5 ns a cycle, rounded
up. SET_TIME enters NEXT; MODE 0 puts SR into the low half of the time register and MODE 1 into the high half, and
the other half stays; MODE 2 adds the argument to the time register and MODE 3 to the timebase. WAIT_TIME enters NEXT
where the time has come and waits else; TIME_REACHED ends the wait. (R273, R277) -/
def Obligations.WeevilTimeOperations : Prop :=
  (∀ (s : State) (dt : Nat) (e : Fin 18) (r arg : Nat) (v : State),
    let u := s.advance dt
    let x := v.engine e.val
    (u.startOp e.val 0 = some (r, arg, v) → ∃ t, exec (.weevilNop dt e) s = .next t ∧
      (arg % 65536 = 0 → (t.engine e.val).state = x.next ∧ (t.engine e.val).busy = .ready) ∧
      (arg % 65536 ≠ 0 → (t.engine e.val).state = x.state ∧
        (t.engine e.val).busy = .pause (v.clk + (5 * (arg % 65536) + 1) / 2)) ∧ t = { v with engines := t.engines }) ∧
    (u.startOp e.val 5 = some (r, arg, v) → ∃ t, exec (.setTime dt e) s = .next t ∧
      (t.engine e.val).state = x.next ∧ (t.engine e.val).busy = .ready ∧
      (arg % 4 = 0 → (t.engine e.val).time.toNat % 2 ^ 32 = x.sr.toNat ∧
        (t.engine e.val).time.toNat / 2 ^ 32 = x.time.toNat / 2 ^ 32) ∧
      (arg % 4 = 1 → (t.engine e.val).time.toNat / 2 ^ 32 = x.sr.toNat ∧
        (t.engine e.val).time.toNat % 2 ^ 32 = x.time.toNat % 2 ^ 32) ∧
      (arg % 4 = 2 → (t.engine e.val).time = timeAfter x.time (getBits arg 21 2)) ∧
      (arg % 4 = 3 → (t.engine e.val).time = timeAfter v.tb (getBits arg 21 2)) ∧ t.regs = v.regs) ∧
    (u.startOp e.val 6 = some (r, arg, v) → ∃ t, exec (.waitTime dt e) s = .next t ∧
      (reached v.tb x.time = true → (t.engine e.val).state = x.next ∧ (t.engine e.val).busy = .ready) ∧
      (reached v.tb x.time = false → (t.engine e.val).state = x.state ∧ (t.engine e.val).busy = .wait) ∧
      t = { v with engines := t.engines })) ∧
  (∀ (s : State) (dt : Nat) (e : Fin 18),
    let u := s.advance dt
    u.wvRun = true → (u.driving e.val).isSome = true → (u.engine e.val).busy = .wait →
    reached u.tb (u.engine e.val).time = true →
    ∃ t, exec (.timeReached dt e) s = .next t ∧ (t.engine e.val).state = (u.engine e.val).next ∧
      (t.engine e.val).busy = .ready ∧ t = { u with engines := t.engines })

/-- PULL takes the oldest TX word, PUSH appends to RX; both stall for want of a word or of room, and resume. Where engine
e starts the operation (state v). PULL with the shifter idle and a word in TX: SR is the oldest word and the engine
enters NEXT; else it stalls. PUSH with room: RX grows by one word, SR as it stands (R275 for a shift under way); else
it stalls, and a shift under way idles from then on. STALL_RESUME carries out the stalled operation once the word or
the room is there, and a shift that idled goes on. RX_FIFO_DRAIN, 10 µs or more after the last, takes the 8 oldest
words of RX. (R273, R274, R278) -/
def Obligations.WeevilFifoOperations : Prop :=
  (∀ (s : State) (dt : Nat) (e : Fin 18) (r arg : Nat) (v : State),
    let u := s.advance dt
    let x := v.engine e.val
    (u.startOp e.val 1 = some (r, arg, v) → ∃ t, exec (.pull dt e) s = .next t ∧
      (∀ w rest, x.shift = none → x.tx = w :: rest →
        (t.engine e.val).sr = w ∧ (t.engine e.val).state = x.next ∧ (t.engine e.val).busy = .ready) ∧
      (x.shift ≠ none ∨ x.tx = [] → (t.engine e.val).busy = .pull ∧ (t.engine e.val).state = x.state ∧
        t = { v with engines := t.engines })) ∧
    (u.startOp e.val 2 = some (r, arg, v) → ∃ t, exec (.push dt e) s = .next t ∧
      (x.rx.length < 64 → (t.engine e.val).rx = x.rx ++ [x.sr] ∧
        (t.engine e.val).state = x.next ∧ (t.engine e.val).busy = .ready) ∧
      (64 ≤ x.rx.length → (t.engine e.val).busy = .push ∧ (t.engine e.val).state = x.state ∧
        (t.engine e.val).shift = x.shift.map (fun h => h.pause v.clk) ∧ t = { v with engines := t.engines }))) ∧
  (∀ (s : State) (dt : Nat) (e : Fin 18) (r : Nat),
    let u := s.advance dt
    let x := u.engineNow e.val
    u.driving e.val = some r → u.wvRun = true →
    (∀ w rest, x.busy = .pull → x.shift = none → x.tx = w :: rest →
      ∃ t, exec (.stallResume dt e) s = .next t ∧ (t.engine e.val).sr = w ∧ (t.engine e.val).state = x.next ∧
        (t.engine e.val).busy = .ready) ∧
    (x.busy = .push → x.rx.length < 64 →
      ∃ t, exec (.stallResume dt e) s = .next t ∧ (t.engine e.val).rx = x.rx ++ [x.sr] ∧ (t.engine e.val).state = x.next ∧
        (t.engine e.val).busy = .ready ∧ (t.engine e.val).shift = x.shift.map (fun h => h.resume u.clk))) ∧
  (∀ (s : State) (dt : Nat) (e : Fin 18) (r : Nat),
    let u := s.advance dt
    let x := u.engine e.val
    x.role = some r → u.alive = true → x.rx ≠ [] → (x.drained = 0 ∨ x.drained + 9999 ≤ u.now) →
    ∃ t, exec (.rxFifoDrain dt e) s = .next t ∧ (t.engine e.val).rx = x.rx.drop 8 ∧
      (t.engine e.val).drained = u.now + 1)

/-- A shift starts with the bits, width and rate of its argument and ends after its clock periods; width code 3 stops.
Where engine e starts SHIFT_OUT or SHIFT_IN (state v) with the shifter idle: the shift under way has ARG's bit count,
direction, width and half period and begins now, and the engine enters NEXT; with the shifter busy the operation
waits for it. SHIFT_OUT of width code 3, which R273 calls invalid without giving it an effect, answers the fault
weevilInvalidOp (the model's own choice, log 56, DESIGN CHOICE). SHIFT_COMPLETE, once the periods have run, on an
engine ready for its next operation: the shifter is idle, and SR is what the clock periods have left in it (u is the
engine brought up to now); a PULL that waited for the shifter takes its word. (R273, R275, R271,
notes/assumptions/56.md) -/
def Obligations.WeevilShifts : Prop :=
  (∀ (s : State) (dt : Nat) (e : Fin 18) (r arg : Nat) (v : State),
    let u := s.advance dt
    let x := v.engine e.val
    (u.startOp e.val 3 = some (r, arg, v) →
      (getBits arg 6 5 = 3 → exec (.shiftOut dt e) s = .fault .weevilInvalidOp) ∧
      (getBits arg 6 5 ≠ 3 → ∃ t, exec (.shiftOut dt e) s = .next t ∧
        (x.shift = none → (t.engine e.val).state = x.next ∧ ∃ h, (t.engine e.val).shift = some h ∧ h.out = true ∧
          h.bits = arg % 32 + 1 ∧ h.width = 2 ^ getBits arg 6 5 ∧ h.half = getBits arg 10 7 ∧ h.start = v.clk) ∧
        (x.shift ≠ none → (t.engine e.val).busy = .shiftOut arg ∧ t = { v with engines := t.engines }))) ∧
    (u.startOp e.val 4 = some (r, arg, v) → ∃ t, exec (.shiftIn dt e) s = .next t ∧
      (x.shift = none → (t.engine e.val).state = x.next ∧ ∃ h, (t.engine e.val).shift = some h ∧ h.out = false ∧
        h.bits = arg % 32 + 1 ∧ h.width = 1 ∧ h.half = getBits arg 10 7 ∧ h.start = v.clk) ∧
      (x.shift ≠ none → (t.engine e.val).busy = .shiftIn arg ∧ t = { v with engines := t.engines }))) ∧
  (∀ (s : State) (dt : Nat) (e : Fin 18) (pads : List PadEdge) (h : WvShift) (r : Nat),
    let u := ((s.padEdges pads).advance dt).refreshEngine e.val
    (u.engine e.val).shift = some h → u.driving e.val = some r → u.wvRun = true → h.over u.clk = true →
    ∃ t, exec (.shiftComplete dt e pads) s = .next t ∧
      ((u.engine e.val).busy = .ready → (t.engine e.val).shift = none ∧
        (t.engine e.val).sr = (u.engine e.val).sr ∧ t.regs = u.regs) ∧
      (∀ w rest, (u.engine e.val).busy = .pull → (u.engine e.val).tx = w :: rest → (t.engine e.val).shift = none ∧
        (t.engine e.val).sr = w ∧ (t.engine e.val).state = (u.engine e.val).next))

/-- LATCH_AT drives its edge at its time: at once where the time has come, else when LATCH_EDGE finds it reached. Where
engine e starts LATCH_AT (state v), mask and levels come from the argument or, with its bit 16, from SR. With its
time reached, and no valve that opened late at a step of the timebase closed too early by it (R262), or with its time
less than 10 ns after that of the last latch: each timed lane of the mask takes its level, every other lane keeps its
own, the engine enters NEXT and notes the time of this latch. Else it waits with mask, levels and ACK. Begun more
than MISS_TOL after its time, neither for a step of the timebase nor with a replayed record, it counts in WV_MISS.
LATCH_EDGE at a reached time drives the edge of a waiting LATCH_AT in the same way. (R273, R276, R277, R262, R292) -/
def Obligations.WeevilLatches : Prop :=
  (∀ (s : State) (dt : Nat) (e : Fin 18) (r arg : Nat) (v : State),
    let u := s.advance dt
    let x := v.engine e.val
    let word := if bitOf arg 16 then x.sr.toNat else arg
    let drives := (reached v.tb x.time && !v.tooShort r) || latchClose x
    let missed := decide (after v.tb x.time > v.fld .WV_CFG_MISS_TOL) && !v.inStep r x.time &&
      !(v.wvRole r).unacked.head?.any (·.replay)
    u.startOp e.val 7 = some (r, arg, v) → ∃ t, exec (.latchAt dt e) s = .next t ∧
      (drives = true → (t.engine e.val).state = x.next ∧ (t.engine e.val).lastLatch = some x.time ∧
        ∀ l, l < 8 → bitOf (t.engine e.val).lanes l =
          if (v.lanesOf r 5).contains l && bitOf word l then bitOf word (8 + l) else bitOf x.lanes l) ∧
      (drives = false → (t.engine e.val).state = x.state ∧ (t.engine e.val).lanes = x.lanes ∧
        (t.engine e.val).busy = .latch (getBits word 7 0) (getBits word 15 8) (bitOf arg 17)) ∧
      t.fld .WV_MISS_COUNT =
        if missed then min (2 ^ 32 - 1) (v.fld .WV_MISS_COUNT + 1) else v.fld .WV_MISS_COUNT) ∧
  (∀ (s : State) (dt : Nat) (e : Fin 18) (r mask level : Nat) (ack : Bool),
    let u := s.advance dt
    let x := u.engine e.val
    u.driving e.val = some r → x.busy = .latch mask level ack → u.wvRun = true → reached u.tb x.time = true →
    u.tooShort r = false →
    ∃ t, exec (.latchEdge dt e) s = .next t ∧ (t.engine e.val).state = x.next ∧ (t.engine e.val).lastLatch = some x.time ∧
      (∀ l, l < 8 → bitOf (t.engine e.val).lanes l =
        if (u.lanesOf r 5).contains l && bitOf mask l then bitOf level l else bitOf x.lanes l) ∧ (u.thermal.trip = none → t.regs = u.regs))

/-- CAPTURE arms a lane or reads the stamp, an armed edge stamps the timebase, RAISE_EVENT counts, HALT stops the role.
Where engine e starts the operation (state v). CAPTURE MODE 0 arms its lane and polarity; MODE 1 and 2 put the low or
high half of the stamp into SR; MODE 3, which R273 calls invalid without giving it an effect, answers the fault
weevilInvalidOp (the model's own choice, log 56, DESIGN CHOICE). An armed edge at a lane that a pin names stamps the
timebase: at a pin that the device drives, where its pad takes that level just now; where it does not, nothing is
stamped and the edge stays armed (that such a command is no edge is the model's reading, logs 2 and 59, DEDUCED).
RAISE_EVENT enters NEXT and counts in WV_EVENTS. HALT halts the role and the engine, and ends a shift under way (the
end of the shift is the model's reading, log 36, DEDUCED). (R273, R278, R279, R271, notes/assumptions/2.md,
notes/assumptions/36.md, notes/assumptions/56.md, notes/assumptions/59.md) -/
def Obligations.WeevilCapturesEventsAndHalt : Prop :=
  (∀ (s : State) (dt : Nat) (e : Fin 18) (r arg : Nat) (v : State),
    let u := s.advance dt
    let x := v.engine e.val
    (u.startOp e.val 8 = some (r, arg, v) →
      (getBits arg 5 4 = 3 → exec (.capture dt e) s = .fault .weevilInvalidOp) ∧
      (getBits arg 5 4 ≠ 3 → ∃ t, exec (.capture dt e) s = .next t ∧ (t.engine e.val).state = x.next ∧
        (getBits arg 5 4 = 0 → (t.engine e.val).armed = some (arg % 8, !bitOf arg 3) ∧ (t.engine e.val).captured = false) ∧
        (getBits arg 5 4 = 1 → (t.engine e.val).sr = BitVec.ofNat 32 x.cap.toNat) ∧
        (getBits arg 5 4 = 2 → (t.engine e.val).sr = BitVec.ofNat 32 (x.cap.toNat / 2 ^ 32)) ∧
        t = { v with engines := t.engines })) ∧
    (u.startOp e.val 9 = some (r, arg, v) → ∃ t, exec (.raiseEvent dt e) s = .next t ∧
      (t.engine e.val).state = x.next ∧
      t.fld .WV_EVENTS_COUNT = min (2 ^ 32 - 1) (v.fld .WV_EVENTS_COUNT + 1)) ∧
    (u.startOp e.val 10 = some (r, arg, v) → ∃ t, exec (.halt dt e) s = .next t ∧
      (t.engine e.val).busy = .halted ∧ (t.engine e.val).shift = none ∧ (t.wvRole r).halted = true)) ∧
  (∀ (s : State) (dt : Nat) (e : Fin 18) (r lane n : Nat) (rising : Bool),
    let u := s.advance dt
    u.driving e.val = some r → (u.engine e.val).armed = some (lane, rising) →
    ((u.pinsOf r).find? fun n => u.fld (.WV_PIN_LANE n) == lane) = some n → u.wvRun = true →
    ∃ t, exec (.weevilCaptureEdge dt e) s = .next t ∧ t.regs = u.regs ∧
      (u.drivesPin (64 + n) = false ∨ (u.wvPin n = rising ∧ u.padEdge (64 + n) = true) →
        (t.engine e.val).cap = u.tb ∧ (t.engine e.val).captured = true ∧ (t.engine e.val).armed = none) ∧
      (u.drivesPin (64 + n) = true → u.wvPin n ≠ rising ∨ u.padEdge (64 + n) = false → t = u))

/-- A pending program swap takes place at a safe state or is forced at its timeout; a role moves to its new engine.
SAFE_STATE_SWITCH of an engine that drives a role with a swap pending, at a safe state: the role runs the program of
the active bank from its ENTRY state (but for an engine that a trip has stopped, and a role left without an engine,
which stay halted) and no swap is pending. FORCED_SWAP_TIMEOUT after SWAP_TMO: WV_FORCED counts and the swap has
taken place. WEEVIL_ROLE_HANDOVER at a safe state of the old engine, or of a halted role, which moves at once (R291
names a safe state and a forced hand-over only; the model's reading, log 37, DEDUCED): the role's engine is the one
that holds the role now. (R288, R289, R291, R480, notes/assumptions/37.md) -/
def Obligations.WeevilSwapsAndHandovers : Prop :=
  (∀ (s : State) (dt : Nat) (e : Fin 18) (r : Nat),
    let u := (s.advance dt).refreshEngine e.val
    u.driving e.val = some r → u.wvRun = true → (u.wvRole r).swap.isSome = true → (u.wvRole r).move = none →
    u.atSafeState r (u.engine e.val) = true →
    ∃ t, exec (.safeStateSwitch dt e) s = .next t ∧ (t.wvRole r).swap = none ∧ (t.wvRole r).halted = u.roleLost 8 r ∧
      (t.wvRole r).bank = u.activeBank (wvKey r) ∧
      (t.engine e.val).busy = (if u.roleLost 8 r || (u.wvRole r).stopped then .halted else .ready) ∧
      (t.engine e.val).state = u.wvHeader r (u.activeBank (wvKey r)) 8 1 % 64) ∧
  (∀ (s : State) (dt : Nat) (e : Fin 18) (r since : Nat),
    let u := s.advance dt
    (u.engine e.val).role = some r → (u.wvRole r).engine = e.val → u.wvRun = true → (u.wvRole r).move = none →
    (u.wvRole r).swap = some since → since + 1000 * u.fld .WV_CFG_SWAP_TMO ≤ u.now →
    ∃ t, exec (.forcedSwapTimeout dt e) s = .next t ∧ (t.wvRole r).swap = none ∧
      t.fld .WV_FORCED_COUNT = min (2 ^ 32 - 1) (u.fld .WV_FORCED_COUNT + 1)) ∧
  (∀ (s : State) (dt : Nat) (r : Fin 16),
    let u := s.advance dt
    let w := u.wvRole r.val
    u.wvRun = true → w.move.isSome = true →
    (w.halted = true ∨ u.atSafeState r.val (u.engineNow w.engine) = true) →
    ∃ t, exec (.weevilRoleHandover dt r) s = .next t ∧ (t.wvRole r.val).engine = u.holder 8 r.val ∧
      (t.wvRole r.val).move = none)

/-- A completion with a free entry in its CQ is written as 32 bytes at the device pointer, and nowhere else. For a
completion c of an enabled ring whose CQ q holds nothing back, has a free entry, and whose function can move data:
with a the address of the device's entry of q (base plus 32 times the device pointer), the 32 bytes of host memory
from a on are the entry of R373 with the phase of the ring, every other byte is as before, the device pointer moves
to the next entry, and the phase turns where it wraps. (R349, R373, R327) -/
def Obligations.CompletionsAreWrittenToTheirQueue : Prop :=
  ∀ (s : State) (c : Cpl),
    let q := s.ringCq c.ring
    let r := s.ring q
    let a := s.ringBase q + 32 * r.dev
    let t := s.complete c
    (s.ring c.ring).enabled = true → r.held = [] → s.canDma (ringFn q) = true → s.ringLoad q + 1 < s.ringSize q →
    (∀ i, i < 32 → some (t.memByte (a % 2 ^ 64 + i)) =
      (c.bytes r.phase (c.sqHead.getD (s.ring c.ring).dev))[i]?) ∧
    MemKept s t (span a 32) ∧
    (t.ring q).dev = (if r.dev + 1 = s.ringSize q then 0 else r.dev + 1) ∧
    (t.ring q).phase = (if r.dev + 1 = s.ringSize q then !r.phase else r.phase)

/-- STAGE_REG, SET_MODE and TABLE_SWAP put their items into their group and change nothing in force; DISCARD empties it.
With a well-formed descriptor d of group g at the head of ring q of a device that is not owner-locked: STAGE_REG,
SET_MODE and TABLE_SWAP whose operands hold leave in g its items with those of the descriptor in place of earlier
ones for the same thing, and every register keeps its value; so does NOP, which leaves every group; DISCARD leaves g
empty. On an owner-locked device STAGE_REG, SET_MODE and TABLE_SWAP leave every group as it was. (R366, R367, R368,
R371) -/
def Obligations.StagingCommandsFillTheirGroup : Prop :=
  ∀ (s : State) (q : Fin 32) (d : List Byte),
    let g := bytesAt d 1 1
    let put (l : List Item) := l.foldl addItem (s.group g)
    let p := bytesAt d 4 4
    (s.headFor q.val 1 = some d → unusedZero d [(0, 4)] = true → g = 0 →
      ∃ t, exec (.nop q) s = .next t ∧ t.groups = s.groups ∧ t.regs = s.regs ∧ t = s.finishHead q.val .ok 0) ∧
    (∀ l, s.headFor q.val 2 = some d → unusedZero d [(0, 4), (4, 60)] = true → g < 16 → 1 ≤ p → p ≤ 7 →
      allZero (d.drop (8 + 8 * p)) = true →
      allItems ((List.range p).map fun i => regItems (bytesAt d (8 + 8 * i) 4) (bytesAt d (12 + 8 * i) 4)) = some l →
      groupFits (put l) = true →
      ∃ t, exec (.stageReg q) s = .next t ∧ t.regs = s.regs ∧
        (s.ownerLocked = false → t.group g = put l ∧ ∀ k, k ≠ g → t.group k = s.group k) ∧
        (s.ownerLocked = true → t.groups = s.groups)) ∧
    (∀ l, s.headFor q.val 3 = some d → unusedZero d [(0, 4), (4, 8)] = true → g < 16 → p % 2 ^ 8 < 8 → p < 2 ^ 9 →
      modeItems (p % 8) (bitOf p 8) (bytesAt d 8 4) = some l → groupFits (put l) = true →
      ∃ t, exec (.setMode q) s = .next t ∧ t.regs = s.regs ∧
        (s.ownerLocked = false → t.group g = put l ∧ ∀ k, k ≠ g → t.group k = s.group k) ∧
        (s.ownerLocked = true → t.groups = s.groups)) ∧
    (∀ l, s.headFor q.val 5 = some d → unusedZero d [(0, 4), (4, 4)] = true → g < 16 → p < 2 ^ 17 →
      swapItems (p % 256) (getBits p 15 8) (bitOf p 16) = some l → groupFits (put l) = true →
      ∃ t, exec (.tableSwap q) s = .next t ∧ t.regs = s.regs ∧
        (s.ownerLocked = false → t.group g = put l ∧ ∀ k, k ≠ g → t.group k = s.group k) ∧
        (s.ownerLocked = true → t.groups = s.groups)) ∧
    (s.headFor q.val 7 = some d → unusedZero d [(0, 4)] = true → g < 16 →
      ∃ t, exec (.discard q) s = .next t ∧ t.regs = s.regs ∧ t.group g = [] ∧ ∀ k, k ≠ g → t.group k = s.group k)

/-- A TABLE_LOAD starts and, when it completes, its bytes stand in the bank that is not active, and nowhere in the active
one. TABLE_LOAD with good operands and its data read, on a device that is not owner-locked and may read host memory:
it has started, it has joined the open loads, and no table byte has changed (State.retryCommits then looks again at
COMMITs that wait for loads). TABLE_LOAD_COMPLETE of a load that is the first of its table, whose bank is free (and,
for a flat-field table, with no acquisition that could write it next): each byte of its data stands at its offset in
the shadow bank, the active bank of the table reads as before at every offset, the bank is not marked incomplete, and
the load is gone. (R366, R369, R370, R327) -/
def Obligations.TableLoadsWriteTheShadowBank : Prop :=
  (∀ (s : State) (q : Fin 32) (d bs : List Byte),
    let p := bytesAt d 4 4
    s.headFor q.val 4 = some d → unusedZero d [(0, 4), (4, 24)] = true → bytesAt d 1 1 = 0 → s.ownerLocked = false →
    s.canDma 0 = true →
    loadOk (p % 256) (p / 256) (bytesAt d 16 4) (bytesAt d 20 4) (bytesAt d 24 4) = true → bytesAt d 8 8 % 4 = 0 →
    ∃ t w : State, exec (.tableLoad q (some bs)) s = .next t ∧ t = w.retryCommits ∧ (w.ring q.val).executing = true ∧
      w.loads = s.loads ++ [⟨q.val, p % 256, p / 256, bytesAt d 16 4, padTo (bytesAt d 20 4) bs,
        loadEntries (bytesAt d 24 4)⟩] ∧ w = { s with rings := w.rings, loads := w.loads } ∧ t.tables = s.tables ∧
      t.loads = w.loads) ∧
  (∀ (s : State) (dt : Nat) (q : Fin 32) (l : Load),
    let u := s.advance dt
    let key := tableKey l.table l.index
    let bank := 1 - u.activeBank key
    u.loads.find? (fun l => l.ring == q.val) = some l →
    (u.loads.find? fun m => m.table == l.table && m.index == l.index) = some l → u.bankFree l.ring l.table l.index = true →
    ((l.table = 0x22 ∨ l.table = 0x23) → u.cal.flat = none) →
    u.activeBank key ≤ 1 → l.offset + l.data.length ≤ 2 ^ 24 →
    ∃ t, exec (.tableLoadComplete dt q) s = .next t ∧
      (∀ i, i < l.data.length →
        some (t.tables.bytes.get tableReset (tableAddr key bank (l.offset + i))) = l.data[i]?) ∧
      (∀ o, o < 2 ^ 24 → t.tables.bytes.get tableReset (tableAddr key (u.activeBank key) o) =
        u.tables.bytes.get tableReset (tableAddr key (u.activeBank key) o)) ∧
      t.tables.incomplete.get (fun _ => false) key = false ∧ t.loads = u.loads.filter fun m => m.ring != q.val)

/-- A COMMIT that passes the check is accepted and its group is empty; a good bundle is staged, a refused one writes
nothing. With a well-formed COMMIT d of group g at the head of ring q, no load open or fetched on a bank that the
group swaps, fewer than 16 groups accepted, a target at most 2^32 ticks ahead and a group that passes the check at
its provisional edge: one more group is accepted, with the items of g, the target that d names and the tag of d; g is
empty; and nothing in force changes. BUNDLE with a well-formed descriptor d of group g at the head of ring q, host
memory within reach and all its bytes read. With a bundle of good form, accepted origin and items that pass and carry
no table data: g holds its items with those of the bundle, whether or not the device is owner-locked. With table data
beside them: once the bank of every table is free, the data stand in the shadow banks as those of table loads do, the
bundle completes with OK and its number of items, and until then it waits and nothing changes (that it waits so, and
that RESULT is the number of its items, are the model's reading, log 29, DEDUCED). With a refused origin (another
serial, or an enrolled owner whose signatures are missing or fail): every group and every table is as before. (R27,
R28, R32, R62, R370, R371, R516, R517, notes/assumptions/29.md) -/
def Obligations.CommitsAndBundles : Prop :=
  (∀ (s : State) (q : Fin 32) (d : List Byte) (target : Target),
    let g := bytesAt d 1 1
    s.headFor q.val 6 = some d → unusedZero d [(0, 4), (4, 12)] = true → g < 16 → commitTarget d = some target →
    (swapsOf (s.group g)).any (fun x => s.loadOpen x || s.loadFetched q.val x) = false → s.accepted.length < 16 → (∀ n, target = .tick n → n ≤ s.lastTick + 2 ^ 32) →
    s.acceptable (s.group g) (s.provisional target (leadOf (s.group g))) = true →
    ∃ t a, exec (.commit q) s = .next t ∧ t.accepted = s.accepted ++ [a] ∧ a.items = s.group g ∧ a.target = target ∧
      a.ring = q.val ∧ a.tag = descTag d ∧ a.at_ = s.tb ∧ t.group g = [] ∧ t.regs = s.regs ∧ t.tables = s.tables) ∧
  (∀ (s : State) (q : Fin 32) (d bs : List Byte) (signed : Bool),
    let g := bytesAt d 1 1
    let b := bs.take (bytesAt d 16 4)
    s.headFor q.val 8 = some d → unusedZero d [(0, 4), (8, 12)] = true → g < 16 → bytesAt d 8 8 % 64 = 0 →
    s.canDma 0 = true → bytesAt d 16 4 ≤ bs.length → bundleForm b (bytesAt d 16 4) = some signed →
    (∀ x, s.bundleRefused b signed = false →
      bundleItems q.val (bytesAt b 12 4) ((b.drop 64).take (bytesAt b 8 4)) = some x → x.loads = [] →
      groupFits (x.items.foldl addItem (s.group g)) = true →
      ∃ t, exec (.bundle q (some bs)) s = .next t ∧ t.group g = x.items.foldl addItem (s.group g) ∧ t.regs = s.regs) ∧
    (∀ x, s.bundleRefused b signed = false →
      bundleItems q.val (bytesAt b 12 4) ((b.drop 64).take (bytesAt b 8 4)) = some x →
      groupFits (x.items.foldl addItem (s.group g)) = true →
      let free := x.loads.all fun l => s.bankFree q.val l.table l.index && !s.loading (l.table, l.index)
      (free = true → ∃ t, exec (.bundle q (some bs)) s = .next t ∧ t.group g = x.items.foldl addItem (s.group g) ∧
        t.tables = (x.loads.foldl (fun s l => s.writeLoad l) s).tables ∧ t.regs = s.regs ∧
        t = ((x.loads.foldl (fun s l => s.writeLoad l) s).setGroup g (x.items.foldl addItem (s.group g))).finishHead q.val .ok
          (bytesAt b 12 4)) ∧
      (free = false → exec (.bundle q (some bs)) s = .next s)) ∧
    (∀ (l : Load) (o : Nat), o < l.data.length → s.activeBank (tableKey l.table l.index) ≤ 1 → l.offset + l.data.length ≤ 2 ^ 24 →
      some ((s.writeLoad l).tables.bytes.get tableReset
        (tableAddr (tableKey l.table l.index) (1 - s.activeBank (tableKey l.table l.index)) (l.offset + o))) = l.data[o]?) ∧
    (s.bundleRefused b signed = true →
      ∃ t, exec (.bundle q (some bs)) s = .next t ∧ t.groups = s.groups ∧ t.tables = s.tables ∧ t.regs = s.regs))

/-- A ring that passes the checks is enabled empty, one that fails shows its error, and an idle ring is disabled. On an
accessible function, relative to the state u after host activity (PF0) or s (the mailbox): a write of EN 1 to a ring
that is not enabled, with the configuration taken in: where the checks of R341 pass the ring is enabled with its
pointers at 0 and phase 1; where one fails it stays disabled, EN reads 0, and the ring shows the first failed check.
A write of EN 0 to an idle enabled command SQ: it is not enabled. To a stream SQ: it holds no buffer any more, EN
reads 0, and an idle one is not enabled. To a CQ: it is not enabled, unless an enabled SQ names it, when only its ERR
changes, to 5. The mailbox is enabled, or shows the check that fails, in the same way, and its CQ goes with its SQ.
(R341, R352, R363, R389) -/
def Obligations.RingsEnableAndDisable : Prop :=
  (∀ (s : State) (n : Fin 33) (v : Word), n.val < 32 → s.barOk 0 = true →
    let u := s.hostActivity
    let w := u.writeRingCfg n.val (putBit v.toNat 0 true)
    ((u.ring n.val).enabled = false →
      (w.enableErr n.val = 0 → ∃ t, exec (.ringEnable n v) s = .next t ∧ (t.ring n.val).enabled = true ∧
        (t.ring n.val).dev = 0 ∧ (t.ring n.val).host = 0 ∧ (t.ring n.val).phase = true ∧ t.regs = w.regs) ∧
      (w.enableErr n.val ≠ 0 → ∃ t, exec (.ringEnable n v) s = .next t ∧ (t.ring n.val).enabled = false ∧
        (t.ring n.val).err = w.enableErr n.val ∧ t.flag (.RING_CFG_EN n.val) = false)) ∧
    ((u.ring n.val).enabled = true → u.ringKind n.val = 0 → (u.ring n.val).fetched = [] → (u.ring n.val).bufs = [] →
      u.accepted = [] → (∀ c ∈ (u.ring (u.ringCq n.val)).held, c.ring ≠ n.val) → u.ringCq n.val ≠ n.val →
      ∃ t, exec (.ringDisable n v) s = .next t ∧ (t.ring n.val).enabled = false ∧ t.flag (.RING_CFG_EN n.val) = false ∧
        MemKept u t (fun _ => False)) ∧
    ((u.ring n.val).enabled = true → u.ringKind n.val = 1 → (u.ring n.val).fetched = [] → u.ringCq n.val ≠ n.val →
      ∃ t, exec (.ringDisable n v) s = .next t ∧ (t.ring n.val).bufs = [] ∧ t.flag (.RING_CFG_EN n.val) = false ∧
        ((u.ring n.val).bufs = [] → u.accepted = [] → (∀ c ∈ (u.ring (u.ringCq n.val)).held, c.ring ≠ n.val) →
          (t.ring n.val).enabled = false ∧ MemKept u t (fun _ => False))) ∧
    ((u.ring n.val).enabled = true → u.ringKind n.val = 2 →
      let named := (List.range 32).any fun m => (u.ring m).enabled && u.ringKind m != 2 && u.ringCq m == n.val
      ∃ t, exec (.ringDisable n v) s = .next t ∧
        (named = true → (t.ring n.val).enabled = true ∧ (t.ring n.val).err = 5 ∧ t = { u with rings := t.rings }) ∧
        (named = false → (t.ring n.val).enabled = false ∧ t.flag (.RING_CFG_EN n.val) = false ∧
          RegsKept u t (· = Reg.RING_CFG n.val) ∧ t = { u with rings := t.rings, regs := t.regs }) ∧
        ∀ m, m ≠ n.val → t.ring m = u.ring m)) ∧
  (∀ (s : State) (v : Word), s.barOk 1 = true →
    let w := s.writeRingCfg 32 (putBit v.toNat 0 true)
    ((s.ring 32).enabled = false → w.enableErr 32 ≠ 0 →
      ∃ t, exec (.ringEnable 32 v) s = .next t ∧ (t.ring mboxSq).enabled = false ∧ (t.ring mboxSq).err = w.enableErr 32 ∧
        t.flag .MGMT_CFG_EN = false ∧ t.ring mboxCq = s.ring mboxCq) ∧
    ((s.ring 32).enabled = false → w.enableErr 32 = 0 →
      ∃ t, exec (.ringEnable 32 v) s = .next t ∧ (t.ring mboxSq).enabled = true ∧ (t.ring mboxCq).enabled = true ∧
        (t.ring mboxCq).phase = true) ∧
    ((s.ring 32).enabled = true → (s.ring 32).fetched = [] → (s.ring 32).bufs = [] → s.accepted = [] →
      (s.ring mboxCq).held = [] →
      ∃ t, exec (.ringDisable 32 v) s = .next t ∧ (t.ring mboxSq).enabled = false ∧ (t.ring mboxCq).enabled = false))

/-- A tail doorbell of an enabled SQ posts entries, a head doorbell of a CQ frees them; a bad one is discarded and
counted. Relative to the state u after host activity: a tail doorbell of an enabled command or stream SQ of PF0 with
a value below its size sets the host pointer; a head doorbell of an enabled CQ that frees no more than was written
does so too; a value outside the range or, for a CQ, beyond what was written, or a doorbell of a ring that is not
enabled or of the other kind, leaves every host pointer, and RING_DB_ERR counts. The same for the tail doorbell and
the head doorbell of the mailbox on PF1, whose bad ones count in MGMT_STAT.DB_ERR. (R347, R348, R356, R363, R389) -/
def Obligations.DoorbellsMoveHostPointers : Prop :=
  (∀ (s : State) (n : Fin 33) (v : Word), n.val < 32 → s.barOk 0 = true →
    let u := s.hostActivity
    (u.ringOn n.val = true → u.ringKind n.val ≠ 2 → v.toNat < u.ringSize n.val → v.toNat < 2 ^ 16 →
      ∃ t, exec (.sqTailDoorbell n v) s = .next t ∧ (t.ring n.val).host = v.toNat ∧ (t.ring n.val).lastTail = v ∧
        (∀ m, m ≠ n.val → t.ring m = u.ring m) ∧ t = { u with rings := t.rings }) ∧
    (u.ringOn n.val = false ∨ u.ringKind n.val = 2 ∨ u.ringSize n.val ≤ v.toNat ∨ 2 ^ 16 ≤ v.toNat →
      ∃ t, exec (.sqTailDoorbell n v) s = .next t ∧ (∀ m, (t.ring m).host = (u.ring m).host) ∧
        t.fld .RING_DB_ERR_COUNT = min (2 ^ 32 - 1) (u.fld .RING_DB_ERR_COUNT + 1)) ∧
    (u.ringOn n.val = true → u.ringKind n.val = 2 → v.toNat < u.ringSize n.val → v.toNat < 2 ^ 16 →
      (v.toNat + u.ringSize n.val - (u.ring n.val).host) % u.ringSize n.val ≤ u.ringLoad n.val →
      ∃ t, exec (.cqHeadDoorbell n v) s = .next t ∧ (t.ring n.val).host = v.toNat) ∧
    (u.ringOn n.val = false ∨ u.ringKind n.val ≠ 2 ∨ u.ringSize n.val ≤ v.toNat ∨ 2 ^ 16 ≤ v.toNat ∨
        u.ringLoad n.val < (v.toNat + u.ringSize n.val - (u.ring n.val).host) % u.ringSize n.val →
      ∃ t, exec (.cqHeadDoorbell n v) s = .next t ∧ (∀ m, (t.ring m).host = (u.ring m).host) ∧
        t.fld .RING_DB_ERR_COUNT = min (2 ^ 32 - 1) (u.fld .RING_DB_ERR_COUNT + 1))) ∧
  (∀ (s : State) (v : Word), s.barOk 1 = true →
    let u := s.hostActivity
    (u.ringOn mboxSq = true → v.toNat < u.ringSize mboxSq → v.toNat < 2 ^ 16 →
      ∃ t, exec (.sqTailDoorbell 32 v) s = .next t ∧ (t.ring mboxSq).host = v.toNat ∧ (t.ring mboxSq).lastTail = v ∧
        (∀ m, m ≠ mboxSq → t.ring m = u.ring m) ∧ t.fld .MGMT_SQ_TAIL_PTR = v.toNat ∧
        RegsKept u t (· = Reg.MGMT_SQ_TAIL) ∧ t = { u with rings := t.rings, regs := t.regs }) ∧
    (u.ringOn mboxSq = false ∨ u.ringSize mboxSq ≤ v.toNat ∨ 2 ^ 16 ≤ v.toNat →
      ∃ t, exec (.sqTailDoorbell 32 v) s = .next t ∧ (∀ m, (t.ring m).host = (u.ring m).host) ∧
        t.fld .MGMT_STAT_DB_ERR = min (2 ^ Fld.MGMT_STAT_DB_ERR.width - 1) (u.fld .MGMT_STAT_DB_ERR + 1)) ∧
    (u.ringOn mboxCq = true → v.toNat < u.ringSize mboxCq → v.toNat < 2 ^ 16 →
      (v.toNat + u.ringSize mboxCq - (u.ring mboxCq).host) % u.ringSize mboxCq ≤ u.ringLoad mboxCq →
      ∃ t, exec (.cqHeadDoorbell 32 v) s = .next t ∧ (t.ring mboxCq).host = v.toNat) ∧
    (u.ringOn mboxCq = false ∨ u.ringSize mboxCq ≤ v.toNat ∨ 2 ^ 16 ≤ v.toNat ∨
        u.ringLoad mboxCq < (v.toNat + u.ringSize mboxCq - (u.ring mboxCq).host) % u.ringSize mboxCq →
      ∃ t, exec (.cqHeadDoorbell 32 v) s = .next t ∧ (∀ m, (t.ring m).host = (u.ring m).host) ∧
        t.fld .MGMT_STAT_DB_ERR = min (2 ^ Fld.MGMT_STAT_DB_ERR.width - 1) (u.fld .MGMT_STAT_DB_ERR + 1)))

/-- A fetched descriptor or buffer joins its ring and the device pointer moves on; a failed read stops the ring. Where
the device may fetch the next entry of ring n and, for a command SQ, it is its turn. DESCRIPTOR_FETCH of an entry
with a defined opcode, with the ring's head under execution or none fetched: the 64 bytes are the youngest fetched
descriptor and the device pointer has moved on by one, modulo the size; the ring has had its turn, and nothing else
changes (but that a flat-field acquisition under way notes the fetch, R446). BUFFER_FETCH of a well-formed entry: its
buffer, empty, is the youngest, the device pointer has moved on, and nothing else changes. A failed read of either
stops the ring, shows in RING_n_STAT.ERR as 1, and counts in HIF_DMA_ERR. (R323, R342, R343, R350, R351) -/
def Obligations.FetchesTakePostedEntries : Prop :=
  (∀ (s : State) (dt : Nat) (n : Fin 33),
    let u := s.advance dt
    u.mayFetch n.val 0 = true → u.fetchTurn n.val = true →
    (∀ bs, opcodeDefined n.val (descOp (padTo 64 bs)) = true → (u.ring n.val).executing = true ∨ (u.ring n.val).fetched = [] →
      ∃ t, exec (.descriptorFetch dt n (some bs)) s = .next t ∧
        (t.ring n.val).fetched = (u.ring n.val).fetched ++ [padTo 64 bs] ∧
        (t.ring n.val).dev = (if (u.ring n.val).dev + 1 = u.ringSize n.val then 0 else (u.ring n.val).dev + 1) ∧
        (∀ m, m ≠ n.val → t.ring m = u.ring m) ∧
        t = { u with rings := t.rings, cal := { u.cal with flat := t.cal.flat }
                     pcie := { u.pcie with fetchRound := t.pcie.fetchRound } } ∧
        (u.cal.flat = none → t.cal = u.cal)) ∧
    ∃ t, exec (.descriptorFetch dt n none) s = .next t ∧ (t.ring n.val).stopped = true ∧ (t.ring n.val).err = 1 ∧
      t.fld .HIF_DMA_ERR_ERR = min (2 ^ Fld.HIF_DMA_ERR_ERR.width - 1) (u.fld .HIF_DMA_ERR_ERR + 1)) ∧
  (∀ (s : State) (dt : Nat) (n : Fin 32),
    let u := s.advance dt
    u.mayFetch n.val 1 = true →
    (∀ bs b, parseBuf (padTo 64 bs) = some b →
      ∃ t, exec (.bufferFetch dt n (some bs)) s = .next t ∧ (t.ring n.val).bufs = (u.ring n.val).bufs ++ [b] ∧
        (t.ring n.val).dev = (if (u.ring n.val).dev + 1 = u.ringSize n.val then 0 else (u.ring n.val).dev + 1) ∧
        (∀ m, m ≠ n.val → t.ring m = u.ring m) ∧ t = { u with rings := t.rings }) ∧
    ∃ t, exec (.bufferFetch dt n none) s = .next t ∧ (t.ring n.val).stopped = true ∧ (t.ring n.val).err = 1 ∧
      t.fld .HIF_DMA_ERR_ERR = min (2 ^ Fld.HIF_DMA_ERR_ERR.width - 1) (u.fld .HIF_DMA_ERR_ERR + 1))

/-- The entry of a stream SQ gives its buffer: address, length and tag, with the reserved bytes 0. For every address that
is a multiple of 64 below 2^64, every length that is a multiple of 64 from 64 on below 2^32, and every tag below
2^16, the 64 bytes ADDR, LENGTH, TAG and zeros are read as exactly that empty buffer; and whatever 64 bytes are read
as a buffer have such an address and length, and zeros after the tag. (R342) -/
def Obligations.StreamEntriesReadBackAsWritten : Prop :=
  (∀ addr len tag : Nat, addr < 2 ^ 64 → addr % 64 = 0 → len < 2 ^ 32 → len % 64 = 0 → 64 ≤ len → tag < 2 ^ 16 →
    parseBuf (leBytes 8 addr ++ leBytes 4 len ++ leBytes 2 tag ++ List.replicate 50 0) =
      some { addr := addr, len := len, tag := tag, used := 0, items := 0, firstAt := 0, lastTick := 0, lastTag := 0 }) ∧
  (∀ (d : List Byte) (b : Buf), d.length = 64 → parseBuf d = some b →
    b.addr % 64 = 0 ∧ b.len % 64 = 0 ∧ 64 ≤ b.len ∧
    d = leBytes 8 b.addr ++ leBytes 4 b.len ++ leBytes 2 b.tag ++ List.replicate 50 0)

/-- A flush timeout closes the open buffer; a moderation timeout announces; the archive starts anew and flushes its
blocks. BUFFER_FLUSH_TIMEOUT with the X domain clocked, items in the open buffer and FLUSH passed: that buffer is no
longer held by its ring. MODERATION_TIMEOUT of a CQ whose timer has reached TIME, with interrupts on, the function in
D0 and able to signal: nothing is left unannounced and the timer stops; in D3hot PME_Status is set, once for each
time that the timer reaches TIME. ARCHIVE_ENABLE with EN 0 and a good size: EN reads 1, WPTR and WRAPS read 0 and no
block is open (that the open blocks are dropped is the model's own choice, log 8, DESIGN CHOICE: R363 speaks of WPTR,
WRAPS and SEQ). ARCHIVE_BLOCK_FLUSH with the X domain clocked and FLUSH passed: the block has left the open blocks
(that of the event stream may be opened anew by an event that the archive raises). (R325, R345, R355, R358, R360,
R363, R410, notes/assumptions/8.md) -/
def Obligations.RingTimeoutsAndTheArchive : Prop :=
  (∀ (s : State) (dt : Nat) (n : Fin 32) (b : Buf) (rest : List Buf),
    let u := s.advance dt
    u.gated 1 = false → (u.ring n.val).bufs = b :: rest → b.items ≠ 0 →
    1000 * max 1 (u.fld (.RING_FLUSH_FLUSH n.val)) ≤ u.now - b.firstAt →
    ∃ t, exec (.bufferFlushTimeout dt n) s = .next t ∧ (t.ring n.val).bufs = rest ∧ t.regs = u.regs) ∧
  (∀ (s : State) (dt : Nat) (n : Fin 33),
    let u := s.advance dt
    let q := if n.val < 32 then n.val else mboxCq
    u.modTimerDue q = true →
    ((u.fn (ringFn q)).d3hot = false → u.canSignal (ringFn q) = true → (u.modCfg q).1 = true →
      ∃ t, exec (.moderationTimeout dt n) s = .next t ∧ (t.ring q).unannounced = 0 ∧ (t.ring q).timer = none ∧
        t.regs = u.regs) ∧
    ((u.fn (ringFn q)).d3hot = true → (u.ring q).timerSpent = false →
      ∃ t, exec (.moderationTimeout dt n) s = .next t ∧ (t.fn (ringFn q)).pmeStatus = true ∧
        (t.ring q).timerSpent = true ∧ (∀ m, m ≠ q → t.ring m = u.ring m) ∧ t.regs = u.regs) ∧
    ((u.fn (ringFn q)).d3hot = true → (u.ring q).timerSpent = true → exec (.moderationTimeout dt n) s = .next u)) ∧
  (∀ (s : State) (v : Word), s.barOk 0 = true →
    let u := s.hostActivity
    u.flag .RING_ARCH_CFG_EN = false → u.fld .RING_ARCH_SIZE_SIZE ≠ 0 → u.fld .RING_ARCH_SIZE_SIZE ≤ 131072 →
    ∃ t, exec (.archiveEnable v) s = .next t ∧ t.flag .RING_ARCH_CFG_EN = true ∧ t.wide Reg.RING_ARCH_WPTR_LO = 0 ∧
      t.fld .RING_ARCH_WRAPS_COUNT = 0 ∧ t.archive.blocks = [] ∧ t.rings = u.rings) ∧
  (∀ (s : State) (dt : Nat) (kind : Fin 7) (cam : Fin 4),
    let u := s.advance dt
    let key := kind.val * 4 + cam.val
    let b := u.archive.blocks.get (fun _ => ⟨[], 0, 0⟩) key
    u.gated 1 = false → u.flag .RING_ARCH_CFG_EN = true → b.items ≠ 0 → 1000000 * max 1 (u.fld .RING_ARCH_CFG_FLUSH) ≤ u.now - b.firstAt →
    ∃ t, exec (.archiveBlockFlush dt kind cam) s = .next t ∧ t.tb = u.tb ∧
      (kind.val ≠ 6 → t.archive.blocks.get (fun _ => ⟨[], 0, 0⟩) key = ⟨[], 0, 0⟩))

/-- The link trains, retrains and is reset; a function loses what R331 takes from it; D3hot, D0 and a vector's unmasking
act. PERST_N_RELEASE begins training. LINK_UP, also out of L2, gives the link the width and reversal of R320 from the
good lanes, reports a lane that a retraining was for (R321), and with FAIL_CLR written clears LANE_FAIL. LINK_RETRAIN
and LANE_FAIL_CLR act as HIF_LINK_CFG says. A correctable error counts on its lane and, short of a lasting fault,
only as a fault of PCIE_CORR. A function-level reset, a cleared Bus Master Enable, and a hot reset, link down or
PERST_N: the rings of the function are not enabled, its ring registers (PF0; but that RING_ARCH_DROP counts the
archive blocks that were open, log 8, DESIGN CHOICE) or mailbox registers (PF1) read their reset values, the event
counts in HIF_RESET_STAT, and the other function is kept or, with the link, reset too; HIF_LINK_STAT.SPEED reads 0
while the link is down and WIDTH keeps its value (R337). With both functions in D3hot the link that goes down is in
L2 (the model's own choice, log 60, DESIGN CHOICE: no rule says when L2 is entered); the functions are reset there
too (R331), but for PME_En and PME_Status. D3HOT_ENTRY closes the open buffers of PF0; D0_RETURN leaves D3hot.
MSIX_VECTOR_UNMASK sends a pending message and clears its pending bit. (R320, R321, R325, R326, R328, R331, R333,
R335, R337, R359, notes/assumptions/8.md, notes/assumptions/60.md) -/
def Obligations.LinkTrainsAndFunctionsReset : Prop :=
  (∀ (s : State) (dt : Nat), let u := s.advance dt
    u.pcie.perst = true → u.inReset = false → u.off = false → u.power.moulting = false →
    ∃ t, exec (.perstNRelease dt) s = .next t ∧ t.pcie.link = .training ∧ t.pcie.perst = false ∧
      t = { u with pcie := t.pcie }) ∧
  (∀ (s : State) (dt : Nat) (lanes : List Bool) (speed : Fin 5), let u := s.advance dt
    u.pcie.link = .training ∨ u.pcie.link = .retraining ∨ u.pcie.link = .l2 →
    (∀ w rev, u.pcie.failClr = false → linkWidth (u.goodLanes lanes) = some (w, rev) →
      ∃ t, exec (.linkUp dt lanes speed) s = .next t ∧ t.pcie.link = .up ∧ t.fld .HIF_LINK_STAT_WIDTH = w ∧
        t.flag .HIF_LINK_STAT_REVERSED = rev ∧ t.fld .HIF_LINK_STAT_SPEED = max 1 speed.val ∧
        t.pcie.laneEvent = false ∧ (u.pcie.laneEvent = false → RegsKept u t (· = Reg.HIF_LINK_STAT))) ∧
    (u.pcie.failClr = true → ∃ t, exec (.linkUp dt lanes speed) s = .next t ∧ t.pcie.failClr = false ∧
      t.fld .HIF_LINK_STAT_LANE_FAIL = 0)) ∧
  (∀ (s : State) (v : Word), s.barOk 0 = true → let u := s.hostActivity
    (u.pcie.link = .up → ∃ t, exec (.linkRetrain v) s = .next t ∧ t.pcie.link = .retraining ∧
      t.fld .HIF_LINK_STAT_RETRAINS = min 255 (u.fld .HIF_LINK_STAT_RETRAINS + 1) ∧
      t.fld .HIF_LINK_CFG_LANE_DIS =
        (if bitOf v.toNat 0 && bitOf v.toNat 3 then u.fld .HIF_LINK_CFG_LANE_DIS else getBits v.toNat 3 0) ∧
      t.pcie.failClr = (u.pcie.failClr || bitOf v.toNat 9) ∧
      RegsKept u t (fun a => a = Reg.HIF_LINK_CFG ∨ a = Reg.HIF_LINK_STAT)) ∧
    (bitOf v.toNat 8 = false → ∃ t, exec (.laneFailClr v) s = .next t ∧ t.pcie.failClr = true ∧ t.pcie.link = u.pcie.link ∧
      RegsKept u t (· = Reg.HIF_LINK_CFG))) ∧
  (∀ (s : State) (dt : Nat) (lane : Fin 4), let u := s.advance dt
    let f : Fld := ⟨Reg.HIF_LANE_ERR, 8 * lane.val + 7, 8 * lane.val⟩
    u.pcie.link ≠ .down → u.inReset = false → u.off = false →
    u.fltN 7 = 0 ∨ (u.bucket 7 0).length + 1 < u.fltN 7 →
    (∃ t, exec (.pcieCorrectableError dt (some lane)) s = .next t ∧ t.fld f = min 255 (u.fld f + 1) ∧
      t.fld (.FLT_SRC_EVT_COUNT 6) = satAdd (Fld.FLT_SRC_EVT_COUNT 6).width (u.fld (.FLT_SRC_EVT_COUNT 6)) 1 ∧
      RegsKept u t (fun a => a = Reg.HIF_LANE_ERR ∨ a = (Fld.FLT_SRC_EVT_COUNT 6).addr)) ∧
    ∃ t, exec (.pcieCorrectableError dt none) s = .next t ∧
      t.fld (.FLT_SRC_EVT_COUNT 6) = satAdd (Fld.FLT_SRC_EVT_COUNT 6).width (u.fld (.FLT_SRC_EVT_COUNT 6)) 1 ∧
      RegsKept u t (· = (Fld.FLT_SRC_EVT_COUNT 6).addr)) ∧
  (∀ s : State, s.cfgOk = true →
    (∃ t, exec (.functionLevelReset 0) s = .next t ∧ t.fn 0 = PciFn.init ∧ t.fn 1 = s.fn 1 ∧ t.groups = [] ∧ t.loads = [] ∧
      (∀ n, n < 32 → (t.ring n).enabled = false) ∧ RingBlockReset s t ∧
      t.fld .HIF_RESET_STAT_FLR0 =
        satAdd Fld.HIF_RESET_STAT_FLR0.width (s.fld .HIF_RESET_STAT_FLR0) 1) ∧
    (∃ t, exec (.functionLevelReset 1) s = .next t ∧ t.fn 1 = PciFn.init ∧ t.fn 0 = s.fn 0 ∧
      (t.ring mboxSq).enabled = false ∧ (t.ring mboxCq).enabled = false ∧
      (∀ a, 0x20000 ≤ a → a < 0x20800 → t.reg a = regReset a) ∧
      t.fld .HIF_RESET_STAT_FLR1 =
        satAdd Fld.HIF_RESET_STAT_FLR1.width (s.fld .HIF_RESET_STAT_FLR1) 1) ∧
    (∀ i : Fin 2, (s.fn i.val).busMaster = true → ∃ t, exec (.busMasterDisable i) s = .next t ∧
      (t.fn i.val).busMaster = false ∧ t.fn (1 - i.val) = s.fn (1 - i.val) ∧
      (∀ n, n < 34 → ringFn n = i.val → (t.ring n).enabled = false) ∧
      (i = 0 → t.groups = [] ∧ t.loads = [] ∧ RingBlockReset s t) ∧
      (i = 1 → ∀ a, 0x20000 ≤ a → a < 0x20800 → t.reg a = regReset a) ∧
      t.fld .HIF_RESET_STAT_BME_OFF =
        satAdd Fld.HIF_RESET_STAT_BME_OFF.width (s.fld .HIF_RESET_STAT_BME_OFF) 1) ∧
    (∀ i : Fin 2, (s.fn i.val).d3hot = false → ∃ t, exec (.d3hotEntry i) s = .next t ∧ (t.fn i.val).d3hot = true ∧
      t.regs = s.regs ∧
      (i = 0 → ∀ n b rest, n < 32 → (s.ring n).bufs = b :: rest → b.items ≠ 0 → (t.ring n).bufs = rest)) ∧
    (∀ i : Fin 2, (s.fn i.val).d3hot = true → ∃ t, exec (.d0Return i) s = .next t ∧ (t.fn i.val).d3hot = false ∧
      t.regs = s.regs)) ∧
  (∀ (s : State) (dt : Nat) (kind : LinkReset), let u := s.advance dt
    u.inReset = false → u.off = false → u.power.moulting = false → kind = .perstN ∨ u.pcie.perst = false →
    ¬(kind = .linkDown ∧ u.pcie.link = .up ∧ (u.fn 0).d3hot = true ∧ (u.fn 1).d3hot = true) →
    ∃ t, exec (.hotReset dt kind) s = .next t ∧ t.pcie.link = (if kind = .perstN then .down else .training) ∧
      t.pcie.perst = (if kind = .perstN then true else false) ∧ t.fn 0 = PciFn.init ∧ t.fn 1 = PciFn.init ∧
      t.fld .HIF_LINK_STAT_SPEED = 0 ∧ t.fld .HIF_LINK_STAT_WIDTH = u.fld .HIF_LINK_STAT_WIDTH ∧
      (∀ n, n < 34 → (t.ring n).enabled = false) ∧ t.groups = [] ∧ t.loads = [] ∧
      RingBlockReset u t ∧ (∀ a, 0x20000 ≤ a → a < 0x20800 → t.reg a = regReset a) ∧
      t.fld .HIF_RESET_STAT_LINK_RST =
        satAdd Fld.HIF_RESET_STAT_LINK_RST.width (u.fld .HIF_RESET_STAT_LINK_RST) 1) ∧
  (∀ (s : State) (dt : Nat), let u := s.advance dt
    u.inReset = false → u.off = false → u.power.moulting = false → u.pcie.perst = false → u.pcie.link = .up →
    (u.fn 0).d3hot = true → (u.fn 1).d3hot = true →
    ∃ t, exec (.hotReset dt .linkDown) s = .next t ∧ t.pcie.link = .l2 ∧ t.fld .HIF_LINK_STAT_SPEED = 0 ∧
      (∀ i, i < 2 → t.fn i =
        { PciFn.init with pmeEnable := (u.fn i).pmeEnable, pmeStatus := (u.fn i).pmeStatus }) ∧
      (∀ n, n < 34 → (t.ring n).enabled = false) ∧ t.groups = [] ∧ t.loads = [] ∧
      RingBlockReset u t ∧ (∀ a, 0x20000 ≤ a → a < 0x20800 → t.reg a = regReset a) ∧
      t.fld .HIF_RESET_STAT_LINK_RST =
        satAdd Fld.HIF_RESET_STAT_LINK_RST.width (u.fld .HIF_RESET_STAT_LINK_RST) 1) ∧
  (∀ (s : State) (i : Fin 2) (vec : Fin 64), vec.val < fnVectors i.val → s.barOk i.val = true →
    let u := if i = 0 then s.hostActivity else s
    let e := (u.fn i.val).vector vec.val
    ∃ t, exec (.msixVectorUnmask i vec) s = .next t ∧ ((t.fn i.val).vector vec.val).control = 0 ∧ t.regs = u.regs ∧
      ((u.fn i.val).pba.get (fun _ => false) vec.val = true → u.canSignal i.val = true →
        (t.fn i.val).pba.get (fun _ => false) vec.val = false ∧
        (u.pcie.link = .up →
          t.sent = .msix i.val vec.val (e.addrLo.toNat + 2 ^ 32 * e.addrHi.toNat) e.data :: u.sent)) ∧
      ((u.fn i.val).pba.get (fun _ => false) vec.val = false → t.sent = u.sent))

/-- CTX_READ, ID_READ, CERT_READ, FACT_DEFECTS, DIGEST_READ, JOURNAL_READ, FAULT_READ and QUOTE write their bytes and
complete with OK. With the command at the head of the mailbox SQ, granted by the rights in force, well formed, and
with operands in range and a LEN that holds the bytes: exactly the bytes that the spec names stand at ADDR, no other
byte of host memory has changed when the command completes, the completion carries OK and the number that the spec
names, and no register has changed. A CTX_READ in which contexts meet an SRAM error (which of them do is a free
value, log 5) completes with OK all the same, after those contexts have ended (State.contextErrors, R233). (Where the
NVM read of a FACT_DEFECTS, a JOURNAL_READ or a FAULT_READ fails, the command completes with OK all the same, which
is the model's own choice (log 49, DESIGN CHOICE), its bytes are free values, and no other byte of host memory
changes. That CERT_READ has bytes to write rests on the length of the part's certificate, which has no value in the
model, log 3. Where the device has formed no digest yet, the 32 bytes of one are a free value, log 5.) (R101, R233,
R386, R387, R388, R498, R504, R505, R519, R520, R523, notes/assumptions/49.md) -/
def Obligations.MailboxReadsWriteTheirBuffer : Prop :=
  ∀ (s : State) (d : List Byte),
    let a := bytesAt d 8 8
    let len := bytesAt d 16 4
    let arg0 := bytesAt d 20 4
    let arg1 := bytesAt d 24 4
    let writes (c : Instr) (bs : List Byte) (n : Nat) (u : State) : Prop :=
      ∃ t w, exec c s = .next t ∧ t = w.finishMbox .ok n ∧ w = { u with hostMem := w.hostMem } ∧ t.regs = s.regs ∧
        (∀ i, i < bs.length → some (w.memByte (a + i)) = bs[i]?) ∧ MemKept s w (span a bs.length)
    let reads (c : Instr) (bs : List Byte) (n : Nat) : Prop :=
      ∃ t w : State, exec c s = .next t ∧ t = w.finishMbox .ok n ∧ MemKept s w (span a bs.length) ∧
        (Config.nvmReadFails s.freeCtr = true ∨
          (w = { s with hostMem := w.hostMem, freeCtr := s.freeCtr + 1 } ∧ t.regs = s.regs ∧
            ∀ i, i < bs.length → some (w.memByte (a + i)) = bs[i]?))
    (MailboxTakes s 0x80 [(8, 12), (20, 8)] d → arg1 ≠ 0 → arg1 ≤ 4096 → arg0 + arg1 ≤ 262144 → 192 * arg1 ≤ len →
      ∃ t w bad, exec .ctxRead s = .next t ∧ t = (w.contextErrors w.errorTick bad).finishMbox .ok arg1 ∧
        (∀ i ∈ bad, arg0 ≤ i ∧ i < arg0 + arg1) ∧ w = { s with hostMem := w.hostMem, freeCtr := s.freeCtr + 1 } ∧
        (∀ i b, ((List.range arg1).flatMap fun i => (s.track (arg0 + i)).image)[i]? = some b → w.memByte (a + i) = b) ∧
        MemKept s w (span a (192 * arg1))) ∧
    (MailboxTakes s 0x81 [(8, 12)] d → 128 ≤ len → s.identity.length = 128 ∧ writes .idRead s.identity 128 s) ∧
    (MailboxTakes s 0x82 [(8, 16)] d → arg0 ≤ 1 → (certificate arg0).length ≤ len →
      writes .certRead (certificate arg0) (certificate arg0).length s) ∧
    (MailboxTakes s 0x84 [(8, 12), (20, 8)] d →
      4 * min arg1 (Config.factDefectCount.toNat - arg0) ≤ len →
      reads .factDefects (s.nvmRange (0x300000 + Config.factDefectAt.val + 4 * arg0)
        (4 * min arg1 (Config.factDefectCount.toNat - arg0))) (min arg1 (Config.factDefectCount.toNat - arg0))) ∧
    (MailboxTakes s 0x8A [(8, 12)] d → s.digestNow.1.length ≤ len →
      writes .digestRead s.digestNow.1 32 s.digestNow.2) ∧
    (MailboxTakes s 0xA0 [(8, 16)] d → arg0 + len ≤ 786432 →
      reads .journalRead (s.nvmRange (0x300000 + arg0) len) len) ∧
    (MailboxTakes s 0x9A [(8, 12), (20, 8)] d →
      let recs := (s.nvm.faults.filter fun r => arg0 ≤ bytesAt r 0 4).take arg1
      32 * recs.length ≤ len → reads .faultRead recs.flatten recs.length) ∧
    (MailboxTakes s 0x83 [(8, 12), (32, 32)] d → 3693 ≤ len →
      let head := s.digestNow.2.quoteHead s.digestNow.1 ((d.drop 32).take 32)
      writes .quote (head ++ (Config.ed25519Sign head).toList ++ (Config.mlDsaSign head).toList) 3693 s.digestNow.2)

/-- FW_WRITE, FW_ACTIVATE, FW_CONFIRM, OWNER_ENROLL, LIFECYCLE and DIGEST_EXPECT act as their rules say, or are refused.
With the command at the head of the mailbox SQ, granted and well formed, its preconditions met. FW_WRITE: the
inactive bank is EMPTY-to-be-written (state 1), the other bank keeps its state, and the record of the bank states,
the erasures of a bank not yet being written (an EMPTY one too) and the chunk are the youngest program sequences.
(That bank states and the confirmed bank change at once for the running device, the record before the erasures, and
that an EMPTY bank is erased are the model's reading, log 44, DEDUCED.) FW_ACTIVATE, with no takeover still to come:
with a valid image the bank is VERIFIED and the standby restarts on it; with an invalid one the bank is REJECTED and
REASON says why. FW_CONFIRM: the trial bank is the confirmed one and the rollback floor rises to its SVN.
OWNER_ENROLL: an accepted record is the youngest program sequence, one that is not accepted changes nothing.
LIFECYCLE: a permitted transition is in the fuses, any other changes nothing. DIGEST_EXPECT sets or clears the
expected digest. A command that the life-cycle state does not grant completes with LIFECYCLE_DENIED and does nothing
else. (That SCRAPPED takes its rights away at once is the model's reading, log 50, DEDUCED; so is LIFECYCLE_DENIED
before BAD_DESCRIPTOR, log 43, DEDUCED. Whether an image or a record has good signatures is a free value, log 4, so
that no concrete valid image or accepted record exists in the model: those two clauses have no concrete witness.)
(R502, R503, R508, R509, R510, R512, R514, R522, notes/assumptions/4.md, notes/assumptions/43.md,
notes/assumptions/44.md, notes/assumptions/50.md) -/
def Obligations.FirmwareOwnerAndLifeCycleCommands : Prop :=
  ∀ (s : State) (d : List Byte),
    let len := bytesAt d 16 4
    let arg0 := bytesAt d 20 4
    (∀ (b : Nat) (bs : List Byte), MailboxTakes s 0x85 [(8, 16)] d → arg0 % 256 = 0 → len % 256 = 0 → 256 ≤ len →
      len ≤ 16384 → arg0 + len ≤ 0x180000 → s.inactiveBank = some b → s.coach.trial = none → s.nvmRefused = false →
      ∃ t, exec (.fwWrite (some bs)) s = .next t ∧ (t.ring mboxSq).executing = true ∧ t.regs = s.regs ∧
        t.bankState b = 1 ∧ t.bankState (1 - b) = s.bankState (1 - b) ∧
        t.nvm.jobs = s.nvm.jobs ++ (if s.bankState b = 1 then []
          else
            let n : NvmNote := .banks (if b = 0 then 1 else s.nvm.bankA) (if b = 0 then s.nvm.bankB else 1) s.nvm.confirmed
            .record 6 ((Config.recordBody 6 s.nvm.seq n.content).take (bodyLimit 6)) n ::
              (List.range 384).map fun i => .erase (b * 384 + i)) ++
          [.chunk (b * 0x180000 + arg0) (padTo len bs) (.fwWrite len s.waiting)]) ∧
    (∀ b : Nat, MailboxTakes s 0x86 [] d → s.takeOverDue = false → s.standbyServes = true → s.inactiveBank = some b →
      s.coach.trial = none → s.nvmRefused = false →
      ∃ t, exec .fwActivate s = .next t ∧
        (s.imageReason b = 0 → (t.ring mboxSq).executing = true ∧ t.bankState b = 2 ∧ t.coachBank (1 - s.lead) = b ∧
          t.coach.restart = some (.activate s.waiting) ∧ t.regs = s.regs) ∧
        (s.imageReason b ≠ 0 → t.fld .SEC_FW_STAT_REASON = s.imageReason b ∧ t.bankState b = 5 ∧ t.coach = s.coach ∧
          RegsKept s t (· = Reg.SEC_FW_STAT))) ∧
    (MailboxTakes s 0x87 [] d → s.trialOn = true → s.nvmRefused = false →
      let b := s.coachBank s.lead
      ∃ t, exec .fwConfirm s = .next t ∧ t.nvm.confirmed = b ∧
        t.nvm.rollback = max s.nvm.rollback (s.imageWord b 8) ∧ t.coach.trial = none ∧ t.bankState b = 3 ∧
        t.bankState (1 - b) = (if max s.nvm.rollback (s.imageWord b 8) ≤ s.imageWord (1 - b) 8 then 2 else 0) ∧
        (s.standbyServes = true → t.coach.restart = some (.confirm s.waiting)) ∧ t.regs = s.regs) ∧
    (∀ bs : List Byte, MailboxTakes s 0x88 [(8, 12)] d → 5421 ≤ len → s.nvmRefused = false →
      ∃ t, exec (.ownerEnroll (some bs)) s = .next t ∧ t.nvm.owner = s.nvm.owner ∧ t.regs = s.regs ∧
        (s.ownerAccepted (padTo 5421 bs) = true → (t.ring mboxSq).executing = true ∧
          ∃ r, t.nvm.jobs = s.nvm.jobs ++ [.record 7 (padTo 5421 bs) 
            (.owner r (bytesAt (padTo 5421 bs) 4 4) s.waiting)]) ∧
        (s.ownerAccepted (padTo 5421 bs) = false → t = s.finishMbox .sigFail 0)) ∧
    (MailboxTakes s 0x8B [(20, 4)] d → s.coldRefused = false →
      ∃ t, exec .lifecycle s = .next t ∧ t.regs = s.regs ∧
        (s.transitionOk arg0 = true → t.nvm.lifecycle = arg0 ∧
          (arg0 = 5 → t.nvm.rights = 5 ∧ t.nvm.keysErased = true) ∧
          (arg0 ≠ 5 → t.nvm.rights = s.nvm.rights ∧ t.nvm.keysErased = s.nvm.keysErased)) ∧
        (s.transitionOk arg0 = false → t = s.finishMbox .lifecycleDenied 0 ∧ t.nvm = s.nvm)) ∧
    (MailboxTakes s 0x89 [(32, 32)] d →
      ∃ t, exec .digestExpect s = .next t ∧ t.regs = s.regs ∧ t.digest.value = s.digest.value ∧
        t.digest.expected = if allZero ((d.drop 32).take 32) then none else some ((d.drop 32).take 32)) ∧
    (∀ (data : Option (List Byte)), ∀ e ∈ [(0x80, Instr.ctxRead), (0x82, .certRead), (0x83, .quote), (0x85, .fwWrite data),
        (0x86, .fwActivate), (0x87, .fwConfirm), (0x88, .ownerEnroll data), (0x89, .digestExpect), (0x8A, .digestRead),
        (0x8B, .lifecycle), (0x91, .calSnapshot), (0x92, .flatAcquire), (0x98, .spareAssign), (0x99, .selftestUnit),
        (0xA8, .powerState)],
      s.headFor mboxSq e.1 = some d → mailboxGranted s.nvm.rights e.1 = false →
      ∃ t, exec e.2 s = .next t ∧ t = s.finishMbox .lifecycleDenied 0 ∧ t.nvm = s.nvm ∧ t.regs = s.regs)

/-- CAL_RUN, CAL_SNAPSHOT, FLAT_ACQUIRE, SPARE_ASSIGN and SELFTEST_UNIT start what their descriptors ask for. With the
command at the head of the mailbox SQ, granted and well formed. CAL_RUN with no item completes at once; outside
SERVICE, with an item that needs it, it changes no calibration; with items and no value measured it waits with
exactly its items; with item 1 alone and a result for each of its entries it has put them in force and completed.
CAL_SNAPSHOT: the snapshot is the youngest program sequence. FLAT_ACQUIRE: the acquisition waits for its taps and its
number of frames, and CAL_STAT.RUNNING shows it. SPARE_ASSIGN of a unit in stock and in scope: the change is the
youngest in the queue, for the first edge at least 2,000 ns ahead (counted from the acceptance, since a rewrite of
the map takes no time in the model: log 42, DEDUCED; that a CAL_RUN may go on over several commands is log 48); of
the unit that holds the role: OK with the role's epoch. SELFTEST_UNIT: a unit without a role is under test where it
stands; one in a role of a scope with stock leaves it to the lowest unit in stock. (R430, R443, R444, R446, R447,
R472, R482, R486, R490, notes/assumptions/42.md, notes/assumptions/48.md) -/
def Obligations.CalibrationSpareAndTestCommands : Prop :=
  ∀ (s : State) (d : List Byte),
    let arg0 := bytesAt d 20 4
    let arg1 := bytesAt d 24 4
    let arg2 := bytesAt d 28 4
    (∀ meas : List Measurement, s.cal.run = none → MailboxTakes s 0x90 [(20, 4)] d → arg0 < 128 →
      let items := (List.range 7).filter fun i => bitOf arg0 i
      (arg0 = 0 → ∃ t, exec (.calRun meas) s = .next t ∧ t.cal = s.cal ∧ (t.ring mboxSq).executing = false) ∧
      (items.any (2 ≤ ·) = true → s.mode ≠ 7 →
        ∃ t, exec (.calRun meas) s = .next t ∧ t = s.finishMbox .precondition 0 ∧ t.cal = s.cal) ∧
      (items.any (2 ≤ ·) = false ∨ s.mode = 7 → items ≠ [] → (items.head? = some 0 → s.flag .PLL_ROLE_NO_STANDBY = false) →
        ∃ t r, exec (.calRun []) s = .next t ∧ t.cal.run = some r ∧ r.items = items ∧ t.cal.entries = s.cal.entries ∧
          (t.ring mboxSq).executing = true ∧ t.flag .CAL_STAT_PRECOND = false) ∧
      (∀ m : Nat → List Int, arg0 = 2 → (∀ i, i < 24 → resolve 1 i (measuresOf meas 1 i) = .result (m i)) →
        ∃ t, exec (.calRun meas) s = .next t ∧ t.cal.run = none ∧ (t.ring mboxSq).executing = false ∧
          ∀ i, i < 24 → t.calEntry 1 i = calPack 1 (m i))) ∧
    (MailboxTakes s 0x91 [] d → s.nvmRefused = false →
      ∃ t, exec .calSnapshot s = .next t ∧ (t.ring mboxSq).executing = true ∧ t.regs = s.regs ∧
        t.nvm.jobs = s.nvm.jobs ++
          let n : NvmNote := .snapshot s.snapshotEntries s.waiting
          [.record 4 ((Config.recordBody 4 s.nvm.seq n.content).take (bodyLimit 4)) n]) ∧
    (MailboxTakes s 0x92 [(20, 8)] d → 0 < arg0 → arg0 < 16 → 1 ≤ arg1 → arg1 ≤ 256 →
      (s.ownerLocked = false → ∃ t a, exec .flatAcquire s = .next t ∧ (t.ring mboxSq).executing = true ∧
        t.cal.flat = some a ∧ a.taps = ((List.range 4).filter fun i => bitOf arg0 i) ∧ a.want = arg1 ∧ a.used = 0 ∧
        bitOf (t.fld .CAL_STAT_RUNNING) 7 = true ∧ RegsKept s t (· = Reg.CAL_STAT)) ∧
      (s.ownerLocked = true → ∃ t, exec .flatAcquire s = .next t ∧ t.cal = s.cal ∧ t.regs = s.regs)) ∧
    (MailboxTakes s 0x98 [(20, 12)] d → arg0 ≤ 8 → ¬(arg0 = 5 ∧ arg1 = 0) → arg1 < classRoles arg0 → arg2 < classUnits arg0 →
      (s.holds arg0 arg1 arg2 = true →
        ∃ t, exec .spareAssign s = .next t ∧ t = s.finishMbox .ok (s.epoch arg0 arg1) ∧ t.spares = s.spares) ∧
      (s.holds arg0 arg1 arg2 = false → (s.unitInfo arg0 arg2).state = .stock → inScope arg0 arg1 arg2 = true →
        ∃ t q, exec .spareAssign s = .next t ∧ (t.ring mboxSq).executing = true ∧
          t.spares.queue = s.spares.queue ++ [q] ∧ q.cls = arg0 ∧ q.role = arg1 ∧ q.old = s.holder arg0 arg1 ∧
          q.new = some arg2 ∧ q.why = .host s.waiting ∧ q.earliest = timeAfter s.tb 2000 ∧
          q.copying = (arg0 == 6) ∧ RegsKept s t (· = Reg.TRK_BANK_STAT))) ∧
    (MailboxTakes s 0x99 [(20, 8)] d → arg0 ≤ 8 → arg1 < classUnits arg0 →
      s.spares.tests.any (fun t => t.cls == arg0 && t.unit == arg1) = false →
      ((s.unitInfo arg0 arg1).state = .stock ∨ (s.unitInfo arg0 arg1).state = .retired →
        ∃ t, exec .selftestUnit s = .next t ∧ (t.ring mboxSq).executing = true ∧
          (t.unitInfo arg0 arg1).state = .underTest ∧
          t.spares.tests = s.spares.tests ++ [⟨arg0, arg1, (s.unitInfo arg0 arg1).role, true,
            (s.unitInfo arg0 arg1).state, s.waiting⟩] ∧
          t.reg Reg.SPR_ST_STAT = BitVec.ofNat 32 (4 + 16 * arg0 + 256 * arg1)) ∧
      (∀ r v rest, (s.unitInfo arg0 arg1).state = .inRole → (s.unitInfo arg0 arg1).role = some r →
        s.scopeStock arg0 r = v :: rest → ¬(arg0 = 5 ∧ arg1 = 0) →
        ∃ t, exec .selftestUnit s = .next t ∧ (t.ring mboxSq).executing = true ∧
          t.spares.tests = s.spares.tests ++ [⟨arg0, arg1, some r, false, .inRole, s.waiting⟩] ∧
          ∃ q ∈ t.spares.queue, q.cls = arg0 ∧ q.role = r ∧ q.old = arg1 ∧ q.new = some v ∧ q.why = .test))

/-- POWER_STATE asks, the entry follows once the device has settled, and an enabled wake source brings it back or aborts
the sleep. POWER_STATE of the present state with nothing asked for completes with OK; otherwise it is noted and has
started, and for IDLE or STANDBY RUN reads 0 and PENDING 1. POWER_STATE_ENTRY of a settled device: PWR_STATE shows
the state asked for, PENDING reads 0 and nothing is asked for. WAKE by an enabled source in IDLE or STANDBY:
PWR_STATE shows ACTIVE and PWR_WAKE_SRC the source; in ACTIVE with a sleep asked for: the sleep is aborted and
counted. By a source that is not enabled, with no return asked for: nothing. (R463, R464, R465, R466, R467, R468,
R471) -/
def Obligations.PowerStatesAreEnteredAndLeft : Prop :=
  (∀ (s : State) (d : List Byte), MailboxTakes s 0xA8 [(20, 4)] d → bytesAt d 20 4 ≤ 2 →
    (s.fld .PWR_STATE_STATE = bytesAt d 20 4 → s.power.request = none →
      ∃ t, exec .powerState s = .next t ∧ t = s.finishMbox .ok 0 ∧ t.power = s.power ∧ t.regs = s.regs) ∧
    (s.fld .PWR_STATE_STATE ≠ bytesAt d 20 4 → s.power.request = none →
      ∃ t, exec .powerState s = .next t ∧ (t.ring mboxSq).executing = true ∧
        t.power.request = some ⟨bytesAt d 20 4, s.waiting⟩ ∧
        (bytesAt d 20 4 ≠ 0 → t.run = false ∧ t.flag .PWR_STATE_PENDING = true) ∧
        RegsKept s t (fun a => a = Reg.HIF_RUN ∨ a = Reg.PWR_STATE))) ∧
  (∀ (s : State) (dt : Nat) (r : PowerReq), let u := s.advance dt
    u.alive = true → u.power.request = some r → r.target = 1 ∨ r.target = 2 → u.power.waking = false → u.settled = true →
    ∃ t, exec (.powerStateEntry dt) s = .next t ∧ t.fld .PWR_STATE_STATE = r.target ∧ t.flag .PWR_STATE_PENDING = false ∧
      t.power.request = none ∧ t.spares.tests = []) ∧
  (∀ (s : State) (dt : Nat) (src : WakeSource), let u := s.advance dt
    u.alive = true → u.thermal.trip = none →
    (u.wakeEnabled src = true → u.fld .PWR_STATE_STATE ≠ 0 →
      ∃ t, exec (.wake dt src) s = .next t ∧ t.fld .PWR_STATE_STATE = 0 ∧ t.fld .PWR_WAKE_SRC_SRC = wakeCode src ∧
        t.power.waking = false) ∧
    (u.wakeEnabled src = true → u.fld .PWR_STATE_STATE = 0 → u.sleepPending = true →
      ∃ t, exec (.wake dt src) s = .next t ∧ t.power.request = none ∧ t.flag .PWR_STATE_PENDING = false ∧
        t.fld .PWR_WAKE_SRC_SRC = wakeCode src ∧
        t.fld .PWR_SLEEP_ABORT_COUNT = min 65535 (u.fld .PWR_SLEEP_ABORT_COUNT + 1) ∧ t.fld .PWR_STATE_STATE = 0) ∧
    (u.wakeEnabled src = false → u.returning = false → exec (.wake dt src) s = .next u))

/-- A role's loop that loses lock gates its domain, the standby loop takes the role, and the loss of the reference
unlocks all. LOOP_LOCK_LOSS of the loop of a role while another loop stands by locked: the loop is not locked, the
domain of the role is gated from now on, no loop stands by, and for role T the timebase is held. STAND_IN: the
standby loop holds the role, its domain runs again, and for role T the timebase steps by the time that it stood.
LOOP_RELOCK: the loop is locked; of a role gated for want of a stand-in, the domain runs again; of no role, it
becomes the standby loop where none is free. REF_IN_LOSS: REF_OK reads 0, no loop of a role and no standby loop is
locked, roles C and X are gated, and role T, once the timebase has started, is in holdover where its domain runs or
awaited a stand-in (that a role T which awaited one goes into holdover is the model's reading of R421, log 45,
DEDUCED). REF_IN_GOOD ends the holdover and notes its length in µs. (R412, R415, R416, R417, R418, R419, R420, R421,
R422, R424, notes/assumptions/45.md) -/
def Obligations.ClockLoopsLoseAndRegainTheirRoles : Prop :=
  (∀ (s : State) (dt : Nat) (p : Fin 4) (r : Nat), let u := s.advance dt
    u.alive = true → u.loopLocked p.val = true → u.roleOf p.val = some r → u.flag .PLL_ROLE_NO_STANDBY = false →
    u.fld .PLL_ROLE_STANDBY ≠ p.val → u.loopLocked (u.fld .PLL_ROLE_STANDBY) = true →
    ∃ t, exec (.loopLockLoss dt p) s = .next t ∧ t.loopLocked p.val = false ∧
      t.clocks.gated.get (fun _ => none) r = some u.now ∧ t.noStandIn r = false ∧
      t.flag .PLL_ROLE_NO_STANDBY = true ∧ (∀ k, k < 3 → t.loopOf k = u.loopOf k) ∧ t.tb = u.tb ∧
      (r = 2 → t.flag .TB_STAT_HELD = true)) ∧
  (∀ (s : State) (dt : Nat) (role : Fin 3) (t0 : Nat), let u := s.advance dt
    u.clocks.gated.get (fun _ => none) role.val = some t0 → u.alive = true → u.noStandIn role.val = false →
    role = 2 ∨ t0 + 200 ≤ u.now →
    ∃ t, exec (.standIn dt role) s = .next t ∧ t.loopOf role.val = u.fld .PLL_ROLE_STANDBY ∧ t.lossGated role.val = false ∧
      (role = 2 → t.tb = timeAfter u.tb (u.now - t0) ∧ t.flag .TB_STAT_HELD = false ∧ t.flag .TB_STAT_STEPPED = true) ∧
      (role ≠ 2 → t.tb = u.tb)) ∧
  (∀ (s : State) (dt : Nat) (p : Fin 4), let u := s.advance dt
    u.alive = true → u.clocks.refLost = false → u.loopLocked p.val = false →
    (∀ r, u.roleOf p.val = some r → u.standby = false ∨ r = 2 →
      ∃ t, exec (.loopRelock dt p) s = .next t ∧ t.loopLocked p.val = true ∧ (u.noStandIn r = true → t.lossGated r = false)) ∧
    (u.roleOf p.val = none → bitOf (u.fld .PLL_ROLE_RETIRED) p.val = false → u.flag .PLL_CTL_STANDBY_EN = true →
      u.standby = false → u.standbyLoop = none →
      ∃ t, exec (.loopRelock dt p) s = .next t ∧ t.loopLocked p.val = true ∧ t.fld .PLL_ROLE_STANDBY = p.val ∧
        t.flag .PLL_ROLE_NO_STANDBY = false)) ∧
  (∀ (s : State) (dt : Nat), let u := s.advance dt
    u.alive = true →
    (u.clocks.refLost = false → ∃ t, exec (.refInLoss dt) s = .next t ∧ t.clocks.refLost = true ∧
      t.flag .PLL_STAT_REF_OK = false ∧ t.fld .PLL_REF_LOSS_COUNT = min 65535 (u.fld .PLL_REF_LOSS_COUNT + 1) ∧
      (∀ k, k < 3 → t.loopLocked (u.loopOf k) = false) ∧ t.loopLocked (u.fld .PLL_ROLE_STANDBY) = false ∧
      t.flag .PLL_ROLE_NO_STANDBY = true ∧ t.lossGated 0 = true ∧ t.lossGated 1 = true ∧
      (u.tbStarted = true → u.lossGated 2 = false ∨ u.noStandIn 2 = false →
        t.flag .PLL_STAT_HOLDOVER = true ∧ t.lossGated 2 = false)) ∧
    (u.clocks.refLost = true → ∃ t, exec (.refInGood dt) s = .next t ∧ t.clocks.refLost = false ∧
      t.flag .PLL_STAT_REF_OK = true ∧
      (∀ t0, u.clocks.holdSince = some t0 → t.flag .PLL_STAT_HOLDOVER = false ∧ t.flag .PLL_STAT_DRIFTED = true ∧
        t.fld .PLL_HOLDOVER_VALUE = min (2 ^ 32 - 1) ((u.now - t0) / 1000))))

/-- The power-up sequence puts agreed results in force, tracking moves entries by one unit, and CAL_DATA reads and writes
entries. POWERUP_CALIBRATION, whatever loops fail to lock: POWERUP_DONE reads 1, and every entry whose measurements
agree (of items 2 to 6 only where D lies within its limits) holds their mean; D outside its limits sets PRECOND.
BACKGROUND_DRIFT_MEASURE: an entry of item 1, 2, 3 or 6 that is tracked and whose measurements agree has moved
towards their mean by at most one unit in each quantity, the others keep their value. Measurements in converter slots
that a readout takes count for nothing (R146), and those of a combination that is not in force count only once every
element of those in force has been measured (R435). (That values given for those slots, or for such a combination too
early, leave the entry as it was, and that D is what the command gives as item 7, are the model's reading, log 48,
DEDUCED.) A read of CAL_DATA returns the entry that CAL_IDX names, a write of a class A item that is not running sets
it, and both increase INDEX; beyond the item's entries, and for the drift list, ERR reads 1 and nothing is written; a
write of an item that is running writes nothing and BUSY reads 1. A write of CAL_DLIST with bit 31 stages the
clearing of the drift list. (R425, R426, R428, R429, R431, R432, R433, R434, R435, R442, R146,
notes/assumptions/48.md) -/
def Obligations.CalibrationMeasuresTracksAndIsAccessed : Prop :=
  (∀ (s : State) (dt : Nat) (found : PowerUp) (x : Measurement), let u := s.advance dt
    u.alive = true → u.coach.started = true → u.flag .CAL_STAT_POWERUP_DONE = false →
    found.meas.find? (fun x => x.item.val == 7) = some x →
    ∃ t, exec (.powerupCalibration dt found) s = .next t ∧ t.flag .CAL_STAT_POWERUP_DONE = true ∧
      (u.darkOk x.value = false → t.flag .CAL_STAT_PRECOND = true) ∧
      ∀ item i m, item ≤ 6 → item ≤ 1 ∨ u.darkOk x.value = true → i < calCount item →
        resolve item i (measuresOf found.meas item i) = .result m → t.calEntry item i = calPack item m) ∧
  (∀ (s : State) (dt : Nat) (meas : List Measurement) (item i : Nat), let u := s.advance dt
    let kept := u.keptValues meas
    let turn := (calCombo item i).all u.firstCombos.contains ||
      ((List.range 7).foldl (State.trackItem kept true) u).firstDone
    u.alive = true → u.coach.started = true → u.flag .CAL_STAT_POWERUP_DONE = true → u.flag .CAL_CTL_DRIFT_EN = true →
    u.fld .PWR_STATE_STATE = 0 → item ∈ [1, 2, 3, 6] → u.tracks item = true →
    item = 1 ∨ measuresOf kept 6 0 = [] → i < calCount item →
    ∃ t, exec (.backgroundDriftMeasure dt meas) s = .next t ∧
      (∀ m, turn = true → resolve item i (measuresOf kept item i) = .result m →
        t.calEntry item i = calMove item (u.calEntry item i) (calPack item m)) ∧
      (turn = false ∨ (∀ m, resolve item i (measuresOf kept item i) ≠ .result m) →
        t.calEntry item i = u.calEntry item i)) ∧
  (∀ (s : State) (v : Word), s.barOk 1 = true →
    let item := s.fld .CAL_IDX_ITEM
    let i := s.fld .CAL_IDX_INDEX
    (i < calCount item → item ≤ 6 →
      (∃ t, exec (.calDataAccess none) s = .next t ∧ t.rdata = BitVec.ofNat 32 (s.calEntry item i) ∧
        t.fld .CAL_IDX_INDEX = (i + 1) % 2 ^ 19 ∧ t.cal = s.cal) ∧
      (item ≤ 3 ∨ item = 6 → bitOf (s.fld .CAL_STAT_RUNNING) item = false →
        ∃ t, exec (.calDataAccess (some v)) s = .next t ∧ t.calEntry item i = v.toNat &&& calMask item ∧
          t.fld .CAL_IDX_INDEX = (i + 1) % 2 ^ 19 ∧ RegsKept s t (· = Reg.CAL_IDX))) ∧
    (item = 7 ∨ calCount item ≤ i → ∀ w : Option Word, ∃ t, exec (.calDataAccess w) s = .next t ∧
      t.flag .CAL_IDX_ERR = true ∧ t.cal = s.cal ∧ t.mgmt = s.mgmt ∧
      (w = none → t.rdata = if calCount item ≤ i then 0 else BitVec.ofNat 32 (s.cal.drift.getD i 0))) ∧
    (bitOf (s.fld .CAL_STAT_RUNNING) item = true → ∃ t, exec (.calDataAccess (some v)) s = .next t ∧
      t.flag .CAL_IDX_BUSY = true ∧ t.cal = s.cal ∧ t.mgmt = s.mgmt) ∧
    (bitOf v.toNat 31 = true → ∃ t, exec (.calDlistClr v) s = .next t ∧
      t.mgmt = s.mgmt ++ [⟨.driftClear, timeAfter s.tb (s.cal.nextB - s.now + 2000)⟩] ∧ t.regs = s.regs ∧
      t.cal.drift = s.cal.drift) ∧
    (bitOf v.toNat 31 = false → exec (.calDlistClr v) s = .next s))

/-- A sample shows in THM_SITEn and THM_HOT; the eighth above T_HOT_WARN asks for throttling; grace and shutdown come to
their end. THERMAL_SAMPLE: every site shows its reading and the difference of its oscillators, at most 4,095 in the
field, and THM_HOT the highest reading; where the seven samples before and this one reach 95 °C and not 112 °C,
HOT_WARN, THROTTLE_REQ and GRACE read 1 and the grace time runs from now (that the difference stops at 4,095, and
that samples of a start count only after POWERUP_DONE, are the model's reading, log 46, DEDUCED). GRACE_EXPIRY past
the grace time: GRACE reads 0 and the throttle tick floor is staged for the first edge at least 2,000 ns ahead.
SHUTDOWN_COMPLETE, once no pulse can come any more and with no program sequence, pulse or record left and every role
at its SAFE levels: the device is OFF, the link is down, and THM_SHUT holds cause 1 and the temperature of the trip.
(R449, R450, R451, R452, R453, R456, R458, R460, notes/assumptions/46.md) -/
def Obligations.TemperaturesAreShownAndActOn : Prop :=
  (∀ (s : State) (dt : Nat) (counts : List Nat), let u := s.advance dt
    let l := u.siteSamples counts
    u.alive = true →
    ∃ t, exec (.thermalSample dt counts) s = .next t ∧
      (∀ n, n < 12 → t.fld (.THM_SITE_TEMP n) = unsigned 16 (readingAt l n) ∧
        ∀ x, l[n]? = some x → t.fld (.THM_SITE_DIFF n) = min 4095 x.diff) ∧
      (∀ n, n < 12 → readingAt l n ≤ readingAt l (t.fld .THM_HOT_SITE)) ∧
      t.fld .THM_HOT_TEMP = unsigned 16 (readingAt l (t.fld .THM_HOT_SITE)) ∧
      (u.flag .CAL_STAT_POWERUP_DONE = true → 7 ≤ u.thermal.startSamples → 7 ≤ u.thmRun 2 true →
        1520 ≤ readingAt l (t.fld .THM_HOT_SITE) → readingAt l (t.fld .THM_HOT_SITE) < 1792 →
        u.flag .THM_STAT_HOT_WARN = false →
        t.flag .THM_STAT_HOT_WARN = true ∧ t.flag .THM_STAT_THROTTLE_REQ = true ∧ t.flag .THM_STAT_GRACE = true ∧
          t.thermal.grace = some u.now)) ∧
  (∀ (s : State) (dt t0 : Nat), let u := s.advance dt
    u.thermal.grace = some t0 → u.alive = true → t0 + 1000000 * u.fld .THM_GRACE_GRACE ≤ u.now →
    ∃ t, exec (.graceExpiry dt) s = .next t ∧ t.flag .THM_STAT_GRACE = false ∧ t.thermal.grace = none ∧
      t.mgmt = u.mgmt ++ [⟨.throttle true, timeAfter u.tb 2000⟩] ∧ RegsKept u t (· = Reg.THM_STAT)) ∧
  (∀ (s : State) (dt : Nat), let u := s.advance dt
    u.alive = true → u.thermal.trip.isSome = true → u.noPulse = true → u.nvm.jobs = [] → u.ej.pulses = [] →
    (∀ r, r < 16 → ((u.settleTrip).wvRole r).unacked = []) →
    ∃ t, exec (.shutdownComplete dt) s = .next t ∧ t.off = true ∧ t.pcie.link = .down ∧ t.nvm.shutCause = 1 ∧
      t.nvm.shutCut = false ∧ t.nvm.shutTemp = u.thermal.tripTemp ∧ t.power = ⟨none, false, false⟩)

/-- A bucket leaks, a stale message is counted, a class's turn moves its next unit to test, and a test's end gives the
verdict. FAULT_BUCKET_LEAK: the bucket holds exactly the units younger than W, and every other bucket is as before.
INTERNAL_MESSAGE with the epoch of its role: one more message of the role is accepted, and it waits to be sent no
more; with another: one fault of ROLE_STALE, and it waits to be sent again with the epoch in force. SELFTEST_TURN of
a class whose test is on and whose turn has come: its next unit, in stock, is under test and the turn has moved past
it. SELFTEST_COMPLETE with every pattern run and a good signature: SPR_ST_LAST holds PASS, the class and the unit,
SPR_ST_DONE counts, the test is gone and the unit is in stock; with fewer patterns: INCOMPLETE, and SPR_ST_INCOMPLETE
counts. (R41, R43, R474, R475, R485, R486, R490, R499) -/
def Obligations.FaultsBucketsAndServiceTests : Prop :=
  (∀ (s : State) (dt : Nat) (src : Fin 14) (inst : Nat), let u := s.advance dt
    let k := src.val + 1
    ∃ t, exec (.faultBucketLeak dt src inst) s = .next t ∧
      t.spares.buckets.get (fun _ => []) (bucketKey k inst) =
        ((u.spares.buckets.get (fun _ => []) (bucketKey k inst)).filter fun x => u.now - x < u.fltW k) ∧
      (∀ key, key ≠ bucketKey k inst → t.spares.buckets.get (fun _ => []) key = u.spares.buckets.get (fun _ => []) key) ∧
      t = { u with spares := { u.spares with buckets := t.spares.buckets } }) ∧
  (∀ (s : State) (dt : Nat) (cls : Fin 14) (role : Nat) (epoch : BitVec 16), let u := s.advance dt
    let left := u.spares.resent.erase (cls.val, role, epoch.toNat)
    (u.epoch cls.val role = epoch.toNat → ∃ t, exec (.internalMessage dt cls role epoch) s = .next t ∧
      t.spares.accepted.get (fun _ => 0) (unitKey cls.val role) =
        u.spares.accepted.get (fun _ => 0) (unitKey cls.val role) + 1 ∧
      t = { u with spares := { u.spares with resent := left, accepted := t.spares.accepted } }) ∧
    (u.epoch cls.val role ≠ epoch.toNat → ∃ t, exec (.internalMessage dt cls role epoch) s = .next t ∧
      t.spares.resent = left ++ [(cls.val, role, u.epoch cls.val role)] ∧ t.spares.accepted = u.spares.accepted ∧
      t.fld (.FLT_SRC_EVT_COUNT 9) = satAdd (Fld.FLT_SRC_EVT_COUNT 9).width (u.fld (.FLT_SRC_EVT_COUNT 9)) 1)) ∧
  (∀ (s : State) (dt : Nat) (cls : Fin 14) (v : Nat), let u := s.advance dt
    let c := cls.val
    c ≤ 10 → bitOf (u.fld .SPR_ST_CFG_EN) c = true → u.fld .SPR_ST_CFG_PERIOD ≠ 0 → u.fld .PWR_STATE_STATE = 0 →
    u.alive = true → u.coach.started = true → u.turnDue c = true → u.nvm.rights ≠ 0 → u.nvm.rights ≠ 5 → u.spares.tests.any (·.cls == c) = false →
    u.turnUnit c = some v → (u.unitInfo c v).state = .stock →
    ∃ t, exec (.selftestTurn dt cls) s = .next t ∧ (t.unitInfo c v).state = .underTest ∧
      t.spares.tests = u.spares.tests ++ [⟨c, v, (u.unitInfo c v).role, true, .stock, none⟩] ∧
      t.spares.turn.get (fun _ => 0) c = (v + 1) % classUnits c ∧
      t.reg Reg.SPR_ST_STAT = BitVec.ofNat 32 (4 + 16 * c + 256 * v)) ∧
  (∀ (s : State) (dt : Nat) (cls : Fin 14) (pass : Bool) (patterns : Nat) (x : SelfTest), let u := s.advance dt
    u.spares.tests.find? (fun t => t.active && t.cls == cls.val) = some x → x.cls ≠ 10 → x.was ≠ .retired →
    (pass = true → u.fld .BIST_PATTERNS_COUNT ≤ patterns →
      ∃ t, exec (.selftestComplete dt cls pass patterns) s = .next t ∧
        t.reg Reg.SPR_ST_LAST = BitVec.ofNat 32 (4 + 16 * x.cls + 256 * x.unit) ∧
        t.fld .SPR_ST_DONE_COUNT = min (2 ^ 32 - 1) (u.fld .SPR_ST_DONE_COUNT + 1) ∧
        t.spares.tests = u.spares.tests.filter (fun y => !(y.cls == x.cls && y.unit == x.unit)) ∧
        t.unitInfo x.cls x.unit = ⟨.stock, none⟩) ∧
    (patterns < u.fld .BIST_PATTERNS_COUNT →
      ∃ t, exec (.selftestComplete dt cls pass patterns) s = .next t ∧
        t.reg Reg.SPR_ST_LAST = BitVec.ofNat 32 (2 + 4 + 16 * x.cls + 256 * x.unit) ∧
        t.fld .SPR_ST_INCOMPLETE_COUNT = min (2 ^ 32 - 1) (u.fld .SPR_ST_INCOMPLETE_COUNT + 1) ∧
        t.unitInfo x.cls x.unit = ⟨.stock, none⟩))

/-- RESET_N and a brownout reset the device and leave the NVM; the start follows the last of their ends; the Moult ends
in OFF. RESET_N_ASSERT and BROWNOUT: every register reads its reset value, no ring is enabled, the link is down, the
device is in reset, the rights are those of the life-cycle fuses, and the fuses, keys and records of the NVM and host
memory are as before; so is every byte of the NVM where no program sequence is under way, and every byte outside the
chunk or the block of one that is cut off, while the sequences that wait are gone (how a reset cuts a sequence off is
the model's reading, log 49, DEDUCED). RESET_N_RELEASE with the rails good, and BROWNOUT_RESET_EXIT with RESET_N
high: the device has left reset, the boot count has grown by 1, and without a passing Moult record in the journal as
read at the start (R522) the start is a full one; while the other cause lasts it stays in reset. RAIL_FAULT raises
fast source 11. BIST_SHUTDOWN with the code 0x4D4F asks for the clean shutdown and clears RUN. MOULT_START begins the
Moult with the link down. MOULT_COMPLETE commits the verdict, charges the age timer and ends in OFF. (R334, R393,
R460, R493, R494, R495, R502, R522, R534, R535, notes/assumptions/49.md) -/
def Obligations.ResetStartAndMoult : Prop :=
  (∀ (s : State) (dt : Nat) (c : Instr), c ∈ [Instr.resetNAssert dt, .brownout dt] → let u := s.advance dt
    ∃ t, exec c s = .next t ∧ (∀ a, t.reg a = regReset a) ∧ (∀ n, (t.ring n).enabled = false) ∧ t.pcie.link = .down ∧
      t.inReset = true ∧ (u.nvm.jobs = [] → t.nvm.bytes = u.nvm.bytes) ∧
      (∀ a data note rest i, u.nvm.jobs = .chunk a data note :: rest → i < a ∨ a + data.length ≤ i →
        t.nvmRange i 1 = u.nvmRange i 1) ∧
      (∀ b rest i, u.nvm.jobs = .erase b :: rest → i < 4096 * b ∨ 4096 * b + 4096 ≤ i → t.nvmRange i 1 = u.nvmRange i 1) ∧
      t.nvm.jobs = [] ∧ t.nvm.lifecycle = u.nvm.lifecycle ∧ t.nvm.rights = u.nvm.lifecycle ∧
      t.nvm.keysErased = u.nvm.keysErased ∧ t.nvm.owner = u.nvm.owner ∧ t.nvm.faults = u.nvm.faults ∧
      t.nvm.rollback = u.nvm.rollback ∧ MemKept u t (fun _ => False)) ∧
  (∀ (s : State) (dt : Nat) (results : List Nat), let u := s.advance dt
    (u.resetN = false → u.railLow = true →
      exec (.resetNRelease dt results) s = .next { u with resetN := true }) ∧
    (u.railLow = true → u.resetN = false →
      exec (.brownoutResetExit dt results) s = .next { u with railLow := false }) ∧
    (∀ c, (c = Instr.resetNRelease dt results ∧ u.resetN = false ∧ u.railLow = false) ∨
        (c = .brownoutResetExit dt results ∧ u.railLow = true ∧ u.resetN = true) →
      ∃ t, exec c s = .next t ∧ t.inReset = false ∧ t.resetN = true ∧ t.railLow = false ∧ t.startAt = u.now ∧
        t.nvm.boot = (u.nvm.boot + 1) % 2 ^ 16 ∧ t.nvm.lifecycle = u.nvm.lifecycle ∧
        (u.readJournal.nvm.moult ≠ 1 ∨ u.nvm.moultConsumed = true ∨ u.readJournal.nvm.fullNext = true →
          t.flag .BIST_STAT_QUICK = false ∧ t.flag .HIF_READY_FULL = true))) ∧
  (∀ (s : State) (dt : Nat), let u := s.advance dt
    (u.alive = true → u.icxStopped = false → u.flag (icxPlace 0 267) = false →
      ∃ t, exec (.railFault dt) s = .next t ∧ t.flag (icxPlace 1 267) = true ∧
        t.fld (icxCounter 267) = min 255 (u.fld (icxCounter 267) + 1)) ∧
    (u.alive = true → (u.power.request.map (·.target)) = some 3 → u.settled = true → u.thermal.trip = none →
      ∃ t, exec (.moultStart dt) s = .next t ∧ t.power = ⟨none, false, true⟩ ∧ t.pcie.link = .down ∧
        t.flag .PWR_STATE_PENDING = false ∧ (∀ n, n < 34 → (t.ring n).enabled = false) ∧ t.off = u.off) ∧
    (∀ results : List Nat, u.alive = true → u.power.moulting = true → u.thermal.trip = none →
      ∃ t, exec (.moultComplete dt results) s = .next t ∧ t.off = true ∧ t.power.moulting = false ∧
        (u.coldRefused = false → t.nvm.moult = moultVerdict results ∧ t.nvm.moultConsumed = false ∧
          t.nvm.ageCharged = some u.now ∧ t.nvm.jobs = []) ∧
        (u.coldRefused = true → t.nvm.moult = u.nvm.moult))) ∧
  (∀ (s : State) (v : Word), s.barOk 1 = true →
    (getBits v.toNat 15 0 = 0x4D4F → s.nvm.rights ≠ 0 → s.nvm.rights ≠ 5 → s.thermal.trip = none →
      ∃ t, exec (.bistShutdown v) s = .next t ∧ t.power.request = some ⟨3, none⟩ ∧ t.flag .PWR_STATE_PENDING = true ∧
        t.run = false ∧ t.flag .BIST_CTL_FULL_NEXT = bitOf v.toNat 16) ∧
    (getBits v.toNat 15 0 ≠ 0x4D4F → ∃ t, exec (.bistShutdown v) s = .next t ∧ t.power = s.power ∧
      t.flag .BIST_CTL_FULL_NEXT = bitOf v.toNat 16 ∧ t.run = s.run))

/-- A ready standby takes the lead it was asked to take; trials time out, watchdogs expire; program sequences run, the
log is compacted. STANDBY_READY after FW_ACTIVATE: while RUNNING is 1 the takeover waits for the first edge at least
2,000 ns ahead; else the standby leads, its bank is in TRIAL and the trial began now. After FW_CONFIRM with nothing
else wanted the standby is ready. TRIAL_TIMEOUT of a trial in time: the fallback waits for its edge, or the lead has
changed hands and the trial's bank is REJECTED. COACHMAN_WATCHDOG_EXPIRY, not yet lasting: the standby restarts on
the confirmed bank; for the lead the takeover (or the trial's fallback) waits for its edge. SEC_ALARM counts and sets
ALARM. JOURNAL_COMPACTION: exactly the records kept stand at the start of the other half of the log, and the
originals read erased (that a compaction moves the log between two halves is the model's reading of the free blocks
of R522, log 49, DEDUCED). NVM_PROGRAM_SEQUENCE_COMPLETE: a chunk stands at its address, a record stands at the end
of the log, which is compacted first where it does not fit, with the next sequence number, a block reads erased; the
last of several erasures, and a compaction, bring a record of the wear counters (when one is written is the model's
choice, log 49); a failure counts in NVM_ERR and takes a reserve block, on which the sequence is repeated (log 49).
(R393, R474, R510, R511, R512, R513, R521, R522, R524, notes/assumptions/44.md, notes/assumptions/49.md) -/
def Obligations.CoachmenAndTheNvm : Prop :=
  (∀ (s : State) (dt : Nat), let u := s.advance dt
    u.coachAlive = true → u.standby = false →
    (∀ n, u.coach.restart = some (.activate n) →
      (u.running = true → ∃ t, exec (.standbyReady dt) s = .next t ∧ t.coach.restart = none ∧
        t.coach.takeover = some (timeAfter u.tb 2000, .activate n) ∧ t.regs = u.regs) ∧
      (u.running = false → ∃ t, exec (.standbyReady dt) s = .next t ∧ t.lead = 1 - u.lead ∧ t.coach.trial = some u.now ∧
        t.bankState (u.coachBank (1 - u.lead)) = 4)) ∧
    (∀ n, u.coach.restart = some (.confirm n) → u.coach.wanted = none →
      ∃ t, exec (.standbyReady dt) s = .next t ∧ t.coach = { u.coach with restart := none } ∧ t.regs = u.regs)) ∧
  (∀ (s : State) (dt t0 : Nat), let u := s.advance dt
    u.coach.trial = some t0 → u.coachAlive = true → u.trialOn = true →
    t0 + 1000000000 * u.fld .SEC_FW_CFG_TRIAL_S ≤ u.now → u.standbyServes = true → u.coach.restart = none →
    u.coach.takeover = none →
    (u.running = true → ∃ t, exec (.trialTimeout dt) s = .next t ∧
      t.coach.takeover = some (timeAfter u.tb 2000, .fallback) ∧ t.regs = u.regs) ∧
    (u.running = false → ∃ t, exec (.trialTimeout dt) s = .next t ∧ t.lead = 1 - u.lead ∧ t.coach.trial = none ∧
      t.bankState (u.coachBank u.lead) = 5)) ∧
  (∀ (s : State) (dt : Nat) (core : Fin 2), let u := s.advance dt
    u.coachAlive = true → (u.unitInfo 10 core.val).state ≠ .retired →
    u.fltN 14 = 0 ∨ (u.bucket 14 (unitKey 10 core.val)).length + 1 < u.fltN 14 → u.coach.restart = none →
    u.coach.takeover = none →
    (core.val ≠ u.lead → ∃ t, exec (.coachmanWatchdogExpiry dt core) s = .next t ∧ t.coach.restart = some .plain ∧
      t.coachBank core.val = u.nvm.confirmed ∧
      t.fld (.FLT_SRC_EVT_COUNT 13) = satAdd (Fld.FLT_SRC_EVT_COUNT 13).width (u.fld (.FLT_SRC_EVT_COUNT 13)) 1) ∧
    (core.val = u.lead → u.standbyServes = true → u.running = true →
      ∃ t, exec (.coachmanWatchdogExpiry dt core) s = .next t ∧ t.coach.expired = true ∧
        t.coach.takeover = some (timeAfter u.tb 2000, if u.coach.trial.isSome then .fallback else .watchdog))) ∧
  (∀ (s : State) (dt : Nat), let u := s.advance dt
    let wear (m : Store Nat) : NvmJob :=
      .record 5 ((Config.recordBody 5 u.nvm.seq (NvmNote.wear m).content).take (bodyLimit 5)) (.wear m)
    u.alive = true →
    (∃ t, exec (.secAlarm dt) s = .next t ∧ t.flag .SEC_STAT_ALARM = true ∧
      t.fld .SEC_ALARM_CNT_VALUE = min (2 ^ 32 - 1) (u.fld .SEC_ALARM_CNT_VALUE + 1)) ∧
    (u.nvm.jobs = [] → u.nvmRefused = false →
      let kept := ((keptRecords u.logRecords).map (·.bytes)).flatten
      (u.nvm.logBase = logStart ∧ u.nvm.logTail ≤ logHalf) ∨ (u.nvm.logBase = logHalf ∧ u.nvm.logTail ≤ journalEnd) →
      ∃ t, exec (.journalCompaction dt) s = .next t ∧
        t.nvm.logBase = (if u.nvm.logBase = logStart then logHalf else logStart) ∧
        t.nvmRange (journalAt + t.nvm.logBase) kept.length = kept ∧ t.nvm.logTail = t.nvm.logBase + kept.length ∧
        t.nvmRange (journalAt + u.nvm.logBase) (u.nvm.logTail - u.nvm.logBase) =
          List.replicate (u.nvm.logTail - u.nvm.logBase) Config.erasedByte ∧ t.regs = u.regs ∧ t.nvm.seq = u.nvm.seq ∧
        t.nvm.jobs = [wear t.nvm.erases]) ∧
    (∀ a data note rest, u.nvm.jobs = .chunk a data note :: rest →
      ∃ t, exec (.nvmProgramSequenceComplete dt true) s = .next t ∧ t.nvm.jobs = rest ∧ t.nvmRange a data.length = data) ∧
    (∀ b rest, u.nvm.jobs = .erase b :: rest →
      ∃ t, exec (.nvmProgramSequenceComplete dt true) s = .next t ∧
        t.nvmRange (4096 * b) 4096 = List.replicate 4096 Config.erasedByte ∧
        (∀ c more, rest = .erase c :: more → t.nvm.jobs = rest ∧ t.regs = u.regs) ∧
        ((∀ c more, rest ≠ .erase c :: more) → u.nvmRefused = false →
          t.nvm.jobs = rest ++ [wear t.nvm.erases] ∧ t.regs = u.regs)) ∧
    (∀ type body note rest, u.nvm.jobs = .record type body note :: rest →
      let bs := recordBytes type u.nvm.seq body
      let full := decide (u.logEnd < u.nvm.logTail + bs.length)
      let v := if full then u.compact else u
      ∃ t, exec (.nvmProgramSequenceComplete dt true) s = .next t ∧
        t.nvm.jobs = rest ++ (if full && !u.nvmRefused then [wear v.nvm.erases] else []) ∧
        t.nvmRange (journalAt + v.nvm.logTail) bs.length = bs ∧ t.nvm.logTail = v.nvm.logTail + bs.length ∧
        t.nvm.seq = (u.nvm.seq + 1) % 2 ^ 32) ∧
    (u.nvm.jobs ≠ [] → ∃ t, exec (.nvmProgramSequenceComplete dt false) s = .next t ∧
      t.fld .NVM_ERR_VALUE = min (2 ^ 32 - 1) (u.fld .NVM_ERR_VALUE + 1) ∧
      (u.nvm.reserve ≠ 0 → t.nvm.reserve = u.nvm.reserve - 1 ∧ t.nvm.jobs = u.nvm.jobs) ∧
      (u.nvm.reserve = 0 → t.nvm.noReserve = true ∧ t.nvm.jobs = u.nvm.jobs.tail)))

/-- The I3C target takes its address, answers as R525 says and raises its request; JTAG selects what the life cycle
grants. ENTDAA and SETDASA give a target without an address the address; RSTDAA takes it away; ENEC and DISEC set and
clear event bits. A target with an address answers GETPID, GETBCR, GETDCR, GETSTATUS (two free bytes), GETMRL, GETMWL
and ID; where the part is not SCRAPPED also STATUS, TEMPS, TICK and FAULT with the bytes of R525, takes WAKE as its
wake source, and REQUEST puts its word into SEC_I3C_REQ, raises source 42 and wakes as WAKE does. None of the reads
changes a register. Without an address, and on a SCRAPPED part for the private commands beside ID, nothing happens.
JTAG: the instruction leaves the port out of reset and idle; IDCODE is read where TDO drives, which it does not in
reset and in OFF; scan and debug access are in force where the rights grant them and BYPASS where not; a factory
transition that R502 allows is burned. (BYPASS where the rights deny is the model's reading, log 50, DEDUCED, and so
is the silence of a target without an address, log 55, DEDUCED.) (R465, R497, R502, R503, R525, R537, R543,
notes/assumptions/50.md, notes/assumptions/55.md) -/
def Obligations.SidebandTargetsAnswer : Prop :=
  (∀ (s : State) (a : BitVec 7) (e : Byte), s.i3cOn = true →
    (s.i3c.addr = none →
      (∃ t, exec (.entdaa a) s = .next t ∧ t.i3c.addr = some a ∧ t = { s with i3c := t.i3c }) ∧
      ∃ t, exec (.setdasa a) s = .next t ∧ t.i3c.addr = some a ∧ t = { s with i3c := t.i3c }) ∧
    (∃ t, exec .rstdaa s = .next t ∧ t.i3c.addr = none ∧ t = { s with i3c := t.i3c }) ∧
    (∃ t, exec (.enec e) s = .next t ∧ (∀ i, i < 8 → t.i3c.events.getLsbD i = (s.i3c.events.getLsbD i || e.getLsbD i)) ∧
      t.i3c.addr = s.i3c.addr ∧ t = { s with i3c := t.i3c }) ∧
    ∃ t, exec (.disec e) s = .next t ∧ (∀ i, i < 8 → t.i3c.events.getLsbD i = (s.i3c.events.getLsbD i && !e.getLsbD i)) ∧
      t.i3c.addr = s.i3c.addr ∧ t = { s with i3c := t.i3c }) ∧
  (∀ s : State, s.i3cAddressed = true →
    (∀ c ∈ [(Instr.getpid, (leBytes 6 Config.i3cPid.toNat).reverse), (.getbcr, [Config.i3cBcr]), (.getdcr, [Config.i3cDcr]),
        (.getmrl, (leBytes 2 Config.i3cMrl.toNat).reverse), (.getmwl, (leBytes 2 Config.i3cMwl.toNat).reverse),
        (.i3cId, leBytes 1 Config.variantBit ++ leBytes 1 Config.stepping.toNat ++ leBytes 1 s.nvm.lifecycle ++ [0] ++
          leBytes 8 Config.serial.toNat ++ leBytes 4 (s.reg Reg.HIF_CFG_TAG).toNat)],
      ∃ t, exec c.1 s = .next t ∧ t.rbytes = c.2 ∧ t = { s with rbytes := t.rbytes }) ∧
    (∃ t, exec .getstatus s = .next t ∧ t.rbytes.length = 2 ∧ t.regs = s.regs) ∧
    (s.nvm.rights ≠ 5 →
      (∀ c ∈ [(Instr.i3cStatus, leBytes 1 (s.fld .PWR_STATE_STATE) ++ leBytes 1 (s.fld .HIF_READY_READY) ++
            leBytes 1 (s.fld .HIF_STAT_RUNNING) ++ leBytes 1 (s.reg Reg.THM_STAT).toNat ++
            leBytes 2 (s.fld .THM_HOT_TEMP) ++ leBytes 1 s.nvm.shutCause ++ leBytes 1 (s.fld .BIST_STAT_DEV_FAIL)),
          (.i3cTemps, (List.range 12).flatMap fun n => leBytes 2 (s.fld (.THM_SITE_TEMP n))),
          (.i3cTick, leBytes 6 s.lastTick ++ leBytes 4 s.cfgTag.toNat ++ leBytes 4 (s.fld .HIF_GEN_GEN)),
          (.i3cFault, leBytes 4 (bytesAt s.newestFault 0 4) ++ s.newestFault)],
        ∃ t, exec c.1 s = .next t ∧ t.rbytes = c.2 ∧ t = { s with rbytes := t.rbytes }) ∧
      (s.flag .PWR_WAKE_EN_I3C = true → s.inReset = false → s.off = false → s.fld .PWR_STATE_STATE ≠ 0 →
        ∃ t, exec .i3cWake s = .next t ∧ t.power.waking = true ∧ t.fld .PWR_WAKE_SRC_SRC = 6) ∧
      (∀ arg : Word, s.icxStopped = false → s.flag (icxPlace 0 42) = false →
        ∃ t, exec (.i3cRequest arg) s = .next t ∧ t.reg Reg.SEC_I3C_REQ = arg ∧ t.flag (icxPlace 1 42) = true ∧
          (s.flag .PWR_WAKE_EN_I3C = true → s.inReset = false → s.off = false → s.fld .PWR_STATE_STATE ≠ 0 →
            t.power.waking = true ∧ t.fld .PWR_WAKE_SRC_SRC = 6))) ∧
    (s.nvm.rights = 5 → ∀ (arg : Word), ∀ c ∈ [Instr.i3cStatus, .i3cTemps, .i3cTick, .i3cFault, .i3cWake, .i3cRequest arg],
      exec c s = .next s)) ∧
  (∀ (s : State) (arg : Word), s.i3cAddressed = false →
    ∀ c ∈ [Instr.getpid, .getbcr, .getdcr, .getstatus, .getmrl, .getmwl, .i3cId, .i3cStatus, .i3cTemps, .i3cTick, .i3cFault,
      .i3cWake, .i3cRequest arg], exec c s = .next s) ∧
  (∀ s : State,
    (∃ t, exec (.jtagInstruction .idcode) s = .next t ∧ t.jtag = .idcode ∧ t.tap = .runTestIdle ∧
      t.rdata = (if s.alive then BitVec.ofNat 32 idcodeWord else s.rdata) ∧
      t = { s with jtag := t.jtag, tap := t.tap, rdata := t.rdata }) ∧
    (∀ i ∈ [JtagIns.bypass, .sample, .extest], exec (.jtagInstruction i) s =
      .next { s with jtag := i, tap := .runTestIdle }) ∧
    (∀ i ∈ [JtagIns.scanAccess, .debugAccess], exec (.jtagInstruction i) s =
      .next { s with jtag := if s.nvm.rights = 1 ∨ s.nvm.rights = 4 then i else .bypass, tap := .runTestIdle }) ∧
    (∀ x : Fin 6, (s.nvm.lifecycle = 0 ∧ x = 1) ∨ (s.nvm.lifecycle = 1 ∧ x = 2) →
      ∃ t, exec (.jtagInstruction (.factoryTransition x)) s = .next t ∧ t.nvm.lifecycle = x.val ∧
        t.nvm.rights = s.nvm.rights ∧ t.regs = s.regs) ∧
    (∀ x : Fin 6, ¬((s.nvm.lifecycle = 0 ∧ x = 1) ∨ (s.nvm.lifecycle = 1 ∧ x = 2)) →
      exec (.jtagInstruction (.factoryTransition x)) s = .next { s with jtag := .bypass, tap := .runTestIdle }))

/-- A claim takes the lowest eligible source, a completion ends it; words, the lock, windows and the counters act as R394
to R406 say. A claim of the normal bank by the host or a Coachman answers the lowest eligible source, which is then
active there and pending no more; with none it answers 255 while asserted is set and else 0, and changes no register.
The fast bank answers the lowest claimable fast source and puts it on the target's stack. A completion of a source
that the target holds takes it away; of any other it counts in ICX_ERR, and out of order sets ORDER_ERR. A read of a
free lock takes it, and one by its holder changes nothing; both return GRANT 1 and the reader in HOLDER (R403 fixes
GRANT; the HOLDER bits are the model's reading, log 7, DEDUCED). A release by its holder and, where the ICX clock
runs, a timeout after 200 µs free it. HOST_CLAIM_WINDOW_EXPIRY closes the window where that clock runs. A write of a
pending word sets exactly its sources' pending bits; a write of a mask word sets their masks, and a held raise of a
source that is unmasked becomes pending. The clears clear. (R394, R395, R396, R398, R400, R401, R402, R403, R406,
notes/assumptions/7.md) -/
def Obligations.InterruptControllerClaimsAndCompletes : Prop :=
  (∀ s : State, s.barOk 1 = true →
    (∀ src, icxNormal.find? (s.eligible 2) = some src → ∃ t, exec .icxHclaim s = .next t ∧
      t.rdata = BitVec.ofNat 32 src ∧ t.icx.host.active = src :: s.icx.host.active ∧ t.flag (icxPlace 1 src) = false ∧
      RegsKept s t (· = (icxPlace 1 src).addr)) ∧
    (icxNormal.find? (s.eligible 2) = none → ∃ t, exec .icxHclaim s = .next t ∧
      t.rdata = (if s.icx.host.asserted then 255 else 0) ∧ t.regs = s.regs) ∧
    (∀ src, icxFast.find? (s.fastClaimable 2) = some src → ∃ t, exec .icxHfclaim s = .next t ∧
      t.rdata = BitVec.ofNat 32 (src - 256) ∧ t.icx.host.fast = src :: s.icx.host.fast ∧
      t.flag (icxPlace 1 src) = false ∧ RegsKept s t (· = (icxPlace 1 src).addr)) ∧
    (∀ v : Word, s.icx.host.active.contains (v.toNat % 256) = true → ∃ t, exec (.icxHcomplete v) s = .next t ∧
      t.icx.host.active = s.icx.host.active.erase (v.toNat % 256) ∧ t.regs = s.regs) ∧
    (∀ v : Word, s.icx.host.active.contains (v.toNat % 256) = false → ∃ t, exec (.icxHcomplete v) s = .next t ∧
      t.icx = s.icx ∧ t.fld .ICX_ERR_BAD_CPL = min 255 (s.fld .ICX_ERR_BAD_CPL + 1)) ∧
    (∀ v : Word, s.icx.host.fast.head? = some (256 + v.toNat % 256) → ∃ t, exec (.icxHfcomplete v) s = .next t ∧
      t.icx.host.fast = s.icx.host.fast.tail ∧ t.regs = s.regs) ∧
    (∀ v : Word, s.icx.host.fast.head? ≠ some (256 + v.toNat % 256) → ∃ t, exec (.icxHfcomplete v) s = .next t ∧
      t.icx.host.fast = s.icx.host.fast ∧ t.flag .ICX_HSTAT_ORDER_ERR = true ∧
      t.fld .ICX_ERR_ORDER = min 255 (s.fld .ICX_ERR_ORDER + 1)) ∧
    (∀ (w : Fin 9) (v : Word), ∃ t, exec (.icxPendWrite w v) s = .next t ∧
      (∀ src ∈ icxWordSources w.val, t.flag (icxPlace 1 src) = bitOf v.toNat (icxWordBit src)) ∧
      RegsKept s t (fun a => ∃ src ∈ icxWordSources w.val, a = (icxPlace 1 src).addr)) ∧
    (∀ (w : Fin 9) (v : Word), ∃ t, exec (.icxMaskWrite w v) s = .next t ∧
      (∀ src ∈ icxWordSources w.val, t.flag (icxPlace 0 src) = bitOf v.toNat (icxWordBit src) ∧
        (if bitOf v.toNat (icxWordBit src) = false ∧ s.flag (icxPlace 2 src) = true
          then t.flag (icxPlace 1 src) = true ∧ t.flag (icxPlace 2 src) = false
          else t.flag (icxPlace 1 src) = s.flag (icxPlace 1 src) ∧ t.flag (icxPlace 2 src) = s.flag (icxPlace 2 src))) ∧
      RegsKept s t (fun a => ∃ k < 3, ∃ src ∈ icxWordSources w.val, a = (icxPlace k src).addr)) ∧
    (∀ v : Word, ∃ t, exec (.icxCntClr v) s = .next t ∧
      (∀ src ∈ (if bitOf v.toNat 8 then icxFast else icxNormal),
        t.fld (icxCounter src) = if bitOf v.toNat 9 ∨ src = v.toNat % 256 + (if bitOf v.toNat 8 then 256 else 0) then 0
          else s.fld (icxCounter src)) ∧ t = { s with regs := t.regs }) ∧
    (∀ v : Word, ∃ t, exec (.icxErrClr v) s = .next t ∧ t.reg Reg.ICX_ERR = 0 ∧ RegsKept s t (· = Reg.ICX_ERR) ∧
      t = { s with regs := t.regs })) ∧
  (∀ (s : State) (core : Fin 2) (v : Word), s.coachmanRuns = true →
    (∀ src, icxNormal.find? (s.eligible core.val) = some src → ∃ t, exec (.coachmanIcxClaim core false) s = .next t ∧
      t.rdata = BitVec.ofNat 32 src ∧ (t.icx.target core.val).active = src :: (s.icx.target core.val).active ∧
      t.flag (icxPlace 1 src) = false) ∧
    (∀ src, icxFast.find? (s.fastClaimable core.val) = some src → ∃ t, exec (.coachmanIcxClaim core true) s = .next t ∧
      t.rdata = BitVec.ofNat 32 (src - 256) ∧ (t.icx.target core.val).fast = src :: (s.icx.target core.val).fast ∧
      t.flag (icxPlace 1 src) = false) ∧
    ((s.icx.target core.val).active.contains (v.toNat % 256) = true →
      ∃ t, exec (.coachmanIcxComplete core false v) s = .next t ∧
        (t.icx.target core.val).active = (s.icx.target core.val).active.erase (v.toNat % 256) ∧ t.regs = s.regs) ∧
    ((s.icx.target core.val).fast.head? = some (256 + v.toNat % 256) →
      ∃ t, exec (.coachmanIcxComplete core true v) s = .next t ∧
        (t.icx.target core.val).fast = (s.icx.target core.val).fast.tail ∧ t.regs = s.regs)) ∧
  (∀ (s : State) (reader : Fin 3) (v : Word), reader.val = 2 ∧ s.barOk 1 = true ∨ reader.val < 2 ∧ s.coachmanRuns = true →
    (s.fld .ICX_LOCK_HOLDER = 3 → ∃ t, exec (.icxLockRead reader) s = .next t ∧ t.fld .ICX_LOCK_HOLDER = reader.val ∧
      t.rdata = BitVec.ofNat 32 (1 + 4 * reader.val) ∧ t.icx.lockSince = s.now) ∧
    (s.fld .ICX_LOCK_HOLDER = reader.val → ∃ t, exec (.icxLockRead reader) s = .next t ∧
      t.rdata = BitVec.ofNat 32 (1 + 4 * reader.val) ∧ t = { s with rdata := t.rdata }) ∧
    (s.fld .ICX_LOCK_HOLDER ≠ 3 → s.fld .ICX_LOCK_HOLDER ≠ reader.val → ∃ t, exec (.icxLockRead reader) s = .next t ∧
      t.rdata = BitVec.ofNat 32 (4 * s.fld .ICX_LOCK_HOLDER) ∧ t = { s with rdata := t.rdata }) ∧
    (s.fld .ICX_LOCK_HOLDER = reader.val → ∃ t, exec (.icxLockRelease reader v) s = .next t ∧
      t.fld .ICX_LOCK_HOLDER = 3 ∧ RegsKept s t (· = Reg.ICX_LOCK)) ∧
    (s.fld .ICX_LOCK_HOLDER ≠ reader.val → exec (.icxLockRelease reader v) s = .next s)) ∧
  (∀ (s : State) (dt src : Nat), let u := s.advance dt
    u.icxStopped = false →
    (u.fld .ICX_LOCK_HOLDER ≠ 3 → 200000 ≤ u.now - u.icx.lockSince → ∃ t, exec (.icxLockTimeout dt) s = .next t ∧
      t.fld .ICX_LOCK_HOLDER = 3 ∧ t.fld .ICX_ERR_LOCK_TMO = min 255 (u.fld .ICX_ERR_LOCK_TMO + 1)) ∧
    (u.icx.windows.any (fun w => w.1 == src && decide (w.2 ≤ u.now)) = true →
      ∃ t, exec (.hostClaimWindowExpiry dt src) s = .next t ∧ t.icx.windowOpen src = false ∧ t.regs = u.regs))

/-- SPR_CLR, FLT_CLR, THM_PEAK_CLR, PWR_SLEEP_ABORT_CLR and RO_FACT_DEFECTS_CLR clear what they name and nothing else. On
an accessible function. SPR_CLR: the four counts from SPR_ST_DONE on for bits 0 to 3, and every class's SUBST count
for bit 4. FLT_CLR: EVT and LAST of source i + 1 for bit i + 1. THM_PEAK with bit 31: the peak becomes the hot
reading. PWR_SLEEP_ABORT with bit 31: the count is 0. RO_FACT_DEFECTS while RUNNING is 0: bit 30 clears the held-edge
count and bit 31 the droop. Everything else of the state is as before. A 32-bit write of the same value at the
register's offset is the same; so it is for ICX_CNT_CLR, CAL_DLIST and BIST_CTL. (R18, R102, R406, R471, R499) -/
def Obligations.ManagementClearsClear : Prop :=
  (∀ (s : State) (v : Word), s.barOk 1 = true →
    (∃ t, exec (.sprClr v) s = .next t ∧
      (∀ i, i < 4 → t.reg (Reg.SPR_ST_DONE + 4 * i) = if bitOf v.toNat i then 0 else s.reg (Reg.SPR_ST_DONE + 4 * i)) ∧
      (∀ c, c < 14 → t.fld (.SPR_CLASS_USE_SUBST c) = if bitOf v.toNat 4 then 0 else s.fld (.SPR_CLASS_USE_SUBST c)) ∧
      RegsKept s t (fun a => (∃ i < 4, a = Reg.SPR_ST_DONE + 4 * i) ∨ ∃ c < 14, a = (Fld.SPR_CLASS_USE_SUBST c).addr) ∧
      t = { s with regs := t.regs }) ∧
    (∃ t, exec (.fltClr v) s = .next t ∧
      (∀ i, i < 14 →
        t.fld (.FLT_SRC_EVT_COUNT i) = (if bitOf v.toNat (i + 1) then 0 else s.fld (.FLT_SRC_EVT_COUNT i)) ∧
        t.fld (.FLT_SRC_LAST_COUNT i) = (if bitOf v.toNat (i + 1) then 0 else s.fld (.FLT_SRC_LAST_COUNT i))) ∧
      RegsKept s t (fun a => ∃ i < 14, a = (Fld.FLT_SRC_EVT_COUNT i).addr ∨ a = (Fld.FLT_SRC_LAST_COUNT i).addr) ∧
      t = { s with regs := t.regs }) ∧
    (∃ t, exec (.thmPeakClr v) s = .next t ∧
      t.fld .THM_PEAK_TEMP = (if bitOf v.toNat 31 then s.fld .THM_HOT_TEMP else s.fld .THM_PEAK_TEMP) ∧
      RegsKept s t (· = Reg.THM_PEAK) ∧ t = { s with regs := t.regs }) ∧
    (∃ t, exec (.pwrSleepAbortClr v) s = .next t ∧
      t.fld .PWR_SLEEP_ABORT_COUNT = (if bitOf v.toNat 31 then 0 else s.fld .PWR_SLEEP_ABORT_COUNT) ∧
      RegsKept s t (· = Reg.PWR_SLEEP_ABORT) ∧ t = { s with regs := t.regs }) ∧
    (∀ e ∈ [(Reg.SPR_CLR, Instr.sprClr v), (Reg.FLT_CLR, .fltClr v), (Reg.THM_PEAK, .thmPeakClr v),
        (Reg.PWR_SLEEP_ABORT, .pwrSleepAbortClr v), (Reg.ICX_CNT_CLR, .icxCntClr v), (Reg.CAL_DLIST, .calDlistClr v),
        (Reg.BIST_CTL, .bistShutdown v)],
      exec (.registerWrite .pf1Bar0 (e.1 - 0x20000) 4 (v.setWidth 64)) s = exec e.2 s)) ∧
  (∀ (s : State) (v : Word), s.barOk 0 = true → s.hostActivity.running = false →
    let u := s.hostActivity
    exec (.registerWrite .pf0Bar0 Reg.RO_FACT_DEFECTS 4 (v.setWidth 64)) s = exec (.roFactDefectsClr v) s ∧
    ∃ t, exec (.roFactDefectsClr v) s = .next t ∧
      t.fld .RO_PIXSUP_STAT_EDGE_HELD = (if bitOf v.toNat 30 then 0 else u.fld .RO_PIXSUP_STAT_EDGE_HELD) ∧
      t.reg Reg.RO_PIXSUP_DROOP = (if bitOf v.toNat 31 then 0 else u.reg Reg.RO_PIXSUP_DROOP) ∧
      RegsKept u t (fun a => a = Reg.RO_PIXSUP_STAT ∨ a = Reg.RO_PIXSUP_DROOP) ∧ t = { u with regs := t.regs })

/-- No step of the block lowers the life-cycle code. For every state and whatever command stands at the front of its
queue, or none: where the step answers a next state, the life-cycle code of that state is not lower, and the code is
one of the six of R501 where it was one before. SEC_STAT.LIFECYCLE reads the code. (R501) -/
def Obligations.LifeCycleCodeOnlyIncreases : Prop :=
  (∀ s t : State, step s = .next t →
    s.nvm.lifecycle ≤ t.nvm.lifecycle ∧ (s.nvm.lifecycle ≤ 5 → t.nvm.lifecycle ≤ 5)) ∧
  ∀ s : State, getBits (s.readReg Reg.SEC_STAT) 2 0 = s.nvm.lifecycle % 8

/-- Right after reset the life cycle is legal and registers and host memory are in their canonical forms. State.reset:
the life-cycle code and the rights are two of the six states, with the rights and erased keys of a SCRAPPED part
exactly as R502 has them (the code that a part starts from is the model's choice, log 14), and the stores of the
registers and of host memory are canonical (the model's own form, not a rule of the spec). (R334, R501, R502,
notes/assumptions/14.md) -/
def Obligations.ResetMeetsTheInvariants : Prop :=
  LifecycleLegal State.reset ∧ StoresCanonical State.reset

/-- Every step keeps the life cycle legal: six states, and a SCRAPPED part has its rights and no identity key for ever.
For every state whose life-cycle code and rights are two of the six states and which, if SCRAPPED, has the rights of
a SCRAPPED part and erased identity keys: the same holds of whatever next state a step answers. (R502 lets the rights
of a transition apply from the next reset and excepts only the keys: that SCRAPPED takes its rights at once is the
model's reading, log 50, DEDUCED.) (R501, R502, R503, notes/assumptions/50.md) -/
def Obligations.LifeCycleStaysLegal : Prop :=
  ∀ s t : State, LifecycleLegal s → step s = .next t → LifecycleLegal t

/-- Every step keeps the registers and host memory in their canonical forms. For every state in which the stores of the
registers and of host memory are in their canonical form (addresses strictly rising, no entry that repeats what an
unlisted address reads as): the same holds of whatever next state a step answers, so equal contents are equal data.
The form is the model's own, not a rule of the spec. (R8, R319, R334) -/
def Obligations.StoresStayCanonical : Prop :=
  ∀ s t : State, StoresCanonical s → step s = .next t → StoresCanonical t
end

