-- ==== Sys2Proof/Laws/Bits.lean ====
section
/-! SUPPORT. The laws of bit fields: what a field reads after it, or a field apart from it, was written. -/

namespace Sys2Proof.Machine

theorem testBit_getBits (v hi lo i : Nat) : (getBits v hi lo).testBit i = (decide (i < hi + 1 - lo) && v.testBit (lo + i)) := by
  unfold getBits
  rw [Nat.testBit_mod_two_pow, Nat.testBit_div_two_pow, Nat.add_comm i lo]

theorem testBit_putBits (v hi lo x i : Nat) (h : lo ≤ hi) : (putBits v hi lo x).testBit i =
    if i < lo then v.testBit i else if i ≤ hi then x.testBit (i - lo) else v.testBit i := by
  have e : putBits v hi lo x =
      2 ^ lo * (2 ^ (hi + 1 - lo) * (v / 2 ^ (hi + 1)) + x % 2 ^ (hi + 1 - lo)) + v % 2 ^ lo := by
    unfold putBits
    have : 2 ^ (hi + 1) = 2 ^ lo * 2 ^ (hi + 1 - lo) := by rw [← Nat.pow_add]; congr 1; omega
    rw [this]; ring
  rw [e, Nat.testBit_two_pow_mul_add _ (Nat.mod_lt _ (by positivity))]
  split
  · next hi' => rw [Nat.testBit_mod_two_pow]; simp [hi']
  · next hi' =>
    rw [Nat.testBit_two_pow_mul_add _ (Nat.mod_lt _ (by positivity))]
    by_cases h2 : i ≤ hi
    · have h3 : i - lo < hi + 1 - lo := by omega
      simp [h2, h3, Nat.testBit_mod_two_pow]
    · have h3 : ¬ i - lo < hi + 1 - lo := by omega
      have h4 : i - lo - (hi + 1 - lo) + (hi + 1) = i := by omega
      simp only [h3, h2, if_false, Nat.testBit_div_two_pow]
      rw [h4]

/-- A field reads what was written to it. -/
theorem getBits_putBits_self (v hi lo x : Nat) (h : lo ≤ hi) : getBits (putBits v hi lo x) hi lo = x % 2 ^ (hi + 1 - lo) := by
  apply Nat.eq_of_testBit_eq
  intro i
  rw [testBit_getBits, testBit_putBits _ _ _ _ _ h, Nat.testBit_mod_two_pow]
  by_cases hi' : i < hi + 1 - lo
  · have h1 : ¬ lo + i < lo := by omega
    have h2 : lo + i ≤ hi := by omega
    simp [hi', h2]
  · simp [hi']

/-- A field that shares no bit with the one written keeps its value. -/
theorem getBits_putBits_apart (v hi lo x hi' lo' : Nat) (h : lo ≤ hi) (ha : hi' < lo ∨ hi < lo') :
    getBits (putBits v hi lo x) hi' lo' = getBits v hi' lo' := by
  apply Nat.eq_of_testBit_eq
  intro i
  rw [testBit_getBits, testBit_getBits, testBit_putBits _ _ _ _ _ h]
  by_cases hb : i < hi' + 1 - lo'
  · have : lo' + i < lo ∨ ¬ lo' + i ≤ hi := by omega
    rcases this with h1 | h1
    · simp [h1]
    · simp [h1]
  · simp [hb]

theorem putBits_lt (v hi lo x : Nat) (h : lo ≤ hi) (hv : v < 2 ^ 32) (hh : hi < 32) : putBits v hi lo x < 2 ^ 32 := by
  apply Nat.lt_pow_two_of_testBit
  intro i hi'
  rw [testBit_putBits _ _ _ _ _ h]
  have h1 : ¬ i < lo := by omega
  have h2 : ¬ i ≤ hi := by omega
  simp only [h1, h2, if_false]
  exact Nat.testBit_lt_two_pow (lt_of_lt_of_le hv (Nat.pow_le_pow_right (by norm_num) hi'))

@[simp] theorem boolNat_true : boolNat true = 1 := rfl
@[simp] theorem boolNat_false : boolNat false = 0 := rfl

theorem bitOf_eq_testBit (v i : Nat) : bitOf v i = v.testBit i := by
  unfold bitOf
  rw [Nat.testBit_eq_decide_div_mod_eq]
  by_cases h : v / 2 ^ i % 2 = 1 <;> simp [h]

theorem bitOf_putBit_self (v i : Nat) (b : Bool) : bitOf (putBit v i b) i = b := by
  rw [bitOf_eq_testBit]
  unfold putBit
  rw [testBit_putBits _ _ _ _ _ (Nat.le_refl i)]
  cases b <;> simp [boolNat]

theorem bitOf_putBit_ne (v i j : Nat) (b : Bool) (h : j ≠ i) : bitOf (putBit v i b) j = bitOf v j := by
  rw [bitOf_eq_testBit, bitOf_eq_testBit]
  unfold putBit
  rw [testBit_putBits _ _ _ _ _ (Nat.le_refl i)]
  by_cases h1 : j < i
  · simp [h1]
  · have : ¬ j ≤ i := by omega
    simp [h1, this]

end Sys2Proof.Machine
end

