-- ==== Sys2Proof/Laws/Store.lean ====
section
/-! SUPPORT. The laws of the sparse store: reading after writing, and that every operation keeps the canonical form. -/

namespace Sys2Proof.Machine

variable {α : Type}

/-! ## Reading -/

@[simp] theorem Store.get_nil (d : Nat → α) (k : Nat) : Store.get d [] k = d k := rfl

theorem Store.get_erase_self (d : Nat → α) (m : Store α) (k : Nat) : (m.erase k).get d k = d k := by
  induction m with
  | nil => rfl
  | cons p t ih =>
    obtain ⟨j, v⟩ := p
    by_cases h : j = k
    · simp [Store.erase, h, ih]
    · simp [Store.erase, Store.get, h, ih]

theorem Store.get_erase_ne (d : Nat → α) (m : Store α) {k j : Nat} (h : j ≠ k) : (m.erase k).get d j = m.get d j := by
  induction m with
  | nil => rfl
  | cons p t ih =>
    obtain ⟨i, v⟩ := p
    by_cases hi : i = k
    · subst hi
      have : i ≠ j := fun e => h e.symm
      simp [Store.erase, Store.get, this, ih]
    · simp only [Store.erase, hi, if_false, Store.get, ih]

theorem Store.get_insert_ne (d : Nat → α) (m : Store α) {k j : Nat} (v : α) (h : j ≠ k) :
    (m.insert k v).get d j = m.get d j := by
  have hk : k ≠ j := fun e => h e.symm
  induction m with
  | nil => simp [Store.insert, Store.get, hk]
  | cons p t ih =>
    obtain ⟨i, w⟩ := p
    by_cases hi : k < i
    · simp [Store.insert, Store.get, hi, hk]
    · simp only [Store.insert, hi, if_false, Store.get, ih]

theorem Store.get_insert_erase (d : Nat → α) (m : Store α) (k : Nat) (v : α) :
    ((m.erase k).insert k v).get d k = v := by
  induction m with
  | nil => simp [Store.erase, Store.insert, Store.get]
  | cons p t ih =>
    obtain ⟨i, w⟩ := p
    by_cases hi : i = k
    · simp [Store.erase, hi, ih]
    · simp only [Store.erase, hi, if_false, Store.insert]
      by_cases hk : k < i
      · simp [hk, Store.get]
      · simp [hk, Store.get, hi, ih]

/-- A read after a write to the same key gives the value written. -/
@[simp] theorem Store.get_set_self [DecidableEq α] (d : Nat → α) (m : Store α) (k : Nat) (v : α) :
    (m.set d k v).get d k = v := by
  unfold Store.set
  split
  · next h => rw [Store.get_erase_self, h]
  · exact Store.get_insert_erase d m k v

/-- A write leaves every other key alone. -/
theorem Store.get_set_ne [DecidableEq α] (d : Nat → α) (m : Store α) {k j : Nat} (v : α) (h : j ≠ k) :
    (m.set d k v).get d j = m.get d j := by
  unfold Store.set
  split
  · exact Store.get_erase_ne d m h
  · rw [Store.get_insert_ne d _ v h, Store.get_erase_ne d m h]

theorem Store.get_set [DecidableEq α] (d : Nat → α) (m : Store α) (k j : Nat) (v : α) :
    (m.set d k v).get d j = if j = k then v else m.get d j := by
  split
  · next h => rw [h, Store.get_set_self]
  · next h => exact Store.get_set_ne d m v h

/-- What a write of consecutive values leaves at a key: the value written there, or what was there. -/
theorem Store.get_setMany [DecidableEq α] (d : Nat → α) (m : Store α) (k j : Nat) (l : List α) :
    (m.setMany d k l).get d j = if k ≤ j then (l[j - k]?).getD (m.get d j) else m.get d j := by
  induction l generalizing m k with
  | nil => simp [Store.setMany]
  | cons v vs ih =>
    rw [Store.setMany, ih, Store.get_set]
    by_cases h1 : k + 1 ≤ j
    · have h2 : k ≤ j := by omega
      have h3 : j ≠ k := by omega
      obtain ⟨n, hn⟩ : ∃ n, j - k = n + 1 := ⟨j - k - 1, by omega⟩
      have h4 : j - (k + 1) = n := by omega
      simp [h1, h2, h3, hn, h4]
    · by_cases h2 : k ≤ j
      · have : j = k := by omega
        subst this
        simp
      · have h3 : j ≠ k := by omega
        simp [h1, h2, h3]

/-! ## The canonical form -/

theorem Store.rising_weaken (m : Store α) {i j : Nat} (h : i ≤ j) (hm : Store.rising (some j) m = true) :
    Store.rising (some i) m = true := by
  cases m with
  | nil => rfl
  | cons p t =>
    simp only [Store.rising, Bool.and_eq_true, decide_eq_true_eq] at hm ⊢
    exact ⟨by omega, hm.2⟩

theorem Store.rising_none (m : Store α) {i : Nat} (hm : Store.rising (some i) m = true) : Store.rising none m = true := by
  cases m with
  | nil => rfl
  | cons p t =>
    simp only [Store.rising, Bool.and_eq_true] at hm ⊢
    exact hm.2

theorem Store.rising_erase (m : Store α) (k : Nat) : ∀ i : Option Nat, Store.rising i m = true →
    Store.rising i (m.erase k) = true := by
  induction m with
  | nil => intro i h; exact h
  | cons p t ih =>
    obtain ⟨j, v⟩ := p
    intro i h
    by_cases hj : j = k
    · simp only [Store.erase, hj, if_true]
      cases i with
      | none => exact ih none (Store.rising_none t (i := j) (by simpa [Store.rising] using h))
      | some i =>
        simp only [Store.rising, Bool.and_eq_true, decide_eq_true_eq] at h
        exact ih (some i) (Store.rising_weaken t (Nat.le_of_lt h.1) h.2)
    · simp only [Store.erase, hj, if_false]
      cases i with
      | none => simp only [Store.rising] at h ⊢; exact ih _ h
      | some i =>
        simp only [Store.rising, Bool.and_eq_true, decide_eq_true_eq] at h ⊢
        exact ⟨h.1, ih _ h.2⟩

theorem Store.rising_insert (m : Store α) (k : Nat) (v : α) (hk : ∀ p ∈ m, p.1 ≠ k) :
    ∀ i : Option Nat, (∀ j, i = some j → j < k) → Store.rising i m = true → Store.rising i (m.insert k v) = true := by
  induction m with
  | nil =>
    intro i hi _
    cases i with
    | none => rfl
    | some j => simp [Store.insert, Store.rising, hi j rfl]
  | cons p t ih =>
    obtain ⟨j, w⟩ := p
    intro i hi h
    have hjk : j ≠ k := hk (j, w) (by simp)
    by_cases hlt : k < j
    · simp only [Store.insert, hlt, if_true]
      cases i with
      | none =>
        simp only [Store.rising, Bool.and_eq_true, decide_eq_true_eq] at h ⊢
        exact ⟨hlt, h⟩
      | some i =>
        simp only [Store.rising, Bool.and_eq_true, decide_eq_true_eq] at h ⊢
        exact ⟨hi i rfl, hlt, h.2⟩
    · simp only [Store.insert, hlt, if_false]
      have hj : ∀ j', some j = some j' → j' < k := by
        intro j' e
        cases e
        omega
      have ht := ih (fun p hp => hk p (by simp [hp])) (some j) hj
      cases i with
      | none => simp only [Store.rising] at h ⊢; exact ht h
      | some i =>
        simp only [Store.rising, Bool.and_eq_true, decide_eq_true_eq] at h ⊢
        exact ⟨h.1, ht h.2⟩

theorem Store.mem_erase (m : Store α) (k : Nat) (p : Nat × α) (h : p ∈ m.erase k) : p ∈ m ∧ p.1 ≠ k := by
  induction m with
  | nil => simp [Store.erase] at h
  | cons q t ih =>
    obtain ⟨j, v⟩ := q
    by_cases hj : j = k
    · simp only [Store.erase, hj, if_true] at h
      exact ⟨by simp [(ih h).1], (ih h).2⟩
    · simp only [Store.erase, hj, if_false, List.mem_cons] at h
      rcases h with h | h
      · subst h; exact ⟨by simp, hj⟩
      · exact ⟨by simp [(ih h).1], (ih h).2⟩

theorem Store.mem_insert (m : Store α) (k : Nat) (v : α) (p : Nat × α) (h : p ∈ m.insert k v) : p = (k, v) ∨ p ∈ m := by
  induction m with
  | nil => simp [Store.insert] at h; exact Or.inl h
  | cons q t ih =>
    obtain ⟨j, w⟩ := q
    by_cases hj : k < j
    · simp only [Store.insert, hj, if_true, List.mem_cons] at h ⊢
      tauto
    · simp only [Store.insert, hj, if_false, List.mem_cons] at h ⊢
      rcases h with h | h
      · exact Or.inr (Or.inl h)
      · rcases ih h with h | h
        · exact Or.inl h
        · exact Or.inr (Or.inr h)

/-- A store is canonical when its keys rise and it lists no default. -/
theorem Store.wf_iff [DecidableEq α] (d : Nat → α) (m : Store α) :
    Store.wf d m = true ↔ Store.rising none m = true ∧ ∀ p ∈ m, p.2 ≠ d p.1 := by
  simp [Store.wf, List.all_eq_true]

@[simp] theorem Store.wf_nil [DecidableEq α] (d : Nat → α) : Store.wf d ([] : Store α) = true := rfl

/-- A write keeps the canonical form. -/
theorem Store.wf_set [DecidableEq α] (d : Nat → α) (m : Store α) (k : Nat) (v : α) (h : Store.wf d m = true) :
    Store.wf d (m.set d k v) = true := by
  rw [Store.wf_iff] at h ⊢
  unfold Store.set
  split
  · exact ⟨Store.rising_erase m k none h.1, fun p hp => h.2 p (Store.mem_erase m k p hp).1⟩
  · next hv =>
    refine ⟨Store.rising_insert _ k v (fun p hp => (Store.mem_erase m k p hp).2) none (by simp)
      (Store.rising_erase m k none h.1), ?_⟩
    intro p hp
    rcases Store.mem_insert _ k v p hp with e | e
    · subst e; exact hv
    · exact h.2 p (Store.mem_erase m k p e).1

/-- A write of consecutive values keeps the canonical form. -/
theorem Store.wf_setMany [DecidableEq α] (d : Nat → α) (m : Store α) (k : Nat) (l : List α) (h : Store.wf d m = true) :
    Store.wf d (m.setMany d k l) = true := by
  induction l generalizing m k with
  | nil => exact h
  | cons v vs ih => exact ih _ _ (Store.wf_set d m k v h)

theorem Store.rising_filter (m : Store α) (p : Nat × α → Bool) : ∀ i : Option Nat, Store.rising i m = true →
    Store.rising i (m.filter p) = true := by
  induction m with
  | nil => intro i h; exact h
  | cons q t ih =>
    obtain ⟨j, v⟩ := q
    intro i h
    by_cases hp : p (j, v) = true
    · rw [List.filter_cons_of_pos hp]
      cases i with
      | none => simp only [Store.rising] at h ⊢; exact ih _ h
      | some i =>
        simp only [Store.rising, Bool.and_eq_true, decide_eq_true_eq] at h ⊢
        exact ⟨h.1, ih _ h.2⟩
    · rw [List.filter_cons_of_neg hp]
      cases i with
      | none => exact ih none (Store.rising_none t (i := j) (by simpa [Store.rising] using h))
      | some i =>
        simp only [Store.rising, Bool.and_eq_true, decide_eq_true_eq] at h
        exact ih (some i) (Store.rising_weaken t (Nat.le_of_lt h.1) h.2)

/-- Leaving pairs out keeps the canonical form. -/
theorem Store.wf_filter [DecidableEq α] (d : Nat → α) (m : Store α) (p : Nat × α → Bool) (h : Store.wf d m = true) :
    Store.wf d (m.filter p) = true := by
  rw [Store.wf_iff] at h ⊢
  exact ⟨Store.rising_filter m p none h.1, fun q hq => h.2 q (List.mem_filter.mp hq).1⟩

end Sys2Proof.Machine
end

