-- ==== Sys2Proof/Laws/Ops.lean ====
section
/-! SUPPORT. The laws of the named operations: a register and a field read what was written, every other register keeps
its value, host memory holds the bytes that were written, and the pads note their edges. -/

namespace Sys2Proof.Machine

/-! ## Registers -/

@[simp] theorem reg_setReg_self (s : State) (a : Nat) (v : Word) : (s.setReg a v).reg a = v :=
  Store.get_set_self _ _ _ _

theorem reg_setReg_ne (s : State) {a b : Nat} (v : Word) (h : b ≠ a) : (s.setReg a v).reg b = s.reg b :=
  Store.get_set_ne _ _ _ h

theorem reg_setReg (s : State) (a b : Nat) (v : Word) : (s.setReg a v).reg b = if b = a then v else s.reg b :=
  Store.get_set _ _ _ _ _

/-- A state that differs in other fields than the registers reads the same registers. -/
theorem reg_congr {s t : State} (h : t.regs = s.regs) (a : Nat) : t.reg a = s.reg a := by
  simp [State.reg, h]

theorem fld_congr {s t : State} (h : t.regs = s.regs) (f : Fld) : t.fld f = s.fld f := by
  simp [State.fld, State.reg, h]

theorem flag_congr {s t : State} (h : t.regs = s.regs) (f : Fld) : t.flag f = s.flag f := by
  simp [State.flag, State.fld, State.reg, h]

theorem reg_setFld_ne (s : State) {f : Fld} {b : Nat} (v : Nat) (h : b ≠ f.addr) : (s.setFld f v).reg b = s.reg b :=
  reg_setReg_ne s _ h

theorem reg_setFld_self (s : State) (f : Fld) (v : Nat) :
    (s.setFld f v).reg f.addr = BitVec.ofNat 32 (putBits (s.reg f.addr).toNat f.hi f.lo v) :=
  reg_setReg_self s _ _

/-- A field reads what was written to it, as far as it is wide. -/
theorem fld_setFld_self (s : State) (f : Fld) (v : Nat) (h : f.lo ≤ f.hi) (h32 : f.hi < 32) :
    (s.setFld f v).fld f = v % 2 ^ f.width := by
  unfold State.fld
  rw [reg_setFld_self, BitVec.toNat_ofNat, Nat.mod_eq_of_lt (putBits_lt _ _ _ _ h (s.reg f.addr).isLt h32),
    getBits_putBits_self _ _ _ _ h]

/-- A field of another register keeps its value. -/
theorem fld_setFld_ne (s : State) {f g : Fld} (v : Nat) (h : g.addr ≠ f.addr) : (s.setFld f v).fld g = s.fld g := by
  unfold State.fld
  rw [reg_setFld_ne s v h]

/-- A field of the same register that shares no bit keeps its value. -/
theorem fld_setFld_apart (s : State) {f g : Fld} (v : Nat) (ha : g.addr = f.addr) (h : f.lo ≤ f.hi) (h32 : f.hi < 32)
    (hb : g.hi < f.lo ∨ f.hi < g.lo) : (s.setFld f v).fld g = s.fld g := by
  unfold State.fld
  rw [ha, reg_setFld_self, BitVec.toNat_ofNat, Nat.mod_eq_of_lt (putBits_lt _ _ _ _ h (s.reg f.addr).isLt h32),
    getBits_putBits_apart _ _ _ _ _ _ h hb]

theorem fld_setReg_ne (s : State) {a : Nat} {g : Fld} (v : Word) (h : g.addr ≠ a) : (s.setReg a v).fld g = s.fld g := by
  unfold State.fld
  rw [reg_setReg_ne s v h]

theorem flag_setFlag_self (s : State) (f : Fld) (b : Bool) (h : f.lo = f.hi) (h32 : f.hi < 32) :
    (s.setFlag f b).flag f = b := by
  unfold State.flag State.setFlag
  rw [fld_setFld_self s f _ (by omega) h32]
  have : f.width = 1 := by unfold Fld.width; omega
  rw [this]
  cases b <;> rfl

theorem reg_setFlag_ne (s : State) {f : Fld} {a : Nat} (b : Bool) (h : a ≠ f.addr) : (s.setFlag f b).reg a = s.reg a :=
  reg_setFld_ne s _ h

theorem reg_count_ne (s : State) {f : Fld} {a : Nat} (n : Nat) (h : a ≠ f.addr) : (s.count f n).reg a = s.reg a :=
  reg_setFld_ne s _ h

/-- A counter counts, and stays at its largest value. -/
theorem fld_count_self (s : State) (f : Fld) (n : Nat) (h : f.lo ≤ f.hi) (h32 : f.hi < 32) :
    (s.count f n).fld f = min (2 ^ f.width - 1) (s.fld f + n) := by
  unfold State.count
  rw [fld_setFld_self s f _ h h32]
  unfold satAdd
  exact Nat.mod_eq_of_lt (by have : 0 < 2 ^ f.width := by positivity
                             omega)

theorem reg_setWide_ne (s : State) {a b : Nat} (v : Nat) (h1 : b ≠ a) (h2 : b ≠ a + 4) : (s.setWide a v).reg b = s.reg b := by
  unfold State.setWide
  rw [reg_setReg_ne _ _ h2, reg_setReg_ne _ _ h1]

/-- Both halves of a 64-bit value read as written. -/
theorem wide_setWide (s : State) (a v : Nat) : (s.setWide a v).wide a = v % 2 ^ 64 := by
  unfold State.wide State.setWide
  rw [reg_setReg_self, reg_setReg_ne _ _ (by omega : a ≠ a + 4), reg_setReg_self]
  simp only [BitVec.toNat_ofNat]
  omega

/-! ## Host memory -/

/-- A byte of host memory after a write: the byte written there, or the one that was there. -/
theorem memByte_writeMem (s : State) (a : Nat) (bs : List Byte) (x : Nat) :
    (s.writeMem a bs).memByte x =
      if a % 2 ^ 64 ≤ x then (bs[x - a % 2 ^ 64]?).getD (s.memByte x) else s.memByte x :=
  Store.get_setMany _ _ _ _ _

/-- A write leaves every byte outside the bytes it stores as it was. -/
theorem memByte_writeMem_apart (s : State) (a : Nat) (bs : List Byte) (x : Nat)
    (h : x < a % 2 ^ 64 ∨ a % 2 ^ 64 + bs.length ≤ x) : (s.writeMem a bs).memByte x = s.memByte x := by
  rw [memByte_writeMem]
  split
  · next h1 =>
    have : bs.length ≤ x - a % 2 ^ 64 := by omega
    rw [List.getElem?_eq_none this]; rfl
  · rfl

/-! ## The canonical form -/

/-- A write of a register keeps the canonical form of the registers. -/
theorem wf_setReg (s : State) (a : Nat) (v : Word) (h : Store.wf regReset s.regs = true) :
    Store.wf regReset (s.setReg a v).regs = true := Store.wf_set _ _ _ _ h

/-- A write of host memory keeps its canonical form. -/
theorem wf_writeMem (s : State) (a : Nat) (bs : List Byte) (h : Store.wf (fun _ => (0 : Byte)) s.hostMem = true) :
    Store.wf (fun _ => (0 : Byte)) (s.writeMem a bs).hostMem = true := Store.wf_setMany _ _ _ _ h

/-- Host memory after reset is in canonical form. -/
theorem wf_reset_hostMem : Store.wf (fun _ => (0 : Byte)) State.reset.hostMem = true := rfl

/-! ## Pins -/

@[simp] theorem pin_setPin_self (s : State) (n : Nat) (b : Bool) : (s.setPin n b).pin n = b := Store.get_set_self _ _ _ _

theorem pin_setPin_ne (s : State) {n m : Nat} (b : Bool) (h : m ≠ n) : (s.setPin n b).pin m = s.pin m :=
  Store.get_set_ne _ _ _ h

/-- An edge is noted at its pad, and at no other. -/
theorem lastEdge_markEdge (s : State) (n m : Nat) :
    (s.markEdge n).lastEdge m = if m = n then s.now + 1 else s.lastEdge m := by
  unfold State.lastEdge State.markEdge
  rw [Store.get_set, Store.get_set_ne _ _ _ (by omega : 2 * m ≠ 2 * n + 1)]
  simp only [show (2 * m = 2 * n) = (m = n) from propext (by omega)]

/-- The edge that was the last one at a pad is then the one before. -/
theorem edgeBefore_markEdge (s : State) (n m : Nat) :
    (s.markEdge n).edgeBefore m = if m = n then s.lastEdge n else s.edgeBefore m := by
  unfold State.edgeBefore State.markEdge
  rw [Store.get_set_ne _ _ _ (by omega : 2 * m + 1 ≠ 2 * n), Store.get_set]
  simp only [show (2 * m + 1 = 2 * n + 1) = (m = n) from propext (by omega)]

/-- A pin that takes a level has an edge exactly where the level changes. -/
theorem lastEdge_setPin (s : State) (n m : Nat) (b : Bool) :
    (s.setPin n b).lastEdge m = if m = n ∧ s.pin n ≠ b then s.now + 1 else s.lastEdge m := by
  by_cases h : s.pin n = b
  · simp [State.setPin, State.lastEdge, h]
  · have e : (s.setPin n b).lastEdge m = (s.markEdge n).lastEdge m := by simp [State.setPin, State.lastEdge, h]
    rw [e, lastEdge_markEdge]
    simp [h]

/-! ## Reads of the NVM and the Drays -/

/-- A read of the NVM that does not fail gives what stands there, and uses up one free value. -/
theorem nvmRead_holds (s : State) (bs : List Byte) (h : Config.nvmReadFails s.freeCtr = false) :
    s.nvmRead bs = (bs, s.free.2) := by simp [State.nvmRead, h]

/-- While writes go out at the full rate of the link, a Dray has room. -/
theorem drayFull_room (s : State) (h : s.writesWait = false) : s.drayFull false = (false, s) := by
  simp [State.drayFull, h]

end Sys2Proof.Machine
end

