-- ==== Sys2Proof/Laws/State.lean ====
section
/-! SUPPORT. One lemma for each field of the state and each basic update: the update leaves the field as it was. -/

namespace Sys2Proof.Machine

/-! ## setReg -/

@[simp] theorem State.setReg_now (s : State) (a : Nat) (v : Word) : (s.setReg a v).now = s.now := rfl
@[simp] theorem State.setReg_tb (s : State) (a : Nat) (v : Word) : (s.setReg a v).tb = s.tb := rfl
@[simp] theorem State.setReg_tbStarted (s : State) (a : Nat) (v : Word) : (s.setReg a v).tbStarted = s.tbStarted := rfl
@[simp] theorem State.setReg_clk (s : State) (a : Nat) (v : Word) : (s.setReg a v).clk = s.clk := rfl
@[simp] theorem State.setReg_tbu (s : State) (a : Nat) (v : Word) : (s.setReg a v).tbu = s.tbu := rfl
@[simp] theorem State.setReg_clocks (s : State) (a : Nat) (v : Word) : (s.setReg a v).clocks = s.clocks := rfl
@[simp] theorem State.setReg_inReset (s : State) (a : Nat) (v : Word) : (s.setReg a v).inReset = s.inReset := rfl
@[simp] theorem State.setReg_resetN (s : State) (a : Nat) (v : Word) : (s.setReg a v).resetN = s.resetN := rfl
@[simp] theorem State.setReg_railLow (s : State) (a : Nat) (v : Word) : (s.setReg a v).railLow = s.railLow := rfl
@[simp] theorem State.setReg_startAt (s : State) (a : Nat) (v : Word) : (s.setReg a v).startAt = s.startAt := rfl
@[simp] theorem State.setReg_off (s : State) (a : Nat) (v : Word) : (s.setReg a v).off = s.off := rfl
@[simp] theorem State.setReg_freeCtr (s : State) (a : Nat) (v : Word) : (s.setReg a v).freeCtr = s.freeCtr := rfl
@[simp] theorem State.setReg_hostMem (s : State) (a : Nat) (v : Word) : (s.setReg a v).hostMem = s.hostMem := rfl
@[simp] theorem State.setReg_sent (s : State) (a : Nat) (v : Word) : (s.setReg a v).sent = s.sent := rfl
@[simp] theorem State.setReg_rdata (s : State) (a : Nat) (v : Word) : (s.setReg a v).rdata = s.rdata := rfl
@[simp] theorem State.setReg_rbytes (s : State) (a : Nat) (v : Word) : (s.setReg a v).rbytes = s.rbytes := rfl
@[simp] theorem State.setReg_pins (s : State) (a : Nat) (v : Word) : (s.setReg a v).pins = s.pins := rfl
@[simp] theorem State.setReg_wvPins (s : State) (a : Nat) (v : Word) : (s.setReg a v).wvPins = s.wvPins := rfl
@[simp] theorem State.setReg_pcie (s : State) (a : Nat) (v : Word) : (s.setReg a v).pcie = s.pcie := rfl
@[simp] theorem State.setReg_rings (s : State) (a : Nat) (v : Word) : (s.setReg a v).rings = s.rings := rfl
@[simp] theorem State.setReg_archive (s : State) (a : Nat) (v : Word) : (s.setReg a v).archive = s.archive := rfl
@[simp] theorem State.setReg_icx (s : State) (a : Nat) (v : Word) : (s.setReg a v).icx = s.icx := rfl
@[simp] theorem State.setReg_evSeq (s : State) (a : Nat) (v : Word) : (s.setReg a v).evSeq = s.evSeq := rfl
@[simp] theorem State.setReg_evtLimit (s : State) (a : Nat) (v : Word) : (s.setReg a v).evtLimit = s.evtLimit := rfl
@[simp] theorem State.setReg_suppressedMask (s : State) (a : Nat) (v : Word) : (s.setReg a v).suppressedMask = s.suppressedMask := rfl
@[simp] theorem State.setReg_groups (s : State) (a : Nat) (v : Word) : (s.setReg a v).groups = s.groups := rfl
@[simp] theorem State.setReg_accepted (s : State) (a : Nat) (v : Word) : (s.setReg a v).accepted = s.accepted := rfl
@[simp] theorem State.setReg_loads (s : State) (a : Nat) (v : Word) : (s.setReg a v).loads = s.loads := rfl
@[simp] theorem State.setReg_tables (s : State) (a : Nat) (v : Word) : (s.setReg a v).tables = s.tables := rfl
@[simp] theorem State.setReg_mgmt (s : State) (a : Nat) (v : Word) : (s.setReg a v).mgmt = s.mgmt := rfl
@[simp] theorem State.setReg_hostWatch (s : State) (a : Nat) (v : Word) : (s.setReg a v).hostWatch = s.hostWatch := rfl
@[simp] theorem State.setReg_mboxGen (s : State) (a : Nat) (v : Word) : (s.setReg a v).mboxGen = s.mboxGen := rfl
@[simp] theorem State.setReg_seq (s : State) (a : Nat) (v : Word) : (s.setReg a v).seq = s.seq := rfl
@[simp] theorem State.setReg_cfgHost (s : State) (a : Nat) (v : Word) : (s.setReg a v).cfgHost = s.cfgHost := rfl
@[simp] theorem State.setReg_hostMode (s : State) (a : Nat) (v : Word) : (s.setReg a v).hostMode = s.hostMode := rfl
@[simp] theorem State.setReg_frames (s : State) (a : Nat) (v : Word) : (s.setReg a v).frames = s.frames := rfl
@[simp] theorem State.setReg_fireflies (s : State) (a : Nat) (v : Word) : (s.setReg a v).fireflies = s.fireflies := rfl
@[simp] theorem State.setReg_trigOuts (s : State) (a : Nat) (v : Word) : (s.setReg a v).trigOuts = s.trigOuts := rfl
@[simp] theorem State.setReg_camFrames (s : State) (a : Nat) (v : Word) : (s.setReg a v).camFrames = s.camFrames := rfl
@[simp] theorem State.setReg_camLast (s : State) (a : Nat) (v : Word) : (s.setReg a v).camLast = s.camLast := rfl
@[simp] theorem State.setReg_cal (s : State) (a : Nat) (v : Word) : (s.setReg a v).cal = s.cal := rfl
@[simp] theorem State.setReg_bg (s : State) (a : Nat) (v : Word) : (s.setReg a v).bg = s.bg := rfl
@[simp] theorem State.setReg_statFrame (s : State) (a : Nat) (v : Word) : (s.setReg a v).statFrame = s.statFrame := rfl
@[simp] theorem State.setReg_dspLast (s : State) (a : Nat) (v : Word) : (s.setReg a v).dspLast = s.dspLast := rfl
@[simp] theorem State.setReg_tracker (s : State) (a : Nat) (v : Word) : (s.setReg a v).tracker = s.tracker := rfl
@[simp] theorem State.setReg_ej (s : State) (a : Nat) (v : Word) : (s.setReg a v).ej = s.ej := rfl
@[simp] theorem State.setReg_engines (s : State) (a : Nat) (v : Word) : (s.setReg a v).engines = s.engines := rfl
@[simp] theorem State.setReg_wvRoles (s : State) (a : Nat) (v : Word) : (s.setReg a v).wvRoles = s.wvRoles := rfl
@[simp] theorem State.setReg_spares (s : State) (a : Nat) (v : Word) : (s.setReg a v).spares = s.spares := rfl
@[simp] theorem State.setReg_nvm (s : State) (a : Nat) (v : Word) : (s.setReg a v).nvm = s.nvm := rfl
@[simp] theorem State.setReg_thermal (s : State) (a : Nat) (v : Word) : (s.setReg a v).thermal = s.thermal := rfl
@[simp] theorem State.setReg_gov (s : State) (a : Nat) (v : Word) : (s.setReg a v).gov = s.gov := rfl
@[simp] theorem State.setReg_coach (s : State) (a : Nat) (v : Word) : (s.setReg a v).coach = s.coach := rfl
@[simp] theorem State.setReg_digest (s : State) (a : Nat) (v : Word) : (s.setReg a v).digest = s.digest := rfl
@[simp] theorem State.setReg_i3c (s : State) (a : Nat) (v : Word) : (s.setReg a v).i3c = s.i3c := rfl
@[simp] theorem State.setReg_power (s : State) (a : Nat) (v : Word) : (s.setReg a v).power = s.power := rfl
@[simp] theorem State.setReg_jtag (s : State) (a : Nat) (v : Word) : (s.setReg a v).jtag = s.jtag := rfl
@[simp] theorem State.setReg_tap (s : State) (a : Nat) (v : Word) : (s.setReg a v).tap = s.tap := rfl
@[simp] theorem State.setReg_pending (s : State) (a : Nat) (v : Word) : (s.setReg a v).pending = s.pending := rfl

/-! ## setFld -/

@[simp] theorem State.setFld_now (s : State) (f : Fld) (v : Nat) : (s.setFld f v).now = s.now := rfl
@[simp] theorem State.setFld_tb (s : State) (f : Fld) (v : Nat) : (s.setFld f v).tb = s.tb := rfl
@[simp] theorem State.setFld_tbStarted (s : State) (f : Fld) (v : Nat) : (s.setFld f v).tbStarted = s.tbStarted := rfl
@[simp] theorem State.setFld_clk (s : State) (f : Fld) (v : Nat) : (s.setFld f v).clk = s.clk := rfl
@[simp] theorem State.setFld_tbu (s : State) (f : Fld) (v : Nat) : (s.setFld f v).tbu = s.tbu := rfl
@[simp] theorem State.setFld_clocks (s : State) (f : Fld) (v : Nat) : (s.setFld f v).clocks = s.clocks := rfl
@[simp] theorem State.setFld_inReset (s : State) (f : Fld) (v : Nat) : (s.setFld f v).inReset = s.inReset := rfl
@[simp] theorem State.setFld_resetN (s : State) (f : Fld) (v : Nat) : (s.setFld f v).resetN = s.resetN := rfl
@[simp] theorem State.setFld_railLow (s : State) (f : Fld) (v : Nat) : (s.setFld f v).railLow = s.railLow := rfl
@[simp] theorem State.setFld_startAt (s : State) (f : Fld) (v : Nat) : (s.setFld f v).startAt = s.startAt := rfl
@[simp] theorem State.setFld_off (s : State) (f : Fld) (v : Nat) : (s.setFld f v).off = s.off := rfl
@[simp] theorem State.setFld_freeCtr (s : State) (f : Fld) (v : Nat) : (s.setFld f v).freeCtr = s.freeCtr := rfl
@[simp] theorem State.setFld_hostMem (s : State) (f : Fld) (v : Nat) : (s.setFld f v).hostMem = s.hostMem := rfl
@[simp] theorem State.setFld_sent (s : State) (f : Fld) (v : Nat) : (s.setFld f v).sent = s.sent := rfl
@[simp] theorem State.setFld_rdata (s : State) (f : Fld) (v : Nat) : (s.setFld f v).rdata = s.rdata := rfl
@[simp] theorem State.setFld_rbytes (s : State) (f : Fld) (v : Nat) : (s.setFld f v).rbytes = s.rbytes := rfl
@[simp] theorem State.setFld_pins (s : State) (f : Fld) (v : Nat) : (s.setFld f v).pins = s.pins := rfl
@[simp] theorem State.setFld_wvPins (s : State) (f : Fld) (v : Nat) : (s.setFld f v).wvPins = s.wvPins := rfl
@[simp] theorem State.setFld_pcie (s : State) (f : Fld) (v : Nat) : (s.setFld f v).pcie = s.pcie := rfl
@[simp] theorem State.setFld_rings (s : State) (f : Fld) (v : Nat) : (s.setFld f v).rings = s.rings := rfl
@[simp] theorem State.setFld_archive (s : State) (f : Fld) (v : Nat) : (s.setFld f v).archive = s.archive := rfl
@[simp] theorem State.setFld_icx (s : State) (f : Fld) (v : Nat) : (s.setFld f v).icx = s.icx := rfl
@[simp] theorem State.setFld_evSeq (s : State) (f : Fld) (v : Nat) : (s.setFld f v).evSeq = s.evSeq := rfl
@[simp] theorem State.setFld_evtLimit (s : State) (f : Fld) (v : Nat) : (s.setFld f v).evtLimit = s.evtLimit := rfl
@[simp] theorem State.setFld_suppressedMask (s : State) (f : Fld) (v : Nat) : (s.setFld f v).suppressedMask = s.suppressedMask := rfl
@[simp] theorem State.setFld_groups (s : State) (f : Fld) (v : Nat) : (s.setFld f v).groups = s.groups := rfl
@[simp] theorem State.setFld_accepted (s : State) (f : Fld) (v : Nat) : (s.setFld f v).accepted = s.accepted := rfl
@[simp] theorem State.setFld_loads (s : State) (f : Fld) (v : Nat) : (s.setFld f v).loads = s.loads := rfl
@[simp] theorem State.setFld_tables (s : State) (f : Fld) (v : Nat) : (s.setFld f v).tables = s.tables := rfl
@[simp] theorem State.setFld_mgmt (s : State) (f : Fld) (v : Nat) : (s.setFld f v).mgmt = s.mgmt := rfl
@[simp] theorem State.setFld_hostWatch (s : State) (f : Fld) (v : Nat) : (s.setFld f v).hostWatch = s.hostWatch := rfl
@[simp] theorem State.setFld_mboxGen (s : State) (f : Fld) (v : Nat) : (s.setFld f v).mboxGen = s.mboxGen := rfl
@[simp] theorem State.setFld_seq (s : State) (f : Fld) (v : Nat) : (s.setFld f v).seq = s.seq := rfl
@[simp] theorem State.setFld_cfgHost (s : State) (f : Fld) (v : Nat) : (s.setFld f v).cfgHost = s.cfgHost := rfl
@[simp] theorem State.setFld_hostMode (s : State) (f : Fld) (v : Nat) : (s.setFld f v).hostMode = s.hostMode := rfl
@[simp] theorem State.setFld_frames (s : State) (f : Fld) (v : Nat) : (s.setFld f v).frames = s.frames := rfl
@[simp] theorem State.setFld_fireflies (s : State) (f : Fld) (v : Nat) : (s.setFld f v).fireflies = s.fireflies := rfl
@[simp] theorem State.setFld_trigOuts (s : State) (f : Fld) (v : Nat) : (s.setFld f v).trigOuts = s.trigOuts := rfl
@[simp] theorem State.setFld_camFrames (s : State) (f : Fld) (v : Nat) : (s.setFld f v).camFrames = s.camFrames := rfl
@[simp] theorem State.setFld_camLast (s : State) (f : Fld) (v : Nat) : (s.setFld f v).camLast = s.camLast := rfl
@[simp] theorem State.setFld_cal (s : State) (f : Fld) (v : Nat) : (s.setFld f v).cal = s.cal := rfl
@[simp] theorem State.setFld_bg (s : State) (f : Fld) (v : Nat) : (s.setFld f v).bg = s.bg := rfl
@[simp] theorem State.setFld_statFrame (s : State) (f : Fld) (v : Nat) : (s.setFld f v).statFrame = s.statFrame := rfl
@[simp] theorem State.setFld_dspLast (s : State) (f : Fld) (v : Nat) : (s.setFld f v).dspLast = s.dspLast := rfl
@[simp] theorem State.setFld_tracker (s : State) (f : Fld) (v : Nat) : (s.setFld f v).tracker = s.tracker := rfl
@[simp] theorem State.setFld_ej (s : State) (f : Fld) (v : Nat) : (s.setFld f v).ej = s.ej := rfl
@[simp] theorem State.setFld_engines (s : State) (f : Fld) (v : Nat) : (s.setFld f v).engines = s.engines := rfl
@[simp] theorem State.setFld_wvRoles (s : State) (f : Fld) (v : Nat) : (s.setFld f v).wvRoles = s.wvRoles := rfl
@[simp] theorem State.setFld_spares (s : State) (f : Fld) (v : Nat) : (s.setFld f v).spares = s.spares := rfl
@[simp] theorem State.setFld_nvm (s : State) (f : Fld) (v : Nat) : (s.setFld f v).nvm = s.nvm := rfl
@[simp] theorem State.setFld_thermal (s : State) (f : Fld) (v : Nat) : (s.setFld f v).thermal = s.thermal := rfl
@[simp] theorem State.setFld_gov (s : State) (f : Fld) (v : Nat) : (s.setFld f v).gov = s.gov := rfl
@[simp] theorem State.setFld_coach (s : State) (f : Fld) (v : Nat) : (s.setFld f v).coach = s.coach := rfl
@[simp] theorem State.setFld_digest (s : State) (f : Fld) (v : Nat) : (s.setFld f v).digest = s.digest := rfl
@[simp] theorem State.setFld_i3c (s : State) (f : Fld) (v : Nat) : (s.setFld f v).i3c = s.i3c := rfl
@[simp] theorem State.setFld_power (s : State) (f : Fld) (v : Nat) : (s.setFld f v).power = s.power := rfl
@[simp] theorem State.setFld_jtag (s : State) (f : Fld) (v : Nat) : (s.setFld f v).jtag = s.jtag := rfl
@[simp] theorem State.setFld_tap (s : State) (f : Fld) (v : Nat) : (s.setFld f v).tap = s.tap := rfl
@[simp] theorem State.setFld_pending (s : State) (f : Fld) (v : Nat) : (s.setFld f v).pending = s.pending := rfl

/-! ## setFlag -/

@[simp] theorem State.setFlag_now (s : State) (f : Fld) (b : Bool) : (s.setFlag f b).now = s.now := rfl
@[simp] theorem State.setFlag_tb (s : State) (f : Fld) (b : Bool) : (s.setFlag f b).tb = s.tb := rfl
@[simp] theorem State.setFlag_tbStarted (s : State) (f : Fld) (b : Bool) : (s.setFlag f b).tbStarted = s.tbStarted := rfl
@[simp] theorem State.setFlag_clk (s : State) (f : Fld) (b : Bool) : (s.setFlag f b).clk = s.clk := rfl
@[simp] theorem State.setFlag_tbu (s : State) (f : Fld) (b : Bool) : (s.setFlag f b).tbu = s.tbu := rfl
@[simp] theorem State.setFlag_clocks (s : State) (f : Fld) (b : Bool) : (s.setFlag f b).clocks = s.clocks := rfl
@[simp] theorem State.setFlag_inReset (s : State) (f : Fld) (b : Bool) : (s.setFlag f b).inReset = s.inReset := rfl
@[simp] theorem State.setFlag_resetN (s : State) (f : Fld) (b : Bool) : (s.setFlag f b).resetN = s.resetN := rfl
@[simp] theorem State.setFlag_railLow (s : State) (f : Fld) (b : Bool) : (s.setFlag f b).railLow = s.railLow := rfl
@[simp] theorem State.setFlag_startAt (s : State) (f : Fld) (b : Bool) : (s.setFlag f b).startAt = s.startAt := rfl
@[simp] theorem State.setFlag_off (s : State) (f : Fld) (b : Bool) : (s.setFlag f b).off = s.off := rfl
@[simp] theorem State.setFlag_freeCtr (s : State) (f : Fld) (b : Bool) : (s.setFlag f b).freeCtr = s.freeCtr := rfl
@[simp] theorem State.setFlag_hostMem (s : State) (f : Fld) (b : Bool) : (s.setFlag f b).hostMem = s.hostMem := rfl
@[simp] theorem State.setFlag_sent (s : State) (f : Fld) (b : Bool) : (s.setFlag f b).sent = s.sent := rfl
@[simp] theorem State.setFlag_rdata (s : State) (f : Fld) (b : Bool) : (s.setFlag f b).rdata = s.rdata := rfl
@[simp] theorem State.setFlag_rbytes (s : State) (f : Fld) (b : Bool) : (s.setFlag f b).rbytes = s.rbytes := rfl
@[simp] theorem State.setFlag_pins (s : State) (f : Fld) (b : Bool) : (s.setFlag f b).pins = s.pins := rfl
@[simp] theorem State.setFlag_wvPins (s : State) (f : Fld) (b : Bool) : (s.setFlag f b).wvPins = s.wvPins := rfl
@[simp] theorem State.setFlag_pcie (s : State) (f : Fld) (b : Bool) : (s.setFlag f b).pcie = s.pcie := rfl
@[simp] theorem State.setFlag_rings (s : State) (f : Fld) (b : Bool) : (s.setFlag f b).rings = s.rings := rfl
@[simp] theorem State.setFlag_archive (s : State) (f : Fld) (b : Bool) : (s.setFlag f b).archive = s.archive := rfl
@[simp] theorem State.setFlag_icx (s : State) (f : Fld) (b : Bool) : (s.setFlag f b).icx = s.icx := rfl
@[simp] theorem State.setFlag_evSeq (s : State) (f : Fld) (b : Bool) : (s.setFlag f b).evSeq = s.evSeq := rfl
@[simp] theorem State.setFlag_evtLimit (s : State) (f : Fld) (b : Bool) : (s.setFlag f b).evtLimit = s.evtLimit := rfl
@[simp] theorem State.setFlag_suppressedMask (s : State) (f : Fld) (b : Bool) : (s.setFlag f b).suppressedMask = s.suppressedMask := rfl
@[simp] theorem State.setFlag_groups (s : State) (f : Fld) (b : Bool) : (s.setFlag f b).groups = s.groups := rfl
@[simp] theorem State.setFlag_accepted (s : State) (f : Fld) (b : Bool) : (s.setFlag f b).accepted = s.accepted := rfl
@[simp] theorem State.setFlag_loads (s : State) (f : Fld) (b : Bool) : (s.setFlag f b).loads = s.loads := rfl
@[simp] theorem State.setFlag_tables (s : State) (f : Fld) (b : Bool) : (s.setFlag f b).tables = s.tables := rfl
@[simp] theorem State.setFlag_mgmt (s : State) (f : Fld) (b : Bool) : (s.setFlag f b).mgmt = s.mgmt := rfl
@[simp] theorem State.setFlag_hostWatch (s : State) (f : Fld) (b : Bool) : (s.setFlag f b).hostWatch = s.hostWatch := rfl
@[simp] theorem State.setFlag_mboxGen (s : State) (f : Fld) (b : Bool) : (s.setFlag f b).mboxGen = s.mboxGen := rfl
@[simp] theorem State.setFlag_seq (s : State) (f : Fld) (b : Bool) : (s.setFlag f b).seq = s.seq := rfl
@[simp] theorem State.setFlag_cfgHost (s : State) (f : Fld) (b : Bool) : (s.setFlag f b).cfgHost = s.cfgHost := rfl
@[simp] theorem State.setFlag_hostMode (s : State) (f : Fld) (b : Bool) : (s.setFlag f b).hostMode = s.hostMode := rfl
@[simp] theorem State.setFlag_frames (s : State) (f : Fld) (b : Bool) : (s.setFlag f b).frames = s.frames := rfl
@[simp] theorem State.setFlag_fireflies (s : State) (f : Fld) (b : Bool) : (s.setFlag f b).fireflies = s.fireflies := rfl
@[simp] theorem State.setFlag_trigOuts (s : State) (f : Fld) (b : Bool) : (s.setFlag f b).trigOuts = s.trigOuts := rfl
@[simp] theorem State.setFlag_camFrames (s : State) (f : Fld) (b : Bool) : (s.setFlag f b).camFrames = s.camFrames := rfl
@[simp] theorem State.setFlag_camLast (s : State) (f : Fld) (b : Bool) : (s.setFlag f b).camLast = s.camLast := rfl
@[simp] theorem State.setFlag_cal (s : State) (f : Fld) (b : Bool) : (s.setFlag f b).cal = s.cal := rfl
@[simp] theorem State.setFlag_bg (s : State) (f : Fld) (b : Bool) : (s.setFlag f b).bg = s.bg := rfl
@[simp] theorem State.setFlag_statFrame (s : State) (f : Fld) (b : Bool) : (s.setFlag f b).statFrame = s.statFrame := rfl
@[simp] theorem State.setFlag_dspLast (s : State) (f : Fld) (b : Bool) : (s.setFlag f b).dspLast = s.dspLast := rfl
@[simp] theorem State.setFlag_tracker (s : State) (f : Fld) (b : Bool) : (s.setFlag f b).tracker = s.tracker := rfl
@[simp] theorem State.setFlag_ej (s : State) (f : Fld) (b : Bool) : (s.setFlag f b).ej = s.ej := rfl
@[simp] theorem State.setFlag_engines (s : State) (f : Fld) (b : Bool) : (s.setFlag f b).engines = s.engines := rfl
@[simp] theorem State.setFlag_wvRoles (s : State) (f : Fld) (b : Bool) : (s.setFlag f b).wvRoles = s.wvRoles := rfl
@[simp] theorem State.setFlag_spares (s : State) (f : Fld) (b : Bool) : (s.setFlag f b).spares = s.spares := rfl
@[simp] theorem State.setFlag_nvm (s : State) (f : Fld) (b : Bool) : (s.setFlag f b).nvm = s.nvm := rfl
@[simp] theorem State.setFlag_thermal (s : State) (f : Fld) (b : Bool) : (s.setFlag f b).thermal = s.thermal := rfl
@[simp] theorem State.setFlag_gov (s : State) (f : Fld) (b : Bool) : (s.setFlag f b).gov = s.gov := rfl
@[simp] theorem State.setFlag_coach (s : State) (f : Fld) (b : Bool) : (s.setFlag f b).coach = s.coach := rfl
@[simp] theorem State.setFlag_digest (s : State) (f : Fld) (b : Bool) : (s.setFlag f b).digest = s.digest := rfl
@[simp] theorem State.setFlag_i3c (s : State) (f : Fld) (b : Bool) : (s.setFlag f b).i3c = s.i3c := rfl
@[simp] theorem State.setFlag_power (s : State) (f : Fld) (b : Bool) : (s.setFlag f b).power = s.power := rfl
@[simp] theorem State.setFlag_jtag (s : State) (f : Fld) (b : Bool) : (s.setFlag f b).jtag = s.jtag := rfl
@[simp] theorem State.setFlag_tap (s : State) (f : Fld) (b : Bool) : (s.setFlag f b).tap = s.tap := rfl
@[simp] theorem State.setFlag_pending (s : State) (f : Fld) (b : Bool) : (s.setFlag f b).pending = s.pending := rfl

/-! ## count -/

@[simp] theorem State.count_now (s : State) (f : Fld) (n : Nat) : (s.count f n).now = s.now := rfl
@[simp] theorem State.count_tb (s : State) (f : Fld) (n : Nat) : (s.count f n).tb = s.tb := rfl
@[simp] theorem State.count_tbStarted (s : State) (f : Fld) (n : Nat) : (s.count f n).tbStarted = s.tbStarted := rfl
@[simp] theorem State.count_clk (s : State) (f : Fld) (n : Nat) : (s.count f n).clk = s.clk := rfl
@[simp] theorem State.count_tbu (s : State) (f : Fld) (n : Nat) : (s.count f n).tbu = s.tbu := rfl
@[simp] theorem State.count_clocks (s : State) (f : Fld) (n : Nat) : (s.count f n).clocks = s.clocks := rfl
@[simp] theorem State.count_inReset (s : State) (f : Fld) (n : Nat) : (s.count f n).inReset = s.inReset := rfl
@[simp] theorem State.count_resetN (s : State) (f : Fld) (n : Nat) : (s.count f n).resetN = s.resetN := rfl
@[simp] theorem State.count_railLow (s : State) (f : Fld) (n : Nat) : (s.count f n).railLow = s.railLow := rfl
@[simp] theorem State.count_startAt (s : State) (f : Fld) (n : Nat) : (s.count f n).startAt = s.startAt := rfl
@[simp] theorem State.count_off (s : State) (f : Fld) (n : Nat) : (s.count f n).off = s.off := rfl
@[simp] theorem State.count_freeCtr (s : State) (f : Fld) (n : Nat) : (s.count f n).freeCtr = s.freeCtr := rfl
@[simp] theorem State.count_hostMem (s : State) (f : Fld) (n : Nat) : (s.count f n).hostMem = s.hostMem := rfl
@[simp] theorem State.count_sent (s : State) (f : Fld) (n : Nat) : (s.count f n).sent = s.sent := rfl
@[simp] theorem State.count_rdata (s : State) (f : Fld) (n : Nat) : (s.count f n).rdata = s.rdata := rfl
@[simp] theorem State.count_rbytes (s : State) (f : Fld) (n : Nat) : (s.count f n).rbytes = s.rbytes := rfl
@[simp] theorem State.count_pins (s : State) (f : Fld) (n : Nat) : (s.count f n).pins = s.pins := rfl
@[simp] theorem State.count_wvPins (s : State) (f : Fld) (n : Nat) : (s.count f n).wvPins = s.wvPins := rfl
@[simp] theorem State.count_pcie (s : State) (f : Fld) (n : Nat) : (s.count f n).pcie = s.pcie := rfl
@[simp] theorem State.count_rings (s : State) (f : Fld) (n : Nat) : (s.count f n).rings = s.rings := rfl
@[simp] theorem State.count_archive (s : State) (f : Fld) (n : Nat) : (s.count f n).archive = s.archive := rfl
@[simp] theorem State.count_icx (s : State) (f : Fld) (n : Nat) : (s.count f n).icx = s.icx := rfl
@[simp] theorem State.count_evSeq (s : State) (f : Fld) (n : Nat) : (s.count f n).evSeq = s.evSeq := rfl
@[simp] theorem State.count_evtLimit (s : State) (f : Fld) (n : Nat) : (s.count f n).evtLimit = s.evtLimit := rfl
@[simp] theorem State.count_suppressedMask (s : State) (f : Fld) (n : Nat) : (s.count f n).suppressedMask = s.suppressedMask := rfl
@[simp] theorem State.count_groups (s : State) (f : Fld) (n : Nat) : (s.count f n).groups = s.groups := rfl
@[simp] theorem State.count_accepted (s : State) (f : Fld) (n : Nat) : (s.count f n).accepted = s.accepted := rfl
@[simp] theorem State.count_loads (s : State) (f : Fld) (n : Nat) : (s.count f n).loads = s.loads := rfl
@[simp] theorem State.count_tables (s : State) (f : Fld) (n : Nat) : (s.count f n).tables = s.tables := rfl
@[simp] theorem State.count_mgmt (s : State) (f : Fld) (n : Nat) : (s.count f n).mgmt = s.mgmt := rfl
@[simp] theorem State.count_hostWatch (s : State) (f : Fld) (n : Nat) : (s.count f n).hostWatch = s.hostWatch := rfl
@[simp] theorem State.count_mboxGen (s : State) (f : Fld) (n : Nat) : (s.count f n).mboxGen = s.mboxGen := rfl
@[simp] theorem State.count_seq (s : State) (f : Fld) (n : Nat) : (s.count f n).seq = s.seq := rfl
@[simp] theorem State.count_cfgHost (s : State) (f : Fld) (n : Nat) : (s.count f n).cfgHost = s.cfgHost := rfl
@[simp] theorem State.count_hostMode (s : State) (f : Fld) (n : Nat) : (s.count f n).hostMode = s.hostMode := rfl
@[simp] theorem State.count_frames (s : State) (f : Fld) (n : Nat) : (s.count f n).frames = s.frames := rfl
@[simp] theorem State.count_fireflies (s : State) (f : Fld) (n : Nat) : (s.count f n).fireflies = s.fireflies := rfl
@[simp] theorem State.count_trigOuts (s : State) (f : Fld) (n : Nat) : (s.count f n).trigOuts = s.trigOuts := rfl
@[simp] theorem State.count_camFrames (s : State) (f : Fld) (n : Nat) : (s.count f n).camFrames = s.camFrames := rfl
@[simp] theorem State.count_camLast (s : State) (f : Fld) (n : Nat) : (s.count f n).camLast = s.camLast := rfl
@[simp] theorem State.count_cal (s : State) (f : Fld) (n : Nat) : (s.count f n).cal = s.cal := rfl
@[simp] theorem State.count_bg (s : State) (f : Fld) (n : Nat) : (s.count f n).bg = s.bg := rfl
@[simp] theorem State.count_statFrame (s : State) (f : Fld) (n : Nat) : (s.count f n).statFrame = s.statFrame := rfl
@[simp] theorem State.count_dspLast (s : State) (f : Fld) (n : Nat) : (s.count f n).dspLast = s.dspLast := rfl
@[simp] theorem State.count_tracker (s : State) (f : Fld) (n : Nat) : (s.count f n).tracker = s.tracker := rfl
@[simp] theorem State.count_ej (s : State) (f : Fld) (n : Nat) : (s.count f n).ej = s.ej := rfl
@[simp] theorem State.count_engines (s : State) (f : Fld) (n : Nat) : (s.count f n).engines = s.engines := rfl
@[simp] theorem State.count_wvRoles (s : State) (f : Fld) (n : Nat) : (s.count f n).wvRoles = s.wvRoles := rfl
@[simp] theorem State.count_spares (s : State) (f : Fld) (n : Nat) : (s.count f n).spares = s.spares := rfl
@[simp] theorem State.count_nvm (s : State) (f : Fld) (n : Nat) : (s.count f n).nvm = s.nvm := rfl
@[simp] theorem State.count_thermal (s : State) (f : Fld) (n : Nat) : (s.count f n).thermal = s.thermal := rfl
@[simp] theorem State.count_gov (s : State) (f : Fld) (n : Nat) : (s.count f n).gov = s.gov := rfl
@[simp] theorem State.count_coach (s : State) (f : Fld) (n : Nat) : (s.count f n).coach = s.coach := rfl
@[simp] theorem State.count_digest (s : State) (f : Fld) (n : Nat) : (s.count f n).digest = s.digest := rfl
@[simp] theorem State.count_i3c (s : State) (f : Fld) (n : Nat) : (s.count f n).i3c = s.i3c := rfl
@[simp] theorem State.count_power (s : State) (f : Fld) (n : Nat) : (s.count f n).power = s.power := rfl
@[simp] theorem State.count_jtag (s : State) (f : Fld) (n : Nat) : (s.count f n).jtag = s.jtag := rfl
@[simp] theorem State.count_tap (s : State) (f : Fld) (n : Nat) : (s.count f n).tap = s.tap := rfl
@[simp] theorem State.count_pending (s : State) (f : Fld) (n : Nat) : (s.count f n).pending = s.pending := rfl

/-! ## setWide -/

@[simp] theorem State.setWide_now (s : State) (a v : Nat) : (s.setWide a v).now = s.now := rfl
@[simp] theorem State.setWide_tb (s : State) (a v : Nat) : (s.setWide a v).tb = s.tb := rfl
@[simp] theorem State.setWide_tbStarted (s : State) (a v : Nat) : (s.setWide a v).tbStarted = s.tbStarted := rfl
@[simp] theorem State.setWide_clk (s : State) (a v : Nat) : (s.setWide a v).clk = s.clk := rfl
@[simp] theorem State.setWide_tbu (s : State) (a v : Nat) : (s.setWide a v).tbu = s.tbu := rfl
@[simp] theorem State.setWide_clocks (s : State) (a v : Nat) : (s.setWide a v).clocks = s.clocks := rfl
@[simp] theorem State.setWide_inReset (s : State) (a v : Nat) : (s.setWide a v).inReset = s.inReset := rfl
@[simp] theorem State.setWide_resetN (s : State) (a v : Nat) : (s.setWide a v).resetN = s.resetN := rfl
@[simp] theorem State.setWide_railLow (s : State) (a v : Nat) : (s.setWide a v).railLow = s.railLow := rfl
@[simp] theorem State.setWide_startAt (s : State) (a v : Nat) : (s.setWide a v).startAt = s.startAt := rfl
@[simp] theorem State.setWide_off (s : State) (a v : Nat) : (s.setWide a v).off = s.off := rfl
@[simp] theorem State.setWide_freeCtr (s : State) (a v : Nat) : (s.setWide a v).freeCtr = s.freeCtr := rfl
@[simp] theorem State.setWide_hostMem (s : State) (a v : Nat) : (s.setWide a v).hostMem = s.hostMem := rfl
@[simp] theorem State.setWide_sent (s : State) (a v : Nat) : (s.setWide a v).sent = s.sent := rfl
@[simp] theorem State.setWide_rdata (s : State) (a v : Nat) : (s.setWide a v).rdata = s.rdata := rfl
@[simp] theorem State.setWide_rbytes (s : State) (a v : Nat) : (s.setWide a v).rbytes = s.rbytes := rfl
@[simp] theorem State.setWide_pins (s : State) (a v : Nat) : (s.setWide a v).pins = s.pins := rfl
@[simp] theorem State.setWide_wvPins (s : State) (a v : Nat) : (s.setWide a v).wvPins = s.wvPins := rfl
@[simp] theorem State.setWide_pcie (s : State) (a v : Nat) : (s.setWide a v).pcie = s.pcie := rfl
@[simp] theorem State.setWide_rings (s : State) (a v : Nat) : (s.setWide a v).rings = s.rings := rfl
@[simp] theorem State.setWide_archive (s : State) (a v : Nat) : (s.setWide a v).archive = s.archive := rfl
@[simp] theorem State.setWide_icx (s : State) (a v : Nat) : (s.setWide a v).icx = s.icx := rfl
@[simp] theorem State.setWide_evSeq (s : State) (a v : Nat) : (s.setWide a v).evSeq = s.evSeq := rfl
@[simp] theorem State.setWide_evtLimit (s : State) (a v : Nat) : (s.setWide a v).evtLimit = s.evtLimit := rfl
@[simp] theorem State.setWide_suppressedMask (s : State) (a v : Nat) : (s.setWide a v).suppressedMask = s.suppressedMask := rfl
@[simp] theorem State.setWide_groups (s : State) (a v : Nat) : (s.setWide a v).groups = s.groups := rfl
@[simp] theorem State.setWide_accepted (s : State) (a v : Nat) : (s.setWide a v).accepted = s.accepted := rfl
@[simp] theorem State.setWide_loads (s : State) (a v : Nat) : (s.setWide a v).loads = s.loads := rfl
@[simp] theorem State.setWide_tables (s : State) (a v : Nat) : (s.setWide a v).tables = s.tables := rfl
@[simp] theorem State.setWide_mgmt (s : State) (a v : Nat) : (s.setWide a v).mgmt = s.mgmt := rfl
@[simp] theorem State.setWide_hostWatch (s : State) (a v : Nat) : (s.setWide a v).hostWatch = s.hostWatch := rfl
@[simp] theorem State.setWide_mboxGen (s : State) (a v : Nat) : (s.setWide a v).mboxGen = s.mboxGen := rfl
@[simp] theorem State.setWide_seq (s : State) (a v : Nat) : (s.setWide a v).seq = s.seq := rfl
@[simp] theorem State.setWide_cfgHost (s : State) (a v : Nat) : (s.setWide a v).cfgHost = s.cfgHost := rfl
@[simp] theorem State.setWide_hostMode (s : State) (a v : Nat) : (s.setWide a v).hostMode = s.hostMode := rfl
@[simp] theorem State.setWide_frames (s : State) (a v : Nat) : (s.setWide a v).frames = s.frames := rfl
@[simp] theorem State.setWide_fireflies (s : State) (a v : Nat) : (s.setWide a v).fireflies = s.fireflies := rfl
@[simp] theorem State.setWide_trigOuts (s : State) (a v : Nat) : (s.setWide a v).trigOuts = s.trigOuts := rfl
@[simp] theorem State.setWide_camFrames (s : State) (a v : Nat) : (s.setWide a v).camFrames = s.camFrames := rfl
@[simp] theorem State.setWide_camLast (s : State) (a v : Nat) : (s.setWide a v).camLast = s.camLast := rfl
@[simp] theorem State.setWide_cal (s : State) (a v : Nat) : (s.setWide a v).cal = s.cal := rfl
@[simp] theorem State.setWide_bg (s : State) (a v : Nat) : (s.setWide a v).bg = s.bg := rfl
@[simp] theorem State.setWide_statFrame (s : State) (a v : Nat) : (s.setWide a v).statFrame = s.statFrame := rfl
@[simp] theorem State.setWide_dspLast (s : State) (a v : Nat) : (s.setWide a v).dspLast = s.dspLast := rfl
@[simp] theorem State.setWide_tracker (s : State) (a v : Nat) : (s.setWide a v).tracker = s.tracker := rfl
@[simp] theorem State.setWide_ej (s : State) (a v : Nat) : (s.setWide a v).ej = s.ej := rfl
@[simp] theorem State.setWide_engines (s : State) (a v : Nat) : (s.setWide a v).engines = s.engines := rfl
@[simp] theorem State.setWide_wvRoles (s : State) (a v : Nat) : (s.setWide a v).wvRoles = s.wvRoles := rfl
@[simp] theorem State.setWide_spares (s : State) (a v : Nat) : (s.setWide a v).spares = s.spares := rfl
@[simp] theorem State.setWide_nvm (s : State) (a v : Nat) : (s.setWide a v).nvm = s.nvm := rfl
@[simp] theorem State.setWide_thermal (s : State) (a v : Nat) : (s.setWide a v).thermal = s.thermal := rfl
@[simp] theorem State.setWide_gov (s : State) (a v : Nat) : (s.setWide a v).gov = s.gov := rfl
@[simp] theorem State.setWide_coach (s : State) (a v : Nat) : (s.setWide a v).coach = s.coach := rfl
@[simp] theorem State.setWide_digest (s : State) (a v : Nat) : (s.setWide a v).digest = s.digest := rfl
@[simp] theorem State.setWide_i3c (s : State) (a v : Nat) : (s.setWide a v).i3c = s.i3c := rfl
@[simp] theorem State.setWide_power (s : State) (a v : Nat) : (s.setWide a v).power = s.power := rfl
@[simp] theorem State.setWide_jtag (s : State) (a v : Nat) : (s.setWide a v).jtag = s.jtag := rfl
@[simp] theorem State.setWide_tap (s : State) (a v : Nat) : (s.setWide a v).tap = s.tap := rfl
@[simp] theorem State.setWide_pending (s : State) (a v : Nat) : (s.setWide a v).pending = s.pending := rfl

/-! ## setPin -/

@[simp] theorem State.setPin_now (s : State) (n : Nat) (b : Bool) : (s.setPin n b).now = s.now := rfl
@[simp] theorem State.setPin_tb (s : State) (n : Nat) (b : Bool) : (s.setPin n b).tb = s.tb := rfl
@[simp] theorem State.setPin_tbStarted (s : State) (n : Nat) (b : Bool) : (s.setPin n b).tbStarted = s.tbStarted := rfl
@[simp] theorem State.setPin_clk (s : State) (n : Nat) (b : Bool) : (s.setPin n b).clk = s.clk := rfl
@[simp] theorem State.setPin_clocks (s : State) (n : Nat) (b : Bool) : (s.setPin n b).clocks = s.clocks := rfl
@[simp] theorem State.setPin_inReset (s : State) (n : Nat) (b : Bool) : (s.setPin n b).inReset = s.inReset := rfl
@[simp] theorem State.setPin_resetN (s : State) (n : Nat) (b : Bool) : (s.setPin n b).resetN = s.resetN := rfl
@[simp] theorem State.setPin_railLow (s : State) (n : Nat) (b : Bool) : (s.setPin n b).railLow = s.railLow := rfl
@[simp] theorem State.setPin_startAt (s : State) (n : Nat) (b : Bool) : (s.setPin n b).startAt = s.startAt := rfl
@[simp] theorem State.setPin_off (s : State) (n : Nat) (b : Bool) : (s.setPin n b).off = s.off := rfl
@[simp] theorem State.setPin_freeCtr (s : State) (n : Nat) (b : Bool) : (s.setPin n b).freeCtr = s.freeCtr := rfl
@[simp] theorem State.setPin_regs (s : State) (n : Nat) (b : Bool) : (s.setPin n b).regs = s.regs := rfl
@[simp] theorem State.setPin_hostMem (s : State) (n : Nat) (b : Bool) : (s.setPin n b).hostMem = s.hostMem := rfl
@[simp] theorem State.setPin_sent (s : State) (n : Nat) (b : Bool) : (s.setPin n b).sent = s.sent := rfl
@[simp] theorem State.setPin_rdata (s : State) (n : Nat) (b : Bool) : (s.setPin n b).rdata = s.rdata := rfl
@[simp] theorem State.setPin_rbytes (s : State) (n : Nat) (b : Bool) : (s.setPin n b).rbytes = s.rbytes := rfl
@[simp] theorem State.setPin_wvPins (s : State) (n : Nat) (b : Bool) : (s.setPin n b).wvPins = s.wvPins := rfl
@[simp] theorem State.setPin_pcie (s : State) (n : Nat) (b : Bool) : (s.setPin n b).pcie = s.pcie := rfl
@[simp] theorem State.setPin_rings (s : State) (n : Nat) (b : Bool) : (s.setPin n b).rings = s.rings := rfl
@[simp] theorem State.setPin_archive (s : State) (n : Nat) (b : Bool) : (s.setPin n b).archive = s.archive := rfl
@[simp] theorem State.setPin_icx (s : State) (n : Nat) (b : Bool) : (s.setPin n b).icx = s.icx := rfl
@[simp] theorem State.setPin_evSeq (s : State) (n : Nat) (b : Bool) : (s.setPin n b).evSeq = s.evSeq := rfl
@[simp] theorem State.setPin_evtLimit (s : State) (n : Nat) (b : Bool) : (s.setPin n b).evtLimit = s.evtLimit := rfl
@[simp] theorem State.setPin_suppressedMask (s : State) (n : Nat) (b : Bool) : (s.setPin n b).suppressedMask = s.suppressedMask := rfl
@[simp] theorem State.setPin_groups (s : State) (n : Nat) (b : Bool) : (s.setPin n b).groups = s.groups := rfl
@[simp] theorem State.setPin_accepted (s : State) (n : Nat) (b : Bool) : (s.setPin n b).accepted = s.accepted := rfl
@[simp] theorem State.setPin_loads (s : State) (n : Nat) (b : Bool) : (s.setPin n b).loads = s.loads := rfl
@[simp] theorem State.setPin_tables (s : State) (n : Nat) (b : Bool) : (s.setPin n b).tables = s.tables := rfl
@[simp] theorem State.setPin_mgmt (s : State) (n : Nat) (b : Bool) : (s.setPin n b).mgmt = s.mgmt := rfl
@[simp] theorem State.setPin_hostWatch (s : State) (n : Nat) (b : Bool) : (s.setPin n b).hostWatch = s.hostWatch := rfl
@[simp] theorem State.setPin_mboxGen (s : State) (n : Nat) (b : Bool) : (s.setPin n b).mboxGen = s.mboxGen := rfl
@[simp] theorem State.setPin_seq (s : State) (n : Nat) (b : Bool) : (s.setPin n b).seq = s.seq := rfl
@[simp] theorem State.setPin_cfgHost (s : State) (n : Nat) (b : Bool) : (s.setPin n b).cfgHost = s.cfgHost := rfl
@[simp] theorem State.setPin_hostMode (s : State) (n : Nat) (b : Bool) : (s.setPin n b).hostMode = s.hostMode := rfl
@[simp] theorem State.setPin_frames (s : State) (n : Nat) (b : Bool) : (s.setPin n b).frames = s.frames := rfl
@[simp] theorem State.setPin_fireflies (s : State) (n : Nat) (b : Bool) : (s.setPin n b).fireflies = s.fireflies := rfl
@[simp] theorem State.setPin_trigOuts (s : State) (n : Nat) (b : Bool) : (s.setPin n b).trigOuts = s.trigOuts := rfl
@[simp] theorem State.setPin_camFrames (s : State) (n : Nat) (b : Bool) : (s.setPin n b).camFrames = s.camFrames := rfl
@[simp] theorem State.setPin_camLast (s : State) (n : Nat) (b : Bool) : (s.setPin n b).camLast = s.camLast := rfl
@[simp] theorem State.setPin_cal (s : State) (n : Nat) (b : Bool) : (s.setPin n b).cal = s.cal := rfl
@[simp] theorem State.setPin_bg (s : State) (n : Nat) (b : Bool) : (s.setPin n b).bg = s.bg := rfl
@[simp] theorem State.setPin_statFrame (s : State) (n : Nat) (b : Bool) : (s.setPin n b).statFrame = s.statFrame := rfl
@[simp] theorem State.setPin_dspLast (s : State) (n : Nat) (b : Bool) : (s.setPin n b).dspLast = s.dspLast := rfl
@[simp] theorem State.setPin_tracker (s : State) (n : Nat) (b : Bool) : (s.setPin n b).tracker = s.tracker := rfl
@[simp] theorem State.setPin_ej (s : State) (n : Nat) (b : Bool) : (s.setPin n b).ej = s.ej := rfl
@[simp] theorem State.setPin_engines (s : State) (n : Nat) (b : Bool) : (s.setPin n b).engines = s.engines := rfl
@[simp] theorem State.setPin_wvRoles (s : State) (n : Nat) (b : Bool) : (s.setPin n b).wvRoles = s.wvRoles := rfl
@[simp] theorem State.setPin_spares (s : State) (n : Nat) (b : Bool) : (s.setPin n b).spares = s.spares := rfl
@[simp] theorem State.setPin_nvm (s : State) (n : Nat) (b : Bool) : (s.setPin n b).nvm = s.nvm := rfl
@[simp] theorem State.setPin_thermal (s : State) (n : Nat) (b : Bool) : (s.setPin n b).thermal = s.thermal := rfl
@[simp] theorem State.setPin_gov (s : State) (n : Nat) (b : Bool) : (s.setPin n b).gov = s.gov := rfl
@[simp] theorem State.setPin_coach (s : State) (n : Nat) (b : Bool) : (s.setPin n b).coach = s.coach := rfl
@[simp] theorem State.setPin_digest (s : State) (n : Nat) (b : Bool) : (s.setPin n b).digest = s.digest := rfl
@[simp] theorem State.setPin_i3c (s : State) (n : Nat) (b : Bool) : (s.setPin n b).i3c = s.i3c := rfl
@[simp] theorem State.setPin_power (s : State) (n : Nat) (b : Bool) : (s.setPin n b).power = s.power := rfl
@[simp] theorem State.setPin_jtag (s : State) (n : Nat) (b : Bool) : (s.setPin n b).jtag = s.jtag := rfl
@[simp] theorem State.setPin_tap (s : State) (n : Nat) (b : Bool) : (s.setPin n b).tap = s.tap := rfl
@[simp] theorem State.setPin_pending (s : State) (n : Nat) (b : Bool) : (s.setPin n b).pending = s.pending := rfl

/-! ## putPin -/

@[simp] theorem State.putPin_now (s : State) (n : Nat) (b : Bool) : (s.putPin n b).now = s.now := rfl
@[simp] theorem State.putPin_tb (s : State) (n : Nat) (b : Bool) : (s.putPin n b).tb = s.tb := rfl
@[simp] theorem State.putPin_tbStarted (s : State) (n : Nat) (b : Bool) : (s.putPin n b).tbStarted = s.tbStarted := rfl
@[simp] theorem State.putPin_clk (s : State) (n : Nat) (b : Bool) : (s.putPin n b).clk = s.clk := rfl
@[simp] theorem State.putPin_tbu (s : State) (n : Nat) (b : Bool) : (s.putPin n b).tbu = s.tbu := rfl
@[simp] theorem State.putPin_clocks (s : State) (n : Nat) (b : Bool) : (s.putPin n b).clocks = s.clocks := rfl
@[simp] theorem State.putPin_inReset (s : State) (n : Nat) (b : Bool) : (s.putPin n b).inReset = s.inReset := rfl
@[simp] theorem State.putPin_resetN (s : State) (n : Nat) (b : Bool) : (s.putPin n b).resetN = s.resetN := rfl
@[simp] theorem State.putPin_railLow (s : State) (n : Nat) (b : Bool) : (s.putPin n b).railLow = s.railLow := rfl
@[simp] theorem State.putPin_startAt (s : State) (n : Nat) (b : Bool) : (s.putPin n b).startAt = s.startAt := rfl
@[simp] theorem State.putPin_off (s : State) (n : Nat) (b : Bool) : (s.putPin n b).off = s.off := rfl
@[simp] theorem State.putPin_freeCtr (s : State) (n : Nat) (b : Bool) : (s.putPin n b).freeCtr = s.freeCtr := rfl
@[simp] theorem State.putPin_regs (s : State) (n : Nat) (b : Bool) : (s.putPin n b).regs = s.regs := rfl
@[simp] theorem State.putPin_hostMem (s : State) (n : Nat) (b : Bool) : (s.putPin n b).hostMem = s.hostMem := rfl
@[simp] theorem State.putPin_sent (s : State) (n : Nat) (b : Bool) : (s.putPin n b).sent = s.sent := rfl
@[simp] theorem State.putPin_rdata (s : State) (n : Nat) (b : Bool) : (s.putPin n b).rdata = s.rdata := rfl
@[simp] theorem State.putPin_rbytes (s : State) (n : Nat) (b : Bool) : (s.putPin n b).rbytes = s.rbytes := rfl
@[simp] theorem State.putPin_wvPins (s : State) (n : Nat) (b : Bool) : (s.putPin n b).wvPins = s.wvPins := rfl
@[simp] theorem State.putPin_pcie (s : State) (n : Nat) (b : Bool) : (s.putPin n b).pcie = s.pcie := rfl
@[simp] theorem State.putPin_rings (s : State) (n : Nat) (b : Bool) : (s.putPin n b).rings = s.rings := rfl
@[simp] theorem State.putPin_archive (s : State) (n : Nat) (b : Bool) : (s.putPin n b).archive = s.archive := rfl
@[simp] theorem State.putPin_icx (s : State) (n : Nat) (b : Bool) : (s.putPin n b).icx = s.icx := rfl
@[simp] theorem State.putPin_evSeq (s : State) (n : Nat) (b : Bool) : (s.putPin n b).evSeq = s.evSeq := rfl
@[simp] theorem State.putPin_evtLimit (s : State) (n : Nat) (b : Bool) : (s.putPin n b).evtLimit = s.evtLimit := rfl
@[simp] theorem State.putPin_suppressedMask (s : State) (n : Nat) (b : Bool) : (s.putPin n b).suppressedMask = s.suppressedMask := rfl
@[simp] theorem State.putPin_groups (s : State) (n : Nat) (b : Bool) : (s.putPin n b).groups = s.groups := rfl
@[simp] theorem State.putPin_accepted (s : State) (n : Nat) (b : Bool) : (s.putPin n b).accepted = s.accepted := rfl
@[simp] theorem State.putPin_loads (s : State) (n : Nat) (b : Bool) : (s.putPin n b).loads = s.loads := rfl
@[simp] theorem State.putPin_tables (s : State) (n : Nat) (b : Bool) : (s.putPin n b).tables = s.tables := rfl
@[simp] theorem State.putPin_mgmt (s : State) (n : Nat) (b : Bool) : (s.putPin n b).mgmt = s.mgmt := rfl
@[simp] theorem State.putPin_hostWatch (s : State) (n : Nat) (b : Bool) : (s.putPin n b).hostWatch = s.hostWatch := rfl
@[simp] theorem State.putPin_mboxGen (s : State) (n : Nat) (b : Bool) : (s.putPin n b).mboxGen = s.mboxGen := rfl
@[simp] theorem State.putPin_seq (s : State) (n : Nat) (b : Bool) : (s.putPin n b).seq = s.seq := rfl
@[simp] theorem State.putPin_cfgHost (s : State) (n : Nat) (b : Bool) : (s.putPin n b).cfgHost = s.cfgHost := rfl
@[simp] theorem State.putPin_hostMode (s : State) (n : Nat) (b : Bool) : (s.putPin n b).hostMode = s.hostMode := rfl
@[simp] theorem State.putPin_frames (s : State) (n : Nat) (b : Bool) : (s.putPin n b).frames = s.frames := rfl
@[simp] theorem State.putPin_fireflies (s : State) (n : Nat) (b : Bool) : (s.putPin n b).fireflies = s.fireflies := rfl
@[simp] theorem State.putPin_trigOuts (s : State) (n : Nat) (b : Bool) : (s.putPin n b).trigOuts = s.trigOuts := rfl
@[simp] theorem State.putPin_camFrames (s : State) (n : Nat) (b : Bool) : (s.putPin n b).camFrames = s.camFrames := rfl
@[simp] theorem State.putPin_camLast (s : State) (n : Nat) (b : Bool) : (s.putPin n b).camLast = s.camLast := rfl
@[simp] theorem State.putPin_cal (s : State) (n : Nat) (b : Bool) : (s.putPin n b).cal = s.cal := rfl
@[simp] theorem State.putPin_bg (s : State) (n : Nat) (b : Bool) : (s.putPin n b).bg = s.bg := rfl
@[simp] theorem State.putPin_statFrame (s : State) (n : Nat) (b : Bool) : (s.putPin n b).statFrame = s.statFrame := rfl
@[simp] theorem State.putPin_dspLast (s : State) (n : Nat) (b : Bool) : (s.putPin n b).dspLast = s.dspLast := rfl
@[simp] theorem State.putPin_tracker (s : State) (n : Nat) (b : Bool) : (s.putPin n b).tracker = s.tracker := rfl
@[simp] theorem State.putPin_ej (s : State) (n : Nat) (b : Bool) : (s.putPin n b).ej = s.ej := rfl
@[simp] theorem State.putPin_engines (s : State) (n : Nat) (b : Bool) : (s.putPin n b).engines = s.engines := rfl
@[simp] theorem State.putPin_wvRoles (s : State) (n : Nat) (b : Bool) : (s.putPin n b).wvRoles = s.wvRoles := rfl
@[simp] theorem State.putPin_spares (s : State) (n : Nat) (b : Bool) : (s.putPin n b).spares = s.spares := rfl
@[simp] theorem State.putPin_nvm (s : State) (n : Nat) (b : Bool) : (s.putPin n b).nvm = s.nvm := rfl
@[simp] theorem State.putPin_thermal (s : State) (n : Nat) (b : Bool) : (s.putPin n b).thermal = s.thermal := rfl
@[simp] theorem State.putPin_gov (s : State) (n : Nat) (b : Bool) : (s.putPin n b).gov = s.gov := rfl
@[simp] theorem State.putPin_coach (s : State) (n : Nat) (b : Bool) : (s.putPin n b).coach = s.coach := rfl
@[simp] theorem State.putPin_digest (s : State) (n : Nat) (b : Bool) : (s.putPin n b).digest = s.digest := rfl
@[simp] theorem State.putPin_i3c (s : State) (n : Nat) (b : Bool) : (s.putPin n b).i3c = s.i3c := rfl
@[simp] theorem State.putPin_power (s : State) (n : Nat) (b : Bool) : (s.putPin n b).power = s.power := rfl
@[simp] theorem State.putPin_jtag (s : State) (n : Nat) (b : Bool) : (s.putPin n b).jtag = s.jtag := rfl
@[simp] theorem State.putPin_tap (s : State) (n : Nat) (b : Bool) : (s.putPin n b).tap = s.tap := rfl
@[simp] theorem State.putPin_pending (s : State) (n : Nat) (b : Bool) : (s.putPin n b).pending = s.pending := rfl

/-! ## markEdge -/

@[simp] theorem State.markEdge_now (s : State) (n : Nat) : (s.markEdge n).now = s.now := rfl
@[simp] theorem State.markEdge_tb (s : State) (n : Nat) : (s.markEdge n).tb = s.tb := rfl
@[simp] theorem State.markEdge_tbStarted (s : State) (n : Nat) : (s.markEdge n).tbStarted = s.tbStarted := rfl
@[simp] theorem State.markEdge_clk (s : State) (n : Nat) : (s.markEdge n).clk = s.clk := rfl
@[simp] theorem State.markEdge_clocks (s : State) (n : Nat) : (s.markEdge n).clocks = s.clocks := rfl
@[simp] theorem State.markEdge_inReset (s : State) (n : Nat) : (s.markEdge n).inReset = s.inReset := rfl
@[simp] theorem State.markEdge_resetN (s : State) (n : Nat) : (s.markEdge n).resetN = s.resetN := rfl
@[simp] theorem State.markEdge_railLow (s : State) (n : Nat) : (s.markEdge n).railLow = s.railLow := rfl
@[simp] theorem State.markEdge_startAt (s : State) (n : Nat) : (s.markEdge n).startAt = s.startAt := rfl
@[simp] theorem State.markEdge_off (s : State) (n : Nat) : (s.markEdge n).off = s.off := rfl
@[simp] theorem State.markEdge_freeCtr (s : State) (n : Nat) : (s.markEdge n).freeCtr = s.freeCtr := rfl
@[simp] theorem State.markEdge_regs (s : State) (n : Nat) : (s.markEdge n).regs = s.regs := rfl
@[simp] theorem State.markEdge_hostMem (s : State) (n : Nat) : (s.markEdge n).hostMem = s.hostMem := rfl
@[simp] theorem State.markEdge_sent (s : State) (n : Nat) : (s.markEdge n).sent = s.sent := rfl
@[simp] theorem State.markEdge_rdata (s : State) (n : Nat) : (s.markEdge n).rdata = s.rdata := rfl
@[simp] theorem State.markEdge_rbytes (s : State) (n : Nat) : (s.markEdge n).rbytes = s.rbytes := rfl
@[simp] theorem State.markEdge_pins (s : State) (n : Nat) : (s.markEdge n).pins = s.pins := rfl
@[simp] theorem State.markEdge_wvPins (s : State) (n : Nat) : (s.markEdge n).wvPins = s.wvPins := rfl
@[simp] theorem State.markEdge_pcie (s : State) (n : Nat) : (s.markEdge n).pcie = s.pcie := rfl
@[simp] theorem State.markEdge_rings (s : State) (n : Nat) : (s.markEdge n).rings = s.rings := rfl
@[simp] theorem State.markEdge_archive (s : State) (n : Nat) : (s.markEdge n).archive = s.archive := rfl
@[simp] theorem State.markEdge_icx (s : State) (n : Nat) : (s.markEdge n).icx = s.icx := rfl
@[simp] theorem State.markEdge_evSeq (s : State) (n : Nat) : (s.markEdge n).evSeq = s.evSeq := rfl
@[simp] theorem State.markEdge_evtLimit (s : State) (n : Nat) : (s.markEdge n).evtLimit = s.evtLimit := rfl
@[simp] theorem State.markEdge_suppressedMask (s : State) (n : Nat) : (s.markEdge n).suppressedMask = s.suppressedMask := rfl
@[simp] theorem State.markEdge_groups (s : State) (n : Nat) : (s.markEdge n).groups = s.groups := rfl
@[simp] theorem State.markEdge_accepted (s : State) (n : Nat) : (s.markEdge n).accepted = s.accepted := rfl
@[simp] theorem State.markEdge_loads (s : State) (n : Nat) : (s.markEdge n).loads = s.loads := rfl
@[simp] theorem State.markEdge_tables (s : State) (n : Nat) : (s.markEdge n).tables = s.tables := rfl
@[simp] theorem State.markEdge_mgmt (s : State) (n : Nat) : (s.markEdge n).mgmt = s.mgmt := rfl
@[simp] theorem State.markEdge_hostWatch (s : State) (n : Nat) : (s.markEdge n).hostWatch = s.hostWatch := rfl
@[simp] theorem State.markEdge_mboxGen (s : State) (n : Nat) : (s.markEdge n).mboxGen = s.mboxGen := rfl
@[simp] theorem State.markEdge_seq (s : State) (n : Nat) : (s.markEdge n).seq = s.seq := rfl
@[simp] theorem State.markEdge_cfgHost (s : State) (n : Nat) : (s.markEdge n).cfgHost = s.cfgHost := rfl
@[simp] theorem State.markEdge_hostMode (s : State) (n : Nat) : (s.markEdge n).hostMode = s.hostMode := rfl
@[simp] theorem State.markEdge_frames (s : State) (n : Nat) : (s.markEdge n).frames = s.frames := rfl
@[simp] theorem State.markEdge_fireflies (s : State) (n : Nat) : (s.markEdge n).fireflies = s.fireflies := rfl
@[simp] theorem State.markEdge_trigOuts (s : State) (n : Nat) : (s.markEdge n).trigOuts = s.trigOuts := rfl
@[simp] theorem State.markEdge_camFrames (s : State) (n : Nat) : (s.markEdge n).camFrames = s.camFrames := rfl
@[simp] theorem State.markEdge_camLast (s : State) (n : Nat) : (s.markEdge n).camLast = s.camLast := rfl
@[simp] theorem State.markEdge_cal (s : State) (n : Nat) : (s.markEdge n).cal = s.cal := rfl
@[simp] theorem State.markEdge_bg (s : State) (n : Nat) : (s.markEdge n).bg = s.bg := rfl
@[simp] theorem State.markEdge_statFrame (s : State) (n : Nat) : (s.markEdge n).statFrame = s.statFrame := rfl
@[simp] theorem State.markEdge_dspLast (s : State) (n : Nat) : (s.markEdge n).dspLast = s.dspLast := rfl
@[simp] theorem State.markEdge_tracker (s : State) (n : Nat) : (s.markEdge n).tracker = s.tracker := rfl
@[simp] theorem State.markEdge_ej (s : State) (n : Nat) : (s.markEdge n).ej = s.ej := rfl
@[simp] theorem State.markEdge_engines (s : State) (n : Nat) : (s.markEdge n).engines = s.engines := rfl
@[simp] theorem State.markEdge_wvRoles (s : State) (n : Nat) : (s.markEdge n).wvRoles = s.wvRoles := rfl
@[simp] theorem State.markEdge_spares (s : State) (n : Nat) : (s.markEdge n).spares = s.spares := rfl
@[simp] theorem State.markEdge_nvm (s : State) (n : Nat) : (s.markEdge n).nvm = s.nvm := rfl
@[simp] theorem State.markEdge_thermal (s : State) (n : Nat) : (s.markEdge n).thermal = s.thermal := rfl
@[simp] theorem State.markEdge_gov (s : State) (n : Nat) : (s.markEdge n).gov = s.gov := rfl
@[simp] theorem State.markEdge_coach (s : State) (n : Nat) : (s.markEdge n).coach = s.coach := rfl
@[simp] theorem State.markEdge_digest (s : State) (n : Nat) : (s.markEdge n).digest = s.digest := rfl
@[simp] theorem State.markEdge_i3c (s : State) (n : Nat) : (s.markEdge n).i3c = s.i3c := rfl
@[simp] theorem State.markEdge_power (s : State) (n : Nat) : (s.markEdge n).power = s.power := rfl
@[simp] theorem State.markEdge_jtag (s : State) (n : Nat) : (s.markEdge n).jtag = s.jtag := rfl
@[simp] theorem State.markEdge_tap (s : State) (n : Nat) : (s.markEdge n).tap = s.tap := rfl
@[simp] theorem State.markEdge_pending (s : State) (n : Nat) : (s.markEdge n).pending = s.pending := rfl

/-! ## writeMem -/

@[simp] theorem State.writeMem_now (s : State) (a : Nat) (bs : List Byte) : (s.writeMem a bs).now = s.now := rfl
@[simp] theorem State.writeMem_tb (s : State) (a : Nat) (bs : List Byte) : (s.writeMem a bs).tb = s.tb := rfl
@[simp] theorem State.writeMem_tbStarted (s : State) (a : Nat) (bs : List Byte) : (s.writeMem a bs).tbStarted = s.tbStarted := rfl
@[simp] theorem State.writeMem_clk (s : State) (a : Nat) (bs : List Byte) : (s.writeMem a bs).clk = s.clk := rfl
@[simp] theorem State.writeMem_tbu (s : State) (a : Nat) (bs : List Byte) : (s.writeMem a bs).tbu = s.tbu := rfl
@[simp] theorem State.writeMem_clocks (s : State) (a : Nat) (bs : List Byte) : (s.writeMem a bs).clocks = s.clocks := rfl
@[simp] theorem State.writeMem_inReset (s : State) (a : Nat) (bs : List Byte) : (s.writeMem a bs).inReset = s.inReset := rfl
@[simp] theorem State.writeMem_resetN (s : State) (a : Nat) (bs : List Byte) : (s.writeMem a bs).resetN = s.resetN := rfl
@[simp] theorem State.writeMem_railLow (s : State) (a : Nat) (bs : List Byte) : (s.writeMem a bs).railLow = s.railLow := rfl
@[simp] theorem State.writeMem_startAt (s : State) (a : Nat) (bs : List Byte) : (s.writeMem a bs).startAt = s.startAt := rfl
@[simp] theorem State.writeMem_off (s : State) (a : Nat) (bs : List Byte) : (s.writeMem a bs).off = s.off := rfl
@[simp] theorem State.writeMem_freeCtr (s : State) (a : Nat) (bs : List Byte) : (s.writeMem a bs).freeCtr = s.freeCtr := rfl
@[simp] theorem State.writeMem_regs (s : State) (a : Nat) (bs : List Byte) : (s.writeMem a bs).regs = s.regs := rfl
@[simp] theorem State.writeMem_sent (s : State) (a : Nat) (bs : List Byte) : (s.writeMem a bs).sent = s.sent := rfl
@[simp] theorem State.writeMem_rdata (s : State) (a : Nat) (bs : List Byte) : (s.writeMem a bs).rdata = s.rdata := rfl
@[simp] theorem State.writeMem_rbytes (s : State) (a : Nat) (bs : List Byte) : (s.writeMem a bs).rbytes = s.rbytes := rfl
@[simp] theorem State.writeMem_pins (s : State) (a : Nat) (bs : List Byte) : (s.writeMem a bs).pins = s.pins := rfl
@[simp] theorem State.writeMem_wvPins (s : State) (a : Nat) (bs : List Byte) : (s.writeMem a bs).wvPins = s.wvPins := rfl
@[simp] theorem State.writeMem_pcie (s : State) (a : Nat) (bs : List Byte) : (s.writeMem a bs).pcie = s.pcie := rfl
@[simp] theorem State.writeMem_rings (s : State) (a : Nat) (bs : List Byte) : (s.writeMem a bs).rings = s.rings := rfl
@[simp] theorem State.writeMem_archive (s : State) (a : Nat) (bs : List Byte) : (s.writeMem a bs).archive = s.archive := rfl
@[simp] theorem State.writeMem_icx (s : State) (a : Nat) (bs : List Byte) : (s.writeMem a bs).icx = s.icx := rfl
@[simp] theorem State.writeMem_evSeq (s : State) (a : Nat) (bs : List Byte) : (s.writeMem a bs).evSeq = s.evSeq := rfl
@[simp] theorem State.writeMem_evtLimit (s : State) (a : Nat) (bs : List Byte) : (s.writeMem a bs).evtLimit = s.evtLimit := rfl
@[simp] theorem State.writeMem_suppressedMask (s : State) (a : Nat) (bs : List Byte) : (s.writeMem a bs).suppressedMask = s.suppressedMask := rfl
@[simp] theorem State.writeMem_groups (s : State) (a : Nat) (bs : List Byte) : (s.writeMem a bs).groups = s.groups := rfl
@[simp] theorem State.writeMem_accepted (s : State) (a : Nat) (bs : List Byte) : (s.writeMem a bs).accepted = s.accepted := rfl
@[simp] theorem State.writeMem_loads (s : State) (a : Nat) (bs : List Byte) : (s.writeMem a bs).loads = s.loads := rfl
@[simp] theorem State.writeMem_tables (s : State) (a : Nat) (bs : List Byte) : (s.writeMem a bs).tables = s.tables := rfl
@[simp] theorem State.writeMem_mgmt (s : State) (a : Nat) (bs : List Byte) : (s.writeMem a bs).mgmt = s.mgmt := rfl
@[simp] theorem State.writeMem_hostWatch (s : State) (a : Nat) (bs : List Byte) : (s.writeMem a bs).hostWatch = s.hostWatch := rfl
@[simp] theorem State.writeMem_mboxGen (s : State) (a : Nat) (bs : List Byte) : (s.writeMem a bs).mboxGen = s.mboxGen := rfl
@[simp] theorem State.writeMem_seq (s : State) (a : Nat) (bs : List Byte) : (s.writeMem a bs).seq = s.seq := rfl
@[simp] theorem State.writeMem_cfgHost (s : State) (a : Nat) (bs : List Byte) : (s.writeMem a bs).cfgHost = s.cfgHost := rfl
@[simp] theorem State.writeMem_hostMode (s : State) (a : Nat) (bs : List Byte) : (s.writeMem a bs).hostMode = s.hostMode := rfl
@[simp] theorem State.writeMem_frames (s : State) (a : Nat) (bs : List Byte) : (s.writeMem a bs).frames = s.frames := rfl
@[simp] theorem State.writeMem_fireflies (s : State) (a : Nat) (bs : List Byte) : (s.writeMem a bs).fireflies = s.fireflies := rfl
@[simp] theorem State.writeMem_trigOuts (s : State) (a : Nat) (bs : List Byte) : (s.writeMem a bs).trigOuts = s.trigOuts := rfl
@[simp] theorem State.writeMem_camFrames (s : State) (a : Nat) (bs : List Byte) : (s.writeMem a bs).camFrames = s.camFrames := rfl
@[simp] theorem State.writeMem_camLast (s : State) (a : Nat) (bs : List Byte) : (s.writeMem a bs).camLast = s.camLast := rfl
@[simp] theorem State.writeMem_cal (s : State) (a : Nat) (bs : List Byte) : (s.writeMem a bs).cal = s.cal := rfl
@[simp] theorem State.writeMem_bg (s : State) (a : Nat) (bs : List Byte) : (s.writeMem a bs).bg = s.bg := rfl
@[simp] theorem State.writeMem_statFrame (s : State) (a : Nat) (bs : List Byte) : (s.writeMem a bs).statFrame = s.statFrame := rfl
@[simp] theorem State.writeMem_dspLast (s : State) (a : Nat) (bs : List Byte) : (s.writeMem a bs).dspLast = s.dspLast := rfl
@[simp] theorem State.writeMem_tracker (s : State) (a : Nat) (bs : List Byte) : (s.writeMem a bs).tracker = s.tracker := rfl
@[simp] theorem State.writeMem_ej (s : State) (a : Nat) (bs : List Byte) : (s.writeMem a bs).ej = s.ej := rfl
@[simp] theorem State.writeMem_engines (s : State) (a : Nat) (bs : List Byte) : (s.writeMem a bs).engines = s.engines := rfl
@[simp] theorem State.writeMem_wvRoles (s : State) (a : Nat) (bs : List Byte) : (s.writeMem a bs).wvRoles = s.wvRoles := rfl
@[simp] theorem State.writeMem_spares (s : State) (a : Nat) (bs : List Byte) : (s.writeMem a bs).spares = s.spares := rfl
@[simp] theorem State.writeMem_nvm (s : State) (a : Nat) (bs : List Byte) : (s.writeMem a bs).nvm = s.nvm := rfl
@[simp] theorem State.writeMem_thermal (s : State) (a : Nat) (bs : List Byte) : (s.writeMem a bs).thermal = s.thermal := rfl
@[simp] theorem State.writeMem_gov (s : State) (a : Nat) (bs : List Byte) : (s.writeMem a bs).gov = s.gov := rfl
@[simp] theorem State.writeMem_coach (s : State) (a : Nat) (bs : List Byte) : (s.writeMem a bs).coach = s.coach := rfl
@[simp] theorem State.writeMem_digest (s : State) (a : Nat) (bs : List Byte) : (s.writeMem a bs).digest = s.digest := rfl
@[simp] theorem State.writeMem_i3c (s : State) (a : Nat) (bs : List Byte) : (s.writeMem a bs).i3c = s.i3c := rfl
@[simp] theorem State.writeMem_power (s : State) (a : Nat) (bs : List Byte) : (s.writeMem a bs).power = s.power := rfl
@[simp] theorem State.writeMem_jtag (s : State) (a : Nat) (bs : List Byte) : (s.writeMem a bs).jtag = s.jtag := rfl
@[simp] theorem State.writeMem_tap (s : State) (a : Nat) (bs : List Byte) : (s.writeMem a bs).tap = s.tap := rfl
@[simp] theorem State.writeMem_pending (s : State) (a : Nat) (bs : List Byte) : (s.writeMem a bs).pending = s.pending := rfl

/-! ## setFn -/

@[simp] theorem State.setFn_now (s : State) (i : Nat) (f : PciFn) : (s.setFn i f).now = s.now := rfl
@[simp] theorem State.setFn_tb (s : State) (i : Nat) (f : PciFn) : (s.setFn i f).tb = s.tb := rfl
@[simp] theorem State.setFn_tbStarted (s : State) (i : Nat) (f : PciFn) : (s.setFn i f).tbStarted = s.tbStarted := rfl
@[simp] theorem State.setFn_clk (s : State) (i : Nat) (f : PciFn) : (s.setFn i f).clk = s.clk := rfl
@[simp] theorem State.setFn_tbu (s : State) (i : Nat) (f : PciFn) : (s.setFn i f).tbu = s.tbu := rfl
@[simp] theorem State.setFn_clocks (s : State) (i : Nat) (f : PciFn) : (s.setFn i f).clocks = s.clocks := rfl
@[simp] theorem State.setFn_inReset (s : State) (i : Nat) (f : PciFn) : (s.setFn i f).inReset = s.inReset := rfl
@[simp] theorem State.setFn_resetN (s : State) (i : Nat) (f : PciFn) : (s.setFn i f).resetN = s.resetN := rfl
@[simp] theorem State.setFn_railLow (s : State) (i : Nat) (f : PciFn) : (s.setFn i f).railLow = s.railLow := rfl
@[simp] theorem State.setFn_startAt (s : State) (i : Nat) (f : PciFn) : (s.setFn i f).startAt = s.startAt := rfl
@[simp] theorem State.setFn_off (s : State) (i : Nat) (f : PciFn) : (s.setFn i f).off = s.off := rfl
@[simp] theorem State.setFn_freeCtr (s : State) (i : Nat) (f : PciFn) : (s.setFn i f).freeCtr = s.freeCtr := rfl
@[simp] theorem State.setFn_regs (s : State) (i : Nat) (f : PciFn) : (s.setFn i f).regs = s.regs := rfl
@[simp] theorem State.setFn_hostMem (s : State) (i : Nat) (f : PciFn) : (s.setFn i f).hostMem = s.hostMem := rfl
@[simp] theorem State.setFn_sent (s : State) (i : Nat) (f : PciFn) : (s.setFn i f).sent = s.sent := rfl
@[simp] theorem State.setFn_rdata (s : State) (i : Nat) (f : PciFn) : (s.setFn i f).rdata = s.rdata := rfl
@[simp] theorem State.setFn_rbytes (s : State) (i : Nat) (f : PciFn) : (s.setFn i f).rbytes = s.rbytes := rfl
@[simp] theorem State.setFn_pins (s : State) (i : Nat) (f : PciFn) : (s.setFn i f).pins = s.pins := rfl
@[simp] theorem State.setFn_wvPins (s : State) (i : Nat) (f : PciFn) : (s.setFn i f).wvPins = s.wvPins := rfl
@[simp] theorem State.setFn_rings (s : State) (i : Nat) (f : PciFn) : (s.setFn i f).rings = s.rings := rfl
@[simp] theorem State.setFn_archive (s : State) (i : Nat) (f : PciFn) : (s.setFn i f).archive = s.archive := rfl
@[simp] theorem State.setFn_icx (s : State) (i : Nat) (f : PciFn) : (s.setFn i f).icx = s.icx := rfl
@[simp] theorem State.setFn_evSeq (s : State) (i : Nat) (f : PciFn) : (s.setFn i f).evSeq = s.evSeq := rfl
@[simp] theorem State.setFn_evtLimit (s : State) (i : Nat) (f : PciFn) : (s.setFn i f).evtLimit = s.evtLimit := rfl
@[simp] theorem State.setFn_suppressedMask (s : State) (i : Nat) (f : PciFn) : (s.setFn i f).suppressedMask = s.suppressedMask := rfl
@[simp] theorem State.setFn_groups (s : State) (i : Nat) (f : PciFn) : (s.setFn i f).groups = s.groups := rfl
@[simp] theorem State.setFn_accepted (s : State) (i : Nat) (f : PciFn) : (s.setFn i f).accepted = s.accepted := rfl
@[simp] theorem State.setFn_loads (s : State) (i : Nat) (f : PciFn) : (s.setFn i f).loads = s.loads := rfl
@[simp] theorem State.setFn_tables (s : State) (i : Nat) (f : PciFn) : (s.setFn i f).tables = s.tables := rfl
@[simp] theorem State.setFn_mgmt (s : State) (i : Nat) (f : PciFn) : (s.setFn i f).mgmt = s.mgmt := rfl
@[simp] theorem State.setFn_hostWatch (s : State) (i : Nat) (f : PciFn) : (s.setFn i f).hostWatch = s.hostWatch := rfl
@[simp] theorem State.setFn_mboxGen (s : State) (i : Nat) (f : PciFn) : (s.setFn i f).mboxGen = s.mboxGen := rfl
@[simp] theorem State.setFn_seq (s : State) (i : Nat) (f : PciFn) : (s.setFn i f).seq = s.seq := rfl
@[simp] theorem State.setFn_cfgHost (s : State) (i : Nat) (f : PciFn) : (s.setFn i f).cfgHost = s.cfgHost := rfl
@[simp] theorem State.setFn_hostMode (s : State) (i : Nat) (f : PciFn) : (s.setFn i f).hostMode = s.hostMode := rfl
@[simp] theorem State.setFn_frames (s : State) (i : Nat) (f : PciFn) : (s.setFn i f).frames = s.frames := rfl
@[simp] theorem State.setFn_fireflies (s : State) (i : Nat) (f : PciFn) : (s.setFn i f).fireflies = s.fireflies := rfl
@[simp] theorem State.setFn_trigOuts (s : State) (i : Nat) (f : PciFn) : (s.setFn i f).trigOuts = s.trigOuts := rfl
@[simp] theorem State.setFn_camFrames (s : State) (i : Nat) (f : PciFn) : (s.setFn i f).camFrames = s.camFrames := rfl
@[simp] theorem State.setFn_camLast (s : State) (i : Nat) (f : PciFn) : (s.setFn i f).camLast = s.camLast := rfl
@[simp] theorem State.setFn_cal (s : State) (i : Nat) (f : PciFn) : (s.setFn i f).cal = s.cal := rfl
@[simp] theorem State.setFn_bg (s : State) (i : Nat) (f : PciFn) : (s.setFn i f).bg = s.bg := rfl
@[simp] theorem State.setFn_statFrame (s : State) (i : Nat) (f : PciFn) : (s.setFn i f).statFrame = s.statFrame := rfl
@[simp] theorem State.setFn_dspLast (s : State) (i : Nat) (f : PciFn) : (s.setFn i f).dspLast = s.dspLast := rfl
@[simp] theorem State.setFn_tracker (s : State) (i : Nat) (f : PciFn) : (s.setFn i f).tracker = s.tracker := rfl
@[simp] theorem State.setFn_ej (s : State) (i : Nat) (f : PciFn) : (s.setFn i f).ej = s.ej := rfl
@[simp] theorem State.setFn_engines (s : State) (i : Nat) (f : PciFn) : (s.setFn i f).engines = s.engines := rfl
@[simp] theorem State.setFn_wvRoles (s : State) (i : Nat) (f : PciFn) : (s.setFn i f).wvRoles = s.wvRoles := rfl
@[simp] theorem State.setFn_spares (s : State) (i : Nat) (f : PciFn) : (s.setFn i f).spares = s.spares := rfl
@[simp] theorem State.setFn_nvm (s : State) (i : Nat) (f : PciFn) : (s.setFn i f).nvm = s.nvm := rfl
@[simp] theorem State.setFn_thermal (s : State) (i : Nat) (f : PciFn) : (s.setFn i f).thermal = s.thermal := rfl
@[simp] theorem State.setFn_gov (s : State) (i : Nat) (f : PciFn) : (s.setFn i f).gov = s.gov := rfl
@[simp] theorem State.setFn_coach (s : State) (i : Nat) (f : PciFn) : (s.setFn i f).coach = s.coach := rfl
@[simp] theorem State.setFn_digest (s : State) (i : Nat) (f : PciFn) : (s.setFn i f).digest = s.digest := rfl
@[simp] theorem State.setFn_i3c (s : State) (i : Nat) (f : PciFn) : (s.setFn i f).i3c = s.i3c := rfl
@[simp] theorem State.setFn_power (s : State) (i : Nat) (f : PciFn) : (s.setFn i f).power = s.power := rfl
@[simp] theorem State.setFn_jtag (s : State) (i : Nat) (f : PciFn) : (s.setFn i f).jtag = s.jtag := rfl
@[simp] theorem State.setFn_tap (s : State) (i : Nat) (f : PciFn) : (s.setFn i f).tap = s.tap := rfl
@[simp] theorem State.setFn_pending (s : State) (i : Nat) (f : PciFn) : (s.setFn i f).pending = s.pending := rfl

/-! ## setRing -/

@[simp] theorem State.setRing_now (s : State) (n : Nat) (r : Ring) : (s.setRing n r).now = s.now := rfl
@[simp] theorem State.setRing_tb (s : State) (n : Nat) (r : Ring) : (s.setRing n r).tb = s.tb := rfl
@[simp] theorem State.setRing_tbStarted (s : State) (n : Nat) (r : Ring) : (s.setRing n r).tbStarted = s.tbStarted := rfl
@[simp] theorem State.setRing_clk (s : State) (n : Nat) (r : Ring) : (s.setRing n r).clk = s.clk := rfl
@[simp] theorem State.setRing_tbu (s : State) (n : Nat) (r : Ring) : (s.setRing n r).tbu = s.tbu := rfl
@[simp] theorem State.setRing_clocks (s : State) (n : Nat) (r : Ring) : (s.setRing n r).clocks = s.clocks := rfl
@[simp] theorem State.setRing_inReset (s : State) (n : Nat) (r : Ring) : (s.setRing n r).inReset = s.inReset := rfl
@[simp] theorem State.setRing_resetN (s : State) (n : Nat) (r : Ring) : (s.setRing n r).resetN = s.resetN := rfl
@[simp] theorem State.setRing_railLow (s : State) (n : Nat) (r : Ring) : (s.setRing n r).railLow = s.railLow := rfl
@[simp] theorem State.setRing_startAt (s : State) (n : Nat) (r : Ring) : (s.setRing n r).startAt = s.startAt := rfl
@[simp] theorem State.setRing_off (s : State) (n : Nat) (r : Ring) : (s.setRing n r).off = s.off := rfl
@[simp] theorem State.setRing_freeCtr (s : State) (n : Nat) (r : Ring) : (s.setRing n r).freeCtr = s.freeCtr := rfl
@[simp] theorem State.setRing_regs (s : State) (n : Nat) (r : Ring) : (s.setRing n r).regs = s.regs := rfl
@[simp] theorem State.setRing_hostMem (s : State) (n : Nat) (r : Ring) : (s.setRing n r).hostMem = s.hostMem := rfl
@[simp] theorem State.setRing_sent (s : State) (n : Nat) (r : Ring) : (s.setRing n r).sent = s.sent := rfl
@[simp] theorem State.setRing_rdata (s : State) (n : Nat) (r : Ring) : (s.setRing n r).rdata = s.rdata := rfl
@[simp] theorem State.setRing_rbytes (s : State) (n : Nat) (r : Ring) : (s.setRing n r).rbytes = s.rbytes := rfl
@[simp] theorem State.setRing_pins (s : State) (n : Nat) (r : Ring) : (s.setRing n r).pins = s.pins := rfl
@[simp] theorem State.setRing_wvPins (s : State) (n : Nat) (r : Ring) : (s.setRing n r).wvPins = s.wvPins := rfl
@[simp] theorem State.setRing_pcie (s : State) (n : Nat) (r : Ring) : (s.setRing n r).pcie = s.pcie := rfl
@[simp] theorem State.setRing_archive (s : State) (n : Nat) (r : Ring) : (s.setRing n r).archive = s.archive := rfl
@[simp] theorem State.setRing_icx (s : State) (n : Nat) (r : Ring) : (s.setRing n r).icx = s.icx := rfl
@[simp] theorem State.setRing_evSeq (s : State) (n : Nat) (r : Ring) : (s.setRing n r).evSeq = s.evSeq := rfl
@[simp] theorem State.setRing_evtLimit (s : State) (n : Nat) (r : Ring) : (s.setRing n r).evtLimit = s.evtLimit := rfl
@[simp] theorem State.setRing_suppressedMask (s : State) (n : Nat) (r : Ring) : (s.setRing n r).suppressedMask = s.suppressedMask := rfl
@[simp] theorem State.setRing_groups (s : State) (n : Nat) (r : Ring) : (s.setRing n r).groups = s.groups := rfl
@[simp] theorem State.setRing_accepted (s : State) (n : Nat) (r : Ring) : (s.setRing n r).accepted = s.accepted := rfl
@[simp] theorem State.setRing_loads (s : State) (n : Nat) (r : Ring) : (s.setRing n r).loads = s.loads := rfl
@[simp] theorem State.setRing_tables (s : State) (n : Nat) (r : Ring) : (s.setRing n r).tables = s.tables := rfl
@[simp] theorem State.setRing_mgmt (s : State) (n : Nat) (r : Ring) : (s.setRing n r).mgmt = s.mgmt := rfl
@[simp] theorem State.setRing_hostWatch (s : State) (n : Nat) (r : Ring) : (s.setRing n r).hostWatch = s.hostWatch := rfl
@[simp] theorem State.setRing_mboxGen (s : State) (n : Nat) (r : Ring) : (s.setRing n r).mboxGen = s.mboxGen := rfl
@[simp] theorem State.setRing_seq (s : State) (n : Nat) (r : Ring) : (s.setRing n r).seq = s.seq := rfl
@[simp] theorem State.setRing_cfgHost (s : State) (n : Nat) (r : Ring) : (s.setRing n r).cfgHost = s.cfgHost := rfl
@[simp] theorem State.setRing_hostMode (s : State) (n : Nat) (r : Ring) : (s.setRing n r).hostMode = s.hostMode := rfl
@[simp] theorem State.setRing_frames (s : State) (n : Nat) (r : Ring) : (s.setRing n r).frames = s.frames := rfl
@[simp] theorem State.setRing_fireflies (s : State) (n : Nat) (r : Ring) : (s.setRing n r).fireflies = s.fireflies := rfl
@[simp] theorem State.setRing_trigOuts (s : State) (n : Nat) (r : Ring) : (s.setRing n r).trigOuts = s.trigOuts := rfl
@[simp] theorem State.setRing_camFrames (s : State) (n : Nat) (r : Ring) : (s.setRing n r).camFrames = s.camFrames := rfl
@[simp] theorem State.setRing_camLast (s : State) (n : Nat) (r : Ring) : (s.setRing n r).camLast = s.camLast := rfl
@[simp] theorem State.setRing_cal (s : State) (n : Nat) (r : Ring) : (s.setRing n r).cal = s.cal := rfl
@[simp] theorem State.setRing_bg (s : State) (n : Nat) (r : Ring) : (s.setRing n r).bg = s.bg := rfl
@[simp] theorem State.setRing_statFrame (s : State) (n : Nat) (r : Ring) : (s.setRing n r).statFrame = s.statFrame := rfl
@[simp] theorem State.setRing_dspLast (s : State) (n : Nat) (r : Ring) : (s.setRing n r).dspLast = s.dspLast := rfl
@[simp] theorem State.setRing_tracker (s : State) (n : Nat) (r : Ring) : (s.setRing n r).tracker = s.tracker := rfl
@[simp] theorem State.setRing_ej (s : State) (n : Nat) (r : Ring) : (s.setRing n r).ej = s.ej := rfl
@[simp] theorem State.setRing_engines (s : State) (n : Nat) (r : Ring) : (s.setRing n r).engines = s.engines := rfl
@[simp] theorem State.setRing_wvRoles (s : State) (n : Nat) (r : Ring) : (s.setRing n r).wvRoles = s.wvRoles := rfl
@[simp] theorem State.setRing_spares (s : State) (n : Nat) (r : Ring) : (s.setRing n r).spares = s.spares := rfl
@[simp] theorem State.setRing_nvm (s : State) (n : Nat) (r : Ring) : (s.setRing n r).nvm = s.nvm := rfl
@[simp] theorem State.setRing_thermal (s : State) (n : Nat) (r : Ring) : (s.setRing n r).thermal = s.thermal := rfl
@[simp] theorem State.setRing_gov (s : State) (n : Nat) (r : Ring) : (s.setRing n r).gov = s.gov := rfl
@[simp] theorem State.setRing_coach (s : State) (n : Nat) (r : Ring) : (s.setRing n r).coach = s.coach := rfl
@[simp] theorem State.setRing_digest (s : State) (n : Nat) (r : Ring) : (s.setRing n r).digest = s.digest := rfl
@[simp] theorem State.setRing_i3c (s : State) (n : Nat) (r : Ring) : (s.setRing n r).i3c = s.i3c := rfl
@[simp] theorem State.setRing_power (s : State) (n : Nat) (r : Ring) : (s.setRing n r).power = s.power := rfl
@[simp] theorem State.setRing_jtag (s : State) (n : Nat) (r : Ring) : (s.setRing n r).jtag = s.jtag := rfl
@[simp] theorem State.setRing_tap (s : State) (n : Nat) (r : Ring) : (s.setRing n r).tap = s.tap := rfl
@[simp] theorem State.setRing_pending (s : State) (n : Nat) (r : Ring) : (s.setRing n r).pending = s.pending := rfl

/-! ## setIcxTarget -/

@[simp] theorem State.setIcxTarget_now (s : State) (t : Nat) (v : IcxTarget) : (s.setIcxTarget t v).now = s.now := rfl
@[simp] theorem State.setIcxTarget_tb (s : State) (t : Nat) (v : IcxTarget) : (s.setIcxTarget t v).tb = s.tb := rfl
@[simp] theorem State.setIcxTarget_tbStarted (s : State) (t : Nat) (v : IcxTarget) : (s.setIcxTarget t v).tbStarted = s.tbStarted := rfl
@[simp] theorem State.setIcxTarget_clk (s : State) (t : Nat) (v : IcxTarget) : (s.setIcxTarget t v).clk = s.clk := rfl
@[simp] theorem State.setIcxTarget_tbu (s : State) (t : Nat) (v : IcxTarget) : (s.setIcxTarget t v).tbu = s.tbu := rfl
@[simp] theorem State.setIcxTarget_clocks (s : State) (t : Nat) (v : IcxTarget) : (s.setIcxTarget t v).clocks = s.clocks := rfl
@[simp] theorem State.setIcxTarget_inReset (s : State) (t : Nat) (v : IcxTarget) : (s.setIcxTarget t v).inReset = s.inReset := rfl
@[simp] theorem State.setIcxTarget_resetN (s : State) (t : Nat) (v : IcxTarget) : (s.setIcxTarget t v).resetN = s.resetN := rfl
@[simp] theorem State.setIcxTarget_railLow (s : State) (t : Nat) (v : IcxTarget) : (s.setIcxTarget t v).railLow = s.railLow := rfl
@[simp] theorem State.setIcxTarget_startAt (s : State) (t : Nat) (v : IcxTarget) : (s.setIcxTarget t v).startAt = s.startAt := rfl
@[simp] theorem State.setIcxTarget_off (s : State) (t : Nat) (v : IcxTarget) : (s.setIcxTarget t v).off = s.off := rfl
@[simp] theorem State.setIcxTarget_freeCtr (s : State) (t : Nat) (v : IcxTarget) : (s.setIcxTarget t v).freeCtr = s.freeCtr := rfl
@[simp] theorem State.setIcxTarget_regs (s : State) (t : Nat) (v : IcxTarget) : (s.setIcxTarget t v).regs = s.regs := rfl
@[simp] theorem State.setIcxTarget_hostMem (s : State) (t : Nat) (v : IcxTarget) : (s.setIcxTarget t v).hostMem = s.hostMem := rfl
@[simp] theorem State.setIcxTarget_sent (s : State) (t : Nat) (v : IcxTarget) : (s.setIcxTarget t v).sent = s.sent := rfl
@[simp] theorem State.setIcxTarget_rdata (s : State) (t : Nat) (v : IcxTarget) : (s.setIcxTarget t v).rdata = s.rdata := rfl
@[simp] theorem State.setIcxTarget_rbytes (s : State) (t : Nat) (v : IcxTarget) : (s.setIcxTarget t v).rbytes = s.rbytes := rfl
@[simp] theorem State.setIcxTarget_pins (s : State) (t : Nat) (v : IcxTarget) : (s.setIcxTarget t v).pins = s.pins := rfl
@[simp] theorem State.setIcxTarget_wvPins (s : State) (t : Nat) (v : IcxTarget) : (s.setIcxTarget t v).wvPins = s.wvPins := rfl
@[simp] theorem State.setIcxTarget_pcie (s : State) (t : Nat) (v : IcxTarget) : (s.setIcxTarget t v).pcie = s.pcie := rfl
@[simp] theorem State.setIcxTarget_rings (s : State) (t : Nat) (v : IcxTarget) : (s.setIcxTarget t v).rings = s.rings := rfl
@[simp] theorem State.setIcxTarget_archive (s : State) (t : Nat) (v : IcxTarget) : (s.setIcxTarget t v).archive = s.archive := rfl
@[simp] theorem State.setIcxTarget_evSeq (s : State) (t : Nat) (v : IcxTarget) : (s.setIcxTarget t v).evSeq = s.evSeq := rfl
@[simp] theorem State.setIcxTarget_evtLimit (s : State) (t : Nat) (v : IcxTarget) : (s.setIcxTarget t v).evtLimit = s.evtLimit := rfl
@[simp] theorem State.setIcxTarget_suppressedMask (s : State) (t : Nat) (v : IcxTarget) : (s.setIcxTarget t v).suppressedMask = s.suppressedMask := rfl
@[simp] theorem State.setIcxTarget_groups (s : State) (t : Nat) (v : IcxTarget) : (s.setIcxTarget t v).groups = s.groups := rfl
@[simp] theorem State.setIcxTarget_accepted (s : State) (t : Nat) (v : IcxTarget) : (s.setIcxTarget t v).accepted = s.accepted := rfl
@[simp] theorem State.setIcxTarget_loads (s : State) (t : Nat) (v : IcxTarget) : (s.setIcxTarget t v).loads = s.loads := rfl
@[simp] theorem State.setIcxTarget_tables (s : State) (t : Nat) (v : IcxTarget) : (s.setIcxTarget t v).tables = s.tables := rfl
@[simp] theorem State.setIcxTarget_mgmt (s : State) (t : Nat) (v : IcxTarget) : (s.setIcxTarget t v).mgmt = s.mgmt := rfl
@[simp] theorem State.setIcxTarget_hostWatch (s : State) (t : Nat) (v : IcxTarget) : (s.setIcxTarget t v).hostWatch = s.hostWatch := rfl
@[simp] theorem State.setIcxTarget_mboxGen (s : State) (t : Nat) (v : IcxTarget) : (s.setIcxTarget t v).mboxGen = s.mboxGen := rfl
@[simp] theorem State.setIcxTarget_seq (s : State) (t : Nat) (v : IcxTarget) : (s.setIcxTarget t v).seq = s.seq := rfl
@[simp] theorem State.setIcxTarget_cfgHost (s : State) (t : Nat) (v : IcxTarget) : (s.setIcxTarget t v).cfgHost = s.cfgHost := rfl
@[simp] theorem State.setIcxTarget_hostMode (s : State) (t : Nat) (v : IcxTarget) : (s.setIcxTarget t v).hostMode = s.hostMode := rfl
@[simp] theorem State.setIcxTarget_frames (s : State) (t : Nat) (v : IcxTarget) : (s.setIcxTarget t v).frames = s.frames := rfl
@[simp] theorem State.setIcxTarget_fireflies (s : State) (t : Nat) (v : IcxTarget) : (s.setIcxTarget t v).fireflies = s.fireflies := rfl
@[simp] theorem State.setIcxTarget_trigOuts (s : State) (t : Nat) (v : IcxTarget) : (s.setIcxTarget t v).trigOuts = s.trigOuts := rfl
@[simp] theorem State.setIcxTarget_camFrames (s : State) (t : Nat) (v : IcxTarget) : (s.setIcxTarget t v).camFrames = s.camFrames := rfl
@[simp] theorem State.setIcxTarget_camLast (s : State) (t : Nat) (v : IcxTarget) : (s.setIcxTarget t v).camLast = s.camLast := rfl
@[simp] theorem State.setIcxTarget_cal (s : State) (t : Nat) (v : IcxTarget) : (s.setIcxTarget t v).cal = s.cal := rfl
@[simp] theorem State.setIcxTarget_bg (s : State) (t : Nat) (v : IcxTarget) : (s.setIcxTarget t v).bg = s.bg := rfl
@[simp] theorem State.setIcxTarget_statFrame (s : State) (t : Nat) (v : IcxTarget) : (s.setIcxTarget t v).statFrame = s.statFrame := rfl
@[simp] theorem State.setIcxTarget_dspLast (s : State) (t : Nat) (v : IcxTarget) : (s.setIcxTarget t v).dspLast = s.dspLast := rfl
@[simp] theorem State.setIcxTarget_tracker (s : State) (t : Nat) (v : IcxTarget) : (s.setIcxTarget t v).tracker = s.tracker := rfl
@[simp] theorem State.setIcxTarget_ej (s : State) (t : Nat) (v : IcxTarget) : (s.setIcxTarget t v).ej = s.ej := rfl
@[simp] theorem State.setIcxTarget_engines (s : State) (t : Nat) (v : IcxTarget) : (s.setIcxTarget t v).engines = s.engines := rfl
@[simp] theorem State.setIcxTarget_wvRoles (s : State) (t : Nat) (v : IcxTarget) : (s.setIcxTarget t v).wvRoles = s.wvRoles := rfl
@[simp] theorem State.setIcxTarget_spares (s : State) (t : Nat) (v : IcxTarget) : (s.setIcxTarget t v).spares = s.spares := rfl
@[simp] theorem State.setIcxTarget_nvm (s : State) (t : Nat) (v : IcxTarget) : (s.setIcxTarget t v).nvm = s.nvm := rfl
@[simp] theorem State.setIcxTarget_thermal (s : State) (t : Nat) (v : IcxTarget) : (s.setIcxTarget t v).thermal = s.thermal := rfl
@[simp] theorem State.setIcxTarget_gov (s : State) (t : Nat) (v : IcxTarget) : (s.setIcxTarget t v).gov = s.gov := rfl
@[simp] theorem State.setIcxTarget_coach (s : State) (t : Nat) (v : IcxTarget) : (s.setIcxTarget t v).coach = s.coach := rfl
@[simp] theorem State.setIcxTarget_digest (s : State) (t : Nat) (v : IcxTarget) : (s.setIcxTarget t v).digest = s.digest := rfl
@[simp] theorem State.setIcxTarget_i3c (s : State) (t : Nat) (v : IcxTarget) : (s.setIcxTarget t v).i3c = s.i3c := rfl
@[simp] theorem State.setIcxTarget_power (s : State) (t : Nat) (v : IcxTarget) : (s.setIcxTarget t v).power = s.power := rfl
@[simp] theorem State.setIcxTarget_jtag (s : State) (t : Nat) (v : IcxTarget) : (s.setIcxTarget t v).jtag = s.jtag := rfl
@[simp] theorem State.setIcxTarget_tap (s : State) (t : Nat) (v : IcxTarget) : (s.setIcxTarget t v).tap = s.tap := rfl
@[simp] theorem State.setIcxTarget_pending (s : State) (t : Nat) (v : IcxTarget) : (s.setIcxTarget t v).pending = s.pending := rfl

end Sys2Proof.Machine
end

