-- ==== Sys2Proof/Laws/Weevil.lean ====
section
/-! SUPPORT. The laws of the Weevil engines and roles, of the shifter that idles, and of the gated domains: what each
operation changes, and that it leaves the rest. -/

namespace Sys2Proof.Machine

/-! ## Engines and roles -/

@[simp] theorem engine_modEngine_self (s : State) (e : Nat) (f : Engine → Engine) :
    (s.modEngine e f).engine e = f (s.engine e) := Store.get_set_self _ _ _ _

theorem engine_modEngine_ne (s : State) {e k : Nat} (f : Engine → Engine) (h : k ≠ e) :
    (s.modEngine e f).engine k = s.engine k := Store.get_set_ne _ _ _ h

@[simp] theorem wvRole_modWv_self (s : State) (r : Nat) (f : WvRole → WvRole) :
    (s.modWv r f).wvRole r = f (s.wvRole r) := Store.get_set_self _ _ _ _

theorem wvRole_modWv_ne (s : State) {r k : Nat} (f : WvRole → WvRole) (h : k ≠ r) :
    (s.modWv r f).wvRole k = s.wvRole k := Store.get_set_ne _ _ _ h

@[simp] theorem wvRole_modEngine (s : State) (e : Nat) (f : Engine → Engine) (r : Nat) :
    (s.modEngine e f).wvRole r = s.wvRole r := rfl

@[simp] theorem engine_modWv (s : State) (r : Nat) (f : WvRole → WvRole) (e : Nat) :
    (s.modWv r f).engine e = s.engine e := rfl

/-- A stopped engine is halted and runs no shift; what it holds beside that is what it had come to. -/
theorem engine_stopEngine (s : State) (e : Nat) :
    (s.stopEngine e).engine e = { s.engineNow e with busy := .halted, shift := none } := by
  simp [State.stopEngine]

theorem stopEngine_frame (s : State) (e : Nat) :
    s.stopEngine e = { s with engines := (s.stopEngine e).engines } := rfl

/-! ## The shifter -/

/-- While its engine stalls, the shifter stands still. -/
theorem run_pause (x : WvShift) (clk later : Nat) (h0 : x.pauses = []) (h : x.start ≤ clk) (hl : clk ≤ later) :
    (x.pause clk).run later = x.run clk := by
  simp only [WvShift.pause, WvShift.run, h0, List.nil_append, List.foldl, Option.getD_none, Nat.min_self]
  omega

/-- When the stall ends, the shift goes on from where it stood. -/
theorem run_resume (x : WvShift) (clk back later : Nat) (h0 : x.pauses = []) (h : x.start ≤ clk) (hb : clk ≤ back)
    (hl : back ≤ later) : ((x.pause clk).resume back).run later = x.run clk + (later - back) := by
  simp only [WvShift.pause, WvShift.resume, WvShift.run, h0, List.nil_append, List.map, List.foldl, Option.getD_none,
    Option.getD_some]
  omega

/-! ## Gated domains -/

/-- Only role X is gated by a power state (R463). -/
theorem gated_of_ne (s : State) {role : Nat} (h : role ≠ 1) : s.gated role = s.lossGated role := by
  simp [State.gated, h]

/-- A domain that lacks its loop is gated. -/
theorem gated_of_lossGated (s : State) {role : Nat} (h : s.lossGated role = true) : s.gated role = true := by
  simp [State.gated, h]

end Sys2Proof.Machine
end

