-- ==== Sys2Proof/WellFormed.lean ====
section
/-! DEFINITION. When a command is well formed: its operands lie in the ranges that the block has. A word written by the
host has any value; whether the device takes it is the meaning's to say. -/

namespace Sys2Proof

/-- The bytes of a space (R315, R318): the BARs, 4 KiB of configuration space, and the ICX block. -/
def Space.size : Space → Nat
  | .pf0Bar0 => 65536
  | .pf0Bar2 => 4096
  | .pf1Bar0 => 16384
  | .pf0Cfg => 4096
  | .pf1Cfg => 4096
  | .icxLead => 2048

/-- Bytes read from host memory are at most `n`. -/
def fits (n : Nat) : Option (List Byte) → Bool
  | none => true
  | some bs => decide (bs.length ≤ n)

/-- Bytes read from host memory are `n`. -/
def exactly (n : Nat) : Option (List Byte) → Bool
  | none => true
  | some bs => bs.length == n

/-- How many values the items of calibration have (R425, R434): entries times the quantities of one measurement. -/
def measurements (item : Nat) : Nat :=
  match item with
  | 0 => 8 | 1 => 24 | 2 => 34 | 3 => 540 | 4 => 134144 | 5 => 503040 | 6 => 120 | _ => 1

/-- A measured value belongs to an element. -/
def Measurement.wellFormed (m : Measurement) : Bool := decide (m.element < measurements m.item.val)

/-- The SRAM errors of a step name contexts, rows and memory instances that exist (R233, R474, R489). -/
def SramErrors.wellFormed (e : SramErrors) : Bool :=
  (e.contexts.all fun c => decide (c < 262144)) && (e.rows.all fun r => decide (r < 1024 * Config.memInstances)) &&
    e.memories.all fun m => decide (m < Config.memInstances)

/-- Is a command well formed? -/
def Instr.wellFormed : Instr → Bool
  | .tickEdge reads => reads.sram.wellFormed
  | .internalPeriodExpiry _ => true
  | .trigInEdge _ _ _ => true
  | .compareFire _ _ => true
  | .exposureIntervalStart _ => true
  | .exposureIntervalEnd _ light => light.all fun p => decide (p.1 < 1560 * 8256)
  | .fireflyPulseStart _ _ => true
  | .fireflyPulseEnd _ _ => true
  | .readoutStart _ => true
  | .rowSlot _ analog => analog.all fun c => decide (c.converter < 33536)
  | .axlePacket _ _ _ => true
  | .pipelineFrame reads _ => reads.sram.wellFormed
  | .trackerRound _ sram => sram.wellFormed
  | .companionRound _ sram => sram.wellFormed
  | .trackerBankCopyComplete _ => true
  | .governorEvaluate _ => true
  | .pixsupMonitorSample _ mv => decide (mv < 4096)
  | .pixsupReadyRise _ => true
  | .csiFrameStart _ _ => true
  | .csiLongPacket _ packet => decide (packet.payload.length < 65536)
  | .csiFrameEnd _ _ => true
  | .mergeBufferDispatch _ => true
  | .trigOutActive _ _ => true
  | .trigOutInactive _ _ => true
  | .tsyncInEdge _ _ => true
  | .tsyncOutInactive _ => true
  | .tbSyncArm _ => true
  | .tbSyncDisarm _ => true
  | .cmpValHiWrite _ _ => true
  | .cmpCtlWrite _ _ => true
  | .captureEdge _ _ _ => true
  | .capRiseLoRead _ => true
  | .capFallHiRead _ => true
  | .capRelease _ => true
  | .capLostClr _ => true
  | .gcClr _ _ => true
  | .ptmReq _ => true
  | .ptmAutoExpiry _ => true
  | .ptmDialogueComplete _ _ _ _ => true
  | .chainRecordHandover _ _ => true
  | .directRecordHandover _ _ => true
  | .weevilNop _ _ => true
  | .pull _ _ => true
  | .push _ _ => true
  | .shiftOut _ _ => true
  | .shiftIn _ _ => true
  | .shiftComplete _ _ _ => true
  | .setTime _ _ => true
  | .waitTime _ _ => true
  | .timeReached _ _ => true
  | .latchAt _ _ => true
  | .latchEdge _ _ => true
  | .capture _ _ => true
  | .weevilCaptureEdge _ _ => true
  | .raiseEvent _ _ => true
  | .halt _ _ => true
  | .stallResume _ _ => true
  | .rxFifoDrain _ _ => true
  | .safeStateSwitch _ _ => true
  | .forcedSwapTimeout _ _ => true
  | .weevilRoleHandover _ _ => true
  | .hostAbsenceExpiry _ => true
  | .hifRunSet _ => true
  | .hifRunClear _ => true
  | .runStopComplete _ => true
  | .hifHostAlive _ => true
  | .hifCntClr _ => true
  | .hifOvlClr _ => true
  | .hifExpClr _ => true
  | .hifRoClr _ => true
  | .hifCsxClr _ => true
  | .hifPipeClr _ => true
  | .hifTrkClr _ => true
  | .hifEjClr _ => true
  | .hifWvClr _ => true
  | .hifPcieClr _ => true
  | .ringClr _ => true
  | .ringDropClr _ => true
  | .pllClr _ => true
  | .sprClr _ => true
  | .fltClr _ => true
  | .icxCntClr _ => true
  | .icxErrClr _ => true
  | .roFactDefectsClr _ => true
  | .thmPeakClr _ => true
  | .pwrSleepAbortClr _ => true
  | .registerWrite space offset width value =>
    (width == 1 || width == 2 || width == 4 || width == 8) && decide (offset + width ≤ space.size) &&
      decide (value.toNat < 2 ^ (8 * width))
  | .nop _ => true
  | .stageReg _ => true
  | .setMode _ => true
  | .tableLoad _ data => fits 12582912 data
  | .tableLoadComplete _ _ => true
  | .tableSwap _ => true
  | .commit _ => true
  | .discard _ => true
  | .bundle _ data => fits (2 ^ 32 - 1) data
  | .sqTailDoorbell _ _ => true
  | .cqHeadDoorbell _ _ => true
  | .ringEnable _ _ => true
  | .ringDisable _ _ => true
  | .descriptorFetch _ _ data => exactly 64 data
  | .bufferFetch _ _ data => exactly 64 data
  | .bufferFlushTimeout _ _ => true
  | .moderationTimeout _ _ => true
  | .archiveEnable _ => true
  | .archiveBlockFlush _ _ _ => true
  | .perstNRelease _ => true
  | .linkRetrain _ => true
  | .laneFailClr _ => true
  | .pcieCorrectableError _ _ => true
  | .functionLevelReset _ => true
  | .busMasterDisable _ => true
  | .hotReset _ _ => true
  | .d3hotEntry _ => true
  | .d0Return _ => true
  | .msixVectorUnmask fn vec => fn.val == 0 || decide (vec.val < 8)
  | .ctxRead => true
  | .idRead => true
  | .certRead => true
  | .quote => true
  | .factDefects => true
  | .fwWrite data => fits (2 ^ 32 - 1) data
  | .fwActivate => true
  | .fwConfirm => true
  | .ownerEnroll data => fits (2 ^ 32 - 1) data
  | .digestExpect => true
  | .digestRead => true
  | .lifecycle => true
  | .calRun meas => meas.all Measurement.wellFormed
  | .calSnapshot => true
  | .flatAcquire => true
  | .spareAssign => true
  | .selftestUnit => true
  | .faultRead => true
  | .journalRead => true
  | .powerState => true
  | .powerStateEntry _ => true
  | .wake _ _ => true
  | .loopLockLoss _ _ => true
  | .standIn _ _ => true
  | .loopRelock _ _ => true
  | .refInLoss _ => true
  | .refInGood _ => true
  | .powerupCalibration _ found => found.meas.all Measurement.wellFormed
  | .backgroundDriftMeasure _ meas => meas.all Measurement.wellFormed
  | .calDataAccess _ => true
  | .calDlistClr _ => true
  | .thermalSample _ counts => counts.length == 24 && counts.all fun c => decide (c < 65536)
  | .shutdownComplete _ => true
  | .graceExpiry _ => true
  | .faultBucketLeak _ _ inst => decide (inst < 2 ^ 30)
  | .selftestTurn _ _ => true
  | .selftestComplete _ _ _ patterns => decide (patterns < 2 ^ 32)
  | .bistShutdown _ => true
  | .moultComplete _ results => results.all fun r => decide (r < 2 ^ 45)
  | .resetNAssert _ => true
  | .resetNRelease _ results => results.all fun r => decide (r ≤ 2 ^ 45)
  | .brownout _ => true
  | .railFault _ => true
  | .standbyReady _ => true
  | .trialTimeout _ => true
  | .coachmanWatchdogExpiry _ _ => true
  | .secAlarm _ => true
  | .journalCompaction _ => true
  | .entdaa _ => true
  | .setdasa _ => true
  | .rstdaa => true
  | .getpid => true
  | .getbcr => true
  | .getdcr => true
  | .getstatus => true
  | .getmrl => true
  | .getmwl => true
  | .enec _ => true
  | .disec _ => true
  | .i3cId => true
  | .i3cStatus => true
  | .i3cTemps => true
  | .i3cTick => true
  | .i3cFault => true
  | .i3cWake => true
  | .i3cRequest _ => true
  | .icxHclaim => true
  | .icxHfclaim => true
  | .icxHcomplete _ => true
  | .icxHfcomplete _ => true
  | .icxLockRead _ => true
  | .icxLockRelease _ _ => true
  | .icxLockTimeout _ => true
  | .hostClaimWindowExpiry _ src =>
    (decide (1 ≤ src) && decide (src ≤ 254)) || (decide (257 ≤ src) && decide (src ≤ 272))
  | .icxPendWrite _ _ => true
  | .icxMaskWrite _ _ => true
  | .internalMessage _ _ role _ => decide (role < 2 ^ 20)
  | .csiDeskewComplete _ => true
  | .linkUp _ lanes _ => lanes.length == 4
  | .nvmProgramSequenceComplete _ _ => true
  | .brownoutResetExit _ results => results.all fun r => decide (r ≤ 2 ^ 45)
  | .moultStart _ => true
  | .coachmanIcxClaim _ _ => true
  | .coachmanIcxComplete _ _ _ => true
  | .jtagInstruction _ => true

end Sys2Proof
end

