-- ==== Sys2Proof/Tests/Slice0.lean ====
section
/-! SUPPORT. Small tests: terms that are not well formed, concrete states and operands that meet the hypotheses of the
statements, and single steps with results taken from the rules of spec/. -/

namespace Sys2Proof.Tests

open Sys2Proof.Machine Sys2Proof.Safety

set_option Elab.async false

/-! ## States -/

/-- Does a step answer a next state? -/
def isNext (x : Host.Outcome State Fault Refusal) : Bool :=
  match x with
  | .next _ => true
  | _ => false

/-- What a step leaves, where it answers a next state. -/
def after (c : Instr) (s : State) : State :=
  match exec c s with
  | .next t => t
  | _ => s

/-- A function with memory space, bus mastering and MSI-X enabled. -/
def fnOn : PciFn := { PciFn.init with memEnable := true, busMaster := true, msixEnable := true, ptmEnable := true }

/-- A started device that both functions of the host can reach, with the pixel supply ready and all loops locked. -/
def live : State :=
  let s := ((State.reset.setFlag .HIF_READY_READY true).setFlag .RO_PIXSUP_STAT_READY true).setFld .PLL_STAT_LOCKED 15
  { s with
    now := 1000000000000, clk := 1000000, tb := 1000000, inReset := false, resetN := true, tbStarted := true
    pcie := { s.pcie with link := .up, perst := false, f0 := fnOn, f1 := fnOn }
    coach := { s.coach with started := true } }

/-- The same, with RUN and RUNNING set after tick 0. -/
def running : State :=
  let s := (live.setFlag .HIF_RUN_RUN true).setFlag .HIF_STAT_RUNNING true
  { s with seq := { s.seq with first := true } }

/-- A frame at its edge, under the registers of a state. -/
def mkFrame (s : State) (tick mode : Nat) : Frame :=
  { tick := tick, edge := 1000000, clk := 1000000, gen := 0, tag := 0, mode := mode, tmin := 1000000, base := 1000000, delay := 0,
    regs := s.regs, banks := [], cal := [], drift := [], holder := [], lost := [], policy := 0, policyRow := 0,
    clockLoss := false, settled := false, cut := false, pixsup := false, suppressed := false, govern := false,
    transition := false, capped := false, interval := 0, isOpen := false, pulse := [], nodes := [], readAt := none,
    slot := 0, wire := [], wireOb := [], lanes := [], codes := [], ob := [], obC := [], obX := [], piped := [],
    camPixels := [], planes := [], views := [], rounds := [], kept := 0, untracked := [], noFire := false, done := false }

/-- A state with one frame. -/
def withFrame (s : State) (f : Frame) : State := { s with frames := [f] }

/-! ## Terms that are not well formed -/

theorem test_wf_accepts : (Instr.exposureIntervalEnd 0 [(1560 * 8256 - 1, 1)]).wellFormed = true ∧
    (Instr.registerWrite .pf0Bar0 65532 4 0xffffffff).wellFormed = true ∧
    (Instr.thermalSample 0 (List.replicate 24 65535)).wellFormed = true ∧
    (Instr.hostClaimWindowExpiry 0 272).wellFormed = true := by decide +kernel

theorem test_wf_light : (Instr.exposureIntervalEnd 0 [(1560 * 8256, 1)]).wellFormed = false := by decide +kernel
theorem test_wf_converter : (Instr.rowSlot 0 [⟨33536, 0, false, false⟩]).wellFormed = false := by decide +kernel
theorem test_wf_context : (Instr.trackerRound 0 ⟨[262144], [], []⟩).wellFormed = false ∧
    (Instr.companionRound 0 ⟨[0, 262144], [], []⟩).wellFormed = false := by decide +kernel
theorem test_wf_memory : (Instr.tickEdge ⟨0, [], [1024 * Config.memInstances], []⟩).wellFormed = false ∧
    (Instr.pipelineFrame ⟨0, [], [], [Config.memInstances]⟩ 0).wellFormed = false := by
  simp [Instr.wellFormed, SramErrors.wellFormed]
theorem test_wf_boost : (Instr.pixsupMonitorSample 0 4096).wellFormed = false := by decide +kernel
theorem test_wf_payload :
    (Instr.csiLongPacket 0 ⟨0, 0x2a, .good, true, List.replicate 65536 0, ⟨0, false⟩⟩).wellFormed = false := by
  rw [Instr.wellFormed, List.length_replicate]; decide
theorem test_wf_write : (Instr.registerWrite .pf0Bar0 0 3 0).wellFormed = false ∧
    (Instr.registerWrite .pf0Bar0 65533 4 0).wellFormed = false ∧
    (Instr.registerWrite .pf1Bar0 0 2 65536).wellFormed = false := by decide +kernel
theorem test_wf_tableLoad : fits 3 (some [0, 0, 0, 0]) = false ∧ fits 4 (some [0, 0, 0, 0]) = true := by decide +kernel
theorem test_wf_fetch : (Instr.descriptorFetch 0 0 (some (List.replicate 63 0))).wellFormed = false ∧
    (Instr.bufferFetch 0 0 (some (List.replicate 65 0))).wellFormed = false := by decide +kernel
theorem test_wf_vector : (Instr.msixVectorUnmask 1 8).wellFormed = false := by decide +kernel
theorem test_wf_measurement : (Instr.calRun [⟨1, 24, 0⟩]).wellFormed = false ∧
    (Instr.powerupCalibration 0 ⟨[⟨7, 1, 0⟩], []⟩).wellFormed = false ∧
    (Instr.backgroundDriftMeasure 0 [⟨6, 120, 0⟩]).wellFormed = false := by decide +kernel
theorem test_wf_counts : (Instr.thermalSample 0 (List.replicate 23 0)).wellFormed = false ∧
    (Instr.thermalSample 0 (List.replicate 24 65536)).wellFormed = false := by decide +kernel
theorem test_wf_bucket : (Instr.faultBucketLeak 0 0 (2 ^ 30)).wellFormed = false := by decide +kernel
theorem test_wf_patterns : (Instr.selftestComplete 0 0 true (2 ^ 32)).wellFormed = false := by decide +kernel
theorem test_wf_results : (Instr.resetNRelease 0 [2 ^ 45 + 1]).wellFormed = false ∧
    (Instr.moultComplete 0 [2 ^ 45]).wellFormed = false ∧
    (Instr.brownoutResetExit 0 [2 ^ 45 + 1]).wellFormed = false := by decide +kernel
theorem test_wf_source : (Instr.hostClaimWindowExpiry 0 0).wellFormed = false ∧
    (Instr.hostClaimWindowExpiry 0 255).wellFormed = false := by decide +kernel
theorem test_wf_role : (Instr.internalMessage 0 0 (2 ^ 20) 0).wellFormed = false := by decide +kernel
theorem test_wf_lanes : (Instr.linkUp 0 [true] 4).wellFormed = false := by decide +kernel

/-- No row of the opcode table gives bits. -/
theorem test_decode : decodeTableWord 32 0 = none ∧ State.reset.withFetchWord 32 0 = State.reset := ⟨rfl, rfl⟩

/-! ## Witnesses: the host, register writes, the tick -/

theorem wit_EmptyQueueLetsOneNsPass : live.pending = [] := by decide +kernel

theorem wit_HostWritesNeedAnAccessibleDevice :
    State.reset.barOk 0 = false ∧ State.reset.barOk 1 = false ∧ (31 : Fin 33).val < 32 ∧
      { live with pcie := { live.pcie with f0 := { fnOn with memEnable := false } } }.barOk 0 = false := by decide +kernel

theorem wit_HostActivityRestartsAbsenceTimer :
    live.barOk 0 = true ∧ live.barOk 1 = true ∧
      (∀ c ∈ [Instr.registerWrite .pf0Cfg 4 2 6, .registerWrite .pf1Cfg 4 2 6, .capRiseLoRead 7, .capFallHiRead 0,
        .icxHclaim, .icxHfclaim, .icxLockRead 2, .calDataAccess none], isNext (exec c live) = true) := by decide +kernel

/-- The host has been silent for its timeout of 1 ms. -/
def silent : State := { running.setFld .HIF_HOST_TIMEOUT_TIMEOUT_MS 1 with now := 1000000 }

theorem wit_HostAbsenceComesAndEnds :
    ((silent.advance 0).absenceRuns = true ∧ (silent.advance 0).flag .HIF_HOST_POLICY_ABSENT = false ∧
      1000000 * (silent.advance 0).fld .HIF_HOST_TIMEOUT_TIMEOUT_MS ≤
        (silent.advance 0).now - (silent.advance 0).hostWatch.since) ∧
    ((live.setFlag .HIF_HOST_POLICY_ABSENT true).barOk 0 = true ∧
      (live.setFlag .HIF_HOST_POLICY_ABSENT true).flag .HIF_HOST_POLICY_ABSENT = true) ∧
    (live.barOk 0 = true ∧ live.flag .HIF_HOST_POLICY_ABSENT = false) := by decide +kernel

theorem wit_RunSetAndClear :
    (live.barOk 0 = true ∧ bitOf (1 : Word).toNat 0 = true ∧ live.hostActivity.mayRun = true ∧
      live.hostActivity.run = false) ∧ bitOf (0 : Word).toNat 0 = false ∧
    (let u := (live.setFlag .HIF_STAT_RUNNING true).advance 0
     u.alive = true ∧ u.run = false ∧ u.running = true ∧ u.frames.all (·.done) = true) := by decide +kernel

/-- Counters count up to their largest value and a clear takes them back. -/
theorem wit_ClearRegisters : live.barOk 0 = true ∧ live.barOk 1 = true := by decide +kernel

/-- The same, with RUNNING 1. -/
def runningOnly : State := live.setFlag .HIF_STAT_RUNNING true

/-- The same, owner-locked by the record of an owner. -/
def locked : State := { live with nvm := { live.nvm with owner := List.replicate 2048 1 } }

theorem wit_RegisterWritesFollowTheRulesOfR8AndR18 :
    (live.barOk 0 = true ∧ (2 : Nat) ≠ 4 ∧ (0x5fff : Nat) < 0x6000 ∧ (0x6400 : Nat) ≤ 0x6400) ∧
    (0x1002 : Nat) % 4 ≠ 0 ∧
    (live.barOk 1 = true ∧ (0x37fe : Nat) % 4 ≠ 0 ∧ (0x37fe : Nat) < 0x3800 ∧ (0x3880 : Nat) ≤ 0x3880) ∧
    (∀ off ∈ [0xffc, 0x4ffc, 0x5ffc, 0x6400], (off < 0x6000 ∨ 0x6400 ≤ off) ∧ regRow off = none) ∧
    (stageable Reg.EXP_TICK_PERIOD = true ∧ Reg.EXP_TICK_PERIOD % 4 = 0 ∧ runningOnly.barOk 0 = true ∧
      runningOnly.hostActivity.running = true ∧ locked.barOk 0 = true ∧ locked.hostActivity.ownerLocked = true) ∧
    ((regRow Reg.EXP_GOV_STAT).isSome = true ∧ stageable Reg.EXP_GOV_STAT = false ∧ Reg.EXP_GOV_STAT % 4 = 0 ∧
      0x1000 ≤ Reg.EXP_GOV_STAT ∧ Reg.EXP_GOV_STAT < 0x5000) ∧
    (regRow Reg.EXP_TICK_PERIOD).isSome = true ∧ (regRow Reg.EXP_TICK_SRC).isSome = true ∧
    stageable Reg.EXP_TICK_SRC = true ∧ getBits (2 : Nat) 1 0 ≠ 3 ∧
    Reg.EXP_TICK_PERIOD ≠ Reg.WV_SWAP ∧ Reg.EXP_TICK_PERIOD ≠ Reg.EXP_TICK_SRC ∧
    live.hostActivity.running = false ∧ live.hostActivity.ownerLocked = false := by decide +kernel

/-- An edge is due now. -/
def edgeDue : State := { running with seq := { running.seq with due := some 1000000, start := none } }

/-- Role X lost its loop and gets no stand-in. -/
def noRoleX (s : State) : State := { s with clocks := { s.clocks with gated := [(1, some 0)], noStandIn := [(1, true)] } }

theorem wit_TickEdgeTakesItsNumberAndTime :
    (∀ s ∈ [edgeDue, edgeDue.setFlag .RO_PIXSUP_STAT_READY false, noRoleX edgeDue], let u := s.advance 0
      u.seq.due = some 1000000 ∧ u.alive = true ∧ u.run = true ∧ u.tbRuns = true ∧ reached u.tb 1000000 = true) ∧
    (let u := edgeDue.advance 0
     u.flag .RO_PIXSUP_STAT_READY = true ∧ u.edgesHeld = false ∧ u.nextTick < 2 ^ 48) ∧
    ((edgeDue.setFlag .RO_PIXSUP_STAT_READY false).advance 0).flag .RO_PIXSUP_STAT_READY = false ∧
    (let u := (noRoleX edgeDue).advance 0
     u.flag .RO_PIXSUP_STAT_READY = true ∧ u.edgesHeld = true) := by decide +kernel

/-- The source of ticks is pin 1, rising, undivided. -/
def external (div : Nat) : State :=
  (((running.setFld .EXP_TICK_SRC_SRC 1).setFld .EXP_TICK_SRC_PIN 1).setFld .EXP_TICK_SRC_DIV div).setFld .EXP_TICK_PERIOD_PERIOD 1000000

/-- The state in which the edge of pin 1 is judged. -/
def externalNow (div : Nat) : State :=
  let u := ((external div).advance 0).setPin 1 true
  if bitOf (u.fld .ICX_TRIG_POL) 1 == !true then (u.raise 39).wakeFires (.trig 1) else u

theorem wit_TickCandidatesAreAdmittedOrIgnored :
    (let u := ({ running with seq := { running.seq with start := some 1000000, first := false } }).advance 0
     u.ticking = true ∧ u.tickSrc = 0 ∧ u.internalDue = true ∧ u.thermal.trip = none ∧
      u.flag .RO_PIXSUP_STAT_READY = true ∧ u.edgesHeld = false) ∧
    (∀ d ∈ [0, 3], let u := ((external d).advance 0).setPin 1 true
     let v := externalNow d
     u.alive = true ∧ v.edgesWanted = true ∧ v.tickSrc = 1 ∧ v.fld .EXP_TICK_SRC_PIN = 1 ∧
      v.flag .EXP_TICK_SRC_POL = !true ∧ v.gated 2 = false ∧ v.tbRuns = true ∧ v.thermal.trip = none ∧
      v.flag .RO_PIXSUP_STAT_READY = true ∧ v.edgesHeld = false) ∧
    (externalNow 3).seq.div ≠ (externalNow 3).fld .EXP_TICK_SRC_DIV ∧
    (externalNow 0).seq.div = (externalNow 0).fld .EXP_TICK_SRC_DIV ∧
    (externalNow 0).tooEarly ((externalNow 0).fld .EXP_TRIG_LAT_LAT) = false ∧
    ({ externalNow 0 with seq := { (externalNow 0).seq with due := some 1000000 } } : State).tooEarly 20 = true := by
  decide +kernel

/-! ## Witnesses: frames, pins, companions, the tracker -/

/-- A frame of mode 0 at work, 1,000 ns after its edge. -/
def exposing : State := { withFrame running (mkFrame running 0 0) with clk := 1001000 }

/-- A frame whose one interval is open and over. -/
def exposed : State := { withFrame running { mkFrame running 0 0 with isOpen := true } with clk := 1001250 }

theorem wit_ExposureIntervalsGatherCharge :
    (let u := exposing.advance 0
     let f := mkFrame running 0 0
     u.newest = some f ∧ (∃ i, (f.view u).intervals[f.interval]? = some i ∧ (i.start : Int) ≤ u.sinceFrame f) ∧
      f.isOpen = false ∧ f.cut = false ∧ u.tbRuns = true) ∧
    (let u := exposed.advance 0
     let f := { mkFrame running 0 0 with isOpen := true }
     u.newest = some f ∧ (∃ i, (f.view u).intervals[f.interval]? = some i ∧ (i.stop : Int) ≤ u.sinceFrame f) ∧
      f.isOpen = true ∧ u.tbRuns = true) ∧
    openPixel (12 * 8256 + 32) = true ∧ openPixel (1547 * 8256 + 8223) = true := by
  refine ⟨⟨by decide +kernel, ?_, by decide +kernel⟩, ⟨by decide +kernel, ?_, by decide +kernel⟩, by decide +kernel⟩
  · exact ⟨⟨0, 1000, 1250, 0⟩, by decide +kernel, by decide +kernel⟩
  · exact ⟨⟨0, 1000, 1250, 0⟩, by decide +kernel, by decide +kernel⟩

/-- Firefly 7 is GATED by the interval of tap 0. -/
def strobed (limit : Nat) : State :=
  ((running.setFld (.FF_CFG_MODE 7) 1).setFld (.EXP_TAP_SUB_FFMASK 0) 128).setFld (.FF_DUTY_LIMIT 7) limit

/-- The start of its pulse. -/
def strobing (limit : Nat) : State := { withFrame (strobed limit) (mkFrame (strobed limit) 0 0) with clk := 1001000 }

/-- A Firefly whose pulse is over. -/
def lit : State := { live with fireflies := [(7, ⟨true, true, 1000000, 0, 0⟩)] }

theorem wit_FireflyPulsesDriveTheirPins :
    (∀ limit ∈ [0, 250, 249],
      let u := (strobing limit).advance 0
      let x := mkFrame (strobed limit) 0 0
      u.newest = some x ∧ u.tbRuns = true ∧ x.cut = false ∧ (u.firefly 7).active = false ∧
      (∃ p ∈ (((x.view u).pulses 7)[x.pulse.get (fun _ => 0) 7]?).toList, (p.1 : Int) ≤ u.sinceFrame x ∧
        (limit ≠ 249 → (x.view u).fld (.FF_DUTY_LIMIT 7) = 0 ∨
          u.windowTime 7 + (p.2 - p.1) ≤ (x.view u).fld (.FF_DUTY_LIMIT 7)) ∧
        (limit = 249 → (x.view u).fld (.FF_DUTY_LIMIT 7) ≠ 0 ∧
          (x.view u).fld (.FF_DUTY_LIMIT 7) < u.windowTime 7 + (p.2 - p.1)))) ∧
    (let u := lit.advance 0
     (u.firefly 7).active = true ∧ u.tbRuns = true ∧ (u.firefly 7).until_ ≤ u.clk) := by decide +kernel

/-- A frame read out from its due time on. -/
def atReadout (readAt : Option Nat) (slot : Nat) : Frame :=
  { mkFrame running 0 0 with interval := 1, readAt := readAt, slot := slot }

/-- The frame alone, 10 ms after its edge. -/
def later (f : Frame) : State := { withFrame running f with clk := 11000000 }

theorem wit_ReadoutStartsAndItsSlotsConvert :
    (let u := (later (atReadout none 0)).advance 0
     u.frames.find? u.readoutDue = some (atReadout none 0) ∧ u.tbRuns = true) ∧
    (let u := (later (atReadout (some 1002000) 0)).advance 0
     u.reading = some (atReadout (some 1002000) 0) ∧ u.slotDue (atReadout (some 1002000) 0) = true) ∧
    (let u := (later (atReadout (some 1002000) 1)).advance 0
     let f := atReadout (some 1002000) 1
     u.onAxle = some f ∧ u.gated 0 = false ∧ f.roleLost 3 639 = false ∧ f.lanes.get (fun _ => 0) 639 = 0 ∧
      f.crcOk (f.view u) 639 0 = true) := by
  decide +kernel

theorem wit_PixelSupplyIsMonitored : (live.advance 0).boostOn = true := by decide +kernel

/-- Camera 2 is enabled on virtual channel 5 with RAW8, 4 by 2 pixels. -/
def cam2 : State :=
  (((((running.setFlag .CSX_LINK_CFG_EN true).setFlag (.CSX_CAM_CFG_EN 1) true).setFld (.CSX_CAM_CFG_VC 1) 5).setFld
    (.CSX_CAM_CFG_DT 1) 0x2a).setFld (.CSX_CAM_SIZE_WIDTH 1) 4).setFld (.CSX_CAM_SIZE_HEIGHT 1) 2

/-- A frame of camera 2. -/
def camFrame (complete buffered : Bool) (tick : Option Nat) (lines : List CsiLine) : CamFrame :=
  { cam := 2, vc := 5, dt := 0x2a, width := 4, height := 2, pipe := 2, captured := 1000500, corrected := 1000500, held := false,
    later := false, tick := tick, lines := lines, complete := complete, buffered := buffered }

/-- A packet of the channel. -/
def packet (dt : BitVec 6) : CsiPacket :=
  { vc := 5, dataType := dt, header := .good, payload := [1, 2, 3, 4], crcOk := true, lanes := ⟨15, true⟩ }

/-- Cameras 1 and 2 share pipeline 2, which has a frame of camera 2 at work; the merge buffer has room. -/
def sharedCam : State :=
  { (((((cam2.setFlag (.CSX_CAM_CFG_EN 0) true).setFld (.CSX_CAM_STAT_PIPE 0) 2).setFld (.CSX_CAM_STAT_PIPE 1) 2).setFld
      (.CSX_CAM_CFG_VC 0) 6)) with camFrames := [camFrame true false (some 0) []] }

theorem wit_CompanionPacketsAreReceived :
    (let u := (cam2.advance 0).showLanes ⟨15, true⟩
     u.csiOn = true ∧ u.camsOn 5 = [2] ∧ HeaderEcc.good ≠ .uncorrected ∧ u.mustWait (u.camView 2) 2 = false) ∧
    (let u := (sharedCam.advance 0).showLanes ⟨0, false⟩
     let v := u.camView 2
     u.csiOn = true ∧ u.camsOn 5 = [2] ∧ u.mustWait v 2 = true ∧
      v.fld (.CSX_CAM_SIZE_WIDTH 1) * v.fld (.CSX_CAM_SIZE_HEIGHT 1) ≤ u.mergeRoom) ∧
    (packet 0x2a).header ≠ .uncorrected ∧ (packet 0x2b).header ≠ .uncorrected ∧
    (∀ l ∈ [CsiLanes.mk 15 true, ⟨0, false⟩], let u := (cam2.advance 0).showLanes l
     u.csiOn = true ∧ u.takesType 5 0x2b = false ∧ u.takesType 6 0x2a = false ∧ u.takesType 5 0x2a = true ∧
      u.openCams 5 = []) ∧ (cam2.advance 0).csiOn = true ∧
    (let u := ({ cam2 with camFrames := [camFrame true true (some 0) []] }).advance 0
     u.mergeNext = some (camFrame true true (some 0) []) ∧ u.gated 1 = false) := by decide +kernel

/-- A good line. -/
def line : CsiLine := ⟨[1, 2, 3, 4], true⟩

/-- A second frame of the camera for the same tick. -/
def lateFrame : CamFrame := { camFrame false false none [line, line] with later := true }

/-- A frame of camera 2 stands open in the frame of tick 0. -/
def camOpen (lines : List CsiLine) : State :=
  { withFrame cam2 (mkFrame cam2 0 6) with camFrames := [camFrame false false none lines], clk := 1000600, tb := 1000600 }

theorem wit_CompanionFrameEndDecidesItsTick :
    (∀ l ∈ [[line, line], [line]], let u := ((camOpen l).advance 0).showLanes ⟨15, true⟩
     u.csiOn = true ∧ u.openCams 5 = [camFrame false false none l] ∧ (camFrame false false none l).cam = (1 : Fin 3).val + 1) ∧
    (camFrame false false none [line]).wellFormed = false ∧ (camFrame false false none [line, line]).wellFormed = true ∧
    (((camOpen [line, line]).advance 0).showLanes ⟨15, true⟩).takeCam (camFrame false false none [line, line]) = .taken 0 ∧
    (let u := (({ camOpen [line, line] with camFrames := [lateFrame] }).advance 0).showLanes ⟨15, true⟩
     u.csiOn = true ∧ u.openCams 5 = [lateFrame] ∧ lateFrame.wellFormed = true ∧ u.takeCam lateFrame = .drop .overload) ∧
    (let u := (({ camOpen [line, line] with frames := [] }).advance 0).showLanes ⟨0, true⟩
     u.csiOn = true ∧ u.openCams 5 = [camFrame false false none [line, line]] ∧
      u.takeCam (camFrame false false none [line, line]) = .ignore) := by decide +kernel

/-- Trigger output 3 in COMPARE mode on unit 5, with one pulse to come or one under way that is over. -/
def trig (queue : List TrigPulse) (active : Bool) : State :=
  { ((running.setFld (.CSX_TO_CFG_MODE 3) 2).setFld (.CSX_TO_CFG_CMP 3) 5) with
    trigOuts := [(3, ⟨queue, active, true, 1000000⟩)] }

/-- Compare unit 5 is armed and reached. -/
def reachedUnit : State :=
  let s := (trig [] false).setFlag (.CMP_CTL_ARMED 5) true
  { s with tbu := { s.tbu with cmps := [(5, ⟨1000000, 7⟩)] } }

theorem wit_TriggerOutputsPulse :
    (let u := reachedUnit.advance 0
     u.compareDue 5 = true ∧ u.standby = false ∧ u.fld (.CSX_TO_CFG_MODE 3) = 2 ∧ u.fld (.CSX_TO_CFG_CMP 3) = 5) ∧
    (∀ active : Bool, let u := (trig [⟨1000001, 1000002, true⟩, ⟨1000000, 1000100, true⟩] active).advance 0
     (u.trigOut 3).active = active ∧ u.alive = true ∧ u.standby = false ∧ u.tbRuns = true ∧
      (u.trigOut 3).queue.find? (fun q => decide (q.at_ ≤ u.clk)) = some ⟨1000000, 1000100, true⟩) ∧
    (let u := (trig [] true).advance 0
     (u.trigOut 3).active = true ∧ u.tbRuns = true ∧ (u.trigOut 3).until_ ≤ u.clk) := by decide +kernel

/-- A frame in SERVICE that has been read. -/
def readFrame : Frame :=
  let f := { mkFrame running 0 0 with readAt := some 1002000 }
  { f with slot := (f.view running).slots }

/-- A companion frame has been taken for tick 0. -/
def camTaken : State := { withFrame cam2 (mkFrame cam2 0 6) with camFrames := [camFrame true false (some 0) [line, line]] }

theorem wit_PipelineTakesTheNextFrame :
    (let u := (later readFrame).advance 0
     let v := u.sramErrors u.errorTick SramErrors.none
     u.gated 1 = false ∧ u.alive = true ∧ v.nextOwn = some readFrame ∧ v.ownDue readFrame = true) ∧
    (let u := camTaken.advance 0
     let v := u.sramErrors u.errorTick SramErrors.none
     u.gated 1 = false ∧ u.alive = true ∧ (2 : Fin 4).val ≠ 0 ∧
      v.nextCam 2 = some (camFrame true false (some 0) [line, line]) ∧ u.frameOf 0 = some (mkFrame cam2 0 6)) := by
  decide +kernel

/-- A round without a segment. -/
def round (cam : Nat) : Round := { cam := cam, tap := 0, time := 1000000, capped := false, segs := [] }

/-- A frame whose pipelines are done, with a round to come. -/
def rounds (cam : Nat) : Frame := { readFrame with piped := [0], rounds := [round cam] }

theorem wit_TrackerRoundsRunInOrder :
    (∀ cam ∈ [0, 3], let u := (later (rounds cam)).advance 0
     u.gated 1 = false ∧ u.alive = true ∧ u.roundFrame = some (rounds cam) ∧
      (rounds cam).nextRound = some (round cam)) ∧ (round 0).cam = 0 ∧ (round 3).cam ≠ 0 := by decide +kernel

/-- The governor is on and a frame has complete statistics. -/
def governed : State :=
  { (running.setFlag .EXP_GOV_CFG_EN true).setFld .HIF_MODE_MODE 0 with
    statFrame := some ⟨3, (running.setFlag .EXP_GOV_CFG_EN true).regs, true, []⟩ }

theorem wit_GovernorStagesItsChange : (governed.advance 0).govDue = true := by decide +kernel

/-- A queued pulse that opens in 100 ns. -/
def pulse (direct : Bool) : Pulse :=
  { valve := 0, direct := direct, port := 15, pos := 0, openAt := 1000100, closeAt := 2000000, opened := false, latch := 0,
    window := 0, tick := 0, owners := [] }

/-- The pulse waits and PREP is at its least. -/
def queued (direct : Bool) : State :=
  { running with ej := { running.ej with pulses := [pulse direct] }, tb := 1000100 }

theorem wit_ValveRecordsAreHandedToTheirRoles :
    (let u := (queued false).advance 0
     earliest ((u.ej.pulses.filter fun q => !q.direct && q.port == 15).map (·.nextEdge)) = some 1000100 ∧ u.alive = true ∧
      u.tbRuns = true ∧ reached u.tb (timeShift 1000100 (-(u.fld (.WV_PORT_PREP_PREP 15) : Int))) = true) ∧
    (let u := (queued true).advance 0
     earliest ((u.ej.pulses.filter fun q => q.direct && u.fld (.WV_DIR_ROLE q.pos) == 0).map (·.nextEdge)) =
        some 1000100 ∧ u.alive = true ∧
      u.tbRuns = true ∧ reached u.tb (timeShift 1000100 (-(u.fld .WV_DIR_PREP_PREP : Int))) = true) := by
  decide +kernel

/-! ## Witnesses: the timebase -/

/-- TSYNC is armed for a falling edge, POL being 1. -/
def armed (pol : Bool) : State := (live.setFlag .TB_SYNC_CTL_ARM true).setFlag .TB_SYNC_CTL_POL pol

theorem wit_TimebaseLoadsAtTsync :
    live.barOk 0 = true ∧ bitOf (3 : Word).toNat 2 = false ∧
    (∀ rising : Bool, let u := (armed (!rising)).advance 0
     u.alive = true ∧ u.flag .TB_SYNC_CTL_ARM = true ∧ u.flag .TB_SYNC_CTL_POL = !rising ∧ u.tbRuns = true) ∧
    (let u := ({ live with tbu := { live.tbu with syncOutAt := some 0 } }).advance 0
     u.tbu.syncOutAt = some 0 ∧ max 20 (u.fld .TB_SYNC_OUT_WIDTH) ≤ u.clk - 0) := by decide +kernel

/-- Compare unit 15 is armed and due. -/
def compareDue (periodic : Bool) : State :=
  { (live.setFlag (.CMP_CTL_ARMED 15) true).setFlag (.CMP_CTL_MODE 15) periodic with
    tbu := { live.tbu with cmps := [(15, ⟨1000000, 0⟩)] } }

theorem wit_CompareUnitsArmAndFire :
    live.barOk 0 = true ∧ (live.setFlag (.CMP_CTL_EN 15) true).hostActivity.flag (.CMP_CTL_EN 15) = true ∧
    bitOf (1 : Word).toNat 0 = true ∧ live.hostActivity.flag (.CMP_CTL_EN 15) = false ∧
    bitOf (2 : Word).toNat 0 = false ∧
    (∀ p : Bool, ((compareDue p).advance 0).compareDue 15 = true ∧
      ((compareDue p).advance 0).flag (.CMP_CTL_MODE 15) = p) := by decide +kernel

/-- Capture pair 7 is enabled for TRIG_IN 0. -/
def capturing (latched : Bool) (shadow : Store (Option Time)) : State :=
  { (live.setFlag (.CAP_CTL_EN 7) true).setFlag (.CAP_STAT_LATCHED 7) latched with
    tbu := { live.tbu with shadow := shadow, lastEdge := [(0, 999999999997)] } }

/-- TSYNC_OUT is the source of pair 7, which sees it rise now; an edge came there before, so long ago, or never. -/
def capturingOut (before : Nat) : State :=
  let s := (capturing false []).setFld (.CAP_CTL_SRC 7) 17
  ({ s with tbu := { s.tbu with lastEdge := if before = 0 then [] else [(34, s.now + 1 - before)] } }).setPin 17 true

theorem wit_CapturePairsStampAndLatch :
    (∀ c ∈ [(false, ([] : Store (Option Time))), (true, []), (true, [(14, some 5)])],
      let w := (capturing c.1 c.2).advance 0
      let u := w.toldEdge 0 true
      w.fld (.CAP_CTL_SRC 7) = 0 ∧ u.hasEdge 0 true = true ∧ u.alive = true ∧ u.flag (.CAP_CTL_EN 7) = true ∧
      u.flag .TB_STAT_HELD = false ∧ u.tbRuns = true ∧ w.drivesPin 0 = false ∧ w.lastEdge 0 + 4 ≤ w.now + 1 ∧
      u.closeEdge 0 = false ∧ u.flag (.CAP_STAT_LATCHED 7) = c.1 ∧ (u.shadow 7 true = none ↔ c.2 = [])) ∧
    (∀ c ∈ [(0, false), (4, false), (3, true)],
      let w := (capturingOut c.1).advance 0
      let u := w.toldEdge 17 true
      w.fld (.CAP_CTL_SRC 7) = 17 ∧ w.drivesPin 17 = true ∧ u.hasEdge 17 true = true ∧ u.alive = true ∧
      u.flag (.CAP_CTL_EN 7) = true ∧ u.flag .TB_STAT_HELD = false ∧ u.tbRuns = true ∧ u.closeEdge 17 = c.2 ∧
      u.flag (.CAP_STAT_LATCHED 7) = false) ∧
    live.barOk 0 = true ∧
    (capturing true []).hostActivity.flag (.CAP_STAT_LATCHED 7) = true := by decide +kernel

theorem wit_GatedCountersAndPtm :
    live.barOk 0 = true ∧ live.hostActivity.ptmOn = true ∧
    (let u := (live.setFld .TB_PTM_CTL_AUTO 255).advance 0
     u.fld .TB_PTM_CTL_AUTO ≠ 0 ∧ u.ptmOn = true ∧
      1000000 * u.fld .TB_PTM_CTL_AUTO ≤ u.now - u.tbu.ptmSince) ∧
    (let u := ({ live with tbu := { live.tbu with ptmPending := true } }).advance 0
     u.tbu.ptmPending = true ∧ u.ptmOn = true) := by decide +kernel

/-! ## Witnesses: Weevil -/

/-- What starts, with a property of role, argument and state. -/
theorem starts_of {o : Option (Nat × Nat × State)} (p : Nat → Nat → State → Bool)
    (h : o.any (fun x => p x.1 x.2.1 x.2.2) = true) : ∃ r arg v, o = some (r, arg, v) ∧ p r arg v = true := by
  cases o with
  | none => exact absurd h (by simp)
  | some x => exact ⟨x.1, x.2.1, x.2.2, rfl, by simpa using h⟩

/-- Engine 17 runs role 3, whose program holds the operation at state 0 (and is safe there only where `safe` says). -/
def engine (op arg : Nat) (safe : Nat) (x : Engine) : State :=
  let s := live.writeTable (wvKey 3) 0 64 (leBytes 8 (5 + 2 ^ 22 * op + 2 ^ 26 * arg))
  { s.writeTable (wvKey 3) 0 0 (leBytes 8 safe) with
    engines := [(17, { x with role := some 3 })], wvRoles := [(3, { WvRole.init 17 with loaded := true })] }

/-- Does the operation start, with its argument and a property of the engine then? -/
def starts (op arg : Nat) (x : Engine) (p : State → Engine → Bool) : Bool :=
  (((engine op arg 0 x).advance 0).startOp 17 op).any fun y => y.1 == 3 && y.2.1 == arg && p y.2.2 (y.2.2.engine 17)

/-- An engine at a time. -/
def at_ (t : Time) : Engine := { Engine.init with time := t }

theorem wit_WeevilTimeOperations :
    (∀ arg ∈ [0, 65535], starts 0 arg Engine.init (fun _ _ => true) = true) ∧
    (∀ arg ∈ [0, 1, 2, 3, 2 ^ 22 - 1], starts 5 arg Engine.init (fun _ _ => true) = true) ∧
    starts 6 0 (at_ 1000000) (fun v x => reached v.tb x.time) = true ∧
    starts 6 0 (at_ 1000001) (fun v x => !reached v.tb x.time) = true ∧
    (let u := (engine 6 0 0 { at_ 1000000 with busy := .wait }).advance 0
     u.wvRun = true ∧ (u.driving 17).isSome = true ∧ (u.engine 17).busy = .wait ∧
      reached u.tb (u.engine 17).time = true) := by decide +kernel

/-- Such a property comes from a start. -/
theorem wit_startOp : ∃ r arg v, ((engine 0 65535 0 Engine.init).advance 0).startOp 17 0 = some (r, arg, v) ∧
    (r == 3 && arg == 65535) = true :=
  starts_of (fun r arg _ => r == 3 && arg == 65535) (by decide +kernel)

/-- A shift of 8 bits that is over. -/
def shiftOver : WvShift := { out := false, bits := 8, width := 1, half := 1, start := 0, moved := 8, pauses := [] }

theorem wit_WeevilFifoOperations :
    starts 1 0 { Engine.init with tx := [7] } (fun _ x => x.shift == none && x.tx == [7]) = true ∧
    starts 1 0 Engine.init (fun _ x => x.tx == []) = true ∧
    starts 1 0 { Engine.init with tx := [7], shift := some { shiftOver with start := 1000000, moved := 0 } }
      (fun _ x => x.shift != none) = true ∧
    starts 2 0 { Engine.init with rx := List.replicate 63 1 } (fun _ x => decide (x.rx.length < 64) && x.shift == none) = true ∧
    starts 2 0 { Engine.init with rx := List.replicate 64 1 } (fun _ x => decide (64 ≤ x.rx.length)) = true ∧
    (let u := (engine 0 0 0 { Engine.init with busy := .pull, tx := [7] }).advance 0
     let x := u.engineNow 17
     u.driving 17 = some 3 ∧ u.wvRun = true ∧ x.busy = .pull ∧ x.shift = none ∧ x.tx = [7]) ∧
    (let u := (engine 0 0 0 { Engine.init with busy := .push }).advance 0
     let x := u.engineNow 17
     u.driving 17 = some 3 ∧ u.wvRun = true ∧ x.busy = .push ∧ x.rx.length < 64) ∧
    (∀ d ∈ [0, 1000000000000 - 9999], let u := (engine 0 0 0 { Engine.init with rx := [1], drained := d }).advance 0
     let x := u.engine 17
     x.role = some 3 ∧ u.alive = true ∧ x.rx ≠ [] ∧ (x.drained = 0 ∨ x.drained + 9999 ≤ u.now)) := by decide +kernel

theorem wit_WeevilShifts :
    (∀ arg ∈ [0, 3 * 32 + 31], starts 3 arg Engine.init (fun _ x => x.shift == none) = true) ∧
    getBits (3 * 32 + 31) 6 5 = 3 ∧ getBits 0 6 5 ≠ 3 ∧
    starts 3 0 { Engine.init with shift := some { shiftOver with start := 1000000, moved := 0 } } (fun _ x => x.shift != none) = true ∧
    starts 4 31 Engine.init (fun _ x => x.shift == none) = true ∧
    starts 4 31 { Engine.init with shift := some { shiftOver with start := 1000000, moved := 0 } } (fun _ x => x.shift != none) = true ∧
    (let u := ((engine 0 0 0 { Engine.init with shift := some shiftOver }).advance 0).refreshEngine 17
     (u.engine 17).shift = some shiftOver ∧ u.driving 17 = some 3 ∧ u.wvRun = true ∧ shiftOver.over u.clk = true ∧
      (u.engine 17).busy = .ready) ∧
    (let u := ((engine 0 0 0 { Engine.init with shift := some shiftOver, busy := .pull, tx := [7] }).advance 0).refreshEngine 17
     (u.engine 17).shift = some shiftOver ∧ u.driving 17 = some 3 ∧ u.wvRun = true ∧ shiftOver.over u.clk = true ∧
      (u.engine 17).busy = .pull ∧ (u.engine 17).tx = [7]) := by decide +kernel

theorem wit_WeevilLatches :
    starts 7 0 (at_ 1000000) (fun v x => reached v.tb x.time && !v.tooShort 3) = true ∧
    starts 7 (2 ^ 16 + 0xff01) { at_ 1000009 with lastLatch := some 1000000 }
      (fun v x => !reached v.tb x.time && latchClose x) = true ∧
    starts 7 (2 ^ 17 + 0xff01) (at_ 1000001) (fun v x => !reached v.tb x.time && !latchClose x) = true ∧
    starts 7 0 (at_ 900000) (fun v x => decide (Machine.after v.tb x.time > v.fld .WV_CFG_MISS_TOL) && !v.inStep 3 x.time) = true ∧
    (let u := (engine 0 0 0 { at_ 1000000 with busy := .latch 1 1 true }).advance 0
     let x := u.engine 17
     u.driving 17 = some 3 ∧ x.busy = .latch 1 1 true ∧ u.wvRun = true ∧ reached u.tb x.time = true ∧
      u.tooShort 3 = false ∧ u.thermal.trip = none) := by decide +kernel

/-- Engine 17 has armed an edge at pin 63, which the device drives low or not, and whose pad has just changed or not. -/
def armedPin (rising driven edge : Bool) : State :=
  let s := engine 0 0 0 { Engine.init with armed := some (2, rising) }
  { s with
    regs := ((live.setFld (.WV_PIN_ROLE 63) 3).setFld (.WV_PIN_LANE 63) 2).regs
    wvPins := [(63, { WvPin.init with driven := driven })]
    tbu := { s.tbu with lastEdge := if edge then [(254, s.now + 1)] else [] } }

theorem wit_WeevilCapturesEventsAndHalt :
    (∀ arg ∈ [7, 16, 32, 48], starts 8 arg Engine.init (fun _ _ => true) = true) ∧
    starts 9 0 Engine.init (fun _ _ => true) = true ∧ starts 10 0 Engine.init (fun _ _ => true) = true ∧
    (∀ c ∈ [(true, false, false), (false, true, true), (true, true, true), (false, true, false)],
     let u := (armedPin c.1 c.2.1 c.2.2).advance 0
     u.driving 17 = some 3 ∧ (u.engine 17).armed = some (2, c.1) ∧
      ((u.pinsOf 3).find? fun n => u.fld (.WV_PIN_LANE n) == 2) = some 63 ∧ u.wvRun = true ∧ u.drivesPin 127 = c.2.1 ∧
      u.wvPin 63 = false ∧ u.padEdge 127 = c.2.2) := by decide +kernel

/-- The role has a swap pending, or awaits its hand-over, since time 0. -/
def pendingRole (swap move : Option Nat) (safe : Nat) : State :=
  { engine 0 0 safe Engine.init with wvRoles := [(3, { WvRole.init 17 with loaded := true, swap := swap, move := move })] }

theorem wit_WeevilSwapsAndHandovers :
    (let u := ((pendingRole (some 0) none 1).advance 0).refreshEngine 17
     u.driving 17 = some 3 ∧ u.wvRun = true ∧ (u.wvRole 3).swap.isSome = true ∧ (u.wvRole 3).move = none ∧
      u.atSafeState 3 (u.engine 17) = true ∧ u.roleLost 8 3 = false) ∧
    (let s := pendingRole (some 0) none 1
     let u := (({ s with spares := { s.spares with lost := [(unitKey 8 3, true)] } }).advance 0).refreshEngine 17
     u.driving 17 = some 3 ∧ u.wvRun = true ∧ (u.wvRole 3).swap.isSome = true ∧ (u.wvRole 3).move = none ∧
      u.atSafeState 3 (u.engine 17) = true ∧ u.roleLost 8 3 = true) ∧
    (let u := (pendingRole (some 0) none 0).advance 0
     (u.engine 17).role = some 3 ∧ (u.wvRole 3).engine = 17 ∧ u.wvRun = true ∧ (u.wvRole 3).move = none ∧
      (u.wvRole 3).swap = some 0 ∧ 0 + 1000 * u.fld .WV_CFG_SWAP_TMO ≤ u.now) ∧
    (let u := (pendingRole none (some 0) 1).advance 0
     let w := u.wvRole 3
     u.wvRun = true ∧ w.move.isSome = true ∧ u.atSafeState 3 (u.engineNow w.engine) = true) ∧
    (let s := pendingRole none (some 0) 0
     let u := ({ s with wvRoles := [(3, { s.wvRole 3 with halted := true })] }).advance 0
     u.wvRun = true ∧ (u.wvRole 3).move.isSome = true ∧ (u.wvRole 3).halted = true) := by decide +kernel

/-! ## Witnesses: rings and their commands -/

/-- A ring in use. -/
def ringOf (host dev : Nat) : Ring := { Ring.init with enabled := true, phase := true, host := host, dev := dev }

/-- Ring 0 is a command SQ (with the bytes fetched), ring 1 its CQ, ring 2 a stream SQ; each has 16 entries. -/
def rings (fetched : List (List Byte)) : State :=
  let s := (((live.setFld (.RING_CFG_KIND 1) 2).setFld (.RING_CFG_CQ 0) 1).setFld (.RING_CFG_KIND 2) 1).setFld (.RING_CFG_CQ 2) 1
  { s with rings := [(0, { ringOf 2 1 with fetched := fetched }), (1, ringOf 0 15), (2, ringOf 1 0)] }

/-- A completion of ring 0. -/
def cpl : Cpl :=
  { tag := 7, status := .ok, ring := 0, opcode := 1, sqHead := none, tick := 0, cfgTag := 0, result := 0, time := 0 }

theorem wit_CompletionsAreWrittenToTheirQueue :
    let s := { rings [] with rings := [(0, ringOf 2 1), (1, ringOf 1 15)] }
    (s.ring cpl.ring).enabled = true ∧ (s.ring (s.ringCq cpl.ring)).held = [] ∧
      s.canDma (ringFn (s.ringCq cpl.ring)) = true ∧
      s.ringLoad (s.ringCq cpl.ring) + 1 < s.ringSize (s.ringCq cpl.ring) := by decide +kernel

/-- A descriptor: its first bytes, and zeros. -/
def desc (l : List Byte) : List Byte := padTo 64 l

/-- STAGE_REG of EXP_TICK_PERIOD into group 15. -/
def stageDesc : List Byte := desc ([2, 15, 0, 0, 1, 0, 0, 0] ++ leBytes 4 Reg.EXP_TICK_PERIOD ++ leBytes 4 1000000)

theorem wit_StagingCommandsFillTheirGroup :
    (let s := rings [desc [1]]
     s.headFor 0 1 = some (desc [1]) ∧ unusedZero (desc [1]) [(0, 4)] = true ∧ bytesAt (desc [1]) 1 1 = 0) ∧
    (let s := rings [stageDesc]
     let d := stageDesc
     let l := allItems ((List.range 1).map fun i => regItems (bytesAt d (8 + 8 * i) 4) (bytesAt d (12 + 8 * i) 4))
     s.headFor 0 2 = some d ∧ unusedZero d [(0, 4), (4, 60)] = true ∧ bytesAt d 1 1 = 15 ∧ bytesAt d 4 4 = 1 ∧
      allZero (d.drop (8 + 8 * 1)) = true ∧ l.isSome = true ∧
      (l.any fun l => groupFits (l.foldl addItem (s.group 15))) = true ∧ s.ownerLocked = false) ∧
    (let d := desc [3, 0, 0, 0, 7]
     let s := rings [d]
     let l := modeItems 7 (bitOf 7 8) (bytesAt d 8 4)
     s.headFor 0 3 = some d ∧ unusedZero d [(0, 4), (4, 8)] = true ∧ bytesAt d 4 4 = 7 ∧
      (l.any fun l => groupFits (l.foldl addItem (s.group 0))) = true) ∧
    (let d := desc [5, 0, 0, 0, 0x22]
     let s := rings [d]
     let l := swapItems 0x22 0 false
     s.headFor 0 5 = some d ∧ unusedZero d [(0, 4), (4, 4)] = true ∧ bytesAt d 4 4 = 0x22 ∧
      (l.any fun l => groupFits (l.foldl addItem (s.group 0))) = true) ∧
    (let d := desc [7, 15]
     let s := rings [d]
     s.headFor 0 7 = some d ∧ unusedZero d [(0, 4)] = true ∧ bytesAt d 1 1 = 15) ∧
    ({ rings [stageDesc] with nvm := locked.nvm }).ownerLocked = true := by decide +kernel

/-- TABLE_LOAD of 8 bytes at the start of FF_FINE. -/
def loadDesc : List Byte := desc ([4, 0, 0, 0, 0x22, 0, 0, 0] ++ leBytes 8 64 ++ leBytes 4 0 ++ leBytes 4 8)

/-- Such a load, started. -/
def load : Load := ⟨0, 0x22, 0, 0, List.replicate 8 1, none⟩

theorem wit_TableLoadsWriteTheShadowBank :
    (let s := rings [loadDesc]
     let d := loadDesc
     let p := bytesAt d 4 4
     s.headFor 0 4 = some d ∧ unusedZero d [(0, 4), (4, 24)] = true ∧ bytesAt d 1 1 = 0 ∧ s.ownerLocked = false ∧ s.canDma 0 = true ∧
      loadOk (p % 256) (p / 256) (bytesAt d 16 4) (bytesAt d 20 4) (bytesAt d 24 4) = true ∧ bytesAt d 8 8 % 4 = 0) ∧
    (let u := ({ rings [loadDesc] with loads := [load] }).advance 0
     let l := load
     u.loads.find? (fun l => l.ring == 0) = some l ∧
      (u.loads.find? fun m => m.table == l.table && m.index == l.index) = some l ∧ u.bankFree l.ring l.table l.index = true ∧
      u.cal.flat = none ∧ u.activeBank (tableKey l.table l.index) ≤ 1 ∧ l.offset + l.data.length ≤ 2 ^ 24) := by decide +kernel

/-- COMMIT of group 1 at the tick 2^32. -/
def commitDesc : List Byte := desc ([6, 1, 0, 0, 1, 0, 0, 0] ++ leBytes 8 (2 ^ 32))

/-- A bundle with one item, a register, and no signature; its serial number is that of any part, or another. -/
def bundleBytes : List Byte :=
  leBytes 4 0x4E55424B ++ leBytes 4 80 ++ leBytes 4 16 ++ leBytes 4 1 ++ List.replicate 48 0 ++
    leBytes 4 1 ++ leBytes 4 16 ++ leBytes 4 Reg.EXP_TICK_PERIOD ++ leBytes 4 1000000

/-- A bundle with a register and 8 bytes for FF_FINE. -/
def tableBundle : List Byte :=
  leBytes 4 0x4E55424B ++ leBytes 4 112 ++ leBytes 4 48 ++ leBytes 4 2 ++ List.replicate 48 0 ++
    leBytes 4 1 ++ leBytes 4 16 ++ leBytes 4 Reg.EXP_TICK_PERIOD ++ leBytes 4 1000000 ++
    leBytes 4 3 ++ leBytes 4 32 ++ leBytes 4 0x22 ++ leBytes 4 0 ++ leBytes 4 8 ++ leBytes 4 0 ++ List.replicate 8 7

/-- The BUNDLE command of a bundle of so many bytes. -/
def bundleDesc (len : Nat) : List Byte := desc ([8, 1, 0, 0, 0, 0, 0, 0] ++ leBytes 8 64 ++ leBytes 4 len)

theorem wit_CommitsAndBundles :
    (let s := rings [commitDesc]
     let d := commitDesc
     s.headFor 0 6 = some d ∧ unusedZero d [(0, 4), (4, 12)] = true ∧ bytesAt d 1 1 = 1 ∧
      commitTarget d = some (.tick (2 ^ 32)) ∧ (swapsOf (s.group 1)).any (fun x => s.loadOpen x || s.loadFetched 0 x) = false ∧ s.accepted.length < 16 ∧
      2 ^ 32 ≤ s.lastTick + 2 ^ 32 ∧
      s.acceptable (s.group 1) (s.provisional (.tick (2 ^ 32)) (leadOf (s.group 1))) = true) ∧
    (let s := rings [bundleDesc 80]
     let d := bundleDesc 80
     let b := bundleBytes.take (bytesAt d 16 4)
     s.headFor 0 8 = some d ∧ unusedZero d [(0, 4), (8, 12)] = true ∧ bytesAt d 1 1 = 1 ∧ bytesAt d 8 8 % 64 = 0 ∧
      s.canDma 0 = true ∧ bytesAt d 16 4 ≤ bundleBytes.length ∧ bundleForm b (bytesAt d 16 4) = some false ∧
      s.bundleRefused b false = false ∧
      (bundleItems 0 (bytesAt b 12 4) ((b.drop 64).take (bytesAt b 8 4))).any (fun x =>
        x.loads.isEmpty && groupFits (x.items.foldl addItem (s.group 1))) = true ∧
      ({ s with nvm := locked.nvm }).bundleRefused b false = true) ∧
    (∀ open_ : Bool, let d := bundleDesc 112
     let s := { rings [d] with loads := if open_ then [{ load with ring := 3 }] else [] }
     let b := tableBundle.take (bytesAt d 16 4)
     s.headFor 0 8 = some d ∧ unusedZero d [(0, 4), (8, 12)] = true ∧ s.canDma 0 = true ∧
      bytesAt d 16 4 ≤ tableBundle.length ∧ bundleForm b (bytesAt d 16 4) = some false ∧ s.bundleRefused b false = false ∧
      (bundleItems 0 (bytesAt b 12 4) ((b.drop 64).take (bytesAt b 8 4))).any (fun x =>
        groupFits (x.items.foldl addItem (s.group 1)) && x.loads.map (·.data) == [List.replicate 8 7] &&
        (x.loads.all fun l => s.bankFree 0 l.table l.index && !s.loading (l.table, l.index)) == !open_) = true) ∧
    (7 < load.data.length ∧ live.activeBank (tableKey load.table load.index) ≤ 1 ∧
      load.offset + load.data.length ≤ 2 ^ 24) := by decide +kernel

/-- Ring 0 is not enabled and its CQ is. -/
def ringOff (kind : Nat) : State :=
  let s := rings []
  { (s.setFld (.RING_CFG_KIND 0) kind) with rings := [(1, ringOf 0 15)] }

/-- The order of the mailbox SQ is one beyond the largest. -/
def badOrder : State := live.setFld .MGMT_CFG_SQ_ORDER 9

/-- The mailbox is on, with the descriptors fetched. -/
def mbox (fetched : List (List Byte)) : State :=
  { live with rings := [(mboxSq, { ringOf 2 1 with fetched := fetched }), (mboxCq, ringOf 0 0)] }

theorem wit_RingsEnableAndDisable :
    ((ringOff 0).barOk 0 = true ∧ ((ringOff 0).hostActivity.ring 0).enabled = false ∧
      ((ringOff 0).hostActivity.writeRingCfg 0 (putBit (6 : Word).toNat 0 true)).enableErr 0 ≠ 0) ∧
    (let u := (ringOff 0).hostActivity
     (u.writeRingCfg 0 (putBit (u.reg (Reg.RING_CFG 0)).toNat 0 true)).enableErr 0 = 0) ∧
    (let u := (rings []).hostActivity
     (u.ring 0).enabled = true ∧ u.ringKind 0 = 0 ∧ (u.ring 0).fetched = [] ∧ (u.ring 0).bufs = [] ∧ u.accepted = [] ∧
      (u.ring (u.ringCq 0)).held = [] ∧ u.ringCq 0 ≠ 0) ∧
    (live.barOk 1 = true ∧ (live.ring 32).enabled = false ∧
      (live.writeRingCfg 32 (putBit (0 : Word).toNat 0 true)).enableErr 32 = 0) ∧
    (let s := mbox []
     s.barOk 1 = true ∧ (s.ring 32).enabled = true ∧ (s.ring 32).fetched = [] ∧ (s.ring 32).bufs = [] ∧ s.accepted = [] ∧
      (s.ring mboxCq).held = []) ∧
    (badOrder.barOk 1 = true ∧ (badOrder.ring 32).enabled = false ∧
      (badOrder.writeRingCfg 32 (putBit (0x0090 : Word).toNat 0 true)).enableErr 32 ≠ 0) ∧
    (∀ bufs ∈ [[], [Buf.mk 64 64 9 0 0 0 0 0]], let s := rings []
     let u := ({ s with rings := [(1, ringOf 0 15), (2, { ringOf 1 0 with bufs := bufs })] }).hostActivity
     (u.ring 2).enabled = true ∧ u.ringKind 2 = 1 ∧ (u.ring 2).fetched = [] ∧ (u.ring 2).bufs = bufs ∧ u.accepted = [] ∧
      (u.ring (u.ringCq 2)).held = [] ∧ u.ringCq 2 ≠ 2) ∧
    (∀ used : Bool, let s := rings []
     let u := ({ s with rings := if used then s.rings else [(1, ringOf 0 15)] }).hostActivity
     (u.ring 1).enabled = true ∧ u.ringKind 1 = 2 ∧
      ((List.range 32).any fun m => (u.ring m).enabled && u.ringKind m != 2 && u.ringCq m == 1) = used) := by decide +kernel

theorem wit_DoorbellsMoveHostPointers :
    (let u := (rings []).hostActivity
     (rings []).barOk 0 = true ∧ u.ringOn 0 = true ∧ u.ringKind 0 ≠ 2 ∧ (15 : Word).toNat < u.ringSize 0 ∧
      u.ringSize 0 ≤ (16 : Word).toNat ∧ u.ringOn 1 = true ∧ u.ringKind 1 = 2 ∧
      ((15 : Word).toNat + u.ringSize 1 - (u.ring 1).host) % u.ringSize 1 ≤ u.ringLoad 1 ∧ u.ringOn 31 = false ∧
      2 ^ 16 ≤ (65536 : Word).toNat) ∧
    (let u := ({ rings [] with rings := [(1, ringOf 0 1)] }).hostActivity
     u.ringOn 1 = true ∧ u.ringKind 1 = 2 ∧ (2 : Word).toNat < u.ringSize 1 ∧
      u.ringLoad 1 < ((2 : Word).toNat + u.ringSize 1 - (u.ring 1).host) % u.ringSize 1) ∧
    (live.barOk 1 = true ∧ live.hostActivity.ringOn mboxSq = false ∧ live.hostActivity.ringOn mboxCq = false) ∧
    (let s := { mbox [] with rings := [(mboxSq, ringOf 2 1), (mboxCq, ringOf 0 15)] }
     let u := s.hostActivity
     let n := u.ringSize mboxCq
     s.barOk 1 = true ∧ u.ringOn mboxSq = true ∧ (0 : Word).toNat < u.ringSize mboxSq ∧
      u.ringSize mboxSq ≤ (BitVec.ofNat 32 (u.ringSize mboxSq) : Word).toNat ∧ u.ringOn mboxCq = true ∧
      ((1 : Word).toNat + n - (u.ring mboxCq).host) % n ≤ u.ringLoad mboxCq ∧ (1 : Word).toNat < n ∧
      2 ^ 16 ≤ (65536 : Word).toNat) ∧
    (let u := (mbox []).hostActivity
     u.ringOn mboxCq = true ∧ (1 : Word).toNat < u.ringSize mboxCq ∧
      u.ringLoad mboxCq < ((1 : Word).toNat + u.ringSize mboxCq - (u.ring mboxCq).host) % u.ringSize mboxCq) := by decide +kernel

/-- The entry of a buffer at 64, of 64 bytes. -/
def bufEntry : List Byte := leBytes 8 64 ++ leBytes 4 64 ++ leBytes 2 9 ++ List.replicate 50 0

theorem wit_FetchesTakePostedEntries :
    (let u := (rings []).advance 0
     u.cal.flat = none ∧ u.mayFetch 0 0 = true ∧ u.fetchTurn 0 = true ∧ opcodeDefined 0 (descOp (padTo 64 [1])) = true ∧ (u.ring 0).fetched = [] ∧
      u.mayFetch 2 1 = true ∧ (parseBuf (padTo 64 bufEntry)).isSome = true) ∧
    (let u := ({ rings [] with rings := [(0, { ringOf 3 1 with executing := true, fetched := [desc [1]] })] }).advance 0
     u.mayFetch 0 0 = true ∧ u.fetchTurn 0 = true ∧ (u.ring 0).executing = true) ∧
    (let u := (mbox []).advance 0
     u.mayFetch 32 0 = true ∧ u.fetchTurn 32 = true) := by decide +kernel

theorem wit_StreamEntriesReadBackAsWritten :
    (2 ^ 64 - 64 < 2 ^ 64 ∧ (2 ^ 64 - 64) % 64 = 0 ∧ 2 ^ 32 - 64 < 2 ^ 32 ∧ (2 ^ 32 - 64) % 64 = 0 ∧ 64 ≤ 2 ^ 32 - 64 ∧
      2 ^ 16 - 1 < 2 ^ 16) ∧ bufEntry.length = 64 ∧ (parseBuf bufEntry).isSome = true := by decide +kernel

/-- A buffer that holds an item since time 0. -/
def openBuf : Buf := { addr := 64, len := 64, tag := 9, used := 32, items := 1, firstAt := 0, lastTick := 0, lastTag := 0 }

/-- A CQ with an entry that waits to be announced since time 0, and whether its timer has acted in D3hot. -/
def unannounced (d3 spent : Bool) : State :=
  let s := (rings []).setFlag (.RING_CFG_IRQ_EN 1) true
  { s with
    rings := [(0, ringOf 0 0), (1, { ringOf 0 1 with unannounced := 1, timer := some 0, timerSpent := spent })]
    pcie := { s.pcie with f0 := { fnOn with d3hot := d3 } } }

theorem wit_RingTimeoutsAndTheArchive :
    (let u := ({ rings [] with rings := [(2, { ringOf 1 0 with bufs := [openBuf] })] }).advance 0
     u.gated 1 = false ∧ (u.ring 2).bufs = [openBuf] ∧ openBuf.items ≠ 0 ∧
      1000 * max 1 (u.fld (.RING_FLUSH_FLUSH 2)) ≤ u.now - openBuf.firstAt) ∧
    (let u := (unannounced false false).advance 0
     u.modTimerDue 1 = true ∧ (u.fn (ringFn 1)).d3hot = false ∧ u.canSignal (ringFn 1) = true ∧ (u.modCfg 1).1 = true) ∧
    (∀ spent : Bool, let u := (unannounced true spent).advance 0
     u.modTimerDue 1 = true ∧ (u.fn (ringFn 1)).d3hot = true ∧ (u.ring 1).timerSpent = spent) ∧
    (let u := (live.setFld .RING_ARCH_SIZE_SIZE 131072).hostActivity
     (live.setFld .RING_ARCH_SIZE_SIZE 131072).barOk 0 = true ∧ u.flag .RING_ARCH_CFG_EN = false ∧
      u.fld .RING_ARCH_SIZE_SIZE ≠ 0 ∧ u.fld .RING_ARCH_SIZE_SIZE ≤ 131072) ∧
    (let u := ({ (live.setFlag .RING_ARCH_CFG_EN true) with
        archive := { live.archive with blocks := [(23, ⟨[1], 1, 0⟩)] } }).advance 0
     u.gated 1 = false ∧ u.flag .RING_ARCH_CFG_EN = true ∧ (u.archive.blocks.get (fun _ => ⟨[], 0, 0⟩) (5 * 4 + 3)).items ≠ 0 ∧
      1000000 * max 1 (u.fld .RING_ARCH_CFG_FLUSH) ≤
        u.now - (u.archive.blocks.get (fun _ => ⟨[], 0, 0⟩) (5 * 4 + 3)).firstAt) := by decide +kernel

/-! ## Witnesses: the link, functions, the mailbox -/

theorem wit_LinkTrainsAndFunctionsReset :
    (let u := ({ live with pcie := { live.pcie with perst := true, link := .down } }).advance 0
     u.pcie.perst = true ∧ u.inReset = false ∧ u.off = false ∧ u.power.moulting = false) ∧
    (∀ c : Bool, ∀ l ∈ [LinkState.training, .retraining, .l2],
     let u := ({ live with pcie := { live.pcie with link := l, failClr := c } }).advance 0
     u.pcie.link = l ∧ u.pcie.failClr = c ∧ u.pcie.laneEvent = false ∧
      linkWidth (u.goodLanes [false, false, true, true]) = some (2, true)) ∧
    (live.barOk 0 = true ∧ live.hostActivity.pcie.link = .up ∧ bitOf (512 : Word).toNat 8 = false) ∧
    (let u := live.advance 0
     u.pcie.link ≠ .down ∧ u.inReset = false ∧ u.off = false ∧
      (u.fltN 7 = 0 ∨ (u.bucket 7 0).length + 1 < u.fltN 7)) ∧
    (live.cfgOk = true ∧ (live.fn 0).busMaster = true ∧ (live.fn 1).busMaster = true ∧ (live.fn 1).d3hot = false ∧
      (({ live with pcie := { live.pcie with f1 := { fnOn with d3hot := true } } }).fn 1).d3hot = true) ∧
    (let u := live.advance 0
     u.inReset = false ∧ u.off = false ∧ u.power.moulting = false ∧ u.pcie.perst = false ∧ (u.fn 0).d3hot = false) ∧
    (let u := ({ live with
        pcie := { live.pcie with f0 := { fnOn with d3hot := true }, f1 := { fnOn with d3hot := true } } }).advance 0
     u.inReset = false ∧ u.off = false ∧ u.power.moulting = false ∧ u.pcie.perst = false ∧ u.pcie.link = .up ∧
      (u.fn 0).d3hot = true ∧ (u.fn 1).d3hot = true) ∧
    ((7 : Fin 64).val < fnVectors 1 ∧ live.barOk 1 = true ∧
      (({ live with pcie := { live.pcie with f1 := { fnOn with pba := [(7, true)] } } }).fn 1).pba.get (fun _ => false) 7 = true ∧
      live.canSignal 1 = true ∧ live.pcie.link = .up ∧ (live.fn 1).pba.get (fun _ => false) 7 = false) := by decide +kernel

/-- A mailbox descriptor: OPCODE, TAG, ADDR (where there is a LEN), LEN, ARG0, ARG1, ARG2. -/
def mdesc (op len a0 a1 a2 : Nat) : List Byte :=
  desc (leBytes 1 op ++ [0, 9, 0, 0, 0, 0, 0] ++ leBytes 8 (if len = 0 then 0 else 64) ++ leBytes 4 len ++ leBytes 4 a0 ++ leBytes 4 a1 ++ leBytes 4 a2)

/-- A state in which the command stands at the head of the mailbox SQ. -/
def asked (op len a0 a1 a2 : Nat) : State := mbox [mdesc op len a0 a1 a2]

theorem wit_MailboxReadsWriteTheirBuffer :
    MailboxTakes (asked 0x80 786432 258048 4096 0) 0x80 [(8, 12), (20, 8)] (mdesc 0x80 786432 258048 4096 0) ∧
    258048 + 4096 ≤ 262144 ∧ 192 * 4096 ≤ bytesAt (mdesc 0x80 786432 258048 4096 0) 16 4 ∧
    MailboxTakes (asked 0x81 128 0 0 0) 0x81 [(8, 12)] (mdesc 0x81 128 0 0 0) ∧
    MailboxTakes (asked 0x82 8192 1 0 0) 0x82 [(8, 16)] (mdesc 0x82 8192 1 0 0) ∧
    MailboxTakes (asked 0x84 4 0 1 0) 0x84 [(8, 12), (20, 8)] (mdesc 0x84 4 0 1 0) ∧
    4 * min 1 (Config.factDefectCount.toNat - 0) ≤ bytesAt (mdesc 0x84 4 0 1 0) 16 4 ∧
    MailboxTakes (asked 0x8A 32 0 0 0) 0x8A [(8, 12)] (mdesc 0x8A 32 0 0 0) ∧
    ({ asked 0x8A 32 0 0 0 with digest := ⟨List.replicate 32 1, none⟩ } : State).digestNow.1.length ≤ 32 ∧
    MailboxTakes (asked 0xA0 64 786368 0 0) 0xA0 [(8, 16)] (mdesc 0xA0 64 786368 0 0) ∧ 786368 + 64 ≤ 786432 ∧
    MailboxTakes (asked 0x9A 32 0 1 0) 0x9A [(8, 12), (20, 8)] (mdesc 0x9A 32 0 1 0) ∧
    32 * (((asked 0x9A 32 0 1 0).nvm.faults.filter fun r => 0 ≤ bytesAt r 0 4).take 1).length ≤ 32 ∧
    MailboxTakes (asked 0x83 3693 0 0 0) 0x83 [(8, 12), (32, 32)] (mdesc 0x83 3693 0 0 0) := by
  have h : 4 * min 1 (Config.factDefectCount.toNat - 0) ≤ bytesAt (mdesc 0x84 4 0 1 0) 16 4 := by
    have : bytesAt (mdesc 0x84 4 0 1 0) 16 4 = 4 := by decide +kernel
    omega
  unfold MailboxTakes
  refine ⟨by decide +kernel, by decide +kernel, by decide +kernel, by decide +kernel, by decide +kernel, by decide +kernel, h,
    by decide +kernel, by decide +kernel, by decide +kernel, by decide +kernel, by decide +kernel, by decide +kernel,
    by decide +kernel⟩

/-- A certificate that LEN can hold: its length is the part's. -/
theorem wit_CertRead (h : (certificate 1).length ≤ 8192) :
    1 ≤ 1 ∧ (certificate 1).length ≤ bytesAt (mdesc 0x82 8192 1 0 0) 16 4 := by
  have e : bytesAt (mdesc 0x82 8192 1 0 0) 16 4 = 8192 := by decide +kernel
  omega

/-- Bank 1 holds an image whose form is wrong. -/
def badImage : State :=
  { asked 0x86 0 0 0 0 with nvm := { live.nvm with bytes := (List.range 64).map fun i => (bankAt 1 + i, 0) } }

/-- A trial of bank 1 under way since time 0. -/
def trial (d : List Byte) : State :=
  { mbox [d] with coach := { live.coach with bankA := 1, trial := some 0 } }

theorem wit_FirmwareOwnerAndLifeCycleCommands :
    (∀ c ∈ [(0, 256), (0x17c000, 16384)], MailboxTakes (asked 0x85 c.2 c.1 0 0) 0x85 [(8, 16)] (mdesc 0x85 c.2 c.1 0 0) ∧
      c.1 % 256 = 0 ∧ c.2 % 256 = 0 ∧ 256 ≤ c.2 ∧ c.2 ≤ 16384 ∧ c.1 + c.2 ≤ 0x180000 ∧
      (asked 0x85 c.2 c.1 0 0).inactiveBank = some 1 ∧ (asked 0x85 c.2 c.1 0 0).coach.trial = none ∧
      (asked 0x85 c.2 c.1 0 0).nvmRefused = false) ∧
    (MailboxTakes badImage 0x86 [] (mdesc 0x86 0 0 0 0) ∧ badImage.takeOverDue = false ∧ badImage.standbyServes = true ∧
      badImage.inactiveBank = some 1 ∧
      badImage.coach.trial = none ∧ badImage.nvmRefused = false ∧ badImage.imageReason 1 ≠ 0) ∧
    (MailboxTakes (trial (mdesc 0x87 0 0 0 0)) 0x87 [] (mdesc 0x87 0 0 0 0) ∧ (trial (mdesc 0x87 0 0 0 0)).trialOn = true ∧
      (trial (mdesc 0x87 0 0 0 0)).nvmRefused = false ∧ (trial (mdesc 0x87 0 0 0 0)).standbyServes = true) ∧
    (MailboxTakes (asked 0x88 5421 0 0 0) 0x88 [(8, 12)] (mdesc 0x88 5421 0 0 0) ∧
      (asked 0x88 5421 0 0 0).nvmRefused = false ∧ (asked 0x88 5421 0 0 0).ownerAccepted (padTo 5421 [0]) = false) ∧
    (∀ t ∈ [4, 5, 2], MailboxTakes (asked 0x8B 0 t 0 0) 0x8B [(20, 4)] (mdesc 0x8B 0 t 0 0) ∧
      (asked 0x8B 0 t 0 0).coldRefused = false ∧ (asked 0x8B 0 t 0 0).transitionOk t = decide (t ≠ 2)) ∧
    MailboxTakes (asked 0x89 0 0 0 0) 0x89 [(32, 32)] (mdesc 0x89 0 0 0 0) ∧
    (let s := { asked 0x80 0 0 0 0 with nvm := { live.nvm with rights := 0 } }
     s.headFor mboxSq 0x80 = some (mdesc 0x80 0 0 0 0) ∧ mailboxGranted s.nvm.rights 0x80 = false) := by
  unfold MailboxTakes
  refine ⟨?_, ?_, ?_, ?_, ?_, ?_, ?_⟩ <;> decide +kernel

/-- A measured value. -/
def meas (item : Fin 8) (element : Nat) (value : Int) : Measurement := { item := item, element := element, value := value }

/-- Do measurements resolve to a result? -/
def resultIs (r : Resolved) (m : List Int) : Bool :=
  match r with
  | .result n => n == m
  | _ => false

/-- Two agreeing measurements of each RAMP entry. -/
def ramp : List Measurement := (List.range 24).flatMap fun i => [meas 1 i 100, meas 1 i 100]

theorem wit_CalibrationSpareAndTestCommands :
    (∀ a ∈ [0, 127, 2], (asked 0x90 0 a 0 0).cal.run = none ∧
      MailboxTakes (asked 0x90 0 a 0 0) 0x90 [(20, 4)] (mdesc 0x90 0 a 0 0)) ∧
    (let s := (asked 0x90 0 127 0 0).setFld .HIF_MODE_MODE 0
     s.cal.run = none ∧ MailboxTakes s 0x90 [(20, 4)] (mdesc 0x90 0 127 0 0) ∧
      ((List.range 7).filter fun i => bitOf 127 i).any (2 ≤ ·) = true ∧ s.mode ≠ 7) ∧
    ((asked 0x90 0 127 0 0).mode = 7 ∧ (asked 0x90 0 127 0 0).flag .PLL_ROLE_NO_STANDBY = false) ∧
    (∀ i, i < 24 → resultIs (resolve 1 i (measuresOf ramp 1 i)) [100] = true) ∧
    (MailboxTakes (asked 0x91 0 0 0 0) 0x91 [] (mdesc 0x91 0 0 0 0) ∧ (asked 0x91 0 0 0 0).nvmRefused = false) ∧
    (MailboxTakes (asked 0x92 0 15 256 0) 0x92 [(20, 8)] (mdesc 0x92 0 15 256 0) ∧
      (asked 0x92 0 15 256 0).ownerLocked = false ∧ ({ asked 0x92 0 15 256 0 with nvm := locked.nvm }).ownerLocked = true ∧
      MailboxTakes { asked 0x92 0 15 256 0 with nvm := locked.nvm } 0x92 [(20, 8)] (mdesc 0x92 0 15 256 0)) ∧
    (MailboxTakes (asked 0x98 0 8 15 15) 0x98 [(20, 12)] (mdesc 0x98 0 8 15 15) ∧ 15 < classRoles 8 ∧ 15 < classUnits 8 ∧
      (asked 0x98 0 8 15 15).holds 8 15 15 = true ∧ (asked 0x98 0 8 15 17).holds 8 15 17 = false ∧
      ((asked 0x98 0 8 15 17).unitInfo 8 17).state = .stock ∧ inScope 8 15 17 = true ∧ 17 < classUnits 8) ∧
    (MailboxTakes (asked 0x99 0 8 17 0) 0x99 [(20, 8)] (mdesc 0x99 0 8 17 0) ∧
      (asked 0x99 0 8 17 0).spares.tests.any (fun t => t.cls == 8 && t.unit == 17) = false ∧
      ((asked 0x99 0 8 17 0).unitInfo 8 17).state = .stock ∧
      ((asked 0x99 0 8 0 0).unitInfo 8 0).state = .inRole ∧ ((asked 0x99 0 8 0 0).unitInfo 8 0).role = some 0 ∧
      (asked 0x99 0 8 0 0).scopeStock 8 0 = [16, 17]) := by
  unfold MailboxTakes
  refine ⟨?_, ?_, ?_, ?_, ?_, ?_, ?_, ?_⟩ <;> decide +kernel

/-! ## Witnesses: power, clocks, calibration, temperature, spares, security -/

theorem wit_PowerStatesAreEnteredAndLeft :
    (MailboxTakes (asked 0xA8 0 0 0 0) 0xA8 [(20, 4)] (mdesc 0xA8 0 0 0 0) ∧ (asked 0xA8 0 0 0 0).fld .PWR_STATE_STATE = 0 ∧
      MailboxTakes (asked 0xA8 0 2 0 0) 0xA8 [(20, 4)] (mdesc 0xA8 0 2 0 0) ∧ (asked 0xA8 0 2 0 0).fld .PWR_STATE_STATE ≠ 2 ∧
      (asked 0xA8 0 2 0 0).power.request = none) ∧
    (∀ t ∈ [1, 2], let u := ({ live with power := ⟨some ⟨t, none⟩, false, false⟩ } : State).advance 0
     u.alive = true ∧ u.power.request = some ⟨t, none⟩ ∧ u.power.waking = false ∧ u.settled = true) ∧
    (∀ st ∈ [0, 1, 2], let u := ({ ((live.setFld .PWR_STATE_STATE st).setFld .PWR_WAKE_EN_TRIG 8) with
        power := ⟨some ⟨2, none⟩, false, false⟩ }).advance 0
     u.alive = true ∧ u.thermal.trip = none ∧ u.wakeEnabled (.trig 3) = true ∧ u.fld .PWR_STATE_STATE = st ∧
      u.sleepPending = true) ∧
    (let u := live.advance 0
     u.wakeEnabled (.trig 3) = false ∧ u.returning = false) := by
  unfold MailboxTakes
  decide +kernel

/-- Role T is gated since now, and role C since 200 ns ago. -/
def gatedT : State :=
  { (live.setFld .PLL_STAT_LOCKED 11) with clocks := { live.clocks with gated := [(0, some 999999999800), (2, some 1000000000000)] } }

theorem wit_ClockLoopsLoseAndRegainTheirRoles :
    (let u := live.advance 0
     u.alive = true ∧ u.loopLocked 2 = true ∧ u.roleOf 2 = some 2 ∧ u.flag .PLL_ROLE_NO_STANDBY = false ∧
      u.fld .PLL_ROLE_STANDBY ≠ 2 ∧ u.loopLocked (u.fld .PLL_ROLE_STANDBY) = true) ∧
    (let u := gatedT.advance 0
     u.clocks.gated.get (fun _ => none) 2 = some 1000000000000 ∧ u.clocks.gated.get (fun _ => none) 0 = some 999999999800 ∧
      u.alive = true ∧ u.noStandIn 2 = false ∧ u.noStandIn 0 = false ∧ 999999999800 + 200 ≤ u.now) ∧
    (let u := (live.setFld .PLL_STAT_LOCKED 10).advance 0
     u.alive = true ∧ u.clocks.refLost = false ∧ u.loopLocked 0 = false ∧ u.roleOf 0 = some 0 ∧ u.standby = false) ∧
    (let u := ((live.setFld .PLL_STAT_LOCKED 7).setFlag .PLL_ROLE_NO_STANDBY true).advance 0
     u.clocks.refLost = false ∧ u.loopLocked 3 = false ∧ u.roleOf 3 = none ∧ bitOf (u.fld .PLL_ROLE_RETIRED) 3 = false ∧
      u.flag .PLL_CTL_STANDBY_EN = true ∧ u.standby = false ∧ u.standbyLoop = none) ∧
    (live.advance 0).gated 2 = false ∧ (live.advance 0).tbStarted = true ∧ (live.advance 0).clocks.refLost = false ∧
    (gatedT.advance 0).clocks.refLost = false ∧
    (let u := ({ live with clocks := { live.clocks with refLost := true, holdSince := some 0 } }).advance 0
     u.clocks.refLost = true ∧ u.clocks.holdSince = some 0) := by decide +kernel

/-- Two measurements of entry 23 of RAMP and one of D, within its limits. -/
def powerup (d : Int) : List Measurement := [meas 7 0 d, meas 1 23 100, meas 1 23 100]

/-- Calibrated, with drift tracking on. -/
def tracking : State := (live.setFlag .CAL_STAT_POWERUP_DONE true).setFlag .CAL_CTL_DRIFT_EN true

/-- CAL_IDX names an entry. -/
def calAt (item index : Nat) : State := (live.setFld .CAL_IDX_ITEM item).setFld .CAL_IDX_INDEX index

theorem wit_CalibrationMeasuresTracksAndIsAccessed :
    (∀ d ∈ ([0, 32767] : List Int), let u := live.advance 0
     u.alive = true ∧ u.coach.started = true ∧ u.flag .CAL_STAT_POWERUP_DONE = false ∧
      (powerup d).find? (fun x => x.item.val == 7) = some (meas 7 0 d) ∧ u.darkOk d = decide (d = 0) ∧
      resultIs (resolve 1 23 (measuresOf (powerup d) 1 23)) [100] = true ∧ 23 < calCount 1) ∧
    (let u := tracking.advance 0
     u.alive = true ∧ u.coach.started = true ∧ u.flag .CAL_STAT_POWERUP_DONE = true ∧ u.flag .CAL_CTL_DRIFT_EN = true ∧
      u.fld .PWR_STATE_STATE = 0 ∧ (∀ item ∈ [1, 2, 3, 6], u.tracks item = true ∧ calCount item - 1 < calCount item) ∧
      (let kept := u.keptValues (ramp.take 2)
       measuresOf kept 6 0 = [] ∧ (calCombo 1 0).all u.firstCombos.contains = true ∧
        resultIs (resolve 1 0 (measuresOf kept 1 0)) [100] = true) ∧
      (calCombo 3 269).all u.firstCombos.contains = false ∧ 269 < calCount 3 ∧
      ((List.range 7).foldl (State.trackItem [] true) u).firstDone = false) ∧
    (∀ item ∈ [0, 3, 4, 5, 6], live.barOk 1 = true ∧ (calAt item (calCount item - 1)).barOk 1 = true ∧
      (calAt item (calCount item - 1)).fld .CAL_IDX_INDEX < calCount ((calAt item (calCount item - 1)).fld .CAL_IDX_ITEM) ∧
      bitOf ((calAt item 0).fld .CAL_STAT_RUNNING) item = false ∧
      calCount ((calAt item (calCount item)).fld .CAL_IDX_ITEM) ≤ (calAt item (calCount item)).fld .CAL_IDX_INDEX) ∧
    ((calAt 7 0).fld .CAL_IDX_ITEM = 7 ∧
      bitOf (((calAt 6 0).setFld .CAL_STAT_RUNNING 64).fld .CAL_STAT_RUNNING) ((calAt 6 0).fld .CAL_IDX_ITEM) = true) ∧
    bitOf (0x80000000 : Word).toNat 31 = true ∧ bitOf (0x7fffffff : Word).toNat 31 = false := by
  refine ⟨?_, ?_, ?_, ?_⟩ <;> decide +kernel

/-- Seven samples above T_HOT_WARN have come. -/
def warm : State :=
  { (live.setFlag .CAL_STAT_POWERUP_DONE true) with thermal := { live.thermal with runs := [(4, 7)], startSamples := 7 } }

/-- The trip has passed, and every role is at its SAFE levels. -/
def tripped : State := { live with thermal := { live.thermal with trip := some 0, tripTemp := 1936 } }

theorem wit_TemperaturesAreShownAndActOn :
    (let u := warm.advance 0
     let l := u.siteSamples (List.replicate 24 1600)
     u.alive = true ∧ u.flag .CAL_STAT_POWERUP_DONE = true ∧ 7 ≤ u.thermal.startSamples ∧ 7 ≤ u.thmRun 2 true ∧
      1520 ≤ readingAt l 0 ∧ readingAt l 0 < 1792 ∧ u.flag .THM_STAT_HOT_WARN = false) ∧
    ((after (.thermalSample 0 (List.replicate 24 1600)) warm).fld .THM_HOT_SITE = 0) ∧
    (let u := ({ live with thermal := { live.thermal with grace := some 0 } }).advance 0
     u.thermal.grace = some 0 ∧ u.alive = true ∧ 0 + 1000000 * u.fld .THM_GRACE_GRACE ≤ u.now) ∧
    (let u := tripped.advance 0
     u.alive = true ∧ u.thermal.trip.isSome = true ∧ u.noPulse = true ∧ u.nvm.jobs = [] ∧ u.ej.pulses = [] ∧
      (∀ r, r < 16 → ((u.settleTrip).wvRole r).unacked = [])) := by
  refine ⟨?_, ?_, ?_, ?_⟩ <;> decide +kernel

/-- A test of unit 16 of class 1 under way. -/
def test16 : SelfTest := { cls := 1, unit := 16, role := none, active := true, was := .stock, notify := none }

theorem wit_FaultsBucketsAndServiceTests :
    ((live.advance 0).epoch 13 0 = (0 : BitVec 16).toNat ∧ (live.advance 0).epoch 0 (2 ^ 20 - 1) ≠ (65535 : BitVec 16).toNat) ∧
    (let u := ({ live with spares := { live.spares with turn := [(1, 16)] } }.setFld .SPR_ST_CFG_EN 2047).advance 0
     bitOf (u.fld .SPR_ST_CFG_EN) 1 = true ∧ u.fld .SPR_ST_CFG_PERIOD ≠ 0 ∧ u.fld .PWR_STATE_STATE = 0 ∧ u.alive = true ∧ u.coach.started = true ∧
      u.turnDue 1 = true ∧ u.nvm.rights ≠ 0 ∧ u.nvm.rights ≠ 5 ∧ u.spares.tests.any (·.cls == 1) = false ∧
      u.turnUnit 1 = some 16 ∧ (u.unitInfo 1 16).state = .stock) ∧
    (let u := ({ live with spares := { live.spares with tests := [test16] } }).advance 0
     u.spares.tests.find? (fun t => t.active && t.cls == 1) = some test16 ∧ test16.cls ≠ 10 ∧ test16.was ≠ .retired ∧
      u.fld .BIST_PATTERNS_COUNT ≤ 2 ^ 32 - 1 ∧ 0 < u.fld .BIST_PATTERNS_COUNT) := by decide +kernel

/-- A program sequence heads the queue. -/
def withJob (j : NvmJob) : State := { live with nvm := { live.nvm with jobs := [j] } }

theorem wit_ResetStartAndMoult :
    (Instr.resetNAssert 0 ∈ [Instr.resetNAssert 0, .brownout 0]) ∧
    (∀ c ∈ [(false, true), (true, true), (false, false)],
      let u := ({ State.reset with resetN := c.1, railLow := c.2 } : State).advance 0
      u.resetN = c.1 ∧ u.railLow = c.2 ∧
        (u.readJournal.nvm.moult ≠ 1 ∨ u.nvm.moultConsumed = true ∨ u.readJournal.nvm.fullNext = true)) ∧
    (live.advance 0).nvm.jobs = [] ∧
    ((withJob (.chunk 0x17ff00 [1, 2] .quiet)).advance 0).nvm.jobs = [.chunk 0x17ff00 [1, 2] .quiet] ∧
    ((withJob (.erase 1023)).advance 0).nvm.jobs = [.erase 1023] ∧
    (let u := (live.setFlag (icxPlace 0 267) false).advance 0
     u.alive = true ∧ u.icxStopped = false ∧ u.flag (icxPlace 0 267) = false) ∧
    (let u := ({ live with power := ⟨some ⟨3, none⟩, false, false⟩ } : State).advance 0
     u.alive = true ∧ (u.power.request.map (·.target)) = some 3 ∧ u.settled = true ∧ u.thermal.trip = none) ∧
    (∀ c : Bool, let u := ({ (live.setFlag .THM_STAT_COLD_LIMIT c) with power := ⟨none, false, true⟩ } : State).advance 0
     u.alive = true ∧ u.power.moulting = true ∧ u.thermal.trip = none ∧ u.coldRefused = c) ∧
    (live.barOk 1 = true ∧ getBits (0x14D4F : Word).toNat 15 0 = 0x4D4F ∧ live.nvm.rights ≠ 0 ∧ live.nvm.rights ≠ 5 ∧
      live.thermal.trip = none ∧ getBits (0x4D4E : Word).toNat 15 0 ≠ 0x4D4F) := by decide +kernel

/-- The standby restarts. -/
def restarting (why : CoachWhy) : State := { live with coach := { live.coach with restart := some why } }

/-- A trial since time 0, which has lasted its time. -/
def overdue (run : Bool) : State := { (trial []).setFlag .HIF_STAT_RUNNING run with coach := (trial []).coach }

theorem wit_CoachmenAndTheNvm :
    (∀ run : Bool, let u := ((restarting (.activate none)).setFlag .HIF_STAT_RUNNING run).advance 0
     u.coachAlive = true ∧ u.standby = false ∧ u.coach.restart = some (.activate none) ∧ u.running = run) ∧
    (let u := (restarting (.confirm none)).advance 0
     u.coach.restart = some (.confirm none) ∧ u.coach.wanted = none) ∧
    (∀ run : Bool, let u := (overdue run).advance 0
     u.coach.trial = some 0 ∧ u.coachAlive = true ∧ u.trialOn = true ∧
      0 + 1000000000 * u.fld .SEC_FW_CFG_TRIAL_S ≤ u.now ∧ u.standbyServes = true ∧ u.coach.restart = none ∧
      u.coach.takeover = none ∧ u.running = run) ∧
    (let u := running.advance 0
     u.coachAlive = true ∧ (∀ core ∈ [0, 1], (u.unitInfo 10 core).state ≠ .retired ∧
       (u.fltN 14 = 0 ∨ (u.bucket 14 (unitKey 10 core)).length + 1 < u.fltN 14)) ∧ u.coach.restart = none ∧
      u.coach.takeover = none ∧ u.coach.trial.isSome = false ∧ 1 ≠ u.lead ∧ 0 = u.lead ∧ u.standbyServes = true ∧ u.running = true) ∧
    (let u := live.advance 0
     u.alive = true ∧ u.nvm.jobs = [] ∧ u.nvmRefused = false ∧
      ((u.nvm.logBase = logStart ∧ u.nvm.logTail ≤ logHalf) ∨ (u.nvm.logBase = logHalf ∧ u.nvm.logTail ≤ journalEnd))) ∧
    ((withJob (.chunk 0x17ff00 [1, 2] .quiet)).nvm.jobs = [.chunk 0x17ff00 [1, 2] .quiet]) ∧
    (let u := (withJob (.erase 1023)).advance 0
     u.nvm.jobs = [.erase 1023] ∧ u.nvmRefused = false) ∧
    (({ live with nvm := { live.nvm with jobs := [.erase 0, .erase 1023] } }).advance 0).nvm.jobs = .erase 0 :: .erase 1023 :: [] ∧
    (let u := (withJob (.record 5 [1] .quiet)).advance 0
     u.nvm.jobs = [.record 5 [1] .quiet] ∧ ¬u.logEnd < u.nvm.logTail + (recordBytes 5 u.nvm.seq [1]).length) ∧
    (let s := withJob (.record 5 [1] .quiet)
     let u := ({ s with nvm := { s.nvm with logTail := logHalf } }).advance 0
     u.nvm.jobs = [.record 5 [1] .quiet] ∧ u.logEnd < u.nvm.logTail + (recordBytes 5 u.nvm.seq [1]).length) ∧
    live.nvm.reserve ≠ 0 ∧ ({ live with nvm := { live.nvm with reserve := 0 } }).nvm.reserve = 0 := by
  refine ⟨?_, ?_, ?_, ?_, ?_, ?_, ?_, ?_, ?_, ?_, ?_⟩ <;> decide +kernel

/-- The I3C target has the address 8. -/
def addressed : State := { live with i3c := { addr := some 8, events := 0 } }

theorem wit_SidebandTargetsAnswer :
    (live.i3cOn = true ∧ live.i3c.addr = none) ∧ addressed.i3cAddressed = true ∧ addressed.nvm.rights ≠ 5 ∧
    (let s := (addressed.setFlag .PWR_WAKE_EN_I3C true).setFld .PWR_STATE_STATE 2
     s.i3cAddressed = true ∧ s.flag .PWR_WAKE_EN_I3C = true ∧ s.inReset = false ∧ s.off = false ∧
      s.fld .PWR_STATE_STATE ≠ 0) ∧
    (live.alive = true ∧ State.reset.alive = false ∧ live.nvm.rights ≠ 1 ∧ live.nvm.rights ≠ 4 ∧
      ({ live with nvm := { live.nvm with rights := 4 } } : State).nvm.rights = 4) ∧
    (addressed.icxStopped = false ∧ (addressed.setFlag (icxPlace 0 42) false).flag (icxPlace 0 42) = false) ∧
    ({ addressed with nvm := { live.nvm with rights := 5 } }.i3cAddressed = true) ∧ live.i3cAddressed = false ∧
    (let s := (addressed.setFlag .PWR_WAKE_EN_I3C true).setFld .PWR_STATE_STATE 1
     s.i3cAddressed = true ∧ s.nvm.rights ≠ 5 ∧ s.icxStopped = false ∧ s.flag (icxPlace 0 42) = false ∧
      s.inReset = false ∧ s.off = false ∧ s.fld .PWR_STATE_STATE ≠ 0 ∧ s.flag .PWR_WAKE_EN_I3C = true) ∧
    (∀ l ∈ [(0, (1 : Fin 6)), (1, 2)], (l.1 = 0 ∧ l.2 = 1) ∨ (l.1 = 1 ∧ l.2 = 2)) ∧
    ¬((live.nvm.lifecycle = 0 ∧ (4 : Fin 6) = 1) ∨ (live.nvm.lifecycle = 1 ∧ (4 : Fin 6) = 2)) := by decide +kernel

/-- Sources 254 and 272 are pending for every target. -/
def pendingSources : State :=
  [254, 272].foldl (fun s n => [0, 1, 2].foldl (fun s t => s.setFlag (icxTargetBit t n) true)
    (((s.setFlag (icxPlace 1 n) true).setFlag (icxPlace 0 n) false))) live

/-- Sources are active at every target. -/
def activeSources : State :=
  { live with icx := { live.icx with
      a := ⟨true, [254], [272], []⟩, b := ⟨true, [254], [272], []⟩, host := ⟨true, [254], [272], []⟩, windows := [(254, 0)] } }

theorem wit_InterruptControllerClaimsAndCompletes :
    (live.barOk 1 = true ∧ live.coachmanRuns = true) ∧
    (∀ t ∈ [0, 1, 2], icxNormal.find? (pendingSources.eligible t) = some 254 ∧ icxFast.find? (pendingSources.fastClaimable t) = some 272) ∧
    icxNormal.find? (live.eligible 2) = none ∧
    (∀ t ∈ [0, 1, 2], (activeSources.icx.target t).active.contains ((254 : Word).toNat % 256) = true ∧
      (activeSources.icx.target t).fast.head? = some (256 + (16 : Word).toNat % 256)) ∧
    activeSources.icx.host.active.contains ((253 : Word).toNat % 256) = false ∧
    activeSources.icx.host.fast.head? ≠ some (256 + (15 : Word).toNat % 256) ∧
    (live.setFld .ICX_LOCK_HOLDER 3).fld .ICX_LOCK_HOLDER = 3 ∧
    (∀ h ∈ [0, 1, 2], let s := live.setFld .ICX_LOCK_HOLDER h
     s.barOk 1 = true ∧ s.fld .ICX_LOCK_HOLDER ≠ 3 ∧ s.fld .ICX_LOCK_HOLDER = h ∧
      (s.advance 0).icxStopped = false ∧ 200000 ≤ (s.advance 0).now - (s.advance 0).icx.lockSince) ∧
    ((activeSources.advance 0).icx.windows.any
      (fun w => w.1 == 254 && decide (w.2 ≤ (activeSources.advance 0).now)) = true) := by
  refine ⟨?_, ?_, ?_, ?_, ?_, ?_, ?_, ?_, ?_⟩ <;> decide +kernel

theorem wit_ManagementClearsClear :
    live.barOk 1 = true ∧ live.barOk 0 = true ∧ live.hostActivity.running = false := by decide +kernel

theorem wit_invariants :
    LifecycleLegal live ∧ StoresCanonical live ∧
      (∀ c ∈ [Instr.lifecycle, .tickEdge ⟨0, SramErrors.none⟩, .rstdaa], isNext (step { live with pending := [c] }) = true) := by
  unfold LifecycleLegal StoresCanonical Standing.Legal
  decide +kernel

/-! ## Single steps -/

/-- Log 1: on an empty queue 1 ns passes. -/
theorem test_idle : ((match step live with | .next t => t | _ => live).now = live.now + 1) := by decide +kernel

/-- R52: a write of HIF_RUN with RUN 1. -/
theorem test_run : (after (.registerWrite .pf0Bar0 Reg.HIF_RUN 4 1) live).run = true := by decide +kernel

/-- R18: a setting written while RUNNING is 1 is discarded and counted. -/
theorem test_discard : (after (.registerWrite .pf0Bar0 Reg.EXP_TICK_PERIOD 4 5) runningOnly).fld .HIF_WR_DISCARD_DISCARD = 1 ∧
    (after (.registerWrite .pf0Bar0 Reg.EXP_TICK_PERIOD 4 5) runningOnly).reg Reg.EXP_TICK_PERIOD = regReset Reg.EXP_TICK_PERIOD := by
  decide +kernel

/-- R21: the tick after tick 0 is tick 1. -/
theorem test_tick : (after (.tickEdge ⟨0, SramErrors.none⟩) edgeDue).lastTick = 1 := by decide +kernel

/-- R88: a storage node holds at most 9,000 electrons. -/
theorem test_charge : ((after (.exposureIntervalEnd 0 [(12 * 8256 + 32, 20000)]) exposed).frames.map
    fun f => f.nodes.get (fun _ => 0) (12 * 8256 + 32)) = [9000] := by decide +kernel

/-- R149: a packet that arrives as it was sent counts for nothing. -/
theorem test_axle : (after (.axlePacket 0 639 0) (later (atReadout (some 1002000) 1))).fld .RO_AXLE_CRC_CRC = 0 ∧
    (after (.axlePacket 0 639 0) (later (atReadout (some 1002000) 1))).frames.map
      (fun f => f.lanes.get (fun _ => 0) 639) = [2] := by decide +kernel

/-- R97: a boost of 3,299 mV is not ready, one of 3,300 mV is. -/
theorem test_boost : (after (.pixsupMonitorSample 0 3299) live).flag .RO_PIXSUP_STAT_READY = false ∧
    (after (.pixsupMonitorSample 0 3300) live).flag .RO_PIXSUP_STAT_READY = true := by decide +kernel

/-- R320: with lanes 0 and 1 dark the link is 2 lanes wide and reversed. -/
theorem test_link : (let t := after (.linkUp 0 [false, false, true, true] 4) { live with pcie := { live.pcie with link := .training } }
    (t.fld .HIF_LINK_STAT_WIDTH, t.flag .HIF_LINK_STAT_REVERSED)) = (2, true) := by decide +kernel

/-- R502: a FIELD part becomes RETURNED, and no earlier state. -/
theorem test_lifecycle : (after .lifecycle (asked 0x8B 0 4 0 0)).nvm.lifecycle = 4 ∧
    (after .lifecycle (asked 0x8B 0 2 0 0)).nvm.lifecycle = 3 := by decide +kernel

/-- R502: SCRAPPED applies at once and erases the keys. -/
theorem test_scrapped : (let t := after .lifecycle (asked 0x8B 0 5 0 0)
    (t.nvm.rights, t.nvm.keysErased)) = (5, true) := by decide +kernel

/-- R396, R401: the claims. -/
theorem test_claims : (after .icxHclaim pendingSources).rdata = 254 ∧ (after .icxHfclaim pendingSources).rdata = 16 ∧
    (after .icxHclaim live).rdata = 0 := by decide +kernel

/-- R403: the lock is taken by a read, and its value names the holder. -/
theorem test_lock : (after (.icxLockRead 1) (live.setFld .ICX_LOCK_HOLDER 3)).rdata = 5 := by decide +kernel

/-- R451: the hottest site, here site 11. -/
theorem test_hot : (let t := after (.thermalSample 0 (List.replicate 22 400 ++ [480, 480])) live
    (t.fld .THM_HOT_TEMP, t.fld .THM_HOT_SITE)) = (480, 11) := by decide +kernel

/-- R273: PULL takes the oldest word. -/
theorem test_pull : ((after (.pull 0 17) (engine 1 0 0 { Engine.init with tx := [7, 8] })).engine 17).sr = 7 ∧
    ((after (.pull 0 17) (engine 1 0 0 { Engine.init with tx := [7, 8] })).engine 17).state = 5 := by decide +kernel

/-- R273: NOP with E 3 pauses 7.5 ns, rounded up. -/
theorem test_weevilNop : ((after (.weevilNop 0 17) (engine 0 3 0 Engine.init)).engine 17).busy = .pause 1000008 := by
  decide +kernel

/-- R274: a shift of 2 periods of 10 ns that begins at 1,000,000 and idles from 1,000,005 to 1,000,105 has its second period
begin at 1,000,110. -/
theorem test_shift_idles : (let x := ({ shiftOver with out := true, bits := 2, start := 1000000 }.pause 1000005).resume 1000105
    (x.begun 1000109, x.begun 1000110, x.over 1000119, x.over 1000120)) = (1, 2, false, true) := by decide

/-- R432, R448: a read of the drift list sets ERR. -/
theorem test_drift_read : (after (.calDataAccess none) (calAt 7 0)).flag .CAL_IDX_ERR = true ∧
    (after (.calDataAccess none) (calAt 6 0)).flag .CAL_IDX_ERR = false := by decide +kernel

/-- R522: after the last erasure a record of the wear counters, of type 5, waits. -/
theorem test_wear : (match (after (.nvmProgramSequenceComplete 0 true) (withJob (.erase 1023))).nvm.jobs with
    | [.record 5 _ (.wear m)] => m | _ => []) = [(1023, 1)] := by decide +kernel

/-- R331: a link that is in L2 trains again. -/
theorem test_l2 : (after (.linkUp 0 [true, true, true, true] 4) { live with pcie := { live.pcie with link := .l2 } }).pcie.link = .up := by
  decide +kernel

/-- R271, R273: width code 3 is no operation. -/
theorem test_shift_invalid : (match step { engine 3 96 0 Engine.init with pending := [.shiftOut 0 17] } with
    | .fault .weevilInvalidOp => true | _ => false) = true := by decide +kernel

/-- R525: a target without an address does nothing, and RSTDAA takes the address away. -/
theorem test_i3c : isNext (exec .getpid live) = true ∧ (after .rstdaa addressed).i3c.addr = none := by decide +kernel

/-- R303: a latched pair keeps its stamp; the shadow takes the next. -/
theorem test_capture : (let t := after (.captureEdge 0 7 true) (capturing true [])
    (t.wide (capReg 7 true), t.shadow 7 true)) = (0, some 1000000) := by decide +kernel

/-- R373: the first bytes of a completion of TAG 7 with STATUS 0, and the device pointer beside it. -/
theorem test_completion : (let t := { rings [] with rings := [(0, ringOf 2 1), (1, ringOf 0 0)] }.complete cpl
    (t.memByte 0, t.memByte 1, (t.ring 1).dev)) = (7, 0, 1) := by decide +kernel

/-- R334: RESET_N takes the rings away and keeps the NVM. -/
theorem test_reset : (let t := after (.resetNAssert 0) (rings [])
    ((t.ring 0).enabled, t.inReset, t.nvm.lifecycle)) = (false, true, 3) := by decide +kernel

end Sys2Proof.Tests
end

