-- ==== Sys2Proof/Proofs/StoresCanonical.lean ====
section
/-! PROOF. Every step keeps the stores of the registers and of host memory canonical.

The registers change only through `State.setReg` and `State.resetRegs`, host memory only through `State.writeMem`;
each of the three keeps its store canonical. Every other function of the model is a composition of these, of updates
of other fields of the state, of choices and of folds. So there is one lemma per function of the model, named after
it, whose proof is the composition itself: `h.setFld.raise` follows `(s.setFld f v).raise src`, and `update`, `branch`
and `foldl` stand for an update of other fields, a choice and a fold. -/

namespace Sys2Proof.Safety

open Sys2Proof.Machine

/-- The next state of an answer, if it has one, has canonical stores. -/
def NextCanonical : Host.Outcome State Fault Refusal → Prop
  | .next t => StoresCanonical t
  | _ => True

/-- A choice between two states. -/
theorem StoresCanonical.branch {s t : State} {c : Prop} {inst : Decidable c} (hs : StoresCanonical s)
    (ht : StoresCanonical t) : StoresCanonical (if c then s else t) := by split <;> assumption

/-- A fold over a value that carries a state. -/
theorem StoresCanonical.foldlOn {α β : Type} (g : α → State) {f : α → β → α} {a : α} {l : List β}
    (h : StoresCanonical (g a)) (hf : ∀ {a x}, StoresCanonical (g a) → StoresCanonical (g (f a x))) :
    StoresCanonical (g (l.foldl f a)) := by
  induction l generalizing a with
  | nil => exact h
  | cons x l ih => exact ih (hf h)

/-- A fold over a state. -/
theorem StoresCanonical.foldl {β : Type} {s : State} {f : State → β → State} {l : List β}
    (h : StoresCanonical s) (hf : ∀ {t x}, StoresCanonical t → StoresCanonical (f t x)) :
    StoresCanonical (l.foldl f s) :=
  foldlOn id h hf

section
variable {s : State} (h : StoresCanonical s)
include h

/-- An update of fields of the state that are neither the registers nor host memory. -/
theorem StoresCanonical.update {f0 f1 f2 f3 f4 f5 f6 f7 f8 f9 f10 f11 f14 f15 f16 f17 f18 f19 f20 f21 f22 f23 f24
      f25 f26 f27 f28 f29 f30 f31 f32 f33 f34 f35 f36 f37 f38 f39 f40 f41 f42 f43 f44 f45 f46 f47 f48 f49 f50 f51
      f52 f53 f54 f55 f56 f57 f58 f59} :
    StoresCanonical ⟨f0, f1, f2, f3, f4, f5, f6, f7, f8, f9, f10, f11, s.regs, s.hostMem, f14, f15, f16, f17, f18,
      f19, f20, f21, f22, f23, f24, f25, f26, f27, f28, f29, f30, f31, f32, f33, f34, f35, f36, f37, f38, f39, f40,
      f41, f42, f43, f44, f45, f46, f47, f48, f49, f50, f51, f52, f53, f54, f55, f56, f57, f58, f59⟩ := h

/-! ### The functions of Machine/Ops -/

/-- A write of a register. -/
theorem StoresCanonical.setReg {a v} : StoresCanonical (s.setReg a v) := ⟨wf_setReg s a v h.1, h.2⟩
theorem StoresCanonical.setFld {f v} : StoresCanonical (s.setFld f v) := h.setReg
theorem StoresCanonical.setFlag {f b} : StoresCanonical (s.setFlag f b) := h.setFld
theorem StoresCanonical.count {f n} : StoresCanonical (s.count f n) := h.setFld
theorem StoresCanonical.setWide {a v} : StoresCanonical (s.setWide a v) := h.setReg.setReg
theorem StoresCanonical.plainWriteReg {a v} : StoresCanonical (s.plainWriteReg a v) := by
  unfold State.plainWriteReg
  split
  · exact h.setReg
  · exact h
theorem StoresCanonical.free : StoresCanonical s.free.2 := h.update
theorem StoresCanonical.markEdge {n} : StoresCanonical (s.markEdge n) := h.update
theorem StoresCanonical.putPin {n b} : StoresCanonical (s.putPin n b) := h.update
theorem StoresCanonical.setPin {n b} : StoresCanonical (s.setPin n b) := h.putPin.update
theorem StoresCanonical.modWvPin {n f} : StoresCanonical (s.modWvPin n f) := h.update
theorem StoresCanonical.setWvPin {n b} : StoresCanonical (s.setWvPin n b) := branch h h.setPin.modWvPin
theorem StoresCanonical.wvEdge {n b} : StoresCanonical (s.wvEdge n b) := branch h h.modWvPin.setWvPin
theorem StoresCanonical.pinEdge {src b} : StoresCanonical (s.pinEdge src b) := branch h.wvEdge h.setPin
/-- A write to host memory. -/
theorem StoresCanonical.writeMem {a bs} : StoresCanonical (s.writeMem a bs) := ⟨h.1, wf_writeMem s a bs h.2⟩

/-! ### The functions of Machine/Pads -/

theorem StoresCanonical.modWv {r f} : StoresCanonical (s.modWv r f) := h.update
theorem StoresCanonical.modEngine {e f} : StoresCanonical (s.modEngine e f) := h.update
theorem StoresCanonical.stopEngine {e} : StoresCanonical (s.stopEngine e) := h.modEngine
theorem StoresCanonical.writeSr {e v} : StoresCanonical (s.writeSr e v) := h.modEngine
theorem StoresCanonical.setDriven {n} : StoresCanonical (s.setDriven n) := h.modWvPin
theorem StoresCanonical.movePin {n} : StoresCanonical (s.movePin n) := h.setDriven.setWvPin
theorem StoresCanonical.drive {r} : StoresCanonical (s.drive r) := h.foldl fun h => h.movePin
theorem StoresCanonical.driveAll : StoresCanonical s.driveAll :=
  (h.foldl fun h => h.drive).foldl fun h => branch h.modWvPin.setWvPin h
theorem StoresCanonical.toldEdge {src rising} : StoresCanonical (s.toldEdge src rising) :=
  branch h (branch h.pinEdge h.pinEdge.markEdge)
theorem StoresCanonical.gateCount {dt n} : StoresCanonical (s.gateCount dt n) := branch h.setWide h
theorem StoresCanonical.pass {dt} : StoresCanonical (s.pass dt) :=
  branch (h.foldl fun h => h.gateCount).update h.update
theorem StoresCanonical.placePin {n} : StoresCanonical (s.placePin n) := h.setDriven.putPin
theorem StoresCanonical.elapse {dt} : StoresCanonical (s.elapse dt) :=
  branch h.pass ((h.pass.foldl fun h => h.placePin).foldl fun h => h.pass.foldl fun h => h.movePin)
theorem StoresCanonical.syncThrough {level} : StoresCanonical (s.syncThrough level) := branch h.update.setPin h.update
theorem StoresCanonical.transferDividers : StoresCanonical s.transferDividers := h.update
theorem StoresCanonical.settleDividers : StoresCanonical s.settleDividers := by
  unfold State.settleDividers
  split
  · exact branch h.transferDividers h
  · exact h
theorem StoresCanonical.advance {dt} : StoresCanonical (s.advance dt) :=
  (h.foldl fun h => h.elapse.syncThrough).update.elapse.settleDividers

/-! ### The functions of Machine/Msi -/

theorem StoresCanonical.setFn {i f} : StoresCanonical (s.setFn i f) := h.update
theorem StoresCanonical.emitIf {go m} : StoresCanonical (s.emitIf go m) := h.update
theorem StoresCanonical.emit {m} : StoresCanonical (s.emit m) := h.emitIf
theorem StoresCanonical.sendVector {i v} : StoresCanonical (s.sendVector i v) := h.emit
theorem StoresCanonical.msixDue {i v} : StoresCanonical (s.msixDue i v) := branch (branch h.setFn h.sendVector) h
theorem StoresCanonical.setPme {i} : StoresCanonical (s.setPme i) := branch h (branch h.setFn.emit h.setFn)
theorem StoresCanonical.reportError {i bit} : StoresCanonical (s.reportError i bit) := h.setFn.emitIf
theorem StoresCanonical.reportCorrectable {i bit} : StoresCanonical (s.reportCorrectable i bit) := h.setFn.emitIf
theorem StoresCanonical.readFailed {i} : StoresCanonical (s.readFailed i) := h.free.count.reportError

/-! ### The functions of Machine/Icx -/

theorem StoresCanonical.setIcxTarget {t v} : StoresCanonical (s.setIcxTarget t v) := h.update
theorem StoresCanonical.hostDue : StoresCanonical s.hostDue := branch h.setPme h.msixDue
theorem StoresCanonical.assertTarget {s0 t} : StoresCanonical (s.assertTarget s0 t) := branch h.setIcxTarget h
theorem StoresCanonical.icxChange {f} (hf : ∀ {t}, StoresCanonical t → StoresCanonical (f t)) :
    StoresCanonical (s.icxChange f) :=
  have h1 := (hf h).assertTarget.assertTarget.assertTarget
  branch h1.hostDue h1
theorem StoresCanonical.makePending {src} : StoresCanonical (s.makePending src) :=
  branch h.setFlag (branch h.setFlag.update h.setFlag.update)
theorem StoresCanonical.applyRaise {src} : StoresCanonical (s.applyRaise src) :=
  branch h.count.setFlag h.count.makePending
theorem StoresCanonical.raise {src} : StoresCanonical (s.raise src) :=
  branch (branch h.update h) (h.icxChange fun h => h.applyRaise)
theorem StoresCanonical.raiseFast {n} : StoresCanonical (s.raiseFast n) := h.raise
theorem StoresCanonical.stopIcx : StoresCanonical s.stopIcx := h.update
theorem StoresCanonical.resumeTimes : StoresCanonical s.resumeTimes := h.update
theorem StoresCanonical.applyLatches : StoresCanonical s.applyLatches :=
  h.resumeTimes.update.foldl fun h => branch (h.icxChange fun h => h.applyRaise) h
theorem StoresCanonical.clearPending {src} : StoresCanonical (s.clearPending src) := h.setFlag.update
theorem StoresCanonical.settleAsserted {t} : StoresCanonical (s.settleAsserted t) := branch h.setIcxTarget h
theorem StoresCanonical.claimNormal {t} : StoresCanonical (s.claimNormal t).2 := by
  unfold State.claimNormal
  split
  · exact (h.icxChange fun h => h.clearPending.setIcxTarget).settleAsserted
  · exact h.settleAsserted
theorem StoresCanonical.claimFast {t} : StoresCanonical (s.claimFast t).2 := by
  unfold State.claimFast
  split
  · exact (h.icxChange fun h => h.clearPending.setIcxTarget).settleAsserted
  · split
    · exact h
    · exact h.settleAsserted
theorem StoresCanonical.completeNormal {t src} : StoresCanonical (s.completeNormal t src) :=
  branch (h.icxChange fun h => h.setIcxTarget) h.count
theorem StoresCanonical.popFast {t} : StoresCanonical (s.popFast t) :=
  have h1 := h.icxChange fun h => h.setIcxTarget
  branch h1.hostDue h1
theorem StoresCanonical.completeFast {t n} : StoresCanonical (s.completeFast t n).2 := by
  unfold State.completeFast
  split
  · exact h.popFast
  · exact h.setFlag.count.raiseFast
theorem StoresCanonical.completeAllOf {t} : StoresCanonical (s.completeAllOf t) :=
  h.foldl fun h => branch h.completeNormal h.popFast
theorem StoresCanonical.writePend {w v} : StoresCanonical (s.writePend w v) :=
  h.icxChange fun h => h.foldl fun h => branch h.makePending h.clearPending
theorem StoresCanonical.writeMask {w v} : StoresCanonical (s.writeMask w v) :=
  h.icxChange fun h => h.foldl fun h => branch h.setFlag.setFlag.makePending h.setFlag
theorem StoresCanonical.lockRead {t} : StoresCanonical (s.lockRead t).2 := by
  unfold State.lockRead
  split
  · exact h.setFld.update
  · split <;> exact h
theorem StoresCanonical.lockRelease {t v} : StoresCanonical (s.lockRelease t v) := branch h.setFld h

/-! ### The functions of Machine/Rings -/

theorem StoresCanonical.setRing {n r} : StoresCanonical (s.setRing n r) := h.update
theorem StoresCanonical.cqDue {n} : StoresCanonical (s.cqDue n) :=
  branch h (branch h.setRing h.setRing.update.msixDue)
theorem StoresCanonical.settleRing {n} : StoresCanonical (s.settleRing n) :=
  branch (branch h.setRing.setRing h.setRing) h
theorem StoresCanonical.writeCpl {q c rest start} : StoresCanonical (s.writeCpl q c rest start) :=
  h.writeMem.setRing.settleRing
theorem StoresCanonical.drainHeld {q announce l} : StoresCanonical (s.drainHeld q announce l) := by
  induction l generalizing s with
  | nil => exact h
  | cons c rest ih => exact branch (ih (branch h.writeCpl.cqDue h.writeCpl)) h
theorem StoresCanonical.drainCq {q} : StoresCanonical (s.drainCq q) := h.drainHeld
theorem StoresCanonical.complete {c} : StoresCanonical (s.complete c) := branch h.setRing.drainCq h
theorem StoresCanonical.postMem {a bs} : StoresCanonical (s.postMem a bs) := branch h.update h.writeMem
theorem StoresCanonical.closeBuf {n status length} : StoresCanonical (s.closeBuf n status length) := by
  unfold State.closeBuf
  split
  · exact h
  · exact h.setRing.complete
theorem StoresCanonical.flushBuf {n tick} : StoresCanonical (s.flushBuf n tick) := by
  unfold State.flushBuf
  split
  · exact h
  · exact branch h.closeBuf h.postMem.closeBuf
theorem StoresCanonical.settleClaims {n fuel} : StoresCanonical (s.settleClaims n fuel) := by
  induction fuel generalizing s with
  | zero => exact h
  | succ fuel ih =>
    unfold State.settleClaims
    split
    · exact ih h.setRing.flushBuf
    · exact h
theorem StoresCanonical.setClaims {n l} : StoresCanonical (s.setClaims n l) := h.setRing.settleClaims
theorem StoresCanonical.passBufs {n size l} : StoresCanonical (s.passBufs n size l) := by
  induction l generalizing s with
  | nil => exact h
  | cons b rest ih => exact branch h (ih h.closeBuf)
theorem StoresCanonical.drayFull {held} : StoresCanonical (s.drayFull held).2 := by
  unfold State.drayFull
  split
  · exact h.free
  · exact h
theorem StoresCanonical.putItem {n bytes tick tag} : StoresCanonical (s.putItem n bytes tick tag) := by
  unfold State.putItem
  split
  · exact h
  · exact h.postMem.setRing
theorem StoresCanonical.closeFlushed {n} : StoresCanonical (s.closeFlushed n) := branch h.closeBuf h
theorem StoresCanonical.placeItem {n bytes tick tag} : StoresCanonical (s.placeItem n bytes tick tag) :=
  branch h.drayFull.closeFlushed.count (branch h.drayFull.closeFlushed.putItem (branch h.drayFull.closeFlushed.count
    (branch h.drayFull.closeFlushed.passBufs.count h.drayFull.closeFlushed.passBufs.putItem)))
theorem StoresCanonical.archWrap {size} : StoresCanonical (s.archWrap size).2 := by
  unfold State.archWrap
  extract_lets
  split
  · exact h
  · exact (branch h h.writeMem.update).setFld.setWide
theorem StoresCanonical.writeBlock {kind cam items payload} :
    StoresCanonical (s.writeBlock kind cam items payload).2 := by
  have hf := h.free
  unfold State.writeBlock
  generalize s.free = p at hf ⊢
  dsimp only
  split
  · exact hf.count
  · exact hf.archWrap.writeMem.setWide.update
theorem StoresCanonical.flushBlock {kind cam} : StoresCanonical (s.flushBlock kind cam).2 := by
  unfold State.flushBlock
  extract_lets
  split
  · exact h
  · exact h.update.writeBlock
theorem StoresCanonical.archItem {kind cam bytes} : StoresCanonical (s.archItem kind cam bytes).2 := by
  have hf {c : Prop} [Decidable c] {cam} : StoresCanonical (if c then s.flushBlock kind cam else ([], s)).2 := by
    split
    · exact h.flushBlock
    · exact h
  unfold State.archItem
  split
  · exact hf.update
  · exact h
theorem StoresCanonical.dropItem {kind cam} : StoresCanonical (s.dropItem kind cam) := by
  unfold State.dropItem
  split <;> exact h.count
theorem StoresCanonical.writeItem {i} : StoresCanonical (s.writeItem i).2 := by
  unfold State.writeItem
  dsimp only
  split
  · exact h.archItem.placeItem
  · exact h.archItem.dropItem
theorem StoresCanonical.handOne {i} : StoresCanonical (s.handOne i).2 := by
  unfold State.handOne
  split
  · exact branch h.drayFull.dropItem h.drayFull.update
  · exact h.writeItem
theorem StoresCanonical.eventOne {e} : StoresCanonical (s.eventOne e).2 := (branch h.raise h).update.handOne
theorem StoresCanonical.eventsN {fuel es} : StoresCanonical (s.eventsN fuel es) := by
  induction fuel generalizing s es with
  | zero => exact h
  | succ fuel ih =>
    cases es with
    | nil => exact h
    | cons e es =>
      refine ih ?_
      exact foldlOn Prod.snd (a := ([], s)) h fun h => h.eventOne
theorem StoresCanonical.event {code status source args} : StoresCanonical (s.event code status source args) :=
  h.eventsN
theorem StoresCanonical.hand {kind cam bytes tick tag} : StoresCanonical (s.hand kind cam bytes tick tag) :=
  h.handOne.eventsN
theorem StoresCanonical.releaseItems : StoresCanonical s.releaseItems := branch h (h.update.foldl fun h => h.hand)

/-! ### The functions of Machine/HostAct -/

theorem StoresCanonical.stageMgmt {c} : StoresCanonical (s.stageMgmt c) := h.update
theorem StoresCanonical.hostActivity : StoresCanonical s.hostActivity :=
  branch h.update.setFlag.stageMgmt.event h.update
theorem StoresCanonical.hostAbsent : StoresCanonical s.hostAbsent := h.setFlag.stageMgmt.update.event
theorem StoresCanonical.pf0Write {f} (hf : ∀ {t}, StoresCanonical t → StoresCanonical (f t)) :
    StoresCanonical (s.pf0Write f) :=
  branch (hf h.hostActivity) h
theorem StoresCanonical.pf1Write {f} (hf : ∀ {t}, StoresCanonical t → StoresCanonical (f t)) :
    StoresCanonical (s.pf1Write f) :=
  branch (hf h) h

/-! ### The functions of Machine/RingCmds -/

theorem StoresCanonical.popHead {n} : StoresCanonical (s.popHead n) := h.setRing
theorem StoresCanonical.dropUndefined {n fuel} : StoresCanonical (s.dropUndefined n fuel) := by
  induction fuel generalizing s with
  | zero => exact h
  | succ fuel ih =>
    unfold State.dropUndefined
    split
    · exact branch h (ih h.popHead.complete)
    · exact h
theorem StoresCanonical.nextHead {n} : StoresCanonical (s.nextHead n) := h.popHead.dropUndefined.settleRing
theorem StoresCanonical.finishHead {n status result} : StoresCanonical (s.finishHead n status result) := by
  unfold State.finishHead
  split
  · exact h
  · exact h.popHead.complete.dropUndefined.settleRing
theorem StoresCanonical.startHead {n} : StoresCanonical (s.startHead n) := h.setRing
theorem StoresCanonical.writeRingCfg {n v} : StoresCanonical (s.writeRingCfg n v) := h.plainWriteReg
theorem StoresCanonical.setEn {n b} : StoresCanonical (s.setEn n b) := h.setFlag
theorem StoresCanonical.ringEnable {n v} : StoresCanonical (s.ringEnable n v) :=
  branch h (branch h.writeRingCfg.setRing.setEn (branch h.writeRingCfg.setRing h.writeRingCfg.setRing.setRing))
theorem StoresCanonical.abortBufs {n fuel} : StoresCanonical (s.abortBufs n fuel) := by
  induction fuel generalizing s with
  | zero => exact h
  | succ fuel ih =>
    unfold State.abortBufs
    split
    · exact h
    · exact ih (branch h.closeBuf h.closeBuf)
theorem StoresCanonical.abortDescs {n l} : StoresCanonical (s.abortDescs n l) := by
  induction l generalizing s with
  | nil => exact h
  | cons d rest ih => exact ih h.setRing.complete
theorem StoresCanonical.cutLate {n} : StoresCanonical (s.cutLate n) := h.update
theorem StoresCanonical.ringDisable {n v} : StoresCanonical (s.ringDisable n v) :=
  branch h.writeRingCfg (branch (branch h.setRing h.setRing.setEn) (branch h.setRing.setEn.setRing.abortBufs
    h.setRing.setEn.cutLate.abortDescs).settleRing)
theorem StoresCanonical.doorbellErr {n} : StoresCanonical (s.doorbellErr n) := branch h.count h.count
theorem StoresCanonical.doorbellWrite {n} {f} (hf : ∀ {t}, StoresCanonical t → StoresCanonical (f t)) :
    StoresCanonical (s.doorbellWrite n f) :=
  branch (h.pf0Write hf) (h.pf1Write fun h => hf h.hostActivity)
theorem StoresCanonical.tailDoorbell {n v} : StoresCanonical (s.tailDoorbell n v) :=
  have h1 := branch h.setRing h.setRing.setFld
  branch h1.doorbellErr h1.setRing
theorem StoresCanonical.headDoorbell {n v} : StoresCanonical (s.headDoorbell n v) :=
  have h1 := branch h.setRing h.setRing.setFld
  branch h1.doorbellErr h1.setRing.drainCq
theorem StoresCanonical.endTurn {n} : StoresCanonical (s.endTurn n) := h.update
theorem StoresCanonical.fetchFailed {n opcode} : StoresCanonical (s.fetchFailed n opcode) :=
  h.readFailed.setRing.complete
theorem StoresCanonical.bumpDev {n} : StoresCanonical (s.bumpDev n) := h.setRing
theorem StoresCanonical.noteFetch {n} : StoresCanonical (s.noteFetch n) := h.update
theorem StoresCanonical.execDescriptorFetch {dt ring data} :
    NextCanonical (Machine.execDescriptorFetch dt ring data s) := by
  unfold Machine.execDescriptorFetch
  extract_lets
  split
  · split
    · exact h.advance.endTurn.free.fetchFailed
    · exact h.advance.endTurn.bumpDev.noteFetch.setRing.dropUndefined
  · exact h.advance
theorem StoresCanonical.execBufferFetch {dt ring data} : NextCanonical (Machine.execBufferFetch dt ring data s) := by
  refine branch ?_ h.advance
  split
  · exact h.advance.fetchFailed
  · dsimp only
    split
    · exact h.advance.bumpDev.setRing
    · exact h.advance.bumpDev.complete
theorem StoresCanonical.archCfgWrite {v} : StoresCanonical (s.archCfgWrite v) :=
  branch h.setFlag (branch h.plainWriteReg.setWide.setFld.update h.plainWriteReg)
theorem StoresCanonical.ringClr {v} : StoresCanonical (s.ringClr v) :=
  have h1 := branch h.setFld h
  branch h1.setFld h1
theorem StoresCanonical.ringDropClr {v} : StoresCanonical (s.ringDropClr v) := h.foldl fun h => branch h.setFld h

/-! ### The functions of Machine/Pcie -/

theorem StoresCanonical.sendHeld {x1} : StoresCanonical (s.sendHeld x1) := by
  unfold State.sendHeld
  split
  · exact h.msixDue
  · exact h.emit
theorem StoresCanonical.equalised {speed} : StoresCanonical (s.equalised speed) := branch h h.free.update
theorem StoresCanonical.linkTrained {w rev speed} : StoresCanonical (s.linkTrained w rev speed) :=
  ((h.setFld.setFlag.setFld.equalised.update.foldl fun h => h.writeMem).foldl fun h => h.sendHeld).foldl fun h =>
    branch h.drainCq h
theorem StoresCanonical.laneReport : StoresCanonical s.laneReport := branch h.update.event h
theorem StoresCanonical.execLinkUp {dt lanes speed} : NextCanonical (Machine.execLinkUp dt lanes speed s) := by
  unfold Machine.execLinkUp
  extract_lets
  split
  · split
    · exact (branch h.advance.setFld.update h.advance).linkTrained.laneReport
    · exact branch h.advance.setFld.update h.advance
  · exact h.advance
theorem StoresCanonical.retrain : StoresCanonical s.retrain := branch h.count.update h
theorem StoresCanonical.linkCfgWrite {v} : StoresCanonical (s.linkCfgWrite v) :=
  have h1 := branch (branch h h.setFld).update (branch h h.setFld)
  branch h1.retrain h1
theorem StoresCanonical.pcieClr {v} : StoresCanonical (s.pcieClr v) :=
  have h1 := branch h.setReg h
  have h2 := branch h1.setReg h1
  have h3 := branch h2.setReg h2
  branch h3.setReg h3
theorem StoresCanonical.linkError {lane} : StoresCanonical (s.linkError lane) :=
  match lane with
  | some _ => h.free.reportCorrectable.reportCorrectable.setFn
  | none => h.free.reportCorrectable.reportCorrectable
theorem StoresCanonical.writeTable {key bank off bs} : StoresCanonical (s.writeTable key bank off bs) := h.update
theorem StoresCanonical.abandonLoad {l} : StoresCanonical (s.abandonLoad l) := h.free.writeTable.update
theorem StoresCanonical.resetRegs {lo hi} : StoresCanonical (s.resetRegs lo hi) := ⟨Store.wf_filter _ _ _ h.1, h.2⟩
theorem StoresCanonical.stopF0 : StoresCanonical s.stopF0 := (h.foldl fun h => h.abandonLoad).update.resetRegs.count
theorem StoresCanonical.stopF1 : StoresCanonical s.stopF1 := h.update.resetRegs.completeAllOf
theorem StoresCanonical.stopFn {i} : StoresCanonical (s.stopFn i) := branch h.stopF0 h.stopF1
theorem StoresCanonical.functionReset {i} : StoresCanonical (s.functionReset i) := h.setFn.stopFn.count
theorem StoresCanonical.busMasterOff {i} : StoresCanonical (s.busMasterOff i) := branch h.setFn.stopFn.count h
theorem StoresCanonical.linkReset {next perst} : StoresCanonical (s.linkReset next perst) :=
  have h1 := h.setFn.setFn.stopFn
  branch h1.stopFn.setFld.update.count.raiseFast h1.stopFn.setFld.update.count
theorem StoresCanonical.enterL2 : StoresCanonical s.enterL2 := h.count.linkReset.setFn.setFn
theorem StoresCanonical.execHotReset {dt kind} : NextCanonical (Machine.execHotReset dt kind s) := by
  unfold Machine.execHotReset
  extract_lets
  split
  · exact branch h.advance.update h.advance.linkReset
  · exact branch h.advance (branch h.advance.enterL2 (branch h.advance.count h.advance).linkReset)
theorem StoresCanonical.sendIfPending {i v} : StoresCanonical (s.sendIfPending i v) := branch h.setFn.sendVector h
theorem StoresCanonical.sendPending {i} : StoresCanonical (s.sendPending i) := h.foldl fun h => h.sendIfPending
theorem StoresCanonical.setVector {i v e} : StoresCanonical (s.setVector i v e) := h.setFn.sendIfPending
theorem StoresCanonical.closeOpenBufs : StoresCanonical s.closeOpenBufs := by
  unfold State.closeOpenBufs
  refine h.foldl fun h => ?_
  split
  · exact branch h h.closeBuf
  · exact h
theorem StoresCanonical.enterD3hot {i} : StoresCanonical (s.enterD3hot i) :=
  branch h (branch h.setFn.closeOpenBufs h.setFn)
theorem StoresCanonical.resumeCq {q} : StoresCanonical (s.resumeCq q) := branch h.drainHeld.cqDue h.drainHeld
theorem StoresCanonical.returnD0 {i} : StoresCanonical (s.returnD0 i) :=
  have h1 := h.setFn.sendPending
  branch (branch (h1.foldl fun h => branch h.resumeCq h) (branch h1.resumeCq.msixDue h1.resumeCq)) h
theorem StoresCanonical.writeVectorWord {i v j w} : StoresCanonical (s.writeVectorWord i v j w) := h.setVector
theorem StoresCanonical.barWrite {i} {f} (hf : ∀ {t}, StoresCanonical t → StoresCanonical (f t)) :
    StoresCanonical (s.barWrite i f) :=
  branch (h.pf0Write hf) (h.pf1Write hf)
theorem StoresCanonical.marginCommand {off} : StoresCanonical (s.marginCommand off) :=
  branch h.setFn.update h.setFn.free.update
theorem StoresCanonical.capWrite {i off v} : StoresCanonical (s.capWrite i off v) :=
  branch h (branch h.setFn.marginCommand h.setFn)
theorem StoresCanonical.cfgWrite {i off v} : StoresCanonical (s.cfgWrite i off v) :=
  branch h (branch (branch h.capWrite.setFn.setFn.sendPending h.capWrite.setFn.busMasterOff) (branch h.capWrite.setFn
    (branch (branch h.capWrite.setFn.enterD3hot (branch h.capWrite.setFn.returnD0 h.capWrite.setFn)) (branch
    h.capWrite.setFn.sendPending (branch (branch h.capWrite.functionReset h.capWrite.setFn) (branch h.capWrite.setFn
    (branch h.capWrite.setFn h.capWrite)))))))

/-! ### The functions of Machine/Nvm -/

theorem StoresCanonical.program {j} : StoresCanonical (s.program j) :=
  branch (branch h.update h.count) (branch h h.update)
theorem StoresCanonical.journal {type body note} : StoresCanonical (s.journal type body note) := h.program
theorem StoresCanonical.journalOpaque {type note} : StoresCanonical (s.journalOpaque type note) := h.journal
theorem StoresCanonical.releaseCold : StoresCanonical s.releaseCold := h.update
theorem StoresCanonical.faultRecord {r} : StoresCanonical (s.faultRecord r) := h.update.journal
theorem StoresCanonical.nvmReadFailed {len} : StoresCanonical (s.nvmReadFailed len).2 := h.raiseFast.free
theorem StoresCanonical.nvmRead {bs} : StoresCanonical (s.nvmRead bs).2 := by
  unfold State.nvmRead
  extract_lets
  split
  · exact h.free.nvmReadFailed
  · exact h.free
theorem StoresCanonical.writeNvm {a bs} : StoresCanonical (s.writeNvm a bs) := h.update
theorem StoresCanonical.eraseBlock {b} : StoresCanonical (s.eraseBlock b) := h.writeNvm.update
theorem StoresCanonical.journalWear : StoresCanonical s.journalWear := h.journalOpaque
theorem StoresCanonical.compact : StoresCanonical s.compact :=
  (h.writeNvm.foldl fun h => h.eraseBlock).update.journalWear
theorem StoresCanonical.makeRoom {n} : StoresCanonical (s.makeRoom n) := branch h.compact h
theorem StoresCanonical.placeRecord {n bs} : StoresCanonical (s.placeRecord n bs) := h.writeNvm.update
theorem StoresCanonical.writeRecord {type body note} : StoresCanonical (s.writeRecord type body note) :=
  h.makeRoom.update.placeRecord
theorem StoresCanonical.takeNote {x1} : StoresCanonical (s.takeNote x1) := by
  unfold State.takeNote
  split
  · exact h.update
  · exact h.update
  · exact h.update
  · exact h.update
  · exact h.update
  · exact h.update
  · exact h.update
  · exact h
  · exact h
  · exact h
  · exact h
theorem StoresCanonical.readJournal : StoresCanonical s.readJournal := by
  unfold State.readJournal
  exact (h.foldl fun h => h.takeNote).update
theorem StoresCanonical.cutJob : StoresCanonical s.cutJob := by
  unfold State.cutJob
  extract_lets
  split
  · exact h
  · exact branch h.free.update h.free.update.makeRoom.placeRecord
  · exact h.free.update.writeNvm
  · exact branch h.free.update.eraseBlock h.free.update

/-! ### The functions of Machine/Spares -/

theorem StoresCanonical.journalMap : StoresCanonical s.journalMap := h.journalOpaque
theorem StoresCanonical.staleSubsts {p} : StoresCanonical (s.staleSubsts p) := h.update
theorem StoresCanonical.setUnit {cls u v} : StoresCanonical (s.setUnit cls u v) :=
  branch h.update (branch h.update.staleSubsts h.update).journalMap
theorem StoresCanonical.setHolder {cls r u} : StoresCanonical (s.setHolder cls r u) := h.staleSubsts.update
theorem StoresCanonical.setEpoch {cls r e} : StoresCanonical (s.setEpoch cls r e) := h.update
theorem StoresCanonical.bumpEpoch {cls r} : StoresCanonical (s.bumpEpoch cls r) := h.setEpoch
theorem StoresCanonical.setLost {cls r b} : StoresCanonical (s.setLost cls r b) := h.update
theorem StoresCanonical.setKept {r b} : StoresCanonical (s.setKept r b) := h.update
theorem StoresCanonical.setNoSpare {cls r b} : StoresCanonical (s.setNoSpare cls r b) := h.update.setFld
theorem StoresCanonical.mailbox {op used} {f} (hf : ∀ {a0 t}, StoresCanonical t → StoresCanonical (f a0 t)) :
    StoresCanonical (s.mailbox op used f) := by
  unfold State.mailbox
  split
  · exact h
  · exact branch h.finishHead (branch h.finishHead (branch h (hf h)))
theorem StoresCanonical.finishMbox {st result} : StoresCanonical (s.finishMbox st result) := h.finishHead
theorem StoresCanonical.finishWaiting {notify st result} : StoresCanonical (s.finishWaiting notify st result) :=
  branch h.finishMbox h
theorem StoresCanonical.endTestWith {t verdict patterns after} :
    StoresCanonical (s.endTestWith t verdict patterns after) := by
  unfold State.endTestWith
  extract_lets rest _ s1 s2 s3 s4 s5 s6
  have h1 : StoresCanonical s1 := h.update
  have h3 : StoresCanonical s3 := by
    dsimp only [s3]
    split <;> exact h1.setReg.setReg
  have h5 : StoresCanonical s5 := h3.setFld.count.setUnit
  exact (branch (branch h5.faultRecord h5) h5.faultRecord).finishWaiting
theorem StoresCanonical.setQueue {l} : StoresCanonical (s.setQueue l) := h.update.setFlag
theorem StoresCanonical.pushSubst {q} : StoresCanonical (s.pushSubst q) := h.setQueue
theorem StoresCanonical.copyDone : StoresCanonical s.copyDone := h.setQueue
theorem StoresCanonical.queueSubst {q new} : StoresCanonical (s.queueSubst q new) := by
  unfold State.queueSubst
  refine StoresCanonical.pushSubst ?_
  split
  · exact h.setUnit
  · exact h
theorem StoresCanonical.giveBack {q} : StoresCanonical (s.giveBack q) := by
  unfold State.giveBack
  split
  · exact branch h.setUnit h
  · exact h
theorem StoresCanonical.dropTest {t} : StoresCanonical (s.dropTest t) :=
  (h.setQueue.foldl fun h => h.giveBack).endTestWith
theorem StoresCanonical.chooseSpare {q} : StoresCanonical (s.chooseSpare q) := by
  unfold State.chooseSpare
  split
  · exact h.queueSubst
  · split
    · exact h.free.endTestWith.queueSubst
    · refine StoresCanonical.queueSubst ?_
      split
      · exact h.dropTest
      · exact h
theorem StoresCanonical.seekSpare {cls r old why} : StoresCanonical (s.seekSpare cls r old why) :=
  (h.setQueue.foldl fun h => h.giveBack).chooseSpare.foldl fun h => h.chooseSpare
theorem StoresCanonical.replaceChosen {cls u} : StoresCanonical (s.replaceChosen cls u) := by
  unfold State.replaceChosen
  refine h.setQueue.foldl fun h => ?_
  split
  · split
    · exact h.dropTest
    · exact h
  · exact h.chooseSpare
theorem StoresCanonical.testGone {cls u} : StoresCanonical (s.testGone cls u) :=
  h.update.foldl fun h => h.finishWaiting
theorem StoresCanonical.changeWhy {q why} : StoresCanonical (s.changeWhy q why) := h.update
theorem StoresCanonical.retireTested {cls u} : StoresCanonical (s.retireTested cls u) := by
  unfold State.retireTested
  split
  · exact h.free.endTestWith.count
  · exact h.setUnit
theorem StoresCanonical.retire {cls u source} : StoresCanonical (s.retire cls u source) := by
  unfold State.retire
  dsimp only
  split
  · exact h
  · exact h.setUnit
  · exact h.retireTested
  · split
    · exact h.setUnit.replaceChosen
    · split
      · exact h.setUnit.seekSpare
      · split
        · exact h.setUnit.testGone.changeWhy
        · exact branch h.setUnit h.setUnit.seekSpare
theorem StoresCanonical.setTests {l} : StoresCanonical (s.setTests l) := h.update
theorem StoresCanonical.abortTest {t} : StoresCanonical (s.abortTest t) := by
  unfold State.abortTest
  dsimp only
  split
  · split
    · exact branch h.free.endTestWith.queueSubst h.free.endTestWith
    · exact h.free.endTestWith
  · exact h.dropTest
theorem StoresCanonical.abortTests : StoresCanonical s.abortTests := h.foldl fun h => h.abortTest
theorem StoresCanonical.abortRunning : StoresCanonical s.abortRunning := h.foldl fun h => h.abortTest

/-! ### The functions of Machine/Takeover -/

theorem StoresCanonical.putBank {bank st} : StoresCanonical (s.putBank bank st) := branch h.update h.update
theorem StoresCanonical.journalBanks : StoresCanonical s.journalBanks := h.journalOpaque
theorem StoresCanonical.setBank {bank st} : StoresCanonical (s.setBank bank st) := h.putBank.journalBanks
theorem StoresCanonical.bootCoach {u bank} : StoresCanonical (s.bootCoach u bank) := branch h.update h.update
theorem StoresCanonical.restartStandby {u why} : StoresCanonical (s.restartStandby u why) := h.bootCoach.update
theorem StoresCanonical.returnSources {t} : StoresCanonical (s.returnSources t) := by
  unfold State.returnSources
  exact h.icxChange fun h => h.completeAllOf.foldl fun h => h.makePending
theorem StoresCanonical.swapCoaches : StoresCanonical s.swapCoaches :=
  have h1 := h.setFld.setHolder.bumpEpoch
  branch h1.setUnit h1.setUnit.setHolder.bumpEpoch.setUnit
theorem StoresCanonical.restartFormer {old} : StoresCanonical (s.restartFormer old) := branch h h.restartStandby
theorem StoresCanonical.afterTakeOver {old expired x3} : StoresCanonical (s.afterTakeOver old expired x3) := by
  unfold State.afterTakeOver
  split
  · exact
      have h1 := h.update.setBank.finishWaiting
      branch h1.restartFormer h1
  · exact h.update.setBank.restartFormer
  · exact h.restartFormer
theorem StoresCanonical.showItem {item b} : StoresCanonical (s.showItem item b) := h.setFld
theorem StoresCanonical.rerunMailbox : StoresCanonical s.rerunMailbox :=
  have h1 := branch h.update.setFld h
  branch ((branch h1.showItem.update h1).setTests.setRing) h
theorem StoresCanonical.takeOver {why} : StoresCanonical (s.takeOver why) :=
  (branch h.rerunMailbox h).abortRunning.swapCoaches.update.event.returnSources.afterTakeOver
theorem StoresCanonical.requestTakeOver {why} : StoresCanonical (s.requestTakeOver why) := branch h.update h.takeOver
theorem StoresCanonical.askTakeOver {why} : StoresCanonical (s.askTakeOver why) :=
  branch h (branch h.update (branch h h.requestTakeOver))
theorem StoresCanonical.standbyExpired {u} : StoresCanonical (s.standbyExpired u) := by
  unfold State.standbyExpired
  split
  · extract_lets
    split
    · exact h.update.finishWaiting
    · exact h.update.finishWaiting
    · exact h.update.finishWaiting
    · exact h.update
  · split
    · exact h
    · exact h.update
    · exact h.restartStandby.update
    · exact h.restartStandby
theorem StoresCanonical.coachGone {u} : StoresCanonical (s.coachGone u) :=
  branch h.update.askTakeOver h.standbyExpired

/-! ### The functions of Machine/Faults -/

theorem StoresCanonical.setBucket {src inst l} : StoresCanonical (s.setBucket src inst l) := h.update
theorem StoresCanonical.laneCheck : StoresCanonical s.laneCheck := by
  unfold State.laneCheck
  extract_lets
  split
  · exact h.setFld.setUnit.retrain.update
  · exact h
theorem StoresCanonical.retireLoop {u} : StoresCanonical (s.retireLoop u) :=
  have h1 := h.retireTested.setFld
  branch h1.setFlag h1
theorem StoresCanonical.leftWithout {cls r u source} : StoresCanonical (s.leftWithout cls r u source) :=
  h.event.faultRecord.setNoSpare
theorem StoresCanonical.coachLost {u source} : StoresCanonical (s.coachLost u source) := h.leftWithout.setLost
theorem StoresCanonical.spareRow {n} : StoresCanonical (s.spareRow n) :=
  branch h (branch h.pushSubst h.setUnit.pushSubst)
theorem StoresCanonical.lastingEffect {src inst} : StoresCanonical (s.lastingEffect src inst) := by
  unfold State.lastingEffect
  extract_lets
  split
  · exact h.spareRow
  · exact h.retireTested.setFld
  · exact h.laneCheck
  · exact h.retireTested
  · exact branch h.retire (branch h.retireLoop (branch h.retireTested.coachLost.coachGone h))
  · exact branch h.retire (branch h.retireLoop (branch h.retireTested.coachLost.coachGone h))
  · exact branch h.retire (branch h.retireLoop (branch h.retireTested.coachLost.coachGone h))
  · exact branch h.retire (branch h.retireLoop (branch h.retireTested.coachLost.coachGone h))
  · exact branch h.retire (branch h.retireLoop (branch h.retireTested.coachLost.coachGone h))
  · exact branch h.retire (branch h.retireLoop (branch h.retireTested.coachLost.coachGone h))
  · exact h
theorem StoresCanonical.lasting {src inst unit} : StoresCanonical (s.lasting src inst unit) :=
  (branch h.event h.event.faultRecord).count.lastingEffect
theorem StoresCanonical.chargeFor {src inst unit} : StoresCanonical (s.chargeFor src inst unit) :=
  branch h.count (branch h.count.setBucket.lasting h.count.setBucket)
theorem StoresCanonical.charge {src inst} : StoresCanonical (s.charge src inst) := h.chargeFor
theorem StoresCanonical.chargeMemory {inst} : StoresCanonical (s.chargeMemory inst) := h.charge
theorem StoresCanonical.rowAlone {n source} : StoresCanonical (s.rowAlone n source) := h.leftWithout.chargeMemory
theorem StoresCanonical.chargeRow {n} : StoresCanonical (s.chargeRow n) := h.charge
theorem StoresCanonical.chargeSram {e} : StoresCanonical (s.chargeSram e) :=
  (h.foldl fun h => h.chargeRow).foldl fun h => h.raiseFast.chargeMemory
theorem StoresCanonical.execPcieCorrectableError {dt lane} :
    NextCanonical (Machine.execPcieCorrectableError dt lane s) := by
  refine branch h.advance (charge ?_)
  split
  · exact h.advance.linkError.count.update
  · exact h.advance.linkError
theorem StoresCanonical.applyNewHolder {q u e} : StoresCanonical (s.applyNewHolder q u e) := by
  unfold State.applyNewHolder
  extract_lets s0 s1 s2 old s3 s4 s5 s6
  have h2 : StoresCanonical s2 := (branch h.setKept h).setHolder.setEpoch.setLost.setNoSpare.setUnit
  have h3 : StoresCanonical s3 := by
    dsimp only [s3]
    split
    · exact h2
    · split
      · exact h2.setUnit
      · exact h2.setUnit
      · exact branch h2.setUnit.setTests.setReg h2.setUnit
  have h6 : StoresCanonical s6 := (branch h3 h3.event).faultRecord.journalMap.count
  split
  · exact h6.finishWaiting
  · exact h6
theorem StoresCanonical.applyNoSpare {q} : StoresCanonical (s.applyNoSpare q) :=
  branch h.leftWithout.setKept.journalMap h.leftWithout.setLost
theorem StoresCanonical.applySubst {q} : StoresCanonical (s.applySubst q) := by
  unfold State.applySubst
  split
  · exact branch h.count h.rowAlone
  · split
    · split
      · exact h.finishWaiting
      · exact h.giveBack.testGone
      · exact h.giveBack
    · split
      · exact h.applyNewHolder
      · exact h.applyNoSpare
theorem StoresCanonical.coupleSpares {t first} : StoresCanonical (s.coupleSpares t first) :=
  h.setQueue.foldl fun h => h.applySubst
theorem StoresCanonical.execSpareAssign : NextCanonical (Machine.execSpareAssign s) := by
  unfold Machine.execSpareAssign
  refine h.mailbox fun h => ?_
  extract_lets
  split
  · exact h.finishMbox
  · split
    · exact h.finishMbox
    · split
      · split
        · exact h.finishMbox
        · exact h.startHead.pushSubst
      · exact branch h.finishMbox (branch h.finishMbox h.startHead.pushSubst)
theorem StoresCanonical.startTest {cls u notify} : StoresCanonical (s.startTest cls u notify) := by
  unfold State.startTest
  extract_lets
  split
  · exact h.setUnit.setTests.setReg
  · split
    · exact h
    · split
      · exact h
      · exact h.queueSubst.setTests
theorem StoresCanonical.execSelftestUnit : NextCanonical (Machine.execSelftestUnit s) := by
  unfold Machine.execSelftestUnit
  refine h.mailbox fun h => ?_
  extract_lets
  split
  · exact h.finishMbox
  · split
    · exact h.finishMbox
    · split
      · exact h.startHead.startTest
      · split
        · exact branch h.finishMbox h.startHead.startTest
        · exact h.finishMbox
theorem StoresCanonical.execSelftestComplete {dt cls pass patterns} :
    NextCanonical (Machine.execSelftestComplete dt cls pass patterns s) := by
  unfold Machine.execSelftestComplete
  extract_lets
  split
  · exact h.advance
  · exact
      have h1 := h.advance.endTestWith
      branch h1.charge h1
theorem StoresCanonical.execSelftestTurn {dt cls} : NextCanonical (Machine.execSelftestTurn dt cls s) := by
  unfold Machine.execSelftestTurn
  extract_lets
  split
  · split
    · exact h.advance
    · extract_lets
      split
      · exact branch h.advance.update.count h.advance.update.startTest
      · exact h.advance.update
      · exact h.advance.update.startTest
  · exact h.advance
theorem StoresCanonical.takenFromTest {cls u r} : StoresCanonical (s.takenFromTest cls u r) := by
  unfold State.takenFromTest
  split
  · exact h.free.endTestWith
  · exact h.setUnit
theorem StoresCanonical.sprClr {v} : StoresCanonical (s.sprClr v) :=
  have h1 := h.foldl fun h => branch h.setReg h
  branch (h1.foldl fun h => h.setFld) h1
theorem StoresCanonical.fltClr {v} : StoresCanonical (s.fltClr v) := h.foldl fun h => branch h.setFld.setFld h

/-! ### The functions of Machine/IcxCmds -/

theorem StoresCanonical.answer {v} : StoresCanonical (s.answer v) := h.update
theorem StoresCanonical.barRead {i} {f} (hf : ∀ {t}, StoresCanonical t → StoresCanonical (f t).2) :
    StoresCanonical (s.barRead i f) :=
  branch (hf h).answer (branch h.answer h)
theorem StoresCanonical.completeFastCharged {t n} : StoresCanonical (s.completeFastCharged t n) :=
  branch h.completeFast h.completeFast.charge
theorem StoresCanonical.execCoachmanIcxClaim {core fast} :
    NextCanonical (Machine.execCoachmanIcxClaim core fast s) := by
  unfold Machine.execCoachmanIcxClaim
  split
  · refine StoresCanonical.answer ?_
    split
    · exact h.claimFast
    · exact h.claimNormal
  · exact h
theorem StoresCanonical.icxCntClr {v} : StoresCanonical (s.icxCntClr v) := h.foldl fun h => branch h.setFld h

/-! ### The functions of Machine/Power -/

theorem StoresCanonical.abortSleep : StoresCanonical s.abortSleep := h.update.setFlag.count.finishWaiting
theorem StoresCanonical.wakeFires {src} : StoresCanonical (s.wakeFires src) :=
  branch h (branch h (branch (branch h.setFld.abortSleep h.setFld) (branch h.setFld.abortSleep h.setFld).update))

/-! ### The functions of Machine/Sequencer -/

theorem StoresCanonical.candidate {lat} : StoresCanonical (s.candidate lat) :=
  branch h.update (branch h.update.count (branch h.update.count (branch h.count h.update)))
theorem StoresCanonical.trigCount : StoresCanonical s.trigCount := branch h.update.candidate h.update

/-! ### The functions of Machine/Timebase -/

theorem StoresCanonical.setTrigOut {k t} : StoresCanonical (s.setTrigOut k t) := h.update
theorem StoresCanonical.queueTrig {k ofs} : StoresCanonical (s.queueTrig k ofs) := h.setTrigOut
theorem StoresCanonical.setCompare {n c} : StoresCanonical (s.setCompare n c) := h.update
theorem StoresCanonical.armCompare {n} : StoresCanonical (s.armCompare n) := h.setCompare.setFlag
theorem StoresCanonical.cmpValHi {n v} : StoresCanonical (s.cmpValHi n v) :=
  branch h.setReg.setCompare.setFld.armCompare h.setReg.setCompare.setFld
theorem StoresCanonical.cmpCtl {n v} : StoresCanonical (s.cmpCtl n v) :=
  branch (branch h.plainWriteReg h.plainWriteReg.armCompare) h.plainWriteReg.setFlag
theorem StoresCanonical.reloadCompare {n} : StoresCanonical (s.reloadCompare n) := h.setCompare.count
theorem StoresCanonical.fireOutputs {n} : StoresCanonical (s.fireOutputs n) :=
  have h1 := h.foldl fun h => branch h.queueTrig h
  branch h1.setPin.update h1
theorem StoresCanonical.fire {n} : StoresCanonical (s.fire n) :=
  have h1 := h.setFld.fireOutputs
  have h2 := branch h1.raise h1
  have h3 := branch h2.wakeFires h2
  have h4 := branch h3.reloadCompare h3.setFlag
  branch h4.candidate h4
theorem StoresCanonical.setShadow {n rising v} : StoresCanonical (s.setShadow n rising v) := h.update
theorem StoresCanonical.stampReg {n rising t} : StoresCanonical (s.stampReg n rising t) := h.setWide.setFlag
theorem StoresCanonical.stamp {n rising} : StoresCanonical (s.stamp n rising) :=
  branch h.stampReg (branch h.setShadow.setFlag h.count)
theorem StoresCanonical.captureEdge {n src rising} : StoresCanonical (s.captureEdge n src rising) :=
  branch h.count.setFlag (branch h (branch h.count h.stamp))
theorem StoresCanonical.capRelease {n} : StoresCanonical (s.capRelease n) := by
  unfold State.capRelease
  split
  · extract_lets move
    have hmove {t : State} {b : Bool} (ht : StoresCanonical t) : StoresCanonical (move t b) := by
      dsimp only [move]
      split
      · exact ht.setShadow.stampReg
      · exact ht
    exact (hmove (hmove h)).setFlag.setFlag
  · exact h
theorem StoresCanonical.capStat {n v} : StoresCanonical (s.capStat n v) :=
  have h1 := branch h.setFlag h
  have h2 := branch h1.setFld h1
  branch h2.capRelease h2
theorem StoresCanonical.capCtl {n v} : StoresCanonical (s.capCtl n v) :=
  have h1 := branch h.setFlag.setFlag h
  branch h1.setFlag.setFld h1.setFlag
theorem StoresCanonical.gcCtl {n v} : StoresCanonical (s.gcCtl n v) :=
  have h1 := branch h.setFlag.setFlag.setWide h.setFlag.setFlag
  have h2 := branch h1.setFlag h1
  have h3 := branch h2.setFld h2
  branch h3.setFlag h3
theorem StoresCanonical.syncCtl {v} : StoresCanonical (s.syncCtl v) :=
  branch h.setFlag.setFlag (branch h.setFlag.setFlag h.setFlag)
theorem StoresCanonical.loadTimebase : StoresCanonical s.loadTimebase := h.update.setWide.setFlag.setFlag.event
theorem StoresCanonical.repeatSync : StoresCanonical s.repeatSync := branch h.setPin h
theorem StoresCanonical.syncEdge {level} : StoresCanonical (s.syncEdge level) := h.update.setPin
theorem StoresCanonical.execTsyncOutInactive {dt} : NextCanonical (Machine.execTsyncOutInactive dt s) := by
  unfold Machine.execTsyncOutInactive
  extract_lets
  split
  · exact branch h.advance.setPin.update h.advance
  · exact h.advance
theorem StoresCanonical.syncOut {v} : StoresCanonical (s.syncOut v) :=
  branch h.plainWriteReg h.plainWriteReg.update.setPin
theorem StoresCanonical.ptmRequest : StoresCanonical s.ptmRequest := branch h.update h
theorem StoresCanonical.ptmCtl {v} : StoresCanonical (s.ptmCtl v) :=
  have h1 := branch h h.update.setFld
  branch h1.ptmRequest h1

/-! ### The functions of Machine/Exposure -/

theorem StoresCanonical.modFrame {tick f} : StoresCanonical (s.modFrame tick f) := h.update
theorem StoresCanonical.limitedEvent {code sub status source args} :
    StoresCanonical (s.limitedEvent code sub status source args) :=
  branch h h.update.event
theorem StoresCanonical.execExposureIntervalStart {dt} : NextCanonical (Machine.execExposureIntervalStart dt s) := by
  unfold Machine.execExposureIntervalStart
  extract_lets
  split
  · split
    · exact branch h.advance.modFrame h.advance
    · exact h.advance
  · exact h.advance
theorem StoresCanonical.execExposureIntervalEnd {dt light} :
    NextCanonical (Machine.execExposureIntervalEnd dt light s) := by
  unfold Machine.execExposureIntervalEnd
  extract_lets
  split
  · split
    · exact branch h.advance.modFrame h.advance
    · exact h.advance
  · exact h.advance
theorem StoresCanonical.setFirefly {f x} : StoresCanonical (s.setFirefly f x) := h.update
theorem StoresCanonical.settleFireflies : StoresCanonical s.settleFireflies := h.foldl fun h => branch h h.setPin
theorem StoresCanonical.suppressPulse {frame f} : StoresCanonical (s.suppressPulse frame f) := by
  unfold State.suppressPulse
  extract_lets s1 s2 mask s3 s4
  have h3 : StoresCanonical s3 := h.count.setFld.modFrame.update
  exact branch h3.limitedEvent h3.limitedEvent.update
theorem StoresCanonical.startPulse {x f p} : StoresCanonical (s.startPulse x f p) :=
  branch h.modFrame.suppressPulse h.modFrame.setFirefly.setPin
theorem StoresCanonical.execFireflyPulseStart {dt f} : NextCanonical (Machine.execFireflyPulseStart dt f s) := by
  unfold Machine.execFireflyPulseStart
  extract_lets
  split
  · split
    · exact branch h.advance.startPulse h.advance
    · exact h.advance
  · exact h.advance
theorem StoresCanonical.execReadoutStart {dt} : NextCanonical (Machine.execReadoutStart dt s) := by
  unfold Machine.execReadoutStart
  extract_lets
  split
  · exact branch h.advance.modFrame h.advance
  · exact h.advance
theorem StoresCanonical.droop {mv} : StoresCanonical (s.droop mv) := by
  unfold State.droop
  split
  · exact branch h.modFrame.count.limitedEvent h
  · exact h

/-! ### The functions of Machine/Readout -/

theorem StoresCanonical.chargeSlot {f used conv} : StoresCanonical (s.chargeSlot f used conv) :=
  (h.count.foldl fun h => branch h.charge (h.foldl fun h => h.charge)).foldl fun h => branch h.charge h
theorem StoresCanonical.execRowSlot {dt analog} : NextCanonical (Machine.execRowSlot dt analog s) := by
  unfold Machine.execRowSlot
  extract_lets
  split
  · exact branch h.advance.modFrame.chargeSlot h.advance
  · exact h.advance
theorem StoresCanonical.execAxlePacket {dt lane flips} : NextCanonical (Machine.execAxlePacket dt lane flips s) := by
  unfold Machine.execAxlePacket
  extract_lets
  split
  · exact branch (branch h.advance.modFrame h.advance.modFrame.count.charge) h.advance
  · exact h.advance

/-! ### The functions of Machine/Companion -/

theorem StoresCanonical.modCam {p f} : StoresCanonical (s.modCam p f) := h.update
theorem StoresCanonical.removeCam {x} : StoresCanonical (s.removeCam x) := h.update
theorem StoresCanonical.malformed {x} : StoresCanonical (s.malformed x) := h.count.removeCam
theorem StoresCanonical.dropCam {n st} : StoresCanonical (s.dropCam n st) := h.count.limitedEvent
theorem StoresCanonical.showBuffered : StoresCanonical s.showBuffered := h.foldl fun h => h.setFlag
theorem StoresCanonical.camStart {vc n} : StoresCanonical (s.camStart vc n) :=
  branch (branch h.update.setWide.dropCam h.update.setWide) h.update.setWide.update
theorem StoresCanonical.csiHeader {x1} : StoresCanonical (s.csiHeader x1).1 := by
  unfold State.csiHeader
  split
  · exact h
  · exact h.count
  · exact h.count
theorem StoresCanonical.showLanes {l} : StoresCanonical (s.showLanes l) := h.setFld.setFlag
theorem StoresCanonical.camEnd {x} : StoresCanonical (s.camEnd x) := by
  unfold State.camEnd
  split
  · exact h.malformed
  · split
    · exact h.modCam.modFrame
    · exact h.removeCam.dropCam
    · exact h.removeCam
theorem StoresCanonical.execMergeBufferDispatch {dt} : NextCanonical (Machine.execMergeBufferDispatch dt s) := by
  unfold Machine.execMergeBufferDispatch
  extract_lets
  split
  · exact branch h.advance h.advance.modCam.showBuffered
  · exact h.advance
theorem StoresCanonical.settleTrigs : StoresCanonical s.settleTrigs := h.foldl fun h => branch h h.setPin
theorem StoresCanonical.edgeTrigs {n} : StoresCanonical (s.edgeTrigs n) := h.foldl fun h => branch h.queueTrig h
theorem StoresCanonical.endTrigs : StoresCanonical s.endTrigs := (h.foldl fun h => h.setTrigOut).settleTrigs
theorem StoresCanonical.execTrigOutActive {dt k} : NextCanonical (Machine.execTrigOutActive dt k s) := by
  unfold Machine.execTrigOutActive
  extract_lets
  split
  · exact branch h.advance h.advance.setTrigOut.setPin
  · exact h.advance

/-! ### The functions of Machine/Outputs -/

theorem StoresCanonical.passClaims {n tick} : StoresCanonical (s.passClaims n tick) := h.setClaims
theorem StoresCanonical.fillBuf {n bytes tick tag st} : StoresCanonical (s.fillBuf n bytes tick tag st) := by
  unfold State.fillBuf
  split
  · exact h
  · exact h.postMem.setRing.closeBuf.setClaims
theorem StoresCanonical.placeOutput {n o tick tag} : StoresCanonical (s.placeOutput n o tick tag) := by
  have hd : StoresCanonical ((s.drayFull false).2.passClaims n tick) := h.drayFull.passClaims
  unfold State.placeOutput
  dsimp only
  split
  · exact hd.count
  · exact branch hd.count.setClaims (branch hd.fillBuf hd.fillBuf.count)
theorem StoresCanonical.handOutput {o tick tag} : StoresCanonical (s.handOutput o tick tag) := by
  have hb {c : Prop} [Decidable c] {kind cam items payload} :
      StoresCanonical (if c then s.writeBlock kind cam items payload else ([], s)).2 := by
    split
    · exact h.writeBlock
    · exact h
  unfold State.handOutput
  dsimp only
  split
  · exact hb.eventsN.placeOutput
  · exact hb.eventsN.count
theorem StoresCanonical.handDisplay {f cam time v ds} : StoresCanonical (s.handDisplay f cam time v ds) := by
  refine branch (branch h.count ?_) h
  split
  · exact h
  · exact h.free.update.handOutput
theorem StoresCanonical.handCoding {f cam time v ds} : StoresCanonical (s.handCoding f cam time v ds) := by
  refine branch ?_ h
  split
  · exact h
  · exact h.free.handOutput
theorem StoresCanonical.handMv {f cam time v ds} : StoresCanonical (s.handMv f cam time v ds) :=
  branch (h.foldl fun h => branch h h.handOutput) h
theorem StoresCanonical.handOutputs {f cam time v ds} : StoresCanonical (s.handOutputs f cam time v ds) :=
  h.handDisplay.handCoding.handMv
theorem StoresCanonical.claimFrame {n tick} : StoresCanonical (s.claimFrame n tick) := branch h h.setRing
theorem StoresCanonical.dropClaims : StoresCanonical s.dropClaims := h.foldl fun h => branch h h.setClaims
theorem StoresCanonical.claimOutputs {tick} : StoresCanonical (s.claimOutputs tick) :=
  h.dropClaims.foldl fun h => branch (branch h.claimFrame.claimFrame h.setClaims) h
theorem StoresCanonical.loseOutputs {f js time} : StoresCanonical (s.loseOutputs f js time) := by
  unfold State.loseOutputs
  refine h.foldl fun h => ?_
  split
  · exact h
  · exact h.passClaims.foldl fun h => h.fillBuf
theorem StoresCanonical.handStats {f v ts} : StoresCanonical (s.handStats f v ts) := branch h.hand h
theorem StoresCanonical.keepStats {f ts} : StoresCanonical (s.keepStats f ts) := h.update

/-! ### The functions of Machine/Segment -/

theorem StoresCanonical.capReached {f} : StoresCanonical (s.capReached f) := branch h h.modFrame.count.limitedEvent
theorem StoresCanonical.addRound {f time d} : StoresCanonical (s.addRound f time d) :=
  branch h.count.count.count.modFrame.capReached h.count.count.count.modFrame

/-! ### The functions of Machine/Detect -/

theorem StoresCanonical.setCalEntry {item index v} : StoresCanonical (s.setCalEntry item index v) := h.update
theorem StoresCanonical.applyEntries {es} : StoresCanonical (s.applyEntries es) := h.foldl fun h => h.setCalEntry
theorem StoresCanonical.moveEntries {es} : StoresCanonical (s.moveEntries es) := h.foldl fun h => h.setCalEntry
theorem StoresCanonical.stageClassB {c} : StoresCanonical (s.stageClassB c) := h.update
theorem StoresCanonical.addDrift {x y kind} : StoresCanonical (s.addDrift x y kind) := branch h.update.setFld h
theorem StoresCanonical.addDrifts {ps} : StoresCanonical (s.addDrifts ps) := h.foldl fun h => h.addDrift
theorem StoresCanonical.classEvent {p} : StoresCanonical (s.classEvent p) := h.event
theorem StoresCanonical.classPixels {ps} : StoresCanonical (s.classPixels ps) :=
  have h1 := h.foldl fun h => h.classEvent
  branch h (branch h1.stageClassB h1.addDrifts)
theorem StoresCanonical.observePixel {d draw found p} :
    StoresCanonical (State.observePixel d draw (s, found) p).1 := by
  unfold State.observePixel
  dsimp only
  split
  · exact h.update
  · exact h.update
theorem StoresCanonical.advanceGroup {d} : StoresCanonical (s.advanceGroup d) := branch h.update h
theorem StoresCanonical.detectDrift {f ds} : StoresCanonical (s.detectDrift f ds) := by
  refine branch h ?_
  split
  · exact h
  · exact (foldlOn Prod.fst h.free fun h => h.observePixel).update.advanceGroup.classPixels
theorem StoresCanonical.copyBank {key} : StoresCanonical (s.copyBank key) := h.update
theorem StoresCanonical.writeFlat {a g} : StoresCanonical (s.writeFlat a g) := by
  have h1 {k l} : StoresCanonical ((s.free.2.copyBank k).copyBank l) := h.free.copyBank.copyBank
  unfold State.writeFlat
  refine (foldl (foldl h1 fun h => foldl h fun {t k} h => ?_) fun h => h.writeTable).setReg.update
  split
  · exact h.writeTable
  · exact h
theorem StoresCanonical.endFlat {a st result} : StoresCanonical (s.endFlat a st result) :=
  h.update.setFld.finishWaiting
theorem StoresCanonical.endCalRun {r st} : StoresCanonical (s.endCalRun r st) := h.update.setFld.finishWaiting
theorem StoresCanonical.stopCalRun : StoresCanonical s.stopCalRun := by
  unfold State.stopCalRun
  split
  · exact branch h.endCalRun h
  · exact h
theorem StoresCanonical.settleFlat : StoresCanonical s.settleFlat := by
  unfold State.settleFlat
  split
  · exact h
  · split
    · exact h
    · exact branch h.writeFlat.endFlat h
theorem StoresCanonical.flatFrame {f v ds ts} : StoresCanonical (s.flatFrame f v ds ts) := by
  unfold State.flatFrame
  split
  · exact h
  · exact branch h (branch (branch h.endFlat h.update) (branch h.endFlat (branch h.update.settleFlat (branch h.endFlat
      h.update))))

/-! ### The functions of Machine/Pipeline -/

theorem StoresCanonical.learn {f d} : StoresCanonical (s.learn f d) := h.update
theorem StoresCanonical.markPiped {f cam done} : StoresCanonical (s.markPiped f cam done) := h.modFrame
theorem StoresCanonical.pipeLost {f} : StoresCanonical (s.pipeLost f) :=
  h.markPiped.handStats.keepStats.flatFrame.loseOutputs
theorem StoresCanonical.pipeOwn {f0} : StoresCanonical (s.pipeOwn f0) := by
  have hd {c : Prop} [Decidable c] : StoresCanonical (if c then s.free else (0, s)).2 := by
    split
    · exact h.free
    · exact h
  unfold State.pipeOwn
  exact branch h.pipeLost ((((hd.modFrame.markPiped.foldl fun h => h.learn).count.foldl fun h =>
    h.addRound).handOutputs.handStats.keepStats).detectDrift.flatFrame)
theorem StoresCanonical.pipeCam {f x} : StoresCanonical (s.pipeCam f x) :=
  have h1 := h.update.modFrame.markPiped
  branch h.update.markPiped.loseOutputs ((branch h1.learn.count.addRound h1.learn.count).handOutputs)
theorem StoresCanonical.pipeline {cam} : StoresCanonical (s.pipeline cam) := by
  unfold State.pipeline
  split
  · split
    · exact branch h.pipeOwn h
    · exact h
  · split
    · split
      · exact h.pipeCam
      · exact h.update
    · exact h

/-! ### The functions of Machine/Eject -/

theorem StoresCanonical.moveDuty {window ps} : StoresCanonical (s.moveDuty window ps) := h.foldl fun h => h.update
theorem StoresCanonical.commitPlan {x d tick x4} : StoresCanonical (s.commitPlan x d tick x4).1 := by
  unfold State.commitPlan
  split
  · exact h.update
  · exact h.moveDuty.update.count
  · exact h
theorem StoresCanonical.protect {id r} : StoresCanonical (s.protect id r) := h.update
theorem StoresCanonical.noteFired {id r tick valves} : StoresCanonical (s.noteFired id r tick valves) := h.update
theorem StoresCanonical.pastConflicts {ds p} : StoresCanonical (pastConflicts (s, ds) p).1 := by
  unfold Machine.pastConflicts
  dsimp only
  split
  · exact h
  · exact h.count
theorem StoresCanonical.noteQueued {d lastFire} : StoresCanonical (s.noteQueued d lastFire) := by
  unfold State.noteQueued
  split
  · exact h
  · exact h.update
theorem StoresCanonical.fireDecision {v tick r ds id} : StoresCanonical (fireDecision v tick r (s, ds) id).1 := by
  have hplans {s : State} {d tick} {l : List (Valve × Plan)} (h : StoresCanonical s) :
      StoresCanonical (l.foldl (fun (a : State × List Time) p =>
        ((a.1.commitPlan p.1 d tick p.2).1, a.2 ++ (a.1.commitPlan p.1 d tick p.2).2.toList)) (s, [])).1 :=
    foldlOn Prod.fst h fun h => h.commitPlan
  unfold Machine.fireDecision
  split
  · exact h
  · dsimp only
    split
    · exact h.count.protect
    · split
      · exact h.count.count.count.count.count.protect
      · split
        · exact branch h.count.count.count.count.protect h.count.count.count.count
        · exact (hplans h.count.count.count.count).noteFired.noteQueued
theorem StoresCanonical.queueTick {v noFire tick ds} : StoresCanonical (s.queueTick v noFire tick ds).1 :=
  foldlOn Prod.fst (foldlOn Prod.fst h.update fun h => h.pastConflicts) fun h => h.fireDecision

/-! ### The functions of Machine/Tracker -/

theorem StoresCanonical.modTrack {i f} : StoresCanonical (s.modTrack i f) := h.update
theorem StoresCanonical.freeTrack {i} : StoresCanonical (s.freeTrack i) := h.modTrack
theorem StoresCanonical.allocate {i t} (ha : s.allocate = some (i, t)) : StoresCanonical t := by
  simp only [State.allocate, Option.map_eq_some_iff, Prod.mk.injEq] at ha
  obtain ⟨_, _, _, rfl⟩ := ha
  exact h.update
theorem StoresCanonical.takeId : StoresCanonical s.takeId.2 := h.update
theorem StoresCanonical.countIn {v tick t o i} : StoresCanonical (s.countIn v tick t o i) :=
  branch h.modTrack.count h.modTrack
theorem StoresCanonical.addUntracked {tick u} : StoresCanonical (s.addUntracked tick u) := by
  unfold State.addUntracked
  split
  · exact h.modFrame
  · exact h.update
theorem StoresCanonical.loseSighting {v f r o} : StoresCanonical (s.loseSighting v f r o) := h.takeId.addUntracked
theorem StoresCanonical.noContext {v f r o} : StoresCanonical (s.noContext v f r o) := h.count.loseSighting
theorem StoresCanonical.startTrack {v f r l o} : StoresCanonical (startTrack v f r (s, l) o).1 := by
  unfold Machine.startTrack
  split
  · exact h.noContext
  · next ha => exact (h.allocate ha).takeId.modTrack
theorem StoresCanonical.splitTrack {v f r i l o} : StoresCanonical (splitTrack v f r i (s, l) o).1 := by
  unfold Machine.splitTrack
  extract_lets t
  split
  · exact h.modTrack.noContext
  · next ha => exact (h.modTrack.allocate ha).takeId.modTrack.count.countIn
theorem StoresCanonical.resolveClaims {v f r claims l i} :
    StoresCanonical (resolveClaims v f r claims (s, l) i).1 := by
  unfold Machine.resolveClaims
  extract_lets mine
  split
  · exact h
  · refine countIn ?_
    split
    · exact h.count
    · exact foldlOn Prod.fst h fun h => h.splitTrack
theorem StoresCanonical.overloadSegment {v f r draw o} : StoresCanonical (s.overloadSegment v f r draw o) := by
  unfold State.overloadSegment
  refine StoresCanonical.loseSighting ?_
  split
  · exact h.modTrack
  · exact h
theorem StoresCanonical.countMisses {v r live counted} : StoresCanonical (s.countMisses v r live counted) :=
  branch h (h.foldl fun h => branch h h.modTrack)
theorem StoresCanonical.ownRound {v f r} : StoresCanonical (s.ownRound v f r) :=
  ((foldlOn Prod.fst (foldlOn Prod.fst
    (h.free.foldl fun h => branch (h.foldl fun h => h.modTrack) h)
    fun h => h.resolveClaims) fun h => h.startTrack).foldl fun h => h.overloadSegment).countMisses
theorem StoresCanonical.companionRound {v f r} : StoresCanonical (s.companionRound v f r) :=
  (h.free.foldl fun h => h.modTrack).count.foldl fun h => h.overloadSegment

/-! ### The functions of Machine/Decide -/

theorem StoresCanonical.decideOne {v draw d} : StoresCanonical (State.decideOne v draw s d).1 := by
  unfold State.decideOne
  split
  · exact h
  · exact (branch h.count h).count
theorem StoresCanonical.carryOut {v f ds0} : StoresCanonical (s.carryOut v f ds0) := by
  refine foldl (queueTick (foldl h.free fun {t d} h => ?_)) fun h => h.hand.foldl fun h => h.hand
  split
  · exact h.modTrack
  · exact h
theorem StoresCanonical.endTrack {tick i} : StoresCanonical (s.endTrack tick i) :=
  branch h.takeId.addUntracked.freeTrack (branch (branch h.freeTrack h.modTrack) h)
theorem StoresCanonical.contextErrors {tick contexts} : StoresCanonical (s.contextErrors tick contexts) :=
  h.foldl fun h => branch h.endTrack.raiseFast.charge h
theorem StoresCanonical.sramErrors {tick e} : StoresCanonical (s.sramErrors tick e) := h.contextErrors.chargeSram
theorem StoresCanonical.decideDue {v f} : StoresCanonical (s.decideDue v f).1 :=
  foldlOn Prod.fst (branch h.free.count.capReached h.free.count) fun h => h.decideOne
theorem StoresCanonical.releaseOver {v} : StoresCanonical (s.releaseOver v) := h.foldl fun h => h.freeTrack
theorem StoresCanonical.flushTracks {tick tag service all} : StoresCanonical (s.flushTracks tick tag service all) :=
  h.update.foldl fun h => h.hand
theorem StoresCanonical.settleDrain : StoresCanonical s.settleDrain := by
  unfold State.settleDrain
  split
  · exact h
  · extract_lets t _ s1
    have h1 : StoresCanonical s1 := branch h h.flushTracks.update
    exact branch h1.update.setFlag h1
theorem StoresCanonical.dropFrames : StoresCanonical s.dropFrames := h.update
theorem StoresCanonical.endFrame {f} : StoresCanonical (s.endFrame f) := h.modFrame.dropFrames.settleDrain
theorem StoresCanonical.finishTick {f0} : StoresCanonical (s.finishTick f0) :=
  h.decideDue.carryOut.releaseOver.endFrame
theorem StoresCanonical.endRound {f r} : StoresCanonical (s.endRound f r) := by
  unfold State.endRound
  extract_lets
  split
  · exact branch h.modFrame (branch h.modFrame.dropFrames h.modFrame.finishTick)
  · exact h.modFrame
theorem StoresCanonical.runRound {own} : StoresCanonical (s.runRound own) := by
  unfold State.runRound
  split
  · exact h
  · split
    · exact branch h.finishTick h
    · exact branch h (branch h.ownRound h.companionRound).endRound

/-! ### The functions of Machine/Weevil -/

theorem StoresCanonical.feed {r} : StoresCanonical (s.feed r) := h.modEngine.modWv
theorem StoresCanonical.handRecord {r words} : StoresCanonical (s.handRecord r words) := h.modWv.feed
theorem StoresCanonical.replay {r} : StoresCanonical (s.replay r) := h.modEngine.modWv.count.feed
theorem StoresCanonical.ejSafe : StoresCanonical s.ejSafe := h.raiseFast
theorem StoresCanonical.raiseSafe : StoresCanonical s.raiseSafe := h.foldl fun h => branch h.ejSafe h
theorem StoresCanonical.settleTrip : StoresCanonical s.settleTrip :=
  branch h (h.foldl fun h => branch h (branch h.modWv h.modWv.stopEngine.ejSafe.drive))
theorem StoresCanonical.startProgram {r} : StoresCanonical (s.startProgram r) := h.modWv.modEngine.drive
theorem StoresCanonical.forceSwap {r} : StoresCanonical (s.forceSwap r) :=
  h.count.modEngine.modWv.startProgram.ejSafe.replay
theorem StoresCanonical.clearInputs {r} : StoresCanonical (s.clearInputs r) := h.foldl fun h => branch h h.modWvPin
theorem StoresCanonical.moveRole {r forced} : StoresCanonical (s.moveRole r forced) :=
  (branch h.modWv.modEngine.modEngine.modWv h.modWv.modEngine.modEngine.modWv.startProgram).replay
theorem StoresCanonical.forceNow {r} : StoresCanonical (s.forceNow r) :=
  branch h.count.modWv.moveRole.ejSafe h.forceSwap
theorem StoresCanonical.startNow {r} : StoresCanonical (s.startNow r) :=
  branch h.modWv.modWv.moveRole h.modWv.startProgram
theorem StoresCanonical.swapProgram {r force} : StoresCanonical (s.swapProgram r force) :=
  branch (branch h.forceNow h.forceNow.clearInputs) (branch (branch h.forceNow.raiseFast
    h.forceNow.raiseFast.clearInputs) (branch (branch h.startNow h.startNow.clearInputs) h.modWv))
theorem StoresCanonical.refreshEngine {e} : StoresCanonical (s.refreshEngine e) := h.modEngine
theorem StoresCanonical.startOp {e op r arg t} (ho : s.startOp e op = some (r, arg, t)) : StoresCanonical t := by
  unfold State.startOp at ho
  dsimp only at ho
  split at ho
  · contradiction
  · split at ho
    · split at ho
      · simp only [Option.some.injEq, Prod.mk.injEq] at ho
        obtain ⟨_, _, rfl⟩ := ho
        exact h.refreshEngine.free.modEngine.modWv.drive
      · contradiction
    · contradiction
theorem StoresCanonical.completeOp {e f} : StoresCanonical (s.completeOp e f) := h.modEngine
theorem StoresCanonical.runOp {e op f} (hf : ∀ {r arg t}, StoresCanonical t → StoresCanonical (f r arg t)) :
    StoresCanonical (s.runOp e op f) := by
  unfold State.runOp
  split
  · next ho => exact hf (h.startOp ho)
  · exact h

/-! ### The functions of Machine/WeevilOps -/

theorem StoresCanonical.doPull {e r} : StoresCanonical (s.doPull e r) := by
  unfold State.doPull
  split
  · exact h
  · exact h.modEngine.writeSr.completeOp.feed
theorem StoresCanonical.doPush {e} : StoresCanonical (s.doPush e) := h.completeOp
theorem StoresCanonical.stallPush {e} : StoresCanonical (s.stallPush e) := h.modEngine
theorem StoresCanonical.execStallResume {dt e} : NextCanonical (Machine.execStallResume dt e s) := by
  unfold Machine.execStallResume
  extract_lets
  split
  · exact branch h.advance.refreshEngine.doPull h.advance
  · exact branch h.advance.refreshEngine.doPush h.advance
  · exact h.advance
theorem StoresCanonical.startShift {e r arg out} : StoresCanonical (s.startShift e r arg out) :=
  h.completeOp.refreshEngine.drive
theorem StoresCanonical.askShift {e r arg out} : StoresCanonical (s.askShift e r arg out) :=
  branch h.startShift h.modEngine
theorem StoresCanonical.execShiftOut {dt e} : NextCanonical (Machine.execShiftOut dt e s) := by
  unfold Machine.execShiftOut
  extract_lets
  split
  · trivial
  · exact h.advance.runOp fun h => h.askShift
theorem StoresCanonical.afterShift {e r} : StoresCanonical (s.afterShift e r) := by
  unfold State.afterShift
  extract_lets
  split
  · exact branch h h.doPull
  · exact h.startShift
  · exact h.startShift
  · exact h
theorem StoresCanonical.padEdges {pads} : StoresCanonical (s.padEdges pads) := h.foldl fun h => h.advance.wvEdge
theorem StoresCanonical.execShiftComplete {dt e pads} : NextCanonical (Machine.execShiftComplete dt e pads s) := by
  unfold Machine.execShiftComplete
  extract_lets
  split
  · exact branch h.padEdges.advance.refreshEngine.modEngine.afterShift.drive h.padEdges.advance.refreshEngine
  · exact h.padEdges.advance.refreshEngine
theorem StoresCanonical.ackRecord {r late} : StoresCanonical (s.ackRecord r late) := by
  unfold State.ackRecord
  extract_lets
  split
  · exact h
  · exact branch h h.modWv.settleTrip
theorem StoresCanonical.driveLatch {e r mask level ack} : StoresCanonical (s.driveLatch e r mask level ack) :=
  branch h.completeOp.drive.ackRecord h.completeOp.drive
theorem StoresCanonical.latchMiss {e r} : StoresCanonical (s.latchMiss e r) := branch h.count.charge h
theorem StoresCanonical.execLatchEdge {dt e} : NextCanonical (Machine.execLatchEdge dt e s) := by
  unfold Machine.execLatchEdge
  extract_lets
  split
  · exact branch h.advance.driveLatch h.advance
  · exact h.advance
theorem StoresCanonical.execCapture {dt e} : NextCanonical (Machine.execCapture dt e s) := by
  unfold Machine.execCapture
  extract_lets
  split
  · trivial
  · refine h.advance.runOp fun h => ?_
    extract_lets
    split
    · exact h.completeOp
    · exact h.writeSr.completeOp
    · exact h.writeSr.completeOp
theorem StoresCanonical.execWeevilCaptureEdge {dt e} : NextCanonical (Machine.execWeevilCaptureEdge dt e s) := by
  unfold Machine.execWeevilCaptureEdge
  extract_lets
  split
  · split
    · exact branch h.advance.toldEdge.modEngine h.advance.toldEdge
    · exact h.advance
  · exact h.advance
theorem StoresCanonical.weevilEvent {e r code fault} : StoresCanonical (s.weevilEvent e r code fault) :=
  branch h.count.limitedEvent.raiseFast h.count.limitedEvent
theorem StoresCanonical.execRxFifoDrain {dt e} : NextCanonical (Machine.execRxFifoDrain dt e s) := by
  unfold Machine.execRxFifoDrain
  extract_lets
  split
  · exact branch h.advance.modEngine.event h.advance
  · exact h.advance
theorem StoresCanonical.execSafeStateSwitch {dt e} : NextCanonical (Machine.execSafeStateSwitch dt e s) := by
  unfold Machine.execSafeStateSwitch
  extract_lets
  split
  · exact branch h.advance.refreshEngine.startProgram h.advance.refreshEngine
  · exact h.advance.refreshEngine
theorem StoresCanonical.execForcedSwapTimeout {dt e} : NextCanonical (Machine.execForcedSwapTimeout dt e s) := by
  unfold Machine.execForcedSwapTimeout
  extract_lets
  split
  · exact branch h.advance (branch h.advance.count.moveRole.raiseFast.ejSafe (branch h.advance.forceSwap.raiseFast
      h.advance))
  · exact h.advance

/-! ### The functions of Machine/Handover -/

theorem StoresCanonical.closeOwner {id} : StoresCanonical (s.closeOwner id) := by
  unfold State.closeOwner
  split
  · exact h
  · exact branch h.modTrack.freeTrack h.modTrack
theorem StoresCanonical.closePulse {p} : StoresCanonical (s.closePulse p) := h.update.foldl fun h => h.closeOwner
theorem StoresCanonical.openPulse {l p} : StoresCanonical (s.openPulse l p) := h.update
theorem StoresCanonical.applyEdge {l p} : StoresCanonical (s.applyEdge l p) :=
  branch h.update.openPulse h.update.closePulse
theorem StoresCanonical.handChain {p l} : StoresCanonical (s.handChain p l) :=
  (h.foldl fun h => h.applyEdge).count.handRecord
theorem StoresCanonical.handDirect {r t} : StoresCanonical (s.handDirect r t) :=
  (h.foldl fun h => h.applyEdge).handRecord
theorem StoresCanonical.execChainRecordHandover {dt p} : NextCanonical (Machine.execChainRecordHandover dt p s) := by
  unfold Machine.execChainRecordHandover
  extract_lets
  split
  · exact branch h.advance.handChain.settleDrain.settleTrip h.advance
  · exact h.advance
theorem StoresCanonical.execDirectRecordHandover {dt r} :
    NextCanonical (Machine.execDirectRecordHandover dt r s) := by
  unfold Machine.execDirectRecordHandover
  extract_lets
  split
  · exact branch h.advance.handDirect.settleDrain.settleTrip h.advance
  · exact h.advance

/-! ### The functions of Machine/Commands -/

theorem StoresCanonical.setGroup {g l} : StoresCanonical (s.setGroup g l) := h.update
theorem StoresCanonical.command {q op grouped used} {f} (hf : ∀ {a0 t}, StoresCanonical t → StoresCanonical (f a0 t))
      :
    StoresCanonical (s.command q op grouped used f) := by
  unfold State.command
  split
  · exact h
  · exact branch h.finishHead (branch h (hf h))
theorem StoresCanonical.stage {q d items result} : StoresCanonical (s.stage q d items result) := by
  unfold State.stage
  split
  · exact h.finishHead
  · exact branch h.setGroup.finishHead h.finishHead
theorem StoresCanonical.unlessLocked {q} {f} (hf : ∀ {t}, StoresCanonical t → StoresCanonical (f t)) :
    StoresCanonical (s.unlessLocked q f) :=
  branch h.finishHead (hf h)
theorem StoresCanonical.writeLoad {l} : StoresCanonical (s.writeLoad l) := h.writeTable.update
theorem StoresCanonical.markIncomplete {table index} : StoresCanonical (s.markIncomplete table index) := h.update
theorem StoresCanonical.toggleBank {key} : StoresCanonical (s.toggleBank key) := h.update
theorem StoresCanonical.hostSetsMode {m} : StoresCanonical (s.hostSetsMode m) := branch h.update h.update.setFld
theorem StoresCanonical.coldHold {on} : StoresCanonical (s.coldHold on) :=
  branch h.setFld.update (branch h h.setFlag.setFld.update)
theorem StoresCanonical.acceptCommit {q d target} : StoresCanonical (s.acceptCommit q d target) :=
  branch h.finishHead h.setGroup.update.nextHead
theorem StoresCanonical.tryCommit {q d} : StoresCanonical (s.tryCommit q d) := by
  unfold State.tryCommit
  split
  · exact h.finishHead
  · exact branch h.startHead h.acceptCommit
theorem StoresCanonical.retryCommits : StoresCanonical s.retryCommits := by
  unfold State.retryCommits
  refine h.foldl fun h => ?_
  split
  · exact branch h.tryCommit h
  · exact h
theorem StoresCanonical.execTableLoad {q data} : NextCanonical (Machine.execTableLoad q data s) := by
  unfold Machine.execTableLoad
  refine StoresCanonical.retryCommits ?_
  refine h.command fun h => ?_
  refine h.unlessLocked fun h => ?_
  extract_lets
  split
  · exact h.finishHead
  · split
    · exact h.startHead.update
    · exact branch h.readFailed.markIncomplete.finishHead h
theorem StoresCanonical.ringDrop {n v} : StoresCanonical (s.ringDrop n v) :=
  branch h.ringDisable h.ringDisable.retryCommits
theorem StoresCanonical.ringCfgWrite {n v en} : StoresCanonical (s.ringCfgWrite n v en) :=
  branch (h.pf0Write fun h => branch h.ringEnable h.ringDrop) (h.pf1Write fun h => branch h.ringEnable h.ringDrop)
theorem StoresCanonical.execTableLoadComplete {dt q} : NextCanonical (Machine.execTableLoadComplete dt q s) := by
  unfold Machine.execTableLoadComplete
  extract_lets
  split
  · exact h.advance
  · exact branch h.advance.writeLoad.update.finishHead.settleFlat.retryCommits h.advance
theorem StoresCanonical.stageBundle {q d b} : StoresCanonical (s.stageBundle q d b) := by
  unfold State.stageBundle
  split
  · exact h.finishHead
  · exact branch h.finishHead (branch (h.foldl fun h => h.writeLoad).setGroup.finishHead h)
theorem StoresCanonical.bundleCut {q d b len} : StoresCanonical (s.bundleCut q d b len) := by
  unfold State.bundleCut
  extract_lets
  split
  · exact h.readFailed.finishHead
  · exact branch h.readFailed.finishHead (branch (h.readFailed.foldl fun h => h.writeLoad.markIncomplete).finishHead
      h)
theorem StoresCanonical.execBundle {q data} : NextCanonical (Machine.execBundle q data s) := by
  unfold Machine.execBundle
  refine h.command fun h => ?_
  extract_lets
  split
  · exact h.finishHead
  · split
    · exact h.bundleCut
    · split
      · exact h.finishHead
      · exact branch h.finishHead h.stageBundle

/-! ### The functions of Machine/Governor -/

theorem StoresCanonical.stageDurations {e tick plan} : StoresCanonical (s.stageDurations e tick plan) :=
  h.stageMgmt.setFld.setFlag.setFlag
theorem StoresCanonical.execGovernorEvaluate {dt} : NextCanonical (Machine.execGovernorEvaluate dt s) := by
  have hg {g} : StoresCanonical { s.advance dt with gov := g } := h.advance.update
  have hd {c : Prop} [Decidable c] {g n} : StoresCanonical (if c then (0, { s.advance dt with gov := g })
      else (n, { s.advance dt with gov := g, freeCtr := n + 1 })).2 := by
    split
    · exact hg
    · exact hg.update
  refine branch ?_ h.advance
  dsimp only
  split
  · refine branch ?_ hg
    split
    · exact hd
    · exact hd.stageDurations
  · exact hg

/-! ### The functions of Machine/Coach -/

theorem StoresCanonical.settleTakeOver : StoresCanonical s.settleTakeOver := by
  unfold State.settleTakeOver
  split
  · exact branch h h.takeOver
  · exact h
theorem StoresCanonical.execStandbyReady {dt} : NextCanonical (Machine.execStandbyReady dt s) := by
  unfold Machine.execStandbyReady
  extract_lets
  split
  · exact h.advance
  · split
    · exact h.advance
    · exact h.advance.update.requestTakeOver
    · exact h.advance.update.finishWaiting
    · exact h.advance.update.finishWaiting.requestTakeOver
    · exact h.advance.update.requestTakeOver
    · exact h.advance.update
theorem StoresCanonical.execTrialTimeout {dt} : NextCanonical (Machine.execTrialTimeout dt s) := by
  unfold Machine.execTrialTimeout
  extract_lets
  split
  · exact branch h.advance.askTakeOver h.advance
  · exact h.advance
theorem StoresCanonical.execFwWrite {data} : NextCanonical (Machine.execFwWrite data s) := by
  unfold Machine.execFwWrite
  refine h.mailbox fun h => ?_
  extract_lets
  split
  · exact h.finishMbox
  · split
    · exact branch h.finishMbox (branch h.startHead (h.startHead.setBank.foldl fun h => h.program)).program
    · exact h.finishMbox
    · exact branch h.finishMbox h.readFailed.finishMbox
theorem StoresCanonical.execFwActivate : NextCanonical (Machine.execFwActivate s) := by
  unfold Machine.execFwActivate
  refine h.mailbox fun h => ?_
  split
  · exact h
  · split
    · exact h.finishMbox
    · split
      · exact h.finishMbox
      · exact branch h.finishMbox (branch h.setFld.setBank.finishMbox h.startHead.setBank.bootCoach.update)
theorem StoresCanonical.confirmTrial : StoresCanonical s.confirmTrial := h.update.putBank.putBank.journalBanks

/-! ### The functions of Machine/Tick -/

theorem StoresCanonical.settleDeskew {before} : StoresCanonical (s.settleDeskew before) :=
  branch h (branch h.setFlag.free.showLanes h.setFlag.showLanes)
theorem StoresCanonical.takeSetting {n a v} : StoresCanonical (s.takeSetting n a v) :=
  (branch h.plainWriteReg.update h.plainWriteReg.update).settleDeskew
theorem StoresCanonical.applyItem {n x2} : StoresCanonical (s.applyItem n x2) := by
  unfold State.applyItem
  split
  · exact h.takeSetting
  · exact h.toggleBank.update
  · exact h.hostSetsMode
theorem StoresCanonical.takeGroup {n edge mode min kept finished items a} :
    StoresCanonical (EdgeGroups.take n edge mode min ⟨s, kept, finished, items⟩ a).state := by
  unfold EdgeGroups.take
  split
  · exact h
  · dsimp only
    split
    · exact h.foldl fun h => h.applyItem
    · exact h
theorem StoresCanonical.hostGroups {n mode min} : StoresCanonical (s.hostGroups n mode min).state := by
  have hr : StoresCanonical (s.accepted.foldl (EdgeGroups.take n s.tb mode min) ⟨s, [], [], []⟩).state :=
    foldlOn EdgeGroups.state h fun h => h.takeGroup
  exact (branch hr.update hr.update).count
theorem StoresCanonical.completeGroup {f} : StoresCanonical (s.completeGroup f) := h.complete
theorem StoresCanonical.completeGroups {l} : StoresCanonical (s.completeGroups l) := by
  induction l generalizing s with
  | nil => exact h
  | cons f rest ih => exact ih h.update.completeGroup.update
theorem StoresCanonical.formDigest : StoresCanonical s.formDigest := h.update.setReg
theorem StoresCanonical.checkDigest : StoresCanonical s.checkDigest := by
  unfold State.checkDigest
  split
  · exact h
  · exact branch h.setFlag h.setFlag.event
theorem StoresCanonical.applyThrottle {on} : StoresCanonical (s.applyThrottle on) :=
  branch h.update.setFlag.setFlag h.update.setFlag.setFlag.setFlag
theorem StoresCanonical.applyMgmt {n x2} : StoresCanonical (s.applyMgmt n x2) := by
  unfold State.applyMgmt
  split
  · exact h.update
  · exact (h.foldl fun h => h.setReg).update
  · exact branch h.moveEntries h.applyEntries
  · exact h.update.setFld
  · exact h.addDrifts
  · exact h.applyThrottle
  · exact h.coldHold
theorem StoresCanonical.mgmtChanges {n items} : StoresCanonical (s.mgmtChanges n items).1 :=
  h.update.foldl fun h => h.applyMgmt
theorem StoresCanonical.throttleEvents {floor changes} : StoresCanonical (s.throttleEvents floor changes) :=
  h.foldl fun h => h.event
theorem StoresCanonical.loseBanks {n before} : StoresCanonical (s.loseBanks n before) := h.foldl fun h => h.endTrack
theorem StoresCanonical.haltLost {r} : StoresCanonical (s.haltLost r) := h.stopEngine.modWv.drive.raiseFast.ejSafe
theorem StoresCanonical.coupleWeevil {before r} : StoresCanonical (State.coupleWeevil before s r) :=
  branch (branch h h.haltLost) (branch h (branch h.moveRole h.modWv))
theorem StoresCanonical.setShared {n b} : StoresCanonical (s.setShared n b) := h.setFlag
theorem StoresCanonical.beginShare {n} : StoresCanonical (s.beginShare n) := branch (branch h.setUnit h).setShared h
theorem StoresCanonical.endShare {n} : StoresCanonical (s.endShare n) := by
  unfold State.endShare
  split
  · extract_lets
    split
    · exact h.setShared
    · split
      · exact h.setShared.setHolder.setUnit
      · exact h.setShared.applyNoSpare
  · exact h
theorem StoresCanonical.coupleShares : StoresCanonical s.coupleShares :=
  (h.foldl fun h => h.beginShare).foldl fun h => h.endShare
theorem StoresCanonical.coupleCamera {n} : StoresCanonical (s.coupleCamera n) :=
  branch h (branch h.setFlag.event (branch h.setShared h))
theorem StoresCanonical.showPipe {n} : StoresCanonical (s.showPipe n) := h.setFld
theorem StoresCanonical.stepPipe {before n} : StoresCanonical (State.stepPipe before s n) :=
  branch h.showPipe.bumpEpoch h.showPipe
theorem StoresCanonical.settleShares : StoresCanonical s.settleShares := h.coupleShares.foldl fun h => h.stepPipe
theorem StoresCanonical.coupleMap {first} : StoresCanonical (s.coupleMap first) :=
  ((h.coupleSpares.coupleShares.foldl fun h => h.coupleCamera).foldl fun h => h.stepPipe).foldl fun h =>
    h.coupleWeevil
theorem StoresCanonical.settleLoss {f} : StoresCanonical (s.settleLoss f) := h.carryOut.modFrame
theorem StoresCanonical.settleLosses : StoresCanonical s.settleLosses := h.foldl fun h => h.settleLoss
theorem StoresCanonical.number {n} : StoresCanonical (s.number n) := h.setWide.setWide.update
theorem StoresCanonical.freeDrained : StoresCanonical s.freeDrained := h.foldl fun h => h.freeTrack
theorem StoresCanonical.initMode : StoresCanonical s.initMode := branch h.update.hostSetsMode h
theorem StoresCanonical.showNs {f v} : StoresCanonical (s.showNs f v) := branch h.setFld h.free.setFld
theorem StoresCanonical.setLimits {prevMode prevMin} : StoresCanonical (s.setLimits prevMode prevMin) :=
  h.update.showNs.showNs.setFlag
theorem StoresCanonical.changeMode {n prevMode} : StoresCanonical (s.changeMode n prevMode) :=
  branch h.update.setFlag (branch h.flushTracks.stopCalRun.update h)
theorem StoresCanonical.sampleLive : StoresCanonical s.sampleLive := h.setFld.setFld
theorem StoresCanonical.swapPrograms {items} : StoresCanonical (s.swapPrograms items) :=
  h.foldl fun h => branch h h.swapProgram
theorem StoresCanonical.beginFrame {f} : StoresCanonical (s.beginFrame f) := h.update
theorem StoresCanonical.settlePins : StoresCanonical s.settlePins := h.settleFireflies.settleTrigs.driveAll
theorem StoresCanonical.edgeTakeOver : StoresCanonical s.edgeTakeOver := by
  unfold State.edgeTakeOver
  split
  · exact branch h.takeOver h
  · exact h
theorem StoresCanonical.takeEdge : StoresCanonical s.takeEdge := by
  unfold State.takeEdge
  extract_lets n _ s1 prevMode prevMin _ g applied s2
  have hg : StoresCanonical g.state := h.settleLosses.number.freeDrained.initMode.hostGroups
  have h2 : StoresCanonical s2 := branch hg.formDigest hg
  have h3 : StoresCanonical (s2.mgmtChanges n g.items).1 := h2.mgmtChanges
  split
  next s3 _ hm =>
    rw [hm] at h3
    extract_lets change s4 s5 s6 moved s7 s8 s9 s10
    have h4 : StoresCanonical s4 := h3.setLimits.setFlag.setFlag.throttleEvents
    have h6 : StoresCanonical s6 := (branch h4.checkDigest h4).coupleMap.swapPrograms.edgeTakeOver
    have h8 : StoresCanonical s8 := (branch h6.setFld h6).changeMode.sampleLive
    have h10 : StoresCanonical s10 := h8.edgeTrigs.beginFrame.loseBanks.dropFrames.settlePins.claimOutputs
    exact h10.completeGroups.settleDrain
theorem StoresCanonical.holdEdge : StoresCanonical s.holdEdge := branch h.update.count h.update.count
theorem StoresCanonical.freeFlat : StoresCanonical s.freeFlat := branch h.settleFlat.retryCommits h.settleFlat
theorem StoresCanonical.execTickEdge {reads} : NextCanonical (Machine.execTickEdge reads s) := by
  unfold Machine.execTickEdge
  extract_lets
  split
  · exact branch (branch h.advance.takeEdge.freeFlat.sramErrors h.advance.holdEdge) h.advance
  · exact h.advance

/-! ### The functions of Machine/RunControl -/

theorem StoresCanonical.startRun : StoresCanonical s.startRun := branch h.setFlag.update h
theorem StoresCanonical.stopRun : StoresCanonical s.stopRun := h.setFlag.update
theorem StoresCanonical.clearList {v l} : StoresCanonical (s.clearList v l) := h.foldl fun h => branch h.setReg h
theorem StoresCanonical.cntClr {v} : StoresCanonical (s.cntClr v) := h.clearList
theorem StoresCanonical.ovlClr {v} : StoresCanonical (s.ovlClr v) := h.clearList
theorem StoresCanonical.expClr {v} : StoresCanonical (s.expClr v) := h.clearList.setFld
theorem StoresCanonical.roClr {v} : StoresCanonical (s.roClr v) := branch h.clearList.setFld h.clearList
theorem StoresCanonical.csxClr {v} : StoresCanonical (s.csxClr v) := h.clearList
theorem StoresCanonical.pipeClr {v} : StoresCanonical (s.pipeClr v) := h.clearList
theorem StoresCanonical.trkClr {v} : StoresCanonical (s.trkClr v) := branch h.clearList.setFld h.clearList
theorem StoresCanonical.ejClr {v} : StoresCanonical (s.ejClr v) := h.clearList
theorem StoresCanonical.wvClr {v} : StoresCanonical (s.wvClr v) := h.clearList
theorem StoresCanonical.pllClr {v} : StoresCanonical (s.pllClr v) := h.clearList
theorem StoresCanonical.whileStopped {f} (hf : ∀ {t}, StoresCanonical t → StoresCanonical (f t)) :
    StoresCanonical (s.whileStopped f) :=
  branch h.count (hf h)
theorem StoresCanonical.factDefectsClr {v} : StoresCanonical (s.factDefectsClr v) :=
  h.whileStopped fun h => (branch h.setFld h).clearList
theorem StoresCanonical.peakClr {v} : StoresCanonical (s.peakClr v) := branch h.setFld h
theorem StoresCanonical.abortClr {v} : StoresCanonical (s.abortClr v) := branch h.setFld h

/-! ### The functions of Machine/Clocks -/

theorem StoresCanonical.setLocked {p b} : StoresCanonical (s.setLocked p b) := h.setFld
theorem StoresCanonical.setGated {role at_ noStandIn} : StoresCanonical (s.setGated role at_ noStandIn) := h.update
theorem StoresCanonical.ungate {role} : StoresCanonical (s.ungate role) := h.setGated.releaseItems
theorem StoresCanonical.loopEvent {role kind step} : StoresCanonical (s.loopEvent role kind step) := h.event
theorem StoresCanonical.markLost {f} : StoresCanonical (s.markLost f) := h.modFrame
theorem StoresCanonical.markLosses : StoresCanonical s.markLosses := h.foldl fun h => h.markLost
theorem StoresCanonical.cutFrame : StoresCanonical s.cutFrame := by
  unfold State.cutFrame
  refine StoresCanonical.settleFireflies ?_
  refine StoresCanonical.endTrigs ?_
  split
  · exact
      have h1 := (h.foldl fun h => h.setFirefly).modFrame
      branch h1 h1.markLost
  · exact h.foldl fun h => h.setFirefly
theorem StoresCanonical.holdCounters : StoresCanonical s.holdCounters := h.foldl fun h => branch h.setFlag h
theorem StoresCanonical.holdTimebase : StoresCanonical s.holdTimebase := h.setFlag.raiseFast.holdCounters.cutFrame
theorem StoresCanonical.delayCloses {c0} : StoresCanonical (s.delayCloses c0) := h.update
theorem StoresCanonical.stepTimebase {t} : StoresCanonical (s.stepTimebase t) :=
  (h.update.setWide.setFlag.setFlag.raiseFast.foldl fun h => h.modWv).delayCloses
theorem StoresCanonical.enterHoldover : StoresCanonical s.enterHoldover := branch h h.update.setFlag
theorem StoresCanonical.leaveHoldover : StoresCanonical s.leaveHoldover := by
  unfold State.leaveHoldover
  split
  · exact h.update.setFlag.setFld.setFlag
  · exact h
theorem StoresCanonical.loadDividers {p role} : StoresCanonical (s.loadDividers p role) := h.update
theorem StoresCanonical.loopAlone {role} : StoresCanonical (s.loopAlone role) := h.leftWithout
theorem StoresCanonical.awaitStandIn {role} : StoresCanonical (s.awaitStandIn role) :=
  have h1 := h.setGated.setFlag.loadDividers
  branch h1.holdTimebase h1.markLosses
theorem StoresCanonical.noStandInFor {role} : StoresCanonical (s.noStandInFor role) :=
  have h1 := h.loopEvent.loopAlone
  branch (branch h1.free.enterHoldover h1.free.setGated.holdTimebase) h1.setGated.markLosses
theorem StoresCanonical.holdoverFrom {t} : StoresCanonical (s.holdoverFrom t) := h.ungate.stepTimebase.enterHoldover
theorem StoresCanonical.leftAlone {role t} : StoresCanonical (s.leftAlone role t) :=
  have h1 := h.loopEvent.loopAlone
  branch (branch h1.free.holdoverFrom h1.free.setGated) h1.setGated
theorem StoresCanonical.standbyGone : StoresCanonical s.standbyGone := by
  unfold State.standbyGone
  refine h.setFlag.foldl fun h => ?_
  split
  · exact branch h h.leftAlone
  · exact h
theorem StoresCanonical.roleLoss {p} : StoresCanonical (s.roleLoss p) := by
  unfold State.roleLoss
  split
  · extract_lets
    split
    · exact h.raiseFast.awaitStandIn
    · exact h.raiseFast.noStandInFor
  · exact h.loopEvent.standbyGone
theorem StoresCanonical.takeRole {role since} : StoresCanonical (s.takeRole role since) :=
  have h1 := h.setFld.setHolder.bumpEpoch.transferDividers.setNoSpare.ungate
  have h2 := (branch h1.stepTimebase h1).loopEvent.takenFromTest
  branch h2 (branch h2.setUnit.setFld.setFlag h2.setUnit)
theorem StoresCanonical.execStandIn {dt role} : NextCanonical (Machine.execStandIn dt role s) := by
  unfold Machine.execStandIn
  extract_lets
  split
  · exact branch h.advance.takeRole h.advance
  · exact h.advance
theorem StoresCanonical.resumeRole {r} : StoresCanonical (s.resumeRole r) := by
  unfold State.resumeRole
  extract_lets t s1
  have h1 : StoresCanonical s1 := by
    dsimp only [s1]
    split
    · exact branch (branch h.setNoSpare.ungate.stepTimebase h.setNoSpare.ungate) h.setNoSpare
    · exact h.setNoSpare
  exact branch h1.leaveHoldover h1
theorem StoresCanonical.becomeStandby {p lost} : StoresCanonical (s.becomeStandby p lost) :=
  branch h.setFld.setFlag h.setFld.setFlag.loopEvent
theorem StoresCanonical.execLoopRelock {dt p} : NextCanonical (Machine.execLoopRelock dt p s) := by
  unfold Machine.execLoopRelock
  extract_lets
  split
  · exact h.advance
  · split
    · exact branch h.advance h.advance.setLocked.update.resumeRole
    · exact branch h.advance (branch h.advance.setLocked.update h.advance.setLocked.update.becomeStandby)
theorem StoresCanonical.refGate {r} : StoresCanonical (s.refGate r) := branch h.setLocked h.setLocked.setGated

/-! ### The functions of Machine/PowerCmds -/

theorem StoresCanonical.sleepLoops {stop} : StoresCanonical (s.sleepLoops stop) :=
  have h1 := h.foldl fun h => h.setLocked.resumeRole
  branch (h.foldl fun h => branch h h.setLocked).standbyGone (branch h (branch h1 h1.setLocked.setFlag))
theorem StoresCanonical.endPulses : StoresCanonical s.endPulses :=
  ((h.foldl fun h => h.setFirefly).foldl fun h => h.setTrigOut).setPin.update.settlePins
theorem StoresCanonical.enterSleep {target} : StoresCanonical (s.enterSleep target) :=
  branch h.raiseSafe.stopIcx.setFld.sleepLoops.setFlag.endPulses (branch
    h.setFld.sleepLoops.applyLatches.settlePins.repeatSync h.setFld)
theorem StoresCanonical.flushAll : StoresCanonical s.flushAll := h.flushTracks
theorem StoresCanonical.execPowerStateEntry {dt} : NextCanonical (Machine.execPowerStateEntry dt s) := by
  unfold Machine.execPowerStateEntry
  extract_lets
  split
  · exact branch h.advance.flushAll.abortTests.update.setFlag.enterSleep.finishWaiting h.advance
  · exact h.advance
theorem StoresCanonical.reachActive : StoresCanonical s.reachActive := by
  unfold State.reachActive
  extract_lets was autorun back _ s1 s2 s3
  have h1 : StoresCanonical s1 := h.update.setFld
  have h2 : StoresCanonical s2 := branch h1.sleepLoops.setFlag.applyLatches.repeatSync h1
  have h3 : StoresCanonical s3 := by
    dsimp only [s3]
    clear_value back
    cases back with
    | some r => exact h2.releaseItems.settlePins.finishWaiting
    | none => exact h2.releaseItems.settlePins
  exact branch h3.startRun h3

/-! ### The functions of Machine/Thermal -/

theorem StoresCanonical.retireOsc {site which} : StoresCanonical (s.retireOsc site which) := h.update.setFlag.setUnit
theorem StoresCanonical.judgeSite {l site} : StoresCanonical (s.judgeSite l site) := by
  have hd {c : Prop} [Decidable c] {m n : Nat} : StoresCanonical (if c then (m, s.free.2) else (n, s)).2 := by
    split
    · exact h.free
    · exact h
  unfold State.judgeSite
  split
  · exact branch (branch hd.chargeFor.retireOsc hd.chargeFor) h
  · exact h
theorem StoresCanonical.showSite {l site} : StoresCanonical (s.showSite l site) := by
  unfold State.showSite
  split
  · exact h.setFld.setFld
  · exact h
theorem StoresCanonical.showExtremes {l first} : StoresCanonical (s.showExtremes l first) :=
  have h1 := h.setFld.setFld.setFld.setFld
  branch h1.setFld h1
theorem StoresCanonical.goOff : StoresCanonical s.goOff := h.cutJob.update.endPulses
theorem StoresCanonical.writeShut {cause cut temp} : StoresCanonical (s.writeShut cause cut temp) := h.update
theorem StoresCanonical.refuseWaiting {keep} : StoresCanonical (s.refuseWaiting keep) :=
  (branch (h.update.foldl fun h => h.program) h.update).foldl fun h => branch h.finishWaiting h
theorem StoresCanonical.orderlyShutdown : StoresCanonical s.orderlyShutdown :=
  h.raiseFast.update.stopRun.refuseWaiting.settleTrip
theorem StoresCanonical.safeNow : StoresCanonical s.safeNow :=
  (h.raiseSafe.update.foldl fun h => h.modWv.stopEngine.modEngine).driveAll
theorem StoresCanonical.immediateShutdown : StoresCanonical s.immediateShutdown := h.stopRun.safeNow.writeShut.goOff
theorem StoresCanonical.countRuns {k t} : StoresCanonical (s.countRuns k t) := h.foldl fun h => h.update
theorem StoresCanonical.crossingEvent {k rising} : StoresCanonical (s.crossingEvent k rising) := h.event
theorem StoresCanonical.crossingEffect {k rising} : StoresCanonical (s.crossingEffect k rising) := by
  unfold State.crossingEffect
  split
  · exact branch h.setFlag.setFlag.refuseWaiting.stageMgmt.update h.setFlag.setFlag.refuseWaiting.stageMgmt
  · exact h.setFlag.releaseCold.stageMgmt
  · exact h.setFlag
  · exact h.setFlag.setFlag.setFlag.update
  · exact branch h.setFlag.setFlag.setFlag.update h.setFlag.stageMgmt
  · exact h.orderlyShutdown
  · exact h.immediateShutdown
  · exact h
theorem StoresCanonical.testThreshold {k} : StoresCanonical (s.testThreshold k) :=
  branch h (branch h.crossingEvent.crossingEffect (branch h.crossingEvent.crossingEffect h))
theorem StoresCanonical.settleReady : StoresCanonical s.settleReady := branch h h.setFlag.setFld
theorem StoresCanonical.countStart : StoresCanonical s.countStart := branch h.update h
theorem StoresCanonical.execGraceExpiry {dt} : NextCanonical (Machine.execGraceExpiry dt s) := by
  unfold Machine.execGraceExpiry
  extract_lets
  split
  · exact branch h.advance.setFlag.update.stageMgmt h.advance
  · exact h.advance

/-! ### The functions of Machine/Calib -/

theorem StoresCanonical.markSuspect {item index ms report} : StoresCanonical (s.markSuspect item index ms report) :=
  (branch (branch h.count.event h.count).update (branch h.count.event h.count)).charge
theorem StoresCanonical.darkEvent {d} : StoresCanonical (s.darkEvent d) := h.event
theorem StoresCanonical.darkLevel {meas} : StoresCanonical (s.darkLevel meas).2 := by
  unfold State.darkLevel
  split
  · exact h
  · exact h.free
theorem StoresCanonical.takePass {meas item found measured events index} :
    StoresCanonical (CalPass.take meas item ⟨s, found, measured, events⟩ index).state := by
  unfold CalPass.take
  split
  · exact h
  · split
    · exact h
    · exact h
    · exact h.markSuspect
theorem StoresCanonical.applyResults {item es} : StoresCanonical (s.applyResults item es) :=
  branch h (branch h.stageClassB h.applyEntries)
theorem StoresCanonical.setCalRun {r} : StoresCanonical (s.setCalRun r) := h.update
theorem StoresCanonical.advanceCalRun {meas fuel} : StoresCanonical (State.advanceCalRun meas s fuel) := by
  induction fuel generalizing s with
  | zero => exact h
  | succ fuel ih =>
    unfold State.advanceCalRun
    split
    · exact h
    · split
      · exact h.endCalRun
      · refine branch (ih h.showItem.setCalRun) (branch (branch ?_ h) ?_)
        · exact branch (ih h.darkLevel.setCalRun) h.darkLevel.setFlag.darkEvent.endCalRun
        · have hp {l : List Nat} {item meas found measured events} : StoresCanonical (l.foldl
              (CalPass.take meas item) ⟨s.showItem item true, found, measured, events⟩).state :=
            foldlOn CalPass.state h.showItem fun h => h.takePass
          exact branch (ih hp.applyResults.showItem.setCalRun) hp.setCalRun
theorem StoresCanonical.loadEntries : StoresCanonical s.loadEntries := by
  unfold State.loadEntries
  split
  · exact h.update.setFld.setFld
  · exact h.update.setFld
theorem StoresCanonical.passRole {r} : StoresCanonical (s.passRole r) :=
  branch h (branch h.loopAlone.setGated h.setFld.setHolder.setUnit.loadDividers.transferDividers.setFlag)
theorem StoresCanonical.lockLoops {unlocked} : StoresCanonical (s.lockLoops unlocked) :=
  branch h (((h.foldl fun h => h.retireLoop).foldl fun h => h.passRole).setFlag.foldl fun h => branch h
    h.setLocked).update
theorem StoresCanonical.powerUpItem {meas item} : StoresCanonical (State.powerUpItem meas s item) :=
  (foldlOn CalPass.state h fun h => h.takePass).update.applyEntries
theorem StoresCanonical.trackPass {meas item found measured events index} :
    StoresCanonical (CalPass.track meas item ⟨s, found, measured, events⟩ index).state := by
  unfold CalPass.track
  split
  · exact h
  · dsimp only
    split <;> exact h
  · exact h.markSuspect
theorem StoresCanonical.trackItem {meas first item} : StoresCanonical (State.trackItem meas first s item) := by
  unfold State.trackItem
  extract_lets p _ _ t
  have hp : StoresCanonical p.state := foldlOn CalPass.state h fun h => h.trackPass
  have ht : StoresCanonical t := hp.update
  exact branch ht (branch ht.stageClassB ht.moveEntries)
theorem StoresCanonical.trackAll {meas} : StoresCanonical (s.trackAll meas) :=
  have h1 := h.foldl fun h => h.trackItem
  branch (h1.foldl fun h => h.trackItem) h1
theorem StoresCanonical.testDark {d} : StoresCanonical (s.testDark d) :=
  branch h.setFlag (branch h h.setFlag.darkEvent)
theorem StoresCanonical.settleCycle : StoresCanonical s.settleCycle := branch h.setFld.update h
theorem StoresCanonical.nextIndex : StoresCanonical s.nextIndex := h.setFld
theorem StoresCanonical.calRead : StoresCanonical s.calRead.2 := (branch h.setFlag h).nextIndex
theorem StoresCanonical.calWrite {v} : StoresCanonical (s.calWrite v) :=
  have h1 := branch h.setFlag h
  branch ((branch h1.setFlag h1).nextIndex) (branch h.stageMgmt h.setCalEntry).nextIndex
theorem StoresCanonical.execCalDataAccess {write} : NextCanonical (Machine.execCalDataAccess write s) := by
  unfold Machine.execCalDataAccess
  split
  · exact h.pf1Write fun h => h.calWrite
  · exact h.barRead fun h => h.calRead
theorem StoresCanonical.dlistClr {v} : StoresCanonical (s.dlistClr v) := branch h.stageClassB h

/-! ### The functions of Machine/Security -/

theorem StoresCanonical.nvmDone {seq note} : StoresCanonical (s.nvmDone seq note) := by
  unfold State.nvmDone
  extract_lets
  split
  · exact h.takeNote.update
  · exact h.takeNote.finishWaiting
  · exact h.takeNote.finishWaiting
  · exact h.takeNote.finishWaiting
  · exact h.takeNote.update
  · exact h.takeNote
theorem StoresCanonical.runJob {x1} : StoresCanonical (s.runJob x1) := by
  unfold State.runJob
  split
  · exact h.writeRecord.nvmDone
  · exact h.writeNvm.nvmDone
  · extract_lets
    split
    · exact h.eraseBlock
    · exact h.eraseBlock.journalWear
theorem StoresCanonical.jobFailed {j} : StoresCanonical (s.jobFailed j) := by
  unfold State.jobFailed
  extract_lets s1
  have h1 : StoresCanonical s1 := h.count.raiseFast
  exact branch h1.update.finishWaiting h1.update
theorem StoresCanonical.execNvmProgramSequenceComplete {dt ok} :
    NextCanonical (Machine.execNvmProgramSequenceComplete dt ok s) := by
  unfold Machine.execNvmProgramSequenceComplete
  extract_lets
  split
  · exact branch h.advance (branch h.advance.update.runJob h.advance.jobFailed)
  · exact h.advance
theorem StoresCanonical.mboxWrite {d bs result} : StoresCanonical (s.mboxWrite d bs result) :=
  branch h.finishMbox h.writeMem.finishMbox
theorem StoresCanonical.digestNow : StoresCanonical s.digestNow.2 := by
  unfold State.digestNow
  split
  · exact h.free
  · exact h
theorem StoresCanonical.execOwnerEnroll {data} : NextCanonical (Machine.execOwnerEnroll data s) := by
  unfold Machine.execOwnerEnroll
  refine h.mailbox fun h => ?_
  split
  · exact h.finishMbox
  · split
    · exact h.finishMbox
    · split
      · exact h.readFailed.finishMbox
      · exact branch h.startHead.journal h.finishMbox
theorem StoresCanonical.endAccess : StoresCanonical s.endAccess := by
  unfold State.endAccess
  split
  · exact h
  · split
    · exact h.update
    · exact h.update
    · exact h
theorem StoresCanonical.burn {t} : StoresCanonical (s.burn t) := branch h.update.endAccess h.update

/-! ### The functions of Machine/Sideband -/

theorem StoresCanonical.i3cDirect {f} (hf : ∀ {t}, StoresCanonical t → StoresCanonical (f t)) :
    StoresCanonical (s.i3cDirect f) :=
  branch (hf h) h
theorem StoresCanonical.i3cPrivate {f} (hf : ∀ {t}, StoresCanonical t → StoresCanonical (f t)) :
    StoresCanonical (s.i3cPrivate f) :=
  branch (hf h) h
theorem StoresCanonical.i3cAnswer {bs} : StoresCanonical (s.i3cAnswer bs) := h.update
theorem StoresCanonical.jtagTakes {i} : StoresCanonical (s.jtagTakes i) := h.update
theorem StoresCanonical.idcodeOut : StoresCanonical s.idcodeOut := branch h.jtagTakes.update h.jtagTakes
theorem StoresCanonical.execJtagInstruction {ins} : NextCanonical (Machine.execJtagInstruction ins s) := by
  unfold Machine.execJtagInstruction
  split
  · exact h.idcodeOut
  · exact h.jtagTakes
  · exact h.jtagTakes
  · exact h.jtagTakes
  · exact h.jtagTakes
  · exact h.jtagTakes
  · exact branch h.burn.jtagTakes h.jtagTakes

/-! ### The functions of Machine/Start -/

/-- A restart keeps host memory, and every register reads its reset value after it. -/
theorem StoresCanonical.reboot : StoresCanonical s.reboot := ⟨Store.wf_nil _, h.2⟩
theorem StoresCanonical.resetAll : StoresCanonical s.resetAll := h.cutJob.reboot.endAccess
theorem StoresCanonical.restoreMap : StoresCanonical s.restoreMap := h.update
theorem StoresCanonical.fillRoles : StoresCanonical s.fillRoles := by
  unfold State.fillRoles
  refine (h.foldl fun h => branch h h.seekSpare).setQueue.foldl fun h => ?_
  split
  · exact h.applyNewHolder
  · exact h.applyNoSpare
theorem StoresCanonical.markPartition {p} : StoresCanonical (s.markPartition p) := h.setFld
theorem StoresCanonical.signatureCut {f} : StoresCanonical (s.signatureCut f) :=
  match f with
  | .shared _ => h.free.faultRecord
  | .unit _ _ => h.free.faultRecord
  | .row _ => h
theorem StoresCanonical.signatureFailed {x1} : StoresCanonical (s.signatureFailed x1) := by
  unfold State.signatureFailed
  split
  · exact h.markPartition.setFlag.faultRecord
  · split
    · exact h.markPartition.charge
    · exact h
  · exact h
theorem StoresCanonical.rowFailed {n} : StoresCanonical (s.rowFailed n) :=
  branch h (branch h.setUnit.count h.rowAlone)
theorem StoresCanonical.rowPassed {n} : StoresCanonical (s.rowPassed n) := h.setUnit.faultRecord
theorem StoresCanonical.memoryTest {bad} : StoresCanonical (s.memoryTest bad) :=
  (h.foldl fun h => h.rowPassed).foldl fun h => h.rowFailed
theorem StoresCanonical.ageOk : StoresCanonical s.ageOk.2 := by
  unfold State.ageOk
  split
  · exact h
  · split
    · exact h
    · split
      · exact h
      · exact h.free
theorem StoresCanonical.seatEngines : StoresCanonical s.seatEngines :=
  h.foldl fun h => branch h.haltLost (branch h h.moveRole)
theorem StoresCanonical.endTrial : StoresCanonical s.endTrial := h.foldl fun h => branch h.setBank h
theorem StoresCanonical.bootCoachmen : StoresCanonical s.bootCoachmen := by
  unfold State.bootCoachmen
  extract_lets b r lead s1 s2 _ s3 r2
  have h1 : StoresCanonical s1 := branch h h.setFld
  have h3 : StoresCanonical s3 := h1.setFld.setHolder.update
  exact branch h1 (branch (branch h3.bootCoach.setBank.update h3.setFld.setBank) h3)
theorem StoresCanonical.noteShutdown : StoresCanonical s.noteShutdown := branch h.update.journalOpaque h
theorem StoresCanonical.startReads {failed} : StoresCanonical (s.startReads failed) := branch h.raiseFast h
theorem StoresCanonical.start {all} : StoresCanonical (s.start all) :=
  have h1 := h.readJournal.update.ageOk.setFlag.setFlag.setFlag.setFlag.update.restoreMap
  have h2 := branch h1.memoryTest ((h1.memoryTest.foldl fun h => h.signatureFailed).foldl fun h =>
      h.signatureCut).setFld
  (branch (h2.fillRoles.foldl fun h => h.showPipe).seatEngines (h2.fillRoles.foldl fun h =>
    h.showPipe).seatEngines.update).endTrial.bootCoachmen.noteShutdown.startReads.settlePins
theorem StoresCanonical.askShutdown : StoresCanonical s.askShutdown :=
  branch h (branch h.finishWaiting.update.stopRun h.finishWaiting.update).setFlag
theorem StoresCanonical.bistCtl {v} : StoresCanonical (s.bistCtl v) :=
  have h1 := branch h h.setFlag.journalOpaque
  branch h1.askShutdown h1
theorem StoresCanonical.allSafe : StoresCanonical s.allSafe :=
  (h.raiseSafe.foldl fun h => h.modWv.stopEngine).driveAll
theorem StoresCanonical.runJobs {fuel} : StoresCanonical (State.runJobs fuel s) := by
  induction fuel generalizing s with
  | zero => exact h
  | succ fuel ih =>
    unfold State.runJobs
    split
    · exact h
    · exact ih h.update.runJob
theorem StoresCanonical.moultFault {v patterns} : StoresCanonical (s.moultFault v patterns) := branch h h.faultRecord
theorem StoresCanonical.moultPatterns {results} : StoresCanonical (s.moultPatterns results).2 := by
  unfold State.moultPatterns
  extract_lets
  split
  · exact h.free
  · exact h

/-! ### The functions of Machine/RegWrite -/

theorem StoresCanonical.settingWrite {a v} : StoresCanonical (s.settingWrite a v) :=
  branch (h.foldl fun h => branch h.toggleBank.swapProgram h) (branch h h.takeSetting.settleShares.settlePins)
theorem StoresCanonical.unlessOwned {f} (hf : ∀ {t}, StoresCanonical t → StoresCanonical (f t)) :
    StoresCanonical (s.unlessOwned f) :=
  branch h.count (hf h)
theorem StoresCanonical.policyWrite {v} : StoresCanonical (s.policyWrite v) := (branch h h.setFld).setFlag
theorem StoresCanonical.hifWrite {a v} : StoresCanonical (s.hifWrite a v) :=
  branch (branch h.startRun h.stopRun) (branch h.policyWrite (branch (h.unlessOwned fun h => h.whileStopped fun h =>
    h.plainWriteReg) (branch h.cntClr (branch h.ovlClr (branch h.expClr (branch h.roClr (branch h.csxClr (branch
    h.pipeClr (branch h.trkClr (branch h.ejClr (branch h.wvClr (branch h.pcieClr (branch h.linkCfgWrite
    h.plainWriteReg)))))))))))))
theorem StoresCanonical.cmpWrite {a v} : StoresCanonical (s.cmpWrite a v) :=
  branch h.cmpValHi (branch h.cmpCtl h.plainWriteReg)
theorem StoresCanonical.tbWrite {a v} : StoresCanonical (s.tbWrite a v) :=
  branch h.syncCtl (branch h.syncOut (branch h.ptmCtl (branch h.cmpWrite (branch (branch h.capCtl (branch h.capStat
    h)) (branch h.gcCtl h.plainWriteReg)))))
theorem StoresCanonical.modChanged {n} : StoresCanonical (s.modChanged n) := branch h.cqDue h
theorem StoresCanonical.ringWrite {a v} : StoresCanonical (s.ringWrite a v) :=
  branch (branch (branch h.ringEnable h.ringDrop) (branch h.plainWriteReg.modChanged h.plainWriteReg)) (branch
    h.archCfgWrite (branch h.ringClr (branch h.ringDropClr h.plainWriteReg)))
theorem StoresCanonical.vectorWrite {i base a value words} : StoresCanonical (s.vectorWrite i base a value words) :=
  h.foldl fun h => h.writeVectorWord
theorem StoresCanonical.bar0Write {a width value} : StoresCanonical (s.bar0Write a width value) :=
  branch h.vectorWrite (branch h (branch (h.unlessOwned fun h => h.whileStopped fun h => h.settingWrite) (branch
    h.factDefectsClr (branch (branch (h.whileStopped fun h => h.plainWriteReg) h) (branch h.hifWrite (branch h.tbWrite
    (branch h.ringWrite h)))))))
theorem StoresCanonical.bar2Write {a width value} : StoresCanonical (s.bar2Write a width value) :=
  branch h (branch h.tailDoorbell h.headDoorbell)
theorem StoresCanonical.mgmtWrite {a v} : StoresCanonical (s.mgmtWrite a v) :=
  branch (branch h.ringEnable h.ringDrop) (branch h.hostActivity.tailDoorbell (branch h.hostActivity.headDoorbell
    (branch h.plainWriteReg.modChanged h.plainWriteReg)))
theorem StoresCanonical.icxWrite {a v} : StoresCanonical (s.icxWrite a v) :=
  branch h.completeNormal (branch h.completeFastCharged (branch h.lockRelease (branch h.writeMask (branch h.writePend
    (branch h.writeMask (branch h.writePend (branch h.icxCntClr (branch (branch h.setReg h) (h.icxChange fun h =>
    h.plainWriteReg)))))))))
theorem StoresCanonical.pllCtlWrite {v} : StoresCanonical (s.pllCtlWrite v) :=
  branch h.plainWriteReg h.plainWriteReg.setLocked.standbyGone
theorem StoresCanonical.pllCalWrite {a v} : StoresCanonical (s.pllCalWrite a v) :=
  branch h.pllCtlWrite (branch h.pllClr (branch h.plainWriteReg.setFlag.setFlag (branch h.calWrite (branch h.dlistClr
    h.plainWriteReg))))
theorem StoresCanonical.fldInRange {f lo hi v} : StoresCanonical (s.fldInRange f lo hi v) := branch h.setFld h
theorem StoresCanonical.thmWrite {a v} : StoresCanonical (s.thmWrite a v) :=
  branch h.fldInRange.fldInRange.fldInRange (branch h.fldInRange (branch h.peakClr (branch (branch h.wakeFires h)
    (branch h.abortClr h.plainWriteReg))))
theorem StoresCanonical.sprWrite {a v} : StoresCanonical (s.sprWrite a v) :=
  branch h.sprClr (branch h.fltClr (branch h.fldInRange.setFlag (branch h.bistCtl (branch (branch h.setFld h)
    h.plainWriteReg))))
theorem StoresCanonical.bar1Write {offset width value} : StoresCanonical (s.bar1Write offset width value) :=
  branch h.vectorWrite (branch h (branch h.mgmtWrite (branch h.icxWrite (branch h.pllCalWrite (branch h.thmWrite
    h.sprWrite)))))
theorem StoresCanonical.leadIcxWrite {a v} : StoresCanonical (s.leadIcxWrite a v) :=
  branch (h.icxChange fun h => h.setReg) (branch (h.icxChange fun h => h.setReg) (branch (h.icxChange fun h =>
    h.setReg) (branch (h.icxChange fun h => h.setReg) (branch h (branch h.writeMask (branch h.writePend (branch
    h.writeMask (branch h.writePend h))))))))

/-! ### The functions of Machine/Views -/

theorem StoresCanonical.cfgWriteBytes {i o width v} : StoresCanonical (s.cfgWriteBytes i o width v) :=
  branch h h.cfgWrite
theorem StoresCanonical.execRegisterWrite {space offset width value} :
    NextCanonical (Machine.execRegisterWrite space offset width value s) := by
  unfold Machine.execRegisterWrite
  split
  · exact h.pf0Write fun h => h.bar0Write
  · exact h.pf0Write fun h => h.bar2Write
  · exact h.pf1Write fun h => h.bar1Write
  · exact h.cfgWriteBytes
  · exact h.cfgWriteBytes
  · exact branch h.leadIcxWrite h

/-! ### The commands -/

theorem StoresCanonical.execTrigInEdge {dt pin rising} : NextCanonical (Machine.execTrigInEdge dt pin rising s) :=
  have h1 := branch h.advance.setPin.raise.wakeFires h.advance.setPin
  branch (branch (branch h1.count (branch h1.trigCount h1)) h1) h.advance.setPin
theorem StoresCanonical.execPipelineFrame {reads cam} : NextCanonical (Machine.execPipelineFrame reads cam s) :=
  have h1 := h.advance.sramErrors.pipeline.dropClaims.dropFrames.settleDrain
  branch h.advance (branch h1.retryCommits h1)
theorem StoresCanonical.execPixsupMonitorSample {dt mv} : NextCanonical (Machine.execPixsupMonitorSample dt mv s) :=
  have h1 := h.advance.setFld.setFlag.droop
  branch (branch h.advance.setFld (branch h1.raiseFast h1)) h.advance
theorem StoresCanonical.execCsiFrameStart {dt packet} : NextCanonical (Machine.execCsiFrameStart dt packet s) :=
  have h1 := h.advance.showLanes.csiHeader
  branch (branch ((h1.foldl fun h => h.malformed).foldl fun h => h.camStart).showBuffered h1) h.advance
theorem StoresCanonical.execCsiLongPacket {dt packet} : NextCanonical (Machine.execCsiLongPacket dt packet s) :=
  have h1 := h.advance.showLanes.csiHeader
  branch (branch h1 (branch h1.count (branch h1 h1.count.charge).modCam)) h.advance
theorem StoresCanonical.execCsiFrameEnd {dt packet} : NextCanonical (Machine.execCsiFrameEnd dt packet s) :=
  have h1 := h.advance.showLanes.csiHeader
  branch (branch (h1.foldl fun h => h.camEnd).showBuffered h1) h.advance
theorem StoresCanonical.execCalRun {meas} : NextCanonical (Machine.execCalRun meas s) :=
  branch (branch h.advanceCalRun h) (h.mailbox fun h => branch h.finishMbox (branch h.finishMbox
    h.startHead.setFlag.setCalRun.advanceCalRun))
theorem StoresCanonical.execPowerState : NextCanonical (Machine.execPowerState s) :=
  h.mailbox fun h => branch h.finishMbox (branch h.finishMbox (branch h.startHead (branch h.startHead.update (branch
    h.startHead.update.stopRun h.startHead.update).setFlag)))
theorem StoresCanonical.execWake {dt source} : NextCanonical (Machine.execWake dt source s) :=
  have h1 := h.advance.wakeFires
  branch (branch h1.reachActive h1) h.advance
theorem StoresCanonical.execRefInLoss {dt} : NextCanonical (Machine.execRefInLoss dt s) :=
  have h1 := h.advance.update.setFlag.count.refGate.refGate.setLocked.setLocked.standbyGone
  branch ((branch h1 h1.enterHoldover).markLosses.raiseFast.free.loopEvent) h.advance
theorem StoresCanonical.execPowerupCalibration {dt found} :
    NextCanonical (Machine.execPowerupCalibration dt found s) :=
  have h1 := h.advance.loadEntries.powerUpItem.lockLoops.powerUpItem
  branch ((branch (h1.darkLevel.foldl fun h => h.powerUpItem) h1.darkLevel.setFlag.darkEvent).setFlag.setFld.update)
    h.advance
theorem StoresCanonical.execThermalSample {dt counts} : NextCanonical (Machine.execThermalSample dt counts s) :=
  have h1 := (h.advance.foldl fun h => h.showSite.judgeSite).showExtremes.update.countStart
  have h2 := h1.foldl fun h => h.countRuns
  branch h.advance (branch h1 (branch h2 (h2.foldl fun h => h.testThreshold).settleReady))
theorem StoresCanonical.execShutdownComplete {dt} : NextCanonical (Machine.execShutdownComplete dt s) :=
  have h1 := h.advance.settleTrip
  branch (branch h1.writeShut.goOff h1) h.advance
theorem StoresCanonical.execCoachmanWatchdogExpiry {dt core} :
    NextCanonical (Machine.execCoachmanWatchdogExpiry dt core s) :=
  have h1 := h.advance.raiseFast.charge
  branch h.advance ((branch h1.coachLost h1).coachGone)
theorem StoresCanonical.execMoultStart {dt} : NextCanonical (Machine.execMoultStart dt s) :=
  have h1 := h.advance.flushAll.abortTests.setFlag
  branch ((branch h1 h1.releaseCold).update.allSafe.linkReset) h.advance

/-- What a command answers has canonical stores: a case per command. -/
theorem StoresCanonical.exec : (i : Instr) → NextCanonical (Machine.exec i s)
  | .tickEdge .. => h.execTickEdge
  | .internalPeriodExpiry .. => branch h.advance.candidate h.advance
  | .trigInEdge .. => h.execTrigInEdge
  | .compareFire .. => branch h.advance.fire h.advance
  | .exposureIntervalStart .. => h.execExposureIntervalStart
  | .exposureIntervalEnd .. => h.execExposureIntervalEnd
  | .fireflyPulseStart .. => h.execFireflyPulseStart
  | .fireflyPulseEnd .. => branch h.advance.setFirefly.setPin h.advance
  | .readoutStart .. => h.execReadoutStart
  | .rowSlot .. => h.execRowSlot
  | .axlePacket .. => h.execAxlePacket
  | .pipelineFrame .. => h.execPipelineFrame
  | .trackerRound .. => branch h.advance h.advance.sramErrors.runRound
  | .companionRound .. => branch h.advance h.advance.sramErrors.runRound
  | .trackerBankCopyComplete .. => branch h.advance h.advance.copyDone
  | .governorEvaluate .. => h.execGovernorEvaluate
  | .pixsupMonitorSample .. => h.execPixsupMonitorSample
  | .pixsupReadyRise .. => branch h.advance.setFlag h.advance
  | .csiFrameStart .. => h.execCsiFrameStart
  | .csiLongPacket .. => h.execCsiLongPacket
  | .csiFrameEnd .. => h.execCsiFrameEnd
  | .mergeBufferDispatch .. => h.execMergeBufferDispatch
  | .trigOutActive .. => h.execTrigOutActive
  | .trigOutInactive .. => branch h.advance.setTrigOut.setPin h.advance
  | .tsyncInEdge .. => branch h.advance.syncEdge.loadTimebase h.advance.syncEdge
  | .tsyncOutInactive .. => h.execTsyncOutInactive
  | .tbSyncArm .. => h.pf0Write fun h => h.syncCtl
  | .tbSyncDisarm .. => h.pf0Write fun h => h.syncCtl
  | .cmpValHiWrite .. => h.pf0Write fun h => h.cmpValHi
  | .cmpCtlWrite .. => h.pf0Write fun h => h.cmpCtl
  | .captureEdge .. => branch h.advance.toldEdge.captureEdge h.advance.toldEdge
  | .capRiseLoRead .. => h.barRead fun h => h.setFlag
  | .capFallHiRead .. => h.barRead fun h => h.capRelease
  | .capRelease .. => h.pf0Write fun h => h.capRelease
  | .capLostClr .. => h.pf0Write fun h => h.setFld
  | .gcClr .. => h.pf0Write fun h => h.gcCtl
  | .ptmReq .. => h.pf0Write fun h => h.ptmCtl
  | .ptmAutoExpiry .. => branch h.advance.update.ptmRequest h.advance
  | .ptmDialogueComplete .. => branch h.advance.update.setWide.setWide.setReg.setReg.raise h.advance
  | .chainRecordHandover .. => h.execChainRecordHandover
  | .directRecordHandover .. => h.execDirectRecordHandover
  | .weevilNop .. => h.advance.runOp fun h => branch h.completeOp h.modEngine
  | .pull .. => h.advance.runOp fun h => branch h.doPull h.modEngine
  | .push .. => h.advance.runOp fun h => branch h.doPush h.stallPush
  | .shiftOut .. => h.execShiftOut
  | .shiftIn .. => h.advance.runOp fun h => h.askShift
  | .shiftComplete .. => h.execShiftComplete
  | .setTime .. => h.advance.runOp fun h => h.completeOp
  | .waitTime .. => h.advance.runOp fun h => branch h.completeOp h.modEngine
  | .timeReached .. => branch h.advance.completeOp h.advance
  | .latchAt .. => h.advance.runOp fun h => branch h.latchMiss.driveLatch h.latchMiss.modEngine
  | .latchEdge .. => h.execLatchEdge
  | .capture .. => h.execCapture
  | .weevilCaptureEdge .. => h.execWeevilCaptureEdge
  | .raiseEvent .. => h.advance.runOp fun h => h.completeOp.weevilEvent
  | .halt .. => h.advance.runOp fun h => h.stopEngine.modWv.drive.raiseFast.ejSafe
  | .stallResume .. => h.execStallResume
  | .rxFifoDrain .. => h.execRxFifoDrain
  | .safeStateSwitch .. => h.execSafeStateSwitch
  | .forcedSwapTimeout .. => h.execForcedSwapTimeout
  | .weevilRoleHandover .. => branch h.advance.moveRole h.advance
  | .hostAbsenceExpiry .. => branch h.advance.hostAbsent h.advance
  | .hifRunSet .. => h.pf0Write fun h => branch h.startRun h
  | .hifRunClear .. => h.pf0Write fun h => branch h h.stopRun
  | .runStopComplete .. => branch h.advance.setFlag.setFlag.settlePins.settleTakeOver h.advance
  | .hifHostAlive .. => h.pf0Write fun h => h
  | .hifCntClr .. => h.pf0Write fun h => h.cntClr
  | .hifOvlClr .. => h.pf0Write fun h => h.ovlClr
  | .hifExpClr .. => h.pf0Write fun h => h.expClr
  | .hifRoClr .. => h.pf0Write fun h => h.roClr
  | .hifCsxClr .. => h.pf0Write fun h => h.csxClr
  | .hifPipeClr .. => h.pf0Write fun h => h.pipeClr
  | .hifTrkClr .. => h.pf0Write fun h => h.trkClr
  | .hifEjClr .. => h.pf0Write fun h => h.ejClr
  | .hifWvClr .. => h.pf0Write fun h => h.wvClr
  | .hifPcieClr .. => h.pf0Write fun h => h.pcieClr
  | .ringClr .. => h.pf0Write fun h => h.ringClr
  | .ringDropClr .. => h.pf0Write fun h => h.ringDropClr
  | .pllClr .. => h.pf1Write fun h => h.pllClr
  | .sprClr .. => h.pf1Write fun h => h.sprClr
  | .fltClr .. => h.pf1Write fun h => h.fltClr
  | .icxCntClr .. => h.pf1Write fun h => h.icxCntClr
  | .icxErrClr .. => h.pf1Write fun h => h.setReg
  | .roFactDefectsClr .. => h.pf0Write fun h => h.factDefectsClr
  | .thmPeakClr .. => h.pf1Write fun h => h.peakClr
  | .pwrSleepAbortClr .. => h.pf1Write fun h => h.abortClr
  | .registerWrite .. => h.execRegisterWrite
  | .nop .. => h.command fun h => h.finishHead
  | .stageReg .. => h.command fun h => h.unlessLocked fun h => h.stage
  | .setMode .. => h.command fun h => h.unlessLocked fun h => h.stage
  | .tableLoad .. => h.execTableLoad
  | .tableLoadComplete .. => h.execTableLoadComplete
  | .tableSwap .. => h.command fun h => h.unlessLocked fun h => h.stage
  | .commit .. => h.command fun h => h.tryCommit
  | .discard .. => h.command fun h => h.setGroup.finishHead
  | .bundle .. => h.execBundle
  | .sqTailDoorbell .. => h.doorbellWrite fun h => h.tailDoorbell
  | .cqHeadDoorbell .. => h.doorbellWrite fun h => h.headDoorbell
  | .ringEnable .. => h.ringCfgWrite
  | .ringDisable .. => h.ringCfgWrite
  | .descriptorFetch .. => h.execDescriptorFetch
  | .bufferFetch .. => h.execBufferFetch
  | .bufferFlushTimeout .. => branch h.advance h.advance.closeFlushed
  | .moderationTimeout .. => branch (branch (branch h.advance h.advance.setRing.setPme) (branch h.advance.cqDue
      h.advance)) h.advance
  | .archiveEnable .. => h.pf0Write fun h => h.archCfgWrite
  | .archiveBlockFlush .. => branch h.advance.flushBlock.eventsN h.advance
  | .perstNRelease .. => branch h.advance (branch h.advance.update h.advance.update)
  | .linkRetrain .. => h.pf0Write fun h => h.linkCfgWrite
  | .laneFailClr .. => h.pf0Write fun h => h.linkCfgWrite
  | .pcieCorrectableError .. => h.execPcieCorrectableError
  | .functionLevelReset .. => branch h.functionReset h
  | .busMasterDisable .. => branch h.busMasterOff h
  | .hotReset .. => h.execHotReset
  | .d3hotEntry .. => branch h.enterD3hot h
  | .d0Return .. => branch h.returnD0 h
  | .msixVectorUnmask .. => branch (h.barWrite fun h => h.setVector) h
  | .ctxRead => h.mailbox fun h => branch h.finishMbox h.free.writeMem.contextErrors.finishMbox
  | .idRead => h.mailbox fun h => h.mboxWrite
  | .certRead => h.mailbox fun h => branch h.finishMbox h.mboxWrite
  | .quote => h.mailbox fun h => branch h.finishMbox h.digestNow.writeMem.finishMbox
  | .factDefects => h.mailbox fun h => branch h.finishMbox h.nvmRead.mboxWrite
  | .fwWrite .. => h.execFwWrite
  | .fwActivate => h.execFwActivate
  | .fwConfirm => h.mailbox fun h => branch h.finishMbox (branch h.confirmTrial.startHead.restartStandby
      h.confirmTrial.finishMbox)
  | .ownerEnroll .. => h.execOwnerEnroll
  | .digestExpect => h.mailbox fun h => h.update.finishMbox
  | .digestRead => h.mailbox fun h => h.digestNow.mboxWrite
  | .lifecycle => h.mailbox fun h => branch h.finishMbox (branch h.burn.finishMbox h.finishMbox)
  | .calRun .. => h.execCalRun
  | .calSnapshot => h.mailbox fun h => branch h.finishMbox h.startHead.journalOpaque
  | .flatAcquire => h.mailbox fun h => branch h.finishMbox (branch h.finishMbox h.startHead.showItem.update)
  | .spareAssign => h.execSpareAssign
  | .selftestUnit => h.execSelftestUnit
  | .faultRead => h.mailbox fun h => branch h.finishMbox h.nvmRead.writeMem.finishMbox
  | .journalRead => h.mailbox fun h => branch h.finishMbox h.nvmRead.writeMem.finishMbox
  | .powerState => h.execPowerState
  | .powerStateEntry .. => h.execPowerStateEntry
  | .wake .. => h.execWake
  | .loopLockLoss .. => branch h.advance.setLocked.update.count.charge.roleLoss h.advance
  | .standIn .. => h.execStandIn
  | .loopRelock .. => h.execLoopRelock
  | .refInLoss .. => h.execRefInLoss
  | .refInGood .. => branch h.advance.update.setFlag.leaveHoldover.free.loopEvent h.advance
  | .powerupCalibration .. => h.execPowerupCalibration
  | .backgroundDriftMeasure .. => branch (h.advance.foldl fun h => h.testDark).trackAll.settleCycle h.advance
  | .calDataAccess .. => h.execCalDataAccess
  | .calDlistClr .. => h.pf1Write fun h => h.dlistClr
  | .thermalSample .. => h.execThermalSample
  | .shutdownComplete .. => h.execShutdownComplete
  | .graceExpiry .. => h.execGraceExpiry
  | .faultBucketLeak .. => h.advance.setBucket
  | .selftestTurn .. => h.execSelftestTurn
  | .selftestComplete .. => h.execSelftestComplete
  | .bistShutdown .. => h.pf1Write fun h => h.bistCtl
  | .moultComplete .. => branch (branch h.advance.goOff
      h.advance.moultPatterns.setFld.moultFault.journalOpaque.runJobs.goOff) h.advance
  | .resetNAssert .. => h.advance.update.resetAll
  | .resetNRelease .. => branch h.advance (branch h.advance.update h.advance.update.start)
  | .brownout .. => h.advance.update.resetAll
  | .railFault .. => branch h.advance.raiseFast h.advance
  | .standbyReady .. => h.execStandbyReady
  | .trialTimeout .. => h.execTrialTimeout
  | .coachmanWatchdogExpiry .. => h.execCoachmanWatchdogExpiry
  | .secAlarm .. => branch h.advance.count.setFlag.raiseFast h.advance
  | .journalCompaction .. => branch h.advance.compact h.advance
  | .entdaa .. => branch h.update h
  | .setdasa .. => branch h.update h
  | .rstdaa => branch h.update h
  | .getpid => h.i3cDirect fun h => h.i3cAnswer
  | .getbcr => h.i3cDirect fun h => h.i3cAnswer
  | .getdcr => h.i3cDirect fun h => h.i3cAnswer
  | .getstatus => h.i3cDirect fun h => h.free.i3cAnswer
  | .getmrl => h.i3cDirect fun h => h.i3cAnswer
  | .getmwl => h.i3cDirect fun h => h.i3cAnswer
  | .enec .. => branch h.update h
  | .disec .. => branch h.update h
  | .i3cId => h.i3cDirect fun h => h.i3cAnswer
  | .i3cStatus => h.i3cPrivate fun h => h.i3cAnswer
  | .i3cTemps => h.i3cPrivate fun h => h.i3cAnswer
  | .i3cTick => h.i3cPrivate fun h => h.i3cAnswer
  | .i3cFault => h.i3cPrivate fun h => h.i3cAnswer
  | .i3cWake => h.i3cPrivate fun h => h.wakeFires
  | .i3cRequest .. => h.i3cPrivate fun h => h.setReg.raise.wakeFires
  | .icxHclaim => h.barRead fun h => h.claimNormal
  | .icxHfclaim => h.barRead fun h => h.claimFast
  | .icxHcomplete .. => h.pf1Write fun h => h.completeNormal
  | .icxHfcomplete .. => h.pf1Write fun h => h.completeFastCharged
  | .icxLockRead .. => branch (h.barRead fun h => h.lockRead) (branch h.lockRead.answer h)
  | .icxLockRelease .. => branch (h.pf1Write fun h => h.lockRelease) (branch h.lockRelease h)
  | .icxLockTimeout .. => branch h.advance.setFld.count h.advance
  | .hostClaimWindowExpiry .. => branch (h.advance.icxChange fun h => h.update) h.advance
  | .icxPendWrite .. => h.pf1Write fun h => h.writePend
  | .icxMaskWrite .. => h.pf1Write fun h => h.writeMask
  | .internalMessage .. => branch h.advance.update h.advance.update.charge
  | .csiDeskewComplete .. => branch h.advance.setFlag h.advance
  | .linkUp .. => h.execLinkUp
  | .nvmProgramSequenceComplete .. => h.execNvmProgramSequenceComplete
  | .brownoutResetExit .. => branch (branch h.advance.update.start h.advance.update) h.advance
  | .moultStart .. => h.execMoultStart
  | .coachmanIcxClaim .. => h.execCoachmanIcxClaim
  | .coachmanIcxComplete .. => branch (branch h.completeFastCharged h.completeNormal) h
  | .jtagInstruction .. => h.execJtagInstruction

end

/-- What a step answers has canonical stores. -/
theorem StoresCanonical.step {s : State} (h : StoresCanonical s) : NextCanonical (Machine.step s) := by
  unfold Machine.step
  split
  · exact h.advance
  · exact h.update.exec _

/-- Settles O60: every function of the model writes the two stores through `setReg`, `resetRegs` and `writeMem`, which
keep them canonical. -/
theorem storesStayCanonical : Obligations.StoresStayCanonical := by
  intro s t h ht
  have hn : NextCanonical (Machine.step s) := h.step
  rwa [ht] at hn

end Sys2Proof.Safety
end

