-- ==== Sys2Proof/Proofs/RegisterWrites.lean ====
section
/-! PROOF. A direct write of CSX_CAMn_CFG shows in CSX_CAMn_STAT at once, against the last clause of O10.

R18 puts the setting in force at once, and R165 makes a camera shared while SHARE is 1; the model has SHARED and PIPE of
CSX_CAMn_STAT follow the write (`State.settleShares`). So the write changes a register beside the one written, and the
statement excepts only CSX_LINK_STAT. -/

namespace Sys2Proof.Safety

open Sys2Proof.Machine

/-- A write to PF0 BAR0 on an accessible PF0 is host activity, then the effect of the write. -/
theorem exec_registerWrite_pf0Bar0 {s : State} (h : s.barOk 0 = true) (off w : Nat) (x : BitVec 64) :
    exec (.registerWrite .pf0Bar0 off w x) s = .next (s.hostActivity.bar0Write off w x) :=
  congrArg _ (if_pos h)

/-- A started device that the host reaches at PF0: nothing runs, no owner has locked it, and camera 2 is enabled. -/
def stoppedDevice : State :=
  let s := (State.reset.setFlag .HIF_READY_READY true).setFlag (.CSX_CAM_CFG_EN 1) true
  { s with inReset := false, pcie := { s.pcie with link := .up, f0 := { PciFn.init with memEnable := true } } }

/-- A value for CSX_CAM1_CFG: EN 1, SHARE 1 and PARTNER 2, its other fields as at reset. -/
def shareWithCamera2 : BitVec 64 := 0x2b1b

theorem stoppedDevice_barOk : stoppedDevice.barOk 0 = true := by decide +kernel

theorem stoppedDevice_stopped : stoppedDevice.hostActivity.running = false := by decide +kernel

theorem stoppedDevice_unlocked : stoppedDevice.hostActivity.ownerLocked = false := by decide +kernel

theorem camCfg_stageable : stageable (Reg.CSX_CAM_CFG 0) = true := by decide +kernel

/-- SHARED and PIPE of CSX_CAM1_STAT follow the write: camera 1 is now on pipeline 2. -/
theorem camCfg_write_changes_camStat :
    (stoppedDevice.hostActivity.bar0Write (Reg.CSX_CAM_CFG 0) 4 shareWithCamera2).reg (Reg.CSX_CAM_STAT 0) ≠
      stoppedDevice.hostActivity.reg (Reg.CSX_CAM_STAT 0) := by decide +kernel

/-- Refutes O10: on a stopped device a write of SHARE 1 and PARTNER 2 to CSX_CAM1_CFG changes CSX_CAM1_STAT too, which
the last clause says keeps its value. -/
theorem not_registerWritesFollowTheRulesOfR8AndR18 : ¬ Obligations.RegisterWritesFollowTheRulesOfR8AndR18 := by
  rintro ⟨-, -, -, -, -, -, hset⟩
  obtain ⟨r, hr⟩ : ∃ r, regRow (Reg.CSX_CAM_CFG 0) = some r := ⟨_, rfl⟩
  obtain ⟨t, ht, -, hregs, -⟩ := hset stoppedDevice (Reg.CSX_CAM_CFG 0) shareWithCamera2 r stoppedDevice_barOk hr
    camCfg_stageable (by decide) (by decide) (fun h => absurd h (by decide)) stoppedDevice_stopped
    stoppedDevice_unlocked
  rw [exec_registerWrite_pf0Bar0 stoppedDevice_barOk] at ht
  rw [← Host.Outcome.next.inj ht] at hregs
  exact camCfg_write_changes_camStat (hregs _ (by decide))

end Sys2Proof.Safety
end

section
/-! PROOF. What completions and events leave unchanged.

A completion changes the rings, the link, the messages sent and host memory (`Posted`); an event changes beside these the
interrupt controller, the archive and the registers of these units (`Quiet`). One lemma per function of the model, named
after it, carries each relation through it. -/

namespace Sys2Proof.Safety

open Sys2Proof.Machine

/-! ## Completions and messages

What the rings and the messages of the link hold, and host memory, are all that a completion changes. -/

/-- A state without what completions and messages change: host memory, the messages sent, the link and the rings. -/
def postless (s : State) : State :=
  { s with hostMem := [], sent := [], pcie := State.reset.pcie, rings := [] }

/-- `s` differs from `s₀` at most in what completions and messages change. -/
def Posted (s₀ s : State) : Prop := postless s = postless s₀

theorem Posted.refl (s : State) : Posted s s := rfl

theorem Posted.regs {s₀ s : State} (h : Posted s₀ s) : s.regs = s₀.regs := (congrArg State.regs h :)
theorem Posted.spares {s₀ s : State} (h : Posted s₀ s) : s.spares = s₀.spares := (congrArg State.spares h :)
theorem Posted.tables {s₀ s : State} (h : Posted s₀ s) : s.tables = s₀.tables := (congrArg State.tables h :)
theorem Posted.groups {s₀ s : State} (h : Posted s₀ s) : s.groups = s₀.groups := (congrArg State.groups h :)
theorem Posted.accepted {s₀ s : State} (h : Posted s₀ s) : s.accepted = s₀.accepted := (congrArg State.accepted h :)

theorem Posted.branch {s₀ s t : State} {c : Prop} {inst : Decidable c} (hs : Posted s₀ s) (ht : Posted s₀ t) :
    Posted s₀ (if c then s else t) := by split <;> assumption

section
variable {s₀ s : State} (h : Posted s₀ s)
include h

theorem Posted.setPcie {x} : Posted s₀ { s with pcie := x } := h
theorem Posted.setFn {i f} : Posted s₀ (s.setFn i f) := h
theorem Posted.emitIf {go m} : Posted s₀ (s.emitIf go m) := h
theorem Posted.sendVector {i v} : Posted s₀ (s.sendVector i v) := h
theorem Posted.msixDue {i v} : Posted s₀ (s.msixDue i v) := branch (branch h.setFn h.sendVector) h
theorem Posted.setPme {i} : Posted s₀ (s.setPme i) := branch h (branch h.setFn.emitIf h.setFn)
theorem Posted.hostDue : Posted s₀ s.hostDue := branch h.setPme h.msixDue
theorem Posted.setRing {n r} : Posted s₀ (s.setRing n r) := h
theorem Posted.writeMem {a bs} : Posted s₀ (s.writeMem a bs) := h
theorem Posted.postMem {a bs} : Posted s₀ (s.postMem a bs) := branch h h
theorem Posted.cqDue {n} : Posted s₀ (s.cqDue n) := branch h (branch h.setRing h.setRing.setPcie.msixDue)
theorem Posted.settleRing {n} : Posted s₀ (s.settleRing n) := branch (branch h.setRing.setRing h.setRing) h
theorem Posted.writeCpl {q c rest start} : Posted s₀ (s.writeCpl q c rest start) := h.writeMem.setRing.settleRing
theorem Posted.drainHeld {q announce l} : Posted s₀ (s.drainHeld q announce l) := by
  induction l generalizing s with
  | nil => exact h
  | cons c rest ih => exact branch (ih (branch h.writeCpl.cqDue h.writeCpl)) h
theorem Posted.complete {c} : Posted s₀ (s.complete c) := branch h.setRing.drainHeld h
theorem Posted.closeBuf {n status length} : Posted s₀ (s.closeBuf n status length) := by
  unfold State.closeBuf
  split
  · exact h
  · exact h.setRing.complete
theorem Posted.passBufs {n size l} : Posted s₀ (s.passBufs n size l) := by
  induction l generalizing s with
  | nil => exact h
  | cons b rest ih => exact branch h (ih h.closeBuf)
theorem Posted.closeFlushed {n} : Posted s₀ (s.closeFlushed n) := branch h.closeBuf h
theorem Posted.putItem {n bytes tick tag} : Posted s₀ (s.putItem n bytes tick tag) := by
  unfold State.putItem
  split
  · exact h
  · exact h.postMem.setRing
theorem Posted.flushBuf {n tick} : Posted s₀ (s.flushBuf n tick) := by
  unfold State.flushBuf
  split
  · exact h
  · exact branch h.closeBuf h.postMem.closeBuf
theorem Posted.settleClaims {n fuel} : Posted s₀ (s.settleClaims n fuel) := by
  induction fuel generalizing s with
  | zero => exact h
  | succ fuel ih =>
    unfold State.settleClaims
    split
    · exact ih h.setRing.flushBuf
    · exact h
theorem Posted.setClaims {n l} : Posted s₀ (s.setClaims n l) := h.setRing.settleClaims
theorem Posted.popHead {n} : Posted s₀ (s.popHead n) := h.setRing
theorem Posted.startHead {n} : Posted s₀ (s.startHead n) := h.setRing
theorem Posted.dropUndefined {n fuel} : Posted s₀ (s.dropUndefined n fuel) := by
  induction fuel generalizing s with
  | zero => exact h
  | succ fuel ih =>
    unfold State.dropUndefined
    split
    · exact branch h (ih h.popHead.complete)
    · exact h
theorem Posted.nextHead {n} : Posted s₀ (s.nextHead n) := h.popHead.dropUndefined.settleRing
theorem Posted.finishHead {n status result} : Posted s₀ (s.finishHead n status result) := by
  unfold State.finishHead
  split
  · exact h
  · exact h.popHead.complete.dropUndefined.settleRing
theorem Posted.finishWaiting {notify st result} : Posted s₀ (s.finishWaiting notify st result) :=
  branch h.finishHead h

end

/-! ## Events -/

/-- The registers that raises of the interrupt controller, drops of items and the archive change: those of the ICX, those of
the rings, and HIF_NORING_DROP. -/
def EventReg (a : Nat) : Prop := a = Reg.HIF_NORING_DROP ∨ (0x5000 ≤ a ∧ a < 0x6000) ∨ (0x20800 ≤ a ∧ a < 0x21000)

/-- A state without what events change beside registers: what completions change, the archive, the ICX, the number of
the next event and the count of free values. -/
def eventless (s : State) : State :=
  { postless s with regs := [], archive := State.reset.archive, icx := State.reset.icx, evSeq := 0, freeCtr := 0 }

/-- `s` differs from `s₀` at most in what events, and the completions and messages that they bring, change. -/
structure Quiet (s₀ s : State) : Prop where
  rest : eventless s = eventless s₀
  regs : RegsKept s₀ s EventReg

theorem Quiet.refl (s : State) : Quiet s s := ⟨rfl, fun _ _ => rfl⟩

theorem Quiet.hostWatch {s₀ s : State} (h : Quiet s₀ s) : s.hostWatch = s₀.hostWatch := (congrArg State.hostWatch h.rest :)
theorem Quiet.spares {s₀ s : State} (h : Quiet s₀ s) : s.spares = s₀.spares := (congrArg State.spares h.rest :)

/-- A field of a register that events leave alone. -/
theorem Quiet.fld {s₀ s : State} (h : Quiet s₀ s) {f : Fld} (hf : ¬ EventReg f.addr) : s.fld f = s₀.fld f :=
  congrArg (fun w : Word => getBits w.toNat f.hi f.lo) (h.regs f.addr hf)

theorem Quiet.branch {s₀ s t : State} {c : Prop} {inst : Decidable c} (hs : Quiet s₀ s) (ht : Quiet s₀ t) :
    Quiet s₀ (if c then s else t) := by split <;> assumption

/-- A completion or message keeps what events keep. -/
theorem Quiet.post {s₀ s t : State} (h : Quiet s₀ s) (ht : Posted s t) : Quiet s₀ t :=
  ⟨(congrArg eventless ht).trans h.rest, fun a ha => (reg_congr ht.regs a).trans (h.regs a ha)⟩

/-- A fold over a value that carries a state. -/
theorem Quiet.foldlOn {α β : Type} {s₀ : State} (g : α → State) {f : α → β → α} {a : α} {l : List β}
    (h : Quiet s₀ (g a)) (hf : ∀ {a x}, Quiet s₀ (g a) → Quiet s₀ (g (f a x))) : Quiet s₀ (g (l.foldl f a)) := by
  induction l generalizing a with
  | nil => exact h
  | cons x l ih => exact ih (hf h)

/-- The place of a source lies in the ICX. -/
theorem icxPlace_eventReg {kind : Nat} (src : Nat) (hk : kind ≤ 2) : EventReg (icxPlace kind src).addr := by
  unfold icxPlace EventReg
  split
  · have : src / 32 < 8 := by omega
    exact Or.inr (Or.inr ⟨by dsimp only [Reg.ICX_MASK]; omega, by dsimp only [Reg.ICX_MASK]; omega⟩)
  · exact Or.inr (Or.inr ⟨by dsimp only [Reg.ICX_FMASK]; omega, by dsimp only [Reg.ICX_FMASK]; omega⟩)

/-- The counter of a source of the ICX lies in it. -/
theorem icxCounter_eventReg {src : Nat} (h : src ≤ 272) : EventReg (icxCounter src).addr := by
  unfold icxCounter EventReg
  split
  · exact Or.inr (Or.inr ⟨by dsimp only [Reg.ICX_CNT]; omega, by dsimp only [Reg.ICX_CNT]; omega⟩)
  · exact Or.inr (Or.inr ⟨by dsimp only [Reg.ICX_FCNT]; omega, by dsimp only [Reg.ICX_FCNT]; omega⟩)

/-- The drop counter of a ring lies in the ring block. -/
theorem ringDrop_eventReg {n : Nat} (h : n < 32) : EventReg (Fld.RING_DROP_DROP n).addr :=
  Or.inr (Or.inl ⟨by dsimp only [Reg.RING_DROP]; omega, by dsimp only [Reg.RING_DROP]; omega⟩)

/-- A stream goes to one of the 32 rings of PF0. -/
theorem streamRing_lt {s : State} {kind cam n : Nat} (h : s.streamRing kind cam = some n) : n < 32 :=
  List.mem_range.mp (List.mem_of_find?_eq_some h)

section
variable {s₀ s : State} (h : Quiet s₀ s)
include h

/-- A write of a register that events change. -/
theorem Quiet.setReg {a v} (ha : EventReg a) : Quiet s₀ (s.setReg a v) :=
  ⟨h.rest, fun b hb => (reg_setReg_ne s v fun e : b = a => hb (e ▸ ha)).trans (h.regs b hb)⟩
theorem Quiet.setFld {f v} (hf : EventReg f.addr) : Quiet s₀ (s.setFld f v) := h.setReg hf
theorem Quiet.setFlag {f b} (hf : EventReg f.addr) : Quiet s₀ (s.setFlag f b) := h.setReg hf
theorem Quiet.count {f n} (hf : EventReg f.addr) : Quiet s₀ (s.count f n) := h.setReg hf
theorem Quiet.setWide {a v} (h1 : EventReg a) (h2 : EventReg (a + 4)) : Quiet s₀ (s.setWide a v) :=
  (h.setReg h1).setReg h2
theorem Quiet.free : Quiet s₀ s.free.2 := ⟨h.rest, h.regs⟩
theorem Quiet.setIcx {x} : Quiet s₀ { s with icx := x } := ⟨h.rest, h.regs⟩
theorem Quiet.setArchive {x} : Quiet s₀ { s with archive := x } := ⟨h.rest, h.regs⟩
theorem Quiet.setEvSeq {x} : Quiet s₀ { s with evSeq := x } := ⟨h.rest, h.regs⟩
theorem Quiet.setPcie {x} : Quiet s₀ { s with pcie := x } := ⟨h.rest, h.regs⟩

theorem Quiet.setIcxTarget {t v} : Quiet s₀ (s.setIcxTarget t v) := h.setIcx
theorem Quiet.assertTarget {u t} : Quiet s₀ (s.assertTarget u t) := branch h.setIcxTarget h
theorem Quiet.hostDue : Quiet s₀ s.hostDue := h.post (Posted.refl s).hostDue
omit h in
/-- A change of the ICX that keeps what events keep. -/
theorem Quiet.icxChange {f} (hf : Quiet s₀ (f s)) : Quiet s₀ (s.icxChange f) :=
  have h1 := hf.assertTarget.assertTarget.assertTarget
  branch h1.hostDue h1
theorem Quiet.makePending {src} : Quiet s₀ (s.makePending src) :=
  have h1 := h.setFlag (b := true) (icxPlace_eventReg src (by decide))
  branch h1 (branch h1.setIcx h1.setIcx)
theorem Quiet.clearPending {src} : Quiet s₀ (s.clearPending src) :=
  (h.setFlag (icxPlace_eventReg src (by decide))).setIcx
theorem Quiet.applyRaise {src} (hs : src ≤ 272) : Quiet s₀ (s.applyRaise src) :=
  have h1 := h.count (n := 1) (icxCounter_eventReg hs)
  branch (h1.setFlag (icxPlace_eventReg src (by decide))) h1.makePending
/-- Raises of normal and fast sources. -/
theorem Quiet.raise {src} (hs : src ≤ 272) : Quiet s₀ (s.raise src) :=
  branch (branch h.setIcx h) (icxChange (h.applyRaise hs))
theorem Quiet.raiseFast {n} (hn : n ≤ 16) : Quiet s₀ (s.raiseFast n) := h.raise (by omega)
theorem Quiet.settleAsserted {t} : Quiet s₀ (s.settleAsserted t) := branch h.setIcxTarget h
theorem Quiet.claimNormal {t} : Quiet s₀ (s.claimNormal t).2 := by
  unfold State.claimNormal
  split
  · exact (icxChange h.clearPending.setIcxTarget).settleAsserted
  · exact h.settleAsserted
theorem Quiet.claimFast {t} : Quiet s₀ (s.claimFast t).2 := by
  unfold State.claimFast
  split
  · exact (icxChange h.clearPending.setIcxTarget).settleAsserted
  · split
    · exact h
    · exact h.settleAsserted
theorem Quiet.completeNormal {t src} : Quiet s₀ (s.completeNormal t src) :=
  branch (icxChange h.setIcxTarget) (h.count (Or.inr (Or.inr (by decide))))
theorem Quiet.popFast {t} : Quiet s₀ (s.popFast t) :=
  have h1 : Quiet s₀ (s.icxChange _) := icxChange h.setIcxTarget
  branch h1.hostDue h1
theorem Quiet.completeAllOf {t} : Quiet s₀ (s.completeAllOf t) :=
  foldlOn id h fun h => branch h.completeNormal h.popFast
theorem Quiet.lockRead {t} : Quiet s₀ (s.lockRead t).2 := by
  unfold State.lockRead
  split
  · exact (h.setFld (Or.inr (Or.inr (by decide)))).setIcx
  · split <;> exact h

theorem Quiet.dropAt {n} (hn : n < 32) : Quiet s₀ (s.count (.RING_DROP_DROP n) 1) := h.count (ringDrop_eventReg hn)
theorem Quiet.drayFull {held} : Quiet s₀ (s.drayFull held).2 := by
  unfold State.drayFull
  split
  · exact h.free
  · exact h
theorem Quiet.placeItem {n bytes tick tag} (hn : n < 32) : Quiet s₀ (s.placeItem n bytes tick tag) :=
  have h1 : Quiet s₀ ((s.drayFull false).2.closeFlushed n) := h.drayFull.post (Posted.refl _).closeFlushed
  have h2 {size l} : Quiet s₀ (((s.drayFull false).2.closeFlushed n).passBufs n size l) :=
    h1.post (Posted.refl _).passBufs
  branch (h1.dropAt hn) (branch (h1.post (Posted.refl _).putItem) (branch (h1.dropAt hn)
    (branch (h2.dropAt hn) (h2.post (Posted.refl _).putItem))))
theorem Quiet.archWrap {size} : Quiet s₀ (s.archWrap size).2 := by
  unfold State.archWrap
  extract_lets
  split
  · exact h
  · exact ((branch h (h.post (Posted.refl _).writeMem).setArchive).setFld (Or.inr (Or.inl (by decide)))).setWide
      (Or.inr (Or.inl (by decide))) (Or.inr (Or.inl (by decide)))
theorem Quiet.writeBlock {kind cam items payload} : Quiet s₀ (s.writeBlock kind cam items payload).2 := by
  have hf := h.free
  unfold State.writeBlock
  generalize s.free = p at hf ⊢
  dsimp only
  split
  · exact hf.count (Or.inr (Or.inl (by decide)))
  · exact ((hf.archWrap.post (Posted.refl _).writeMem).setWide (Or.inr (Or.inl (by decide)))
      (Or.inr (Or.inl (by decide)))).setArchive
theorem Quiet.flushBlock {kind cam} : Quiet s₀ (s.flushBlock kind cam).2 := by
  unfold State.flushBlock
  extract_lets
  split
  · exact h
  · exact h.setArchive.writeBlock
theorem Quiet.archItem {kind cam bytes} : Quiet s₀ (s.archItem kind cam bytes).2 := by
  have hf {c : Prop} [Decidable c] {cam} : Quiet s₀ (if c then s.flushBlock kind cam else ([], s)).2 := by
    split
    · exact h.flushBlock
    · exact h
  unfold State.archItem
  split
  · exact hf.setArchive
  · exact h
theorem Quiet.dropItem {kind cam} : Quiet s₀ (s.dropItem kind cam) := by
  unfold State.dropItem
  split
  · next hn => exact h.dropAt (streamRing_lt hn)
  · exact h.count (Or.inl rfl)
theorem Quiet.writeItem {i} : Quiet s₀ (s.writeItem i).2 := by
  unfold State.writeItem
  dsimp only
  split
  · next hn => exact h.archItem.placeItem (streamRing_lt hn)
  · exact h.archItem.dropItem
theorem Quiet.handOne {i} : Quiet s₀ (s.handOne i).2 := by
  unfold State.handOne
  split
  · exact branch h.drayFull.dropItem h.drayFull.setPcie
  · exact h.writeItem
theorem Quiet.eventOne {e} : Quiet s₀ (s.eventOne e).2 := by
  have h1 : Quiet s₀ (if 1 ≤ e.code ∧ e.code ≤ 0x15 then s.raise (16 + e.code) else s) := by
    split
    · next hc => exact h.raise (by omega)
    · exact h
  exact h1.setEvSeq.handOne
theorem Quiet.eventsN {fuel es} : Quiet s₀ (s.eventsN fuel es) := by
  induction fuel generalizing s es with
  | zero => exact h
  | succ fuel ih =>
    cases es with
    | nil => exact h
    | cons e es =>
      refine ih ?_
      exact foldlOn Prod.snd (a := ([], s)) h fun h => h.eventOne
theorem Quiet.event {code status source args} : Quiet s₀ (s.event code status source args) := h.eventsN
theorem Quiet.hand {kind cam bytes tick tag} : Quiet s₀ (s.hand kind cam bytes tick tag) := h.handOne.eventsN

end
end Sys2Proof.Safety
end

section
/-! PROOF. Host activity restarts the absence timer, and nothing else that the host reads or configures does. -/

namespace Sys2Proof.Safety

open Sys2Proof.Machine

/-! ## The time of the last host activity -/

theorem hostActivity_since (s : State) : s.hostActivity.hostWatch.since = s.now := by
  unfold State.hostActivity
  dsimp only
  split
  · rw [(Quiet.refl _).event.hostWatch]; rfl
  · rfl

/-- A fold of operations that leave the host watch alone leaves it alone. -/
theorem hostWatch_foldl {β : Type} {f : State → β → State} (hf : ∀ s x, (f s x).hostWatch = s.hostWatch)
    (l : List β) (s : State) : (l.foldl f s).hostWatch = s.hostWatch := by
  induction l generalizing s with
  | nil => rfl
  | cons x l ih => exact (ih _).trans (hf s x)

theorem hostWatch_stopF0 (s : State) : s.stopF0.hostWatch = s.hostWatch := by
  unfold State.stopF0
  rw [State.count_hostWatch]
  exact hostWatch_foldl (f := fun s l => s.abandonLoad l) (fun _ _ => rfl) _ s

theorem hostWatch_stopF1 (s : State) : s.stopF1.hostWatch = s.hostWatch :=
  (Quiet.refl _).completeAllOf.hostWatch

theorem hostWatch_stopFn (s : State) (i : Nat) : (s.stopFn i).hostWatch = s.hostWatch := by
  unfold State.stopFn
  split
  · exact hostWatch_stopF0 s
  · exact hostWatch_stopF1 s

theorem hostWatch_functionReset (s : State) (i : Nat) : (s.functionReset i).hostWatch = s.hostWatch := by
  unfold State.functionReset
  rw [State.count_hostWatch, hostWatch_stopFn, State.setFn_hostWatch]

theorem hostWatch_busMasterOff (s : State) (i : Nat) : (s.busMasterOff i).hostWatch = s.hostWatch := by
  unfold State.busMasterOff
  split
  · rw [State.count_hostWatch, hostWatch_stopFn, State.setFn_hostWatch]
  · rfl

theorem Posted.hostWatch {s₀ s : State} (h : Posted s₀ s) : s.hostWatch = s₀.hostWatch := (congrArg State.hostWatch h :)

theorem Posted.foldl {β : Type} {s₀ s : State} {f : State → β → State} {l : List β} (h : Posted s₀ s)
    (hf : ∀ {t x}, Posted s₀ t → Posted s₀ (f t x)) : Posted s₀ (l.foldl f s) := by
  induction l generalizing s with
  | nil => exact h
  | cons x l ih => exact ih (hf h)

section
variable {s₀ s : State} (h : Posted s₀ s)
include h

theorem Posted.sendIfPending {i v} : Posted s₀ (s.sendIfPending i v) := branch h.setFn.sendVector h
theorem Posted.sendPending {i} : Posted s₀ (s.sendPending i) := h.foldl fun h => h.sendIfPending
theorem Posted.closeOpenBufs : Posted s₀ s.closeOpenBufs :=
  h.foldl fun {t n} h => by
    split
    · exact branch h h.closeBuf
    · exact h
theorem Posted.enterD3hot {i} : Posted s₀ (s.enterD3hot i) := branch h (branch h.setFn.closeOpenBufs h.setFn)
theorem Posted.resumeCq {q} : Posted s₀ (s.resumeCq q) := branch h.drainHeld.cqDue h.drainHeld
theorem Posted.returnD0 {i} : Posted s₀ (s.returnD0 i) :=
  branch (branch (h.setFn.sendPending.foldl fun h => branch h.resumeCq h)
    (branch h.setFn.sendPending.resumeCq.msixDue h.setFn.sendPending.resumeCq)) h

end

theorem hostWatch_capWrite (s : State) (i off v : Nat) : (s.capWrite i off v).hostWatch = s.hostWatch := by
  unfold State.capWrite
  dsimp only
  split
  · rfl
  · split
    · unfold State.marginCommand
      dsimp only
      split <;> rfl
    · rfl

/-- A write of configuration space leaves the host watch alone. -/
theorem hostWatch_cfgWrite (s : State) (i off v : Nat) : (s.cfgWrite i off v).hostWatch = s.hostWatch := by
  have h := hostWatch_capWrite s i off v
  unfold State.cfgWrite
  generalize s.capWrite i off v = u at h ⊢
  dsimp only
  have hu := Posted.refl u
  split
  · rfl
  split
  · split
    · exact hu.setFn.setFn.sendPending.hostWatch.trans h
    · exact (hostWatch_busMasterOff _ i).trans h
  split
  · exact h
  split
  · split
    · exact hu.setFn.enterD3hot.hostWatch.trans h
    · exact (Posted.branch hu.setFn.returnD0 hu.setFn).hostWatch.trans h
  split
  · exact hu.setFn.sendPending.hostWatch.trans h
  split
  · split
    · exact (hostWatch_functionReset u i).trans h
    · exact h
  split
  · exact h
  split <;> exact h

theorem hostWatch_cfgWriteBytes (s : State) (i o width v : Nat) :
    (s.cfgWriteBytes i o width v).hostWatch = s.hostWatch := by
  unfold State.cfgWriteBytes
  dsimp only
  split
  · rfl
  · exact hostWatch_cfgWrite s ..

/-- A read of the host leaves the host watch alone where what it does on an accessible function does. -/
theorem hostWatch_barRead (s : State) (i : Nat) {f : State → Nat × State} (hf : (f s).2.hostWatch = s.hostWatch) :
    (s.barRead i f).hostWatch = s.hostWatch := by
  unfold State.barRead
  split
  · exact hf
  · split <;> rfl

theorem hostWatch_capRelease (s : State) (n : Nat) : (s.capRelease n).hostWatch = s.hostWatch := by
  unfold State.capRelease
  split
  · simp only [State.setFlag_hostWatch]
    split
    · simp only [State.stampReg, State.setFlag_hostWatch, State.setWide_hostWatch, State.setShadow]
      split <;> rfl
    · split <;> rfl
  · rfl

theorem hostWatch_calRead (s : State) : s.calRead.2.hostWatch = s.hostWatch := by
  unfold State.calRead State.nextIndex
  rw [State.setFld_hostWatch]
  split
  · exact State.setFlag_hostWatch ..
  · rfl

/-- Of `exec` on a list of commands whose meanings all answer a next state with the same host watch. -/
theorem exec_hostWatch {s : State} {off w : Nat} {x : BitVec 64} {n : Fin 8} {c : Instr}
    (hc : c ∈ [Instr.registerWrite .pf0Cfg off w x, .registerWrite .pf1Cfg off w x, .capRiseLoRead n, .capFallHiRead n,
      .icxHclaim, .icxHfclaim, .icxLockRead 2, .calDataAccess none]) :
    ∃ t, exec c s = .next t ∧ t.hostWatch = s.hostWatch := by
  have hq := Quiet.refl s
  simp only [List.mem_cons, List.not_mem_nil, or_false] at hc
  rcases hc with rfl | rfl | rfl | rfl | rfl | rfl | rfl | rfl
  · exact ⟨_, rfl, hostWatch_cfgWriteBytes ..⟩
  · exact ⟨_, rfl, hostWatch_cfgWriteBytes ..⟩
  · exact ⟨_, rfl, hostWatch_barRead s 0 (State.setFlag_hostWatch ..)⟩
  · exact ⟨_, rfl, hostWatch_barRead s 0 (hostWatch_capRelease s _)⟩
  · exact ⟨_, rfl, hostWatch_barRead s 1 hq.claimNormal.hostWatch⟩
  · exact ⟨_, rfl, hostWatch_barRead s 1 hq.claimFast.hostWatch⟩
  · exact ⟨_, rfl, hostWatch_barRead s 1 (f := fun s => s.lockRead 2) hq.lockRead.hostWatch⟩
  · exact ⟨_, rfl, hostWatch_barRead s 1 (hostWatch_calRead s)⟩

theorem pf0Write_accessible {s : State} (h : s.barOk 0 = true) (f : State → State) : s.pf0Write f = f s.hostActivity :=
  if_pos h

theorem pf1Write_accessible {s : State} (h : s.barOk 1 = true) (f : State → State) : s.pf1Write f = f s := if_pos h

/-- A write of the mailbox's doorbells to an accessible PF1 is host activity, then its effect. -/
theorem doorbellWrite_mailbox {s : State} (h : s.barOk 1 = true) (f : State → State) :
    s.doorbellWrite 32 f = f s.hostActivity :=
  (if_neg (by decide : ¬ 32 < 32)).trans (pf1Write_accessible h _)

/-- Settles O5: every accessible write is its effect after host activity, which restarts the timer; and what a write of
configuration space and a read change is never the time of the last host activity. -/
theorem hostActivityRestartsAbsenceTimer : Obligations.HostActivityRestartsAbsenceTimer := by
  refine ⟨fun s v h => ⟨_, rfl, pf0Write_accessible h _, ?_⟩,
    fun s off w x h => ⟨_, rfl, pf0Write_accessible h _⟩, fun s off w x h => ⟨_, rfl, pf0Write_accessible h _⟩,
    fun s v h => ⟨⟨_, rfl, doorbellWrite_mailbox h _⟩, ⟨_, rfl, doorbellWrite_mailbox h _⟩⟩,
    hostActivity_since, fun s t off w x n c hc ht => ?_⟩
  · rw [pf0Write_accessible h]
    exact hostActivity_since s
  obtain ⟨u, hu, hw⟩ := exec_hostWatch (s := s) hc
  obtain rfl := Host.Outcome.next.inj (hu.symm.trans ht)
  exact hw
end Sys2Proof.Safety
end

section
/-! PROOF. Reset, the absence of the host, RUN, and the candidates of the tick. -/

namespace Sys2Proof.Safety

open Sys2Proof.Machine

/-! ## Reset -/

/-- Before READY no access of the host acts. -/
theorem barOk_of_notReady {s : State} (h : s.flag .HIF_READY_READY = false) (i : Nat) : s.barOk i = false := by
  simp [State.barOk, h]

/-- Settles O3: the reset state evaluated, and no BAR is accessible before READY. -/
theorem resetStopsEverything : Obligations.ResetStopsEverything := by
  have hready : State.reset.flag .HIF_READY_READY = false := by decide +kernel
  exact ⟨by decide +kernel, rfl, by decide +kernel, by decide +kernel, by decide +kernel, hready, fun _ => rfl, rfl, rfl,
    barOk_of_notReady hready⟩

/-! ## Host absence -/

/-- HIF_HOST_ALIVE on an accessible PF0 is host activity. -/
theorem exec_hifHostAlive {s : State} (h : s.barOk 0 = true) (v : Word) :
    exec (.hifHostAlive v) s = .next s.hostActivity := congrArg Host.Outcome.next (pf0Write_accessible h _)

/-- An expired timer makes the host absent. -/
theorem exec_hostAbsenceExpiry {s : State} {dt : Nat} (hr : (s.advance dt).absenceRuns = true)
    (ha : (s.advance dt).flag .HIF_HOST_POLICY_ABSENT = false)
    (ht : 1000000 * (s.advance dt).fld .HIF_HOST_TIMEOUT_TIMEOUT_MS ≤
      (s.advance dt).now - (s.advance dt).hostWatch.since) :
    exec (.hostAbsenceExpiry dt) s = .next (s.advance dt).hostAbsent :=
  congrArg Host.Outcome.next (if_pos (by simp [hr, ha, ht]))

/-- The state with the time of the last host activity now. -/
def seenNow (s : State) : State := { s with hostWatch := { s.hostWatch with since := s.now } }

/-- The state of a host that was absent and is active again, before event 0x0002. -/
def hostBack (s : State) : State :=
  ((seenNow s).setFlag .HIF_HOST_POLICY_ABSENT false).stageMgmt (.policy 0 0)

theorem flag_hostBack (s : State) : (hostBack s).flag .HIF_HOST_POLICY_ABSENT = false :=
  flag_setFlag_self (seenNow s) .HIF_HOST_POLICY_ABSENT false rfl (by decide)

theorem reg_hostBack (s : State) {a : Nat} (h : a ≠ Reg.HIF_HOST_POLICY) : (hostBack s).reg a = s.reg a :=
  reg_setFlag_ne (seenNow s) (f := .HIF_HOST_POLICY_ABSENT) false h

/-- Host activity ends an absence. -/
theorem hostActivity_of_absent {s : State} (h : s.flag .HIF_HOST_POLICY_ABSENT = true) :
    s.hostActivity = (hostBack s).event 0x2 .ok 0 (leBytes 4 ((s.now - s.hostWatch.absentSince) / 1000000)) := if_pos h

/-- Settles O6: both commands are one staged configuration and one event, by `exec_hostAbsenceExpiry` and
`exec_hifHostAlive`. -/
theorem hostAbsenceComesAndEnds : Obligations.HostAbsenceComesAndEnds := by
  refine ⟨?_, ?_, fun s v hb ha => ?_⟩
  · intro s dt u hr ha ht
    refine ⟨_, _, exec_hostAbsenceExpiry hr ha ht, rfl, ?_, rfl, rfl, fun a ha => reg_setFlag_ne u true ha, rfl⟩
    exact flag_setFlag_self u _ true rfl (by decide)
  · intro s v hb ha
    exact ⟨_, hostBack s, exec_hifHostAlive hb v, hostActivity_of_absent ha, flag_hostBack s, rfl,
      fun a ha => reg_hostBack s ha, rfl⟩
  · rw [exec_hifHostAlive hb]
    exact congrArg Host.Outcome.next (if_neg (by rw [ha]; decide))

/-! ## RUN -/

/-- What setting RUN makes of a state in which it may be set and reads 0. -/
theorem startRun_of_mayRun {s : State} (hm : s.mayRun = true) (hr : s.run = false) :
    s.startRun = { s.setFlag .HIF_RUN_RUN true with
      seq := { s.seq with due := none, start := some s.firstEdge, fresh := true, base := s.tb, baseClk := s.clk, div := 0 }
      bg := s.bg.restart (s.setFlag .HIF_RUN_RUN true).nextTick
      hostWatch := { s.hostWatch with since := s.now } } :=
  if_pos (by simp [hm, hr])

/-- Settles O7: the write sets or clears RUN on the state after host activity, and `State.startRun` places the edge. -/
theorem runSetAndClear : Obligations.RunSetAndClear := by
  refine ⟨?_, ?_, ?_⟩
  · intro s v hb hv u hm hr
    refine ⟨_, congrArg Host.Outcome.next (((pf0Write_accessible hb _).trans (if_pos hv)).trans (startRun_of_mayRun hm hr)),
      ?_, fun a ha => reg_setFlag_ne u true ha, fun _ _ => rfl, rfl, rfl, rfl⟩
    exact flag_setFlag_self u .HIF_RUN_RUN true rfl (by decide)
  · intro s v hb hv u
    refine ⟨_, congrArg Host.Outcome.next ((pf0Write_accessible hb _).trans (if_neg (by rw [hv]; decide))), ?_,
      fun a ha => reg_setFlag_ne u false ha, rfl, rfl, rfl⟩
    exact flag_setFlag_self u .HIF_RUN_RUN false rfl (by decide)
  · intro s dt u ha hr hn hf
    refine congrArg Host.Outcome.next (if_pos ?_)
    change (u.alive && !u.run && u.running && u.frames.all (·.done)) = true
    simp [ha, hr, hn, hf]

/-! ## Candidate edges -/

/-- A candidate that nothing holds back and that is not early is the next edge. -/
theorem candidate_admitted {s : State} {lat : Nat} (ht : s.thermal.trip = none)
    (hr : s.flag .RO_PIXSUP_STAT_READY = true) (hh : s.edgesHeld = false) (he : s.tooEarly lat = false) :
    s.candidate lat = { s with seq := { s.seq with
      base := s.tb, baseClk := s.clk, start := none, due := some (timeAfter s.tb lat) } } := by
  simp [State.candidate, ht, hr, hh, he]

/-- A candidate that nothing holds back and that is early is ignored, and counts. -/
theorem candidate_early {s : State} {lat : Nat} (ht : s.thermal.trip = none)
    (hr : s.flag .RO_PIXSUP_STAT_READY = true) (hh : s.edgesHeld = false) (he : s.tooEarly lat = true) :
    s.candidate lat = s.count .HIF_TICK_EARLY_EARLY 1 := by
  simp [State.candidate, ht, hr, hh, he]

/-- An expired INTERNAL period comes no earlier than the effective minimum tick. -/
theorem not_tooEarly_of_internalDue {s : State} (h : s.internalDue = true) : s.tooEarly 0 = false := by
  unfold State.internalDue at h
  rw [Bool.and_eq_true, Bool.not_eq_true'] at h
  exact h.1

theorem exec_internalPeriodExpiry {s : State} {dt : Nat} (ht : (s.advance dt).ticking = true)
    (hs : (s.advance dt).tickSrc = 0) (hd : (s.advance dt).internalDue = true) :
    exec (.internalPeriodExpiry dt) s = .next ((s.advance dt).candidate 0) :=
  congrArg Host.Outcome.next (if_pos (by simp [ht, hs, hd]))

/-- The state in which an edge of TRIG_IN meets the tick source: its level has changed, and its ICX source is raised
where its polarity is the one selected. -/
def trigSeen (s : State) (dt : Nat) (pin : Fin 4) (rising : Bool) : State :=
  let u := (s.advance dt).setPin pin.val rising
  if bitOf (u.fld .ICX_TRIG_POL) pin.val == !rising then (u.raise (38 + pin.val)).wakeFires (.trig pin) else u

/-- An edge of the selected polarity at the selected pin advances the divider. -/
theorem exec_trigInEdge {s : State} {dt : Nat} {pin : Fin 4} {rising : Bool}
    (ha : ((s.advance dt).setPin pin.val rising).alive = true) (hw : (trigSeen s dt pin rising).edgesWanted = true)
    (hs : (trigSeen s dt pin rising).tickSrc = 1) (hp : (trigSeen s dt pin rising).fld .EXP_TICK_SRC_PIN = pin.val)
    (hl : (trigSeen s dt pin rising).flag .EXP_TICK_SRC_POL = !rising) (hg : (trigSeen s dt pin rising).gated 2 = false)
    (ht : (trigSeen s dt pin rising).tbRuns = true) :
    exec (.trigInEdge dt pin rising) s = .next (trigSeen s dt pin rising).trigCount := by
  have h1 : ((trigSeen s dt pin rising).edgesWanted && (trigSeen s dt pin rising).tickSrc == 1 &&
      (trigSeen s dt pin rising).fld .EXP_TICK_SRC_PIN == pin.val &&
      (trigSeen s dt pin rising).flag .EXP_TICK_SRC_POL == !rising) = true := by simp [hw, hs, hp, hl]
  refine congrArg Host.Outcome.next ((if_pos ha).trans ((if_pos h1).trans ((if_neg ?_).trans (if_pos ht))))
  exact Bool.eq_false_iff.mp hg

theorem trigCount_before {s : State} (h : s.seq.div ≠ s.fld .EXP_TICK_SRC_DIV) :
    s.trigCount = { s with seq := { s.seq with div := s.seq.div + 1 } } := if_neg h

/-- The state whose divider has started again. -/
def divZero (s : State) : State := { s with seq := { s.seq with div := 0 } }

theorem trigCount_last {s : State} (h : s.seq.div = s.fld .EXP_TICK_SRC_DIV) :
    s.trigCount = (divZero s).candidate (s.fld .EXP_TRIG_LAT_LAT) := if_pos h

/-- Settles O12: a candidate is admitted or ignored by `candidate_admitted` and `candidate_early`; under EXTERNAL the
divider decides whether there is one. -/
theorem tickCandidatesAreAdmittedOrIgnored : Obligations.TickCandidatesAreAdmittedOrIgnored := by
  refine ⟨?_, ?_⟩
  · intro s dt u ht hs hd htrip hr hh
    refine ⟨_, (exec_internalPeriodExpiry ht hs hd).trans
      (congrArg Host.Outcome.next (candidate_admitted htrip hr hh (not_tooEarly_of_internalDue hd))), ?_, rfl⟩
    exact congrArg some (BitVec.add_zero u.tb)
  · intro s dt pin rising u v ha hw hs hp hl hg ht htrip hr hh
    refine ⟨v.trigCount, exec_trigInEdge ha hw hs hp hl hg ht, fun hn => ?_, fun he => ?_⟩
    · rw [trigCount_before hn]
      exact ⟨rfl, rfl, rfl⟩
    · rw [trigCount_last he]
      have early (hearly : v.tooEarly (v.fld .EXP_TRIG_LAT_LAT) = true) :=
        candidate_early (s := divZero v) htrip hr hh hearly
      have admitted (hearly : v.tooEarly (v.fld .EXP_TRIG_LAT_LAT) = false) :=
        candidate_admitted (s := divZero v) htrip hr hh hearly
      refine ⟨?_, fun hearly => ?_, fun hearly => ?_⟩
      · cases hearly : v.tooEarly (v.fld .EXP_TRIG_LAT_LAT) with
        | false => rw [admitted hearly]; rfl
        | true => rw [early hearly]; rfl
      · rw [admitted hearly]
        exact ⟨rfl, rfl⟩
      · rw [early hearly]
        exact ⟨rfl, fld_count_self _ _ 1 (by decide) (by decide), fun a ha => reg_count_ne _ 1 ha⟩
end Sys2Proof.Safety
end

section
/-! PROOF. The clear registers: what each clears, and that it changes nothing else. -/

namespace Sys2Proof.Safety

open Sys2Proof.Machine

/-! ## Clearing counters -/

/-- `t` differs from `s` in registers only. -/
def OnlyRegs (s t : State) : Prop := t = { s with regs := t.regs }

theorem OnlyRegs.refl (s : State) : OnlyRegs s s := rfl

theorem OnlyRegs.setReg {s t : State} (h : OnlyRegs s t) {a : Nat} {v : Word} : OnlyRegs s (t.setReg a v) :=
  (congrArg (fun u : State => { u with regs := (t.setReg a v).regs }) h :)

theorem OnlyRegs.setFld {s t : State} (h : OnlyRegs s t) {f : Fld} {v : Nat} : OnlyRegs s (t.setFld f v) := h.setReg

theorem OnlyRegs.branch {s t u : State} {c : Prop} {inst : Decidable c} (ht : OnlyRegs s t) (hu : OnlyRegs s u) :
    OnlyRegs s (if c then t else u) := by split <;> assumption

theorem OnlyRegs.foldl {β : Type} {s t : State} {f : State → β → State} {l : List β} (h : OnlyRegs s t)
    (hf : ∀ {t x}, OnlyRegs s t → OnlyRegs s (f t x)) : OnlyRegs s (l.foldl f t) := by
  induction l generalizing t with
  | nil => exact h
  | cons x l ih => exact ih (hf h)

theorem onlyRegs_clearList (s : State) (v : Word) (l : List (Nat × Nat)) : OnlyRegs s (s.clearList v l) :=
  (OnlyRegs.refl s).foldl fun h => .branch h.setReg h

/-- A register reads 0 after a clearing write that names it, and else as before. -/
theorem reg_clearList (s : State) (v : Word) (l : List (Nat × Nat)) (a : Nat) :
    (s.clearList v l).reg a = if ∃ p ∈ l, p.2 = a ∧ bitOf v.toNat p.1 = true then 0 else s.reg a := by
  induction l generalizing s with
  | nil => simp [State.clearList]
  | cons p l ih =>
    rw [show s.clearList v (p :: l) = State.clearList (if bitOf v.toNat p.1 then s.setReg p.2 0 else s) v l from rfl, ih]
    by_cases hl : ∃ q ∈ l, q.2 = a ∧ bitOf v.toNat q.1 = true
    · have hc : ∃ q ∈ p :: l, q.2 = a ∧ bitOf v.toNat q.1 = true := by
        obtain ⟨q, hq, h⟩ := hl
        exact ⟨q, List.mem_cons_of_mem p hq, h⟩
      rw [if_pos hl, if_pos hc]
    · simp only [hl, if_false, List.exists_mem_cons_iff, or_false]
      by_cases hb : bitOf v.toNat p.1 = true
      · simp only [hb, if_true, and_true, reg_setReg, eq_comm]
      · simp [hb]

/-- The registers that a clearing write does not list read as before. -/
theorem regsKept_clearList (s : State) (v : Word) (l : List (Nat × Nat)) :
    RegsKept s (s.clearList v l) (fun a => ∃ p ∈ l, p.2 = a) := by
  intro a ha
  rw [reg_clearList, if_neg]
  rintro ⟨p, hp, rfl, -⟩
  exact ha ⟨p, hp, rfl⟩

/-- Each listed register reads 0 where its own bit is written 1, and else as before. -/
theorem reg_clearList_mem (s : State) (v : Word) {l : List (Nat × Nat)} (hl : (l.map (·.2)).Nodup) {p : Nat × Nat}
    (hp : p ∈ l) : (s.clearList v l).reg p.2 = if bitOf v.toNat p.1 then 0 else s.reg p.2 := by
  rw [reg_clearList]
  refine if_congr ⟨?_, fun h => ⟨p, hp, rfl, h⟩⟩ rfl rfl
  rintro ⟨q, hq, he, h⟩
  rwa [← List.inj_on_of_nodup_map hl hq hp he]

/-- What a clear register does, from what its command does. -/
theorem clears_counters {s u : State} {v : Word} {c : Instr} {l : List (Nat × Nat)}
    (hc : exec c s = .next (u.clearList v l)) (hl : (l.map (·.2)).Nodup) :
    ∃ t, exec c s = .next t ∧ (∀ p ∈ l, t.reg p.2 = if bitOf v.toNat p.1 then 0 else u.reg p.2) ∧
      RegsKept u t (fun a => ∃ p ∈ l, p.2 = a) ∧ t = { u with regs := t.regs } :=
  ⟨_, hc, fun _ hp => reg_clearList_mem u v hl hp, regsKept_clearList u v l, onlyRegs_clearList u v l⟩

/-- A 32-bit write of a word at an aligned offset of the HIF block that no descriptor stages. -/
theorem bar0Write_hif (s : State) {a : Nat} (v : Word) (h4 : a % 4 = 0) (ha : a < 0x400) (hs : stageable a = false) :
    s.bar0Write a 4 (v.setWidth 64) = s.hifWrite a v := by
  have hf : a ≠ Reg.RO_FACT_DEFECTS := fun h => absurd ha (h ▸ by decide)
  have hv : (v.setWidth 64).setWidth 32 = v := by simp
  simp only [State.bar0Write, hv, hs, hf, h4, if_neg (by omega : ¬ (0x6000 ≤ a ∧ a < 0x6400)),
    if_neg (by omega : ¬ (0x1000 ≤ a ∧ a < 0x5000)), if_pos ha]
  simp [show ¬ 24576 ≤ a by omega]

/-- The write of a clear register of the HIF block is its command. -/
theorem write_eq_command {s : State} {v : Word} {c : Instr} {a : Nat} {f : State → State} (h : s.barOk 0 = true)
    (h4 : a % 4 = 0) (ha : a < 0x400) (hs : stageable a = false) (hf : s.hostActivity.hifWrite a v = f s.hostActivity)
    (hc : exec c s = .next (s.pf0Write f)) :
    exec (.registerWrite .pf0Bar0 a 4 (v.setWidth 64)) s = exec c s := by
  rw [exec_registerWrite_pf0Bar0 h, hc, pf0Write_accessible h, bar0Write_hif _ v h4 ha hs, hf]

/-- The write of a clear register of the HIF block, and its command, clear the listed registers. -/
theorem hif_clears {s : State} {v : Word} {c : Instr} {a : Nat} {l : List (Nat × Nat)} (h : s.barOk 0 = true)
    (h4 : a % 4 = 0) (ha : a < 0x400) (hs : stageable a = false)
    (hf : s.hostActivity.hifWrite a v = s.hostActivity.clearList v l)
    (hc : exec c s = .next (s.pf0Write fun u => u.clearList v l)) (hl : (l.map (·.2)).Nodup) :
    exec (.registerWrite .pf0Bar0 a 4 (v.setWidth 64)) s = exec c s ∧
    ∃ t, exec c s = .next t ∧ (∀ p ∈ l, t.reg p.2 = if bitOf v.toNat p.1 then 0 else s.hostActivity.reg p.2) ∧
      RegsKept s.hostActivity t (fun a => ∃ p ∈ l, p.2 = a) ∧ t = { s.hostActivity with regs := t.regs } := by
  refine ⟨?_, clears_counters (hc.trans (congrArg _ (pf0Write_accessible h _))) hl⟩
  exact write_eq_command h h4 ha hs hf hc

/-- A command of an accessible PF1 is its effect. -/
theorem exec_pf1 {s : State} {c : Instr} {f : State → State} (h : s.barOk 1 = true)
    (hc : exec c s = .next (s.pf1Write f)) : exec c s = .next (f s) :=
  hc.trans (congrArg _ (pf1Write_accessible h f))

/-- An aligned 32-bit write of a word to PF1 BAR0 goes to the block of its offset. -/
theorem bar1Write_word (s : State) {off : Nat} (v : Word) (h4 : off % 4 = 0) (ha : off < 0x3800) :
    s.bar1Write off 4 (v.setWidth 64) =
      if off < 0x800 then s.mgmtWrite (off + 0x20000) v else if off < 0x1000 then s.icxWrite (off + 0x20000) v
      else if off < 0x1800 then s.pllCalWrite (off + 0x20000) v
      else if off < 0x2000 then s.thmWrite (off + 0x20000) v else s.sprWrite (off + 0x20000) v := by
  have hv : (v.setWidth 64).setWidth 32 = v := by simp
  simp [State.bar1Write, hv, h4, show ¬ 14336 ≤ off by omega]

/-- The write of a register of PF1 that has a command is that command. -/
theorem write_eq_pf1Command {s : State} {v : Word} {c : Instr} {off : Nat} {f : State → State} (h : s.barOk 1 = true)
    (h4 : off % 4 = 0) (ha : off < 0x3800)
    (hf : (if off < 0x800 then s.mgmtWrite (off + 0x20000) v else if off < 0x1000 then s.icxWrite (off + 0x20000) v
      else if off < 0x1800 then s.pllCalWrite (off + 0x20000) v
      else if off < 0x2000 then s.thmWrite (off + 0x20000) v else s.sprWrite (off + 0x20000) v) = f s)
    (hc : exec c s = .next (s.pf1Write f)) :
    exec (.registerWrite .pf1Bar0 off 4 (v.setWidth 64)) s = exec c s := by
  rw [exec_pf1 h hc, exec_pf1 h (f := fun s => s.bar1Write off 4 (v.setWidth 64)) rfl, bar1Write_word s v h4 ha, hf]

/-- Settles O8: each clear register writes 0 to the listed registers whose bits are 1, by `reg_clearList_mem`. -/
theorem clearRegistersReturnCountersToZero : Obligations.ClearRegistersReturnCountersToZero := by
  refine ⟨?_, ?_⟩
  · intro s v h u e he
    simp only [List.mem_cons, List.not_mem_nil, or_false] at he
    rcases he with rfl | rfl | rfl | rfl | rfl | rfl | rfl
    all_goals dsimp only
    all_goals exact hif_clears h (by decide) (by decide) (by decide +kernel) rfl rfl (by decide)
  · intro s v h
    have he : exec (.pllClr v) s = .next (s.pllClr v) := exec_pf1 (f := fun s => s.pllClr v) h rfl
    obtain ⟨t, ht, hc, hk, hr⟩ := clears_counters (u := s)
      (l := [(0, Reg.PLL_LOSS), (1, Reg.PLL_REF_LOSS), (2, Reg.PLL_EDGE_HELD)]) he (by decide)
    exact ⟨write_eq_pf1Command (c := .pllClr v) h (by decide) (by decide) rfl rfl, t, ht, hc,
      fun a ha => hk a fun ⟨p, hp, he⟩ => ha (by simpa [eq_comm, he] using List.mem_map_of_mem (f := (·.2)) hp), hr⟩

/-! ## The clears of the management registers -/

/-- A fold over numbered operations that change apart registers, and of which each depends on the registers that it
changes: a register that operation `i` changes reads what `i` alone makes of it. -/
theorem reg_foldl_range {g : State → Nat → State} {A : Nat → Nat → Prop}
    (hk : ∀ s i a, ¬ A i a → (g s i).reg a = s.reg a) (hd : ∀ i j a, A i a → A j a → i = j)
    (hv : ∀ s t i, (∀ a, A i a → t.reg a = s.reg a) → ∀ a, A i a → (g t i).reg a = (g s i).reg a) (s : State) (n : Nat) :
    (∀ i < n, ∀ a, A i a → ((List.range n).foldl g s).reg a = (g s i).reg a) ∧
      RegsKept s ((List.range n).foldl g s) (fun a => ∃ i < n, A i a) := by
  induction n with
  | zero => exact ⟨fun i hi => absurd hi (Nat.not_lt_zero i), fun _ _ => rfl⟩
  | succ n ih =>
    obtain ⟨hset, hkept⟩ := ih
    rw [List.range_succ, List.foldl_append]
    refine ⟨fun i hi a ha => ?_, fun a ha => ?_⟩
    · rcases Nat.lt_succ_iff_lt_or_eq.mp hi with hlt | rfl
      · rw [List.foldl_cons, List.foldl_nil, hk _ _ _ fun h => absurd (hd _ _ _ ha h) (by omega)]
        exact hset i hlt a ha
      · refine hv s _ i (fun b hb => hkept b ?_) a ha
        rintro ⟨j, hj, h⟩
        exact absurd (hd _ _ _ hb h) (by omega)
    · rw [List.foldl_cons, List.foldl_nil, hk _ _ _ fun h => ha ⟨n, Nat.lt_succ_self n, h⟩]
      exact hkept a fun ⟨i, hi, h⟩ => ha ⟨i, Nat.lt_succ_of_lt hi, h⟩

/-- The fold of SPR_CLR over the four counts, as a clearing list. -/
theorem sprClr_counts (s : State) (v : Word) :
    (List.range 4).foldl (fun s i => if bitOf v.toNat i then s.setReg (Reg.SPR_ST_DONE + 4 * i) 0 else s) s =
      s.clearList v ((List.range 4).map fun i => (i, Reg.SPR_ST_DONE + 4 * i)) := by
  rw [State.clearList, List.foldl_map]

/-- SPR_CLR returns SUBST of every class to 0. -/
def clearSubst (s : State) : State := (List.range 14).foldl (fun s c => s.setFld (.SPR_CLASS_USE_SUBST c) 0) s

theorem clearSubst_spec (s : State) : (∀ c < 14, (clearSubst s).fld (.SPR_CLASS_USE_SUBST c) = 0) ∧
    RegsKept s (clearSubst s) (fun a => ∃ c < 14, a = (Fld.SPR_CLASS_USE_SUBST c).addr) := by
  obtain ⟨hset, hkept⟩ := reg_foldl_range (g := fun s c => s.setFld (.SPR_CLASS_USE_SUBST c) 0)
    (A := fun c a => a = (Fld.SPR_CLASS_USE_SUBST c).addr) (fun s c a h => reg_setFld_ne s 0 h)
    (fun i j a hi hj => by dsimp only [Reg.SPR_CLASS_USE] at hi hj; omega)
    (fun s t c h a ha => by subst ha; rw [reg_setFld_self, reg_setFld_self, h _ rfl]) s 14
  refine ⟨fun c hc => ?_, hkept⟩
  rw [State.fld, show (clearSubst s).reg _ = _ from hset c hc _ rfl]
  exact fld_setFld_self s (.SPR_CLASS_USE_SUBST c) 0 (Nat.zero_le _) (show 15 < 32 by decide)

/-- SPR_CLR: the four counts by bits 0 to 3, SUBST of every class by bit 4, and nothing else. -/
theorem sprClr_spec (s : State) (v : Word) :
    (∀ i, i < 4 → (s.sprClr v.toNat).reg (Reg.SPR_ST_DONE + 4 * i) =
      if bitOf v.toNat i then 0 else s.reg (Reg.SPR_ST_DONE + 4 * i)) ∧
    (∀ c, c < 14 → (s.sprClr v.toNat).fld (.SPR_CLASS_USE_SUBST c) =
      if bitOf v.toNat 4 then 0 else s.fld (.SPR_CLASS_USE_SUBST c)) ∧
    RegsKept s (s.sprClr v.toNat)
      (fun a => (∃ i < 4, a = Reg.SPR_ST_DONE + 4 * i) ∨ ∃ c < 14, a = (Fld.SPR_CLASS_USE_SUBST c).addr) := by
  have he : s.sprClr v.toNat = if bitOf v.toNat 4 then
      clearSubst (s.clearList v ((List.range 4).map fun i => (i, Reg.SPR_ST_DONE + 4 * i)))
      else s.clearList v ((List.range 4).map fun i => (i, Reg.SPR_ST_DONE + 4 * i)) := by
    rw [← sprClr_counts]; rfl
  have hmem : ∀ i < 4, (s.clearList v ((List.range 4).map fun i => (i, Reg.SPR_ST_DONE + 4 * i))).reg
      (Reg.SPR_ST_DONE + 4 * i) = if bitOf v.toNat i then 0 else s.reg (Reg.SPR_ST_DONE + 4 * i) := fun i hi =>
    reg_clearList_mem s v (p := (i, Reg.SPR_ST_DONE + 4 * i)) (by decide)
      (List.mem_map.mpr ⟨i, List.mem_range.mpr hi, rfl⟩)
  have hkept : RegsKept s (s.clearList v ((List.range 4).map fun i => (i, Reg.SPR_ST_DONE + 4 * i)))
      (fun a => ∃ i < 4, a = Reg.SPR_ST_DONE + 4 * i) := fun a ha => regsKept_clearList s v _ a fun h => ha (by
    obtain ⟨p, hp, rfl⟩ := h
    obtain ⟨i, hi, rfl⟩ := List.mem_map.mp hp
    exact ⟨i, List.mem_range.mp hi, rfl⟩)
  have hapart : ∀ c < 14, ¬ ∃ i < 4, (Fld.SPR_CLASS_USE_SUBST c).addr = Reg.SPR_ST_DONE + 4 * i := by
    rintro c hc ⟨i, hi, h⟩
    dsimp only [Reg.SPR_CLASS_USE, Reg.SPR_ST_DONE] at h
    omega
  rw [he]
  generalize s.clearList v ((List.range 4).map fun i => (i, Reg.SPR_ST_DONE + 4 * i)) = t at hmem hkept ⊢
  split
  · obtain ⟨hset, hsub⟩ := clearSubst_spec t
    refine ⟨fun i hi => ?_, hset, fun a ha => ?_⟩
    · rw [hsub _ fun ⟨c, hc, h⟩ => hapart c hc ⟨i, hi, h.symm⟩, hmem i hi]
    · rw [hsub a fun h => ha (.inr h), hkept a fun h => ha (.inl h)]
  · exact ⟨hmem, fun c hc => congrArg (fun w : Word => getBits w.toNat 15 0) (hkept _ (hapart c hc)),
      fun a ha => hkept a fun h => ha (.inl h)⟩

/-- FLT_CLR: EVT and LAST of source i + 1 by bit i + 1, and no other register. -/
theorem fltClr_spec (s : State) (v : Nat) :
    (∀ i, i < 14 →
      (s.fltClr v).fld (.FLT_SRC_EVT_COUNT i) = (if bitOf v (i + 1) then 0 else s.fld (.FLT_SRC_EVT_COUNT i)) ∧
      (s.fltClr v).fld (.FLT_SRC_LAST_COUNT i) = (if bitOf v (i + 1) then 0 else s.fld (.FLT_SRC_LAST_COUNT i))) ∧
    RegsKept s (s.fltClr v)
      (fun a => ∃ i < 14, a = (Fld.FLT_SRC_EVT_COUNT i).addr ∨ a = (Fld.FLT_SRC_LAST_COUNT i).addr) := by
  have hne : ∀ i, (Fld.FLT_SRC_EVT_COUNT i).addr ≠ (Fld.FLT_SRC_LAST_COUNT i).addr := fun i => by
    dsimp only [Reg.FLT_SRC_EVT, Reg.FLT_SRC_LAST]; omega
  obtain ⟨hset, hkept⟩ := reg_foldl_range
    (g := fun s i => if bitOf v (i + 1) then (s.setFld (.FLT_SRC_EVT_COUNT i) 0).setFld (.FLT_SRC_LAST_COUNT i) 0 else s)
    (A := fun i a => a = (Fld.FLT_SRC_EVT_COUNT i).addr ∨ a = (Fld.FLT_SRC_LAST_COUNT i).addr)
    (fun s i a h => by
      obtain ⟨h1, h2⟩ := not_or.mp h
      split
      · rw [reg_setFld_ne _ 0 h2, reg_setFld_ne _ 0 h1]
      · rfl)
    (fun i j a hi hj => by dsimp only [Reg.FLT_SRC_EVT, Reg.FLT_SRC_LAST] at hi hj; omega)
    (fun s t i h a ha => by
      split
      · rcases ha with rfl | rfl
        · rw [reg_setFld_ne _ 0 (hne i), reg_setFld_ne _ 0 (hne i), reg_setFld_self, reg_setFld_self, h _ (.inl rfl)]
        · rw [reg_setFld_self, reg_setFld_self, reg_setFld_ne _ 0 (hne i).symm, reg_setFld_ne _ 0 (hne i).symm,
            h _ (.inr rfl)]
      · exact h a ha) s 14
  refine ⟨fun i hi => ⟨?_, ?_⟩, hkept⟩
  · rw [State.fld, show (s.fltClr v).reg _ = _ from hset i hi _ (.inl rfl)]
    split
    · rw [← State.fld, fld_setFld_ne _ 0 (hne i), fld_setFld_self _ _ 0 (Nat.zero_le _) (show 31 < 32 by decide)]
      rfl
    · rfl
  · rw [State.fld, show (s.fltClr v).reg _ = _ from hset i hi _ (.inr rfl)]
    split
    · rw [← State.fld, fld_setFld_self _ _ 0 (Nat.zero_le _) (show 31 < 32 by decide)]
      rfl
    · rfl

/-- Setting a whole field on a condition: the field, the other registers, the rest of the state. -/
theorem setFld_if_spec (s : State) (f : Fld) (b : Bool) (x : Nat) (h : f.lo ≤ f.hi) (h32 : f.hi < 32)
    (hx : x < 2 ^ (f.hi + 1 - f.lo)) :
    (if b then s.setFld f x else s).fld f = (if b then x else s.fld f) ∧
      RegsKept s (if b then s.setFld f x else s) (· = f.addr) ∧
      OnlyRegs s (if b then s.setFld f x else s) := by
  cases b
  · exact ⟨rfl, fun _ _ => rfl, rfl⟩
  · exact ⟨(fld_setFld_self s f x h h32).trans (Nat.mod_eq_of_lt hx), fun _ ha => reg_setFld_ne s x ha, rfl⟩

/-- A 32-bit write of RO_FACT_DEFECTS is its effect. -/
theorem bar0Write_factDefects (s : State) (v : Word) :
    s.bar0Write Reg.RO_FACT_DEFECTS 4 (v.setWidth 64) = s.factDefectsClr v := by
  have hv : (v.setWidth 64).setWidth 32 = v := by simp
  have hs : stageable Reg.RO_FACT_DEFECTS = false := by decide +kernel
  simp only [State.bar0Write, hv, hs]
  rfl

/-- The effect of RO_FACT_DEFECTS while RUNNING is 0: bit 30 clears EDGE_HELD, bit 31 the droop. -/
theorem factDefectsClr_spec (s : State) (v : Word) (h : s.running = false) :
    (s.factDefectsClr v).fld .RO_PIXSUP_STAT_EDGE_HELD =
      (if bitOf v.toNat 30 then 0 else s.fld .RO_PIXSUP_STAT_EDGE_HELD) ∧
    (s.factDefectsClr v).reg Reg.RO_PIXSUP_DROOP = (if bitOf v.toNat 31 then 0 else s.reg Reg.RO_PIXSUP_DROOP) ∧
    RegsKept s (s.factDefectsClr v) (fun a => a = Reg.RO_PIXSUP_STAT ∨ a = Reg.RO_PIXSUP_DROOP) ∧
    OnlyRegs s (s.factDefectsClr v) := by
  have he : s.factDefectsClr v = State.clearList
      (if bitOf v.toNat 30 then s.setFld .RO_PIXSUP_STAT_EDGE_HELD 0 else s) v [(31, Reg.RO_PIXSUP_DROOP)] := by
    rw [State.factDefectsClr, State.whileStopped, h, if_neg Bool.false_ne_true]
  obtain ⟨hf, hk, ho⟩ := setFld_if_spec s .RO_PIXSUP_STAT_EDGE_HELD (bitOf v.toNat 30) 0 (by decide) (by decide)
    (by decide)
  rw [he]
  generalize (if bitOf v.toNat 30 then s.setFld .RO_PIXSUP_STAT_EDGE_HELD 0 else s) = t at hf hk ho ⊢
  have hc := regsKept_clearList t v [(31, Reg.RO_PIXSUP_DROOP)]
  refine ⟨?_, ?_, fun a ha => ?_, ho.foldl fun h => .branch h.setReg h⟩
  · rw [State.fld, hc _ (by decide)]
    exact hf
  · rw [reg_clearList_mem t v (p := (31, Reg.RO_PIXSUP_DROOP)) (by decide) (List.mem_singleton.mpr rfl),
      hk Reg.RO_PIXSUP_DROOP (by decide)]
  · rw [hc a fun ⟨p, hp, h⟩ => ha (.inr (by rw [← h, List.mem_singleton.mp hp])), hk a fun h => ha (.inl h)]

/-- Settles O56: each clear is a fold of writes of 0 to registers apart from each other, and the write of the register
is the command by the block that its offset lies in. -/
theorem managementClearsClear : Obligations.ManagementClearsClear := by
  refine ⟨fun s v h => ⟨?_, ?_, ?_, ?_, ?_⟩, ?_⟩
  · have he : exec (.sprClr v) s = .next (s.sprClr v.toNat) := exec_pf1 (f := fun s => s.sprClr v.toNat) h rfl
    obtain ⟨hst, hsub, hk⟩ := sprClr_spec s v
    exact ⟨_, he, hst, hsub, hk, OnlyRegs.branch (.foldl (.foldl (.refl s) fun h => .branch h.setReg h) fun h => h.setFld)
      (.foldl (.refl s) fun h => .branch h.setReg h)⟩
  · have he : exec (.fltClr v) s = .next (s.fltClr v.toNat) := exec_pf1 (f := fun s => s.fltClr v.toNat) h rfl
    obtain ⟨hf, hk⟩ := fltClr_spec s v.toNat
    exact ⟨_, he, hf, hk, OnlyRegs.foldl (.refl s) fun h => .branch h.setFld.setFld h⟩
  · have he : exec (.thmPeakClr v) s = .next (s.peakClr v) := exec_pf1 (f := fun s => s.peakClr v) h rfl
    exact ⟨_, he, setFld_if_spec s .THM_PEAK_TEMP _ _ (by decide) (by decide) (Nat.mod_lt _ (Nat.two_pow_pos _))⟩
  · have he : exec (.pwrSleepAbortClr v) s = .next (s.abortClr v) := exec_pf1 (f := fun s => s.abortClr v) h rfl
    exact ⟨_, he, setFld_if_spec s .PWR_SLEEP_ABORT_COUNT _ _ (by decide) (by decide) (by decide)⟩
  · intro e he
    simp only [List.mem_cons, List.not_mem_nil, or_false] at he
    rcases he with rfl | rfl | rfl | rfl | rfl | rfl | rfl <;> dsimp only
    · exact write_eq_pf1Command (f := fun s => s.sprClr v.toNat) h (by decide) (by decide) rfl rfl
    · exact write_eq_pf1Command (f := fun s => s.fltClr v.toNat) h (by decide) (by decide) rfl rfl
    · exact write_eq_pf1Command (f := fun s => s.peakClr v) h (by decide) (by decide) rfl rfl
    · exact write_eq_pf1Command (f := fun s => s.abortClr v) h (by decide) (by decide) rfl rfl
    · exact write_eq_pf1Command (f := fun s => s.icxCntClr v.toNat) h (by decide) (by decide) rfl rfl
    · exact write_eq_pf1Command (f := fun s => s.dlistClr v) h (by decide) (by decide) rfl rfl
    · exact write_eq_pf1Command (f := fun s => s.bistCtl v.toNat) h (by decide) (by decide) rfl rfl
  · intro s v h hr u
    have he : exec (.roFactDefectsClr v) s = .next (u.factDefectsClr v) :=
      congrArg _ (pf0Write_accessible h fun s => s.factDefectsClr v)
    exact ⟨by rw [exec_registerWrite_pf0Bar0 h, bar0Write_factDefects, he], _, he, factDefectsClr_spec u v hr⟩

end Sys2Proof.Safety
end

section
/-! PROOF. Fault buckets, internal messages and the turns of self-test. -/

namespace Sys2Proof.Safety

open Sys2Proof.Machine

/-! ## The journal -/

/-- A state without what records of the journal change: the NVM, and registers. -/
def fileless (s : State) : State := { s with nvm := State.reset.nvm, regs := [] }

/-- `s` differs from `s₀` at most in the NVM and in the count of lost entries. -/
structure Filed (s₀ s : State) : Prop where
  rest : fileless s = fileless s₀
  regs : RegsKept s₀ s (· = Reg.THM_NVM_Q)

theorem Filed.refl (s : State) : Filed s s := ⟨rfl, fun _ _ => rfl⟩

theorem Filed.spares {s₀ s : State} (h : Filed s₀ s) : s.spares = s₀.spares := (congrArg State.spares h.rest :)

theorem Filed.fld {s₀ s : State} (h : Filed s₀ s) {f : Fld} (hf : f.addr ≠ Reg.THM_NVM_Q) : s.fld f = s₀.fld f :=
  congrArg (fun w : Word => getBits w.toNat f.hi f.lo) (h.regs f.addr hf)

theorem Filed.trans {s t u : State} (h : Filed s t) (h' : Filed t u) : Filed s u :=
  ⟨h'.rest.trans h.rest, fun a ha => (h'.regs a ha).trans (h.regs a ha)⟩

theorem Filed.setNvm (s : State) (n) : Filed s { s with nvm := n } := ⟨rfl, fun _ _ => rfl⟩

theorem Filed.setReg (s : State) (v : Word) : Filed s (s.setReg Reg.THM_NVM_Q v) := ⟨rfl, fun _ ha => reg_setReg_ne s v ha⟩

theorem Filed.program (s : State) (j : NvmJob) : Filed s (s.program j) := by
  unfold State.program
  split
  · split
    · exact .setNvm s _
    · exact .setReg s _
  · split
    · exact .refl s
    · exact .setNvm s _

theorem Filed.faultRecord (s : State) (r : FaultRec) : Filed s (s.faultRecord r) :=
  (Filed.setNvm s _).trans (.program _ _)

theorem Filed.journalMap (s : State) : Filed s s.journalMap := by
  rw [State.journalMap, State.journalOpaque, State.journal]
  exact .program s _

/-! ## Units -/

/-- The state with other units and other waiting changes. -/
def withUnits (s : State) (x : Store UnitInfo) (q : List Subst) : State :=
  { s with spares := { s.spares with units := x, queue := q } }

theorem tests_withUnits (s : State) (x : Store UnitInfo) (q : List Subst) :
    (withUnits s x q).spares.tests = s.spares.tests := rfl

theorem turn_withUnits (s : State) (x : Store UnitInfo) (q : List Subst) :
    (withUnits s x q).spares.turn = s.spares.turn := rfl

theorem units_withUnits (s : State) (x : Store UnitInfo) (q : List Subst) : (withUnits s x q).spares.units = x := rfl

theorem reg_withUnits (s : State) (x : Store UnitInfo) (q : List Subst) (a : Nat) :
    (withUnits s x q).reg a = s.reg a := rfl

theorem staleSubsts_withUnits (s : State) (x : Store UnitInfo) (q : List Subst) (p : Subst → Bool) :
    State.staleSubsts (withUnits s x q) p =
      withUnits s x (q.map fun q => if p q then { q with stale := true } else q) := rfl

/-- A change of a unit: the unit, and beside it only the journal and the waiting changes that it makes stale. -/
theorem setUnit_filed (s : State) (cls u : Nat) (v : UnitInfo) :
    ∃ q, Filed (withUnits s (s.spares.units.set unitHome (unitKey cls u) v) q) (s.setUnit cls u v) := by
  unfold State.setUnit
  dsimp only
  generalize s.spares.units.set unitHome (unitKey cls u) v = x
  change ∃ q, Filed (withUnits s x q) (if (s.unitInfo cls u).state = v.state then withUnits s x s.spares.queue else
    (if (s.unitInfo cls u).state = .stock then
      State.staleSubsts (withUnits s x s.spares.queue) (fun q => q.cls == cls && q.new == some u)
      else withUnits s x s.spares.queue).journalMap)
  rw [staleSubsts_withUnits]
  split
  · exact ⟨_, .refl (withUnits s x s.spares.queue)⟩
  · split
    · exact ⟨_, .journalMap (withUnits s x _)⟩
    · exact ⟨_, .journalMap (withUnits s x _)⟩

/-- A change of a unit leaves the unit so, and the tests, the turns and the registers but one as they were. -/
theorem setUnit_spec (s : State) (cls u : Nat) (v : UnitInfo) :
    (s.setUnit cls u v).unitInfo cls u = v ∧ (s.setUnit cls u v).spares.tests = s.spares.tests ∧
      (s.setUnit cls u v).spares.turn = s.spares.turn ∧ RegsKept s (s.setUnit cls u v) (· = Reg.THM_NVM_Q) := by
  obtain ⟨q, hf⟩ := setUnit_filed s cls u v
  rw [State.unitInfo, hf.spares, units_withUnits, tests_withUnits, turn_withUnits]
  exact ⟨Store.get_set_self _ _ _ _, rfl, rfl, fun a ha => (hf.regs a ha).trans (reg_withUnits s _ q a)⟩

/-- A test in place starts: its unit is under test, the test is on, and SPR_ST_STAT names it. -/
theorem startTest_of_stock {s : State} {c v : Nat} (h : (s.unitInfo c v).state = .stock) :
    ((s.startTest c v none).unitInfo c v).state = .underTest ∧
      (s.startTest c v none).spares.tests = s.spares.tests ++ [⟨c, v, (s.unitInfo c v).role, true, .stock, none⟩] ∧
      (s.startTest c v none).spares.turn = s.spares.turn ∧
      (s.startTest c v none).reg Reg.SPR_ST_STAT = BitVec.ofNat 32 (4 + 16 * c + 256 * v) := by
  obtain ⟨hu, ht, hturn, -⟩ := setUnit_spec s c v { s.unitInfo c v with state := .underTest }
  have hp : (c == 9 || c == 10 || (s.unitInfo c v).state != .inRole) = true := by simp [h]
  have ha : SelfTest.activate ⟨c, v, (s.unitInfo c v).role, false, .stock, none⟩ c v =
      ⟨c, v, (s.unitInfo c v).role, true, .stock, none⟩ := by simp [SelfTest.activate]
  rw [State.startTest]
  dsimp only
  rw [if_pos hp, h, ha, ht]
  exact ⟨congrArg UnitInfo.state hu, rfl, hturn, reg_setReg_self _ _ _⟩

/-- The counter of a verdict. -/
def verdictCount : Nat → Fld
  | 0 => .SPR_ST_DONE_COUNT
  | 1 => .SPR_ST_FAIL_COUNT
  | _ => .SPR_ST_INCOMPLETE_COUNT

theorem verdictCount_spec (verdict : Nat) : (verdictCount verdict).lo = 0 ∧ (verdictCount verdict).hi = 31 ∧
    (verdictCount verdict).addr ≠ Reg.SPR_ST_LAST ∧ (verdictCount verdict).addr ≠ Reg.SPR_ST_STAT ∧
    (verdictCount verdict).addr ≠ Reg.BIST_PATCNT ∧ (verdictCount verdict).addr ≠ Reg.THM_NVM_Q := by
  match verdict with
  | 0 => decide
  | 1 => decide
  | n + 2 => exact (by decide : (Fld.SPR_ST_INCOMPLETE_COUNT).lo = 0 ∧ (Fld.SPR_ST_INCOMPLETE_COUNT).hi = 31 ∧
    (Fld.SPR_ST_INCOMPLETE_COUNT).addr ≠ Reg.SPR_ST_LAST ∧ (Fld.SPR_ST_INCOMPLETE_COUNT).addr ≠ Reg.SPR_ST_STAT ∧
    (Fld.SPR_ST_INCOMPLETE_COUNT).addr ≠ Reg.BIST_PATCNT ∧ (Fld.SPR_ST_INCOMPLETE_COUNT).addr ≠ Reg.THM_NVM_Q)

/-- A state without the tests of a unit. -/
def withoutTest (s : State) (t : SelfTest) : State :=
  { s with spares := { s.spares with tests := s.spares.tests.filter fun x => !(x.cls == t.cls && x.unit == t.unit) } }

/-- SPR_ST_STAT names the first test that runs, or none. -/
def showTest (s : State) (rest : List SelfTest) : State :=
  match rest.find? (·.active) with
  | some u => s.setReg Reg.SPR_ST_STAT (BitVec.ofNat 32 (4 + 16 * u.cls + 256 * u.unit))
  | none => s.setReg Reg.SPR_ST_STAT 0xF0

/-- The state of a test's end before its unit changes: the tests that stay, and the registers. -/
def testCounted (s : State) (t : SelfTest) (verdict patterns : Nat) : State :=
  ((showTest ((withoutTest s t).setReg Reg.SPR_ST_LAST (BitVec.ofNat 32 (verdict + 4 + 16 * t.cls + 256 * t.unit)))
    (withoutTest s t).spares.tests).setFld .BIST_PATCNT_COUNT patterns).count (verdictCount verdict) 1

/-- The record of a test's end: of a part that is tested good again, and of each test not passed. -/
def testRecorded (s : State) (t : SelfTest) (verdict patterns : Nat) : State :=
  if verdict = 0 then
    (if t.was = .retired then s.faultRecord ⟨5, t.cls, 0, .ok, 0, 0xFFFFFFFF, t.unit, 0⟩ else s)
  else s.faultRecord ⟨4, t.cls, 0, if verdict = 2 then .incomplete else .ok, 0, t.role.getD 0xFFFFFFFF, t.unit, patterns⟩

theorem endTestWith_eq (s : State) (t : SelfTest) (verdict patterns : Nat) (after : UnitInfo) :
    s.endTestWith t verdict patterns after =
      (testRecorded ((testCounted s t verdict patterns).setUnit t.cls t.unit after) t verdict patterns).finishWaiting
        t.notify (if verdict = 2 then .incomplete else .ok) patterns := by
  unfold State.endTestWith testRecorded testCounted showTest verdictCount
  rfl

theorem Filed.testRecorded (s : State) (t : SelfTest) (verdict patterns : Nat) :
    Filed s (testRecorded s t verdict patterns) := by
  unfold Safety.testRecorded
  split
  · split
    · exact .faultRecord s _
    · exact .refl s
  · exact .faultRecord s _

theorem spares_showTest (s : State) (rest : List SelfTest) : (showTest s rest).spares = s.spares := by
  unfold showTest
  split <;> rfl

theorem reg_showTest (s : State) (rest : List SelfTest) {a : Nat} (h : a ≠ Reg.SPR_ST_STAT) :
    (showTest s rest).reg a = s.reg a := by
  unfold showTest
  split <;> exact reg_setReg_ne s _ h

/-- SPR_ST_LAST, the verdict's count and the tests after a test's end. -/
theorem testCounted_spec (s : State) (t : SelfTest) (verdict patterns : Nat) :
    (testCounted s t verdict patterns).reg Reg.SPR_ST_LAST =
      BitVec.ofNat 32 (verdict + 4 + 16 * t.cls + 256 * t.unit) ∧
    (testCounted s t verdict patterns).fld (verdictCount verdict) =
      min (2 ^ 32 - 1) (s.fld (verdictCount verdict) + 1) ∧
    (testCounted s t verdict patterns).spares.tests =
      s.spares.tests.filter (fun y => !(y.cls == t.cls && y.unit == t.unit)) := by
  obtain ⟨hlo, hhi, hlast, hstat, hpat, -⟩ := verdictCount_spec verdict
  unfold testCounted
  refine ⟨?_, ?_, ?_⟩
  · rw [reg_count_ne _ _ hlast.symm, reg_setFld_ne _ _ (by decide), reg_showTest _ _ (by decide), reg_setReg_self]
  · rw [fld_count_self _ _ _ (by omega) (by omega), Fld.width, hlo, hhi, State.fld, State.fld,
      reg_setFld_ne _ _ hpat, reg_showTest _ _ hstat, reg_setReg_ne _ _ hlast]
    rfl
  · rw [State.count_spares, State.setFld_spares, spares_showTest]
    rfl

/-- The end of a test: SPR_ST_LAST, the verdict's count, the tests that stay, and the unit. -/
theorem endTestWith_spec (s : State) (t : SelfTest) (verdict patterns : Nat) (after : UnitInfo) :
    (s.endTestWith t verdict patterns after).reg Reg.SPR_ST_LAST =
      BitVec.ofNat 32 (verdict + 4 + 16 * t.cls + 256 * t.unit) ∧
    (s.endTestWith t verdict patterns after).fld (verdictCount verdict) =
      min (2 ^ 32 - 1) (s.fld (verdictCount verdict) + 1) ∧
    (s.endTestWith t verdict patterns after).spares.tests =
      s.spares.tests.filter (fun y => !(y.cls == t.cls && y.unit == t.unit)) ∧
    (s.endTestWith t verdict patterns after).unitInfo t.cls t.unit = after := by
  obtain ⟨hlast, hcount, htests⟩ := testCounted_spec s t verdict patterns
  obtain ⟨-, -, -, -, -, hq⟩ := verdictCount_spec verdict
  obtain ⟨hu, ht, -, hk⟩ := setUnit_spec (testCounted s t verdict patterns) t.cls t.unit after
  have hf := Filed.testRecorded ((testCounted s t verdict patterns).setUnit t.cls t.unit after) t verdict patterns
  have hp : Posted _ (s.endTestWith t verdict patterns after) :=
    endTestWith_eq s t verdict patterns after ▸ (Posted.refl _).finishWaiting
  refine ⟨?_, ?_, ?_, ?_⟩
  · rw [reg_congr hp.regs, hf.regs _ (by decide), hk _ (by decide), hlast]
  · rw [fld_congr hp.regs, hf.fld hq, State.fld, hk _ hq, ← hcount]
    rfl
  · rw [hp.spares, hf.spares, ht, htests]
  · rw [State.unitInfo, hp.spares, hf.spares]
    exact hu

/-! ## Charges -/

/-- A lasting fault of ROLE_STALE: the spares and its event count stay. -/
theorem lasting_roleStale (s : State) (inst unit : Nat) :
    (s.lasting 10 inst unit).spares = s.spares ∧
      (s.lasting 10 inst unit).fld (.FLT_SRC_EVT_COUNT 9) = s.fld (.FLT_SRC_EVT_COUNT 9) := by
  have hq : Quiet s (s.event 0xF .ok 10
      (leBytes 4 (s.fltN 10) ++ leBytes 4 (if s.fltN 10 ≤ 1 then 0 else s.fltW 10 / 1000000))) := (Quiet.refl s).event
  have hf := Filed.faultRecord (s.event 0xF .ok 10
      (leBytes 4 (s.fltN 10) ++ leBytes 4 (if s.fltN 10 ≤ 1 then 0 else s.fltW 10 / 1000000)))
      ⟨1, 0xFF, 10, .ok, 0, 0xFFFFFFFF, unit, 0⟩
  have he : s.lasting 10 inst unit = State.count (State.faultRecord (s.event 0xF .ok 10
      (leBytes 4 (s.fltN 10) ++ leBytes 4 (if s.fltN 10 ≤ 1 then 0 else s.fltW 10 / 1000000)))
      ⟨1, 0xFF, 10, .ok, 0, 0xFFFFFFFF, unit, 0⟩) (.FLT_SRC_LAST_COUNT 9) 1 := rfl
  rw [he]
  exact ⟨by rw [State.count_spares, hf.spares, hq.spares],
    by rw [State.fld, reg_count_ne _ _ (by decide), ← State.fld, hf.fld (by decide), hq.fld (by unfold EventReg; decide)]⟩

/-- The state with other buckets. -/
def withBuckets (s : State) (x : Store (List Nat)) : State := { s with spares := { s.spares with buckets := x } }

theorem setBucket_eq (s : State) (src inst : Nat) (l : List Nat) :
    s.setBucket src inst l = withBuckets s (s.spares.buckets.set (fun _ => []) (bucketKey src inst) l) := rfl

theorem resent_withBuckets (s : State) (x) : (withBuckets s x).spares.resent = s.spares.resent := rfl

theorem accepted_withBuckets (s : State) (x) : (withBuckets s x).spares.accepted = s.spares.accepted := rfl

theorem fld_withBuckets (s : State) (x) (f : Fld) : (withBuckets s x).fld f = s.fld f := rfl

/-- A charge of ROLE_STALE: one more event, and beside the buckets no change of the spares. -/
theorem charge_roleStale (s : State) (inst : Nat) :
    (s.charge 10 inst).spares.resent = s.spares.resent ∧ (s.charge 10 inst).spares.accepted = s.spares.accepted ∧
      (s.charge 10 inst).fld (.FLT_SRC_EVT_COUNT 9) =
        satAdd (Fld.FLT_SRC_EVT_COUNT 9).width (s.fld (.FLT_SRC_EVT_COUNT 9)) 1 := by
  have he : (s.count (.FLT_SRC_EVT_COUNT 9) 1).fld (.FLT_SRC_EVT_COUNT 9) =
      satAdd (Fld.FLT_SRC_EVT_COUNT 9).width (s.fld (.FLT_SRC_EVT_COUNT 9)) 1 :=
    fld_count_self s _ 1 (by decide) (by decide)
  have hs : (s.count (.FLT_SRC_EVT_COUNT 9) 1).spares = s.spares := State.count_spares _ _ _
  unfold State.charge State.chargeFor
  dsimp only
  rw [← he, ← hs]
  generalize s.count (.FLT_SRC_EVT_COUNT 9) 1 = u
  split
  · exact ⟨rfl, rfl, rfl⟩
  · split
    · obtain ⟨hl, hf⟩ := lasting_roleStale (u.setBucket 10 inst []) inst (inst % 2 ^ 20)
      rw [hl, hf, setBucket_eq, resent_withBuckets, accepted_withBuckets, fld_withBuckets]
      exact ⟨rfl, rfl, rfl⟩
    · rw [setBucket_eq, resent_withBuckets, accepted_withBuckets, fld_withBuckets]
      exact ⟨rfl, rfl, rfl⟩

/-- The state with other messages that wait, and other counts of those accepted. -/
def withMessages (s : State) (r : List (Nat × Nat × Nat)) (a : Store Nat) : State :=
  { s with spares := { s.spares with resent := r, accepted := a } }

theorem resent_withMessages (s : State) (r a) : (withMessages s r a).spares.resent = r := rfl

theorem accepted_withMessages (s : State) (r a) : (withMessages s r a).spares.accepted = a := rfl

theorem fld_withMessages (s : State) (r a) (f : Fld) : (withMessages s r a).fld f = s.fld f := rfl

/-- INTERNAL_MESSAGE with the epoch of its role, and with another. -/
theorem exec_internalMessage (dt : Nat) (cls : Fin 14) (role : Nat) (epoch : BitVec 16) (s : State) :
    exec (.internalMessage dt cls role epoch) s = .next (
      if (s.advance dt).epoch cls.val role = epoch.toNat then
        withMessages (s.advance dt) ((s.advance dt).spares.resent.erase (cls.val, role, epoch.toNat))
          ((s.advance dt).spares.accepted.modify (fun _ => 0) (unitKey cls.val role) (· + 1))
      else (withMessages (s.advance dt) ((s.advance dt).spares.resent.erase (cls.val, role, epoch.toNat) ++
          [(cls.val, role, (s.advance dt).epoch cls.val role)]) (s.advance dt).spares.accepted).charge 10
            (unitKey cls.val role)) := rfl

/-! ## Turns -/

/-- The state with other turns. -/
def withTurns (s : State) (x y : Store Nat) : State := { s with spares := { s.spares with turn := x, turnAt := y } }

theorem tests_withTurns (s : State) (x y) : (withTurns s x y).spares.tests = s.spares.tests := rfl

theorem unitInfo_withTurns (s : State) (x y) (c v : Nat) : (withTurns s x y).unitInfo c v = s.unitInfo c v := rfl

theorem turn_withTurns (s : State) (x y) : (withTurns s x y).spares.turn = x := rfl

/-- A turn that has come, to a unit in stock: the turn moves past the unit, and its test starts. -/
theorem exec_selftestTurn_of_stock {s : State} {dt v : Nat} {cls : Fin 14} {u : State} (hu : u = s.advance dt)
    (h : (cls.val ≤ 10 && bitOf (u.fld .SPR_ST_CFG_EN) cls.val && u.fld .SPR_ST_CFG_PERIOD != 0 &&
      u.fld .PWR_STATE_STATE == 0 && u.alive && u.coach.started && u.nvm.rights != 0 && u.nvm.rights != 5 &&
      !u.spares.tests.any (·.cls == cls.val) && u.turnDue cls.val) = true)
    (hv : u.turnUnit cls.val = some v) (hstock : (u.unitInfo cls.val v).state = .stock) :
    exec (.selftestTurn dt cls) s = .next (State.startTest (withTurns u
      (u.spares.turn.set (fun _ => 0) cls.val ((v + 1) % classUnits cls.val))
      (u.spares.turnAt.set (fun _ => 0) cls.val (u.now + 1))) cls.val v none) := by
  subst hu
  refine congrArg Host.Outcome.next ((if_pos h).trans ?_)
  rw [hv]
  dsimp only
  generalize (s.advance dt).spares.turn.set (fun _ => 0) cls.val ((v + 1) % classUnits cls.val) = x
  generalize (s.advance dt).spares.turnAt.set (fun _ => 0) cls.val ((s.advance dt).now + 1) = y
  change (match ((s.advance dt).unitInfo cls.val v).state, ((s.advance dt).unitInfo cls.val v).role with
      | .inRole, some r => if cls.val ≤ 8 && ((withTurns (s.advance dt) x y).scopeStock cls.val r).isEmpty then
          (withTurns (s.advance dt) x y).count .SPR_ST_SKIP_COUNT 1
          else (withTurns (s.advance dt) x y).startTest cls.val v none
      | .inRole, none => withTurns (s.advance dt) x y
      | _, _ => (withTurns (s.advance dt) x y).startTest cls.val v none) = _
  rw [hstock]

/-- SELFTEST_COMPLETE with a verdict that is not FAIL, of a unit that goes back to stock. -/
theorem exec_selftestComplete {s : State} {dt patterns verdict : Nat} {cls : Fin 14} {pass : Bool} {x : SelfTest}
    {u : State} (hu : u = s.advance dt) (hx : u.spares.tests.find? (fun t => t.active && t.cls == cls.val) = some x)
    (hcls : x.cls ≠ 10) (hwas : x.was ≠ .retired)
    (hv : (if patterns < u.fld .BIST_PATTERNS_COUNT then 2 else if pass then 0 else 1) = verdict) (h1 : verdict ≠ 1) :
    exec (.selftestComplete dt cls pass patterns) s = .next (u.endTestWith x verdict patterns ⟨.stock, none⟩) := by
  subst hu
  refine congrArg Host.Outcome.next ?_
  rw [hx]
  dsimp only
  rw [hv, if_neg h1, if_neg fun h => hwas h.1, if_neg hcls]

/-- Settles O51: a leak is one bucket set, a message one change of the spares and, when stale, one charge; a turn is
`startTest_of_stock`, and a test's end `endTestWith_spec`. -/
theorem faultsBucketsAndServiceTests : Obligations.FaultsBucketsAndServiceTests := by
  refine ⟨?_, ?_, ?_, ?_⟩
  · intro s dt src inst u k
    exact ⟨_, rfl, Store.get_set_self _ _ _ _, fun key h => Store.get_set_ne _ _ _ h, rfl⟩
  · intro s dt cls role epoch u left
    rw [exec_internalMessage]
    refine ⟨fun h => ⟨_, congrArg Host.Outcome.next (if_pos h), ?_, rfl⟩, fun h => ?_⟩
    · rw [accepted_withMessages, Store.modify, Store.get_set_self]
    obtain ⟨hr, ha, hf⟩ := charge_roleStale (withMessages u (left ++ [(cls.val, role, u.epoch cls.val role)])
      u.spares.accepted) (unitKey cls.val role)
    rw [resent_withMessages] at hr
    rw [accepted_withMessages] at ha
    rw [fld_withMessages] at hf
    exact ⟨_, congrArg Host.Outcome.next (if_neg h), hr, ha, hf⟩
  · intro s dt cls v u c hc hen hper hst hal hco hdue hr0 hr5 hno hun hstock
    have he := exec_selftestTurn_of_stock (s := s) (dt := dt) (cls := cls) rfl
      (by simp only [c] at *; simp [hc, hen, hper, hst, hal, hco, hdue, hr0, hr5, hno, u] at *) hun hstock
    obtain ⟨hunit, htests, hturn, hstat⟩ := startTest_of_stock (s := withTurns u
      (u.spares.turn.set (fun _ => 0) c ((v + 1) % classUnits c))
      (u.spares.turnAt.set (fun _ => 0) c (u.now + 1))) (c := c) (v := v) hstock
    rw [tests_withTurns, unitInfo_withTurns] at htests
    rw [turn_withTurns] at hturn
    exact ⟨_, he, hunit, htests, by rw [hturn, Store.get_set_self], hstat⟩
  · intro s dt cls pass patterns x u hx hcls hwas
    refine ⟨fun hpass hpat => ?_, fun hpat => ?_⟩
    · obtain ⟨hl, hd, ht, hu⟩ := endTestWith_spec u x 0 patterns ⟨.stock, none⟩
      rw [Nat.zero_add] at hl
      exact ⟨_, exec_selftestComplete rfl hx hcls hwas (by rw [if_neg (Nat.not_lt.mpr hpat), if_pos hpass]) (by decide),
        hl, hd, ht, hu⟩
    · obtain ⟨hl, hd, -, hu⟩ := endTestWith_spec u x 2 patterns ⟨.stock, none⟩
      exact ⟨_, exec_selftestComplete rfl hx hcls hwas (if_pos hpat) (by decide), hl, hd, hu⟩

end Sys2Proof.Safety
end

section
/-! PROOF. COMMIT and BUNDLE. -/

namespace Sys2Proof.Safety

open Sys2Proof.Machine

/-! ## The command at the head of a ring -/

/-- A well-formed command at the head of its ring is carried out. -/
theorem command_of_headFor {s : State} {q op : Nat} {used : List (Nat × Nat)} {d : List Byte}
    {f : List Byte → State → State} (hd : s.headFor q op = some d) (hz : unusedZero d ([(0, 4)] ++ used) = true)
    (hg : bytesAt d 1 1 < 16) (hm : ((op == 4 || op == 8) && !s.canDma 0) = false) :
    s.command q op true used f = f d s := by
  unfold State.command
  rw [hd]
  dsimp only
  rw [hz, hm, if_neg, if_neg Bool.false_ne_true]
  simp [hg]

/-- A group that was replaced reads as written. -/
theorem group_setGroup (s : State) (g : Nat) (l : List Item) : (s.setGroup g l).group g = l :=
  Store.get_set_self _ _ _ _

theorem Posted.group {s₀ s : State} (h : Posted s₀ s) (g : Nat) : s.group g = s₀.group g := by
  rw [State.group, h.groups, State.group]

/-- A state with one more accepted group. -/
def withAccepted (s : State) (l : List Accepted) : State := { s with accepted := l }

theorem group_withAccepted (s : State) (l : List Accepted) (g : Nat) : (withAccepted s l).group g = s.group g := rfl

/-- A commit that passes the check: one more group accepted, and its group empty. -/
theorem acceptCommit_of_acceptable {s : State} {q : Nat} {d : List Byte} {target : Target} (hn : s.accepted.length < 16)
    (hf : ∀ n, target = .tick n → n ≤ s.lastTick + 2 ^ 32)
    (ha : s.acceptable (s.group (bytesAt d 1 1)) (s.provisional target (leadOf (s.group (bytesAt d 1 1)))) = true) :
    ∃ a : Accepted, s.acceptCommit q d target =
        (withAccepted (s.setGroup (bytesAt d 1 1) []) (s.accepted ++ [a])).nextHead q ∧
      a.items = s.group (bytesAt d 1 1) ∧ a.target = target ∧ a.ring = q ∧ a.tag = descTag d ∧ a.at_ = s.tb := by
  unfold State.acceptCommit
  dsimp only
  rw [if_neg]
  · exact ⟨_, rfl, rfl, rfl, rfl, rfl, rfl⟩
  · rw [ha]
    cases target with
    | tick n => have := hf n rfl; simp; omega
    | next => simpa using hn
    | time t => simpa using hn

/-! ## Bundles -/

theorem regs_writeLoad (s : State) (l : Load) : (s.writeLoad l).regs = s.regs := rfl

/-- Loads leave the registers and the groups alone. -/
theorem foldl_writeLoad (s : State) (l : List Load) : (l.foldl (fun s l => s.writeLoad l) s).regs = s.regs := by
  induction l generalizing s with
  | nil => rfl
  | cons x l ih => exact (ih _).trans (regs_writeLoad s x)

/-- The bytes that a load leaves in the shadow bank of its table. -/
theorem tables_writeLoad (s : State) (l : Load) {o : Nat} (h : o < l.data.length) :
    some ((s.writeLoad l).tables.bytes.get tableReset
      (tableAddr (tableKey l.table l.index) (1 - s.activeBank (tableKey l.table l.index)) (l.offset + o))) = l.data[o]? := by
  have he : (s.writeLoad l).tables.bytes = s.tables.bytes.setMany tableReset
      (tableAddr (tableKey l.table l.index) (1 - s.activeBank (tableKey l.table l.index)) l.offset) l.data := rfl
  rw [he, Store.get_setMany, if_pos (by unfold tableAddr; omega),
    show tableAddr (tableKey l.table l.index) (1 - s.activeBank (tableKey l.table l.index)) (l.offset + o) -
      tableAddr (tableKey l.table l.index) (1 - s.activeBank (tableKey l.table l.index)) l.offset = o by
        unfold tableAddr; omega, List.getElem?_eq_getElem h]
  rfl

/-- A bundle of good form, with all its bytes read: refused, or staged. -/
theorem exec_bundle_of_form {s : State} {q : Fin 32} {d bs : List Byte} {signed : Bool}
    (hd : s.headFor q.val 8 = some d) (hz : unusedZero d [(0, 4), (8, 12)] = true) (hg : bytesAt d 1 1 < 16)
    (ha : bytesAt d 8 8 % 64 = 0) (hm : s.canDma 0 = true) (hl : bytesAt d 16 4 ≤ bs.length)
    (hf : bundleForm (bs.take (bytesAt d 16 4)) (bytesAt d 16 4) = some signed) :
    exec (.bundle q (some bs)) s = .next (if s.bundleRefused (bs.take (bytesAt d 16 4)) signed then
      s.finishHead q.val .sigFail 0 else s.stageBundle q.val d (bs.take (bytesAt d 16 4))) := by
  refine congrArg Host.Outcome.next ((command_of_headFor hd hz hg (by simp [hm])).trans ?_)
  dsimp only [Option.getD]
  rw [if_neg (by simp [ha]), if_neg (by rw [List.length_take]; omega), hf]

/-- A bundle whose items pass: staged once the bank of each of its tables is free, and until then waiting. -/
theorem stageBundle_of_items {s : State} {q : Nat} {d b : List Byte} {x : BundleBody}
    (hx : bundleItems q (bytesAt b 12 4) ((b.drop 64).take (bytesAt b 8 4)) = some x)
    (hfit : groupFits (x.items.foldl addItem (s.group (bytesAt d 1 1))) = true) :
    s.stageBundle q d b =
      if (x.loads.all fun l => s.bankFree q l.table l.index && !s.loading (l.table, l.index)) = true then
        ((x.loads.foldl (fun s l => s.writeLoad l) s).setGroup (bytesAt d 1 1)
          (x.items.foldl addItem (s.group (bytesAt d 1 1)))).finishHead q .ok (bytesAt b 12 4)
      else s := by
  unfold State.stageBundle
  rw [hx]
  dsimp only
  rw [hfit, if_neg (by decide)]

/-- Settles O37: a commit is `acceptCommit_of_acceptable`, a bundle `stageBundle_of_items`; what follows the head of a ring
changes rings, link and host memory only. -/
theorem commitsAndBundles : Obligations.CommitsAndBundles := by
  refine ⟨?_, ?_⟩
  · intro s q d target g hd hz hg ht hsw hn hf ha
    obtain ⟨a, he, hitems, htarget, hring, htag, hat⟩ := acceptCommit_of_acceptable (q := q.val) hn hf ha
    have hp : Posted (withAccepted (s.setGroup g []) (s.accepted ++ [a])) (s.acceptCommit q.val d target) :=
      he ▸ (Posted.refl _).nextHead
    refine ⟨_, a, congrArg Host.Outcome.next ((command_of_headFor hd hz hg rfl).trans ?_), hp.accepted, hitems, htarget,
      hring, htag, hat, (hp.group g).trans ((group_withAccepted _ _ g).trans (group_setGroup s g [])), hp.regs, hp.tables⟩
    rw [State.tryCommit, ht]
    dsimp only
    rw [hsw, if_neg Bool.false_ne_true]
  · intro s q d bs signed g b hd hz hg ha hm hl hf
    have he := exec_bundle_of_form hd hz hg ha hm hl hf
    have hstage : ∀ x, s.bundleRefused b signed = false →
        bundleItems q.val (bytesAt b 12 4) ((b.drop 64).take (bytesAt b 8 4)) = some x →
        groupFits (x.items.foldl addItem (s.group g)) = true → exec (.bundle q (some bs)) s = .next (
          if (x.loads.all fun l => s.bankFree q.val l.table l.index && !s.loading (l.table, l.index)) = true then
            ((x.loads.foldl (fun s l => s.writeLoad l) s).setGroup g
              (x.items.foldl addItem (s.group g))).finishHead q.val .ok (bytesAt b 12 4)
          else s) := fun x hr hx hfit => by
      rw [he, hr, if_neg Bool.false_ne_true, stageBundle_of_items hx hfit]
    refine ⟨?_, ?_, fun l o ho _ _ => tables_writeLoad s l ho, fun hr => ?_⟩
    · intro x hr hx hloads hfit
      have h := hstage x hr hx hfit
      rw [hloads, List.all_nil, if_pos rfl] at h
      have hp := (Posted.refl (s.setGroup g (x.items.foldl addItem (s.group g)))).finishHead (n := q.val) (status := .ok)
        (result := bytesAt b 12 4)
      exact ⟨_, h, (hp.group g).trans (group_setGroup s g _), hp.regs⟩
    · intro x hr hx hfit free
      refine ⟨fun hfree => ?_, fun hfree => by rw [hstage x hr hx hfit, if_neg (ne_true_of_eq_false hfree)]⟩
      have hp := (Posted.refl ((x.loads.foldl (fun s l => s.writeLoad l) s).setGroup g
        (x.items.foldl addItem (s.group g)))).finishHead (n := q.val) (status := .ok) (result := bytesAt b 12 4)
      exact ⟨_, (hstage x hr hx hfit).trans (congrArg _ (if_pos hfree)), (hp.group g).trans (group_setGroup _ g _),
        hp.tables, hp.regs.trans (foldl_writeLoad s x.loads), rfl⟩
    · have hp := (Posted.refl s).finishHead (n := q.val) (status := .sigFail) (result := 0)
      exact ⟨_, he.trans (congrArg _ (if_pos hr)), hp.groups, hp.tables, hp.regs⟩

end Sys2Proof.Safety
end

section
/-! PROOF. A taken tick edge.

No function that an edge calls writes the number or the time of the last edge, RUNNING or the tick of the newest frame
(`SameTick`), but the edge itself (`State.number`, the write of RUNNING and `State.beginFrame`). As for `StoresCanonical`
there is one lemma per function of the model, named after it, whose proof is the composition itself. -/

namespace Sys2Proof.Safety

-- The many small `decide` side goals below, elaborated in parallel, would take more threads than the memory limit allows.
set_option Elab.async false

open Sys2Proof.Machine

/-! ## What an edge shows

The time, the counter and time of the last edge, RUNNING and the tick of the newest frame change at the edge itself and
nowhere else in its work. -/

/-- `s` shows the time, the last tick edge, RUNNING and the newest frame that `s₀` shows. -/
structure SameTick (s₀ s : State) : Prop where
  now : s.now = s₀.now
  tb : s.tb = s₀.tb
  first : s.seq.first = s₀.seq.first
  newest : s.newest.map (·.tick) = s₀.newest.map (·.tick)
  running : s.running = s₀.running
  regs : ∀ a, 0x104 < a → a ≤ 0x114 → s.reg a = s₀.reg a

theorem SameTick.refl (s : State) : SameTick s s := ⟨rfl, rfl, rfl, rfl, rfl, fun _ _ _ => rfl⟩

theorem SameTick.branch {s₀ s t : State} {c : Prop} {inst : Decidable c} (hs : SameTick s₀ s) (ht : SameTick s₀ t) :
    SameTick s₀ (if c then s else t) := by split <;> assumption

/-- A fold over a value that carries a state. -/
theorem SameTick.foldlOn {α β : Type} {s₀ : State} (g : α → State) {f : α → β → α} {a : α} {l : List β}
    (h : SameTick s₀ (g a)) (hf : ∀ {a x}, SameTick s₀ (g a) → SameTick s₀ (g (f a x))) :
    SameTick s₀ (g (l.foldl f a)) := by
  induction l generalizing a with
  | nil => exact h
  | cons x l ih => exact ih (hf h)

/-- A fold over a state. -/
theorem SameTick.foldl {β : Type} {s₀ s : State} {f : State → β → State} {l : List β} (h : SameTick s₀ s)
    (hf : ∀ {t x}, SameTick s₀ t → SameTick s₀ (f t x)) : SameTick s₀ (l.foldl f s) :=
  foldlOn id h hf

/-- The counter and the time of the last edge, and HIF_STAT, have no field that a plain write changes. -/
theorem plainWriteReg_tickReg {a : Nat} (hl : 0x104 ≤ a) (hu : a ≤ 0x114) {r : RegRow} (hr : regRow a = some r) :
    r.rw = 0 ∧ r.w1c = 0 := by
  have hall : ∀ a ∈ List.range' 0x104 17, ∀ r ∈ regRow a, r.rw = 0 ∧ r.w1c = 0 := by decide +kernel
  exact hall a (List.mem_range'_1.mpr ⟨hl, by omega⟩) r hr

theorem plainWrite_zero (old v : Word) : plainWrite 0#32 0#32 old v = old := by
  have h : ~~~(0#32) = BitVec.allOnes 32 := rfl
  rw [plainWrite, BitVec.zero_and, h, BitVec.and_allOnes, BitVec.and_allOnes, BitVec.and_zero, BitVec.or_zero]

/-- The addresses of a numbered register lie above those of the last edge where its first does. -/
theorem above_tick {b k : Nat} (hb : 0x114 < b := by decide) : b + k < 0x104 ∨ 0x114 < b + k := .inr (by omega)

section
variable {s₀ s : State} (h : SameTick s₀ s)
include h

/-- An update of fields of the state that are none of the time, the registers, the sequencer and the frames. -/
theorem SameTick.update {f2 f3 f4 f5 f6 f7 f8 f9 f10 f11 f13 f14 f15 f16 f17 f18 f19 f20 f21 f22 f23 f24 f25 f26 f27
      f28 f29 f30 f31 f32 f34 f35 f37 f38 f39 f40 f41 f42 f43 f44 f45 f46 f47 f48 f49 f50 f51 f52 f53 f54 f55 f56 f57
      f58 f59} :
    SameTick s₀ ⟨s.now, s.tb, f2, f3, f4, f5, f6, f7, f8, f9, f10, f11, s.regs, f13, f14, f15, f16, f17, f18, f19, f20,
      f21, f22, f23, f24, f25, f26, f27, f28, f29, f30, f31, f32, s.seq, f34, f35, s.frames, f37, f38, f39, f40, f41,
      f42, f43, f44, f45, f46, f47, f48, f49, f50, f51, f52, f53, f54, f55, f56, f57, f58, f59⟩ :=
  ⟨h.now, h.tb, h.first, h.newest, h.running, h.regs⟩

/-- A change of the sequencer that keeps whether an edge has come. -/
theorem SameTick.setSeq {x : Sequencer} (hx : x.first = s.seq.first) : SameTick s₀ { s with seq := x } :=
  ⟨h.now, h.tb, hx.trans h.first, h.newest, h.running, h.regs⟩

/-- A change of the frames that keeps the tick of the newest. -/
theorem SameTick.setFrames {l : List Frame} (hl : l.getLast?.map (·.tick) = s.newest.map (·.tick)) :
    SameTick s₀ { s with frames := l } :=
  ⟨h.now, h.tb, h.first, hl.trans h.newest, h.running, h.regs⟩

/-- A write of a register other than HIF_STAT and the counter and time of the last edge. -/
theorem SameTick.setReg {a v} (ha : a < 0x104 ∨ 0x114 < a := by decide) : SameTick s₀ (s.setReg a v) := by
  have hk {b : Nat} (hl : 0x104 ≤ b) (hu : b ≤ 0x114) : (s.setReg a v).reg b = s.reg b :=
    reg_setReg_ne s v (by rcases ha with ha | ha <;> omega)
  exact ⟨h.now, h.tb, h.first, h.newest,
    (congrArg (fun w : Word => getBits w.toNat 0 0 == 1) (hk (by decide) (by decide))).trans h.running,
    fun b hl hu => (hk (by omega) hu).trans (h.regs b hl hu)⟩
theorem SameTick.setFld {f v} (hf : f.addr < 0x104 ∨ 0x114 < f.addr := by decide) : SameTick s₀ (s.setFld f v) :=
  h.setReg hf
theorem SameTick.setFlag {f b} (hf : f.addr < 0x104 ∨ 0x114 < f.addr := by decide) : SameTick s₀ (s.setFlag f b) :=
  h.setFld hf
theorem SameTick.count {f n} (hf : f.addr < 0x104 ∨ 0x114 < f.addr := by decide) : SameTick s₀ (s.count f n) :=
  h.setFld hf
/-- A write of another bit of HIF_STAT than RUNNING. -/
theorem SameTick.setStat {f : Fld} {b} (ha : f.addr = Reg.HIF_STAT) (hl : 0 < f.lo) (hh : f.lo ≤ f.hi) (h32 : f.hi < 32) :
    SameTick s₀ (s.setFlag f b) :=
  ⟨h.now, h.tb, h.first, h.newest,
    (congrArg (· == 1) (fld_setFld_apart s (g := .HIF_STAT_RUNNING) _ ha.symm hh h32 (.inl hl))).trans h.running,
    fun a hl hu => (reg_setFlag_ne s b (by rw [ha]; show a ≠ 0x104; omega)).trans (h.regs a hl hu)⟩
theorem SameTick.setThrottled {b} : SameTick s₀ (s.setFlag .HIF_STAT_THROTTLED b) :=
  h.setStat rfl (by decide) (by decide) (by decide)
theorem SameTick.setClamped {b} : SameTick s₀ (s.setFlag .HIF_STAT_CLAMPED b) :=
  h.setStat rfl (by decide) (by decide) (by decide)
theorem SameTick.plainWriteReg {a v} : SameTick s₀ (s.plainWriteReg a v) := by
  unfold State.plainWriteReg
  split
  next r hr =>
    by_cases hl : 0x104 ≤ a ∧ a ≤ 0x114
    · obtain ⟨hrw, hw1c⟩ := plainWriteReg_tickReg hl.1 hl.2 hr
      have hk : ∀ b, (s.setReg a (plainWrite (BitVec.ofNat 32 r.rw) (BitVec.ofNat 32 r.w1c) (s.reg a) v)).reg b = s.reg b := by
        intro b
        rw [hrw, hw1c, reg_setReg, show BitVec.ofNat 32 0 = 0#32 from rfl, plainWrite_zero]
        split
        · next e => rw [e]
        · rfl
      exact ⟨h.now, h.tb, h.first, h.newest,
        (congrArg (fun w : Word => getBits w.toNat 0 0 == 1) (hk 0x104)).trans h.running,
        fun b hl hu => (hk b).trans (h.regs b hl hu)⟩
    · exact h.setReg (by omega)
  next => exact h

/-- What events change is none of what an edge shows. -/
theorem SameTick.quiet {t} (ht : Quiet s t) : SameTick s₀ t :=
  have hr {a : Nat} (hl : 0x104 ≤ a) (hu : a ≤ 0x114) : t.reg a = s.reg a :=
    ht.regs a fun e => by unfold EventReg at e; dsimp only [Reg.HIF_NORING_DROP] at e; omega
  ⟨(congrArg State.now ht.rest :).trans h.now, (congrArg State.tb ht.rest :).trans h.tb,
    (congrArg (fun s => s.seq.first) ht.rest :).trans h.first,
    (congrArg (fun s : State => s.newest.map (·.tick)) ht.rest :).trans h.newest,
    (congrArg (fun w : Word => getBits w.toNat 0 0 == 1) (hr (by decide) (by decide))).trans h.running,
    fun a hl hu => (hr (by omega) hu).trans (h.regs a hl hu)⟩
theorem SameTick.post {t} (ht : Posted s t) : SameTick s₀ t := h.quiet ((Quiet.refl s).post ht)

theorem SameTick.free : SameTick s₀ s.free.2 := h.update
theorem SameTick.raiseFast {n} (hn : n ≤ 16 := by decide) : SameTick s₀ (s.raiseFast n) :=
  h.quiet ((Quiet.refl s).raiseFast hn)
theorem SameTick.event {code status source args} : SameTick s₀ (s.event code status source args) :=
  h.quiet (Quiet.refl s).event
theorem SameTick.hand {kind cam bs tick tag} : SameTick s₀ (s.hand kind cam bs tick tag) :=
  h.quiet (Quiet.refl s).hand
theorem SameTick.setRing {n r} : SameTick s₀ (s.setRing n r) := h.update
theorem SameTick.setClaims {n l} : SameTick s₀ (s.setClaims n l) := h.post (Posted.refl s).setClaims
theorem SameTick.complete {c} : SameTick s₀ (s.complete c) := h.post (Posted.refl s).complete
theorem SameTick.startHead {n} : SameTick s₀ (s.startHead n) := h.post (Posted.refl s).startHead
theorem SameTick.nextHead {n} : SameTick s₀ (s.nextHead n) := h.post (Posted.refl s).nextHead
theorem SameTick.finishHead {n status result} : SameTick s₀ (s.finishHead n status result) :=
  h.post (Posted.refl s).finishHead
theorem SameTick.finishWaiting {notify status result} : SameTick s₀ (s.finishWaiting notify status result) :=
  h.post (Posted.refl s).finishWaiting
omit h in
theorem Quiet.returnSources {t} : Quiet s (s.returnSources t) := by
  unfold State.returnSources
  exact Quiet.icxChange (Quiet.foldlOn id (Quiet.refl s).completeAllOf fun h => h.makePending)
theorem SameTick.returnSources {t} : SameTick s₀ (s.returnSources t) := h.quiet Quiet.returnSources
/-- A change of a frame that keeps its tick. -/
theorem SameTick.modFrame {tick f} (hf : ∀ x, (f x).tick = x.tick) : SameTick s₀ (s.modFrame tick f) :=
  h.setFrames (by
    rw [List.getLast?_map, Option.map_map]
    refine congrArg (fun g => s.newest.map g) (funext fun x => ?_)
    dsimp only [Function.comp]
    split
    · exact hf x
    · rfl)

/-! ### Pins and Weevil engines -/

theorem SameTick.putPin {n b} : SameTick s₀ (s.putPin n b) := h.update
theorem SameTick.setPin {n b} : SameTick s₀ (s.setPin n b) := h.putPin.update
theorem SameTick.modWvPin {n f} : SameTick s₀ (s.modWvPin n f) := h.update
theorem SameTick.setWvPin {n b} : SameTick s₀ (s.setWvPin n b) := branch h h.setPin.modWvPin
theorem SameTick.modWv {r f} : SameTick s₀ (s.modWv r f) := h.update
theorem SameTick.modEngine {e f} : SameTick s₀ (s.modEngine e f) := h.update
theorem SameTick.stopEngine {e} : SameTick s₀ (s.stopEngine e) := h.modEngine
theorem SameTick.setDriven {n} : SameTick s₀ (s.setDriven n) := h.modWvPin
theorem SameTick.movePin {n} : SameTick s₀ (s.movePin n) := h.setDriven.setWvPin
theorem SameTick.drive {r} : SameTick s₀ (s.drive r) := h.foldl fun h => h.movePin
theorem SameTick.driveAll : SameTick s₀ s.driveAll :=
  (h.foldl fun h => h.drive).foldl fun h => branch h.modWvPin.setWvPin h

/-! ### The journal, the units and their tests -/

theorem SameTick.retrain : SameTick s₀ s.retrain := branch h.count.update h
theorem SameTick.writeTable {key bank off bs} : SameTick s₀ (s.writeTable key bank off bs) := h.update
theorem SameTick.program {j} : SameTick s₀ (s.program j) :=
  branch (branch h.update h.count) (branch h h.update)
theorem SameTick.journal {type body note} : SameTick s₀ (s.journal type body note) := h.program
theorem SameTick.journalOpaque {type note} : SameTick s₀ (s.journalOpaque type note) := h.journal
theorem SameTick.faultRecord {r} : SameTick s₀ (s.faultRecord r) := h.update.journal
theorem SameTick.journalMap : SameTick s₀ s.journalMap := h.journalOpaque
theorem SameTick.staleSubsts {p} : SameTick s₀ (s.staleSubsts p) := h.update
theorem SameTick.setUnit {cls u v} : SameTick s₀ (s.setUnit cls u v) :=
  branch h.update (branch h.update.staleSubsts h.update).journalMap
theorem SameTick.setHolder {cls r u} : SameTick s₀ (s.setHolder cls r u) := h.staleSubsts.update
theorem SameTick.setEpoch {cls r e} : SameTick s₀ (s.setEpoch cls r e) := h.update
theorem SameTick.bumpEpoch {cls r} : SameTick s₀ (s.bumpEpoch cls r) := h.setEpoch
theorem SameTick.setLost {cls r b} : SameTick s₀ (s.setLost cls r b) := h.update
theorem SameTick.setKept {r b} : SameTick s₀ (s.setKept r b) := h.update
theorem SameTick.setNoSpare {cls r b} : SameTick s₀ (s.setNoSpare cls r b) := h.update.setFld above_tick
omit h in
theorem verdictCount_apart (verdict : Nat) : (verdictCount verdict).addr < 0x104 ∨ 0x114 < (verdictCount verdict).addr := by
  match verdict with
  | 0 => decide
  | 1 => decide
  | n + 2 => exact .inr (show 0x114 < Reg.SPR_ST_INCOMPLETE by decide)
theorem SameTick.endTestWith {t verdict patterns after} : SameTick s₀ (s.endTestWith t verdict patterns after) := by
  rw [endTestWith_eq]
  refine SameTick.finishWaiting ?_
  have h1 : SameTick s₀ (testCounted s t verdict patterns) := by
    unfold testCounted showTest
    split
    · exact (h.update.setReg.setReg.setFld).count (verdictCount_apart verdict)
    · exact (h.update.setReg.setReg.setFld).count (verdictCount_apart verdict)
  have h2 : SameTick s₀ ((testCounted s t verdict patterns).setUnit t.cls t.unit after) := h1.setUnit
  exact branch (branch h2.faultRecord h2) h2.faultRecord
theorem SameTick.setQueue {l} : SameTick s₀ (s.setQueue l) := h.update.setFlag
theorem SameTick.pushSubst {q} : SameTick s₀ (s.pushSubst q) := h.setQueue
theorem SameTick.queueSubst {q new} : SameTick s₀ (s.queueSubst q new) := by
  unfold State.queueSubst
  refine SameTick.pushSubst ?_
  split
  · exact h.setUnit
  · exact h
theorem SameTick.giveBack {q} : SameTick s₀ (s.giveBack q) := by
  unfold State.giveBack
  split
  · exact branch h.setUnit h
  · exact h
theorem SameTick.dropTest {t} : SameTick s₀ (s.dropTest t) :=
  (h.setQueue.foldl fun h => h.giveBack).endTestWith
theorem SameTick.chooseSpare {q} : SameTick s₀ (s.chooseSpare q) := by
  unfold State.chooseSpare
  split
  · exact h.queueSubst
  · split
    · exact h.free.endTestWith.queueSubst
    · refine SameTick.queueSubst ?_
      split
      · exact h.dropTest
      · exact h
theorem SameTick.seekSpare {cls r old why} : SameTick s₀ (s.seekSpare cls r old why) :=
  (h.setQueue.foldl fun h => h.giveBack).chooseSpare.foldl fun h => h.chooseSpare
theorem SameTick.replaceChosen {cls u} : SameTick s₀ (s.replaceChosen cls u) := by
  unfold State.replaceChosen
  refine h.setQueue.foldl fun h => ?_
  split
  · split
    · exact h.dropTest
    · exact h
  · exact h.chooseSpare
theorem SameTick.testGone {cls u} : SameTick s₀ (s.testGone cls u) :=
  h.update.foldl fun h => h.finishWaiting
theorem SameTick.changeWhy {q why} : SameTick s₀ (s.changeWhy q why) := h.update
theorem SameTick.retireTested {cls u} : SameTick s₀ (s.retireTested cls u) := by
  unfold State.retireTested
  split
  · exact h.free.endTestWith.count
  · exact h.setUnit
theorem SameTick.retire {cls u source} : SameTick s₀ (s.retire cls u source) := by
  unfold State.retire
  dsimp only
  split
  · exact h
  · exact h.setUnit
  · exact h.retireTested
  · split
    · exact h.setUnit.replaceChosen
    · split
      · exact h.setUnit.seekSpare
      · split
        · exact h.setUnit.testGone.changeWhy
        · exact branch h.setUnit h.setUnit.seekSpare
theorem SameTick.setTests {l} : SameTick s₀ (s.setTests l) := h.update
theorem SameTick.abortTest {t} : SameTick s₀ (s.abortTest t) := by
  unfold State.abortTest
  dsimp only
  split
  · split
    · exact branch h.free.endTestWith.queueSubst h.free.endTestWith
    · exact h.free.endTestWith
  · exact h.dropTest
theorem SameTick.abortRunning : SameTick s₀ s.abortRunning := h.foldl fun h => h.abortTest

/-! ### The Coachmen -/

theorem SameTick.putBank {bank st} : SameTick s₀ (s.putBank bank st) := branch h.update h.update
theorem SameTick.journalBanks : SameTick s₀ s.journalBanks := h.journalOpaque
theorem SameTick.setBank {bank st} : SameTick s₀ (s.setBank bank st) := h.putBank.journalBanks
theorem SameTick.bootCoach {u bank} : SameTick s₀ (s.bootCoach u bank) := branch h.update h.update
theorem SameTick.restartStandby {u why} : SameTick s₀ (s.restartStandby u why) := h.bootCoach.update
theorem SameTick.swapCoaches : SameTick s₀ s.swapCoaches :=
  have h1 := h.setFld.setHolder.bumpEpoch
  branch h1.setUnit h1.setUnit.setHolder.bumpEpoch.setUnit
theorem SameTick.restartFormer {old} : SameTick s₀ (s.restartFormer old) := branch h h.restartStandby
theorem SameTick.afterTakeOver {old expired x3} : SameTick s₀ (s.afterTakeOver old expired x3) := by
  unfold State.afterTakeOver
  split
  · exact
      have h1 := h.update.setBank.finishWaiting
      branch h1.restartFormer h1
  · exact h.update.setBank.restartFormer
  · exact h.restartFormer
theorem SameTick.showItem {item b} : SameTick s₀ (s.showItem item b) := h.setFld
theorem SameTick.rerunMailbox : SameTick s₀ s.rerunMailbox :=
  have h1 := branch h.update.setFld h
  branch ((branch h1.showItem.update h1).setTests.setRing) h
theorem SameTick.takeOver {why} : SameTick s₀ (s.takeOver why) :=
  (branch h.rerunMailbox h).abortRunning.swapCoaches.update.event.returnSources.afterTakeOver
theorem SameTick.requestTakeOver {why} : SameTick s₀ (s.requestTakeOver why) := branch h.update h.takeOver
theorem SameTick.askTakeOver {why} : SameTick s₀ (s.askTakeOver why) :=
  branch h (branch h.update (branch h h.requestTakeOver))
theorem SameTick.standbyExpired {u} : SameTick s₀ (s.standbyExpired u) := by
  unfold State.standbyExpired
  split
  · extract_lets
    split
    · exact h.update.finishWaiting
    · exact h.update.finishWaiting
    · exact h.update.finishWaiting
    · exact h.update
  · split
    · exact h
    · exact h.update
    · exact h.restartStandby.update
    · exact h.restartStandby
theorem SameTick.coachGone {u} : SameTick s₀ (s.coachGone u) :=
  branch h.update.askTakeOver h.standbyExpired

/-! ### Faults and substitutions -/

theorem SameTick.setBucket {src inst l} : SameTick s₀ (s.setBucket src inst l) := h.update
theorem SameTick.laneCheck : SameTick s₀ s.laneCheck := by
  unfold State.laneCheck
  extract_lets
  split
  · exact h.setFld.setUnit.retrain.update
  · exact h
theorem SameTick.retireLoop {u} : SameTick s₀ (s.retireLoop u) :=
  have h1 := h.retireTested.setFld
  branch h1.setFlag h1
theorem SameTick.leftWithout {cls r u source} : SameTick s₀ (s.leftWithout cls r u source) :=
  h.event.faultRecord.setNoSpare
theorem SameTick.coachLost {u source} : SameTick s₀ (s.coachLost u source) := h.leftWithout.setLost
theorem SameTick.spareRow {n} : SameTick s₀ (s.spareRow n) :=
  branch h (branch h.pushSubst h.setUnit.pushSubst)
theorem SameTick.lastingEffect {src inst} : SameTick s₀ (s.lastingEffect src inst) := by
  unfold State.lastingEffect
  extract_lets cls u
  have hunit : SameTick s₀ (if cls ≤ 8 then s.retire cls u src else if cls = 9 then s.retireLoop u
      else if cls = 10 then ((s.retireTested 10 u).coachLost u src).coachGone u else s) :=
    branch h.retire (branch h.retireLoop (branch h.retireTested.coachLost.coachGone h))
  split
  · exact h.spareRow
  · exact h.retireTested.setFld
  · exact h.laneCheck
  · exact h.retireTested
  · exact hunit
  · exact hunit
  · exact hunit
  · exact hunit
  · exact hunit
  · exact hunit
  · exact h
theorem SameTick.lasting {src inst unit} : SameTick s₀ (s.lasting src inst unit) :=
  ((branch h.event h.event.faultRecord).count (f := .FLT_SRC_LAST_COUNT (src - 1)) above_tick).lastingEffect
theorem SameTick.chargeFor {src inst unit} : SameTick s₀ (s.chargeFor src inst unit) :=
  have h1 := h.count (f := .FLT_SRC_EVT_COUNT (src - 1)) (n := 1) above_tick
  branch h1 (branch h1.setBucket.lasting h1.setBucket)
theorem SameTick.charge {src inst} : SameTick s₀ (s.charge src inst) := h.chargeFor
theorem SameTick.chargeMemory {inst} : SameTick s₀ (s.chargeMemory inst) := h.charge
theorem SameTick.rowAlone {n source} : SameTick s₀ (s.rowAlone n source) := h.leftWithout.chargeMemory
theorem SameTick.chargeRow {n} : SameTick s₀ (s.chargeRow n) := h.charge
theorem SameTick.chargeSram {e} : SameTick s₀ (s.chargeSram e) :=
  (h.foldl fun h => h.chargeRow).foldl fun h => h.raiseFast.chargeMemory
theorem SameTick.applyNewHolder {q u e} : SameTick s₀ (s.applyNewHolder q u e) := by
  unfold State.applyNewHolder
  extract_lets s0 s1 s2 old s3 s4 s5 s6
  have h2 : SameTick s₀ s2 := (branch h.setKept h).setHolder.setEpoch.setLost.setNoSpare.setUnit
  have h3 : SameTick s₀ s3 := by
    dsimp only [s3]
    split
    · exact h2
    · split
      · exact h2.setUnit
      · exact h2.setUnit
      · exact branch h2.setUnit.setTests.setReg h2.setUnit
  have h6 : SameTick s₀ s6 := (branch h3 h3.event).faultRecord.journalMap.count above_tick
  split
  · exact h6.finishWaiting
  · exact h6
theorem SameTick.applyNoSpare {q} : SameTick s₀ (s.applyNoSpare q) :=
  branch h.leftWithout.setKept.journalMap h.leftWithout.setLost
theorem SameTick.applySubst {q} : SameTick s₀ (s.applySubst q) := by
  unfold State.applySubst
  split
  · exact branch h.count h.rowAlone
  · split
    · split
      · exact h.finishWaiting
      · exact h.giveBack.testGone
      · exact h.giveBack
    · split
      · exact h.applyNewHolder
      · exact h.applyNoSpare
theorem SameTick.coupleSpares {t first} : SameTick s₀ (s.coupleSpares t first) :=
  h.setQueue.foldl fun h => h.applySubst

/-! ### Outputs, frames and calibration -/

theorem SameTick.setTrigOut {k t} : SameTick s₀ (s.setTrigOut k t) := h.update
theorem SameTick.queueTrig {k ofs} : SameTick s₀ (s.queueTrig k ofs) := h.setTrigOut
theorem SameTick.settleFireflies : SameTick s₀ s.settleFireflies := h.foldl fun h => branch h h.setPin
theorem SameTick.showLanes {l} : SameTick s₀ (s.showLanes l) := h.setFld.setFlag
theorem SameTick.settleTrigs : SameTick s₀ s.settleTrigs := h.foldl fun h => branch h h.setPin
theorem SameTick.edgeTrigs {n} : SameTick s₀ (s.edgeTrigs n) := h.foldl fun h => branch h.queueTrig h
theorem SameTick.claimFrame {n tick} : SameTick s₀ (s.claimFrame n tick) := branch h h.setRing
theorem SameTick.dropClaims : SameTick s₀ s.dropClaims := h.foldl fun h => branch h h.setClaims
theorem SameTick.claimOutputs {tick} : SameTick s₀ (s.claimOutputs tick) :=
  h.dropClaims.foldl fun h => branch (branch h.claimFrame.claimFrame h.setClaims) h
theorem SameTick.setCalEntry {item index v} : SameTick s₀ (s.setCalEntry item index v) := h.update
theorem SameTick.applyEntries {es} : SameTick s₀ (s.applyEntries es) := h.foldl fun h => h.setCalEntry
theorem SameTick.moveEntries {es} : SameTick s₀ (s.moveEntries es) := h.foldl fun h => h.setCalEntry
theorem SameTick.addDrift {x y kind} : SameTick s₀ (s.addDrift x y kind) := branch h.update.setFld h
theorem SameTick.addDrifts {ps} : SameTick s₀ (s.addDrifts ps) := h.foldl fun h => h.addDrift
theorem SameTick.copyBank {key} : SameTick s₀ (s.copyBank key) := h.update
theorem SameTick.writeFlat {a g} : SameTick s₀ (s.writeFlat a g) := by
  have h1 {k l} : SameTick s₀ ((s.free.2.copyBank k).copyBank l) := h.free.copyBank.copyBank
  unfold State.writeFlat
  refine (foldl (foldl h1 fun h => foldl h fun {t k} h => ?_) fun h => h.writeTable).setReg.update
  split
  · exact h.writeTable
  · exact h
theorem SameTick.endFlat {a st result} : SameTick s₀ (s.endFlat a st result) :=
  h.update.setFld.finishWaiting
theorem SameTick.endCalRun {r st} : SameTick s₀ (s.endCalRun r st) := h.update.setFld.finishWaiting
theorem SameTick.stopCalRun : SameTick s₀ s.stopCalRun := by
  unfold State.stopCalRun
  split
  · exact branch h.endCalRun h
  · exact h
theorem SameTick.settleFlat : SameTick s₀ s.settleFlat := by
  unfold State.settleFlat
  split
  · exact h
  · split
    · exact h
    · exact branch h.writeFlat.endFlat h

/-! ### Pulses and tracks -/

theorem SameTick.moveDuty {window ps} : SameTick s₀ (s.moveDuty window ps) := h.foldl fun h => h.update
theorem SameTick.commitPlan {x d tick x4} : SameTick s₀ (s.commitPlan x d tick x4).1 := by
  unfold State.commitPlan
  split
  · exact h.update
  · exact h.moveDuty.update.count
  · exact h
theorem SameTick.protect {id r} : SameTick s₀ (s.protect id r) := h.update
theorem SameTick.noteFired {id r tick valves} : SameTick s₀ (s.noteFired id r tick valves) := h.update
theorem SameTick.pastConflicts {ds p} : SameTick s₀ (pastConflicts (s, ds) p).1 := by
  unfold Machine.pastConflicts
  dsimp only
  split
  · exact h
  · exact h.count
theorem SameTick.noteQueued {d lastFire} : SameTick s₀ (s.noteQueued d lastFire) := by
  unfold State.noteQueued
  split
  · exact h
  · exact h.update
theorem SameTick.fireDecision {v tick r ds id} : SameTick s₀ (fireDecision v tick r (s, ds) id).1 := by
  have hplans {s : State} {d tick} {l : List (Valve × Plan)} (h : SameTick s₀ s) :
      SameTick s₀ (l.foldl (fun (a : State × List Time) p =>
        ((a.1.commitPlan p.1 d tick p.2).1, a.2 ++ (a.1.commitPlan p.1 d tick p.2).2.toList)) (s, [])).1 :=
    foldlOn Prod.fst h fun h => h.commitPlan
  unfold Machine.fireDecision
  split
  · exact h
  · dsimp only
    split
    · exact h.count.protect
    · split
      · exact h.count.count.count.count.count.protect
      · split
        · exact branch h.count.count.count.count.protect h.count.count.count.count
        · exact (hplans h.count.count.count.count).noteFired.noteQueued
theorem SameTick.queueTick {v noFire tick ds} : SameTick s₀ (s.queueTick v noFire tick ds).1 :=
  foldlOn Prod.fst (foldlOn Prod.fst h.update fun h => h.pastConflicts) fun h => h.fireDecision
theorem SameTick.modTrack {i f} : SameTick s₀ (s.modTrack i f) := h.update
theorem SameTick.freeTrack {i} : SameTick s₀ (s.freeTrack i) := h.modTrack
theorem SameTick.takeId : SameTick s₀ s.takeId.2 := h.update
theorem SameTick.addUntracked {tick u} : SameTick s₀ (s.addUntracked tick u) := by
  unfold State.addUntracked
  split
  · exact h.modFrame fun _ => rfl
  · exact h.update
theorem SameTick.carryOut {v f ds0} : SameTick s₀ (s.carryOut v f ds0) := by
  refine foldl (queueTick (foldl h.free fun {t d} h => ?_)) fun h => h.hand.foldl fun h => h.hand
  split
  · exact h.modTrack
  · exact h
theorem SameTick.endTrack {tick i} : SameTick s₀ (s.endTrack tick i) :=
  branch h.takeId.addUntracked.freeTrack (branch (branch h.freeTrack h.modTrack) h)
theorem SameTick.contextErrors {tick contexts} : SameTick s₀ (s.contextErrors tick contexts) :=
  h.foldl fun h => branch h.endTrack.raiseFast.charge h
theorem SameTick.sramErrors {tick e} : SameTick s₀ (s.sramErrors tick e) := h.contextErrors.chargeSram
theorem SameTick.flushTracks {tick tag service all} : SameTick s₀ (s.flushTracks tick tag service all) :=
  h.update.foldl fun h => h.hand
theorem SameTick.settleDrain : SameTick s₀ s.settleDrain := by
  unfold State.settleDrain
  split
  · exact h
  · extract_lets t _ s1
    have h1 : SameTick s₀ s1 := branch h h.flushTracks.update
    exact branch h1.update.setFlag h1

/-! ### Programs of Weevil roles -/

theorem SameTick.feed {r} : SameTick s₀ (s.feed r) := h.modEngine.modWv
theorem SameTick.replay {r} : SameTick s₀ (s.replay r) := h.modEngine.modWv.count.feed
theorem SameTick.ejSafe : SameTick s₀ s.ejSafe := h.raiseFast
theorem SameTick.startProgram {r} : SameTick s₀ (s.startProgram r) := h.modWv.modEngine.drive
theorem SameTick.forceSwap {r} : SameTick s₀ (s.forceSwap r) :=
  h.count.modEngine.modWv.startProgram.ejSafe.replay
theorem SameTick.clearInputs {r} : SameTick s₀ (s.clearInputs r) := h.foldl fun h => branch h h.modWvPin
theorem SameTick.moveRole {r forced} : SameTick s₀ (s.moveRole r forced) :=
  (branch h.modWv.modEngine.modEngine.modWv h.modWv.modEngine.modEngine.modWv.startProgram).replay
theorem SameTick.forceNow {r} : SameTick s₀ (s.forceNow r) :=
  branch h.count.modWv.moveRole.ejSafe h.forceSwap
theorem SameTick.startNow {r} : SameTick s₀ (s.startNow r) :=
  branch h.modWv.modWv.moveRole h.modWv.startProgram
theorem SameTick.swapProgram {r force} : SameTick s₀ (s.swapProgram r force) :=
  branch (branch h.forceNow h.forceNow.clearInputs) (branch (branch h.forceNow.raiseFast
    h.forceNow.raiseFast.clearInputs) (branch (branch h.startNow h.startNow.clearInputs) h.modWv))

/-! ### Groups and commits -/

theorem SameTick.setGroup {g l} : SameTick s₀ (s.setGroup g l) := h.update
theorem SameTick.toggleBank {key} : SameTick s₀ (s.toggleBank key) := h.update
theorem SameTick.hostSetsMode {m} : SameTick s₀ (s.hostSetsMode m) := branch h.update h.update.setFld
theorem SameTick.coldHold {on} : SameTick s₀ (s.coldHold on) :=
  branch h.setFld.update (branch h h.setFlag.setFld.update)
theorem SameTick.acceptCommit {q d target} : SameTick s₀ (s.acceptCommit q d target) :=
  branch h.finishHead h.setGroup.update.nextHead
theorem SameTick.tryCommit {q d} : SameTick s₀ (s.tryCommit q d) := by
  unfold State.tryCommit
  split
  · exact h.finishHead
  · exact branch h.startHead h.acceptCommit
theorem SameTick.retryCommits : SameTick s₀ s.retryCommits := by
  unfold State.retryCommits
  refine h.foldl fun h => ?_
  split
  · exact branch h.tryCommit h
  · exact h

/-! ### The steps of the edge -/

theorem SameTick.settleDeskew {before} : SameTick s₀ (s.settleDeskew before) :=
  branch h (branch h.setFlag.free.showLanes h.setFlag.showLanes)
theorem SameTick.takeSetting {n a v} : SameTick s₀ (s.takeSetting n a v) :=
  (branch h.plainWriteReg.update h.plainWriteReg.update).settleDeskew
theorem SameTick.applyItem {n x2} : SameTick s₀ (s.applyItem n x2) := by
  unfold State.applyItem
  split
  · exact h.takeSetting
  · exact h.toggleBank.update
  · exact h.hostSetsMode
theorem SameTick.takeGroup {n edge mode min kept finished items a} :
    SameTick s₀ (EdgeGroups.take n edge mode min ⟨s, kept, finished, items⟩ a).state := by
  unfold EdgeGroups.take
  split
  · exact h
  · dsimp only
    split
    · exact h.foldl fun h => h.applyItem
    · exact h
theorem SameTick.hostGroups {n mode min} : SameTick s₀ (s.hostGroups n mode min).state := by
  have hr : SameTick s₀ (s.accepted.foldl (EdgeGroups.take n s.tb mode min) ⟨s, [], [], []⟩).state :=
    foldlOn EdgeGroups.state h fun h => h.takeGroup
  unfold State.hostGroups
  extract_lets r _ t same late
  have ht : SameTick s₀ t := SameTick.update (s := r.state) hr
  exact (branch ht (ht.setSeq (x := { t.seq with div := 0 }) rfl)).count (f := .HIF_CPL_LATE_LATE)
theorem SameTick.completeGroup {f} : SameTick s₀ (s.completeGroup f) := h.complete
theorem SameTick.completeGroups {l} : SameTick s₀ (s.completeGroups l) := by
  induction l generalizing s with
  | nil => exact h
  | cons f rest ih => exact ih h.update.completeGroup.update
theorem SameTick.formDigest : SameTick s₀ s.formDigest := h.update.setReg
theorem SameTick.checkDigest : SameTick s₀ s.checkDigest := by
  unfold State.checkDigest
  split
  · exact h
  · exact branch h.setFlag h.setFlag.event
theorem SameTick.applyThrottle {on} : SameTick s₀ (s.applyThrottle on) :=
  have h1 := (h.setSeq (x := { s.seq with throttle := on }) rfl).setThrottled (b := on)
  branch h1.setFlag h1.setFlag.setFlag
theorem SameTick.applyMgmt {n x2} : SameTick s₀ (s.applyMgmt n x2) := by
  unfold State.applyMgmt
  split
  · exact h.update
  · exact (h.foldl fun h => h.setReg above_tick).update
  · exact branch h.moveEntries h.applyEntries
  · exact h.update.setFld
  · exact h.addDrifts
  · exact h.applyThrottle
  · exact h.coldHold
theorem SameTick.mgmtChanges {n items} : SameTick s₀ (s.mgmtChanges n items).1 :=
  h.update.foldl fun h => h.applyMgmt
theorem SameTick.throttleEvents {floor changes} : SameTick s₀ (s.throttleEvents floor changes) :=
  h.foldl fun h => h.event
theorem SameTick.loseBanks {n before} : SameTick s₀ (s.loseBanks n before) := h.foldl fun h => h.endTrack
theorem SameTick.haltLost {r} : SameTick s₀ (s.haltLost r) := h.stopEngine.modWv.drive.raiseFast.ejSafe
theorem SameTick.coupleWeevil {before r} : SameTick s₀ (State.coupleWeevil before s r) :=
  branch (branch h h.haltLost) (branch h (branch h.moveRole h.modWv))
theorem SameTick.setShared {n b} : SameTick s₀ (s.setShared n b) := h.setFlag above_tick
theorem SameTick.beginShare {n} : SameTick s₀ (s.beginShare n) := branch (branch h.setUnit h).setShared h
theorem SameTick.endShare {n} : SameTick s₀ (s.endShare n) := by
  unfold State.endShare
  split
  · extract_lets
    split
    · exact h.setShared
    · split
      · exact h.setShared.setHolder.setUnit
      · exact h.setShared.applyNoSpare
  · exact h
theorem SameTick.coupleShares : SameTick s₀ s.coupleShares :=
  (h.foldl fun h => h.beginShare).foldl fun h => h.endShare
theorem SameTick.coupleCamera {n} : SameTick s₀ (s.coupleCamera n) :=
  branch h (branch (h.setFlag (f := .CSX_CAM_CFG_EN (n - 1)) above_tick).event (branch h.setShared h))
theorem SameTick.showPipe {n} : SameTick s₀ (s.showPipe n) := h.setFld above_tick
theorem SameTick.stepPipe {before n} : SameTick s₀ (State.stepPipe before s n) :=
  branch h.showPipe.bumpEpoch h.showPipe
theorem SameTick.coupleMap {first} : SameTick s₀ (s.coupleMap first) :=
  ((h.coupleSpares.coupleShares.foldl fun h => h.coupleCamera).foldl fun h => h.stepPipe).foldl fun h =>
    h.coupleWeevil
theorem SameTick.settleLoss {f} : SameTick s₀ (s.settleLoss f) := h.carryOut.modFrame fun _ => rfl
theorem SameTick.settleLosses : SameTick s₀ s.settleLosses := h.foldl fun h => h.settleLoss
theorem SameTick.freeDrained : SameTick s₀ s.freeDrained := h.foldl fun h => h.freeTrack
theorem SameTick.showNs {f v} (hf : f.addr < 0x104 ∨ 0x114 < f.addr := by decide) : SameTick s₀ (s.showNs f v) :=
  branch (h.setFld hf) (h.free.setFld hf)
theorem SameTick.changeMode {n prevMode} : SameTick s₀ (s.changeMode n prevMode) :=
  branch h.update.setFlag (branch h.flushTracks.stopCalRun.update h)
theorem SameTick.sampleLive : SameTick s₀ s.sampleLive := h.setFld.setFld
theorem SameTick.swapPrograms {items} : SameTick s₀ (s.swapPrograms items) :=
  h.foldl fun h => branch h h.swapProgram
theorem SameTick.settlePins : SameTick s₀ s.settlePins := h.settleFireflies.settleTrigs.driveAll
theorem SameTick.edgeTakeOver : SameTick s₀ s.edgeTakeOver := by
  unfold State.edgeTakeOver
  split
  · exact branch h.takeOver h
  · exact h
theorem SameTick.freeFlat : SameTick s₀ s.freeFlat := branch h.settleFlat.retryCommits h.settleFlat
theorem SameTick.initMode : SameTick s₀ s.initMode := branch (h.setSeq (x := { s.seq with fresh := false }) rfl).hostSetsMode h
theorem SameTick.setLimits {prevMode prevMin} : SameTick s₀ (s.setLimits prevMode prevMin) := by
  have h0 : SameTick s₀ { s with seq := { s.seq with tmin := s.effectiveMin prevMode prevMin } } := h.setSeq rfl
  exact ((h0.showNs (f := .HIF_TMIN_TMIN)).showNs (f := .HIF_EXP_LIMIT_LIMIT)).setClamped
theorem SameTick.dropFrames : SameTick s₀ s.dropFrames := by
  refine h.setFrames ?_
  unfold State.newest
  rcases List.eq_nil_or_concat s.frames with hf | ⟨l, f, hf⟩
  · rw [hf]; rfl
  · rw [hf]
    simp [List.filter_append]
end

/-! ## The edge -/

/-- `t` shows the edge of tick `n` that came in `s`. -/
structure Numbered (s : State) (n : Nat) (t : State) : Prop where
  now : t.now = s.now
  tb : t.tb = s.tb
  first : t.seq.first = true
  tick : t.wide Reg.HIF_TICK_LO = n % 2 ^ 64
  time : t.wide Reg.HIF_EDGE_TIME_LO = s.tb.toNat % 2 ^ 64

theorem SameTick.wide {s t : State} (h : SameTick s t) {a : Nat} (hl : 0x104 < a) (hu : a + 4 ≤ 0x114) :
    t.wide a = s.wide a := by
  rw [State.wide, State.wide, h.regs a hl (by omega), h.regs (a + 4) (by omega) hu]

/-- What keeps the last edge keeps its number and its time. -/
theorem Numbered.same {s t u : State} {n : Nat} (h : Numbered s n t) (hu : SameTick t u) : Numbered s n u :=
  ⟨hu.now.trans h.now, hu.tb.trans h.tb, hu.first.trans h.first, (hu.wide (by decide) (by decide)).trans h.tick,
    (hu.wide (by decide) (by decide)).trans h.time⟩

/-- A state with another state of the sequencer. -/
def withSeq (s : State) (x : Sequencer) : State := { s with seq := x }

theorem now_withSeq (s : State) (x : Sequencer) : (withSeq s x).now = s.now := rfl

theorem tb_withSeq (s : State) (x : Sequencer) : (withSeq s x).tb = s.tb := rfl

theorem reg_withSeq (s : State) (x : Sequencer) (a : Nat) : (withSeq s x).reg a = s.reg a := rfl

/-- The edge changes its two numbers and the sequencer. -/
theorem number_eq (s : State) (n : Nat) : ∃ x : Sequencer, x.first = true ∧
    s.number n = withSeq ((s.setWide Reg.HIF_TICK_LO n).setWide Reg.HIF_EDGE_TIME_LO s.tb.toNat) x :=
  ⟨_, rfl, rfl⟩

/-- The edge takes its number and its time. -/
theorem numbered_number {s t : State} (h : SameTick s t) (n : Nat) : Numbered s n (t.number n) := by
  obtain ⟨x, hx, he⟩ := number_eq t n
  rw [he]
  refine ⟨?_, ?_, hx, ?_, ?_⟩
  · rw [now_withSeq, State.setWide_now, State.setWide_now, h.now]
  · rw [tb_withSeq, State.setWide_tb, State.setWide_tb, h.tb]
  · rw [← wide_setWide t Reg.HIF_TICK_LO n, State.wide, State.wide, reg_withSeq, reg_withSeq,
      reg_setWide_ne _ _ (by decide : Reg.HIF_TICK_LO ≠ Reg.HIF_EDGE_TIME_LO) (by decide),
      reg_setWide_ne _ _ (by decide : Reg.HIF_TICK_LO + 4 ≠ Reg.HIF_EDGE_TIME_LO) (by decide)]
  · rw [← h.tb, ← wide_setWide (t.setWide Reg.HIF_TICK_LO n), State.wide, reg_withSeq, reg_withSeq, State.wide]

/-- RUNNING set to 1 reads 1, and the edge stays as it was. -/
theorem Numbered.setRunning {s t : State} {n : Nat} (h : Numbered s n t) :
    Numbered s n (t.setFlag .HIF_STAT_RUNNING true) ∧ (t.setFlag .HIF_STAT_RUNNING true).running = true := by
  refine ⟨⟨h.now, h.tb, h.first, ?_, ?_⟩, flag_setFlag_self t _ true rfl (by decide)⟩
  · rw [← h.tick, State.wide, State.wide, reg_setFlag_ne _ _ (by decide), reg_setFlag_ne _ _ (by decide)]
  · rw [← h.time, State.wide, State.wide, reg_setFlag_ne _ _ (by decide), reg_setFlag_ne _ _ (by decide)]

/-- A frame that begins is the newest, and the edge stays as it was. -/
theorem Numbered.beginFrame {s t : State} {n : Nat} (h : Numbered s n t) (f : Frame) :
    Numbered s n (t.beginFrame f) ∧ (t.beginFrame f).running = t.running ∧ (t.beginFrame f).newest = some f :=
  ⟨⟨h.now, h.tb, h.first, h.tick, h.time⟩, rfl, List.getLast?_concat⟩

/-- A tick below 2^48 reads back from its two halves. -/
theorem lastTick_eq_wide {s : State} {n : Nat} (h : s.wide Reg.HIF_TICK_LO = n % 2 ^ 64) (hn : n < 2 ^ 48) :
    s.lastTick = n := by
  have hlo : s.fld .HIF_TICK_LO_TICK_LO = (s.reg Reg.HIF_TICK_LO).toNat := by
    unfold State.fld getBits
    have := (s.reg Reg.HIF_TICK_LO).isLt
    simp only [Nat.pow_zero, Nat.div_one]
    exact Nat.mod_eq_of_lt this
  have hhi : s.fld .HIF_TICK_HI_TICK_HI = (s.reg (Reg.HIF_TICK_LO + 4)).toNat % 2 ^ 16 := by
    unfold State.fld getBits
    simp only [Nat.pow_zero, Nat.div_one]
  unfold State.lastTick
  unfold State.wide at h
  have := (s.reg Reg.HIF_TICK_LO).isLt
  rw [hlo, hhi]
  omega

/-- The edge that the tick sequencer takes shows its number and its time, RUNNING reads 1, and the newest frame is its own. -/
theorem takeEdge_numbered (s : State) : Numbered s s.nextTick s.takeEdge ∧ s.takeEdge.running = true ∧
    s.takeEdge.newest.map (·.tick) = some s.nextTick := by
  unfold State.takeEdge
  extract_lets n first s1 prevMode prevMin was g applied s2
  have h1 : Numbered s n s1 :=
    (numbered_number (SameTick.refl s).settleLosses n).same (SameTick.refl _).freeDrained.initMode
  have h2 : SameTick s1 s2 :=
    have hg : SameTick s1 g.state := (SameTick.refl s1).hostGroups
    .branch hg.formDigest hg
  have h3 : SameTick s1 (s2.mgmtChanges n g.items).1 := h2.mgmtChanges
  split
  next s3 governed hm =>
    rw [hm] at h3
    extract_lets change s4 s5 s6 moved s7 s8 s9 s10
    have hl := h3.setLimits (prevMode := prevMode) (prevMin := prevMin)
    obtain ⟨hrun, hr⟩ := (h1.same (hl.setFlag (f := .HIF_MODE_TRANSITION) (b := change))).setRunning
    have h4 := (SameTick.refl (((s3.setLimits prevMode prevMin).setFlag .HIF_MODE_TRANSITION change).setFlag
      .HIF_STAT_RUNNING true)).throttleEvents (floor := s3.throttleFloor (s3.minTick prevMode prevMin))
      (changes := s2.throttleChanges n)
    have h6 : SameTick _ s6 := (SameTick.branch h4.checkDigest h4).coupleMap.swapPrograms.edgeTakeOver
    have h8 : SameTick _ (s8.edgeTrigs n) := (SameTick.branch h6.setFld h6).changeMode.sampleLive.edgeTrigs
    obtain ⟨hnum, hrun9, hnew⟩ := (hrun.same h8).beginFrame
      (s8.newFrame n prevMode (s8.minTick prevMode prevMin) governed change)
    have h10 : SameTick s9 (s10.completeGroups g.finished).settleDrain :=
      (SameTick.refl s9).loseBanks.dropFrames.settlePins.claimOutputs.completeGroups.settleDrain
    exact ⟨hnum.same h10, h10.running.trans (hrun9.trans (h8.running.trans hr)),
      h10.newest.trans (congrArg (Option.map (·.tick)) hnew)⟩

/-- TICK_EDGE at an admitted candidate whose time has come. -/
theorem exec_tickEdge_of_due {s : State} {reads : MemoryStep} {t0 : Time} {u : State} (hu : u = s.advance reads.dt)
    (hd : u.seq.due = some t0) (ha : u.alive = true) (hr : u.run = true) (ht : u.tbRuns = true)
    (hc : reached u.tb t0 = true) : exec (.tickEdge reads) s = .next (
      if u.flag .RO_PIXSUP_STAT_READY && !u.edgesHeld then u.takeEdge.freeFlat.sramErrors u.nextTick reads.sram
      else u.holdEdge) := by
  subst hu
  refine congrArg Host.Outcome.next ?_
  rw [hd]
  dsimp only
  rw [ha, hr, ht, hc]
  rfl

/-- A counter that counts once, where the sequencer has changed: the counter, the other registers, the rest. -/
theorem count_withSeq (s : State) (x : Sequencer) (f : Fld) (h : f.lo ≤ f.hi) (h32 : f.hi < 32) :
    ((withSeq s x).count f 1).seq = x ∧
      ((withSeq s x).count f 1).fld f = min (2 ^ f.width - 1) (s.fld f + 1) ∧
      RegsKept s ((withSeq s x).count f 1) (· = f.addr) ∧
      (withSeq s x).count f 1 =
        { s with regs := ((withSeq s x).count f 1).regs, seq := ((withSeq s x).count f 1).seq } := by
  have hs : ((withSeq s x).count f 1).seq = x := State.count_seq _ _ _
  have ho : OnlyRegs (withSeq s x) ((withSeq s x).count f 1) := (OnlyRegs.refl _).setFld
  refine ⟨hs, fld_count_self (withSeq s x) f 1 h h32, fun a ha => reg_count_ne (withSeq s x) 1 ha, ?_⟩
  rw [hs]
  exact ho

/-- A held edge counts where it is held for, and no candidate stays. -/
theorem holdEdge_eq (s : State) : s.holdEdge =
    if s.flag .RO_PIXSUP_STAT_READY then (withSeq s { s.seq with due := none }).count .PLL_EDGE_HELD_VALUE 1
    else (withSeq s { s.seq with due := none }).count .RO_PIXSUP_STAT_EDGE_HELD 1 := by
  have hr : (withSeq s { s.seq with due := none }).flag .RO_PIXSUP_STAT_READY = s.flag .RO_PIXSUP_STAT_READY :=
    flag_congr rfl _
  rw [← hr]
  unfold State.holdEdge
  generalize hv : withSeq s { s.seq with due := none } = v
  change (if (!(withSeq s { s.seq with due := none }).flag .RO_PIXSUP_STAT_READY) = true then
    (withSeq s { s.seq with due := none }).count .RO_PIXSUP_STAT_EDGE_HELD 1
    else (withSeq s { s.seq with due := none }).count .PLL_EDGE_HELD_VALUE 1) = _
  rw [hv]
  cases v.flag .RO_PIXSUP_STAT_READY
  · exact (if_pos rfl).trans (if_neg Bool.false_ne_true).symm
  · exact (if_neg (by decide)).trans (if_pos rfl).symm

/-- Settles O11: nothing in the work of an edge but the edge itself writes its number, its time, RUNNING or the newest
frame (`SameTick`), and a held edge is one count. -/
theorem tickEdgeTakesItsNumberAndTime : Obligations.TickEdgeTakesItsNumberAndTime := by
  intro s reads t0 u hd ha hr ht hc
  have he := exec_tickEdge_of_due (s := s) (reads := reads) (u := u) rfl hd ha hr ht hc
  refine ⟨fun hready hheld hn => ?_, fun hready => ?_, fun hready hheld => ?_⟩
  · rw [hready, hheld, if_pos (by decide)] at he
    obtain ⟨hnum, hrun, hnew⟩ := takeEdge_numbered u
    have hs : SameTick u.takeEdge (u.takeEdge.freeFlat.sramErrors u.nextTick reads.sram) :=
      (SameTick.refl _).freeFlat.sramErrors
    have hlast := hnum.same hs
    exact ⟨_, he, lastTick_eq_wide hlast.tick hn, hlast.time.trans (Nat.mod_eq_of_lt u.tb.isLt), hlast.first,
      hs.running.trans hrun, hs.newest.trans hnew, hlast.tb, hlast.now⟩
  · rw [hready, Bool.false_and, if_neg Bool.false_ne_true, holdEdge_eq, hready, if_neg Bool.false_ne_true] at he
    exact ⟨_, he, count_withSeq u _ .RO_PIXSUP_STAT_EDGE_HELD (by decide) (by decide)⟩
  · rw [hready, hheld, if_neg (by decide), holdEdge_eq, hready, if_pos rfl] at he
    exact ⟨_, he, count_withSeq u _ .PLL_EDGE_HELD_VALUE (by decide) (by decide)⟩

end Sys2Proof.Safety
end

section
/-! PROOF. The exposure intervals of a frame, and the monitor of the pixel supply. -/

namespace Sys2Proof.Safety

open Sys2Proof.Machine

/-! ## Exposure intervals -/

/-- The newest frame, changed, is the newest. -/
theorem newest_modFrame {s : State} {f : Frame} (h : s.newest = some f) (g : Frame → Frame) :
    (s.modFrame f.tick g).newest = some (g f) := by
  have hl : s.frames.getLast? = some f := h
  unfold State.newest State.modFrame
  rw [List.getLast?_map, hl, Option.map_some, if_pos rfl]

/-- The drain gate closes for an interval whose start has come. -/
theorem exec_exposureIntervalStart_of_due {s : State} {dt : Nat} {f : Frame} {i : Interval}
    (hn : (s.advance dt).newest = some f) (hi : (f.view (s.advance dt)).intervals[f.interval]? = some i)
    (ho : f.isOpen = false) (hc : f.cut = false) (ht : (s.advance dt).tbRuns = true)
    (hs : (i.start : Int) ≤ (s.advance dt).sinceFrame f) :
    exec (.exposureIntervalStart dt) s =
      .next ((s.advance dt).modFrame f.tick fun x => { x with isOpen := true }) := by
  refine congrArg Host.Outcome.next ?_
  rw [hn]
  dsimp only
  rw [hi]
  exact if_pos (by simp [ho, hc, ht, hs])

/-- The frame after the transfer of its interval `i`, in which the photodiodes collected `light`. -/
def transferred (i : Interval) (light : List (Nat × Nat)) (f : Frame) : Frame :=
  { f with
    isOpen := false, interval := f.interval + 1,
    nodes := light.foldl (fun m e => addCharge m (chargeTap f.mode f.tick i.tap) e) f.nodes }

/-- The transfer gate moves the charge of an open interval whose end has come. -/
theorem exec_exposureIntervalEnd_of_due {s : State} {dt : Nat} {light : List (Nat × Nat)} {f : Frame} {i : Interval}
    (hn : (s.advance dt).newest = some f) (hi : (f.view (s.advance dt)).intervals[f.interval]? = some i)
    (ho : f.isOpen = true) (ht : (s.advance dt).tbRuns = true) (hs : (i.stop : Int) ≤ (s.advance dt).sinceFrame f) :
    exec (.exposureIntervalEnd dt light) s = .next ((s.advance dt).modFrame f.tick (transferred i light)) := by
  refine congrArg Host.Outcome.next ?_
  rw [hn]
  dsimp only
  rw [hi]
  exact if_pos (by simp [ho, ht, hs])

/-- R87, R88: the charge of an open pixel joins that of its storage node within the limits, and no other node changes. -/
theorem get_addCharge {pixel : Nat} (ho : openPixel pixel = true) (nodes : Store Nat) (tap e k : Nat) :
    (addCharge nodes tap (pixel, e)).get (fun _ => 0) k =
      if k = tap * 2 ^ 24 + pixel then min 9000 (nodes.get (fun _ => 0) (tap * 2 ^ 24 + pixel) + min 12000 e)
      else nodes.get (fun _ => 0) k :=
  (congrArg (Store.get (fun _ => 0) · k) (if_pos ho)).trans (Store.get_set _ _ _ _ _)

/-- Settles O13: the start and the end each change the newest frame alone, and the end's charge is `get_addCharge`. -/
theorem exposureIntervalsGatherCharge : Obligations.ExposureIntervalsGatherCharge := by
  refine ⟨?_, ?_⟩
  · intro s dt f i u hn hi ho hc ht hs
    exact ⟨_, exec_exposureIntervalStart_of_due hn hi ho hc ht hs, rfl⟩
  · intro s dt f i pixel e u hn hi ho ht hs hp node
    have hget := get_addCharge hp f.nodes (chargeTap f.mode f.tick i.tap) e
    exact ⟨_, transferred i [(pixel, e)] f, exec_exposureIntervalEnd_of_due hn hi ho ht hs, newest_modFrame hn _, rfl, rfl,
      (hget node).trans (if_pos rfl), fun k hk => (hget k).trans (if_neg hk), rfl⟩

/-! ## The pixel supply -/

/-- A field reads the same where its register does. -/
theorem fld_of_reg {s t : State} {f : Fld} (h : t.reg f.addr = s.reg f.addr) : t.fld f = s.fld f :=
  congrArg (fun w : Word => getBits w.toNat f.hi f.lo) h

/-- MV shows a sample as far as its 12 bits go. -/
theorem fld_mv_sample (s : State) (mv : Nat) :
    (s.setFld .RO_PIXSUP_STAT_MV (min 4095 mv)).fld .RO_PIXSUP_STAT_MV = min 4095 mv := by
  rw [fld_setFld_self s _ _ (by decide) (by decide)]
  exact Nat.mod_eq_of_lt (show min 4095 mv < 4096 by omega)

/-- A write of READY leaves MV alone. -/
theorem fld_mv_setReady (s : State) (b : Bool) :
    (s.setFlag .RO_PIXSUP_STAT_READY b).fld .RO_PIXSUP_STAT_MV = s.fld .RO_PIXSUP_STAT_MV :=
  fld_setFld_apart s _ rfl (by decide) (by decide) (.inr (by decide))

/-- Events and raises leave RO_PIXSUP_STAT alone. -/
theorem Quiet.pixsupStat {s t : State} (h : Quiet s t) : t.reg Reg.RO_PIXSUP_STAT = s.reg Reg.RO_PIXSUP_STAT :=
  h.regs _ fun e => by unfold EventReg at e; dsimp only [Reg.HIF_NORING_DROP, Reg.RO_PIXSUP_STAT] at e; omega

theorem pixsupStat_limitedEvent (s : State) (code sub : Nat) (status : Status) (source : Nat) (args : List Byte) :
    (s.limitedEvent code sub status source args).reg Reg.RO_PIXSUP_STAT = s.reg Reg.RO_PIXSUP_STAT := by
  unfold State.limitedEvent
  extract_lets
  split
  · rfl
  · exact (Quiet.refl _).event.pixsupStat

/-- A droop counts in another register. -/
theorem pixsupStat_droop (s : State) (mv : Nat) : (s.droop mv).reg Reg.RO_PIXSUP_STAT = s.reg Reg.RO_PIXSUP_STAT := by
  unfold State.droop
  split
  · split
    · rw [pixsupStat_limitedEvent]
      exact reg_count_ne _ 1 (by decide)
    · rfl
  · rfl

/-- A sample within regulation is shown. -/
theorem exec_pixsupMonitorSample_within {s : State} {dt mv : Nat} (hb : (s.advance dt).boostOn = true)
    (hl : 3300 ≤ mv) (hu : mv ≤ 3550) :
    exec (.pixsupMonitorSample dt mv) s = .next ((s.advance dt).setFld .RO_PIXSUP_STAT_MV (min 4095 mv)) :=
  congrArg Host.Outcome.next ((if_pos hb).trans (if_pos (by simp [hl, hu])))

/-- A sample outside regulation is shown and takes READY away; its event and its raise leave RO_PIXSUP_STAT alone. -/
theorem exec_pixsupMonitorSample_outside {s : State} {dt mv : Nat} (hb : (s.advance dt).boostOn = true)
    (ho : mv < 3300 ∨ 3550 < mv) :
    ∃ t, exec (.pixsupMonitorSample dt mv) s = .next t ∧ t.reg Reg.RO_PIXSUP_STAT =
      (((s.advance dt).setFld .RO_PIXSUP_STAT_MV (min 4095 mv)).setFlag .RO_PIXSUP_STAT_READY false).reg
        Reg.RO_PIXSUP_STAT := by
  refine ⟨_, congrArg Host.Outcome.next ((if_pos hb).trans (if_neg (by simp; omega))), ?_⟩
  split
  · rw [((Quiet.refl _).raiseFast (by decide)).pixsupStat, pixsupStat_droop]
  · exact pixsupStat_droop _ mv

/-- Settles O16: within regulation only MV is written, outside it READY too, and what follows a loss of regulation keeps
RO_PIXSUP_STAT. -/
theorem pixelSupplyIsMonitored : Obligations.PixelSupplyIsMonitored := by
  refine ⟨?_, ?_⟩
  · intro s dt mv u hb
    by_cases hin : 3300 ≤ mv ∧ mv ≤ 3550
    · refine ⟨_, exec_pixsupMonitorSample_within hb hin.1 hin.2, fld_mv_sample u mv, fun _ _ => ⟨?_, ?_, rfl⟩,
        fun ho => by omega⟩
      · exact congrArg (· == 1) (fld_setFld_apart u _ rfl (by decide) (by decide) (.inl (by decide)))
      · exact fun a ha => reg_setFld_ne u _ ha
    · obtain ⟨t, ht, hreg⟩ := exec_pixsupMonitorSample_outside hb (mv := mv) (by omega)
      refine ⟨t, ht, ?_, fun hl hu => absurd ⟨hl, hu⟩ hin, fun _ => ?_⟩
      · rw [fld_of_reg (f := .RO_PIXSUP_STAT_MV) hreg, fld_mv_setReady, fld_mv_sample]
      · exact (congrArg (· == 1) (fld_of_reg (f := .RO_PIXSUP_STAT_READY) hreg)).trans
          (flag_setFlag_self _ _ false rfl (by decide))
  · intro s dt u hb
    exact ⟨_, congrArg Host.Outcome.next (if_pos hb), flag_setFlag_self u _ true rfl (by decide),
      fld_mv_setReady u true, fun a ha => reg_setFlag_ne u true ha, rfl⟩

end Sys2Proof.Safety
end

section
/-! PROOF. The mailbox commands that write bytes to the buffer of the host.

Each is carried out once the device takes it (`mailbox_of_takes`), and writes its bytes at ADDR before it completes; those
that read the NVM write what the read gives (`State.nvmRead`), as many bytes where the read fails. -/

namespace Sys2Proof.Safety

open Sys2Proof.Machine

/-! ## Lengths of what is written -/

@[simp] theorem length_leBytes (n v : Nat) : (leBytes n v).length = n := by
  induction n generalizing v with
  | zero => rfl
  | succ n ih => exact congrArg (· + 1) (ih _)

@[simp] theorem length_padTo (n : Nat) (bs : List Byte) : (padTo n bs).length = n := by
  simp only [padTo, List.length_append, List.length_take, List.length_replicate]
  omega

@[simp] theorem length_dieId (die : Nat) : (Config.dieId die).length = 12 := by simp [Config.dieId]

@[simp] theorem length_ownerId (s : State) : s.ownerId.length = 32 := by
  unfold State.ownerId
  split <;> simp

/-- The identity record has 128 bytes (R504). -/
theorem length_identity (s : State) : s.identity.length = 128 := by simp [State.identity, List.range_succ]

/-- A track context has 64 bytes (R218). -/
@[simp] theorem length_track_bytes (x : Track) : x.bytes.length = 64 := by
  unfold Track.bytes
  split <;> simp

/-- CTX_READ writes 192 bytes for a context (R388). -/
@[simp] theorem length_track_image (x : Track) : x.image.length = 192 := by simp [Track.image]

@[simp] theorem length_nvmRange (s : State) (a n : Nat) : (s.nvmRange a n).length = n := by
  simp [State.nvmRange, Store.getMany]

/-- A read of the NVM gives as many bytes as stand there, also where it fails. -/
theorem length_nvmRead (s : State) (bs : List Byte) : (s.nvmRead bs).1.length = bs.length := by
  unfold State.nvmRead
  dsimp only
  split
  · simp [State.nvmReadFailed]
  · rfl

/-! ## Addresses and host memory -/

theorem leNat_lt (bs : List Byte) : leNat bs < 256 ^ bs.length := by
  induction bs with
  | nil => simp [leNat]
  | cons b bs ih =>
    have := b.isLt
    rw [leNat, List.length_cons, Nat.pow_succ]
    omega

/-- ADDR of a descriptor is an address of 64 bits. -/
theorem descAddr_lt (d : List Byte) : bytesAt d 8 8 < 2 ^ 64 :=
  calc bytesAt d 8 8 < 256 ^ ((d.drop 8).take 8).length := leNat_lt _
    _ ≤ 256 ^ 8 := Nat.pow_le_pow_right (by decide) (List.length_take_le 8 _)
    _ = 2 ^ 64 := by decide

/-- Where bytes were written from ADDR on, they stand. -/
theorem memByte_writeMem_descAddr (s : State) (d bs : List Byte) (i : Nat) (b : Byte) (h : bs[i]? = some b) :
    (s.writeMem (bytesAt d 8 8) bs).memByte (bytesAt d 8 8 + i) = b := by
  rw [memByte_writeMem, Nat.mod_eq_of_lt (descAddr_lt d), if_pos (Nat.le_add_right _ _), Nat.add_sub_cancel_left, h]
  rfl

/-- A write changes no byte of host memory outside the bytes that it stores. -/
theorem memKept_writeMem {s u : State} (hm : u.hostMem = s.hostMem) (a : Nat) (bs : List Byte) :
    MemKept s (u.writeMem a bs) (span a bs.length) := by
  intro x hx
  rw [memByte_writeMem_apart u a bs x (by unfold span at hx; omega), State.memByte, hm, State.memByte]

/-! ## Raises leave host memory alone -/

theorem hostMem_hostDue (s : State) : s.hostDue.hostMem = s.hostMem := by
  unfold State.hostDue State.setPme State.msixDue
  split
  · split
    · rfl
    · dsimp only
      split <;> rfl
  · split
    · split <;> rfl
    · rfl

theorem hostMem_assertTarget (s u : State) (t : Nat) : (s.assertTarget u t).hostMem = s.hostMem := by
  unfold State.assertTarget
  split <;> rfl

theorem hostMem_icxChange {s : State} {f : State → State} (h : (f s).hostMem = s.hostMem) :
    (s.icxChange f).hostMem = s.hostMem := by
  unfold State.icxChange
  dsimp only
  split <;> simp only [hostMem_hostDue, hostMem_assertTarget, h]

theorem hostMem_applyRaise (s : State) (src : Nat) : (s.applyRaise src).hostMem = s.hostMem := by
  unfold State.applyRaise State.makePending
  dsimp only
  split
  · rfl
  · split
    · rfl
    · split <;> rfl

theorem hostMem_raiseFast (s : State) (n : Nat) : (s.raiseFast n).hostMem = s.hostMem := by
  unfold State.raiseFast State.raise
  split
  · split <;> rfl
  · exact hostMem_icxChange (hostMem_applyRaise s _)

/-- A read of the NVM leaves host memory alone, also where it fails and raises NVM_FAULT. -/
theorem hostMem_nvmRead (s : State) (bs : List Byte) : (s.nvmRead bs).2.hostMem = s.hostMem := by
  unfold State.nvmRead
  dsimp only
  split
  · exact hostMem_raiseFast s.free.2 7
  · rfl

/-! ## Commands of the mailbox -/

/-- A mailbox command that the device takes is carried out. -/
theorem mailbox_of_takes {s : State} {op : Nat} {used : List (Nat × Nat)} {d : List Byte} {f : List Byte → State → State}
    (h : MailboxTakes s op used d) : s.mailbox op used f = f d s := by
  obtain ⟨hd, hg, hz, ha, hm⟩ := h
  have hdma : (used.any (·.1 == 8) && !s.canDma 1) = false := by
    cases hu : used.any (·.1 == 8) with
    | false => rfl
    | true => simp [hm hu]
  unfold State.mailbox
  rw [hd]
  dsimp only
  rw [hg, hz, hdma, ha]
  rfl

theorem Posted.finishMbox {s₀ s : State} (h : Posted s₀ s) {status : Status} {result : Nat} :
    Posted s₀ (s.finishMbox status result) := h.finishHead

/-- A command whose buffer holds its bytes writes them and completes with OK. -/
theorem mboxWrite_of_fits {s : State} {d bs : List Byte} {n : Nat} (h : bs.length ≤ bytesAt d 16 4) :
    s.mboxWrite d bs n = (s.writeMem (bytesAt d 8 8) bs).finishMbox .ok n := if_neg (by omega)

/-- Bytes written from ADDR on in the state `u`, then the completion: the bytes stand there, no other byte of host memory
has changed, and no register. -/
theorem writes_of_exec {s u : State} {c : Instr} {d bs : List Byte} {n : Nat}
    (he : exec c s = .next ((u.writeMem (bytesAt d 8 8) bs).finishMbox .ok n)) (hr : u.regs = s.regs)
    (hm : u.hostMem = s.hostMem) :
    ∃ t w, exec c s = .next t ∧ t = w.finishMbox .ok n ∧ w = { u with hostMem := w.hostMem } ∧ t.regs = s.regs ∧
      (∀ i, i < bs.length → some (w.memByte (bytesAt d 8 8 + i)) = bs[i]?) ∧
      MemKept s w (span (bytesAt d 8 8) bs.length) := by
  refine ⟨_, _, he, rfl, rfl, (Posted.refl _).finishMbox.regs.trans hr, fun i hi => ?_, memKept_writeMem hm _ bs⟩
  have hb := List.getElem?_eq_getElem hi
  rw [hb, memByte_writeMem_descAddr u d bs i _ hb]

/-- Bytes read from the NVM and written from ADDR on, then the completion. -/
theorem reads_of_exec {s : State} {c : Instr} {d bs : List Byte} {n : Nat}
    (he : exec c s = .next (((s.nvmRead bs).2.writeMem (bytesAt d 8 8) (s.nvmRead bs).1).finishMbox .ok n)) :
    ∃ t w : State, exec c s = .next t ∧ t = w.finishMbox .ok n ∧ MemKept s w (span (bytesAt d 8 8) bs.length) ∧
      (Config.nvmReadFails s.freeCtr = true ∨
        (w = { s with hostMem := w.hostMem, freeCtr := s.freeCtr + 1 } ∧ t.regs = s.regs ∧
          ∀ i, i < bs.length → some (w.memByte (bytesAt d 8 8 + i)) = bs[i]?)) := by
  cases hf : Config.nvmReadFails s.freeCtr with
  | true =>
    refine ⟨_, _, he, rfl, ?_, .inl rfl⟩
    exact length_nvmRead s bs ▸ memKept_writeMem (hostMem_nvmRead s bs) _ _
  | false =>
    rw [nvmRead_holds s bs hf] at he
    obtain ⟨t, w, ht, hw, hu, hregs, hbytes, hkept⟩ := writes_of_exec he rfl rfl
    exact ⟨t, w, ht, hw, hkept, .inr ⟨hu, hregs, hbytes⟩⟩

/-- Where no digest was formed yet, the free value that stands for it is all that is drawn. -/
theorem digestNow_keeps (s : State) : s.digestNow.2.regs = s.regs ∧ s.digestNow.2.hostMem = s.hostMem := by
  unfold State.digestNow
  split <;> exact ⟨rfl, rfl⟩

/-- CTX_READ with operands in range and a buffer that holds its contexts. -/
theorem exec_ctxRead_of_takes {s : State} {d : List Byte} (h : MailboxTakes s 0x80 [(8, 12), (20, 8)] d)
    (h0 : bytesAt d 24 4 ≠ 0) (hn : bytesAt d 24 4 ≤ 4096) (hr : bytesAt d 20 4 + bytesAt d 24 4 ≤ 262144)
    (hl : 192 * bytesAt d 24 4 ≤ bytesAt d 16 4) :
    ∃ p : Nat → Bool, exec .ctxRead s = .next (
      ((s.free.2.writeMem (bytesAt d 8 8)
        ((List.range (bytesAt d 24 4)).flatMap fun i => (s.track (bytesAt d 20 4 + i)).image)).contextErrors
          s.free.2.errorTick (((List.range (bytesAt d 24 4)).map (bytesAt d 20 4 + ·)).filter p)).finishMbox .ok
        (bytesAt d 24 4)) :=
  ⟨_, congrArg Host.Outcome.next ((mailbox_of_takes h).trans (if_neg (by simp; omega)))⟩

/-- Settles O44: each command is taken and writes its bytes (`writes_of_exec`), those from the NVM by `reads_of_exec`. -/
theorem mailboxReadsWriteTheirBuffer : Obligations.MailboxReadsWriteTheirBuffer := by
  intro s d a len arg0 arg1 writes reads
  obtain ⟨hdregs, hdmem⟩ := digestNow_keeps s
  refine ⟨?ctxRead, ?idRead, ?certRead, ?factDefects, ?digestRead, ?journalRead, ?faultRead, ?quote⟩
  case ctxRead =>
    intro h h0 hn hr hl
    obtain ⟨p, he⟩ := exec_ctxRead_of_takes h h0 hn hr hl
    have hlen : ((List.range arg1).flatMap fun i => (s.track (arg0 + i)).image).length = 192 * arg1 := by
      simp [List.length_flatMap, Nat.mul_comm]
    refine ⟨_, _, _, he, rfl, fun i hi => ?_, rfl, fun i b hb => memByte_writeMem_descAddr s.free.2 d _ i b hb, ?_⟩
    · obtain ⟨j, hj, rfl⟩ := List.mem_map.mp (List.mem_filter.mp hi).1
      have := List.mem_range.mp hj
      dsimp only [arg0, arg1]
      omega
    · exact hlen ▸ memKept_writeMem (u := s.free.2) rfl _ _
  case idRead =>
    intro h hl
    have hfit : s.identity.length ≤ bytesAt d 16 4 := (length_identity s).trans_le hl
    exact ⟨length_identity s,
      writes_of_exec (congrArg Host.Outcome.next ((mailbox_of_takes h).trans (mboxWrite_of_fits hfit))) rfl rfl⟩
  case certRead =>
    intro h hs hl
    exact writes_of_exec (congrArg Host.Outcome.next ((mailbox_of_takes h).trans
      ((if_neg (Nat.not_lt.mpr hs)).trans (mboxWrite_of_fits hl)))) rfl rfl
  case factDefects =>
    intro h hl
    refine reads_of_exec (congrArg Host.Outcome.next ((mailbox_of_takes h).trans ((if_neg (Nat.not_lt.mpr hl)).trans
      (mboxWrite_of_fits ?_))))
    exact (length_nvmRead _ _).trans_le ((length_nvmRange _ _ _).trans_le hl)
  case digestRead =>
    intro h hl
    exact writes_of_exec (congrArg Host.Outcome.next ((mailbox_of_takes h).trans (mboxWrite_of_fits hl))) hdregs hdmem
  case journalRead =>
    intro h hr
    exact reads_of_exec (congrArg Host.Outcome.next ((mailbox_of_takes h).trans (if_neg (Nat.not_lt.mpr hr))))
  case faultRead =>
    intro h recs hl
    exact reads_of_exec (congrArg Host.Outcome.next ((mailbox_of_takes h).trans (if_neg (Nat.not_lt.mpr hl))))
  case quote =>
    intro h hl head
    exact writes_of_exec (congrArg Host.Outcome.next ((mailbox_of_takes h).trans (if_neg (Nat.not_lt.mpr hl)))) hdregs hdmem

end Sys2Proof.Safety
end

section
/-! PROOF. The clear registers of the exposure, the readout, the tracker and the rings. -/

namespace Sys2Proof.Safety

open Sys2Proof.Machine

/-! ## Clearing counters and one field -/

/-- A field of `n` bits holds less than `2 ^ n`. -/
theorem fld_lt (s : State) (f : Fld) : s.fld f < 2 ^ f.width := Nat.mod_lt _ (Nat.two_pow_pos _)

/-- A clearing write, after which a field of another register takes a value on a condition. -/
theorem clearList_setFld_spec (s : State) (v : Word) {l : List (Nat × Nat)} {f : Fld} (b : Bool) {x : Nat}
    (hl : (l.map (·.2)).Nodup) (hf : ∀ p ∈ l, p.2 ≠ f.addr) (h : f.lo ≤ f.hi) (h32 : f.hi < 32) (hx : x < 2 ^ f.width) :
    (∀ p ∈ l, (if b then (s.clearList v l).setFld f x else s.clearList v l).reg p.2 =
      if bitOf v.toNat p.1 then 0 else s.reg p.2) ∧
    (if b then (s.clearList v l).setFld f x else s.clearList v l).fld f = (if b then x else s.fld f) ∧
    RegsKept s (if b then (s.clearList v l).setFld f x else s.clearList v l)
      (fun a => (∃ p ∈ l, p.2 = a) ∨ a = f.addr) ∧
    OnlyRegs s (if b then (s.clearList v l).setFld f x else s.clearList v l) := by
  obtain ⟨hfld, hkept, -⟩ := setFld_if_spec (s.clearList v l) f b x h h32 hx
  have hc := regsKept_clearList s v l
  have ho := onlyRegs_clearList s v l
  refine ⟨fun p hp => ?_, ?_, fun a ha => ?_, .branch ho.setFld ho⟩
  · rw [hkept _ (hf p hp), reg_clearList_mem s v hl hp]
  · rw [hfld, fld_of_reg (hc f.addr fun ⟨p, hp, he⟩ => hf p hp he)]
  · rw [hkept a fun e => ha (.inr e), hc a fun e => ha (.inl e)]

/-- A register that is one whole field returns to 0 by a write of the field. -/
theorem setFld_word_zero (s : State) (a : Nat) : s.setFld ⟨a, 31, 0⟩ 0 = s.setReg a 0 := by
  have h : putBits (s.reg a).toNat 31 0 0 = 0 := by
    have := (s.reg a).isLt
    unfold putBits
    omega
  exact congrArg (fun n => s.setReg a (BitVec.ofNat 32 n)) h

/-- A field that is a whole register reads the register. -/
theorem fld_word (s : State) (a : Nat) : s.fld ⟨a, 31, 0⟩ = (s.reg a).toNat := by
  have h : (s.reg a).toNat / 2 ^ 0 % 2 ^ 32 = (s.reg a).toNat := by
    have := (s.reg a).isLt
    omega
  exact h

/-- A register that a clearing write lists, as the field that it is. -/
theorem fld_clearList_mem (s : State) (v : Word) {l : List (Nat × Nat)} (hl : (l.map (·.2)).Nodup) {p : Nat × Nat}
    (hp : p ∈ l) : (s.clearList v l).fld ⟨p.2, 31, 0⟩ = if bitOf v.toNat p.1 then 0 else s.fld ⟨p.2, 31, 0⟩ := by
  rw [fld_word, fld_word, reg_clearList_mem s v hl hp]
  split <;> rfl

/-! ## The effects -/

/-- Bits of SUPPR that a write of HIF_EXP_CLR leaves. -/
theorem bitOf_and_clear (n v i : Nat) (hi : i < 8) :
    bitOf (n &&& (255 - getBits v 15 8)) i = (bitOf n i && !bitOf v (8 + i)) := by
  have hlt : getBits v 15 8 < 2 ^ 8 := Nat.mod_lt _ (by decide)
  have he : 255 - getBits v 15 8 = 2 ^ 8 - (getBits v 15 8 + 1) := by omega
  rw [bitOf_eq_testBit, bitOf_eq_testBit, bitOf_eq_testBit, Nat.testBit_and, he, Nat.testBit_two_pow_sub_succ hlt,
    testBit_getBits]
  simp [hi]

/-- RING_CLR clears two whole registers. -/
theorem ringClr_eq_clearList (s : State) (v : Word) :
    s.ringClr v.toNat = s.clearList v [(0, Reg.RING_DB_ERR), (1, Reg.RING_ARCH_DROP)] := by
  simp only [State.ringClr, setFld_word_zero]
  rfl

/-- The drop counters of the rings, each with its bit in RING_DROP_CLR. -/
def ringDrops : List (Nat × Nat) := (List.range 32).map fun n => (n, Reg.RING_DROP n)

/-- RING_DROP_CLR clears the drop counter of each ring written 1. -/
theorem ringDropClr_eq_clearList (s : State) (v : Word) : s.ringDropClr v.toNat = s.clearList v ringDrops := by
  simp only [State.ringDropClr, setFld_word_zero]
  rw [State.clearList, ringDrops, List.foldl_map]

theorem ringDrops_nodup : (ringDrops.map (·.2)).Nodup := by decide

/-- A clearing write leaves a field of a register that it does not list. -/
theorem fld_clearList_apart (s : State) (v : Word) {l : List (Nat × Nat)} {f : Fld} (hf : ∀ p ∈ l, p.2 ≠ f.addr) :
    (s.clearList v l).fld f = s.fld f :=
  fld_of_reg (regsKept_clearList s v l f.addr fun ⟨p, hp, he⟩ => hf p hp he)

/-- The counters that HIF_EXP_CLR clears, each with its bit. -/
def expCounters : List (Nat × Nat) := [(0, Reg.EXP_TRIG_LOST), (1, Reg.FF_SUPPR_CNT)]

/-- HIF_EXP_CLR: the two counters, and the bits of SUPPR written 1. -/
theorem expClr_spec (s : State) (v : Word) :
    (∀ p ∈ expCounters, (s.expClr v).reg p.2 = if bitOf v.toNat p.1 then 0 else s.reg p.2) ∧
    (∀ i, i < 8 → bitOf ((s.expClr v).fld .FF_STAT_SUPPR) i =
      (bitOf (s.fld .FF_STAT_SUPPR) i && !bitOf v.toNat (8 + i))) ∧
    RegsKept s (s.expClr v) (fun a => (∃ p ∈ expCounters, p.2 = a) ∨ a = Fld.FF_STAT_SUPPR.addr) ∧
    OnlyRegs s (s.expClr v) := by
  have hf : ∀ p ∈ expCounters, p.2 ≠ Fld.FF_STAT_SUPPR.addr := by decide
  obtain ⟨hregs, hsuppr, hkept, hrest⟩ := clearList_setFld_spec s v (l := expCounters) (f := .FF_STAT_SUPPR) true
    (x := (s.clearList v expCounters).fld .FF_STAT_SUPPR &&& (255 - getBits v.toNat 15 8))
    (by decide) hf (by decide) (by decide) (Nat.lt_of_le_of_lt Nat.and_le_left (fld_lt _ _))
  refine ⟨hregs, fun i hi => ?_, hkept, hrest⟩
  rw [← bitOf_and_clear _ _ _ hi, ← fld_clearList_apart s v hf]
  exact congrArg (bitOf · i) hsuppr

/-- The counters that HIF_RO_CLR clears, each with its bit. -/
def roCounters : List (Nat × Nat) := [(0, Reg.RO_AXLE_CRC), (1, Reg.RO_OOR_CNT), (3, Reg.RO_PIXSUP_DROOP)]

/-- HIF_RO_CLR leaves the fields of RO_PIXSUP_STAT beside EDGE_HELD. -/
theorem fld_roClr_pixsupStat (s : State) (v : Word) {f : Fld} (ha : f.addr = Reg.RO_PIXSUP_STAT) (hh : f.hi < 24) :
    (s.roClr v).fld f = s.fld f := by
  rw [← fld_clearList_apart s v (l := roCounters) (by rw [ha]; decide)]
  unfold State.roClr
  dsimp only
  split
  · exact fld_setFld_apart _ 0 ha (by decide) (by decide) (.inl hh)
  · rfl

/-- HIF_RO_CLR: the three counters, and EDGE_HELD by bit 2. -/
theorem roClr_spec (s : State) (v : Word) :
    (∀ p ∈ roCounters, (s.roClr v).reg p.2 = if bitOf v.toNat p.1 then 0 else s.reg p.2) ∧
    (s.roClr v).fld .RO_PIXSUP_STAT_EDGE_HELD = (if bitOf v.toNat 2 then 0 else s.fld .RO_PIXSUP_STAT_EDGE_HELD) ∧
    RegsKept s (s.roClr v) (fun a => (∃ p ∈ roCounters, p.2 = a) ∨ a = Reg.RO_PIXSUP_STAT) ∧ OnlyRegs s (s.roClr v) :=
  clearList_setFld_spec s v (f := .RO_PIXSUP_STAT_EDGE_HELD) (bitOf v.toNat 2) (by decide) (by decide) (by decide)
    (by decide) (by decide)

/-- The counters that HIF_TRK_CLR clears, each with its bit. -/
def trkCounters : List (Nat × Nat) := [(0, Reg.SEG_SMALL), (1, Reg.SEG_SPLIT), (2, Reg.TRK_NOCTX), (3, Reg.TRK_AMBIG),
  (4, Reg.TRK_ORPHAN), (5, Reg.TRK_POSTDEC)]

/-- HIF_TRK_CLR: the six counters, and the peak by bit 6. -/
theorem trkClr_spec (s : State) (v : Word) :
    (∀ p ∈ trkCounters, (s.trkClr v).reg p.2 = if bitOf v.toNat p.1 then 0 else s.reg p.2) ∧
    (s.trkClr v).fld .TRK_LIVE_PEAK_COUNT =
      (if bitOf v.toNat 6 then s.fld .TRK_LIVE_COUNT else s.fld .TRK_LIVE_PEAK_COUNT) ∧
    RegsKept s (s.trkClr v) (fun a => (∃ p ∈ trkCounters, p.2 = a) ∨ a = Reg.TRK_LIVE_PEAK) ∧
    OnlyRegs s (s.trkClr v) := by
  rw [← fld_clearList_apart s v (f := .TRK_LIVE_COUNT) (l := trkCounters) (by decide)]
  exact clearList_setFld_spec s v (f := .TRK_LIVE_PEAK_COUNT) (bitOf v.toNat 6) (by decide) (by decide) (by decide)
    (by decide) (fld_lt _ .TRK_LIVE_COUNT)

/-- RING_CLR: the two drop counters. -/
theorem ringClr_spec (s : State) (v : Word) :
    (s.ringClr v.toNat).fld .RING_DB_ERR_COUNT = (if bitOf v.toNat 0 then 0 else s.fld .RING_DB_ERR_COUNT) ∧
    (s.ringClr v.toNat).fld .RING_ARCH_DROP_COUNT = (if bitOf v.toNat 1 then 0 else s.fld .RING_ARCH_DROP_COUNT) ∧
    RegsKept s (s.ringClr v.toNat) (fun a => a = Reg.RING_DB_ERR ∨ a = Reg.RING_ARCH_DROP) ∧
    OnlyRegs s (s.ringClr v.toNat) := by
  rw [ringClr_eq_clearList]
  exact ⟨fld_clearList_mem s v (p := (0, Reg.RING_DB_ERR)) (by decide) (by decide),
    fld_clearList_mem s v (p := (1, Reg.RING_ARCH_DROP)) (by decide) (by decide),
    fun a ha => regsKept_clearList s v _ a fun he => ha (by simpa [eq_comm] using he), onlyRegs_clearList s v _⟩

/-- RING_DROP_CLR: the drop counter of each ring written 1. -/
theorem ringDropClr_spec (s : State) (v : Word) :
    (∀ n, n < 32 → (s.ringDropClr v.toNat).fld (.RING_DROP_DROP n) =
      if bitOf v.toNat n then 0 else s.fld (.RING_DROP_DROP n)) ∧
    RegsKept s (s.ringDropClr v.toNat) (fun a => ∃ n, n < 32 ∧ a = (Fld.RING_DROP_DROP n).addr) ∧
    OnlyRegs s (s.ringDropClr v.toNat) := by
  have hmem {n : Nat} (hn : n < 32) : (n, Reg.RING_DROP n) ∈ ringDrops :=
    List.mem_map.mpr ⟨n, List.mem_range.mpr hn, rfl⟩
  rw [ringDropClr_eq_clearList]
  refine ⟨fun n hn => fld_clearList_mem s v ringDrops_nodup (hmem hn), fun a ha => ?_, onlyRegs_clearList s v _⟩
  refine regsKept_clearList s v _ a fun ⟨p, hp, he⟩ => ha ?_
  obtain ⟨n, hn, rfl⟩ := List.mem_map.mp hp
  exact ⟨n, List.mem_range.mp hn, he.symm⟩

/-! ## The registers and their commands -/

/-- A 32-bit write of a word in the part of the ring block that no descriptor stages. -/
theorem bar0Write_ring (s : State) {a : Nat} (v : Word) (h4 : a % 4 = 0) (hl : 0x5000 ≤ a) (hu : a < 0x6000)
    (hs : stageable a = false) : s.bar0Write a 4 (v.setWidth 64) = s.ringWrite a v := by
  have hf : a ≠ Reg.RO_FACT_DEFECTS := fun h => absurd hl (h ▸ by decide)
  have hv : (v.setWidth 64).setWidth 32 = v := by simp
  simp [State.bar0Write, hv, hs, hf, h4, show ¬ 0x6000 ≤ a by omega, show ¬ a < 0x5000 by omega,
    show ¬ a < 0x400 by omega, show ¬ a < 0x1000 by omega, hl]

/-- The write of a clear register of the ring block is its command. -/
theorem ringWrite_eq_command {s : State} {v : Word} {c : Instr} {a : Nat} {f : State → State} (h : s.barOk 0 = true)
    (h4 : a % 4 = 0) (hl : 0x5000 ≤ a) (hu : a < 0x6000) (hs : stageable a = false)
    (hf : s.hostActivity.ringWrite a v = f s.hostActivity) (hc : exec c s = .next (s.pf0Write f)) :
    exec (.registerWrite .pf0Bar0 a 4 (v.setWidth 64)) s = exec c s := by
  rw [exec_registerWrite_pf0Bar0 h, hc, pf0Write_accessible h, bar0Write_ring _ v h4 hl hu hs, hf]

/-- What a command of an accessible PF0 makes of the state after host activity. -/
theorem exec_pf0 {s : State} {c : Instr} {f : State → State} (h : s.barOk 0 = true)
    (hc : exec c s = .next (s.pf0Write f)) : exec c s = .next (f s.hostActivity) :=
  hc.trans (congrArg _ (pf0Write_accessible h f))

/-- Settles O9: each clear is a clearing list of whole registers, after which HIF_EXP_CLR, HIF_RO_CLR and HIF_TRK_CLR write
one more field. -/
theorem clearRegistersWithFields : Obligations.ClearRegistersWithFields := by
  intro s v h u
  refine ⟨⟨?_, _, exec_pf0 (f := fun s => s.expClr v) h rfl, ?_⟩, ⟨?_, _, exec_pf0 (f := fun s => s.roClr v) h rfl, ?_⟩,
    ⟨?_, _, exec_pf0 (f := fun s => s.trkClr v) h rfl, ?_⟩, ⟨?_, _, exec_pf0 (f := fun s => s.ringClr v.toNat) h rfl, ?_⟩,
    ⟨?_, _, exec_pf0 (f := fun s => s.ringDropClr v.toNat) h rfl, ringDropClr_spec u v⟩⟩
  · exact write_eq_command h (by decide) (by decide) (by decide +kernel) rfl rfl
  · obtain ⟨hregs, hsuppr, hkept, hrest⟩ := expClr_spec u v
    exact ⟨hregs, hsuppr, fun a ha => hkept a fun he => ha (by simpa [expCounters, eq_comm, or_assoc] using he), hrest⟩
  · exact write_eq_command h (by decide) (by decide) (by decide +kernel) rfl rfl
  · obtain ⟨hregs, hheld, hkept, hrest⟩ := roClr_spec u v
    exact ⟨hregs, hheld, congrArg (· == 1) (fld_roClr_pixsupStat u v rfl (by decide)),
      fld_roClr_pixsupStat u v rfl (by decide),
      fun a ha => hkept a fun he => ha (by simpa [roCounters, eq_comm, or_assoc] using he), hrest⟩
  · exact write_eq_command h (by decide) (by decide) (by decide +kernel) rfl rfl
  · obtain ⟨hregs, hpeak, hkept, hrest⟩ := trkClr_spec u v
    exact ⟨hregs, hpeak, fun a ha => hkept a fun he => ha (by simpa [trkCounters, eq_comm, or_assoc] using he), hrest⟩
  · exact ringWrite_eq_command h (by decide) (by decide) (by decide) (by decide +kernel) rfl rfl
  · exact ringClr_spec u v
  · exact ringWrite_eq_command h (by decide) (by decide) (by decide) (by decide +kernel) rfl rfl

end Sys2Proof.Safety
end

section
/-! PROOF. The pulses of GATED Fireflies (R114, R116). -/

namespace Sys2Proof.Safety

open Sys2Proof.Machine

/-! ## Pins and Fireflies -/

@[simp] theorem firefly_setFirefly_self (s : State) (f : Nat) (x : Firefly) : (s.setFirefly f x).firefly f = x :=
  Store.get_set_self _ _ _ _

/-- A pin that takes a level changes of the timebase unit only the note of the edge at its pad. -/
theorem tbu_setPin (s : State) (n : Nat) (b : Bool) :
    (s.setPin n b).tbu = { s.tbu with lastEdge := (s.setPin n b).tbu.lastEdge } := by
  unfold State.setPin
  dsimp only
  split <;> rfl

/-! ## The start of a pulse -/

/-- The start of the next pulse of the newest frame. -/
theorem exec_fireflyPulseStart_of_due {s : State} {dt : Nat} {f : Fin 8} {x : Frame} {p : Nat × Nat}
    (hn : (s.advance dt).newest = some x)
    (hp : ((x.view (s.advance dt)).pulses f.val)[x.pulse.get (fun _ => 0) f.val]? = some p)
    (ht : (s.advance dt).tbRuns = true) (hc : x.cut = false) (ha : ((s.advance dt).firefly f.val).active = false)
    (hd : (p.1 : Int) ≤ (s.advance dt).sinceFrame x) :
    exec (.fireflyPulseStart dt f) s = .next ((s.advance dt).startPulse x f.val p) := by
  refine congrArg Host.Outcome.next ?_
  rw [hn]
  dsimp only
  rw [hp]
  exact if_pos (by simp [ht, hc, ha, hd])

/-- The frame notes that one more of its pulses of Firefly `f` has come. -/
def countPulse (s : State) (x : Frame) (f : Nat) : State :=
  s.modFrame x.tick fun x => { x with pulse := x.pulse.set (fun _ => 0) f (x.pulse.get (fun _ => 0) f + 1) }

/-- A Firefly whose pulse has begun, with the level of its pin. -/
def beginPulse (s : State) (f : Nat) (x : Firefly) : State := (s.setFirefly f x).setPin (8 + f) x.level

theorem beginPulse_spec (s : State) (f : Nat) (x : Firefly) :
    (beginPulse s f x).pin (8 + f) = x.level ∧ (beginPulse s f x).firefly f = x ∧ (beginPulse s f x).regs = s.regs :=
  ⟨pin_setPin_self _ _ _, firefly_setFirefly_self _ _ _, rfl⟩

/-- A pulse within the limit begins. -/
theorem startPulse_within {s : State} {x : Frame} {f : Nat} {p : Nat × Nat}
    (h : (x.view s).fld (.FF_DUTY_LIMIT f) = 0 ∨ s.windowTime f + (p.2 - p.1) ≤ (x.view s).fld (.FF_DUTY_LIMIT f)) :
    s.startPulse x f p = beginPulse (countPulse s x f) f
      { active := true, level := !(x.view s).flag (.FF_CFG_POL f), until_ := x.clk + x.delay + p.2,
        window := s.tb.toNat / 1000000, onTime := s.windowTime f + (p.2 - p.1) } := by
  refine if_neg ?_
  rw [Bool.and_eq_true, bne_iff_ne, decide_eq_true_eq]
  omega

/-- A pulse above the limit is suppressed. -/
theorem startPulse_above {s : State} {x : Frame} {f : Nat} {p : Nat × Nat}
    (h0 : (x.view s).fld (.FF_DUTY_LIMIT f) ≠ 0)
    (h : (x.view s).fld (.FF_DUTY_LIMIT f) < s.windowTime f + (p.2 - p.1)) :
    s.startPulse x f p = (countPulse s x f).suppressPulse x.tick f := by
  refine if_pos ?_
  rw [Bool.and_eq_true, bne_iff_ne, decide_eq_true_eq]
  exact ⟨h0, h⟩

/-! ## Suppressed pulses -/

/-- The registers after a suppressed pulse, before its event. -/
def suppressCounted (s : State) (f : Nat) : State :=
  (s.count .FF_SUPPR_CNT_COUNT 1).setFld .FF_STAT_SUPPR (putBit (s.fld .FF_STAT_SUPPR) f true)

theorem suppressCounted_spec (s : State) {f : Nat} (hf : f < 8) :
    (suppressCounted s f).fld .FF_SUPPR_CNT_COUNT = min (2 ^ 32 - 1) (s.fld .FF_SUPPR_CNT_COUNT + 1) ∧
      bitOf ((suppressCounted s f).fld .FF_STAT_SUPPR) f = true := by
  unfold suppressCounted
  refine ⟨?_, ?_⟩
  · exact (fld_setFld_ne _ _ (by decide)).trans (fld_count_self _ _ _ (by decide) (by decide))
  · rw [fld_setFld_self _ _ _ (by decide) (by decide), bitOf_eq_testBit, Nat.testBit_mod_two_pow, ← bitOf_eq_testBit,
      bitOf_putBit_self]
    simp [Fld.width, hf]

/-- `t` shows the pins, the Fireflies and the registers of suppressed pulses that `s` shows. -/
structure SameFireflies (s t : State) : Prop where
  pins : t.pins = s.pins
  fireflies : t.fireflies = s.fireflies
  regs : ∀ f : Fld, f.addr = Reg.FF_SUPPR_CNT ∨ f.addr = Reg.FF_STAT → t.fld f = s.fld f

theorem SameFireflies.refl (s : State) : SameFireflies s s := ⟨rfl, rfl, fun _ _ => rfl⟩

/-- Events leave the Fireflies alone. -/
theorem SameFireflies.quiet {s₀ s t : State} (h : SameFireflies s₀ s) (ht : Quiet s t) : SameFireflies s₀ t :=
  ⟨(congrArg State.pins ht.rest :).trans h.pins, (congrArg State.fireflies ht.rest :).trans h.fireflies,
    fun f hf => (ht.fld (by rcases hf with hf | hf <;> rw [hf] <;> unfold EventReg <;> decide)).trans (h.regs f hf)⟩

/-- The times of the last events of each kind are none of what the Fireflies show. -/
theorem SameFireflies.setEvtLimit {s₀ s : State} (h : SameFireflies s₀ s) (x : Store Nat) :
    SameFireflies s₀ { s with evtLimit := x } := ⟨h.pins, h.fireflies, h.regs⟩

theorem SameFireflies.setMask {s₀ s : State} (h : SameFireflies s₀ s) (m : Nat) :
    SameFireflies s₀ { s with suppressedMask := m } := ⟨h.pins, h.fireflies, h.regs⟩

theorem SameFireflies.modFrame {s₀ s : State} (h : SameFireflies s₀ s) (tick : Nat) (f : Frame → Frame) :
    SameFireflies s₀ (s.modFrame tick f) := ⟨h.pins, h.fireflies, h.regs⟩

theorem SameFireflies.limitedEvent {s₀ s : State} (h : SameFireflies s₀ s) (code sub : Nat) (status : Status) (source : Nat)
    (args : List Byte) : SameFireflies s₀ (s.limitedEvent code sub status source args) := by
  unfold State.limitedEvent
  extract_lets key last
  split
  · exact h
  · exact (h.setEvtLimit _).quiet (Quiet.refl _).event

/-- Beside the count and the note in its frame, a suppressed pulse changes nothing of the Fireflies. -/
theorem sameFireflies_suppressPulse (s : State) (tick f : Nat) :
    SameFireflies (suppressCounted s f) (s.suppressPulse tick f) := by
  unfold State.suppressPulse
  extract_lets s1 s2 mask s3 s4
  have h3 : SameFireflies s1 s3 := ((SameFireflies.refl s1).modFrame tick _).setMask mask
  have h4 : SameFireflies s1 s4 := h3.limitedEvent ..
  split
  · exact h4
  · exact h4.setMask 0

/-! ## The end of a pulse -/

/-- A pulse above the limit leaves the pins and the Fireflies, counts and shows its Firefly. -/
theorem suppressPulse_spec (s : State) (tick : Nat) {f : Nat} (hf : f < 8) :
    (s.suppressPulse tick f).pins = s.pins ∧ (s.suppressPulse tick f).fireflies = s.fireflies ∧
      (s.suppressPulse tick f).fld .FF_SUPPR_CNT_COUNT = min (2 ^ 32 - 1) (s.fld .FF_SUPPR_CNT_COUNT + 1) ∧
      bitOf ((s.suppressPulse tick f).fld .FF_STAT_SUPPR) f = true := by
  obtain ⟨hpins, hff, hregs⟩ := sameFireflies_suppressPulse s tick f
  obtain ⟨hcount, hsuppr⟩ := suppressCounted_spec s hf
  refine ⟨hpins.trans ?_, hff.trans ?_, (hregs .FF_SUPPR_CNT_COUNT (.inl rfl)).trans hcount, ?_⟩
  · rw [suppressCounted, State.setFld_pins, State.count_pins]
  · rw [suppressCounted, State.setFld_fireflies, State.count_fireflies]
  · rw [hregs .FF_STAT_SUPPR (.inr rfl), hsuppr]

/-- A Firefly whose pulse has ended, with the inverse level at its pin. -/
def endPulse (s : State) (f : Nat) : State :=
  (s.setFirefly f { s.firefly f with active := false }).setPin (8 + f) !(s.firefly f).level

theorem endPulse_spec (s : State) (f : Nat) :
    (endPulse s f).pin (8 + f) = (!(s.firefly f).level) ∧ (∀ n, n ≠ 8 + f → (endPulse s f).pin n = s.pin n) ∧
      ((endPulse s f).firefly f).active = false ∧
      endPulse s f = { s with pins := (endPulse s f).pins, tbu := (endPulse s f).tbu, fireflies := (endPulse s f).fireflies } ∧
      (endPulse s f).tbu = { s.tbu with lastEdge := (endPulse s f).tbu.lastEdge } :=
  ⟨pin_setPin_self _ _ _, fun _ hn => pin_setPin_ne _ _ hn, congrArg Firefly.active (firefly_setFirefly_self s f _), rfl,
    tbu_setPin _ _ _⟩

theorem exec_fireflyPulseEnd_of_due {s : State} {dt : Nat} {f : Fin 8} (ha : ((s.advance dt).firefly f.val).active = true)
    (ht : (s.advance dt).tbRuns = true) (hu : ((s.advance dt).firefly f.val).until_ ≤ (s.advance dt).clk) :
    exec (.fireflyPulseEnd dt f) s = .next (endPulse (s.advance dt) f.val) :=
  congrArg Host.Outcome.next (if_pos (by simp [ha, ht, hu]))

/-- Settles O14: a pulse within the limit is `beginPulse`, one above it is suppressed, and one that is over `endPulse`. -/
theorem fireflyPulsesDriveTheirPins : Obligations.FireflyPulsesDriveTheirPins := by
  refine ⟨?_, ?_⟩
  · intro s dt f x p u hn hp ht hc ha hd
    refine ⟨_, exec_fireflyPulseStart_of_due hn hp ht hc ha hd, fun h => ?_, fun h => ?_⟩
    · obtain ⟨hpin, hff, hregs⟩ := beginPulse_spec (countPulse u x f.val) f.val
        { active := true, level := !(x.view u).flag (.FF_CFG_POL f.val), until_ := x.clk + x.delay + p.2,
          window := u.tb.toNat / 1000000, onTime := u.windowTime f.val + (p.2 - p.1) }
      rw [startPulse_within h, hff]
      exact ⟨hpin, rfl, rfl, rfl, hregs⟩
    · rw [startPulse_above h.1 h.2]
      exact suppressPulse_spec (countPulse u x f.val) x.tick f.isLt
  · intro s dt f u ha ht hu
    exact ⟨_, exec_fireflyPulseEnd_of_due ha ht hu, endPulse_spec u f.val⟩

end Sys2Proof.Safety
end

section
/-! PROOF. The exposure governor (R119 to R122). -/

namespace Sys2Proof.Safety

open Sys2Proof.Machine

/-- A staged change of durations: one management-staged change, the three fields of EXP_GOV_STAT, and nothing else. -/
theorem stageDurations_spec (s e : State) (tick : Nat) (plan : List (List Nat × Rat)) :
    (s.stageDurations e tick plan).gov = s.gov ∧
      RegsKept s (s.stageDurations e tick plan) (· = Reg.EXP_GOV_STAT) ∧
      ∃ ws, (s.stageDurations e tick plan).mgmt = s.mgmt ++ [⟨.durations ws (tick + 2), timeAfter s.tb 2000⟩] := by
  unfold State.stageDurations
  extract_lets v taps dur s1 s2 s3
  rw [State.setFlag_gov, State.setFlag_gov, State.setFld_gov, State.setFlag_mgmt, State.setFlag_mgmt, State.setFld_mgmt]
  refine ⟨rfl, fun a ha => ?_, _, rfl⟩
  rw [reg_setFlag_ne _ _ ha, reg_setFlag_ne _ _ ha, reg_setFld_ne _ _ ha]
  rfl

/-- The evaluation is noted for the last tick. -/
def noteEvaluation (s : State) : State := { s with gov := { s.gov with last := s.lastTick + 1 } }

/-- The free value that a metric without a meaning takes, and the state after it. -/
def govDraw (s e : State) : Nat × State :=
  if e.fld .EXP_GOV_CFG_METRIC < 2 then (0, s) else (s.freeCtr, { s with freeCtr := s.freeCtr + 1 })

/-- What a noted evaluation stages: nothing without a usable frame and a plan. -/
def stagePlan (s : State) : State :=
  match s.statFrame with
  | some x =>
    if s.govUsable x then
      match (s.govView x).govPlan (govDraw s (s.govView x)).1 x with
      | [] => (govDraw s (s.govView x)).2
      | plan => (govDraw s (s.govView x)).2.stageDurations (s.govView x) x.tick plan
    else s
  | none => s

/-- A due evaluation is noted, and stages its plan. -/
theorem exec_governorEvaluate_of_due {s : State} {dt : Nat} (hd : (s.advance dt).govDue = true) :
    exec (.governorEvaluate dt) s = .next (stagePlan (noteEvaluation (s.advance dt))) :=
  congrArg Host.Outcome.next (if_pos hd)

theorem govDraw_state (s e : State) : ∃ n, (govDraw s e).2 = { s with freeCtr := n } := by
  unfold govDraw
  split
  · exact ⟨s.freeCtr, rfl⟩
  · exact ⟨_, rfl⟩

/-- What an evaluation stages, and that it changes beside that EXP_GOV_STAT only. -/
theorem stagePlan_spec (s : State) : (stagePlan s).gov = s.gov ∧ RegsKept s (stagePlan s) (· = Reg.EXP_GOV_STAT) ∧
    ((stagePlan s).mgmt = s.mgmt ∨ ∃ x ws, s.statFrame = some x ∧
      (stagePlan s).mgmt = s.mgmt ++ [⟨.durations ws (x.tick + 2), timeAfter s.tb 2000⟩]) := by
  have unchanged : s.gov = s.gov ∧ RegsKept s s (· = Reg.EXP_GOV_STAT) ∧ (s.mgmt = s.mgmt ∨ ∃ x ws,
      s.statFrame = some x ∧ s.mgmt = s.mgmt ++ [⟨.durations ws (x.tick + 2), timeAfter s.tb 2000⟩]) :=
    ⟨rfl, fun _ _ => rfl, .inl rfl⟩
  unfold stagePlan
  split
  next x hx =>
    split
    · obtain ⟨n, hn⟩ := govDraw_state s (s.govView x)
      rw [hn]
      generalize (s.govView x).govPlan (govDraw s (s.govView x)).1 x = plan
      cases plan with
      | nil => exact ⟨rfl, fun _ _ => rfl, .inl rfl⟩
      | cons p ps =>
        obtain ⟨hg, hk, ws, hm⟩ := stageDurations_spec { s with freeCtr := n } (s.govView x) x.tick (p :: ps)
        exact ⟨hg, hk, .inr ⟨x, ws, hx, hm⟩⟩
    · exact unchanged
  · exact unchanged

/-- Settles O22: the evaluation is noted, and what it stages is `stagePlan_spec`. -/
theorem governorStagesItsChange : Obligations.GovernorStagesItsChange := by
  intro s dt u hd
  obtain ⟨hg, hk, hm⟩ := stagePlan_spec (noteEvaluation u)
  exact ⟨_, exec_governorEvaluate_of_due hd, congrArg Governor.last hg, hk, hm⟩

end Sys2Proof.Safety
end

section
/-! PROOF. READOUT_START with two frames of one tick, against the first clause of O15.

`execReadoutStart` changes every frame that has the tick of the frame found due, and gives each the time that R113 gives that
frame itself; the statement gives all of them the time of the frame found. The two agree where the frames' ticks differ from
each other, as the edges number them; the statement does not ask that, and speaks of every state. -/

namespace Sys2Proof.Safety

open Sys2Proof.Machine

/-- A STRIP frame of tick 0 whose edge came at `clk`, with nothing done yet. -/
def stripFrame (clk : Nat) : Frame :=
  { tick := 0, edge := 0, clk := clk, gen := 0, tag := 0, mode := 4, tmin := 0, base := 0, delay := 0,
    regs := [], banks := [], cal := [], drift := [], holder := [], lost := [], policy := 0, policyRow := 0,
    clockLoss := false, settled := false, cut := false, pixsup := false, suppressed := false, govern := false,
    transition := false, capped := false, interval := 0, isOpen := false, pulse := [], nodes := [], readAt := none,
    slot := 0, wire := [], wireOb := [], lanes := [], codes := [], ob := [], obC := [], obX := [], piped := [],
    camPixels := [], planes := [], views := [], rounds := [], kept := 0, untracked := [], noFire := false, done := false }

/-- The timebase runs, and two frames have tick 0: their edges came at 0 and at 1. -/
def twoFrames : State :=
  { State.reset with inReset := false, tbStarted := true, frames := [stripFrame 0, stripFrame 1] }

theorem twoFrames_due : (twoFrames.advance 0).frames.find? (twoFrames.advance 0).readoutDue = some (stripFrame 0) := by
  decide +kernel

theorem twoFrames_tbRuns : (twoFrames.advance 0).tbRuns = true := by decide +kernel

/-- What the statement says of the start: both frames start at the time of the first. -/
def statedStart : State :=
  { twoFrames.advance 0 with frames := (twoFrames.advance 0).frames.map fun x =>
      if x.tick = (stripFrame 0).tick then { x with readAt := some ((twoFrames.advance 0).readoutAt (stripFrame 0)) } else x }

/-- Each frame starts at its own time. -/
theorem twoFrames_readAt : ∃ t, exec (.readoutStart 0) twoFrames = .next t ∧
    t.frames.map (·.readAt) = [some 0, some 1] := ⟨_, rfl, by decide +kernel⟩

theorem statedStart_readAt : statedStart.frames.map (·.readAt) = [some 0, some 0] := by decide +kernel

/-- Refutes O15: with two frames of tick 0, the edges of which came at 0 and at 1, the readout of the second starts at its own
time 1, where the first clause says that of the frame found due, 0. -/
theorem not_readoutStartsAndItsSlotsConvert : ¬ Obligations.ReadoutStartsAndItsSlotsConvert := by
  rintro ⟨hstart, -, -⟩
  obtain ⟨t, ht, hread⟩ := twoFrames_readAt
  have hs : exec (.readoutStart 0) twoFrames = .next statedStart :=
    hstart twoFrames 0 (stripFrame 0) twoFrames_due twoFrames_tbRuns
  obtain rfl : t = statedStart := Host.Outcome.next.inj (ht.symm.trans hs)
  exact absurd (hread.symm.trans statedStart_readAt) (by decide)

end Sys2Proof.Safety
end

section
/-! PROOF. The frames that a pipeline handles (R163, R171, R172).

Between the frame's mark and the end of its work no function of the pipeline takes a mark away from a frame, renames a frame's
tick, adds a frame, or touches the companion frames (`Handled`). As for `StoresCanonical` there is one lemma per function of the
model, named after it, whose proof is the composition itself. -/

namespace Sys2Proof.Safety

open Sys2Proof.Machine

/-- `s` holds the companion frames of `s₀`, and of its frames each is one of `s₀` that has at least its marks. -/
structure Handled (s₀ s : State) : Prop where
  camFrames : s.camFrames = s₀.camFrames
  frames : ∀ g ∈ s.frames, ∃ g₀ ∈ s₀.frames, g.tick = g₀.tick ∧ g₀.piped ⊆ g.piped

theorem Handled.refl (s : State) : Handled s s := ⟨rfl, fun g hg => ⟨g, hg, rfl, fun _ h => h⟩⟩

theorem Handled.branch {s₀ s t : State} {c : Prop} {inst : Decidable c} (hs : Handled s₀ s) (ht : Handled s₀ t) :
    Handled s₀ (if c then s else t) := by split <;> assumption

/-- A fold over a value that carries a state. -/
theorem Handled.foldlOn {α β : Type} {s₀ : State} (g : α → State) {f : α → β → α} {a : α} {l : List β}
    (h : Handled s₀ (g a)) (hf : ∀ {a x}, Handled s₀ (g a) → Handled s₀ (g (f a x))) : Handled s₀ (g (l.foldl f a)) := by
  induction l generalizing a with
  | nil => exact h
  | cons x l ih => exact ih (hf h)

/-- A fold over a state. -/
theorem Handled.foldl {β : Type} {s₀ s : State} {f : State → β → State} {l : List β} (h : Handled s₀ s)
    (hf : ∀ {t x}, Handled s₀ t → Handled s₀ (f t x)) : Handled s₀ (l.foldl f s) :=
  foldlOn id h hf

/-- A camera that has marked every frame of a tick has still marked them. -/
theorem Handled.marked {s₀ s : State} (h : Handled s₀ s) {tick cam : Nat}
    (hm : ∀ g ∈ s₀.frames, g.tick = tick → cam ∈ g.piped) : ∀ g ∈ s.frames, g.tick = tick → cam ∈ g.piped := by
  intro g hg ht
  obtain ⟨g₀, hg₀, he, hp⟩ := h.frames g hg
  exact hp (hm g₀ hg₀ (he.symm.trans ht))

section
variable {s₀ s : State} (h : Handled s₀ s)
include h

/-- An update of fields of the state that are neither the frames nor the companion frames. -/
theorem Handled.update {f0 f1 f2 f3 f4 f5 f6 f7 f8 f9 f10 f11 f12 f13 f14 f15 f16 f17 f18 f19 f20 f21 f22 f23 f24 f25 f26
      f27 f28 f29 f30 f31 f32 f33 f34 f35 f37 f38 f40 f41 f42 f43 f44 f45 f46 f47 f48 f49 f50 f51 f52 f53 f54 f55 f56
      f57 f58 f59} :
    Handled s₀ ⟨f0, f1, f2, f3, f4, f5, f6, f7, f8, f9, f10, f11, f12, f13, f14, f15, f16, f17, f18, f19, f20, f21, f22,
      f23, f24, f25, f26, f27, f28, f29, f30, f31, f32, f33, f34, f35, s.frames, f37, f38, s.camFrames, f40, f41, f42,
      f43, f44, f45, f46, f47, f48, f49, f50, f51, f52, f53, f54, f55, f56, f57, f58, f59⟩ := ⟨h.camFrames, h.frames⟩

/-- A change of the frames of a tick that keeps their tick and their marks. -/
theorem Handled.modFrame {tick f} (ht : ∀ x, (f x).tick = x.tick) (hp : ∀ x, x.piped ⊆ (f x).piped) :
    Handled s₀ (s.modFrame tick f) := by
  refine ⟨h.camFrames, fun g hg => ?_⟩
  obtain ⟨x, hx, rfl⟩ := List.mem_map.mp hg
  obtain ⟨g₀, hg₀, he, hq⟩ := h.frames x hx
  refine ⟨g₀, hg₀, ?_⟩
  split
  · exact ⟨(ht x).trans he, fun _ hc => hp x (hq hc)⟩
  · exact ⟨he, hq⟩

/-- What events change is none of the frames. -/
theorem Handled.quiet {t} (ht : Quiet s t) : Handled s₀ t :=
  ⟨(congrArg State.camFrames ht.rest :).trans h.camFrames, (congrArg State.frames ht.rest :) ▸ h.frames⟩
theorem Handled.post {t} (ht : Posted s t) : Handled s₀ t := h.quiet ((Quiet.refl s).post ht)

theorem Handled.setReg {a v} : Handled s₀ (s.setReg a v) := h.update
theorem Handled.setFld {f v} : Handled s₀ (s.setFld f v) := h.setReg
theorem Handled.setFlag {f b} : Handled s₀ (s.setFlag f b) := h.setFld
theorem Handled.count {f n} : Handled s₀ (s.count f n) := h.setFld
theorem Handled.free : Handled s₀ s.free.2 := h.update
theorem Handled.event {code status source args} : Handled s₀ (s.event code status source args) := h.quiet (Quiet.refl s).event
theorem Handled.hand {kind cam bs tick tag} : Handled s₀ (s.hand kind cam bs tick tag) := h.quiet (Quiet.refl s).hand
theorem Handled.eventsN {fuel es} : Handled s₀ (s.eventsN fuel es) := h.quiet (Quiet.refl s).eventsN
theorem Handled.limitedEvent {code sub status source args} : Handled s₀ (s.limitedEvent code sub status source args) :=
  branch h (h.update.event)
theorem Handled.setClaims {n l} : Handled s₀ (s.setClaims n l) := h.post (Posted.refl s).setClaims
theorem Handled.finishHead {n status result} : Handled s₀ (s.finishHead n status result) :=
  h.post (Posted.refl s).finishHead
theorem Handled.finishWaiting {notify status result} : Handled s₀ (s.finishWaiting notify status result) :=
  h.post (Posted.refl s).finishWaiting

/-! ### Outputs -/

theorem Handled.fillBuf {n bytes tick tag st} : Handled s₀ (s.fillBuf n bytes tick tag st) := by
  unfold State.fillBuf
  split
  · exact h
  · exact (h.post (Posted.refl s).postMem.setRing.closeBuf).setClaims
theorem Handled.placeOutput {n o tick tag} : Handled s₀ (s.placeOutput n o tick tag) := by
  have hd : Handled s₀ ((s.drayFull false).2.passClaims n tick) := (h.quiet (Quiet.refl s).drayFull).setClaims
  unfold State.placeOutput
  dsimp only
  split
  · exact hd.count
  · exact branch hd.count.setClaims (branch hd.fillBuf hd.fillBuf.count)
theorem Handled.handOutput {o tick tag} : Handled s₀ (s.handOutput o tick tag) := by
  have hb {c : Prop} [Decidable c] {kind cam items payload} :
      Handled s₀ (if c then s.writeBlock kind cam items payload else ([], s)).2 := by
    split
    · exact h.quiet (Quiet.refl s).writeBlock
    · exact h
  unfold State.handOutput
  dsimp only
  split
  · exact hb.eventsN.placeOutput
  · exact hb.eventsN.count
theorem Handled.handDisplay {f cam time v ds} : Handled s₀ (s.handDisplay f cam time v ds) := by
  refine branch (branch h.count ?_) h
  split
  · exact h
  · exact h.free.update.handOutput
theorem Handled.handCoding {f cam time v ds} : Handled s₀ (s.handCoding f cam time v ds) := by
  refine branch ?_ h
  split
  · exact h
  · exact h.free.handOutput
theorem Handled.handMv {f cam time v ds} : Handled s₀ (s.handMv f cam time v ds) :=
  branch (h.foldl fun h => branch h h.handOutput) h
theorem Handled.handOutputs {f cam time v ds} : Handled s₀ (s.handOutputs f cam time v ds) := h.handDisplay.handCoding.handMv
theorem Handled.loseOutputs {f js time} : Handled s₀ (s.loseOutputs f js time) := by
  unfold State.loseOutputs
  refine h.foldl fun h => ?_
  split
  · exact h
  · exact h.setClaims.foldl fun h => h.fillBuf
theorem Handled.dropClaims : Handled s₀ s.dropClaims := h.foldl fun h => branch h h.setClaims
theorem Handled.handStats {f v ts} : Handled s₀ (s.handStats f v ts) := branch h.hand h
theorem Handled.keepStats {f ts} : Handled s₀ (s.keepStats f ts) := h.update

/-! ### Rounds, the drift detector and the flat-field acquisition -/

theorem Handled.capReached {f} : Handled s₀ (s.capReached f) := by
  unfold State.capReached
  split
  · exact h
  · extract_lets s1
    have h1 : Handled s₀ s1 := (h.modFrame (f := fun x => { x with capped := true }) (fun _ => rfl) fun _ _ hc => hc).count
    exact h1.limitedEvent
theorem Handled.addRound {f time d} : Handled s₀ (s.addRound f time d) :=
  have h1 {a b c g} (ht : ∀ x, (g x).tick = x.tick) (hp : ∀ x, x.piped ⊆ (g x).piped) := (((h.count (f := .SEG_SMALL_COUNT)
    (n := a)).count (f := .SEG_SPLIT_COUNT) (n := b)).count (f := .HIF_OVL_SEG_SEG) (n := c)).modFrame
      (tick := f.tick) (f := g) ht hp
  branch (h1 (fun _ => rfl) fun _ _ hc => hc).capReached (h1 (fun _ => rfl) fun _ _ hc => hc)
theorem Handled.classPixels {ps} : Handled s₀ (s.classPixels ps) :=
  have h1 : Handled s₀ (ps.foldl State.classEvent s) := h.foldl fun h => h.event
  branch h (branch h1.update (h1.foldl fun h => branch h.update.setFld h))
theorem Handled.observePixel {d draw found p} : Handled s₀ (State.observePixel d draw (s, found) p).1 := by
  unfold State.observePixel
  dsimp only
  split <;> exact h.update
theorem Handled.advanceGroup {d} : Handled s₀ (s.advanceGroup d) := branch h.update h
theorem Handled.detectDrift {f ds} : Handled s₀ (s.detectDrift f ds) := by
  refine branch h ?_
  split
  · exact h
  · exact (foldlOn Prod.fst h.free fun h => h.observePixel).update.advanceGroup.classPixels
theorem Handled.writeTable {key bank off bs} : Handled s₀ (s.writeTable key bank off bs) := h.update
theorem Handled.writeFlat {a g} : Handled s₀ (s.writeFlat a g) := by
  have h1 {k l} : Handled s₀ ((s.free.2.copyBank k).copyBank l) := h.free.update.update
  unfold State.writeFlat
  refine (foldl (foldl h1 fun h => foldl h fun {t k} h => ?_) fun h => h.writeTable).setReg.update
  split
  · exact h.writeTable
  · exact h
theorem Handled.endFlat {a st result} : Handled s₀ (s.endFlat a st result) := h.update.setFld.finishWaiting
theorem Handled.settleFlat : Handled s₀ s.settleFlat := by
  unfold State.settleFlat
  split
  · exact h
  · split
    · exact h
    · exact branch h.writeFlat.endFlat h
theorem Handled.flatFrame {f v ds ts} : Handled s₀ (s.flatFrame f v ds ts) := by
  unfold State.flatFrame
  split
  · exact h
  · exact branch h (branch (branch h.endFlat h.update) (branch h.endFlat (branch h.update.settleFlat (branch h.endFlat
      h.update))))

/-! ### The end of the frame's work -/

theorem Handled.learn {f d} : Handled s₀ (s.learn f d) := h.update
theorem Handled.dropFrames : Handled s₀ s.dropFrames :=
  ⟨h.camFrames, fun g hg => h.frames g (List.mem_filter.mp hg).1⟩
theorem Handled.flushTracks {tick tag service all} : Handled s₀ (s.flushTracks tick tag service all) :=
  h.update.foldl fun h => h.hand
theorem Handled.settleDrain : Handled s₀ s.settleDrain := by
  unfold State.settleDrain
  split
  · exact h
  · extract_lets t _ s1
    have h1 : Handled s₀ s1 := branch h h.flushTracks.update
    exact branch h1.update.setFlag h1
theorem Handled.acceptCommit {q d target} : Handled s₀ (s.acceptCommit q d target) :=
  branch h.finishHead (h.update.post (Posted.refl _).nextHead)
theorem Handled.tryCommit {q d} : Handled s₀ (s.tryCommit q d) := by
  unfold State.tryCommit
  split
  · exact h.finishHead
  · exact branch h.update h.acceptCommit
theorem Handled.retryCommits : Handled s₀ s.retryCommits := by
  unfold State.retryCommits
  refine h.foldl fun h => ?_
  split
  · exact branch h.tryCommit h
  · exact h

end

/-! ## The pipelines -/

/-- A frame's mark is set in every frame of its tick. -/
theorem marked_markPiped (s : State) (f : Frame) (cam : Nat) (done : Bool) :
    ∀ g ∈ (s.markPiped f cam done).frames, g.tick = f.tick → cam ∈ g.piped := by
  intro g hg ht
  obtain ⟨x, -, rfl⟩ := List.mem_map.mp hg
  by_cases hx : x.tick = f.tick
  · rw [if_pos hx]
    exact List.mem_cons_self
  · rw [if_neg hx] at ht
    exact absurd ht hx

/-- Delivery of the optical-black words keeps the tick of a frame. -/
theorem tick_deliverOb (f : Frame) (depth : Nat) : (f.deliverOb depth).tick = f.tick :=
  List.foldlRecOn (motive := fun g : Frame => g.tick = f.tick) f.wireOb.zipIdx _ rfl fun _ h _ _ => h

/-- Delivery keeps the tick of a frame. -/
theorem tick_deliver (s : State) (f : Frame) : (s.deliver f).tick = f.tick := by
  unfold State.deliver
  split
  · rfl
  · exact tick_deliverOb _ _

/-- Pipeline 0 marks the frames of its frame's tick. -/
theorem marked_pipeOwn (s : State) (f : Frame) : ∀ g ∈ (s.pipeOwn f).frames, g.tick = f.tick → 0 ∈ g.piped := by
  rw [← tick_deliver s f]
  unfold State.pipeOwn
  dsimp only
  split
  · exact (Handled.refl _).handStats.keepStats.flatFrame.loseOutputs.marked (marked_markPiped s _ 0 true)
  · exact (((Handled.refl _).foldl fun h => h.learn).count.foldl
      fun h => h.addRound).handOutputs.handStats.keepStats.detectDrift.flatFrame.marked (marked_markPiped _ _ 0 false)

/-- The pipeline of a companion takes its frame out of those that wait, and no other. -/
theorem camFrames_pipeCam (s : State) (f : Frame) (x : CamFrame) :
    (s.pipeCam f x).camFrames = s.camFrames.filter fun y => !(y == x) := by
  unfold State.pipeCam
  extract_lets s0 v half d f1 s1 s2 s3
  have h0 : s0.camFrames = s.camFrames.filter fun y => !(y == x) := rfl
  have h1 : s1.camFrames = s0.camFrames := rfl
  split
  · exact (Handled.refl _).loseOutputs.camFrames.trans h0
  · have h2 : Handled s1 s2 := (Handled.refl s1).learn.count
    have h3 : Handled s1 s3 := .branch h2.addRound h2
    exact h3.handOutputs.camFrames.trans (h1.trans h0)

/-- The pipeline of camera 0 takes the frame that is next and due. -/
theorem pipeline_own {s : State} {f : Frame} (hf : s.nextOwn = some f) (hd : s.ownDue f = true) :
    s.pipeline 0 = s.pipeOwn f := by
  unfold State.pipeline
  rw [if_pos rfl, hf]
  exact if_pos hd

/-- The pipeline of a companion camera takes the frame that is next. -/
theorem camFrames_pipeline {s : State} {cam : Nat} {x : CamFrame} (hc : cam ≠ 0) (hx : s.nextCam cam = some x) :
    (s.pipeline cam).camFrames = s.camFrames.filter fun y => !(y == x) := by
  unfold State.pipeline
  rw [if_neg hc, hx]
  dsimp only
  split
  · exact camFrames_pipeCam ..
  · rfl

/-- What follows the pipeline in a step: claims without a frame and frames without work go, the drain may be over, and where a
flat-field acquisition has ended, COMMITs that waited for it are tried again. -/
def endPipeline (acquiring : Bool) (s : State) : State :=
  if acquiring && s.dropClaims.dropFrames.settleDrain.cal.flat.isNone then s.dropClaims.dropFrames.settleDrain.retryCommits
  else s.dropClaims.dropFrames.settleDrain

theorem handled_endPipeline (acquiring : Bool) (s : State) : Handled s (endPipeline acquiring s) :=
  have h := (Handled.refl s).dropClaims.dropFrames.settleDrain
  .branch h.retryCommits h

/-- PIPELINE_FRAME with the X domain clocked. -/
theorem exec_pipelineFrame_of_clocked {s : State} {reads : MemoryStep} {cam : Fin 4} {u : State} (hu : u = s.advance reads.dt)
    (hg : u.gated 1 = false) (ha : u.alive = true) : exec (.pipelineFrame reads cam) s =
      .next (endPipeline u.cal.flat.isSome ((u.sramErrors u.errorTick reads.sram).pipeline cam.val)) := by
  have he : exec (.pipelineFrame reads cam) s = .next (if u.gated 1 || !u.alive then u
      else endPipeline u.cal.flat.isSome ((u.sramErrors u.errorTick reads.sram).pipeline cam.val)) := by
    subst hu
    rfl
  rw [he, hg, ha, if_neg (by decide)]

/-- Settles O20: pipeline 0 marks the frames of the tick and a companion's pipeline takes its frame out; nothing that follows
in the step takes a mark away or touches the companion frames (`Handled`). -/
theorem pipelineTakesTheNextFrame : Obligations.PipelineTakesTheNextFrame := by
  refine ⟨?_, ?_⟩
  · intro s reads f u v w hg ha hf hd
    have he := exec_pipelineFrame_of_clocked (s := s) (reads := reads) (cam := 0) rfl hg ha
    rw [show (0 : Fin 4).val = 0 from rfl, pipeline_own hf hd] at he
    refine ⟨endPipeline u.cal.flat.isSome (v.pipeOwn f), he, ?_, (handled_endPipeline _ _).marked (marked_pipeOwn v f)⟩
    rw [endPipeline]
  · intro s reads cam x u v hg ha hc hx
    refine ⟨_, exec_pipelineFrame_of_clocked rfl hg ha, ?_⟩
    exact (handled_endPipeline _ _).camFrames.trans (camFrames_pipeline hc hx)

end Sys2Proof.Safety
end

section
/-! PROOF. The pulses of the trigger outputs (R168, R300). -/

namespace Sys2Proof.Safety

open Sys2Proof.Machine

/-! ## A firing compare unit starts pulses -/

@[simp] theorem trigOut_setTrigOut_self (s : State) (k : Nat) (x : TrigOut) : (s.setTrigOut k x).trigOut k = x :=
  Store.get_set_self _ _ _ _

theorem trigOut_setTrigOut_ne (s : State) {j k : Nat} (x : TrigOut) (h : k ≠ j) :
    (s.setTrigOut j x).trigOut k = s.trigOut k := Store.get_set_ne _ _ _ h

theorem trigOut_congr {s t : State} (h : t.trigOuts = s.trigOuts) (k : Nat) : t.trigOut k = s.trigOut k := by
  rw [State.trigOut, State.trigOut, h]

/-- `t` differs from `s` in the trigger outputs only. -/
def OnlyTrigs (s t : State) : Prop := t = { s with trigOuts := t.trigOuts }

/-- The share of output `k` in a firing of compare unit `n`. -/
def fireTrig (n : Nat) (s : State) (k : Nat) : State :=
  if !s.standby && s.fld (.CSX_TO_CFG_MODE k) == 2 && s.fld (.CSX_TO_CFG_CMP k) == n then s.queueTrig k 0 else s

theorem fireTrig_of_selected {n k : Nat} {s : State} (hs : s.standby = false) (hm : s.fld (.CSX_TO_CFG_MODE k) = 2)
    (hc : s.fld (.CSX_TO_CFG_CMP k) = n) : fireTrig n s k = s.queueTrig k 0 := if_pos (by simp [hs, hm, hc])

theorem OnlyTrigs.refl (s : State) : OnlyTrigs s s := rfl

theorem OnlyTrigs.clk {s t : State} (h : OnlyTrigs s t) : t.clk = s.clk := (congrArg State.clk h :)

theorem OnlyTrigs.fld {s t : State} (h : OnlyTrigs s t) (f : Fld) : t.fld f = s.fld f :=
  fld_congr (congrArg State.regs h :) f

theorem OnlyTrigs.standby {s t : State} (h : OnlyTrigs s t) : t.standby = s.standby :=
  congrArg (· == 2) (h.fld .PWR_STATE_STATE)

theorem OnlyTrigs.fireTrig {s t : State} (h : OnlyTrigs s t) (n k : Nat) : OnlyTrigs s (fireTrig n t k) := by
  unfold Safety.fireTrig
  split
  · exact (congrArg (fun u : State => { u with trigOuts := (t.queueTrig k 0).trigOuts }) h :)
  · exact h

theorem OnlyTrigs.fireTrigs {s t : State} (h : OnlyTrigs s t) (n : Nat) (l : List Nat) :
    OnlyTrigs s (l.foldl (Safety.fireTrig n) t) := by
  induction l generalizing t with
  | nil => exact h
  | cons k l ih => exact ih (h.fireTrig n k)

/-- An output has no share in those of others. -/
theorem trigOut_fireTrigs_of_notMem {k : Nat} (n : Nat) {l : List Nat} (h : k ∉ l) (s : State) :
    (l.foldl (fireTrig n) s).trigOut k = s.trigOut k := by
  induction l generalizing s with
  | nil => rfl
  | cons j l ih =>
    obtain ⟨hj, hl⟩ := not_or.mp (mt List.mem_cons.mpr h)
    refine (ih hl _).trans ?_
    unfold fireTrig
    split
    · exact trigOut_setTrigOut_ne s _ hj
    · rfl

/-- The queue of an output in COMPARE mode after its unit has fired: one pulse more, from now on. -/
theorem queue_fireTrigs {k n : Nat} {l : List Nat} {s : State} (hl : l.Nodup) (hk : k ∈ l) (hs : s.standby = false)
    (hm : s.fld (.CSX_TO_CFG_MODE k) = 2) (hc : s.fld (.CSX_TO_CFG_CMP k) = n) :
    ((l.foldl (fireTrig n) s).trigOut k).queue = (s.trigOut k).queue ++
      [⟨s.clk, s.clk + s.fld (.CSX_TO_WIDTH_VALUE k), !s.flag (.CSX_TO_CFG_POL k)⟩] := by
  obtain ⟨before, after, rfl⟩ := List.append_of_mem hk
  obtain ⟨hnot, -⟩ := List.nodup_cons.mp (List.nodup_middle.mp hl)
  obtain ⟨hbefore, hafter⟩ := not_or.mp (mt List.mem_append.mpr hnot)
  have hsame := trigOut_fireTrigs_of_notMem n hbefore s
  have honly := (OnlyTrigs.refl s).fireTrigs n before
  rw [List.foldl_append, List.foldl_cons, trigOut_fireTrigs_of_notMem n hafter]
  generalize before.foldl (fireTrig n) s = t at hsame honly ⊢
  have hsel := fireTrig_of_selected (honly.standby.trans hs) ((honly.fld _).trans hm) ((honly.fld _).trans hc)
  rw [hsel, State.queueTrig, trigOut_setTrigOut_self, hsame, honly.clk, honly.fld, State.flag, honly.fld]
  rfl

/-- Of what follows the pulses at a firing, TSYNC_OUT is not a trigger output. -/
theorem trigOuts_fireOutputs (s : State) (n : Nat) :
    (s.fireOutputs n).trigOuts = ((List.range 4).foldl (fireTrig n) s).trigOuts := by
  change (if _ then _ else (List.range 4).foldl (fireTrig n) s).trigOuts = _
  split <;> rfl

theorem Quiet.trigOuts {s₀ s : State} (h : Quiet s₀ s) : s.trigOuts = s₀.trigOuts := (congrArg State.trigOuts h.rest :)

/-- `s` has the trigger outputs of `s₀`. -/
def SameTrigs (s₀ s : State) : Prop := s.trigOuts = s₀.trigOuts

theorem SameTrigs.refl (s : State) : SameTrigs s s := rfl

theorem SameTrigs.branch {s₀ s t : State} {c : Prop} {inst : Decidable c} (hs : SameTrigs s₀ s) (ht : SameTrigs s₀ t) :
    SameTrigs s₀ (if c then s else t) := by split <;> assumption

section
variable {s₀ s : State} (h : SameTrigs s₀ s)
include h

theorem SameTrigs.quiet {t} (ht : Quiet s t) : SameTrigs s₀ t := ht.trigOuts.trans h
theorem SameTrigs.setFld {f v} : SameTrigs s₀ (s.setFld f v) := h
theorem SameTrigs.setFlag {f b} : SameTrigs s₀ (s.setFlag f b) := h
theorem SameTrigs.count {f n} : SameTrigs s₀ (s.count f n) := h
theorem SameTrigs.setPower {x} : SameTrigs s₀ { s with power := x } := h
theorem SameTrigs.setSeq {x} : SameTrigs s₀ { s with seq := x } := h
theorem SameTrigs.setThermal {x} : SameTrigs s₀ { s with thermal := x } := h
theorem SameTrigs.setCompare {n c} : SameTrigs s₀ (s.setCompare n c) := h
theorem SameTrigs.raise {src} (hs : src ≤ 272) : SameTrigs s₀ (s.raise src) := h.quiet ((Quiet.refl s).raise hs)
theorem SameTrigs.finishWaiting {notify status result} : SameTrigs s₀ (s.finishWaiting notify status result) :=
  h.quiet ((Quiet.refl s).post (Posted.refl s).finishWaiting)
theorem SameTrigs.abortSleep : SameTrigs s₀ s.abortSleep := h.setPower.setFlag.count.finishWaiting
theorem SameTrigs.wakeFires {src} : SameTrigs s₀ (s.wakeFires src) :=
  have h2 := branch h.setFld.abortSleep h.setFld
  branch h (branch h (branch h2 h2.setPower))
theorem SameTrigs.reloadCompare {n} : SameTrigs s₀ (s.reloadCompare n) := h.setCompare.count
theorem SameTrigs.candidate {lat} : SameTrigs s₀ (s.candidate lat) :=
  branch h.setThermal (branch h.setSeq.count (branch h.setSeq.count (branch h.count h.setSeq.setSeq)))

end

/-- What a firing does beside the pulses it starts leaves the trigger outputs alone. -/
theorem SameTrigs.fire (s : State) {n : Nat} (hn : n < 16) :
    SameTrigs ((s.setFld .CMP_FIRED_FIRED (putBit (s.fld .CMP_FIRED_FIRED) n true)).fireOutputs n) (s.fire n) :=
  have h1 := refl ((s.setFld .CMP_FIRED_FIRED (putBit (s.fld .CMP_FIRED_FIRED) n true)).fireOutputs n)
  have h2 := branch (h1.raise (by omega)) h1
  have h3 := branch h2.wakeFires h2
  have h4 := branch h3.reloadCompare h3.setFlag
  branch h4.candidate h4

/-- COMPARE_FIRE of a due unit. -/
theorem exec_compareFire_of_due {s : State} {dt : Nat} {n : Fin 16} (h : (s.advance dt).compareDue n.val = true) :
    exec (.compareFire dt n) s = .next ((s.advance dt).fire n.val) :=
  congrArg Host.Outcome.next (if_pos h)

/-- The queue of an output in COMPARE mode after its unit has fired. -/
theorem queue_fire {s : State} {k n : Nat} (hk : k < 4) (hn : n < 16) (hs : s.standby = false)
    (hm : s.fld (.CSX_TO_CFG_MODE k) = 2) (hc : s.fld (.CSX_TO_CFG_CMP k) = n) :
    ((s.fire n).trigOut k).queue = (s.trigOut k).queue ++
      [⟨s.clk, s.clk + s.fld (.CSX_TO_WIDTH_VALUE k), !s.flag (.CSX_TO_CFG_POL k)⟩] := by
  have hregs {a : Nat} (ha : a ≠ Reg.CMP_FIRED) := reg_setFld_ne s (f := .CMP_FIRED_FIRED)
    (putBit (s.fld .CMP_FIRED_FIRED) n true) ha
  have htrigs := State.setFld_trigOuts s .CMP_FIRED_FIRED (putBit (s.fld .CMP_FIRED_FIRED) n true)
  have hclk := State.setFld_clk s .CMP_FIRED_FIRED (putBit (s.fld .CMP_FIRED_FIRED) n true)
  rw [trigOut_congr ((SameTrigs.fire s hn).trans (trigOuts_fireOutputs _ n))]
  generalize s.setFld .CMP_FIRED_FIRED (putBit (s.fld .CMP_FIRED_FIRED) n true) = u at hregs htrigs hclk ⊢
  have hcfg := hregs (a := Reg.CSX_TO_CFG k) (by dsimp only [Reg.CSX_TO_CFG, Reg.CMP_FIRED]; omega)
  have hwidth := hregs (a := Reg.CSX_TO_WIDTH k) (by dsimp only [Reg.CSX_TO_WIDTH, Reg.CMP_FIRED]; omega)
  have hstate := hregs (a := Reg.PWR_STATE) (by decide)
  rw [queue_fireTrigs List.nodup_range (List.mem_range.mpr hk)
    ((congrArg (· == 2) (fld_of_reg (f := .PWR_STATE_STATE) hstate)).trans hs)
    ((fld_of_reg (f := .CSX_TO_CFG_MODE k) hcfg).trans hm) ((fld_of_reg (f := .CSX_TO_CFG_CMP k) hcfg).trans hc),
    trigOut_congr htrigs, hclk, fld_of_reg (f := .CSX_TO_WIDTH_VALUE k) hwidth, State.flag,
    fld_of_reg (f := .CSX_TO_CFG_POL k) hcfg, ← State.flag]

/-! ## A pulse begins and ends -/

/-- Output `k` becomes `x`, and its pin takes the level `b`. -/
def driveTrig (s : State) (k : Nat) (x : TrigOut) (b : Bool) : State := (s.setTrigOut k x).setPin (4 + k) b

theorem driveTrig_spec (s : State) (k : Nat) (x : TrigOut) (b : Bool) :
    (driveTrig s k x b).pin (4 + k) = b ∧ (∀ n, n ≠ 4 + k → (driveTrig s k x b).pin n = s.pin n) ∧
      (driveTrig s k x b).trigOut k = x ∧
      driveTrig s k x b = { s with
        pins := (driveTrig s k x b).pins, tbu := (driveTrig s k x b).tbu, trigOuts := (driveTrig s k x b).trigOuts } ∧
      (driveTrig s k x b).tbu = { s.tbu with lastEdge := (driveTrig s k x b).tbu.lastEdge } :=
  ⟨pin_setPin_self _ _ _, fun _ hn => pin_setPin_ne _ _ hn, trigOut_setTrigOut_self s k x, rfl, tbu_setPin _ _ _⟩

/-- A pulse that begins joins one under way, and else gives the output its level and its end. -/
theorem begin_spec (x : TrigOut) (p : TrigPulse) :
    (x.begin_ p).level = (if x.active then x.level else p.level) ∧ (x.begin_ p).active = true ∧
      (x.begin_ p).until_ = (if x.active then max x.until_ p.until_ else p.until_) ∧
      (x.begin_ p).queue = x.queue.erase p := by
  unfold TrigOut.begin_
  dsimp only
  split
  next ha => exact ⟨rfl, ha, rfl, rfl⟩
  next => exact ⟨rfl, rfl, rfl, rfl⟩

/-- TRIG_OUT_ACTIVE at the time of a started pulse. -/
theorem exec_trigOutActive_of_due {s : State} {dt : Nat} {k : Fin 4} {p : TrigPulse} (ha : (s.advance dt).alive = true)
    (hs : (s.advance dt).standby = false) (ht : (s.advance dt).tbRuns = true)
    (hp : (s.advance dt).trigDue k.val = some p) :
    exec (.trigOutActive dt k) s = .next (driveTrig (s.advance dt) k.val (((s.advance dt).trigOut k.val).begin_ p)
      (((s.advance dt).trigOut k.val).begin_ p).level) := by
  refine congrArg Host.Outcome.next ?_
  rw [hp]
  exact if_neg (by simp [ha, hs, ht])

/-- TRIG_OUT_INACTIVE at or after the end of the pulse under way. -/
theorem exec_trigOutInactive_of_over {s : State} {dt : Nat} {k : Fin 4}
    (ha : ((s.advance dt).trigOut k.val).active = true) (ht : (s.advance dt).tbRuns = true)
    (hu : ((s.advance dt).trigOut k.val).until_ ≤ (s.advance dt).clk) :
    exec (.trigOutInactive dt k) s = .next (driveTrig (s.advance dt) k.val
      { (s.advance dt).trigOut k.val with active := false } ((s.advance dt).trigRest k.val)) :=
  congrArg Host.Outcome.next (if_pos (by simp [ha, ht, hu]))

/-- Settles O19: a firing adds one pulse to the queue of each output that selects its unit, and the start and the end of a
pulse each drive the output and its pin alone. -/
theorem triggerOutputsPulse : Obligations.TriggerOutputsPulse := by
  refine ⟨?_, ?_, ?_⟩
  · intro s dt k n u hd hs hm hc
    exact ⟨_, exec_compareFire_of_due hd, queue_fire k.isLt n.isLt hs hm hc⟩
  · intro s dt k p u ha hs ht hp
    obtain ⟨hlevel, hactive, huntil, hqueue⟩ := begin_spec (u.trigOut k.val) p
    obtain ⟨hpin, hpins, htrig, hrest, htbu⟩ := driveTrig_spec u k.val ((u.trigOut k.val).begin_ p)
      ((u.trigOut k.val).begin_ p).level
    refine ⟨_, exec_trigOutActive_of_due ha hs ht hp, hpin.trans hlevel, hpins, ?_, ?_, ?_, hrest, htbu⟩
    all_goals rw [htrig]
    · exact hactive
    · exact huntil
    · exact hqueue
  · intro s dt k u ha ht hu
    obtain ⟨hpin, hpins, htrig, hrest, htbu⟩ := driveTrig_spec u k.val { u.trigOut k.val with active := false }
      (u.trigRest k.val)
    exact ⟨_, exec_trigOutInactive_of_over ha ht hu, hpin, hpins, by rw [htrig], hrest, htbu⟩

end Sys2Proof.Safety
end

section
/-! PROOF. What the CSI-2 receiver makes of the packets of the companion cameras (R157 to R162, R166, R169).

Between the receipt of a packet and what it does to the companion frames, only counters of errors change (`Counted`), and
none of them is looked at there. -/

namespace Sys2Proof.Safety

open Sys2Proof.Machine

/-! ## Counters of errors -/

/-- The registers in which the receiver counts corrected headers, and malformed and dropped frames. -/
def ErrorCounter (a : Nat) : Prop := a = Reg.CSX_ECC_CORR ∨ ∃ k, a = Reg.CSX_CAM_ERR k

/-- `t` differs from `s` at most in counters of errors and in the companion frames. -/
structure Counted (s t : State) : Prop where
  rest : { t with regs := [], camFrames := [] } = { s with regs := [], camFrames := [] }
  regs : RegsKept s t ErrorCounter

theorem Counted.refl (s : State) : Counted s s := ⟨rfl, fun _ _ => rfl⟩

theorem Counted.tb {s t : State} (h : Counted s t) : t.tb = s.tb := (congrArg State.tb h.rest :)

theorem Counted.frames {s t : State} (h : Counted s t) : t.frames = s.frames := (congrArg State.frames h.rest :)

theorem Counted.fld {s t : State} (h : Counted s t) {f : Fld} (hf : ¬ ErrorCounter f.addr) : t.fld f = s.fld f :=
  fld_of_reg (h.regs _ hf)

theorem Counted.flag {s t : State} (h : Counted s t) {f : Fld} (hf : ¬ ErrorCounter f.addr) : t.flag f = s.flag f :=
  congrArg (· == 1) (h.fld hf)

theorem Counted.count {s t : State} (h : Counted s t) {f : Fld} {n : Nat} (hf : ErrorCounter f.addr) :
    Counted s (t.count f n) :=
  ⟨h.rest, fun a ha => (reg_count_ne t n fun (e : a = f.addr) => ha (e ▸ hf)).trans (h.regs a ha)⟩

theorem Counted.setCamFrames {s t : State} (h : Counted s t) {l : List CamFrame} : Counted s { t with camFrames := l } :=
  ⟨h.rest, h.regs⟩

theorem not_errorCounter_of_lt {a : Nat} (ha : a < 0x2008) : ¬ ErrorCounter a := by
  rintro (h | ⟨j, h⟩)
  · dsimp only [Reg.CSX_ECC_CORR] at h; omega
  · dsimp only [Reg.CSX_CAM_ERR] at h; omega

/-- No setting of a camera stands in a counter of errors. -/
theorem not_errorCounter_cam {b k : Nat} (hl : 0x2008 < b := by decide) (hm : b % 0x20 ≠ 0x14 := by decide) :
    ¬ ErrorCounter (b + 0x20 * k) := by
  rintro (h | ⟨j, h⟩)
  · dsimp only [Reg.CSX_ECC_CORR] at h; omega
  · dsimp only [Reg.CSX_CAM_ERR] at h; omega

/-! ## What does not look at them -/

section
variable {s t : State} (h : Counted s t)
include h

theorem Counted.running : t.running = s.running := h.flag (not_errorCounter_of_lt (by decide))

theorem Counted.tickOfTime (x : Time) : t.tickOfTime x = s.tickOfTime x := by
  unfold State.tickOfTime
  rw [h.frames]

theorem Counted.correctedNow (n : Nat) : t.correctedNow n = s.correctedNow n := by
  unfold State.correctedNow
  rw [h.tb, h.fld not_errorCounter_cam]

/-- The settings of a frame that starts now, wherever they come from. -/
theorem Counted.camView (n : Nat) : RegsKept (s.camView n) (t.camView n) ErrorCounter := by
  unfold State.camView
  rw [h.correctedNow, h.tickOfTime]
  split
  · exact fun _ _ => rfl
  · exact h.regs

theorem Counted.camsOn (vc : Nat) : t.camsOn vc = s.camsOn vc := by
  unfold State.camsOn
  refine List.filter_congr fun n _ => ?_
  have hreg := h.camView n (Reg.CSX_CAM_CFG (n - 1)) not_errorCounter_cam
  dsimp only
  rw [State.flag, fld_of_reg (f := .CSX_CAM_CFG_EN (n - 1)) hreg, fld_of_reg (f := .CSX_CAM_CFG_VC (n - 1)) hreg]
  rfl

theorem Counted.takesType (hc : t.camFrames = s.camFrames) (vc dt : Nat) : t.takesType vc dt = s.takesType vc dt := by
  have hreg (n : Nat) := h.regs (Reg.CSX_CAM_CFG (n - 1)) not_errorCounter_cam
  have ho : t.openCams vc = s.openCams vc := by rw [State.openCams, hc, State.openCams]
  unfold State.takesType
  rw [ho]
  simp only [State.flag, fld_of_reg (f := .CSX_CAM_CFG_EN _) (hreg _), fld_of_reg (f := .CSX_CAM_CFG_VC _) (hreg _),
    fld_of_reg (f := .CSX_CAM_CFG_DT _) (hreg _)]

theorem Counted.takeCam (x : CamFrame) : t.takeCam x = s.takeCam x := by
  have hn : t.newest = s.newest := by rw [State.newest, h.frames, State.newest]
  unfold State.takeCam
  rw [h.running, h.tickOfTime, hn]

end

/-- Waiting in the merge buffer depends on the frames at hand and on the settings of the cameras. -/
theorem mustWait_congr {s t v w : State} (hc : t.camFrames = s.camFrames) (hr : RegsKept v w ErrorCounter) (n : Nat) :
    t.mustWait w n = s.mustWait v n := by
  have hen (m : Nat) := hr (Reg.CSX_CAM_CFG (m - 1)) not_errorCounter_cam
  have hpipe (m : Nat) := hr (Reg.CSX_CAM_STAT (m - 1)) not_errorCounter_cam
  unfold State.mustWait State.camPipe
  simp only [State.flag, fld_of_reg (f := .CSX_CAM_CFG_EN _) (hen _), fld_of_reg (f := .CSX_CAM_STAT_PIPE _) (hpipe _), hc]

/-! ## Headers and lanes -/

/-- The receiver with the lanes shown, after a packet header that is good or corrected. -/
def headerCounted (s : State) (header : HeaderEcc) : State :=
  if header = .corrected then s.count .CSX_ECC_CORR_COUNT 1 else s

theorem csiHeader_of_counts (s : State) {header : HeaderEcc} (h : header ≠ .uncorrected) :
    s.csiHeader header = (headerCounted s header, true) := by
  cases header with
  | good => rfl
  | corrected => rfl
  | uncorrected => exact absurd rfl h

theorem Counted.header {s t : State} (h : Counted s t) (header : HeaderEcc) : Counted s (headerCounted t header) := by
  unfold headerCounted
  split
  · exact h.count (.inl rfl)
  · exact h

theorem camFrames_headerCounted (s : State) (header : HeaderEcc) : (headerCounted s header).camFrames = s.camFrames := by
  unfold headerCounted
  split
  · exact State.count_camFrames _ _ _
  · rfl

theorem reg_headerCounted_ne (s : State) (header : HeaderEcc) {a : Nat} (h : a ≠ Reg.CSX_ECC_CORR) :
    (headerCounted s header).reg a = s.reg a := by
  unfold headerCounted
  split
  · exact reg_count_ne s 1 h
  · rfl

theorem eccCorr_headerCounted (s : State) (header : HeaderEcc) : (headerCounted s header).fld .CSX_ECC_CORR_COUNT =
    if header = .corrected then min (2 ^ 32 - 1) (s.fld .CSX_ECC_CORR_COUNT + 1) else s.fld .CSX_ECC_CORR_COUNT := by
  unfold headerCounted
  split
  · exact fld_count_self s _ 1 (by decide) (by decide)
  · rfl

/-- The lanes show in STOP and HS of CSX_LINK_STAT, and nothing else changes. -/
theorem showLanes_spec (s : State) (l : CsiLanes) : (s.showLanes l).fld .CSX_LINK_STAT_STOP = l.stop.toNat ∧
    (s.showLanes l).flag .CSX_LINK_STAT_HS = l.hs ∧ RegsKept s (s.showLanes l) (· = Reg.CSX_LINK_STAT) ∧
    OnlyRegs s (s.showLanes l) := by
  refine ⟨?_, flag_setFlag_self _ _ _ rfl (by decide), fun a ha => ?_, ((OnlyRegs.refl s).setFld).setFld⟩
  · refine (fld_setFld_apart (f := .CSX_LINK_STAT_HS) (g := .CSX_LINK_STAT_STOP) _ _ rfl (by decide)
      (by decide) (.inl (by decide))).trans ?_
    rw [fld_setFld_self _ _ _ (by decide) (by decide)]
    exact Nat.mod_eq_of_lt l.stop.isLt
  · exact (reg_setFlag_ne _ _ ha).trans (reg_setFld_ne _ _ ha)

/-- Whether the receiver runs does not depend on the lanes. -/
theorem csiOn_showLanes (s : State) (l : CsiLanes) : (s.showLanes l).csiOn = s.csiOn := by
  obtain ⟨-, -, hreg, hrest⟩ := showLanes_spec s l
  have halive : (s.showLanes l).alive = s.alive := (congrArg State.alive hrest :)
  have hstate := fld_of_reg (f := .PWR_STATE_STATE) (hreg Reg.PWR_STATE (by decide))
  have hen := fld_of_reg (f := .CSX_LINK_CFG_EN) (hreg Reg.CSX_LINK_CFG (by decide))
  unfold State.csiOn State.standby State.flag
  rw [halive, hstate, hen]

/-! ## Packets -/

section
variable {s : State} {dt : Nat} {vc : Fin 16} {header : HeaderEcc} {lanes : CsiLanes} {p : CsiPacket}

/-- A frame start after its header: what is open on the channel goes, and each camera that takes the channel starts a frame. -/
def startFrames (s : State) (vc : Nat) : State :=
  let s1 := (s.openCams vc).foldl State.malformed s
  ((s1.camsOn vc).foldl (State.camStart · vc) s1).showBuffered

theorem exec_csiFrameStart_of_counts (hon : ((s.advance dt).showLanes lanes).csiOn = true) (hh : header ≠ .uncorrected) :
    exec (.csiFrameStart dt ⟨vc, header, lanes⟩) s = .next
      (startFrames (headerCounted ((s.advance dt).showLanes lanes) header) vc.val) := by
  refine congrArg Host.Outcome.next ((if_pos ((csiOn_showLanes _ lanes).symm.trans hon)).trans ?_)
  dsimp only
  rw [csiHeader_of_counts _ hh]
  rfl

/-- The frames `l` that are open on the channel end. -/
theorem exec_csiFrameEnd_of_counts {l : List CamFrame} (hon : ((s.advance dt).showLanes lanes).csiOn = true)
    (hh : header ≠ .uncorrected) (hl : ((s.advance dt).showLanes lanes).openCams vc.val = l) :
    exec (.csiFrameEnd dt ⟨vc, header, lanes⟩) s = .next
      (l.foldl State.camEnd (headerCounted ((s.advance dt).showLanes lanes) header)).showBuffered := by
  refine congrArg Host.Outcome.next ((if_pos ((csiOn_showLanes _ lanes).symm.trans hon)).trans ?_)
  dsimp only
  rw [csiHeader_of_counts _ hh, ← hl, State.openCams, State.openCams, camFrames_headerCounted]
  rfl

/-- What a long packet that counts does: it is skipped, or a line of the open frames that it belongs to. -/
def takeLine (s : State) (p : CsiPacket) : State :=
  if !s.takesType p.vc.val p.dataType.toNat then s.count .CSX_DT_SKIP_COUNT 1
  else State.modCam (if p.crcOk then s else (s.count .CSX_CRC_COUNT 1).charge 8 0)
    (fun x => x.isOpen p.vc.val && x.dt == p.dataType.toNat)
    fun x => { x with lines := x.lines ++ [⟨unpackRaw p.dataType.toNat p.payload, p.crcOk⟩] }

theorem exec_csiLongPacket_of_counts (hon : ((s.advance dt).showLanes p.lanes).csiOn = true)
    (hh : p.header ≠ .uncorrected) : exec (.csiLongPacket dt p) s = .next
      (takeLine (headerCounted ((s.advance dt).showLanes p.lanes) p.header) p) := by
  refine congrArg Host.Outcome.next ((if_pos ((csiOn_showLanes _ p.lanes).symm.trans hon)).trans ?_)
  dsimp only
  rw [csiHeader_of_counts _ hh]
  rfl

/-- A packet whose header cannot be corrected only counts. -/
theorem exec_csi_of_uncorrected (hon : ((s.advance dt).showLanes lanes).csiOn = true) :
    ∀ c ∈ [Instr.csiFrameStart dt ⟨vc, .uncorrected, lanes⟩, .csiFrameEnd dt ⟨vc, .uncorrected, lanes⟩,
      .csiLongPacket dt { p with header := .uncorrected, lanes := lanes }],
      exec c s = .next (((s.advance dt).showLanes lanes).count .CSX_ECC_UNCORR_COUNT 1) := by
  have hon' := (csiOn_showLanes _ lanes).symm.trans hon
  intro c hc
  simp only [List.mem_cons, List.not_mem_nil, or_false] at hc
  rcases hc with rfl | rfl | rfl
  all_goals exact congrArg Host.Outcome.next (if_pos hon')

end

/-! ## The start of a frame -/

theorem Counted.malformed {s t : State} (h : Counted s t) (x : CamFrame) : Counted s (t.malformed x) :=
  (h.count (.inr ⟨_, rfl⟩)).setCamFrames

theorem Counted.malformeds {s t : State} (h : Counted s t) (l : List CamFrame) : Counted s (l.foldl State.malformed t) := by
  induction l generalizing t with
  | nil => exact h
  | cons x l ih => exact ih (h.malformed x)

theorem camFrames_malformed (s : State) (x : CamFrame) :
    (s.malformed x).camFrames = s.camFrames.filter fun y => !(y == x) :=
  congrArg (List.filter _) (State.count_camFrames s _ _)

theorem camFrames_malformeds (s : State) (l : List CamFrame) :
    (l.foldl State.malformed s).camFrames = s.camFrames.filter (· ∉ l) := by
  induction l generalizing s with
  | nil => simp
  | cons x l ih =>
    rw [List.foldl_cons, ih, camFrames_malformed, List.filter_filter]
    refine List.filter_congr fun y _ => ?_
    by_cases hy : y = x <;> simp [hy]

/-- The frames of a channel that are still being received go. -/
theorem camFrames_malformeds_open (s : State) (vc : Nat) :
    ((s.openCams vc).foldl State.malformed s).camFrames = s.camFrames.filter fun y => !y.isOpen vc := by
  rw [camFrames_malformeds]
  refine List.filter_congr fun y hy => ?_
  simp [State.openCams, hy]

theorem reg_removeCam (s : State) (x : CamFrame) (a : Nat) : (s.removeCam x).reg a = s.reg a := rfl

theorem regsKept_malformeds (s : State) (l : List CamFrame) :
    RegsKept s (l.foldl State.malformed s) (fun a => ∃ k, a = Reg.CSX_CAM_ERR k) := by
  induction l generalizing s with
  | nil => exact fun _ _ => rfl
  | cons x l ih =>
    intro a ha
    rw [List.foldl_cons, ih _ a ha, State.malformed, reg_removeCam, reg_count_ne s 1 fun e => ha ⟨_, e⟩]

theorem camFrames_showBuffered (s : State) : s.showBuffered.camFrames = s.camFrames := rfl

theorem frames_showBuffered (s : State) : s.showBuffered.frames = s.frames := rfl

theorem regsKept_showBuffered (s : State) : RegsKept s s.showBuffered (fun a => ∃ k, a = Reg.CSX_CAM_STAT k) :=
  fun _ ha => (reg_setFlag_ne _ _ fun e => ha ⟨2, e⟩).trans
    ((reg_setFlag_ne _ _ fun e => ha ⟨1, e⟩).trans (reg_setFlag_ne _ _ fun e => ha ⟨0, e⟩))

/-- `x` is a frame of camera `n` that starts in the state `s` on a virtual channel, with the settings of `v`. -/
structure Started (s v : State) (vc n : Nat) (x : CamFrame) : Prop where
  cam : x.cam = n
  vc : x.vc = vc
  dt : x.dt = v.fld (.CSX_CAM_CFG_DT (n - 1))
  width : x.width = v.fld (.CSX_CAM_SIZE_WIDTH (n - 1))
  height : x.height = v.fld (.CSX_CAM_SIZE_HEIGHT (n - 1))
  pipe : x.pipe = v.fld (.CSX_CAM_STAT_PIPE (n - 1))
  captured : x.captured = s.tb
  corrected : x.corrected = s.correctedNow n
  lines : x.lines = []
  complete : x.complete = false
  buffered : x.buffered = s.mustWait v n

/-- What a frame is at its start depends on no counter of errors. -/
theorem Started.of_counted {s t v w : State} {vc n : Nat} {x : CamFrame} (hc : Counted s t)
    (hf : t.camFrames = s.camFrames) (hv : RegsKept v w ErrorCounter) (h : Started t w vc n x) : Started s v vc n x where
  cam := h.cam
  vc := h.vc
  dt := h.dt.trans (fld_of_reg (hv _ not_errorCounter_cam))
  width := h.width.trans (fld_of_reg (hv _ not_errorCounter_cam))
  height := h.height.trans (fld_of_reg (hv _ not_errorCounter_cam))
  pipe := h.pipe.trans (fld_of_reg (hv _ not_errorCounter_cam))
  captured := h.captured.trans hc.tb
  corrected := h.corrected.trans (hc.correctedNow n)
  lines := h.lines
  complete := h.complete
  buffered := h.buffered.trans (mustWait_congr hf hv n)

/-- A frame of camera `n` with the settings of `v` need not wait in the merge buffer, or finds room there (R166). -/
def FindsRoom (s v : State) (n : Nat) : Prop := s.mustWait v n = false ∨
  v.fld (.CSX_CAM_SIZE_WIDTH (n - 1)) * v.fld (.CSX_CAM_SIZE_HEIGHT (n - 1)) ≤ s.mergeRoom

theorem FindsRoom.of_counted {s t v w : State} {n : Nat} (hf : t.camFrames = s.camFrames)
    (hv : RegsKept v w ErrorCounter) (h : FindsRoom s v n) : FindsRoom t w n := by
  have hsize := hv (Reg.CSX_CAM_SIZE (n - 1)) not_errorCounter_cam
  unfold FindsRoom
  rw [mustWait_congr hf hv, fld_of_reg (f := .CSX_CAM_SIZE_WIDTH (n - 1)) hsize,
    fld_of_reg (f := .CSX_CAM_SIZE_HEIGHT (n - 1)) hsize, State.mergeRoom, hf]
  exact h

/-- A frame that need not wait, or finds room, is the newest, and the timebase is held. -/
theorem camStart_of_room {s : State} {vc n : Nat} (hr : FindsRoom s (s.camView n) n) :
    ∃ x, Started s (s.camView n) vc n x ∧ (s.camStart vc n).camFrames = s.camFrames ++ [x] ∧
      (s.camStart vc n).wide (Reg.CSX_CAM_FS_LO (n - 1)) = s.tb.toNat ∧
      RegsKept s (s.camStart vc n) (fun a => a = Reg.CSX_CAM_FS_LO (n - 1) ∨ a = Reg.CSX_CAM_FS_LO (n - 1) + 4) := by
  unfold State.camStart
  extract_lets v corrected owner tick wait x s1
  have hroom : ¬ (wait && decide (s1.mergeRoom < x.pixels)) = true := by
    rw [Bool.and_eq_true, decide_eq_true_eq, not_and, Nat.not_lt]
    intro hw
    exact hr.resolve_left (Bool.not_eq_false _ ▸ hw)
  rw [if_neg hroom]
  refine ⟨x, ⟨rfl, rfl, rfl, rfl, rfl, rfl, rfl, rfl, rfl, rfl, rfl⟩, rfl, ?_, ?_⟩
  · exact (wide_setWide _ _ _).trans (Nat.mod_eq_of_lt s.tb.isLt)
  · exact fun a ha => reg_setWide_ne _ _ (fun e => ha (.inl e)) fun e => ha (.inr e)

/-- A state whose frames that are still being received on a channel have gone. -/
def withoutOpen (s : State) (vc : Nat) : State := { s with camFrames := s.camFrames.filter fun y => !y.isOpen vc }

/-- The frame that starts on the channel of camera `n`, with what becomes of the frames before it and of the registers. -/
theorem startFrames_of_one {u s : State} {vc n : Nat} (hu : Counted u s) (hfr : s.camFrames = u.camFrames)
    (hn : u.camsOn vc = [n]) (hroom : FindsRoom (withoutOpen u vc) (u.camView n) n) :
    ∃ x, Started (withoutOpen u vc) (u.camView n) vc n x ∧
      (startFrames s vc).camFrames = (withoutOpen u vc).camFrames ++ [x] ∧
      (startFrames s vc).wide (Reg.CSX_CAM_FS_LO (n - 1)) = u.tb.toNat ∧
      (startFrames s vc).reg Reg.CSX_ECC_CORR = s.reg Reg.CSX_ECC_CORR := by
  unfold startFrames
  have hc : Counted u ((s.openCams vc).foldl State.malformed s) := hu.malformeds _
  have hcam : ((s.openCams vc).foldl State.malformed s).camFrames = (withoutOpen u vc).camFrames := by
    rw [camFrames_malformeds_open, hfr, withoutOpen]
  have hecc := regsKept_malformeds s (s.openCams vc) Reg.CSX_ECC_CORR fun ⟨k, h⟩ => by
    dsimp only [Reg.CSX_ECC_CORR, Reg.CSX_CAM_ERR] at h
    omega
  generalize (s.openCams vc).foldl State.malformed s = s1 at hc hcam hecc ⊢
  obtain ⟨x, hx, hframes, hfs, hregs⟩ := camStart_of_room (vc := vc) (hroom.of_counted hcam (hc.camView n))
  dsimp only
  rw [hc.camsOn, hn, List.foldl_cons, List.foldl_nil]
  refine ⟨x, hx.of_counted ⟨hc.rest, hc.regs⟩ hcam (hc.camView n), ?_, ?_, ?_⟩
  · rw [camFrames_showBuffered, hframes, hcam]
  · rw [← hc.tb, ← hfs, State.wide, State.wide, regsKept_showBuffered _ _ ?_, regsKept_showBuffered _ _ ?_]
    all_goals rintro ⟨k, h⟩; dsimp only [Reg.CSX_CAM_FS_LO, Reg.CSX_CAM_STAT] at h; omega
  · rw [← hecc, regsKept_showBuffered _ _ ?_, hregs _ ?_]
    · dsimp only [Reg.CSX_CAM_FS_LO, Reg.CSX_ECC_CORR]; omega
    · rintro ⟨k, h⟩; dsimp only [Reg.CSX_ECC_CORR, Reg.CSX_CAM_STAT] at h; omega

/-! ## The end of a frame -/

section
variable {s : State} {x : CamFrame}

theorem camEnd_of_malformed (hw : x.wellFormed = false) : s.camEnd x = s.malformed x := if_pos (by simp [hw])

theorem camEnd_of_taken {k : Nat} (hw : x.wellFormed = true) (ht : s.takeCam x = .taken k) : s.camEnd x =
    (s.modCam (· == x) fun x => { x with tick := some k, complete := true }).modFrame k fun f =>
      { f with camPixels := f.camPixels.modify (fun _ => 0) x.pipe (· + x.pixels) } := by
  unfold State.camEnd
  rw [if_neg (by simp [hw]), ht]

theorem camEnd_of_drop {st : Status} (hw : x.wellFormed = true) (ht : s.takeCam x = .drop st) :
    s.camEnd x = (s.removeCam x).dropCam x.cam st := by
  unfold State.camEnd
  rw [if_neg (by simp [hw]), ht]

theorem camEnd_of_ignore (hw : x.wellFormed = true) (ht : s.takeCam x = .ignore) : s.camEnd x = s.removeCam x := by
  unfold State.camEnd
  rw [if_neg (by simp [hw]), ht]

end

/-- CSX_CAMn_ERR is no register of BUFFERED. -/
theorem camErr_showBuffered (s : State) (n : Nat) :
    s.showBuffered.reg (Reg.CSX_CAM_ERR n) = s.reg (Reg.CSX_CAM_ERR n) :=
  regsKept_showBuffered s _ fun ⟨k, h⟩ => by dsimp only [Reg.CSX_CAM_ERR, Reg.CSX_CAM_STAT] at h; omega

theorem camErr_headerCounted (s : State) (header : HeaderEcc) (n : Nat) :
    (headerCounted s header).reg (Reg.CSX_CAM_ERR n) = s.reg (Reg.CSX_CAM_ERR n) :=
  reg_headerCounted_ne s header (by dsimp only [Reg.CSX_CAM_ERR, Reg.CSX_ECC_CORR]; omega)

theorem malformedCount_malformed (s : State) (x : CamFrame) : (s.malformed x).fld (.CSX_CAM_ERR_MALFORMED (x.cam - 1)) =
    min (2 ^ 16 - 1) (s.fld (.CSX_CAM_ERR_MALFORMED (x.cam - 1)) + 1) := by
  rw [State.malformed, fld_of_reg (reg_removeCam _ x _)]
  exact fld_count_self s _ 1 (by dsimp only; decide) (by dsimp only; decide)

theorem regsKept_limitedEvent (s : State) (code sub : Nat) (status : Status) (source : Nat) (args : List Byte) :
    RegsKept s (s.limitedEvent code sub status source args) EventReg := by
  intro a ha
  unfold State.limitedEvent
  extract_lets
  split
  · rfl
  · exact (Quiet.refl _).event.regs a ha

theorem camFrames_dropCam (s : State) (n : Nat) (st : Status) : (s.dropCam n st).camFrames = s.camFrames :=
  (Handled.refl s).count.limitedEvent.camFrames

theorem dropCount_dropCam (s : State) {n : Nat} (hn : n ≤ 3) (st : Status) :
    (s.dropCam n st).fld (.CSX_CAM_ERR_DROP (n - 1)) = min (2 ^ 16 - 1) (s.fld (.CSX_CAM_ERR_DROP (n - 1)) + 1) := by
  have he : ¬ EventReg (Reg.CSX_CAM_ERR (n - 1)) := by
    unfold EventReg
    dsimp only [Reg.CSX_CAM_ERR, Reg.HIF_NORING_DROP]
    omega
  rw [State.dropCam, fld_of_reg (regsKept_limitedEvent _ _ _ _ _ _ _ he)]
  exact fld_count_self s _ 1 (by dsimp only; decide) (by dsimp only; decide)

/-- Settles O18: the frame end is `State.camEnd` of the one open frame, of which each outcome is one lemma. -/
theorem companionFrameEndDecidesItsTick : Obligations.CompanionFrameEndDecidesItsTick := by
  intro s dt vc header lanes n x u hon hh hopen hcam
  refine ⟨_, exec_csiFrameEnd_of_counts hon hh hopen, ?_⟩
  have hn : x.cam - 1 = n.val := by omega
  have hc := (Counted.refl u).header header
  have hfr := camFrames_headerCounted u header
  have herr := camErr_headerCounted u header n.val
  generalize headerCounted u header = s1 at hc hfr herr ⊢
  rw [List.foldl_cons, List.foldl_nil, camFrames_showBuffered, frames_showBuffered,
    fld_of_reg (f := .CSX_CAM_ERR_MALFORMED n.val) (camErr_showBuffered _ _),
    fld_of_reg (f := .CSX_CAM_ERR_DROP n.val) (camErr_showBuffered _ _), ← hfr, ← hc.frames]
  refine ⟨fun hw => ?_, fun k hw ht => ?_, fun st hw ht => ?_, fun hw ht => ?_⟩
  · rw [camEnd_of_malformed hw, ← fld_of_reg (f := .CSX_CAM_ERR_MALFORMED n.val) herr, ← hn]
    exact ⟨camFrames_malformed s1 x, malformedCount_malformed s1 x⟩
  · rw [camEnd_of_taken hw ((hc.takeCam x).trans ht)]
    exact ⟨rfl, rfl⟩
  · rw [camEnd_of_drop hw ((hc.takeCam x).trans ht), camFrames_dropCam, ← fld_of_reg (f := .CSX_CAM_ERR_DROP n.val) herr,
      ← hn, dropCount_dropCam _ (by omega), fld_of_reg (reg_removeCam s1 x _)]
    exact ⟨rfl, rfl⟩
  · rw [camEnd_of_ignore hw ((hc.takeCam x).trans ht)]
    rfl

/-! ## Long packets -/

section
variable {s₀ s : State} (h : Handled s₀ s)
include h

/-- What records of the journal change is none of the frames. -/
theorem Handled.filed {t} (ht : Filed s t) : Handled s₀ t :=
  ⟨(congrArg State.camFrames ht.rest :).trans h.camFrames, (congrArg State.frames ht.rest :) ▸ h.frames⟩
theorem Handled.setBucket {src inst l} : Handled s₀ (s.setBucket src inst l) := h.update
/-- A lasting fault of the companion link asks for nothing beside its event and its record. -/
theorem Handled.lasting_csi {inst unit} : Handled s₀ (s.lasting 8 inst unit) :=
  (branch h.event (h.event.filed (.faultRecord _ _))).count
theorem Handled.charge_csi {inst} : Handled s₀ (s.charge 8 inst) :=
  branch h.count (branch h.count.setBucket.lasting_csi h.count.setBucket)

end

theorem takeLine_of_skipped {s : State} {p : CsiPacket} (h : s.takesType p.vc.val p.dataType.toNat = false) :
    takeLine s p = s.count .CSX_DT_SKIP_COUNT 1 := if_pos (by simp [h])

/-- A line of which the CRC failed is counted and charged, and either way the line joins the open frames of its type. -/
theorem takeLine_of_taken {s : State} {p : CsiPacket} (h : s.takesType p.vc.val p.dataType.toNat = true) :
    takeLine s p = { (if p.crcOk then s else (s.count .CSX_CRC_COUNT 1).charge 8 0) with
      camFrames := s.camFrames.map fun x => if x.isOpen p.vc.val && x.dt == p.dataType.toNat then
        { x with lines := x.lines ++ [⟨unpackRaw p.dataType.toNat p.payload, p.crcOk⟩] } else x } := by
  have hw : (if p.crcOk then s else (s.count .CSX_CRC_COUNT 1).charge 8 0).camFrames = s.camFrames := by
    split
    · rfl
    · exact (Handled.refl s).count.charge_csi.camFrames
  unfold takeLine
  rw [if_neg (by simp [h]), State.modCam, hw]

/-! ## The merge buffer -/

theorem exec_mergeBufferDispatch_of_waiting {s : State} {dt : Nat} {x : CamFrame} (hx : (s.advance dt).mergeNext = some x)
    (hg : (s.advance dt).gated 1 = false) : exec (.mergeBufferDispatch dt) s = .next
      ((s.advance dt).modCam (fun y => y == x) fun y => { y with buffered := false }).showBuffered := by
  refine congrArg Host.Outcome.next ?_
  rw [hx]
  exact if_neg (by simp [hg])

/-- Settles O17: the counters of errors that come first decide nothing (`Counted`), so a frame start is `startFrames_of_one`
of the state before them, and a long packet is `takeLine`. -/
theorem companionPacketsAreReceived : Obligations.CompanionPacketsAreReceived := by
  refine ⟨?_, ?_, ?_, ?_, ?_, ?_, ?_⟩
  · intro s dt lanes
    exact showLanes_spec (s.advance dt) lanes
  · intro s dt vc lanes p u hon
    have he := exec_csi_of_uncorrected (vc := vc) (p := p) hon
    exact ⟨he _ (by simp), he _ (by simp), he _ (by simp)⟩
  · intro s dt vc header lanes n u v w hon hh hn hroom
    obtain ⟨x, hx, hcam, hfs, hecc⟩ := startFrames_of_one ((Counted.refl u).header header)
      (camFrames_headerCounted u header) hn hroom
    exact ⟨_, x, exec_csiFrameStart_of_counts hon hh, hcam, hx.cam, hx.vc, hx.dt, hx.width, hx.height, hx.pipe,
      hx.captured, hx.corrected, hx.lines, hx.complete, hx.buffered, hfs,
      (fld_of_reg (f := .CSX_ECC_CORR_COUNT) hecc).trans (eccCorr_headerCounted u header)⟩
  · intro s dt p u c w takes hon hh
    have hc : Counted u c := (Counted.refl u).header p.header
    have hfr : c.camFrames = u.camFrames := camFrames_headerCounted u p.header
    have he : exec (.csiLongPacket dt p) s = .next (takeLine c p) := exec_csiLongPacket_of_counts hon hh
    refine ⟨fun ht => ?_, fun ht => ?_⟩
    · rw [he, takeLine_of_skipped ((hc.takesType hfr _ _).trans ht)]
    · rw [he, takeLine_of_taken ((hc.takesType hfr _ _).trans ht), hfr]
  · intro s dt u hon
    exact ⟨_, congrArg Host.Outcome.next (if_pos hon), flag_setFlag_self u _ true rfl (by decide),
      fun a ha => reg_setFlag_ne u true ha, rfl⟩
  · intro s dt vc header lanes u hon hh hopen
    exact ⟨_, exec_csiFrameEnd_of_counts hon hh hopen, (camFrames_showBuffered _).trans (camFrames_headerCounted u header)⟩
  · intro s dt x u hx hg
    refine ⟨_, exec_mergeBufferDispatch_of_waiting hx hg, ?_⟩
    rw [camFrames_showBuffered]
    exact List.map_congr_left fun y _ => by simp

end Sys2Proof.Safety
end

section
/-! PROOF. What charged faults leave unchanged.

A charge counts, and where it makes a fault lasting it works on the units, the tests, the Coachmen and what waits for them.
The frames, the tracks and the time are not part of that (`Charged`). One lemma per function of the model, named after
it, carries the relation through it. -/

namespace Sys2Proof.Safety

open Sys2Proof.Machine

/-- A state without what charged faults change: what events change, the units and their tests, the NVM, the Coachmen and the
calibration under way. -/
def faultless (s : State) : State :=
  { eventless s with spares := State.reset.spares, nvm := State.reset.nvm, coach := State.reset.coach, cal := State.reset.cal }

/-- `s` differs from `s₀` at most in what charged faults change. -/
def Charged (s₀ s : State) : Prop := faultless s = faultless s₀

theorem Charged.refl (s : State) : Charged s s := rfl

theorem Charged.frames {s₀ s : State} (h : Charged s₀ s) : s.frames = s₀.frames := (congrArg State.frames h :)
theorem Charged.camFrames {s₀ s : State} (h : Charged s₀ s) : s.camFrames = s₀.camFrames := (congrArg State.camFrames h :)

theorem Charged.branch {s₀ s t : State} {c : Prop} {inst : Decidable c} (hs : Charged s₀ s) (ht : Charged s₀ t) :
    Charged s₀ (if c then s else t) := by split <;> assumption

/-- A fold over a state. -/
theorem Charged.foldl {β : Type} {s₀ s : State} {f : State → β → State} {l : List β} (h : Charged s₀ s)
    (hf : ∀ {t x}, Charged s₀ t → Charged s₀ (f t x)) : Charged s₀ (l.foldl f s) :=
  List.foldlRecOn l f h fun _ ht _ _ => hf ht

section
variable {s₀ s : State} (h : Charged s₀ s)
include h

/-- What events change is a part of what faults change. -/
theorem Charged.quiet {t} (ht : Quiet s t) : Charged s₀ t := (congrArg faultless ht.rest).trans h
/-- What records of the journal change is a part of what faults change. -/
theorem Charged.filed {t} (ht : Filed s t) : Charged s₀ t := (congrArg faultless ht.rest).trans h

theorem Charged.setReg {a v} : Charged s₀ (s.setReg a v) := h
theorem Charged.setFld {f v} : Charged s₀ (s.setFld f v) := h.setReg
theorem Charged.setFlag {f b} : Charged s₀ (s.setFlag f b) := h.setFld
theorem Charged.count {f n} : Charged s₀ (s.count f n) := h.setFld
theorem Charged.free : Charged s₀ s.free.2 := h
theorem Charged.setSpares {x} : Charged s₀ { s with spares := x } := h
theorem Charged.setNvm {x} : Charged s₀ { s with nvm := x } := h
theorem Charged.setCoach {x} : Charged s₀ { s with coach := x } := h
theorem Charged.setCal {x} : Charged s₀ { s with cal := x } := h
theorem Charged.setPcie {x} : Charged s₀ { s with pcie := x } := h
theorem Charged.setRing {n r} : Charged s₀ (s.setRing n r) := h

theorem Charged.event {code status source args} : Charged s₀ (s.event code status source args) :=
  h.quiet (Quiet.refl s).event
theorem Charged.raiseFast {n} (hn : n ≤ 16 := by decide) : Charged s₀ (s.raiseFast n) :=
  h.quiet ((Quiet.refl s).raiseFast hn)
theorem Charged.finishWaiting {notify st result} : Charged s₀ (s.finishWaiting notify st result) :=
  h.quiet ((Quiet.refl s).post (Posted.refl s).finishWaiting)
theorem Charged.returnSources {t} : Charged s₀ (s.returnSources t) := h.quiet Quiet.returnSources
theorem Charged.faultRecord {r} : Charged s₀ (s.faultRecord r) := h.filed (.faultRecord s r)
theorem Charged.journalBanks : Charged s₀ s.journalBanks := h.filed (.program s _)

/-! ## Units, their tests and their waiting changes -/

theorem Charged.setUnit {cls u v} : Charged s₀ (s.setUnit cls u v) := by
  obtain ⟨q, hf⟩ := setUnit_filed s cls u v
  exact h.setSpares.filed hf
theorem Charged.setHolder {cls r u} : Charged s₀ (s.setHolder cls r u) := h.setSpares
theorem Charged.bumpEpoch {cls r} : Charged s₀ (s.bumpEpoch cls r) := h.setSpares
theorem Charged.setLost {cls r b} : Charged s₀ (s.setLost cls r b) := h.setSpares
theorem Charged.setNoSpare {cls r b} : Charged s₀ (s.setNoSpare cls r b) := h.setSpares.setFld
theorem Charged.setQueue {l} : Charged s₀ (s.setQueue l) := h.setSpares.setFlag
theorem Charged.pushSubst {q} : Charged s₀ (s.pushSubst q) := h.setQueue
theorem Charged.changeWhy {q why} : Charged s₀ (s.changeWhy q why) := h.setSpares
theorem Charged.setTests {l} : Charged s₀ (s.setTests l) := h.setSpares
theorem Charged.testCounted {t verdict patterns} : Charged s₀ (testCounted s t verdict patterns) := by
  unfold Safety.testCounted showTest
  split
  · exact h.setSpares.setReg.setReg.setFld.count
  · exact h.setSpares.setReg.setReg.setFld.count
theorem Charged.endTestWith {t verdict patterns after} : Charged s₀ (s.endTestWith t verdict patterns after) := by
  rw [endTestWith_eq]
  exact (h.testCounted.setUnit.filed (.testRecorded ..)).finishWaiting
theorem Charged.queueSubst {q new} : Charged s₀ (s.queueSubst q new) := by
  unfold State.queueSubst
  split
  · exact h.setUnit.pushSubst
  · exact h.pushSubst
theorem Charged.giveBack {q} : Charged s₀ (s.giveBack q) := by
  unfold State.giveBack
  split
  · exact branch h.setUnit h
  · exact h
theorem Charged.dropTest {t} : Charged s₀ (s.dropTest t) := (h.setQueue.foldl fun h => h.giveBack).endTestWith
theorem Charged.chooseSpare {q} : Charged s₀ (s.chooseSpare q) := by
  unfold State.chooseSpare
  split
  · exact h.queueSubst
  · split
    · exact h.free.endTestWith.queueSubst
    · refine Charged.queueSubst ?_
      split
      · exact h.dropTest
      · exact h
theorem Charged.seekSpare {cls r old why} : Charged s₀ (s.seekSpare cls r old why) :=
  (h.setQueue.foldl fun h => h.giveBack).chooseSpare.foldl fun h => h.chooseSpare
theorem Charged.replaceChosen {cls u} : Charged s₀ (s.replaceChosen cls u) := by
  refine h.setQueue.foldl fun h => branch ?_ h.chooseSpare
  split
  · exact h.dropTest
  · exact h
theorem Charged.testGone {cls u} : Charged s₀ (s.testGone cls u) := h.setSpares.foldl fun h => h.finishWaiting
theorem Charged.retireTested {cls u} : Charged s₀ (s.retireTested cls u) := by
  unfold State.retireTested
  split
  · exact h.free.endTestWith.count
  · exact h.setUnit
theorem Charged.retire {cls u source} : Charged s₀ (s.retire cls u source) := by
  unfold State.retire
  dsimp only
  split
  case h_1 => exact h
  case h_2 => exact h.setUnit
  case h_3 => exact h.retireTested
  case h_4 =>
    split
    · exact h.setUnit.replaceChosen
    · split
      · exact h.setUnit.seekSpare
      · split
        · exact h.setUnit.testGone.changeWhy
        · exact branch h.setUnit h.setUnit.seekSpare
theorem Charged.abortTest {t} : Charged s₀ (s.abortTest t) := by
  unfold State.abortTest
  refine branch ?_ h.dropTest
  dsimp only
  split
  · exact branch h.free.endTestWith.queueSubst h.free.endTestWith
  · exact h.free.endTestWith

/-! ## The Coachmen -/

theorem Charged.setBank {bank st} : Charged s₀ (s.setBank bank st) := (branch h.setNvm h.setNvm).journalBanks
theorem Charged.restartStandby {u why} : Charged s₀ (s.restartStandby u why) := (branch h.setCoach h.setCoach).setCoach
theorem Charged.swapCoaches : Charged s₀ s.swapCoaches :=
  have h1 := h.setFld.setHolder.bumpEpoch.setUnit
  branch h1 h1.setHolder.bumpEpoch.setUnit
theorem Charged.restartFormer {old} : Charged s₀ (s.restartFormer old) := branch h h.restartStandby
theorem Charged.afterTakeOver {old expired why} : Charged s₀ (s.afterTakeOver old expired why) := by
  cases why with
  | activate n =>
    exact
      have h1 := h.setCoach.setBank.finishWaiting
      branch h1.restartFormer h1
  | fallback => exact h.setCoach.setBank.restartFormer
  | watchdog => exact h.restartFormer
theorem Charged.showItem {item b} : Charged s₀ (s.showItem item b) := h.setFld
theorem Charged.rerunMailbox : Charged s₀ s.rerunMailbox :=
  have h1 := branch h.setCal.setFld h
  branch ((branch h1.showItem.setCal h1).setTests.setRing) h
theorem Charged.takeOver {why} : Charged s₀ (s.takeOver why) :=
  have h1 : Charged s₀ (State.abortRunning _) := (branch h.rerunMailbox h).foldl fun h => h.abortTest
  h1.swapCoaches.setCoach.event.returnSources.afterTakeOver
theorem Charged.askTakeOver {why} : Charged s₀ (s.askTakeOver why) :=
  branch h (branch h.setCoach (branch h (branch h.setCoach h.takeOver)))
theorem Charged.standbyExpired {u} : Charged s₀ (s.standbyExpired u) := by
  refine branch ?_ ?_
  · dsimp only
    split
    · exact h.setCoach.finishWaiting
    · exact h.setCoach.finishWaiting
    · exact h.setCoach.finishWaiting
    · exact h.setCoach
  · split
    · exact h
    · exact h.setCoach
    · exact h.restartStandby.setCoach
    · exact h.restartStandby
theorem Charged.coachGone {u} : Charged s₀ (s.coachGone u) := branch h.setCoach.askTakeOver h.standbyExpired

/-! ## Charges -/

theorem Charged.retrain : Charged s₀ s.retrain := branch h.count.setPcie h
theorem Charged.laneCheck : Charged s₀ s.laneCheck := by
  unfold State.laneCheck
  extract_lets
  split
  · exact h.setFld.setUnit.retrain.setPcie
  · exact h
theorem Charged.retireLoop {u} : Charged s₀ (s.retireLoop u) :=
  have h1 := h.retireTested.setFld
  branch h1.setFlag h1
theorem Charged.coachLost {u source} : Charged s₀ (s.coachLost u source) := h.event.faultRecord.setNoSpare.setLost
theorem Charged.spareRow {n} : Charged s₀ (s.spareRow n) := branch h (branch h.pushSubst h.setUnit.pushSubst)
/-- A fault of a source that names a unit: by the unit's class. -/
theorem Charged.unitFault {cls u source} : Charged s₀ (if cls ≤ 8 then s.retire cls u source
    else if cls = 9 then s.retireLoop u
    else if cls = 10 then ((s.retireTested 10 u).coachLost u source).coachGone u else s) :=
  branch h.retire (branch h.retireLoop (branch h.retireTested.coachLost.coachGone h))
theorem Charged.lastingEffect {src inst} : Charged s₀ (s.lastingEffect src inst) := by
  unfold State.lastingEffect
  dsimp only
  split
  · exact h.spareRow
  · exact h.retireTested.setFld
  · exact h.laneCheck
  · exact h.retireTested
  · exact h.unitFault
  · exact h.unitFault
  · exact h.unitFault
  · exact h.unitFault
  · exact h.unitFault
  · exact h.unitFault
  · exact h
theorem Charged.lasting {src inst unit} : Charged s₀ (s.lasting src inst unit) :=
  (branch h.event h.event.faultRecord).count.lastingEffect
theorem Charged.setBucket {src inst l} : Charged s₀ (s.setBucket src inst l) := h.setSpares
theorem Charged.charge {src inst} : Charged s₀ (s.charge src inst) :=
  branch h.count (branch h.count.setBucket.lasting h.count.setBucket)
theorem Charged.chargeSram {e} : Charged s₀ (s.chargeSram e) :=
  (h.foldl fun h => h.charge).foldl fun h => h.raiseFast.charge

end
end Sys2Proof.Safety
end

section
/-! PROOF. The rounds of the tracker.

The SRAM errors of a step can add untracked objects to a frame, and nothing else of its frames changes (`SameRounds`): the
round that is next stays so, and a round reads no untracked object of its frame. -/

namespace Sys2Proof.Safety

open Sys2Proof.Machine

/-! ## Frames but for their untracked objects -/

/-- A frame without its untracked objects. -/
def emptied (f : Frame) : Frame := { f with untracked := [] }

/-- `s` holds the companion frames of `s₀`, and its frames but for their untracked objects. -/
structure SameRounds (s₀ s : State) : Prop where
  frames : s.frames.map emptied = s₀.frames.map emptied
  camFrames : s.camFrames = s₀.camFrames

theorem SameRounds.refl (s : State) : SameRounds s s := ⟨rfl, rfl⟩

section
variable {s₀ s : State} (h : SameRounds s₀ s)
include h

theorem SameRounds.charged {t} (ht : Charged s t) : SameRounds s₀ t :=
  ⟨(congrArg (·.map emptied) ht.frames).trans h.frames, ht.camFrames.trans h.camFrames⟩
theorem SameRounds.modTrack {i f} : SameRounds s₀ (s.modTrack i f) := ⟨h.frames, h.camFrames⟩
theorem SameRounds.takeId : SameRounds s₀ s.takeId.2 := ⟨h.frames, h.camFrames⟩
theorem SameRounds.addUntracked {tick u} : SameRounds s₀ (s.addUntracked tick u) := by
  unfold State.addUntracked
  split
  case h_1 =>
    refine ⟨?_, h.camFrames⟩
    rw [← h.frames]
    refine List.map_map.trans (List.map_congr_left fun x _ => ?_)
    rw [Function.comp_apply]
    split <;> rfl
  case h_2 => exact ⟨h.frames, h.camFrames⟩
theorem SameRounds.endTrack {tick i} : SameRounds s₀ (s.endTrack tick i) := by
  unfold State.endTrack
  dsimp only
  split
  · exact h.takeId.addUntracked.modTrack
  · split
    · split
      · exact h.modTrack
      · exact h.modTrack
    · exact h
theorem SameRounds.contextErrors {tick contexts} : SameRounds s₀ (s.contextErrors tick contexts) := by
  refine List.foldlRecOn contexts _ h fun t ht i _ => ?_
  split
  · exact ht.endTrack.charged (Charged.refl _).raiseFast.charge
  · exact ht
theorem SameRounds.sramErrors {tick e} : SameRounds s₀ (s.sramErrors tick e) :=
  h.contextErrors.charged (Charged.refl _).chargeSram

end

/-! ## The next round -/

/-- The frame whose rounds come next, of frames and of the companion frames that are still to be processed. -/
def frameAtWork (l : List Frame) (cams : List CamFrame) : Option Frame :=
  (l.find? fun f => !f.done || !f.rounds.isEmpty).filter fun f =>
    f.piped.contains 0 && !(f.mode == 6 && cams.any fun x => x.tick == some f.tick)

theorem roundFrame_eq (s : State) : s.roundFrame = frameAtWork s.frames s.camFrames := by
  unfold State.roundFrame frameAtWork
  cases s.frames.find? fun f => !f.done || !f.rounds.isEmpty with
  | none => rfl
  | some f => rfl

/-- The choice of the frame at work reads no untracked object. -/
theorem frameAtWork_map_emptied (l : List Frame) (cams : List CamFrame) :
    frameAtWork (l.map emptied) cams = (frameAtWork l cams).map emptied := by
  unfold frameAtWork
  rw [List.find?_map, Option.filter_map]
  rfl

/-- The frame at work stays the same but for its untracked objects. -/
theorem SameRounds.roundFrame {s₀ s : State} (h : SameRounds s₀ s) :
    s.roundFrame.map emptied = s₀.roundFrame.map emptied := by
  rw [roundFrame_eq, roundFrame_eq, ← frameAtWork_map_emptied, ← frameAtWork_map_emptied, h.frames, h.camFrames]

/-- A round of the own array or of a companion is run, and is over. -/
def handleRound (w : State) (f : Frame) (r : Round) (own : Bool) : State :=
  (if own then w.ownRound (f.view w) f r else w.companionRound (f.view w) f r).endRound f r

/-- A round reads no untracked object of its frame. -/
theorem handleRound_emptied (w : State) (f : Frame) (r : Round) (own : Bool) :
    handleRound w (emptied f) r own = handleRound w f r own := rfl

/-- The next round of the frame at work is run where it is of the kind asked for. -/
theorem runRound_of_next {w : State} {f : Frame} {r : Round} (hf : w.roundFrame = some f) (hr : f.nextRound = some r)
    (own : Bool) : w.runRound own = if (r.cam == 0) != own then w else handleRound w f r own := by
  unfold State.runRound
  rw [hf]
  dsimp only
  rw [hr]
  rfl

/-- After the SRAM errors of a step, which act at the tick of the frame at work, its round is still the next. -/
theorem runRound_sramErrors {u : State} {f : Frame} {r : Round} (hf : u.roundFrame = some f) (hr : f.nextRound = some r)
    (sram : SramErrors) (own : Bool) : (u.sramErrors u.errorTick sram).runRound own =
      if (r.cam == 0) != own then u.sramErrors f.tick sram else handleRound (u.sramErrors f.tick sram) f r own := by
  have ht : u.errorTick = f.tick := by rw [State.errorTick, hf]
  rw [ht]
  have hw := ((SameRounds.refl u).sramErrors (tick := f.tick) (e := sram)).roundFrame
  rw [hf] at hw
  obtain ⟨g, hg, he⟩ := Option.map_eq_some_iff.mp hw
  have hn : g.nextRound = some r := (congrArg Frame.nextRound he :).trans hr
  rw [runRound_of_next hg hn, ← handleRound_emptied _ g, he, handleRound_emptied]

/-! ## The commands -/

/-- A command of the tracker acts where its clock runs and the unit is on. -/
theorem next_of_tracking {u t : State} (hg : u.gated 1 = false) (ha : u.alive = true) :
    (.next (if u.gated 1 || !u.alive then u else t) : Host.Outcome State Fault Refusal) = .next t := by
  rw [hg, ha]
  rfl

theorem exec_trackerRound {s : State} {dt : Nat} {sram : SramErrors} (hg : (s.advance dt).gated 1 = false)
    (ha : (s.advance dt).alive = true) : exec (.trackerRound dt sram) s =
      .next (((s.advance dt).sramErrors (s.advance dt).errorTick sram).runRound true) :=
  next_of_tracking hg ha

theorem exec_companionRound {s : State} {dt : Nat} {sram : SramErrors} (hg : (s.advance dt).gated 1 = false)
    (ha : (s.advance dt).alive = true) : exec (.companionRound dt sram) s =
      .next (((s.advance dt).sramErrors (s.advance dt).errorTick sram).runRound false) :=
  next_of_tracking hg ha

theorem exec_trackerBankCopyComplete {s : State} {dt : Nat} (hg : (s.advance dt).gated 1 = false)
    (ha : (s.advance dt).alive = true) : exec (.trackerBankCopyComplete dt) s = .next (s.advance dt).copyDone :=
  next_of_tracking hg ha

/-- No waiting change copies any more. -/
theorem copyDone_spec (u : State) : u.copyDone.flag .TRK_BANK_STAT_COPYING = false ∧
    u.copyDone.spares.queue = u.spares.queue.map (fun q =>
      if q.copying then { q with copying := false, earliest := timeAfter u.tb 2000 } else q) ∧
    RegsKept u u.copyDone (· = Fld.TRK_BANK_STAT_COPYING.addr) := by
  refine ⟨?_, rfl, fun a ha => reg_setFlag_ne _ _ ha⟩
  refine (flag_setFlag_self _ .TRK_BANK_STAT_COPYING _ rfl (by decide)).trans (List.any_eq_false.mpr fun q hq => ?_)
  obtain ⟨p, -, rfl⟩ := List.mem_map.mp hq
  cases hp : p.copying <;> simp [hp]

/-- Settles O21: the SRAM errors leave the next round of the frame at work as it was (`SameRounds`), so the command of its
kind runs it and the other runs none; the end of a copy is one change of the queue (`copyDone_spec`). -/
theorem trackerRoundsRunInOrder : Obligations.TrackerRoundsRunInOrder := by
  refine ⟨?_, ?_⟩
  · intro s dt sram f r u hg ha hf hr w
    have hrun := runRound_sramErrors hf hr sram
    rw [exec_trackerRound hg ha, exec_companionRound hg ha, hrun, hrun]
    refine ⟨fun h0 => ?_, fun h0 => ?_⟩
    · rw [beq_iff_eq.mpr h0]
      exact ⟨rfl, rfl⟩
    · rw [beq_eq_false_iff_ne.mpr h0]
      exact ⟨rfl, rfl⟩
  · intro s dt u hg ha
    exact ⟨u.copyDone, exec_trackerBankCopyComplete hg ha, copyDone_spec u⟩

end Sys2Proof.Safety
end

section
/-! PROOF. The records that the scheduler hands to the Weevils (R260, R280 to R283).

Applying the edges of a record changes the pulses and the tracks only (`EdgesApplied`), so the image is as long as the port's
setting says; the record then joins the unacknowledged ones of its role, and neither its way into the TX FIFO nor what the
drain and a thermal trip wait for (`State.settleDrain`, `State.settleTrip`) takes a record from a role or changes one
(`SameUnacked`). -/

namespace Sys2Proof.Safety

open Sys2Proof.Machine

/-! ## The edges of a record -/

/-- A state without what applied edges change: the scheduler of the pulses and the tracker. -/
def edgeless (s : State) : State := { s with ej := State.reset.ej, tracker := State.reset.tracker }

/-- `s` differs from `s₀` at most in what applied edges change. -/
def EdgesApplied (s₀ s : State) : Prop := edgeless s = edgeless s₀

theorem EdgesApplied.refl (s : State) : EdgesApplied s s := rfl

theorem EdgesApplied.regs {s₀ s : State} (h : EdgesApplied s₀ s) : s.regs = s₀.regs := (congrArg State.regs h :)
theorem EdgesApplied.wvRoles {s₀ s : State} (h : EdgesApplied s₀ s) : s.wvRoles = s₀.wvRoles := (congrArg State.wvRoles h :)

theorem EdgesApplied.branch {s₀ s t : State} {c : Prop} {inst : Decidable c} (hs : EdgesApplied s₀ s)
    (ht : EdgesApplied s₀ t) : EdgesApplied s₀ (if c then s else t) := by split <;> assumption

/-- A fold over a state. -/
theorem EdgesApplied.foldl {β : Type} {s₀ s : State} {f : State → β → State} {l : List β} (h : EdgesApplied s₀ s)
    (hf : ∀ {t x}, EdgesApplied s₀ t → EdgesApplied s₀ (f t x)) : EdgesApplied s₀ (l.foldl f s) :=
  List.foldlRecOn l f h fun _ ht _ _ => hf ht

section
variable {s₀ s : State} (h : EdgesApplied s₀ s)
include h

theorem EdgesApplied.setEj {x} : EdgesApplied s₀ { s with ej := x } := h
theorem EdgesApplied.modTrack {i f} : EdgesApplied s₀ (s.modTrack i f) := h
theorem EdgesApplied.freeTrack {i} : EdgesApplied s₀ (s.freeTrack i) := h.modTrack
theorem EdgesApplied.closeOwner {id} : EdgesApplied s₀ (s.closeOwner id) := by
  unfold State.closeOwner
  split
  · exact h
  · exact branch h.modTrack.freeTrack h.modTrack
theorem EdgesApplied.closePulse {p} : EdgesApplied s₀ (s.closePulse p) := h.setEj.foldl fun h => h.closeOwner
theorem EdgesApplied.openPulse {l p} : EdgesApplied s₀ (s.openPulse l p) := h.setEj
theorem EdgesApplied.applyEdge {l p} : EdgesApplied s₀ (s.applyEdge l p) := branch h.setEj.openPulse h.setEj.closePulse

end

/-! ## The unacknowledged records of the roles -/

/-- Every role has the unacknowledged records in `s` that it has in `s₀`. -/
def SameUnacked (s₀ s : State) : Prop := ∀ r, (s.wvRole r).unacked = (s₀.wvRole r).unacked

theorem SameUnacked.refl (s : State) : SameUnacked s s := fun _ => rfl

theorem SameUnacked.branch {s₀ s t : State} {c : Prop} {inst : Decidable c} (hs : SameUnacked s₀ s)
    (ht : SameUnacked s₀ t) : SameUnacked s₀ (if c then s else t) := by split <;> assumption

/-- A fold over a state. -/
theorem SameUnacked.foldl {β : Type} {s₀ s : State} {f : State → β → State} {l : List β} (h : SameUnacked s₀ s)
    (hf : ∀ {t x}, SameUnacked s₀ t → SameUnacked s₀ (f t x)) : SameUnacked s₀ (l.foldl f s) :=
  List.foldlRecOn l f h fun _ ht _ _ => hf ht

section
variable {s₀ s : State} (h : SameUnacked s₀ s)
include h

/-- What leaves the roles as they are leaves their records. -/
theorem SameUnacked.roles {t} (ht : t.wvRoles = s.wvRoles) : SameUnacked s₀ t := fun r =>
  (congrArg (fun w : Store WvRole => (w.get WvRole.init r).unacked) ht).trans (h r)
theorem SameUnacked.edges {t} (ht : EdgesApplied s t) : SameUnacked s₀ t := h.roles ht.wvRoles
theorem SameUnacked.quiet {t} (ht : Quiet s t) : SameUnacked s₀ t := h.roles (congrArg State.wvRoles ht.rest :)

/-- A change of a role that keeps its unacknowledged records. -/
theorem SameUnacked.modWv {r f} (hf : ∀ w : WvRole, (f w).unacked = w.unacked) : SameUnacked s₀ (s.modWv r f) := by
  intro k
  by_cases hk : k = r
  · subst hk
    rw [wvRole_modWv_self, hf]
    exact h k
  · rw [wvRole_modWv_ne s f hk]
    exact h k

theorem SameUnacked.count {f n} : SameUnacked s₀ (s.count f n) := h
theorem SameUnacked.setFlag {f b} : SameUnacked s₀ (s.setFlag f b) := h
theorem SameUnacked.setEj {x} : SameUnacked s₀ { s with ej := x } := h
theorem SameUnacked.setTracker {x} : SameUnacked s₀ { s with tracker := x } := h
theorem SameUnacked.modEngine {e f} : SameUnacked s₀ (s.modEngine e f) := h
theorem SameUnacked.stopEngine {e} : SameUnacked s₀ (s.stopEngine e) := h.modEngine
theorem SameUnacked.feed {r} : SameUnacked s₀ (s.feed r) := h.modEngine.modWv fun _ => rfl

/-! ### Pins -/

theorem SameUnacked.setPin {n b} : SameUnacked s₀ (s.setPin n b) := h
theorem SameUnacked.modWvPin {n f} : SameUnacked s₀ (s.modWvPin n f) := h
theorem SameUnacked.setWvPin {n b} : SameUnacked s₀ (s.setWvPin n b) := branch h h.setPin.modWvPin
theorem SameUnacked.setDriven {n} : SameUnacked s₀ (s.setDriven n) := h.modWvPin
theorem SameUnacked.movePin {n} : SameUnacked s₀ (s.movePin n) := h.setDriven.setWvPin
theorem SameUnacked.drive {r} : SameUnacked s₀ (s.drive r) := h.foldl fun h => h.movePin

/-! ### What waits for the pulses and the records -/

theorem SameUnacked.hand {kind cam bytes tick tag} : SameUnacked s₀ (s.hand kind cam bytes tick tag) :=
  h.quiet (Quiet.refl s).hand
theorem SameUnacked.ejSafe : SameUnacked s₀ s.ejSafe := h.quiet ((Quiet.refl s).raiseFast (by decide))
theorem SameUnacked.flushTracks {tick tag service all} : SameUnacked s₀ (s.flushTracks tick tag service all) :=
  h.setTracker.foldl fun h => h.hand
theorem SameUnacked.settleDrain : SameUnacked s₀ s.settleDrain := by
  unfold State.settleDrain
  split
  · exact h
  · extract_lets t _ s1
    have h1 : SameUnacked s₀ s1 := branch h h.flushTracks.setEj
    exact branch h1.setEj.setFlag h1
theorem SameUnacked.settleTrip : SameUnacked s₀ s.settleTrip := by
  unfold State.settleTrip
  refine branch h (h.foldl fun {t r} h => branch h ?_)
  have h1 := h.modWv (r := r) (f := fun w => { w with safe := true, stopped := true }) fun _ => rfl
  exact branch h1 h1.stopEngine.ejSafe.drive

end

/-! ## Handing a record over -/

/-- A record that is handed to a role becomes its newest unacknowledged one. -/
theorem unacked_handRecord (s : State) (r : Nat) (words : List Word) :
    ((s.handRecord r words).wvRole r).unacked = (s.wvRole r).unacked ++ [⟨words, false⟩] :=
  ((SameUnacked.refl _).feed r).trans (congrArg WvRole.unacked (wvRole_modWv_self ..))

theorem length_chainImage (s : State) (p : Nat) :
    (s.chainImage p).length = (s.fld (.WV_PORT_CFG_LENGTH p) + 31) / 32 := by
  simp [State.chainImage]

/-- The settings of the ports lie apart from the counter of coalesced edges. -/
theorem portCfg_ne_coalesce (p : Nat) : (Fld.WV_PORT_CFG_LENGTH p).addr ≠ Fld.EJ_COALESCE_COUNT.addr := by
  dsimp only [Reg.WV_PORT_CFG, Reg.EJ_COALESCE]
  omega

/-- The edges of a record, applied one after the other. -/
theorem edgesApplied_foldl (u : State) (l : Time) (due : List Pulse) :
    EdgesApplied u (due.foldl (fun s q => s.applyEdge l q) u) := (EdgesApplied.refl u).foldl fun h => h.applyEdge

/-- The record of a latch is its time and the image of the port, one word per 32 positions or part of them. -/
theorem unacked_handChain (u : State) (p : Nat) (l : Time) : ∃ image,
    ((u.handChain p l).wvRole p).unacked = (u.wvRole p).unacked ++ [⟨timeWords l ++ image, false⟩] ∧
      image.length = (u.fld (.WV_PORT_CFG_LENGTH p) + 31) / 32 := by
  unfold State.handChain
  extract_lets due early s1
  have h := edgesApplied_foldl u l due
  have hu : SameUnacked u s1 := ((SameUnacked.refl u).edges h).count
  have hf : s1.fld (.WV_PORT_CFG_LENGTH p) = u.fld (.WV_PORT_CFG_LENGTH p) :=
    (fld_setFld_ne _ _ (portCfg_ne_coalesce p)).trans (fld_congr h.regs _)
  exact ⟨s1.chainImage p, by rw [unacked_handRecord, hu p], by rw [length_chainImage, hf]⟩

/-- The record of direct edges is their time and a word. -/
theorem unacked_handDirect (u : State) (r : Nat) (l : Time) : ∃ w,
    ((u.handDirect r l).wvRole r).unacked = (u.wvRole r).unacked ++ [⟨timeWords l ++ [w], false⟩] := by
  unfold State.handDirect
  extract_lets due lane mask level
  have hu : SameUnacked u _ := (SameUnacked.refl u).edges (edgesApplied_foldl u l due)
  exact ⟨BitVec.ofNat 32 (mask + 256 * level), by rw [unacked_handRecord, hu r]⟩

/-- After the hand-over the role has the records that the hand-over gave it. -/
theorem unacked_settled (v : State) (r : Nat) : (v.settleDrain.settleTrip.wvRole r).unacked = (v.wvRole r).unacked :=
  (SameUnacked.refl v).settleDrain.settleTrip r

/-! ## The commands -/

theorem exec_chainRecordHandover {s : State} {dt : Nat} {p : Fin 16} {l : Time}
    (hl : earliest (((s.advance dt).ej.pulses.filter fun q => !q.direct && q.port == p.val).map (·.nextEdge)) = some l)
    (ha : (s.advance dt).alive = true) (hb : (s.advance dt).tbRuns = true)
    (hd : reached (s.advance dt).tb (timeShift l (-((s.advance dt).fld (.WV_PORT_PREP_PREP p.val) : Int))) = true) :
    exec (.chainRecordHandover dt p) s = .next ((s.advance dt).handChain p.val l).settleDrain.settleTrip := by
  change execChainRecordHandover dt p s = _
  simp only [execChainRecordHandover, hl, ha, hb, hd, Bool.and_self, if_true]

theorem exec_directRecordHandover {s : State} {dt : Nat} {r : Fin 16} {l : Time}
    (hl : earliest (((s.advance dt).ej.pulses.filter fun q =>
      q.direct && (s.advance dt).fld (.WV_DIR_ROLE q.pos) == r.val).map (·.nextEdge)) = some l)
    (ha : (s.advance dt).alive = true) (hb : (s.advance dt).tbRuns = true)
    (hd : reached (s.advance dt).tb (timeShift l (-((s.advance dt).fld .WV_DIR_PREP_PREP : Int))) = true) :
    exec (.directRecordHandover dt r) s = .next ((s.advance dt).handDirect r.val l).settleDrain.settleTrip := by
  change execDirectRecordHandover dt r s = _
  simp only [execDirectRecordHandover, hl, ha, hb, hd, Bool.and_self, if_true]

/-- Settles O23: the hand-over appends its record (`unacked_handChain`, `unacked_handDirect`), and what settles after it leaves
the records alone (`unacked_settled`). -/
theorem valveRecordsAreHandedToTheirRoles : Obligations.ValveRecordsAreHandedToTheirRoles := by
  refine ⟨?_, ?_⟩
  · intro s dt p l u hl ha hb hd
    obtain ⟨image, hrec, hlen⟩ := unacked_handChain u p.val l
    exact ⟨_, image, exec_chainRecordHandover hl ha hb hd, (unacked_settled _ _).trans hrec, hlen⟩
  · intro s dt r l u hl ha hb hd
    obtain ⟨w, hrec⟩ := unacked_handDirect u r.val l
    exact ⟨_, w, exec_directRecordHandover hl ha hb hd, (unacked_settled _ _).trans hrec⟩

end Sys2Proof.Safety
end

section
/-! PROOF. The rules of the Weevil engines, roles and pads.

What the engines drive moves the pads only (`PadsMoved`); a change of an engine or a role shows in that engine or role; a
record that goes into a TX FIFO changes that FIFO and the records that wait. The operations of the engines are read off these
rules. -/

namespace Sys2Proof.Safety

open Sys2Proof.Machine

/-! ## Pads -/

/-- A state without its pads: the levels of the pins, what stands at the WV_IO pins, and the times of the edges. -/
def padless (s : State) : State := { s with pins := [], wvPins := [], tbu := State.reset.tbu }

/-- `s` differs from `s₀` at most in its pads. -/
def PadsMoved (s₀ s : State) : Prop := padless s = padless s₀

theorem PadsMoved.refl (s : State) : PadsMoved s s := rfl

theorem PadsMoved.engines {s₀ s : State} (h : PadsMoved s₀ s) : s.engines = s₀.engines := (congrArg State.engines h :)
theorem PadsMoved.wvRoles {s₀ s : State} (h : PadsMoved s₀ s) : s.wvRoles = s₀.wvRoles := (congrArg State.wvRoles h :)
theorem PadsMoved.regs {s₀ s : State} (h : PadsMoved s₀ s) : s.regs = s₀.regs := (congrArg State.regs h :)
theorem PadsMoved.wvRun {s₀ s : State} (h : PadsMoved s₀ s) : s.wvRun = s₀.wvRun := (congrArg State.wvRun h :)

theorem PadsMoved.branch {s₀ s t : State} {c : Prop} {inst : Decidable c} (hs : PadsMoved s₀ s) (ht : PadsMoved s₀ t) :
    PadsMoved s₀ (if c then s else t) := by split <;> assumption

/-- A fold over a state. -/
theorem PadsMoved.foldl {β : Type} {s₀ s : State} {f : State → β → State} {l : List β} (h : PadsMoved s₀ s)
    (hf : ∀ {t x}, PadsMoved s₀ t → PadsMoved s₀ (f t x)) : PadsMoved s₀ (l.foldl f s) :=
  List.foldlRecOn l f h fun _ ht _ _ => hf ht

section
variable {s₀ s : State} (h : PadsMoved s₀ s)
include h

theorem PadsMoved.markEdge {n} : PadsMoved s₀ (s.markEdge n) := h
theorem PadsMoved.setPin {n b} : PadsMoved s₀ (s.setPin n b) := h
theorem PadsMoved.modWvPin {n f} : PadsMoved s₀ (s.modWvPin n f) := h
theorem PadsMoved.setWvPin {n b} : PadsMoved s₀ (s.setWvPin n b) := branch h h.setPin.modWvPin
theorem PadsMoved.wvEdge {n b} : PadsMoved s₀ (s.wvEdge n b) := branch h h.modWvPin.setWvPin
theorem PadsMoved.pinEdge {src b} : PadsMoved s₀ (s.pinEdge src b) := branch h.wvEdge h.setPin
theorem PadsMoved.toldEdge {src b} : PadsMoved s₀ (s.toldEdge src b) :=
  branch h (branch h.pinEdge h.pinEdge.markEdge)
theorem PadsMoved.setDriven {n} : PadsMoved s₀ (s.setDriven n) := h.modWvPin
theorem PadsMoved.movePin {n} : PadsMoved s₀ (s.movePin n) := h.setDriven.setWvPin
theorem PadsMoved.drive {r} : PadsMoved s₀ (s.drive r) := h.foldl fun h => h.movePin

end

theorem engines_drive (s : State) (r : Nat) : (s.drive r).engines = s.engines := (PadsMoved.refl s).drive.engines
theorem regs_drive (s : State) (r : Nat) : (s.drive r).regs = s.regs := (PadsMoved.refl s).drive.regs

@[simp] theorem engine_drive (s : State) (r e : Nat) : (s.drive r).engine e = s.engine e :=
  congrArg (Store.get _ · e) (engines_drive s r)

@[simp] theorem wvRole_drive (s : State) (r k : Nat) : (s.drive r).wvRole k = s.wvRole k :=
  congrArg (Store.get _ · k) (PadsMoved.refl s).drive.wvRoles

/-! ## Events leave engines and roles alone -/

theorem Quiet.engines {s₀ s : State} (h : Quiet s₀ s) : s.engines = s₀.engines := (congrArg State.engines h.rest :)
theorem Quiet.wvRoles {s₀ s : State} (h : Quiet s₀ s) : s.wvRoles = s₀.wvRoles := (congrArg State.wvRoles h.rest :)

theorem Quiet.engine {s₀ s : State} (h : Quiet s₀ s) (e : Nat) : s.engine e = s₀.engine e :=
  congrArg (Store.get _ · e) h.engines

theorem Quiet.wvRole {s₀ s : State} (h : Quiet s₀ s) (r : Nat) : s.wvRole r = s₀.wvRole r :=
  congrArg (Store.get _ · r) h.wvRoles

theorem quiet_ejSafe (s : State) : Quiet s s.ejSafe := (Quiet.refl s).raiseFast (by decide)

/-- The counters of the Weevils are no registers of an event. -/
theorem not_eventReg_weevil {a : Nat} (hl : 0x4000 ≤ a := by decide) (hu : a < 0x5000 := by decide) : ¬ EventReg a := by
  unfold EventReg
  dsimp only [Reg.HIF_NORING_DROP]
  omega

/-- A counter of a whole word counts, and stays at its largest value. -/
theorem fld_count_word (s : State) (a n : Nat) :
    (s.count ⟨a, 31, 0⟩ n).fld ⟨a, 31, 0⟩ = min (2 ^ 32 - 1) (s.fld ⟨a, 31, 0⟩ + n) :=
  fld_count_self s _ n (Nat.zero_le 31) (Nat.lt_succ_self 31)

/-! ## Engines -/

@[simp] theorem engine_completeOp (s : State) (e : Nat) (f : Engine → Engine) :
    (s.completeOp e f).engine e = (f (s.engine e)).complete := engine_modEngine_self s e _

theorem engine_refreshEngine (s : State) (e : Nat) : (s.refreshEngine e).engine e = s.engineNow e :=
  engine_modEngine_self s e _

theorem regs_modEngine (s : State) (e : Nat) (f : Engine → Engine) : (s.modEngine e f).regs = s.regs := rfl
theorem regs_modWv (s : State) (r : Nat) (f : WvRole → WvRole) : (s.modWv r f).regs = s.regs := rfl

/-- The engine as it stands now is brought up to the clock with the lanes of its role. -/
theorem engineNow_eq_upTo (s : State) (e : Nat) :
    ∃ data cpol sample, s.engineNow e = (s.engine e).upTo data cpol sample s.clk := by
  unfold State.engineNow
  dsimp only
  split <;> exact ⟨_, _, _, rfl⟩

/-- Of a shift under way, time changes how many bits have moved, and nothing else. -/
theorem upTo_of_shift {x : Engine} {h : WvShift} (hb : x.busy = .ready) (hs : x.shift = some h) (data : List Nat) (cpol : Bool)
    (sample : WvShift → Nat → Bool) (clk : Nat) : ∃ m, (x.upTo data cpol sample clk).state = x.state ∧
      (x.upTo data cpol sample clk).shift = some { h with moved := m } := by
  unfold Engine.upTo
  simp only [hb, hs]
  split <;> split
  exacts [⟨_, rfl, hs⟩, ⟨_, rfl, rfl⟩, ⟨_, rfl, hs⟩, ⟨_, rfl, rfl⟩]

/-- A role that an engine drives. -/
theorem engine_of_driving {s : State} {e r : Nat} (h : s.driving e = some r) : (s.wvRole r).engine = e := by
  unfold State.driving at h
  split at h
  · split at h
    · next hc =>
      cases h
      simp only [Bool.and_eq_true, beq_iff_eq] at hc
      obtain ⟨⟨he, -⟩, -⟩ := hc
      exact he
    · exact absurd h (by simp)
  · exact absurd h (by simp)

/-- An operation that an engine starts is carried out. -/
theorem runOp_of_starts {s v : State} {e op r arg : Nat} {f : Nat → Nat → State → State}
    (h : s.startOp e op = some (r, arg, v)) : s.runOp e op f = f r arg v := by
  rw [State.runOp, h]

/-! ## Words -/

/-- Records that find room change the TX FIFO of the role's engine, and nothing else of an engine. -/
theorem engine_feed (s : State) (r e : Nat) : ∃ tx, (s.feed r).engine e = { s.engine e with tx := tx } := by
  unfold State.feed
  dsimp only
  rw [engine_modWv]
  by_cases he : e = (s.wvRole r).engine
  · subst he
    exact ⟨_, engine_modEngine_self s _ _⟩
  · exact ⟨_, engine_modEngine_ne s _ he⟩

/-- They change which records of the role wait, and nothing else of it. -/
theorem wvRole_feed (s : State) (r : Nat) : ∃ waiting, (s.feed r).wvRole r = { s.wvRole r with waiting := waiting } :=
  ⟨_, wvRole_modWv_self _ r _⟩

/-- PULL: SR is the oldest word of TX, and the engine enters NEXT. -/
theorem engine_doPull {s : State} {e r : Nat} {w : Word} {rest : List Word} (h : (s.engine e).tx = w :: rest) :
    ∃ tx, (s.doPull e r).engine e = { s.engine e with sr := w, state := (s.engine e).next, busy := .ready, tx := tx } := by
  obtain ⟨tx, htx⟩ :=
    engine_feed (((s.modEngine e fun x => { x with tx := rest }).writeSr e w).completeOp e fun x => x) r e
  refine ⟨tx, ?_⟩
  rw [State.doPull, h]
  rw [htx, engine_completeOp, State.writeSr, engine_modEngine_self, engine_modEngine_self]
  rfl

/-- PUSH: RX grows by SR, the engine enters NEXT, and a shift that idled goes on. -/
theorem engine_doPush (s : State) (e : Nat) : (s.doPush e).engine e =
    { s.engine e with rx := (s.engine e).rx ++ [(s.engine e).sr], shift := (s.engine e).shift.map fun h => h.resume s.clk,
                      state := (s.engine e).next, busy := .ready } := engine_completeOp s e _

end Sys2Proof.Safety
end

section
/-! PROOF. NOP, SET_TIME and WAIT_TIME (R273, R277). -/

namespace Sys2Proof.Safety

open Sys2Proof.Machine

/-- MODE 0: the low half of the time register. -/
theorem setTime_low (v : Nat) (sr : Word) (time now : Time) : (setTime 0 v sr time now).toNat % 2 ^ 32 = sr.toNat ∧
    (setTime 0 v sr time now).toNat / 2 ^ 32 = time.toNat / 2 ^ 32 := by
  have := sr.isLt
  have := time.isLt
  simp only [setTime, BitVec.toNat_ofNat]
  omega

/-- MODE 1: the high half of the time register. -/
theorem setTime_high (v : Nat) (sr : Word) (time now : Time) : (setTime 1 v sr time now).toNat / 2 ^ 32 = sr.toNat ∧
    (setTime 1 v sr time now).toNat % 2 ^ 32 = time.toNat % 2 ^ 32 := by
  have := sr.isLt
  simp only [setTime, BitVec.toNat_ofNat]
  omega

theorem exec_weevilNop_of_starts {s v : State} {dt r arg : Nat} {e : Fin 18}
    (h : (s.advance dt).startOp e.val 0 = some (r, arg, v)) : exec (.weevilNop dt e) s = .next
      (if arg % 65536 = 0 then v.completeOp e.val fun x => x
       else v.modEngine e.val fun x => { x with busy := .pause (v.clk + (5 * (arg % 65536) + 1) / 2) }) :=
  congrArg Host.Outcome.next (runOp_of_starts h)

theorem exec_setTime_of_starts {s v : State} {dt r arg : Nat} {e : Fin 18}
    (h : (s.advance dt).startOp e.val 5 = some (r, arg, v)) : exec (.setTime dt e) s = .next
      (v.completeOp e.val fun x => { x with time := setTime (arg % 4) (getBits arg 21 2) x.sr x.time v.tb }) :=
  congrArg Host.Outcome.next (runOp_of_starts h)

theorem exec_waitTime_of_starts {s v : State} {dt r arg : Nat} {e : Fin 18}
    (h : (s.advance dt).startOp e.val 6 = some (r, arg, v)) : exec (.waitTime dt e) s = .next
      (if reached v.tb (v.engine e.val).time then v.completeOp e.val fun x => x
       else v.modEngine e.val fun x => { x with busy := .wait }) :=
  congrArg Host.Outcome.next (runOp_of_starts h)

theorem exec_timeReached_of_due {s : State} {dt : Nat} {e : Fin 18} (hr : (s.advance dt).wvRun = true)
    (hd : ((s.advance dt).driving e.val).isSome = true) (hb : ((s.advance dt).engine e.val).busy = .wait)
    (ht : reached (s.advance dt).tb ((s.advance dt).engine e.val).time = true) :
    exec (.timeReached dt e) s = .next ((s.advance dt).completeOp e.val fun x => x) :=
  congrArg Host.Outcome.next (if_pos (by simp [hr, hd, hb, ht]))

/-- Settles O28: each operation is one change of its engine. -/
theorem weevilTimeOperations : Obligations.WeevilTimeOperations := by
  refine ⟨fun s dt e r arg v => ⟨fun h => ?_, fun h => ?_, fun h => ?_⟩, ?_⟩
  · refine ⟨_, exec_weevilNop_of_starts h, fun h0 => ?_, fun h0 => ?_, ?_⟩
    · rw [if_pos h0, engine_completeOp]
      exact ⟨rfl, rfl⟩
    · rw [if_neg h0, engine_modEngine_self]
      exact ⟨rfl, rfl⟩
    · split <;> rfl
  · refine ⟨_, exec_setTime_of_starts h, ?_⟩
    rw [engine_completeOp]
    refine ⟨rfl, rfl, fun h0 => ?_, fun h1 => ?_, fun h2 => ?_, fun h3 => ?_, rfl⟩
    · simpa only [Engine.complete, h0] using setTime_low _ _ _ v.tb
    · simpa only [Engine.complete, h1] using setTime_high _ _ _ v.tb
    · simp only [Engine.complete, h2, setTime]
    · simp only [Engine.complete, h3, setTime]
  · refine ⟨_, exec_waitTime_of_starts h, fun hr => ?_, fun hr => ?_, ?_⟩
    · rw [if_pos hr, engine_completeOp]
      exact ⟨rfl, rfl⟩
    · rw [if_neg (by simp [hr]), engine_modEngine_self]
      exact ⟨rfl, rfl⟩
    · split <;> rfl
  · intro s dt e u hr hd hb ht
    refine ⟨_, exec_timeReached_of_due hr hd hb ht, ?_⟩
    rw [engine_completeOp]
    exact ⟨rfl, rfl, rfl⟩

end Sys2Proof.Safety
end

section
/-! PROOF. PULL and PUSH, their stalls, and the drain of the RX FIFOs (R273, R274, R278). -/

namespace Sys2Proof.Safety

open Sys2Proof.Machine

theorem exec_pull_of_starts {s v : State} {dt r arg : Nat} {e : Fin 18}
    (h : (s.advance dt).startOp e.val 1 = some (r, arg, v)) : exec (.pull dt e) s = .next
      (if (v.engine e.val).shift.isNone && !(v.engine e.val).tx.isEmpty then v.doPull e.val r
       else v.modEngine e.val fun x => { x with busy := .pull }) :=
  congrArg Host.Outcome.next (runOp_of_starts h)

theorem exec_push_of_starts {s v : State} {dt r arg : Nat} {e : Fin 18}
    (h : (s.advance dt).startOp e.val 2 = some (r, arg, v)) : exec (.push dt e) s = .next
      (if (v.engine e.val).rx.length < 64 then v.doPush e.val else v.stallPush e.val) :=
  congrArg Host.Outcome.next (runOp_of_starts h)

section
variable {s : State} {dt r : Nat} {e : Fin 18} (hd : (s.advance dt).driving e.val = some r)
  (hr : (s.advance dt).wvRun = true)
include hd hr

theorem exec_stallResume_of_word {w : Word} {rest : List Word} (hb : ((s.advance dt).engineNow e.val).busy = .pull)
    (hs : ((s.advance dt).engineNow e.val).shift = none) (ht : ((s.advance dt).engineNow e.val).tx = w :: rest) :
    exec (.stallResume dt e) s = .next (((s.advance dt).refreshEngine e.val).doPull e.val r) := by
  change execStallResume dt e s = _
  simp [execStallResume, hd, hr, hb, hs, ht]

theorem exec_stallResume_of_room (hb : ((s.advance dt).engineNow e.val).busy = .push)
    (hl : ((s.advance dt).engineNow e.val).rx.length < 64) :
    exec (.stallResume dt e) s = .next (((s.advance dt).refreshEngine e.val).doPush e.val) := by
  change execStallResume dt e s = _
  simp [execStallResume, hd, hr, hb, hl]

end

/-- The oldest 8 words of an RX FIFO are taken. -/
def takeRx (s : State) (e : Nat) : State := s.modEngine e fun x => { x with rx := x.rx.drop 8, drained := s.now + 1 }

theorem exec_rxFifoDrain_of_due {s : State} {dt r : Nat} {e : Fin 18} {x : Engine} (hx : (s.advance dt).engine e.val = x)
    (hr : x.role = some r) (ha : (s.advance dt).alive = true) (hw : x.rx ≠ [])
    (hd : x.drained = 0 ∨ x.drained + 9999 ≤ (s.advance dt).now) : exec (.rxFifoDrain dt e) s = .next
      ((takeRx (s.advance dt) e.val).event 0xC .ok (r + 256 * e.val + 65536 * (x.rx.take 8).length)
        ((x.rx.take 8).flatMap fun w => leBytes 4 w.toNat)) := by
  change execRxFifoDrain dt e s = _
  simp [execRxFifoDrain, takeRx, hx, hr, ha, hw, hd]

/-- Settles O29: `engine_doPull` and `engine_doPush` say what the two operations do, at their start and when they resume. -/
theorem weevilFifoOperations : Obligations.WeevilFifoOperations := by
  refine ⟨fun s dt e r arg v => ⟨fun h => ?_, fun h => ?_⟩, ?_, ?_⟩
  · refine ⟨_, exec_pull_of_starts h, fun w rest hs ht => ?_, fun hw => ?_⟩
    · obtain ⟨tx, he⟩ := engine_doPull (r := r) ht
      rw [if_pos (by simp [hs, ht]), he]
      exact ⟨rfl, rfl, rfl⟩
    · rw [if_neg (by rcases hw with hw | hw <;> simp [hw]), engine_modEngine_self]
      exact ⟨rfl, rfl, rfl⟩
  · refine ⟨_, exec_push_of_starts h, fun hl => ?_, fun hl => ?_⟩
    · rw [if_pos hl, engine_doPush]
      exact ⟨rfl, rfl, rfl⟩
    · rw [if_neg (Nat.not_lt.mpr hl), State.stallPush, engine_modEngine_self]
      exact ⟨rfl, rfl, rfl, rfl⟩
  · intro s dt e r u x hd hr
    refine ⟨fun w rest hb hs ht => ?_, fun hb hl => ?_⟩
    · obtain ⟨tx, he⟩ := engine_doPull (s := u.refreshEngine e.val) (r := r)
        ((congrArg Engine.tx (engine_refreshEngine u e.val)).trans ht)
      refine ⟨_, exec_stallResume_of_word hd hr hb hs ht, ?_⟩
      rw [he, engine_refreshEngine]
      exact ⟨rfl, rfl, rfl⟩
    · refine ⟨_, exec_stallResume_of_room hd hr hb hl, ?_⟩
      rw [engine_doPush, engine_refreshEngine]
      exact ⟨rfl, rfl, rfl, rfl⟩
  · intro s dt e r u x hr ha hw hd
    refine ⟨_, exec_rxFifoDrain_of_due rfl hr ha hw hd, ?_⟩
    rw [(Quiet.refl _).event.engine, takeRx, engine_modEngine_self]
    exact ⟨rfl, rfl⟩

end Sys2Proof.Safety
end

section
/-! PROOF. Shifts: their start, and what follows their end (R273, R275). -/

namespace Sys2Proof.Safety

open Sys2Proof.Machine

/-! ## The start -/

/-- The shift that an operation with argument `arg` starts at `clk` (R275), once `moved` bits have gone. -/
def shiftOf (arg : Nat) (out : Bool) (clk moved : Nat) : WvShift :=
  { out := out, bits := arg % 32 + 1, width := if out then 2 ^ getBits arg 6 5 else 1, half := getBits arg 10 7
    start := clk, moved := moved, pauses := [] }

/-- A shift starts with the settings of its argument, and the engine enters NEXT. -/
theorem engine_startShift (s : State) (e r arg : Nat) (out : Bool) :
    ((s.startShift e r arg out).engine e).state = (s.engine e).next ∧
      ∃ m, ((s.startShift e r arg out).engine e).shift = some (shiftOf arg out s.clk m) := by
  have hx := engine_completeOp s e fun x => { x with shift := some (shiftOf arg out s.clk 0) }
  obtain ⟨data, cpol, sample, hnow⟩ :=
    engineNow_eq_upTo (s.completeOp e fun x => { x with shift := some (shiftOf arg out s.clk 0) }) e
  obtain ⟨m, hstate, hshift⟩ := upTo_of_shift (congrArg Engine.busy hx) (congrArg Engine.shift hx) data cpol sample s.clk
  have hs : (s.startShift e r arg out).engine e = _ := ((engine_drive _ r e).trans (engine_refreshEngine _ e)).trans hnow
  rw [hs]
  exact ⟨hstate.trans (congrArg Engine.state hx), m, hshift⟩

theorem askShift_of_idle {s : State} {e : Nat} (r arg : Nat) (out : Bool) (h : (s.engine e).shift = none) :
    s.askShift e r arg out = s.startShift e r arg out := if_pos (by simp [h])

theorem askShift_of_busy {s : State} {e : Nat} (r arg : Nat) (out : Bool) (h : (s.engine e).shift ≠ none) :
    s.askShift e r arg out = s.modEngine e fun x => { x with busy := if out then .shiftOut arg else .shiftIn arg } :=
  if_neg (by simp [h])

section
variable {s v : State} {dt r arg : Nat} {e : Fin 18}

theorem exec_shiftOut_of_invalid (h : (s.advance dt).startOp e.val 3 = some (r, arg, v)) (hw : getBits arg 6 5 = 3) :
    exec (.shiftOut dt e) s = .fault .weevilInvalidOp := if_pos (by simp [h, hw, badShift])

theorem exec_shiftOut_of_valid (h : (s.advance dt).startOp e.val 3 = some (r, arg, v)) (hw : getBits arg 6 5 ≠ 3) :
    exec (.shiftOut dt e) s = .next (v.askShift e.val r arg true) :=
  (if_neg (by simp [h, hw, badShift])).trans (congrArg Host.Outcome.next (runOp_of_starts h))

theorem exec_shiftIn_of_starts (h : (s.advance dt).startOp e.val 4 = some (r, arg, v)) :
    exec (.shiftIn dt e) s = .next (v.askShift e.val r arg false) := congrArg Host.Outcome.next (runOp_of_starts h)

end

/-! ## The end -/

/-- The shifter of an engine becomes idle. -/
def idleShift (s : State) (e : Nat) : State := s.modEngine e fun x => { x with shift := none }

theorem engine_idleShift (s : State) (e : Nat) : (idleShift s e).engine e = { s.engine e with shift := none } :=
  engine_modEngine_self s e _

theorem exec_shiftComplete_of_over {s : State} {dt r : Nat} {e : Fin 18} {pads : List PadEdge} {h : WvShift} {u : State}
    (hu : u = ((s.padEdges pads).advance dt).refreshEngine e.val) (hs : (u.engine e.val).shift = some h)
    (hd : u.driving e.val = some r) (hr : u.wvRun = true) (ho : h.over u.clk = true) :
    exec (.shiftComplete dt e pads) s = .next (((idleShift u e.val).afterShift e.val r).drive r) := by
  subst hu
  change execShiftComplete dt e pads s = _
  simp [execShiftComplete, hs, hd, hr, ho, idleShift]

theorem afterShift_of_ready {s : State} {e : Nat} (r : Nat) (h : (s.engine e).busy = .ready) : s.afterShift e r = s := by
  simp [State.afterShift, h]

theorem afterShift_of_word {s : State} {e : Nat} {w : Word} {rest : List Word} (r : Nat) (h : (s.engine e).busy = .pull)
    (ht : (s.engine e).tx = w :: rest) : s.afterShift e r = s.doPull e r := by
  simp [State.afterShift, h, ht]

/-- Settles O30: `engine_startShift` says what a shift starts with; at its end the shifter is idle, and of what waits for it a
PULL goes on (`engine_doPull`). -/
theorem weevilShifts : Obligations.WeevilShifts := by
  refine ⟨fun s dt e r arg v => ⟨fun h => ⟨exec_shiftOut_of_invalid h, fun hw => ?_⟩, fun h => ?_⟩, ?_⟩
  · refine ⟨_, exec_shiftOut_of_valid h hw, fun hi => ?_, fun hi => ?_⟩
    · rw [askShift_of_idle r arg true hi]
      obtain ⟨hn, m, hm⟩ := engine_startShift v e.val r arg true
      exact ⟨hn, _, hm, rfl, rfl, rfl, rfl, rfl⟩
    · rw [askShift_of_busy r arg true hi, engine_modEngine_self]
      exact ⟨rfl, rfl⟩
  · refine ⟨_, exec_shiftIn_of_starts h, fun hi => ?_, fun hi => ?_⟩
    · rw [askShift_of_idle r arg false hi]
      obtain ⟨hn, m, hm⟩ := engine_startShift v e.val r arg false
      exact ⟨hn, _, hm, rfl, rfl, rfl, rfl, rfl⟩
    · rw [askShift_of_busy r arg false hi, engine_modEngine_self]
      exact ⟨rfl, rfl⟩
  · intro s dt e pads h r u hs hd hr ho
    have hx := engine_idleShift u e.val
    refine ⟨_, exec_shiftComplete_of_over rfl hs hd hr ho, fun hb => ?_, fun w rest hb ht => ?_⟩
    · rw [afterShift_of_ready r ((congrArg Engine.busy hx).trans hb), engine_drive, regs_drive, hx]
      exact ⟨rfl, rfl, rfl⟩
    · have ht' : ((idleShift u e.val).engine e.val).tx = w :: rest := (congrArg Engine.tx hx).trans ht
      obtain ⟨tx, he⟩ := engine_doPull (r := r) ht'
      rw [afterShift_of_word r ((congrArg Engine.busy hx).trans hb) ht', engine_drive, he, hx]
      exact ⟨rfl, rfl, rfl⟩

end Sys2Proof.Safety
end

section
/-! PROOF. A latch that ends the work after a thermal trip, against the last clause of O31.

LATCH_EDGE drives the edge of a waiting LATCH_AT, and its ACK may acknowledge the last record of the role. After a trip
(R287, R458) that stops the engine where it stands, and with it a shift under way, whose data lanes stand at the clock of the
stop; the statement has them at the levels that the engine held before. The two agree where no trip is pending, or where
the engine runs no shift; the statement asks neither. -/

namespace Sys2Proof.Safety

open Sys2Proof.Machine

/-- A SHIFT_OUT of 8 bits at 5 ns a bit, of which the first stands at the data lane. -/
def firstBitOut : WvShift := { out := true, bits := 8, width := 1, half := 0, start := 0, moved := 1, pauses := [] }

/-- After a trip, when no pulse comes any more, engine 0 drives role 0, whose lane 0 is a data lane and whose lane 1 is timed.
Its LATCH_AT waits to raise lane 1 for the last record, and with ACK, while the shift shows its first bit 0; the next bit
is 1. -/
def tripLatch : State :=
  let s := State.reset.writeTable (wvKey 0) 0 12 [0x53]
  { s with
    inReset := false, tbStarted := true
    thermal := { s.thermal with trip := some 0, noPulse := true }
    wvRoles := [(0, { WvRole.init 0 with loaded := true, unacked := [⟨[0, 0, 0x202], false⟩] })]
    engines := [(0, { Engine.init with
      role := some 0, busy := .latch 2 2 true, sr := 0x80000000, shift := some firstBitOut })] }

/-- 5 ns later, at the second bit of the shift, the edge is due as the last clause asks. -/
theorem tripLatch_due : (tripLatch.advance 5).driving 0 = some 0 ∧ ((tripLatch.advance 5).engine 0).busy = .latch 2 2 true ∧
    (tripLatch.advance 5).wvRun = true ∧ reached (tripLatch.advance 5).tb ((tripLatch.advance 5).engine 0).time = true ∧
    (tripLatch.advance 5).tooShort 0 = false := by decide +kernel

/-- The data lane is none of the timed lanes, and the engine held it low. -/
theorem tripLatch_dataLane : (((tripLatch.advance 5).lanesOf 0 5).contains 0 && bitOf 2 0) = false ∧
    bitOf ((tripLatch.advance 5).engine 0).lanes 0 = false := by decide +kernel

/-- The engine stops with the second bit at its data lane. -/
theorem tripLatch_stops : ∃ t, exec (.latchEdge 5 0) tripLatch = .next t ∧ bitOf (t.engine 0).lanes 0 = true :=
  ⟨_, rfl, by decide +kernel⟩

/-- Refutes O31: LATCH_EDGE of the last record after a trip stops the engine with its shift, so that the data lane 0, which the
latch leaves alone, rises to the bit of the shift that has come; the last clause keeps it low. -/
theorem not_weevilLatches : ¬ Obligations.WeevilLatches := by
  rintro ⟨-, hedge⟩
  obtain ⟨hd, hb, hr, ht, hs⟩ := tripLatch_due
  obtain ⟨t, hexec, -, -, hlanes, -⟩ := hedge tripLatch 5 0 0 2 2 true hd hb hr ht hs
  obtain ⟨t', hexec', hhigh⟩ := tripLatch_stops
  obtain rfl : t' = t := Host.Outcome.next.inj (hexec'.symm.trans hexec)
  obtain ⟨hnot, hlow⟩ := tripLatch_dataLane
  have h0 := hlanes 0 (by decide)
  rw [if_neg (by rw [hnot]; decide)] at h0
  exact absurd (hhigh.symm.trans (h0.trans hlow)) (by decide)

end Sys2Proof.Safety
end

section
/-! PROOF. CAPTURE and its edges, RAISE_EVENT and HALT (R273, R278, R279). -/

namespace Sys2Proof.Safety

open Sys2Proof.Machine

/-! ## Captures -/

/-- CAPTURE of a valid mode, as R273 gives it. -/
def captureAs (s : State) (e arg : Nat) : State :=
  if getBits arg 5 4 = 0 then s.completeOp e fun x => { x with armed := some (arg % 8, !bitOf arg 3), captured := false }
  else
    let cap := (s.engine e).cap.toNat
    (s.writeSr e (BitVec.ofNat 32 (if getBits arg 5 4 = 1 then cap else cap / 2 ^ 32))).completeOp e fun x => x

section
variable {s v : State} {dt r arg : Nat} {e : Fin 18}

theorem exec_capture_of_invalid (h : (s.advance dt).startOp e.val 8 = some (r, arg, v)) (hm : getBits arg 5 4 = 3) :
    exec (.capture dt e) s = .fault .weevilInvalidOp := if_pos (by simp [h, hm])

theorem exec_capture_of_valid (h : (s.advance dt).startOp e.val 8 = some (r, arg, v)) (hm : getBits arg 5 4 ≠ 3) :
    exec (.capture dt e) s = .next (captureAs v e.val arg) := by
  refine (if_neg (by simp [h, hm])).trans (congrArg Host.Outcome.next ((runOp_of_starts h).trans ?_))
  unfold captureAs
  split
  · next h0 => rw [if_pos h0]
  · next h1 => rw [h1]; rfl
  · next h0 h1 => simp only [if_neg h0, if_neg h1]

end

theorem engine_captureAs_arm {s : State} {e arg : Nat} (h : getBits arg 5 4 = 0) : (captureAs s e arg).engine e =
    { s.engine e with armed := some (arg % 8, !bitOf arg 3), captured := false, state := (s.engine e).next, busy := .ready } := by
  rw [captureAs, if_pos h, engine_completeOp]
  rfl

theorem engine_captureAs_stamp {s : State} {e arg : Nat} (h : getBits arg 5 4 ≠ 0) : (captureAs s e arg).engine e =
    { s.engine e with
      sr := BitVec.ofNat 32 (if getBits arg 5 4 = 1 then (s.engine e).cap.toNat else (s.engine e).cap.toNat / 2 ^ 32)
      state := (s.engine e).next, busy := .ready } := by
  rw [captureAs, if_neg h, engine_completeOp, State.writeSr, engine_modEngine_self]
  rfl

theorem captureAs_frame (s : State) (e arg : Nat) : captureAs s e arg = { s with engines := (captureAs s e arg).engines } := by
  unfold captureAs
  split <;> rfl

/-! ## Edges told at a pad -/

theorem driven_modWvPin (s : State) (n k : Nat) {f : WvPin → WvPin} (hf : ∀ x, (f x).driven = x.driven) :
    ((s.modWvPin n f).wvPinInfo k).driven = (s.wvPinInfo k).driven := by
  by_cases hk : k = n
  · subst hk
    exact (congrArg WvPin.driven (Store.get_set_self _ _ _ _)).trans (hf _)
  · exact congrArg WvPin.driven (Store.get_set_ne _ _ _ hk)

theorem driven_setWvPin (s : State) (n k : Nat) (b : Bool) :
    ((s.setWvPin n b).wvPinInfo k).driven = (s.wvPinInfo k).driven := by
  unfold State.setWvPin
  split
  · rfl
  · exact driven_modWvPin (s.setPin (64 + n) b) n k fun _ => rfl

/-- An edge told at a WV_IO pin does not make the device drive it. -/
theorem drivesPin_toldEdge (s : State) (n : Nat) (b : Bool) :
    (s.toldEdge (64 + n) b).drivesPin (64 + n) = s.drivesPin (64 + n) := by
  have hpin (t : State) : t.drivesPin (64 + n) = (t.wvPinInfo n).driven := by simp [State.drivesPin]
  have hedge : ((s.wvEdge n b).wvPinInfo n).driven = (s.wvPinInfo n).driven := by
    unfold State.wvEdge
    split
    · rfl
    · exact (driven_setWvPin _ n n b).trans (driven_modWvPin s n n fun _ => rfl)
  have he : s.pinEdge (64 + n) b = s.wvEdge n b := by simp [State.pinEdge]
  rw [hpin, hpin]
  unfold State.toldEdge
  split
  · rfl
  · dsimp only
    rw [he]
    split <;> exact hedge

theorem toldEdge_of_driven {s : State} {src : Nat} (b : Bool) (h : s.drivesPin src = true) : s.toldEdge src b = s := if_pos h

/-- The pad of a WV_IO pin has an edge: any at one that the device does not drive, the one just now at one that it drives. -/
theorem hasEdge_weevil (s : State) (n : Nat) (b : Bool) : s.hasEdge (64 + n) b =
    (!s.drivesPin (64 + n) || (s.wvPin n == b && s.padEdge (64 + n))) := by
  simp [State.hasEdge, State.padLevel]

theorem exec_weevilCaptureEdge_of_armed {s : State} {dt r lane n : Nat} {e : Fin 18} {rising : Bool} {u t : State}
    (hu : u = s.advance dt) (ht : t = u.toldEdge (64 + n) rising) (hd : u.driving e.val = some r)
    (ha : (u.engine e.val).armed = some (lane, rising))
    (hn : ((u.pinsOf r).find? fun n => u.fld (.WV_PIN_LANE n) == lane) = some n) (hr : u.wvRun = true) :
    exec (.weevilCaptureEdge dt e) s = .next
      (if t.hasEdge (64 + n) rising then t.modEngine e.val fun x => { x with cap := u.tb, armed := none, captured := true }
       else t) := by
  subst ht hu
  change execWeevilCaptureEdge dt e s = _
  simp [execWeevilCaptureEdge, hd, ha, hn, (PadsMoved.refl _).toldEdge.wvRun.trans hr]

/-! ## RAISE_EVENT and HALT -/

theorem engines_limitedEvent (s : State) (code sub : Nat) (status : Status) (source : Nat) (args : List Byte) :
    (s.limitedEvent code sub status source args).engines = s.engines := by
  unfold State.limitedEvent
  extract_lets
  split
  · rfl
  · exact (Quiet.refl _).event.engines

/-- RAISE_EVENT counts, and changes no engine. -/
theorem weevilEvent_spec (s : State) (e r code : Nat) (fault : Bool) : (s.weevilEvent e r code fault).engines = s.engines ∧
    (s.weevilEvent e r code fault).fld .WV_EVENTS_COUNT = min (2 ^ 32 - 1) (s.fld .WV_EVENTS_COUNT + 1) := by
  have hcount := fld_count_word s Reg.WV_EVENTS 1
  unfold State.weevilEvent
  extract_lets s1 s2
  have he : s2.engines = s.engines := (engines_limitedEvent s1 _ _ _ _ _).trans (State.count_engines s _ _)
  have hr : s2.fld .WV_EVENTS_COUNT = s1.fld .WV_EVENTS_COUNT :=
    fld_of_reg (regsKept_limitedEvent s1 _ _ _ _ _ _ not_eventReg_weevil)
  have hq : Quiet s2 (s2.raiseFast 8) := (Quiet.refl s2).raiseFast (by decide)
  split
  · exact ⟨hq.engines.trans he, (hq.fld not_eventReg_weevil).trans (hr.trans hcount)⟩
  · exact ⟨he, hr.trans hcount⟩

theorem exec_raiseEvent_of_starts {s v : State} {dt r arg : Nat} {e : Fin 18}
    (h : (s.advance dt).startOp e.val 9 = some (r, arg, v)) : exec (.raiseEvent dt e) s = .next
      ((v.completeOp e.val fun x => x).weevilEvent e.val r (arg % 256) (bitOf arg 8)) :=
  congrArg Host.Outcome.next (runOp_of_starts h)

/-- The state in which a HALT leaves role and engine, before the interrupts that tell of it. -/
def haltRole (s : State) (e r : Nat) : State := ((s.stopEngine e).modWv r fun w => { w with halted := true }).drive r

theorem exec_halt_of_starts {s v : State} {dt r arg : Nat} {e : Fin 18}
    (h : (s.advance dt).startOp e.val 10 = some (r, arg, v)) :
    exec (.halt dt e) s = .next ((haltRole v e.val r).raiseFast 8).ejSafe := congrArg Host.Outcome.next (runOp_of_starts h)

theorem haltRole_spec (s : State) (e r : Nat) : ((haltRole s e r).engine e).busy = .halted ∧
    ((haltRole s e r).engine e).shift = none ∧ ((haltRole s e r).wvRole r).halted = true := by
  rw [haltRole, engine_drive, engine_modWv, engine_stopEngine, wvRole_drive, wvRole_modWv_self]
  exact ⟨rfl, rfl, rfl⟩

/-- Settles O32: CAPTURE by its modes, the armed edge by what the pad shows, and the two operations that tell the host by
`weevilEvent_spec` and `haltRole_spec`. -/
theorem weevilCapturesEventsAndHalt : Obligations.WeevilCapturesEventsAndHalt := by
  refine ⟨fun s dt e r arg v => ⟨fun h => ⟨exec_capture_of_invalid h, fun hm => ?_⟩, fun h => ?_, fun h => ?_⟩, ?_⟩
  · refine ⟨_, exec_capture_of_valid h hm, ?_⟩
    by_cases h0 : getBits arg 5 4 = 0
    · rw [engine_captureAs_arm h0]
      exact ⟨rfl, fun _ => ⟨rfl, rfl⟩, fun h1 => absurd (h0.symm.trans h1) (by decide),
        fun h2 => absurd (h0.symm.trans h2) (by decide), captureAs_frame _ _ _⟩
    · rw [engine_captureAs_stamp h0]
      exact ⟨rfl, fun h => absurd h h0, fun h1 => by rw [if_pos h1], fun h2 => by rw [if_neg (by rw [h2]; decide)],
        captureAs_frame _ _ _⟩
  · obtain ⟨he, hcount⟩ := weevilEvent_spec (v.completeOp e.val fun x => x) e.val r (arg % 256) (bitOf arg 8)
    refine ⟨_, exec_raiseEvent_of_starts h, ?_, hcount⟩
    rw [State.engine, he]
    exact congrArg Engine.state (engine_completeOp v e.val fun x => x)
  · have hq : Quiet (haltRole v e.val r) ((haltRole v e.val r).raiseFast 8).ejSafe :=
      ((Quiet.refl _).raiseFast (by decide)).raiseFast (by decide)
    refine ⟨_, exec_halt_of_starts h, ?_⟩
    rw [hq.engine, hq.wvRole]
    exact haltRole_spec v e.val r
  · intro s dt e r lane n rising u hd ha hn hr
    have hregs : (u.toldEdge (64 + n) rising).regs = u.regs := (PadsMoved.refl u).toldEdge.regs
    refine ⟨_, exec_weevilCaptureEdge_of_armed rfl rfl hd ha hn hr, ?_, fun hedge => ?_, fun hd1 hno => ?_⟩
    · split <;> exact hregs
    · have hhas : (u.toldEdge (64 + n) rising).hasEdge (64 + n) rising = true := by
        cases hdr : u.drivesPin (64 + n) with
        | false => simp [hasEdge_weevil, drivesPin_toldEdge, hdr]
        | true =>
          rw [toldEdge_of_driven rising hdr, hasEdge_weevil]
          simpa [hdr] using hedge
      rw [if_pos hhas, engine_modEngine_self]
      exact ⟨rfl, rfl, rfl⟩
    · rw [toldEdge_of_driven rising hd1, hasEdge_weevil]
      exact if_neg (by rcases hno with hno | hno <;> simp [hd1, hno])

end Sys2Proof.Safety
end

section
/-! PROOF. Program swaps and the hand-over of a role (R288, R289, R291). -/

namespace Sys2Proof.Safety

open Sys2Proof.Machine

/-! ## Starting a program -/

/-- The role runs the program of the active bank, and no swap is pending. -/
theorem wvRole_startProgram (s : State) (r : Nat) : (s.startProgram r).wvRole r =
    { s.wvRole r with bank := s.activeBank (wvKey r), loaded := true, halted := s.roleLost 8 r, swap := none } :=
  (wvRole_drive _ r r).trans ((wvRole_modEngine _ _ _ r).trans (wvRole_modWv_self s r _))

/-- The engine stands at ENTRY of the new program, and runs unless the role was lost or stopped. -/
theorem engine_startProgram {s : State} {e r : Nat} (he : (s.wvRole r).engine = e) :
    ((s.startProgram r).engine e).busy = (if s.roleLost 8 r || (s.wvRole r).stopped then .halted else .ready) ∧
    ((s.startProgram r).engine e).state = s.wvHeader r (s.activeBank (wvKey r)) 8 1 % 64 := by
  unfold State.startProgram
  extract_lets bank lost s1 entry clocks cpol
  have hw : s1.wvRole r = { s.wvRole r with bank := bank, loaded := true, halted := lost, swap := none } :=
    wvRole_modWv_self s r _
  have he1 : (s1.wvRole r).engine = e := (congrArg WvRole.engine hw).trans he
  have hentry : entry = s.wvHeader r bank 8 1 % 64 :=
    congrArg (fun b => s.wvHeader r b 8 1 % 64) (congrArg WvRole.bank hw)
  rw [engine_drive, he1, engine_modEngine_self, hw]
  exact ⟨rfl, hentry⟩

theorem regs_startProgram (s : State) (r : Nat) : (s.startProgram r).regs = s.regs := regs_drive _ r

theorem wvRole_count (s : State) (f : Fld) (n r : Nat) : (s.count f n).wvRole r = s.wvRole r := rfl

theorem reg_feed (s : State) (r a : Nat) : (s.feed r).reg a = s.reg a := rfl

/-- Records that are written again stay with their role, which keeps all else. -/
theorem wvRole_replay (s : State) (r : Nat) : ∃ unacked waiting,
    (s.replay r).wvRole r = { s.wvRole r with unacked := unacked, waiting := waiting } := by
  unfold State.replay
  extract_lets w n again s1
  obtain ⟨waiting, hw⟩ :=
    wvRole_feed ((s1.modWv r fun w => { w with unacked := again, waiting := again }).count .WV_REPLAY_COUNT n) r
  have h : ((s1.modWv r fun w => { w with unacked := again, waiting := again }).count .WV_REPLAY_COUNT n).wvRole r =
      { s.wvRole r with unacked := again, waiting := again } := (wvRole_count _ _ _ r).trans (wvRole_modWv_self s1 r _)
  refine ⟨again, waiting, ?_⟩
  rw [hw, h]

theorem reg_replay (s : State) (r : Nat) {a : Nat} (h : a ≠ Reg.WV_REPLAY) : (s.replay r).reg a = s.reg a :=
  (reg_feed _ r a).trans (reg_count_ne _ _ h)

/-! ## The commands -/

theorem exec_safeStateSwitch_of_safe {s : State} {dt r : Nat} {e : Fin 18} {u : State}
    (hu : u = (s.advance dt).refreshEngine e.val) (hd : u.driving e.val = some r) (hr : u.wvRun = true)
    (hs : (u.wvRole r).swap.isSome = true) (hm : (u.wvRole r).move = none) (ha : u.atSafeState r (u.engine e.val) = true) :
    exec (.safeStateSwitch dt e) s = .next (u.startProgram r) := by
  subst hu
  change execSafeStateSwitch dt e s = _
  simp [execSafeStateSwitch, hd, hr, hs, hm, ha]

theorem exec_forcedSwapTimeout_of_late {s : State} {dt r since : Nat} {e : Fin 18} {u : State} (hu : u = s.advance dt)
    (hr : (u.engine e.val).role = some r) (he : (u.wvRole r).engine = e.val) (hw : u.wvRun = true)
    (hm : (u.wvRole r).move = none) (hs : (u.wvRole r).swap = some since)
    (hl : since + 1000 * u.fld .WV_CFG_SWAP_TMO ≤ u.now) :
    exec (.forcedSwapTimeout dt e) s = .next ((u.forceSwap r).raiseFast 8) := by
  subst hu
  change execForcedSwapTimeout dt e s = _
  simp [execForcedSwapTimeout, hr, he, hw, hm, hs, hl]

/-- R289: a forced swap counts, ends the shift, empties the FIFOs and brings the pins to SAFE before the program starts. -/
def clearForSwap (s : State) (r : Nat) : State :=
  ((s.count .WV_FORCED_COUNT 1).modEngine (s.wvRole r).engine fun _ =>
    { s.engineNow (s.wvRole r).engine with shift := none, tx := [], rx := [] }).modWv r fun w => { w with safe := true }

theorem forceSwap_eq (s : State) (r : Nat) : s.forceSwap r = ((clearForSwap s r).startProgram r).ejSafe.replay r := rfl

theorem regs_clearForSwap (s : State) (r : Nat) : (clearForSwap s r).regs = (s.count .WV_FORCED_COUNT 1).regs :=
  (regs_modWv _ r _).trans (regs_modEngine _ _ _)

/-- The records that are written again after a forced swap bring no swap. -/
theorem swap_replay {t : State} {r : Nat} (h : (t.wvRole r).swap = none) : ((t.ejSafe.replay r).wvRole r).swap = none := by
  obtain ⟨unacked, waiting, hw⟩ := wvRole_replay t.ejSafe r
  rw [hw, (quiet_ejSafe t).wvRole]
  exact h

/-- They leave WV_FORCED as the swap has counted it. -/
theorem forcedCount_replay {s t : State} {r : Nat} (h : t.regs = (s.count .WV_FORCED_COUNT 1).regs) :
    (t.ejSafe.replay r).fld .WV_FORCED_COUNT = min (2 ^ 32 - 1) (s.fld .WV_FORCED_COUNT + 1) :=
  calc (t.ejSafe.replay r).fld .WV_FORCED_COUNT
    _ = t.ejSafe.fld .WV_FORCED_COUNT := fld_of_reg (reg_replay _ r (by decide))
    _ = t.fld .WV_FORCED_COUNT := (quiet_ejSafe t).fld not_eventReg_weevil
    _ = (s.count .WV_FORCED_COUNT 1).fld .WV_FORCED_COUNT := fld_congr h _
    _ = _ := fld_count_word s Reg.WV_FORCED 1

/-- A forced swap has taken place, and counts. -/
theorem forceSwap_spec (s : State) (r : Nat) : ((s.forceSwap r).wvRole r).swap = none ∧
    (s.forceSwap r).fld .WV_FORCED_COUNT = min (2 ^ 32 - 1) (s.fld .WV_FORCED_COUNT + 1) := by
  rw [forceSwap_eq]
  exact ⟨swap_replay (congrArg WvRole.swap (wvRole_startProgram (clearForSwap s r) r)),
    forcedCount_replay ((regs_startProgram (clearForSwap s r) r).trans (regs_clearForSwap s r))⟩

theorem exec_weevilRoleHandover_of_safe {s : State} {dt : Nat} {r : Fin 16} {u : State} (hu : u = s.advance dt)
    (hr : u.wvRun = true) (hm : (u.wvRole r.val).move.isSome = true)
    (hs : (u.wvRole r.val).halted = true ∨ u.atSafeState r.val (u.engineNow (u.wvRole r.val).engine) = true) :
    exec (.weevilRoleHandover dt r) s = .next (u.moveRole r.val false) := by
  subst hu
  exact congrArg Host.Outcome.next (if_pos (by simp [hr, hm, hs]))

/-- A role that has moved is with the engine that holds it, also where it starts a program there. -/
theorem wvRole_moveRole (s : State) (r : Nat) (forced : Bool) :
    ((s.moveRole r forced).wvRole r).engine = s.holder 8 r ∧ ((s.moveRole r forced).wvRole r).move = none := by
  unfold State.moveRole
  extract_lets w old new s1 present rx x s2 s3 s4
  have h4 : (s4.wvRole r).engine = new ∧ (s4.wvRole r).move = none := by
    rw [wvRole_modWv_self]
    exact ⟨rfl, rfl⟩
  have h5 : ((s4.startProgram r).wvRole r).engine = new ∧ ((s4.startProgram r).wvRole r).move = none := by
    rw [wvRole_startProgram]
    exact h4
  have hreplay (t : State) (ht : (t.wvRole r).engine = new ∧ (t.wvRole r).move = none) :
      ((t.replay r).wvRole r).engine = new ∧ ((t.replay r).wvRole r).move = none := by
    obtain ⟨unacked, waiting, hw⟩ := wvRole_replay t r
    rw [hw]
    exact ht
  split
  · exact hreplay s4 h4
  · exact hreplay _ h5

/-- Settles O33: a swap starts the program of the active bank (`wvRole_startProgram`, `engine_startProgram`), at once or after
it was forced (`forceSwap_spec`), and a role that moves is with its holder (`wvRole_moveRole`). -/
theorem weevilSwapsAndHandovers : Obligations.WeevilSwapsAndHandovers := by
  refine ⟨?_, ?_, ?_⟩
  · intro s dt e r u hd hr hs hm ha
    obtain ⟨hbusy, hstate⟩ := engine_startProgram (engine_of_driving hd)
    refine ⟨_, exec_safeStateSwitch_of_safe rfl hd hr hs hm ha, ?_⟩
    rw [wvRole_startProgram]
    exact ⟨rfl, rfl, rfl, hbusy, hstate⟩
  · intro s dt e r since u hr he hw hm hs hl
    obtain ⟨hswap, hcount⟩ := forceSwap_spec u r
    have hq : Quiet (u.forceSwap r) ((u.forceSwap r).raiseFast 8) := (Quiet.refl _).raiseFast (by decide)
    exact ⟨_, exec_forcedSwapTimeout_of_late rfl hr he hw hm hs hl, by rw [hq.wvRole]; exact hswap,
      (hq.fld not_eventReg_weevil).trans hcount⟩
  · intro s dt r u w hr hm hs
    exact ⟨_, exec_weevilRoleHandover_of_safe rfl hr hm hs, wvRole_moveRole u r.val false⟩

end Sys2Proof.Safety
end

section
/-! PROOF. What a field of a register reads after another field of it was written, and the registers that a function leaves
alone. -/

namespace Sys2Proof.Safety

open Sys2Proof.Machine

/-! ## Fields of one register -/

/-- A field keeps its value where bits of its register apart from it are written. -/
theorem fld_setFld_bits (s : State) {a hi lo hi' lo' : Nat} (v : Nat) (h : lo ≤ hi := by decide)
    (h32 : hi < 32 := by decide) (hb : hi' < lo ∨ hi < lo' := by decide) :
    (s.setFld ⟨a, hi, lo⟩ v).fld ⟨a, hi', lo'⟩ = s.fld ⟨a, hi', lo'⟩ :=
  fld_setFld_apart s (f := ⟨a, hi, lo⟩) (g := ⟨a, hi', lo'⟩) v rfl h h32 hb

theorem flag_setFld_bits (s : State) {a hi lo hi' lo' : Nat} (v : Nat) (h : lo ≤ hi := by decide)
    (h32 : hi < 32 := by decide) (hb : hi' < lo ∨ hi < lo' := by decide) :
    (s.setFld ⟨a, hi, lo⟩ v).flag ⟨a, hi', lo'⟩ = s.flag ⟨a, hi', lo'⟩ :=
  congrArg (· == 1) (fld_setFld_bits s v h h32 hb)

theorem flag_setFlag_bits (s : State) {a i j : Nat} (b : Bool) (h32 : i < 32 := by decide) (hb : j ≠ i := by decide) :
    (s.setFlag ⟨a, i, i⟩ b).flag ⟨a, j, j⟩ = s.flag ⟨a, j, j⟩ :=
  flag_setFld_bits s (boolNat b) (Nat.le_refl i) h32 (Nat.lt_or_gt_of_ne hb)

theorem flag_setFlag_bit (s : State) {a i : Nat} (b : Bool) (h32 : i < 32 := by decide) :
    (s.setFlag ⟨a, i, i⟩ b).flag ⟨a, i, i⟩ = b := flag_setFlag_self s _ b rfl h32

/-- A field of one bit is that bit of its register. -/
theorem flag_eq_bitOf (s : State) (a i : Nat) : s.flag ⟨a, i, i⟩ = bitOf (s.reg a).toNat i := by
  have hi : i + 1 - i = 1 := by omega
  dsimp only [State.flag, State.fld, getBits]
  rw [hi]
  rfl

/-- A bit that the host may write reads as written. -/
theorem bitOf_plainWrite {rw w1c : Word} (old v : Word) {i : Nat} (h : rw.getLsbD i = true) :
    bitOf (plainWrite rw w1c old v).toNat i = bitOf v.toNat i := by
  simp only [bitOf_eq_testBit, BitVec.testBit_toNat, plainWrite, BitVec.getLsbD_or, BitVec.getLsbD_and, BitVec.getLsbD_not, h,
    Bool.not_true, Bool.and_false, Bool.false_and, Bool.false_or, Bool.and_true]

/-! ## Registers left alone -/

theorem RegsKept.refl (s : State) (p : Nat → Prop) : RegsKept s s p := fun _ _ => rfl

theorem RegsKept.branch {s t u : State} {p : Nat → Prop} {c : Prop} {inst : Decidable c} (ht : RegsKept s t p)
    (hu : RegsKept s u p) : RegsKept s (if c then t else u) p := by split <;> assumption

section
variable {s t : State} {p : Nat → Prop} (h : RegsKept s t p)
include h

theorem RegsKept.setReg {a v} (ha : p a) : RegsKept s (t.setReg a v) p :=
  fun b hb => (reg_setReg_ne t v fun e : b = a => hb (e ▸ ha)).trans (h b hb)
theorem RegsKept.setFld {f v} (hf : p f.addr) : RegsKept s (t.setFld f v) p := h.setReg hf
theorem RegsKept.setFlag {f b} (hf : p f.addr) : RegsKept s (t.setFlag f b) p := h.setReg hf
theorem RegsKept.count {f n} (hf : p f.addr) : RegsKept s (t.count f n) p := h.setReg hf
theorem RegsKept.setWide {a v} (h1 : p a) (h2 : p (a + 4)) : RegsKept s (t.setWide a v) p := (h.setReg h1).setReg h2
theorem RegsKept.plainWriteReg {a v} (ha : p a) : RegsKept s (t.plainWriteReg a v) p := by
  unfold State.plainWriteReg
  split
  · exact h.setReg ha
  · exact h

theorem RegsKept.fld {f : Fld} (hf : ¬ p f.addr) : t.fld f = s.fld f := fld_of_reg (h f.addr hf)
theorem RegsKept.flag {f : Fld} (hf : ¬ p f.addr) : t.flag f = s.flag f := congrArg (· == 1) (h.fld hf)
theorem RegsKept.wide {a : Nat} (h1 : ¬ p a) (h2 : ¬ p (a + 4)) : t.wide a = s.wide a := by
  rw [State.wide, State.wide, h a h1, h (a + 4) h2]

end

/-- A plain write changes registers only. -/
theorem onlyRegs_plainWriteReg (s : State) (a : Nat) (v : Word) : OnlyRegs s (s.plainWriteReg a v) := by
  unfold State.plainWriteReg
  split
  · exact (OnlyRegs.refl s).setReg
  · exact .refl s

/-- The registers of the timebase and of its units are no registers of an event. -/
theorem not_eventReg_timebase {a : Nat} (hl : 0x400 ≤ a := by decide) (hu : a < 0x1000 := by decide) : ¬ EventReg a := by
  unfold EventReg
  dsimp only [Reg.HIF_NORING_DROP]
  omega

theorem Quiet.tb {s₀ s : State} (h : Quiet s₀ s) : s.tb = s₀.tb := (congrArg State.tb h.rest :)
theorem Quiet.clk {s₀ s : State} (h : Quiet s₀ s) : s.clk = s₀.clk := (congrArg State.clk h.rest :)
theorem Quiet.tbu {s₀ s : State} (h : Quiet s₀ s) : s.tbu = s₀.tbu := (congrArg State.tbu h.rest :)
theorem Quiet.pin {s₀ s : State} (h : Quiet s₀ s) (n : Nat) : s.pin n = s₀.pin n :=
  congrArg (Store.get _ · n) (congrArg State.pins h.rest :)
theorem Quiet.flag {s₀ s : State} (h : Quiet s₀ s) {f : Fld} (hf : ¬ EventReg f.addr) : s.flag f = s₀.flag f :=
  congrArg (· == 1) (h.fld hf)

end Sys2Proof.Safety
end

section
/-! PROOF. TSYNC: arming, the load of the timebase, and the end of the output pulse (R307, R308). -/

namespace Sys2Proof.Safety

open Sys2Proof.Machine

/-! ## Arming -/

theorem flag_pol_syncCtl (s : State) (v : Nat) : (s.syncCtl v).flag .TB_SYNC_CTL_POL = bitOf v 1 := by
  have hpol := flag_setFlag_bit s (a := Reg.TB_SYNC_CTL) (i := 1) (bitOf v 1)
  unfold State.syncCtl
  extract_lets s1
  split
  · exact (flag_setFlag_bits s1 false).trans hpol
  · split
    · exact (flag_setFlag_bits s1 true).trans hpol
    · exact hpol

/-- DISARM prevails over ARM, and where neither is written ARM stays. -/
theorem flag_arm_syncCtl (s : State) (v : Nat) :
    (s.syncCtl v).flag .TB_SYNC_CTL_ARM = (!bitOf v 2 && (bitOf v 0 || s.flag .TB_SYNC_CTL_ARM)) := by
  unfold State.syncCtl
  extract_lets s1
  split
  · next hd => rw [flag_setFlag_bit, hd]; rfl
  · next hd =>
    rw [Bool.eq_false_of_not_eq_true hd]
    split
    · next ha => rw [flag_setFlag_bit, ha]; rfl
    · next ha =>
      rw [Bool.eq_false_of_not_eq_true ha]
      exact flag_setFlag_bits s (bitOf v 1)

theorem regsKept_syncCtl (s : State) (v : Nat) : RegsKept s (s.syncCtl v) (· = Reg.TB_SYNC_CTL) :=
  have h1 := (RegsKept.refl s (· = Reg.TB_SYNC_CTL)).setFlag (f := .TB_SYNC_CTL_POL) (b := bitOf v 1) rfl
  .branch (h1.setFlag rfl) (.branch (h1.setFlag rfl) h1)

theorem onlyRegs_syncCtl (s : State) (v : Nat) : OnlyRegs s (s.syncCtl v) :=
  have h1 := (OnlyRegs.refl s).setFld (f := .TB_SYNC_CTL_POL) (v := boolNat (bitOf v 1))
  .branch h1.setFld (.branch h1.setFld h1)

theorem exec_tbSyncArm {s : State} (h : s.barOk 0 = true) (v : Word) :
    exec (.tbSyncArm v) s = .next (s.hostActivity.syncCtl (putBit v.toNat 0 true)) :=
  congrArg Host.Outcome.next (pf0Write_accessible h _)

theorem exec_tbSyncDisarm {s : State} (h : s.barOk 0 = true) (v : Word) :
    exec (.tbSyncDisarm v) s = .next (s.hostActivity.syncCtl (putBit v.toNat 2 true)) :=
  congrArg Host.Outcome.next (pf0Write_accessible h _)

/-! ## The load -/

/-- A load: the count takes TB_SYNC_VAL, the step shows, LOADED is set and ARM cleared; the elapsed time and the pins stay. -/
theorem loadTimebase_spec (s : State) : s.loadTimebase.tb = BitVec.ofNat 64 (s.wide Reg.TB_SYNC_VAL_LO) ∧
    s.loadTimebase.wide Reg.TB_SYNC_DELTA_LO = (s.loadTimebase.tb - s.tb).toNat ∧
    s.loadTimebase.flag .TB_STAT_LOADED = true ∧ s.loadTimebase.flag .TB_SYNC_CTL_ARM = false ∧
    s.loadTimebase.clk = s.clk ∧ ∀ n, s.loadTimebase.pin n = s.pin n := by
  unfold State.loadTimebase
  extract_lets v roles s1 s2
  have hq : Quiet s2 (s2.event 0xA .ok 0 (leBytes 8 (v - s.tb).toNat)) := (Quiet.refl s2).event
  have harm : s2.flag .TB_SYNC_CTL_ARM = false :=
    ((RegsKept.refl _ (· = Reg.TB_STAT)).setFlag rfl).flag (by decide) |>.trans (flag_setFlag_bit s1 false)
  have hstep : s2.wide Reg.TB_SYNC_DELTA_LO = (v - s.tb).toNat := by
    have hkept : RegsKept s1 s2 (fun a => a = Reg.TB_SYNC_CTL ∨ a = Reg.TB_STAT) :=
      ((RegsKept.refl s1 _).setFlag (.inl rfl)).setFlag (.inr rfl)
    rw [hkept.wide (by decide) (by decide), wide_setWide]
    exact Nat.mod_eq_of_lt (v - s.tb).isLt
  refine ⟨hq.tb, ?_, ?_, ?_, hq.clk, hq.pin⟩
  · rw [RegsKept.wide hq.regs not_eventReg_timebase not_eventReg_timebase, hstep, hq.tb]
    rfl
  · exact (hq.flag not_eventReg_timebase).trans (flag_setFlag_bit _ true)
  · exact (hq.flag not_eventReg_timebase).trans harm

/-- An edge of the armed polarity while the timebase runs loads it. -/
theorem exec_tsyncInEdge_of_armed {s u : State} {dt : Nat} {rising : Bool} (hu : u = s.advance dt) (ha : u.alive = true)
    (harm : u.flag .TB_SYNC_CTL_ARM = true) (hpol : u.flag .TB_SYNC_CTL_POL = !rising) (hr : u.tbRuns = true) :
    exec (.tsyncInEdge dt rising) s = .next (u.syncEdge rising).loadTimebase := by
  subst hu
  refine congrArg Host.Outcome.next (if_pos ?_)
  change (((s.advance dt).alive && (s.advance dt).flag .TB_SYNC_CTL_ARM &&
    (s.advance dt).flag .TB_SYNC_CTL_POL == !rising) && (s.advance dt).tbRuns) = true
  simp [ha, harm, hpol, hr]

/-! ## The output pulse -/

/-- TSYNC_OUT is low, and no pulse is under way. -/
def endSyncOut (s : State) : State := { s.setPin 17 false with tbu := { s.tbu with syncOutAt := none } }

theorem exec_tsyncOutInactive_of_over {s u : State} {dt at_ : Nat} (hu : u = s.advance dt)
    (ho : u.tbu.syncOutAt = some at_) (hw : max 20 (u.fld .TB_SYNC_OUT_WIDTH) ≤ u.clk - at_) :
    exec (.tsyncOutInactive dt) s = .next (endSyncOut u) := by
  subst hu
  refine congrArg Host.Outcome.next ?_
  rw [ho]
  exact if_pos hw

/-- Settles O24: a write of TB_SYNC_CTL is `State.syncCtl`, an armed edge `loadTimebase_spec`, and the output falls by
`endSyncOut`. -/
theorem timebaseLoadsAtTsync : Obligations.TimebaseLoadsAtTsync := by
  refine ⟨fun s v hb => ⟨fun hd => ?_, ?_⟩, ?_, ?_⟩
  · refine ⟨_, exec_tbSyncArm hb v, ?_, ?_, regsKept_syncCtl _ _, onlyRegs_syncCtl _ _⟩
    · rw [flag_arm_syncCtl, bitOf_putBit_self, bitOf_putBit_ne _ _ _ _ (by decide), hd]
      rfl
    · rw [flag_pol_syncCtl, bitOf_putBit_ne _ _ _ _ (by decide)]
  · refine ⟨_, exec_tbSyncDisarm hb v, ?_, ?_, regsKept_syncCtl _ _, onlyRegs_syncCtl _ _⟩
    · rw [flag_arm_syncCtl, bitOf_putBit_self]
      rfl
    · rw [flag_pol_syncCtl, bitOf_putBit_ne _ _ _ _ (by decide)]
  · intro s dt rising u ha harm hpol hr
    obtain ⟨htb, hstep, hloaded, hdisarmed, hclk, hpin⟩ := loadTimebase_spec (u.syncEdge rising)
    exact ⟨_, exec_tsyncInEdge_of_armed rfl ha harm hpol hr, htb, hstep, hloaded, hdisarmed, hclk,
      (hpin 16).trans (pin_setPin_self _ 16 rising)⟩
  · intro s dt at_ u ho hw
    exact ⟨_, exec_tsyncOutInactive_of_over rfl ho hw, pin_setPin_self u 17 false, fun _ hn => pin_setPin_ne u false hn, rfl,
      rfl⟩

end Sys2Proof.Safety
end

section
/-! PROOF. The compare units: loading, arming, and what a firing leaves (R299, R300). -/

namespace Sys2Proof.Safety

open Sys2Proof.Machine

/-! ## Loading and arming -/

@[simp] theorem compare_setCompare_self (s : State) (n : Nat) (c : Compare) : (s.setCompare n c).compare n = c :=
  Store.get_set_self _ _ _ _

theorem compare_congr {s t : State} (h : t.tbu.cmps = s.tbu.cmps) (n : Nat) : t.compare n = s.compare n :=
  congrArg (Store.get _ · n) h

/-- Registers hold no value of a compare unit. -/
theorem compare_setFld (s : State) (f : Fld) (v n : Nat) : (s.setFld f v).compare n = s.compare n := rfl

theorem compare_armCompare (s : State) (n : Nat) : (s.armCompare n).compare n = { s.compare n with armedAt := s.now } :=
  compare_setCompare_self s n _

/-- Arming sets ARMED, and changes no other field of the unit's registers. -/
theorem armed_armCompare (s : State) (n : Nat) : (s.armCompare n).flag (.CMP_CTL_ARMED n) = true := flag_setFlag_bit _ true

theorem enabled_armCompare (s : State) (n : Nat) : (s.armCompare n).flag (.CMP_CTL_EN n) = s.flag (.CMP_CTL_EN n) :=
  flag_setFlag_bits (s.setCompare n _) true

theorem skip_armCompare (s : State) (n : Nat) : (s.armCompare n).fld (.CMP_CTL_SKIP n) = s.fld (.CMP_CTL_SKIP n) :=
  fld_setFld_bits (s.setCompare n _) 1

theorem RegsKept.armCompare {s t : State} {p : Nat → Prop} {n : Nat} (h : RegsKept s t p) (hp : p (Reg.CMP_CTL n)) :
    RegsKept s (t.armCompare n) p :=
  RegsKept.setFlag (t := t.setCompare n { t.compare n with armedAt := t.now }) h hp

/-- A write of CMPn_VAL_HI loads the value with the low half that stands there, clears SKIP and arms an enabled unit. -/
theorem cmpValHi_spec (s : State) (n : Nat) (v : Word) : (s.cmpValHi n v).reg (Reg.CMP_VAL_HI n) = v ∧
    ((s.cmpValHi n v).compare n).value =
      BitVec.ofNat 64 ((s.reg (Reg.CMP_VAL_LO n)).toNat + 2 ^ 32 * v.toNat) ∧
    (s.cmpValHi n v).fld (.CMP_CTL_SKIP n) = 0 ∧
    (s.flag (.CMP_CTL_EN n) = true → (s.cmpValHi n v).flag (.CMP_CTL_ARMED n) = true) ∧
    RegsKept s (s.cmpValHi n v) (fun a => a = Reg.CMP_VAL_HI n ∨ a = Reg.CMP_CTL n) := by
  have hctl : Reg.CMP_VAL_HI n ≠ Reg.CMP_CTL n := by dsimp only [Reg.CMP_VAL_HI, Reg.CMP_CTL]; omega
  have hhalves : Reg.CMP_VAL_LO n + 4 = Reg.CMP_VAL_HI n := by dsimp only [Reg.CMP_VAL_LO, Reg.CMP_VAL_HI]; omega
  unfold State.cmpValHi
  extract_lets s1 loaded s2 s3
  have hkept1 : RegsKept s s1 (· = Reg.CMP_VAL_HI n) := (RegsKept.refl s _).setReg rfl
  have hkept3 : RegsKept s2 s3 (· = Reg.CMP_CTL n) := (RegsKept.refl s2 _).setFld rfl
  have hreg : s3.reg (Reg.CMP_VAL_HI n) = v := (hkept3 _ hctl).trans (reg_setReg_self s _ v)
  have hwide : s1.wide (Reg.CMP_VAL_LO n) = (s.reg (Reg.CMP_VAL_LO n)).toNat + 2 ^ 32 * v.toNat := by
    rw [State.wide, hhalves, hkept1 _ (by omega), reg_setReg_self]
  have hvalue : (s3.compare n).value = BitVec.ofNat 64 ((s.reg (Reg.CMP_VAL_LO n)).toNat + 2 ^ 32 * v.toNat) := by
    rw [← hwide, compare_setFld, compare_setCompare_self]
  have hskip : s3.fld (.CMP_CTL_SKIP n) = 0 := fld_setFld_self s2 (.CMP_CTL_SKIP n) 0 (by simp) (by simp)
  have hkept : RegsKept s s3 (fun a => a = Reg.CMP_VAL_HI n ∨ a = Reg.CMP_CTL n) := fun a ha =>
    (hkept3 a (mt .inr ha)).trans (hkept1 a (mt .inl ha))
  split
  · have harm : RegsKept s3 (s3.armCompare n) (· = Reg.CMP_CTL n) := (RegsKept.refl s3 _).armCompare rfl
    refine ⟨(harm _ hctl).trans hreg, ?_, (skip_armCompare s3 n).trans hskip, fun _ => armed_armCompare s3 n,
      hkept.armCompare (.inr rfl)⟩
    rw [compare_armCompare, hvalue]
  · next hen => exact ⟨hreg, hvalue, hskip, fun h => absurd h hen, hkept⟩

/-! ## Writes of CMPn_CTL -/

/-- The host writes EN, MODE, IRQ and WAKE of CMPn_CTL. -/
theorem regRow_cmpCtl (n : Fin 16) : regRow (Reg.CMP_CTL n.val) = some ⟨0x508, 16, 0x10, 1, 0, 0xf, 0, 0⟩ := by
  revert n
  decide +kernel

theorem enabled_plainWriteReg (s : State) (n : Fin 16) (v : Word) :
    (s.plainWriteReg (Reg.CMP_CTL n.val) v).flag (.CMP_CTL_EN n.val) = bitOf v.toNat 0 := by
  rw [State.plainWriteReg, regRow_cmpCtl, flag_eq_bitOf, reg_setReg_self]
  exact bitOf_plainWrite _ v (by decide)

/-- A write of CMPn_CTL takes EN, arms where EN rises and disarms where it is 0; the value loaded stays. -/
theorem cmpCtl_spec (s : State) (n : Fin 16) (v : Word) : (s.cmpCtl n.val v).flag (.CMP_CTL_EN n.val) = bitOf v.toNat 0 ∧
    (bitOf v.toNat 0 = true → s.flag (.CMP_CTL_EN n.val) = false →
      (s.cmpCtl n.val v).flag (.CMP_CTL_ARMED n.val) = true) ∧
    (bitOf v.toNat 0 = false → (s.cmpCtl n.val v).flag (.CMP_CTL_ARMED n.val) = false) ∧
    ((s.cmpCtl n.val v).compare n.val).value = (s.compare n.val).value ∧
    RegsKept s (s.cmpCtl n.val v) (· = Reg.CMP_CTL n.val) := by
  unfold State.cmpCtl
  extract_lets s1
  have hen : s1.flag (.CMP_CTL_EN n.val) = bitOf v.toNat 0 := enabled_plainWriteReg s n v
  have hcmp : s1.compare n.val = s.compare n.val :=
    compare_congr (congrArg (fun t => t.tbu.cmps) (onlyRegs_plainWriteReg s (Reg.CMP_CTL n.val) v) :) _
  have hkept : RegsKept s s1 (· = Reg.CMP_CTL n.val) := (RegsKept.refl s _).plainWriteReg rfl
  split
  · next hv =>
    split
    · next hon => exact ⟨hen, fun _ h => absurd h (by simp [hon]), fun h => absurd h (by simp [hv]),
        congrArg Compare.value hcmp, hkept⟩
    · exact ⟨(enabled_armCompare s1 _).trans hen, fun _ _ => armed_armCompare s1 _, fun h => absurd h (by simp [hv]),
        by rw [compare_armCompare, hcmp], hkept.armCompare rfl⟩
  · next hv => exact ⟨(flag_setFlag_bits s1 false).trans hen, fun h => absurd h hv, fun _ => flag_setFlag_bit s1 false,
      congrArg Compare.value hcmp, hkept.setFlag rfl⟩

/-! ## What a firing leaves alone

The raise, the wake-up and the candidate edge of a firing keep the values of the compare units and their registers. -/

/-- `s` has the values of the compare units, and the registers of the block of these units, of `s₀`. -/
structure SameCompare (s₀ s : State) : Prop where
  cmps : s.tbu.cmps = s₀.tbu.cmps
  regs : RegsKept s₀ s fun a => a < 0x500 ∨ 0x700 ≤ a

theorem SameCompare.refl (s : State) : SameCompare s s := ⟨rfl, .refl s _⟩

theorem SameCompare.branch {s₀ s t : State} {c : Prop} {inst : Decidable c} (hs : SameCompare s₀ s)
    (ht : SameCompare s₀ t) : SameCompare s₀ (if c then s else t) := by split <;> assumption

section
variable {s₀ s : State} (h : SameCompare s₀ s)
include h

theorem SameCompare.quiet {t} (ht : Quiet s t) : SameCompare s₀ t :=
  ⟨(congrArg Timebase.cmps ht.tbu).trans h.cmps, fun a ha => (ht.regs a (by
    obtain ⟨hl, hu⟩ := not_or.mp ha
    exact not_eventReg_timebase (by omega) (by omega))).trans (h.regs a ha)⟩
theorem SameCompare.setFld {f v} (hf : f.addr < 0x500 ∨ 0x700 ≤ f.addr) : SameCompare s₀ (s.setFld f v) :=
  ⟨h.cmps, h.regs.setFld hf⟩
theorem SameCompare.count {f n} (hf : f.addr < 0x500 ∨ 0x700 ≤ f.addr) : SameCompare s₀ (s.count f n) := h.setFld hf
theorem SameCompare.setPower {x} : SameCompare s₀ { s with power := x } := ⟨h.cmps, h.regs⟩
theorem SameCompare.setSeq {x} : SameCompare s₀ { s with seq := x } := ⟨h.cmps, h.regs⟩
theorem SameCompare.setThermal {x} : SameCompare s₀ { s with thermal := x } := ⟨h.cmps, h.regs⟩
theorem SameCompare.onlyTrigs {t} (ht : OnlyTrigs s t) : SameCompare s₀ t :=
  ⟨(congrArg (fun t : State => t.tbu.cmps) ht :).trans h.cmps,
    fun a ha => (reg_congr (congrArg State.regs ht :) a).trans (h.regs a ha)⟩
theorem SameCompare.fireOutputs {n} : SameCompare s₀ (s.fireOutputs n) :=
  have h1 : SameCompare s₀ ((List.range 4).foldl (fireTrig n) s) := h.onlyTrigs ((OnlyTrigs.refl s).fireTrigs n _)
  branch ⟨h1.cmps, h1.regs⟩ h1
theorem SameCompare.raise {src} (hs : src ≤ 272) : SameCompare s₀ (s.raise src) := h.quiet ((Quiet.refl s).raise hs)
theorem SameCompare.finishWaiting {notify status result} : SameCompare s₀ (s.finishWaiting notify status result) :=
  h.quiet ((Quiet.refl s).post (Posted.refl s).finishWaiting)
theorem SameCompare.abortSleep : SameCompare s₀ s.abortSleep :=
  ((h.setPower.setFld (f := .PWR_STATE_PENDING) (by decide)).count (by decide)).finishWaiting
theorem SameCompare.wakeFires {src} : SameCompare s₀ (s.wakeFires src) :=
  have h1 := h.setFld (f := .PWR_WAKE_SRC_SRC) (v := wakeCode src) (by decide)
  have h2 := branch h1.abortSleep h1
  branch h (branch h (branch h2 h2.setPower))
theorem SameCompare.candidate {lat} : SameCompare s₀ (s.candidate lat) :=
  branch h.setThermal (branch (h.setSeq.count (by decide)) (branch (h.setSeq.count (by decide))
    (branch (h.count (by decide)) h.setSeq.setSeq)))

theorem SameCompare.compare (n : Nat) : s.compare n = s₀.compare n := compare_congr h.cmps n

end

/-! ## A firing -/

/-- CMP_FIRED notes a unit. -/
def showFired (s : State) (n : Nat) : State := s.setFld .CMP_FIRED_FIRED (putBit (s.fld .CMP_FIRED_FIRED) n true)

theorem showFired_spec (s : State) {n : Nat} (hn : n < 16) : bitOf ((showFired s n).fld .CMP_FIRED_FIRED) n = true := by
  rw [showFired, fld_setFld_self s _ _ (by decide) (by decide), bitOf_eq_testBit, Nat.testBit_mod_two_pow,
    ← bitOf_eq_testBit, bitOf_putBit_self, Bool.and_true]
  exact decide_eq_true hn

theorem regsKept_showFired (s : State) (n : Nat) : RegsKept s (showFired s n) (· = Reg.CMP_FIRED) :=
  (RegsKept.refl s _).setFld rfl

/-- A firing unit before it is disarmed or loaded again: it shows, starts its outputs, raises and wakes. -/
def announced (s : State) (n : Nat) : State :=
  let s1 := (showFired s n).fireOutputs n
  let s2 := if s.flag (.CMP_CTL_IRQ n) then s1.raise (n + 1) else s1
  if s.flag (.CMP_CTL_WAKE n) then s2.wakeFires (.compare (Fin.ofNat 16 n)) else s2

theorem SameCompare.announced (s : State) {n : Nat} (hn : n < 16) : SameCompare (showFired s n) (announced s n) :=
  have h1 := (SameCompare.refl (showFired s n)).fireOutputs (n := n)
  have h2 := branch (h1.raise (by omega)) h1
  branch h2.wakeFires h2

/-- A firing unit that has been disarmed in one-shot mode, or loaded again in periodic mode. -/
def settled (s : State) (n : Nat) : State :=
  if s.flag (.CMP_CTL_MODE n) then (announced s n).reloadCompare n else (announced s n).setFlag (.CMP_CTL_ARMED n) false

/-- What follows is a candidate edge at most. -/
theorem SameCompare.fire (s : State) (n : Nat) : SameCompare (settled s n) (s.fire n) :=
  branch (refl _).candidate (refl _)

theorem regsKept_settled (s : State) (n : Nat) : RegsKept (announced s n) (settled s n) (· = Reg.CMP_CTL n) :=
  .branch ((RegsKept.refl _ _).setFld rfl) ((RegsKept.refl _ _).setFld rfl)

/-- A unit that has fired shows in CMP_FIRED. -/
theorem fired_fire (s : State) {n : Nat} (hn : n < 16) : bitOf ((s.fire n).fld .CMP_FIRED_FIRED) n = true := by
  have hctl : Reg.CMP_FIRED ≠ Reg.CMP_CTL n := by dsimp only [Reg.CMP_FIRED, Reg.CMP_CTL]; omega
  rw [(SameCompare.fire s n).regs.fld (by decide), (regsKept_settled s n).fld hctl,
    (SameCompare.announced s hn).regs.fld (by decide)]
  exact showFired_spec s hn

theorem armed_fire_of_oneShot {s : State} {n : Nat} (hn : n < 16) (h : s.flag (.CMP_CTL_MODE n) = false) :
    (s.fire n).flag (.CMP_CTL_ARMED n) = false := by
  have hctl : ¬ (Reg.CMP_CTL n < 0x500 ∨ 0x700 ≤ Reg.CMP_CTL n) := by dsimp only [Reg.CMP_CTL]; omega
  rw [(SameCompare.fire s n).regs.flag hctl, settled, h, if_neg Bool.false_ne_true]
  exact flag_setFlag_bit _ false

theorem timeAfter_timeAfter (t : Time) (m n : Nat) : timeAfter (timeAfter t m) n = timeAfter t (m + n) := by
  rw [timeAfter, timeAfter, timeAfter, BitVec.add_assoc, BitVec.ofNat_add]

/-- A reload moves the value on by one period, and by each further one that the next test would find reached. -/
theorem value_reloadCompare (s : State) (n : Nat) : ∃ m, 1 ≤ m ∧ ((s.reloadCompare n).compare n).value =
    timeAfter (s.compare n).value (m * max (s.fld (.CMP_PERIOD_PERIOD n)) 100) := by
  unfold State.reloadCompare
  extract_lets p v next k
  refine ⟨1 + k, Nat.le_add_right 1 k, ?_⟩
  rw [State.count, compare_setFld, compare_setCompare_self, Nat.add_mul, Nat.one_mul]
  exact timeAfter_timeAfter _ _ _

theorem value_fire_of_periodic {s : State} {n : Nat} (hn : n < 16) (h : s.flag (.CMP_CTL_MODE n) = true) :
    ∃ m, 1 ≤ m ∧ ((s.fire n).compare n).value =
      timeAfter (s.compare n).value (m * max (s.fld (.CMP_PERIOD_PERIOD n)) 100) := by
  have hperiod : ¬ (Reg.CMP_PERIOD n < 0x500 ∨ 0x700 ≤ Reg.CMP_PERIOD n) := by dsimp only [Reg.CMP_PERIOD]; omega
  have hfired : Reg.CMP_PERIOD n ≠ Reg.CMP_FIRED := by dsimp only [Reg.CMP_PERIOD, Reg.CMP_FIRED]; omega
  have hsame := SameCompare.announced s hn
  obtain ⟨m, hm, hv⟩ := value_reloadCompare (announced s n) n
  refine ⟨m, hm, ?_⟩
  rw [(SameCompare.fire s n).compare, settled, h, if_pos rfl, hv, hsame.compare, hsame.regs.fld hperiod,
    (regsKept_showFired s n).fld hfired]
  rfl

/-- Settles O25: the two writes are `cmpValHi_spec` and `cmpCtl_spec`; a firing shows, and disarms its unit or loads it
again. -/
theorem compareUnitsArmAndFire : Obligations.CompareUnitsArmAndFire := by
  refine ⟨fun s n v hb => ⟨?_, ?_⟩, ?_⟩
  · exact ⟨_, congrArg Host.Outcome.next (pf0Write_accessible hb _), cmpValHi_spec _ n.val v⟩
  · exact ⟨_, congrArg Host.Outcome.next (pf0Write_accessible hb _), cmpCtl_spec _ n v⟩
  · intro s dt n u hd
    exact ⟨_, exec_compareFire_of_due hd, fired_fire u n.isLt, armed_fire_of_oneShot n.isLt, value_fire_of_periodic n.isLt⟩

end Sys2Proof.Safety
end

section
/-! PROOF. The capture pairs: which edges are stamps, where a stamp goes, and the reads and writes of a pair (R302, R303). -/

namespace Sys2Proof.Safety

open Sys2Proof.Machine

/-! ## Edges at a pad -/

/-- The edge before the present one at a pad, after the pad took a level. -/
theorem edgeBefore_setPin (s : State) (n : Nat) (b : Bool) :
    (s.setPin n b).edgeBefore n = if s.pin n = b then s.edgeBefore n else s.lastEdge n := by
  by_cases h : s.pin n = b
  · simp [State.setPin, State.edgeBefore, h]
  · have he : (s.setPin n b).edgeBefore n = (s.markEdge n).edgeBefore n := by simp [State.setPin, State.edgeBefore, h]
    rw [he, edgeBefore_markEdge, if_pos rfl, if_neg h]

/-- An edge told at a pin from outside comes now, and the last one there is the one before. -/
theorem edges_toldEdge {s : State} {src : Nat} (b : Bool) (hsrc : src < 64) (hd : s.drivesPin src = false)
    (hl : s.lastEdge src ≠ s.now + 1) : (s.toldEdge src b).now = s.now ∧
      (s.toldEdge src b).lastEdge src = s.now + 1 ∧ (s.toldEdge src b).edgeBefore src = s.lastEdge src := by
  have hpin : s.pinEdge src b = s.setPin src b := if_neg (by omega)
  have hlast := lastEdge_setPin s src src b
  have hbefore := edgeBefore_setPin s src b
  have hnow : (s.setPin src b).now = s.now := rfl
  rw [State.toldEdge, hd, if_neg Bool.false_ne_true, hpin]
  by_cases hp : s.pin src = b
  · rw [if_neg fun h => h.2 hp] at hlast
    dsimp only
    rw [hlast, hnow, if_neg (by simp [hl])]
    exact ⟨rfl, (lastEdge_markEdge _ src src).trans (if_pos rfl),
      ((edgeBefore_markEdge _ src src).trans (if_pos rfl)).trans hlast⟩
  · rw [if_pos ⟨rfl, hp⟩] at hlast
    rw [if_neg hp] at hbefore
    dsimp only
    rw [hlast, hnow, if_pos (beq_self_eq_true _)]
    exact ⟨rfl, hlast, hbefore⟩

/-- An edge that comes now is close where there was one less than 4 ns before. -/
theorem closeEdge_of_edgeNow {s : State} {src : Nat} (h : s.lastEdge src = s.now + 1) :
    s.closeEdge src = (s.edgeBefore src != 0 && decide (s.now + 1 < s.edgeBefore src + 4)) := by
  simp [State.closeEdge, h]

/-- R302: an edge from outside 4 ns or more after the last one, or the first one, is not too close. -/
theorem closeEdge_toldEdge {s : State} {src : Nat} (b : Bool) (hsrc : src < 64) (hd : s.drivesPin src = false)
    (hl : s.lastEdge src = 0 ∨ s.lastEdge src + 4 ≤ s.now + 1) : (s.toldEdge src b).closeEdge src = false := by
  obtain ⟨hnow, hlast, hbefore⟩ := edges_toldEdge b hsrc hd (by omega)
  rw [closeEdge_of_edgeNow (hlast.trans (congrArg (· + 1) hnow.symm)), hbefore, hnow]
  rcases hl with h0 | h4
  · rw [h0]
    rfl
  · rw [decide_eq_false (by omega), Bool.and_false]

/-! ## Shadows -/

@[simp] theorem shadow_setShadow_self (s : State) (n : Nat) (rising : Bool) (v : Option Time) :
    (s.setShadow n rising v).shadow n rising = v := Store.get_set_self _ _ _ _

theorem shadow_setShadow_other (s : State) (n : Nat) (rising : Bool) (v : Option Time) :
    (s.setShadow n rising v).shadow n (!rising) = s.shadow n (!rising) :=
  Store.get_set_ne _ _ _ (by cases rising <;> simp)

/-- Registers hold no shadow. -/
theorem shadow_setFld (s : State) (f : Fld) (v n : Nat) (rising : Bool) :
    (s.setFld f v).shadow n rising = s.shadow n rising := rfl

theorem shadow_stampReg (s : State) (n k : Nat) (rising b : Bool) (t : Time) :
    (s.stampReg n rising t).shadow k b = s.shadow k b := rfl

/-! ## Stamps -/

/-- The registers of a stamp lie apart from CAPn_STAT. -/
theorem capReg_ne_stat (n : Nat) (rising : Bool) :
    capReg n rising ≠ Reg.CAP_STAT n ∧ capReg n rising + 4 ≠ Reg.CAP_STAT n := by
  unfold capReg
  dsimp only [Reg.CAP_RISE_LO, Reg.CAP_FALL_LO, Reg.CAP_STAT]
  split <;> omega

/-- A function that changes of the registers only CAPn_STAT leaves the stamps. -/
theorem RegsKept.stamps {s t : State} {n : Nat} (h : RegsKept s t (· = Reg.CAP_STAT n)) (rising : Bool) :
    t.wide (capReg n rising) = s.wide (capReg n rising) := h.wide (capReg_ne_stat n rising).1 (capReg_ne_stat n rising).2

theorem stampReg_spec (s : State) (n : Nat) (rising : Bool) (t : Time) :
    (s.stampReg n rising t).wide (capReg n rising) = t.toNat ∧
    (s.stampReg n rising t).flag (if rising then .CAP_STAT_RVALID n else .CAP_STAT_FVALID n) = true := by
  have hvalid {u : State} {p : Prop} {inst : Decidable p} :
      RegsKept u (u.setFlag (if p then .CAP_STAT_RVALID n else .CAP_STAT_FVALID n) true) (· = Reg.CAP_STAT n) :=
    (RegsKept.refl u _).setFlag (by split <;> rfl)
  constructor
  · rw [State.stampReg, hvalid.stamps, wide_setWide]
    exact Nat.mod_eq_of_lt t.isLt
  · cases rising
    · exact flag_setFlag_bit _ true
    · exact flag_setFlag_bit _ true

section
variable {s : State} {n : Nat} {rising : Bool}

theorem stamp_of_unlatched (h : s.flag (.CAP_STAT_LATCHED n) = false) : s.stamp n rising = s.stampReg n rising s.tb :=
  if_pos (by simp [h])

theorem stamp_of_empty (h : s.flag (.CAP_STAT_LATCHED n) = true) (he : s.shadow n rising = none) :
    s.stamp n rising = (s.setShadow n rising (some s.tb)).setFlag (.CAP_STAT_PEND n) true :=
  (if_neg (by simp [h])).trans (if_pos (by simp [he]))

theorem stamp_of_full (h : s.flag (.CAP_STAT_LATCHED n) = true) (hf : s.shadow n rising ≠ none) :
    s.stamp n rising = s.count (.CAP_STAT_LOST n) 1 :=
  (if_neg (by simp [h])).trans (if_neg (by simp [hf]))

/-- LOST counts, and stays at its largest value. -/
theorem lost_count (s : State) (n : Nat) : (s.count (.CAP_STAT_LOST n) 1).fld (.CAP_STAT_LOST n) =
    min (2 ^ (Fld.CAP_STAT_LOST n).width - 1) (s.fld (.CAP_STAT_LOST n) + 1) :=
  fld_count_self s (.CAP_STAT_LOST n) 1 (by simp) (by simp)

variable {src : Nat} (hh : s.flag .TB_STAT_HELD = false) (hr : s.tbRuns = true)
include hh hr

theorem captureEdge_of_apart (hc : s.closeEdge src = false) : s.captureEdge n src rising = s.stamp n rising := by
  simp [State.captureEdge, hh, hr, hc]

theorem captureEdge_of_close (hc : s.closeEdge src = true) :
    s.captureEdge n src rising = s.count (.CAP_STAT_LOST n) 1 := by
  simp [State.captureEdge, hh, hr, hc]

end

theorem exec_captureEdge_of_edge {s w u : State} {dt src : Nat} {n : Fin 8} {rising : Bool} (hw : w = s.advance dt)
    (hsrc : src = w.fld (.CAP_CTL_SRC n.val)) (hu : u = w.toldEdge src rising) (he : u.hasEdge src rising = true)
    (ha : u.alive = true) (hen : u.flag (.CAP_CTL_EN n.val) = true) :
    exec (.captureEdge dt n rising) s = .next (u.captureEdge n.val src rising) := by
  subst hw hsrc hu
  exact congrArg Host.Outcome.next (if_pos (by simp [he, ha, hen]))

/-! ## Reads and the latch -/

/-- The shadow of a polarity moves into the pair (R303). -/
def moveShadow (s : State) (n : Nat) (rising : Bool) : State :=
  match s.shadow n rising with
  | some t => (s.setShadow n rising none).stampReg n rising t
  | none => s

theorem capRelease_of_latched {s : State} {n : Nat} (h : s.flag (.CAP_STAT_LATCHED n) = true) : s.capRelease n =
    ((moveShadow (moveShadow s n true) n false).setFlag (.CAP_STAT_LATCHED n) false).setFlag (.CAP_STAT_PEND n) false :=
  if_pos h

theorem shadow_moveShadow_self (s : State) (n : Nat) (rising : Bool) : (moveShadow s n rising).shadow n rising = none := by
  unfold moveShadow
  split
  · rw [shadow_stampReg, shadow_setShadow_self]
  · next h => exact h

theorem shadow_moveShadow_other (s : State) (n : Nat) (rising : Bool) :
    (moveShadow s n rising).shadow n (!rising) = s.shadow n (!rising) := by
  unfold moveShadow
  split
  · rw [shadow_stampReg, shadow_setShadow_other]
  · rfl

theorem latched_capRelease (s : State) (n : Nat) : (s.capRelease n).flag (.CAP_STAT_LATCHED n) = false := by
  cases h : s.flag (.CAP_STAT_LATCHED n)
  · have he : s.capRelease n = s := if_neg (by simp [h])
    rw [he, h]
  · rw [capRelease_of_latched h]
    exact (flag_setFlag_bits _ false).trans (flag_setFlag_bit _ false)

theorem shadow_capRelease {s : State} {n : Nat} (h : s.flag (.CAP_STAT_LATCHED n) = true) (rising : Bool) :
    (s.capRelease n).shadow n rising = none := by
  rw [capRelease_of_latched h, State.setFlag, shadow_setFld, State.setFlag, shadow_setFld]
  cases rising
  · exact shadow_moveShadow_self _ n false
  · exact (shadow_moveShadow_other _ n false).trans (shadow_moveShadow_self s n true)

theorem exec_capRiseLoRead {s : State} (h : s.barOk 0 = true) (n : Fin 8) : exec (.capRiseLoRead n) s =
    .next ((s.setFlag (.CAP_STAT_LATCHED n.val) true).answer (s.reg (Reg.CAP_RISE_LO n.val)).toNat) :=
  congrArg Host.Outcome.next (if_pos h)

theorem exec_capFallHiRead {s : State} (h : s.barOk 0 = true) (n : Fin 8) : exec (.capFallHiRead n) s =
    .next ((s.capRelease n.val).answer (s.reg (Reg.CAP_FALL_HI n.val)).toNat) :=
  congrArg Host.Outcome.next (if_pos h)

/-- A read returns the word. -/
theorem rdata_answer (s : State) (w : Word) : (s.answer w.toNat).rdata = w :=
  (BitVec.ofNat_toNat 32 w).trans (BitVec.setWidth_eq w)

/-- Settles O26: an edge that is not close is `State.stamp` in its three cases, a close one counts; reads and writes of a pair
change its latch by `latched_capRelease` and `shadow_capRelease`. -/
theorem capturePairsStampAndLatch : Obligations.CapturePairsStampAndLatch := by
  refine ⟨?_, ?_, fun s n hb => ⟨?_, ?_, ?_, ?_⟩⟩
  · intro s dt n rising w src u he ha hen hh hr hc
    have hc : u.closeEdge src = false := hc.elim (fun ⟨hsrc, hd, hl⟩ => closeEdge_toldEdge rising hsrc hd hl) id
    have hstat {t : State} (ht : RegsKept u t (· = Reg.CAP_STAT n.val)) := ht.stamps rising
    refine ⟨_, exec_captureEdge_of_edge rfl rfl rfl he ha hen, ?_⟩
    rw [captureEdge_of_apart hh hr hc]
    refine ⟨fun h => ?_, fun h hempty => ?_, fun h hfull => ?_⟩
    · rw [stamp_of_unlatched h]
      exact stampReg_spec u n.val rising u.tb
    · rw [stamp_of_empty h hempty]
      refine ⟨?_, flag_setFlag_bit _ true, ?_⟩
      · rw [State.setFlag, shadow_setFld, shadow_setShadow_self]
      · exact hstat (RegsKept.setFlag (t := u.setShadow n.val rising (some u.tb)) (.refl u _) rfl)
    · rw [stamp_of_full h hfull]
      exact ⟨lost_count u n.val, hstat ((RegsKept.refl u _).count rfl)⟩
  · intro s dt n rising w src u he ha hen hh hr hc
    refine ⟨_, exec_captureEdge_of_edge rfl rfl rfl he ha hen, ?_⟩
    rw [captureEdge_of_close hh hr hc]
    exact ⟨lost_count u n.val, (RegsKept.refl u _).count rfl, rfl⟩
  · exact ⟨_, exec_capRiseLoRead hb n, rdata_answer _ _, flag_setFlag_bit s true, (RegsKept.refl s _).setFlag rfl⟩
  · exact ⟨_, exec_capFallHiRead hb n, rdata_answer _ _, latched_capRelease s n.val⟩
  · exact ⟨_, congrArg Host.Outcome.next (pf0Write_accessible hb _), latched_capRelease _ n.val,
      fun h => ⟨shadow_capRelease h true, shadow_capRelease h false⟩⟩
  · exact ⟨_, congrArg Host.Outcome.next (pf0Write_accessible hb _),
      fld_setFld_self _ (.CAP_STAT_LOST n.val) 0 (by simp) (by simp), (RegsKept.refl _ _).setFld rfl⟩

end Sys2Proof.Safety
end

section
/-! PROOF. The clear of a gated counter, and the PTM dialogues (R306, R310). -/

namespace Sys2Proof.Safety

open Sys2Proof.Machine

/-! ## Gated counters -/

/-- `t` has the registers of `s` but for GCn_CTL, of which EN and LEVEL are as in `s`. -/
structure SameGate (n : Nat) (s t : State) : Prop where
  kept : RegsKept s t (· = Reg.GC_CTL n)
  enabled : t.flag (.GC_CTL_EN n) = s.flag (.GC_CTL_EN n)
  level : t.flag (.GC_CTL_LEVEL n) = s.flag (.GC_CTL_LEVEL n)

theorem SameGate.refl (n : Nat) (s : State) : SameGate n s s := ⟨.refl s _, rfl, rfl⟩

theorem SameGate.branch {n : Nat} {s t u : State} {c : Prop} {inst : Decidable c} (ht : SameGate n s t)
    (hu : SameGate n s u) : SameGate n s (if c then t else u) := by split <;> assumption

/-- A field above LEVEL. -/
theorem SameGate.setFld {n : Nat} {s t : State} (h : SameGate n s t) {hi lo v : Nat} (hl : 1 < lo := by decide)
    (hh : lo ≤ hi := by decide) (h32 : hi < 32 := by decide) : SameGate n s (t.setFld ⟨Reg.GC_CTL n, hi, lo⟩ v) :=
  ⟨h.kept.setFld rfl, (flag_setFld_bits t v hh h32 (.inl (by omega))).trans h.enabled,
    (flag_setFld_bits t v hh h32 (.inl hl)).trans h.level⟩

theorem SameGate.setFlag {n : Nat} {s t : State} (h : SameGate n s t) {i : Nat} {b : Bool} (hi : 1 < i := by decide)
    (h32 : i < 32 := by decide) : SameGate n s (t.setFlag ⟨Reg.GC_CTL n, i, i⟩ b) := h.setFld hi (Nat.le_refl i) h32

/-- GCn_CTL lies apart from the two halves of the count. -/
theorem gcCount_ne_ctl (n : Nat) : Reg.GC_LO n ≠ Reg.GC_CTL n ∧ Reg.GC_LO n + 4 ≠ Reg.GC_CTL n := by
  dsimp only [Reg.GC_LO, Reg.GC_CTL]
  omega

/-- A write of GCn_CTL with CLR 1: the count is 0, EN and LEVEL are taken, and only the registers of the counter change. -/
theorem gcCtl_spec (s : State) (n : Nat) {v : Nat} (hclr : bitOf v 2 = true) : (s.gcCtl n v).wide (Reg.GC_LO n) = 0 ∧
    (s.gcCtl n v).flag (.GC_CTL_EN n) = bitOf v 0 ∧ (s.gcCtl n v).flag (.GC_CTL_LEVEL n) = bitOf v 1 ∧
    RegsKept s (s.gcCtl n v) (fun a => a = Reg.GC_CTL n ∨ a = Reg.GC_LO n ∨ a = Reg.GC_LO n + 4) := by
  obtain ⟨hlo, hhi⟩ := gcCount_ne_ctl n
  unfold State.gcCtl
  extract_lets s1 s2 s3 s4
  have hs2 : s2 = s1.setWide (Reg.GC_LO n) 0 := if_pos hclr
  have hwide : RegsKept s1 s2 (fun a => a = Reg.GC_LO n ∨ a = Reg.GC_LO n + 4) := by
    rw [hs2]
    exact (RegsKept.refl s1 _).setWide (.inl rfl) (.inr rfl)
  have hcount : s2.wide (Reg.GC_LO n) = 0 := by
    rw [hs2]
    exact wide_setWide s1 _ 0
  have hctl : ¬ (Reg.GC_CTL n = Reg.GC_LO n ∨ Reg.GC_CTL n = Reg.GC_LO n + 4) := by omega
  have hen : s1.flag (.GC_CTL_EN n) = bitOf v 0 :=
    (flag_setFlag_bits (s.setFlag (.GC_CTL_EN n) (bitOf v 0)) (bitOf v 1)).trans (flag_setFlag_bit s _)
  have hlevel : s1.flag (.GC_CTL_LEVEL n) = bitOf v 1 := flag_setFlag_bit _ _
  have h3 : SameGate n s2 s3 := .branch (SameGate.refl n s2).setFlag (.refl n s2)
  have h4 : SameGate n s2 s4 := .branch h3.setFld h3
  have ht : SameGate n s2 (if (bitOf v 0 && s.flag .TB_STAT_HELD) = true then s4.setFlag (.GC_CTL_HOLD n) true else s4) :=
    .branch h4.setFlag h4
  have hkept1 : RegsKept s s1 (· = Reg.GC_CTL n) := ((RegsKept.refl s (· = Reg.GC_CTL n)).setFlag rfl).setFlag rfl
  refine ⟨(ht.kept.wide hlo hhi).trans hcount, ht.enabled.trans ((hwide.flag hctl).trans hen),
    ht.level.trans ((hwide.flag hctl).trans hlevel), fun a ha => ?_⟩
  obtain ⟨hactl, hacount⟩ := not_or.mp ha
  exact (ht.kept a hactl).trans ((hwide a hacount).trans (hkept1 a hactl))

/-! ## PTM -/

theorem ptmRequest_of_on {s : State} (h : s.ptmOn = true) :
    s.ptmRequest = { s with tbu := { s.tbu with ptmPending := true } } := if_pos h

/-- The interval that a write of TB_PTM_CTL leaves: where AUTO changes, it begins now. -/
def setAuto (s : State) (auto : Nat) : State :=
  if auto = s.fld .TB_PTM_CTL_AUTO then s
  else { s with tbu := { s.tbu with ptmSince := s.now } }.setFld .TB_PTM_CTL_AUTO auto

theorem ptmCtl_of_req (s : State) {v : Nat} (h : bitOf v 0 = true) :
    s.ptmCtl v = (setAuto s (getBits v 15 8)).ptmRequest := if_pos h

theorem setAuto_spec (s : State) {auto : Nat} (h : auto < 2 ^ 8) : (setAuto s auto).fld .TB_PTM_CTL_AUTO = auto ∧
    RegsKept s (setAuto s auto) (· = Reg.TB_PTM_CTL) ∧ (setAuto s auto).ptmOn = s.ptmOn := by
  unfold setAuto
  split
  · next he => exact ⟨he.symm, .refl s _, rfl⟩
  · exact ⟨(fld_setFld_self _ _ _ (by decide) (by decide)).trans (Nat.mod_eq_of_lt h),
      RegsKept.setFld (t := { s with tbu := { s.tbu with ptmSince := s.now } }) (.refl s _) rfl, rfl⟩

theorem exec_ptmReq {s : State} (hb : s.barOk 0 = true) (hon : s.hostActivity.ptmOn = true) (v : Word) :
    exec (.ptmReq v) s = .next { setAuto s.hostActivity (getBits v.toNat 15 8) with
      tbu := { (setAuto s.hostActivity (getBits v.toNat 15 8)).tbu with ptmPending := true } } := by
  have hauto : getBits (putBit v.toNat 0 true) 15 8 = getBits v.toNat 15 8 :=
    getBits_putBits_apart _ 0 0 _ 15 8 (Nat.le_refl 0) (.inr (by decide))
  obtain ⟨-, -, hptm⟩ := setAuto_spec s.hostActivity (auto := getBits v.toNat 15 8) (Nat.mod_lt _ (by decide))
  refine congrArg Host.Outcome.next ((pf0Write_accessible hb _).trans ?_)
  rw [ptmCtl_of_req _ (bitOf_putBit_self _ _ _), hauto, ptmRequest_of_on (hptm.trans hon)]

theorem exec_ptmAutoExpiry_of_due {s u : State} {dt : Nat} (hu : u = s.advance dt) (ha : u.fld .TB_PTM_CTL_AUTO ≠ 0)
    (hon : u.ptmOn = true) (ht : 1000000 * u.fld .TB_PTM_CTL_AUTO ≤ u.now - u.tbu.ptmSince) :
    exec (.ptmAutoExpiry dt) s = .next { u with tbu := { u.tbu with ptmSince := u.now, ptmPending := true } } := by
  subst hu
  exact congrArg Host.Outcome.next ((if_pos (by simp [ha, hon, ht])).trans (ptmRequest_of_on hon))

/-- The times and the delay that a dialogue reports. -/
def reportDialogue (s : State) (master localT : Time) (delay : Word) : State :=
  ((s.setWide Reg.TB_PTM_LOCAL_LO localT.toNat).setWide Reg.TB_PTM_MASTER_LO master.toNat).setReg Reg.TB_PTM_DELAY delay

theorem reportDialogue_spec (s : State) (master localT : Time) (delay : Word) :
    (reportDialogue s master localT delay).wide Reg.TB_PTM_MASTER_LO = master.toNat ∧
    (reportDialogue s master localT delay).wide Reg.TB_PTM_LOCAL_LO = localT.toNat ∧
    (reportDialogue s master localT delay).reg Reg.TB_PTM_DELAY = delay := by
  have hdelay (t : State) : RegsKept t (t.setReg Reg.TB_PTM_DELAY delay) (· = Reg.TB_PTM_DELAY) :=
    (RegsKept.refl t _).setReg rfl
  have hmaster (t : State) : RegsKept t (t.setWide Reg.TB_PTM_MASTER_LO master.toNat)
      (fun a => a = Reg.TB_PTM_MASTER_LO ∨ a = Reg.TB_PTM_MASTER_LO + 4) :=
    (RegsKept.refl t _).setWide (.inl rfl) (.inr rfl)
  refine ⟨?_, ?_, reg_setReg_self _ _ _⟩
  · rw [reportDialogue, (hdelay _).wide (by decide) (by decide), wide_setWide]
    exact Nat.mod_eq_of_lt master.isLt
  · rw [reportDialogue, (hdelay _).wide (by decide) (by decide), (hmaster _).wide (by decide) (by decide), wide_setWide]
    exact Nat.mod_eq_of_lt localT.isLt

/-- The state after a dialogue, before its interrupt: no request, the report, and one more in TB_PTM_SEQ. -/
def dialogueDone (s : State) (master localT : Time) (delay : Word) : State :=
  (reportDialogue { s with tbu := { s.tbu with ptmPending := false } } master (timeAfter localT delay.toNat) delay).setReg
    Reg.TB_PTM_SEQ (s.reg Reg.TB_PTM_SEQ + 1)

theorem exec_ptmDialogueComplete_of_pending {s u : State} {dt : Nat} (hu : u = s.advance dt)
    (hp : u.tbu.ptmPending = true) (hon : u.ptmOn = true) (master localT : Time) (delay : Word) :
    exec (.ptmDialogueComplete dt master localT delay) s = .next ((dialogueDone u master localT delay).raise 43) := by
  subst hu
  exact congrArg Host.Outcome.next (if_pos (by simp [hp, hon]))

theorem dialogueDone_spec (s : State) (master localT : Time) (delay : Word) :
    (dialogueDone s master localT delay).wide Reg.TB_PTM_MASTER_LO = master.toNat ∧
    (dialogueDone s master localT delay).wide Reg.TB_PTM_LOCAL_LO = (timeAfter localT delay.toNat).toNat ∧
    (dialogueDone s master localT delay).reg Reg.TB_PTM_DELAY = delay ∧
    (dialogueDone s master localT delay).reg Reg.TB_PTM_SEQ = s.reg Reg.TB_PTM_SEQ + 1 := by
  obtain ⟨hmaster, hlocal, hdelay⟩ := reportDialogue_spec { s with tbu := { s.tbu with ptmPending := false } } master
    (timeAfter localT delay.toNat) delay
  have hseq (t : State) (v : Word) : RegsKept t (t.setReg Reg.TB_PTM_SEQ v) (· = Reg.TB_PTM_SEQ) :=
    (RegsKept.refl t _).setReg rfl
  exact ⟨((hseq _ _).wide (by decide) (by decide)).trans hmaster, ((hseq _ _).wide (by decide) (by decide)).trans hlocal,
    (hseq _ _ _ (by decide)).trans hdelay, reg_setReg_self _ _ _⟩

/-- Settles O27: a clear is `gcCtl_spec`; a request or an expiry asks for a dialogue, which `dialogueDone` ends, and its
interrupt leaves the timebase and its registers alone. -/
theorem gatedCountersAndPtm : Obligations.GatedCountersAndPtm := by
  refine ⟨fun s n v hb => ?_, fun s v hb hon => ?_, ?_, ?_⟩
  · obtain ⟨hcount, hen, hlevel, hkept⟩ := gcCtl_spec s.hostActivity n.val (bitOf_putBit_self v.toNat 2 true)
    exact ⟨_, congrArg Host.Outcome.next (pf0Write_accessible hb _), hcount,
      hen.trans (bitOf_putBit_ne _ _ _ _ (by decide)), hlevel.trans (bitOf_putBit_ne _ _ _ _ (by decide)), hkept⟩
  · obtain ⟨hauto, hkept, -⟩ := setAuto_spec s.hostActivity (auto := getBits v.toNat 15 8) (Nat.mod_lt _ (by decide))
    exact ⟨_, exec_ptmReq hb hon v, rfl, hauto, hkept⟩
  · intro s dt u ha hon ht
    exact exec_ptmAutoExpiry_of_due rfl ha hon ht
  · intro s dt master localT delay u hp hon
    obtain ⟨hmaster, hlocal, hdelay, hseq⟩ := dialogueDone_spec u master localT delay
    have hq : Quiet (dialogueDone u master localT delay) ((dialogueDone u master localT delay).raise 43) :=
      (Quiet.refl _).raise (by decide)
    refine ⟨_, exec_ptmDialogueComplete_of_pending rfl hp hon master localT delay, ?_, ?_, ?_, ?_, ?_⟩
    · exact (RegsKept.wide hq.regs not_eventReg_timebase not_eventReg_timebase).trans hmaster
    · exact (RegsKept.wide hq.regs not_eventReg_timebase not_eventReg_timebase).trans hlocal
    · exact (hq.regs _ not_eventReg_timebase).trans hdelay
    · exact (hq.regs _ not_eventReg_timebase).trans hseq
    · exact congrArg Timebase.ptmPending hq.tbu

end Sys2Proof.Safety
end

section
/-! PROOF. The state after reset, and the writes of a host that reaches no BAR. -/

namespace Sys2Proof.Safety

open Sys2Proof.Machine

/-- Settles O58: the stores of the reset state are empty, and its life cycle is FIELD. -/
theorem resetMeetsTheInvariants : Obligations.ResetMeetsTheInvariants :=
  ⟨(by decide : 3 ≤ 5 ∧ 3 ≤ 5 ∧ (3 = 5 → 3 = 5 ∧ false = true)), Store.wf_nil _, wf_reset_hostMem⟩

section
variable {s : State} {c : Instr} {f : State → State}

/-- A command that is a write of PF0 does nothing where PF0 is not accessible. -/
theorem exec_of_pf0Blocked (h : s.barOk 0 = false) (hc : exec c s = .next (s.pf0Write f)) : exec c s = .next s :=
  hc.trans (congrArg Host.Outcome.next (if_neg (by rw [h]; decide)))

/-- A command that is a write of PF1 does nothing where PF1 is not accessible. -/
theorem exec_of_pf1Blocked (h : s.barOk 1 = false) (hc : exec c s = .next (s.pf1Write f)) : exec c s = .next s :=
  hc.trans (congrArg Host.Outcome.next (if_neg (by rw [h]; decide)))

end

/-- A write into a BAR that is not accessible does nothing. -/
theorem barWrite_blocked {s : State} {i : Fin 2} (h : s.barOk i.val = false) (f : State → State) :
    s.barWrite i.val f = s := by
  have hb : ¬ s.barOk i.val = true := by rw [h]; decide
  match i with
  | 0 => exact if_neg hb
  | 1 => exact if_neg hb

/-- MSIX_VECTOR_UNMASK is a write into the MSI-X table of its function, where that has the vector. -/
theorem exec_msixVectorUnmask_blocked {s : State} {i : Fin 2} (h : s.barOk i.val = false) (vec : Fin 64) :
    exec (.msixVectorUnmask i vec) s = .next s := by
  refine congrArg Host.Outcome.next ?_
  split
  · exact barWrite_blocked h _
  · rfl

/-- A doorbell write to a function that is not accessible does nothing. -/
theorem doorbellWrite_blocked {s : State} {n : Nat} (h : s.barOk (ringFn n) = false) (f : State → State) :
    s.doorbellWrite n f = s := by
  unfold ringFn at h
  unfold State.doorbellWrite
  split
  · next hn => rw [if_pos hn] at h; exact if_neg (by rw [h]; decide)
  · next hn => rw [if_neg hn] at h; exact if_neg (by rw [h]; decide)

/-- A write of a ring's configuration register to a function that is not accessible does nothing. -/
theorem ringCfgWrite_blocked {s : State} {n : Nat} (h : s.barOk (ringFn n) = false) (v : Nat) (en : Bool) :
    s.ringCfgWrite n v en = s := by
  unfold ringFn at h
  unfold State.ringCfgWrite
  dsimp only
  split
  · next hn => rw [if_pos hn] at h; exact if_neg (by rw [h]; decide)
  · next hn => rw [if_neg hn] at h; exact if_neg (by rw [h]; decide)

/-- Settles O4: each of the commands is a write of its function, which `State.pf0Write` and `State.pf1Write` let through
only to an accessible BAR. -/
theorem hostWritesNeedAnAccessibleDevice : Obligations.HostWritesNeedAnAccessibleDevice := by
  intro s v n16 n8 off w x ring vec
  refine ⟨fun h => ⟨?_, fun hr => ?_⟩, fun h => ?_⟩
  · have blocked {c f} : exec c s = .next (s.pf0Write f) → exec c s = .next s := exec_of_pf0Blocked h
    simp only [List.forall_mem_cons, List.not_mem_nil, false_imp_iff, implies_true, and_true]
    exact ⟨blocked rfl, blocked rfl, blocked rfl, blocked rfl, blocked rfl, blocked rfl, blocked rfl, blocked rfl,
      blocked rfl, blocked rfl, blocked rfl, blocked rfl, blocked rfl, blocked rfl, blocked rfl, blocked rfl, blocked rfl,
      blocked rfl, blocked rfl, blocked rfl, blocked rfl, blocked rfl, blocked rfl, blocked rfl, blocked rfl, blocked rfl,
      blocked rfl, blocked rfl, blocked rfl, exec_msixVectorUnmask_blocked h vec⟩
  · have hf : s.barOk (ringFn ring.val) = false := by rw [ringFn, if_pos hr]; exact h
    simp only [List.forall_mem_cons, List.not_mem_nil, false_imp_iff, implies_true, and_true]
    exact ⟨congrArg _ (doorbellWrite_blocked hf _), congrArg _ (doorbellWrite_blocked hf _),
      congrArg _ (ringCfgWrite_blocked hf _ _), congrArg _ (ringCfgWrite_blocked hf _ _)⟩
  · have blocked {c f} : exec c s = .next (s.pf1Write f) → exec c s = .next s := exec_of_pf1Blocked h
    simp only [List.forall_mem_cons, List.not_mem_nil, false_imp_iff, implies_true, and_true]
    exact ⟨blocked rfl, blocked rfl, blocked rfl, blocked rfl, blocked rfl, blocked rfl, blocked rfl, blocked rfl,
      blocked rfl, blocked rfl, blocked rfl, blocked rfl, blocked rfl, congrArg _ (doorbellWrite_blocked h _),
      congrArg _ (doorbellWrite_blocked h _), congrArg _ (ringCfgWrite_blocked h _ _),
      congrArg _ (ringCfgWrite_blocked h _ _), exec_msixVectorUnmask_blocked h vec, blocked rfl⟩

end Sys2Proof.Safety
end

section
/-! PROOF. What completions and events leave of the rings, of the link and of the archive.

A completion leaves what the rings hold beside their CQ's state (`SameRings`); completions and events leave the state of the
link and of the functions beside what they send (`SameLink`), and events the open blocks of the archive but that of the event
stream (`Announced`). As before there is one lemma per function of the model, named after it. -/

namespace Sys2Proof.Safety

open Sys2Proof.Machine

/-! ## Rings and functions that are replaced -/

theorem ring_setRing_self (s : State) (n : Nat) (r : Ring) : (s.setRing n r).ring n = r := Store.get_set_self _ _ _ _

theorem ring_setRing_ne (s : State) {m n : Nat} (r : Ring) (h : m ≠ n) : (s.setRing n r).ring m = s.ring m :=
  Store.get_set_ne _ _ _ h

theorem fn_setFn_self (s : State) (i : Nat) (f : PciFn) : (s.setFn i f).fn i = f := by
  unfold State.fn State.setFn
  dsimp only
  split <;> rfl

/-! ## The rings -/

/-- A ring without what completions change: its place in a CQ, and whether it is still enabled. -/
def ringCore (r : Ring) : Ring :=
  { r with enabled := false, disabling := false, dev := 0, phase := false, held := [], unannounced := 0, timer := none
           timerSpent := false }

/-- Each ring of `s` differs from that of `s₀` at most in what completions change. -/
def SameRings (s₀ s : State) : Prop := ∀ n, ringCore (s.ring n) = ringCore (s₀.ring n)

theorem SameRings.refl (s : State) : SameRings s s := fun _ => rfl

theorem SameRings.bufs {s₀ s : State} (h : SameRings s₀ s) (n : Nat) : (s.ring n).bufs = (s₀.ring n).bufs :=
  (congrArg Ring.bufs (h n) :)
theorem SameRings.stopped {s₀ s : State} (h : SameRings s₀ s) (n : Nat) : (s.ring n).stopped = (s₀.ring n).stopped :=
  (congrArg Ring.stopped (h n) :)
theorem SameRings.err {s₀ s : State} (h : SameRings s₀ s) (n : Nat) : (s.ring n).err = (s₀.ring n).err :=
  (congrArg Ring.err (h n) :)

theorem SameRings.branch {s₀ s t : State} {c : Prop} {inst : Decidable c} (hs : SameRings s₀ s) (ht : SameRings s₀ t) :
    SameRings s₀ (if c then s else t) := by split <;> assumption

section
variable {s₀ s : State} (h : SameRings s₀ s)
include h

/-- A ring takes a value that differs in what completions change. -/
theorem SameRings.setRing {n r} (hr : ringCore r = ringCore (s.ring n) := by rfl) : SameRings s₀ (s.setRing n r) := fun m => by
  by_cases hm : m = n
  · rw [hm, ring_setRing_self]
    exact hr.trans (h n)
  · rw [ring_setRing_ne s r hm]
    exact h m
theorem SameRings.setPcie {x} : SameRings s₀ { s with pcie := x } := h
theorem SameRings.msixDue {i v} : SameRings s₀ (s.msixDue i v) := branch (branch h h) h
theorem SameRings.cqDue {n} : SameRings s₀ (s.cqDue n) :=
  branch h (branch h.setRing h.setRing.setPcie.msixDue)
theorem SameRings.settleRing {n} : SameRings s₀ (s.settleRing n) :=
  branch (branch h.setRing.setRing h.setRing) h
theorem SameRings.writeMem {a bs} : SameRings s₀ (s.writeMem a bs) := h
theorem SameRings.writeCpl {q c rest start} : SameRings s₀ (s.writeCpl q c rest start) :=
  h.writeMem.setRing.settleRing
theorem SameRings.drainHeld {q announce l} : SameRings s₀ (s.drainHeld q announce l) := by
  induction l generalizing s with
  | nil => exact h
  | cons c rest ih => exact branch (ih (branch h.writeCpl.cqDue h.writeCpl)) h
theorem SameRings.complete {c} : SameRings s₀ (s.complete c) := branch h.setRing.drainHeld h

end

/-! ## The link -/

/-- A function of the device without what its messages change: its pending bits and PME_Status. -/
def fnCore (f : PciFn) : PciFn := { f with pba := [], pmeStatus := false }

/-- The link without what is sent on it and held for it. -/
def linkCore (p : Pcie) : Pcie :=
  { p with f0 := fnCore p.f0, f1 := fnCore p.f1, heldMsgs := [], heldWrites := [], heldItems := [], vecSent := [] }

/-- `s` differs from `s₀` in the link at most by what is sent on it and held for it. -/
def SameLink (s₀ s : State) : Prop := linkCore s.pcie = linkCore s₀.pcie

theorem SameLink.refl (s : State) : SameLink s s := rfl

theorem SameLink.link {s₀ s : State} (h : SameLink s₀ s) : s.pcie.link = s₀.pcie.link := (congrArg Pcie.link h :)
theorem SameLink.laneEvent {s₀ s : State} (h : SameLink s₀ s) : s.pcie.laneEvent = s₀.pcie.laneEvent :=
  (congrArg Pcie.laneEvent h :)
theorem SameLink.failClr {s₀ s : State} (h : SameLink s₀ s) : s.pcie.failClr = s₀.pcie.failClr :=
  (congrArg Pcie.failClr h :)
theorem SameLink.fnCore {s₀ s : State} (h : SameLink s₀ s) (i : Nat) :
    Safety.fnCore (s.fn i) = Safety.fnCore (s₀.fn i) := by
  unfold State.fn
  split
  · exact (congrArg Pcie.f0 h :)
  · exact (congrArg Pcie.f1 h :)
theorem SameLink.d3hot {s₀ s : State} (h : SameLink s₀ s) (i : Nat) : (s.fn i).d3hot = (s₀.fn i).d3hot :=
  (congrArg PciFn.d3hot (h.fnCore i) :)

theorem SameLink.branch {s₀ s t : State} {c : Prop} {inst : Decidable c} (hs : SameLink s₀ s) (ht : SameLink s₀ t) :
    SameLink s₀ (if c then s else t) := by split <;> assumption

/-- A fold over a value that carries a state. -/
theorem SameLink.foldlOn {α β : Type} {s₀ : State} (g : α → State) {f : α → β → α} {a : α} {l : List β}
    (h : SameLink s₀ (g a)) (hf : ∀ {a x}, SameLink s₀ (g a) → SameLink s₀ (g (f a x))) :
    SameLink s₀ (g (l.foldl f a)) :=
  List.foldlRecOn l f (motive := fun a => SameLink s₀ (g a)) h fun _ ha _ _ => hf ha

/-- A fold over a state. -/
theorem SameLink.foldl {β : Type} {s₀ s : State} {f : State → β → State} {l : List β} (h : SameLink s₀ s)
    (hf : ∀ {t x}, SameLink s₀ t → SameLink s₀ (f t x)) : SameLink s₀ (l.foldl f s) := foldlOn id h hf

section
variable {s₀ s : State} (h : SameLink s₀ s)
include h

/-- A state with the same link. -/
theorem SameLink.of_pcie {t : State} (ht : t.pcie = s.pcie) : SameLink s₀ t := (congrArg linkCore ht).trans h

/-- A function takes a value that differs in what its messages change. -/
theorem SameLink.setFn {i f} (hf : Safety.fnCore f = Safety.fnCore (s.fn i) := by rfl) : SameLink s₀ (s.setFn i f) := by
  refine Eq.trans ?_ h
  unfold State.fn at hf
  unfold State.setFn linkCore
  dsimp only
  split
  · next hi => rw [if_pos hi] at hf; rw [hf]
  · next hi => rw [if_neg hi] at hf; rw [hf]

theorem SameLink.emitIf {go m} : SameLink s₀ (s.emitIf go m) := h
theorem SameLink.sendVector {i v} : SameLink s₀ (s.sendVector i v) := h
theorem SameLink.msixDue {i v} : SameLink s₀ (s.msixDue i v) := branch (branch h.setFn h.sendVector) h
theorem SameLink.setPme {i} : SameLink s₀ (s.setPme i) := branch h (branch h.setFn.emitIf h.setFn)
theorem SameLink.hostDue : SameLink s₀ s.hostDue := branch h.setPme h.msixDue
theorem SameLink.setRing {n r} : SameLink s₀ (s.setRing n r) := h
theorem SameLink.writeMem {a bs} : SameLink s₀ (s.writeMem a bs) := h
theorem SameLink.postMem {a bs} : SameLink s₀ (s.postMem a bs) := branch h h
theorem SameLink.setVecSent {x} : SameLink s₀ { s with pcie := { s.pcie with vecSent := x } } := h
theorem SameLink.cqDue {n} : SameLink s₀ (s.cqDue n) := branch h (branch h (h.setRing.setVecSent).msixDue)
theorem SameLink.settleRing {n} : SameLink s₀ (s.settleRing n) := branch (branch h h) h
theorem SameLink.writeCpl {q c rest start} : SameLink s₀ (s.writeCpl q c rest start) := h.writeMem.setRing.settleRing
theorem SameLink.drainHeld {q announce l} : SameLink s₀ (s.drainHeld q announce l) := by
  induction l generalizing s with
  | nil => exact h
  | cons c rest ih => exact branch (ih (branch h.writeCpl.cqDue h.writeCpl)) h
theorem SameLink.drainCq {q} : SameLink s₀ (s.drainCq q) := h.drainHeld
theorem SameLink.complete {c} : SameLink s₀ (s.complete c) := branch h.setRing.drainHeld h
theorem SameLink.closeBuf {n status length} : SameLink s₀ (s.closeBuf n status length) := by
  unfold State.closeBuf
  split
  · exact h
  · exact h.setRing.complete
theorem SameLink.passBufs {n size l} : SameLink s₀ (s.passBufs n size l) := by
  induction l generalizing s with
  | nil => exact h
  | cons b rest ih => exact branch h (ih h.closeBuf)
theorem SameLink.closeFlushed {n} : SameLink s₀ (s.closeFlushed n) := branch h.closeBuf h
theorem SameLink.putItem {n bytes tick tag} : SameLink s₀ (s.putItem n bytes tick tag) := by
  unfold State.putItem
  split
  · exact h
  · exact h.postMem.setRing

end

/-! ## Events -/

/-- The open block of the archive with a key. -/
def archBlock (s : State) (key : Nat) : ArchBlock := s.archive.blocks.get (fun _ => ⟨[], 0, 0⟩) key

/-- `s` differs from `s₀`, in the link and in the open blocks of the archive, at most by what events change: what is sent and
held, and the block of the event stream, of key 24. -/
structure Announced (s₀ s : State) : Prop where
  link : SameLink s₀ s
  blocks : ∀ key, key ≠ 24 → archBlock s key = archBlock s₀ key

theorem Announced.refl (s : State) : Announced s s := ⟨.refl s, fun _ _ => rfl⟩

theorem Announced.branch {s₀ s t : State} {c : Prop} {inst : Decidable c} (hs : Announced s₀ s) (ht : Announced s₀ t) :
    Announced s₀ (if c then s else t) := by split <;> assumption

/-- A fold over a value that carries a state. -/
theorem Announced.foldlOn {α β : Type} {s₀ : State} (g : α → State) {f : α → β → α} {a : α} {l : List β}
    (h : Announced s₀ (g a)) (hf : ∀ {a x}, Announced s₀ (g a) → Announced s₀ (g (f a x))) :
    Announced s₀ (g (l.foldl f a)) :=
  List.foldlRecOn l f (motive := fun a => Announced s₀ (g a)) h fun _ ha _ _ => hf ha

theorem Posted.archive {s₀ s : State} (h : Posted s₀ s) : s.archive = s₀.archive := (congrArg State.archive h :)

/-- `s` has the link and the open blocks of `s₀`. -/
structure SameBlocks (s₀ s : State) : Prop where
  pcie : s.pcie = s₀.pcie
  blocks : s.archive.blocks = s₀.archive.blocks

theorem SameBlocks.refl (s : State) : SameBlocks s s := ⟨rfl, rfl⟩

theorem SameBlocks.branch {s₀ s t : State} {c : Prop} {inst : Decidable c} (hs : SameBlocks s₀ s) (ht : SameBlocks s₀ t) :
    SameBlocks s₀ (if c then s else t) := by split <;> assumption

section
variable {s₀ s : State} (h : SameBlocks s₀ s)
include h

theorem SameBlocks.free : SameBlocks s₀ s.free.2 := ⟨h.pcie, h.blocks⟩
theorem SameBlocks.setReg {a v} : SameBlocks s₀ (s.setReg a v) := ⟨h.pcie, h.blocks⟩
theorem SameBlocks.count {f n} : SameBlocks s₀ (s.count f n) := h.setReg
theorem SameBlocks.setWide {a v} : SameBlocks s₀ (s.setWide a v) := h.setReg.setReg
theorem SameBlocks.writeMem {a bs} : SameBlocks s₀ (s.writeMem a bs) := ⟨h.pcie, h.blocks⟩
theorem SameBlocks.setSeq {n k} : SameBlocks s₀ { s with archive := { s.archive with seq := n, sinceReport := k } } :=
  ⟨h.pcie, h.blocks⟩
theorem SameBlocks.archWrap {size} : SameBlocks s₀ (s.archWrap size).2 := by
  unfold State.archWrap
  extract_lets
  split
  · exact h
  · exact ((branch h h.writeMem.setSeq).setReg).setWide
theorem SameBlocks.writeBlock {kind cam items payload} : SameBlocks s₀ (s.writeBlock kind cam items payload).2 := by
  have hf := h.free
  unfold State.writeBlock
  generalize s.free = p at hf ⊢
  dsimp only
  split
  · exact hf.count
  · exact hf.archWrap.writeMem.setWide.setSeq

end

section
variable {s₀ s : State} (h : Announced s₀ s)
include h

/-- A state with the same archive and a link that differs by what is sent and held. -/
theorem Announced.sent {t : State} (hl : SameLink s t) (ha : t.archive = s.archive) : Announced s₀ t :=
  ⟨hl.trans h.link, fun key hk => (congrArg (fun x : Archive => x.blocks.get (fun _ => (⟨[], 0, 0⟩ : ArchBlock)) key) ha).trans
    (h.blocks key hk)⟩

theorem Announced.setReg {a v} : Announced s₀ (s.setReg a v) := h.sent (.refl s) rfl
theorem Announced.setFlag {f b} : Announced s₀ (s.setFlag f b) := h.setReg
theorem Announced.count {f n} : Announced s₀ (s.count f n) := h.setReg
theorem Announced.setIcx {x} : Announced s₀ { s with icx := x } := h.sent (.refl s) rfl
theorem Announced.setEvSeq {x} : Announced s₀ { s with evSeq := x } := h.sent (.refl s) rfl
theorem Announced.assertTarget {u t} : Announced s₀ (s.assertTarget u t) := branch h.setIcx h
theorem Announced.hostDue : Announced s₀ s.hostDue := h.sent (SameLink.refl s).hostDue (Posted.refl s).hostDue.archive
omit h in
theorem Announced.icxChange {f} (hf : Announced s₀ (f s)) : Announced s₀ (s.icxChange f) :=
  have h1 := hf.assertTarget.assertTarget.assertTarget
  branch h1.hostDue h1
theorem Announced.makePending {src} : Announced s₀ (s.makePending src) :=
  branch h.setFlag (branch h.setFlag.setIcx h.setFlag.setIcx)
theorem Announced.applyRaise {src} : Announced s₀ (s.applyRaise src) :=
  branch (h.count (n := 1)).setFlag h.count.makePending
theorem Announced.raise {src} : Announced s₀ (s.raise src) := branch (branch h.setIcx h) (icxChange h.applyRaise)
theorem Announced.drayFull {held} : Announced s₀ (s.drayFull held).2 := by
  unfold State.drayFull
  split
  · exact h.sent (.refl s) rfl
  · exact h
theorem Announced.closeFlushed {n} : Announced s₀ (s.closeFlushed n) :=
  h.sent (SameLink.refl s).closeFlushed (Posted.refl s).closeFlushed.archive
theorem Announced.passBufs {n size l} : Announced s₀ (s.passBufs n size l) :=
  h.sent (SameLink.refl s).passBufs (Posted.refl s).passBufs.archive
theorem Announced.putItem {n bytes tick tag} : Announced s₀ (s.putItem n bytes tick tag) :=
  h.sent (SameLink.refl s).putItem (Posted.refl s).putItem.archive
theorem Announced.placeItem {n bytes tick tag} : Announced s₀ (s.placeItem n bytes tick tag) :=
  have h1 : Announced s₀ ((s.drayFull false).2.closeFlushed n) := h.drayFull.closeFlushed
  branch h1.count (branch h1.putItem (branch h1.count (branch h1.passBufs.count h1.passBufs.putItem)))
theorem Announced.dropItem {kind cam} : Announced s₀ (s.dropItem kind cam) := by
  unfold State.dropItem
  split <;> exact h.count
theorem Announced.flushBlock : Announced s₀ (s.flushBlock 6 0).2 := by
  unfold State.flushBlock
  extract_lets key b
  split
  · exact h
  · have hw := (SameBlocks.refl { s with archive := { s.archive with blocks := s.archive.blocks.erase key } }).writeBlock
      (kind := 6) (cam := 0) (items := b.items) (payload := b.bytes)
    refine ⟨h.link.of_pcie hw.pcie, fun k hk => Eq.trans ?_ (h.blocks k hk)⟩
    rw [archBlock, hw.blocks]
    exact Store.get_erase_ne _ _ hk
theorem Announced.archItem {cam bytes} : Announced s₀ (s.archItem 6 cam bytes).2 := by
  have hf {c : Prop} [Decidable c] : Announced s₀ (if c then s.flushBlock 6 0 else ([], s)).2 := by
    split
    · exact h.flushBlock
    · exact h
  unfold State.archItem
  split
  · exact ⟨hf.link, fun k hk => (Store.get_set_ne _ _ _ hk).trans (hf.blocks k hk)⟩
  · exact h
theorem Announced.writeItem {cam bytes tick tag} : Announced s₀ (s.writeItem ⟨6, cam, bytes, tick, tag⟩).2 := by
  unfold State.writeItem
  dsimp only
  split
  · exact h.archItem.placeItem
  · exact h.archItem.dropItem
theorem Announced.handOne {cam bytes tick tag} : Announced s₀ (s.handOne ⟨6, cam, bytes, tick, tag⟩).2 := by
  unfold State.handOne
  split
  · exact branch h.drayFull.dropItem (h.drayFull.sent (.refl _) rfl)
  · exact h.writeItem
theorem Announced.eventOne {e} : Announced s₀ (s.eventOne e).2 :=
  (branch h.raise h).setEvSeq.handOne
theorem Announced.eventsN {fuel es} : Announced s₀ (s.eventsN fuel es) := by
  induction fuel generalizing s es with
  | zero => exact h
  | succ fuel ih =>
    cases es with
    | nil => exact h
    | cons e es =>
      refine ih ?_
      exact foldlOn Prod.snd (a := ([], s)) h fun h => h.eventOne
theorem Announced.event {code status source args} : Announced s₀ (s.event code status source args) := h.eventsN

end
end Sys2Proof.Safety
end

section
/-! PROOF. The fetches of the rings. -/

namespace Sys2Proof.Safety

open Sys2Proof.Machine

/-! ## Failed reads -/

/-- A failed read leaves the rings alone, and of the registers all but its counter. -/
theorem readFailed_spec (s : State) (i : Nat) : (s.readFailed i).rings = s.rings ∧
    (s.readFailed i).fld .HIF_DMA_ERR_ERR = min (2 ^ Fld.HIF_DMA_ERR_ERR.width - 1) (s.fld .HIF_DMA_ERR_ERR + 1) :=
  ⟨rfl, fld_count_self s.free.2 .HIF_DMA_ERR_ERR 1 (by decide) (by decide)⟩

/-- A failed fetch stops its ring, and counts. -/
theorem fetchFailed_spec (s : State) (n opcode : Nat) : ((s.fetchFailed n opcode).ring n).stopped = true ∧
    ((s.fetchFailed n opcode).ring n).err = 1 ∧
    (s.fetchFailed n opcode).fld .HIF_DMA_ERR_ERR =
      min (2 ^ Fld.HIF_DMA_ERR_ERR.width - 1) (s.fld .HIF_DMA_ERR_ERR + 1) := by
  unfold State.fetchFailed
  extract_lets r s1
  have hring : s1.ring n = { r with stopped := true, err := 1 } := ring_setRing_self _ n _
  generalize ({ s1.cplNow n 0xFFFF opcode .badDescriptor 0 with sqHead := some r.dev } : Cpl) = c
  have hr : SameRings s1 (s1.complete c) := (SameRings.refl s1).complete
  have hp : Posted s1 (s1.complete c) := (Posted.refl s1).complete
  refine ⟨?_, ?_, ?_⟩
  · rw [hr.stopped, hring]
  · rw [hr.err, hring]
  · exact (fld_congr hp.regs _).trans (readFailed_spec s (ringFn n)).2

theorem fetchFailed_endTurn (s : State) (n opcode : Nat) :
    (((s.endTurn n).free.2.fetchFailed n opcode).ring n).stopped = true ∧
    (((s.endTurn n).free.2.fetchFailed n opcode).ring n).err = 1 ∧
    ((s.endTurn n).free.2.fetchFailed n opcode).fld .HIF_DMA_ERR_ERR =
      min (2 ^ Fld.HIF_DMA_ERR_ERR.width - 1) (s.fld .HIF_DMA_ERR_ERR + 1) := by
  have hregs : (s.endTurn n).free.2.regs = s.regs := rfl
  rw [← fld_congr hregs]
  exact fetchFailed_spec ..

/-! ## Fetched descriptors -/

/-- The state after a descriptor of ring `n` is fetched, whose turn has come. -/
def takeDescriptor (s : State) (n : Nat) (bs : List Byte) : State :=
  let t := ((s.endTurn n).bumpDev n).noteFetch n
  t.setRing n { t.ring n with fetched := (t.ring n).fetched ++ [padTo 64 bs] }

theorem ring_takeDescriptor (s : State) (n : Nat) (bs : List Byte) : (takeDescriptor s n bs).ring n =
    { s.ring n with
      dev := if (s.ring n).dev + 1 = s.ringSize n then 0 else (s.ring n).dev + 1
      fetched := (s.ring n).fetched ++ [padTo 64 bs] } := by
  have hbump : (((s.endTurn n).bumpDev n).noteFetch n).ring n =
      { s.ring n with dev := if (s.ring n).dev + 1 == s.ringSize n then 0 else (s.ring n).dev + 1 } :=
    ring_setRing_self (s.endTurn n) n _
  rw [takeDescriptor, ring_setRing_self, hbump]
  simp only [beq_iff_eq]

theorem ring_takeDescriptor_ne (s : State) {m n : Nat} (bs : List Byte) (h : m ≠ n) :
    (takeDescriptor s n bs).ring m = s.ring m :=
  (ring_setRing_ne _ _ h).trans (ring_setRing_ne (s.endTurn n) _ h)

theorem takeDescriptor_frame (s : State) (n : Nat) (bs : List Byte) : takeDescriptor s n bs =
    { s with
      rings := (takeDescriptor s n bs).rings
      cal := { s.cal with flat := (takeDescriptor s n bs).cal.flat }
      pcie := { s.pcie with fetchRound := (takeDescriptor s n bs).pcie.fetchRound } } := rfl

theorem cal_takeDescriptor {s : State} (n : Nat) (bs : List Byte) (h : s.cal.flat = none) :
    (takeDescriptor s n bs).cal = s.cal := by
  have hcal : (takeDescriptor s n bs).cal = { s.cal with flat := (takeDescriptor s n bs).cal.flat } := rfl
  have hflat : (takeDescriptor s n bs).cal.flat = s.cal.flat := by
    change s.cal.flat.map _ = s.cal.flat
    rw [h, Option.map_none]
  rw [hcal, hflat]

/-- A descriptor that may not be dropped yet: the head is under execution or its opcode is defined. -/
theorem dropUndefined_of_head {s : State} {n fuel : Nat} {d : List Byte} {rest : List (List Byte)}
    (h : (s.ring n).executing = true ∨ (s.ring n).fetched = d :: rest ∧ opcodeDefined n (descOp d) = true) :
    s.dropUndefined n fuel = s := by
  cases fuel with
  | zero => rfl
  | succ fuel =>
    unfold State.dropUndefined
    rcases h with he | ⟨hf, hop⟩
    · rw [he]
    · rw [hf]
      split
      next hd => rw [(List.cons.inj hd).1] at hop; exact if_pos hop
      next => rfl

theorem exec_descriptorFetch_of_turn {s u : State} {dt : Nat} {n : Fin 33} (hu : u = s.advance dt)
    (hm : u.mayFetch n.val 0 = true) (ht : u.fetchTurn n.val = true) (data : Option (List Byte)) :
    exec (.descriptorFetch dt n data) s = .next (match data with
      | none => (u.endTurn n.val).free.2.fetchFailed n.val ((u.endTurn n.val).free.1 % 256)
      | some bs => (takeDescriptor u n.val bs).dropUndefined n.val
          ((takeDescriptor u n.val bs).ring n.val).fetched.length) := by
  subst hu
  refine congrArg Host.Outcome.next ((if_pos (by rw [hm, ht]; rfl)).trans ?_)
  cases data <;> rfl

/-- With a head under execution, or none fetched before, a fetched descriptor of a defined opcode stays. -/
theorem dropUndefined_takeDescriptor {u : State} {n fuel : Nat} {bs : List Byte}
    (hop : opcodeDefined n (descOp (padTo 64 bs)) = true) (hh : (u.ring n).executing = true ∨ (u.ring n).fetched = []) :
    (takeDescriptor u n bs).dropUndefined n fuel = takeDescriptor u n bs := by
  refine dropUndefined_of_head (d := padTo 64 bs) (rest := []) ?_
  rw [ring_takeDescriptor]
  rcases hh with he | hf
  · exact .inl he
  · exact .inr ⟨by rw [hf]; rfl, hop⟩

/-! ## Fetched buffers -/

/-- The state after a buffer of stream SQ `n` is fetched. -/
def takeBuffer (s : State) (n : Nat) (b : Buf) : State :=
  (s.bumpDev n).setRing n { (s.bumpDev n).ring n with bufs := ((s.bumpDev n).ring n).bufs ++ [b] }

theorem ring_takeBuffer (s : State) (n : Nat) (b : Buf) : (takeBuffer s n b).ring n =
    { s.ring n with
      dev := if (s.ring n).dev + 1 = s.ringSize n then 0 else (s.ring n).dev + 1
      bufs := (s.ring n).bufs ++ [b] } := by
  have hbump : (s.bumpDev n).ring n =
      { s.ring n with dev := if (s.ring n).dev + 1 == s.ringSize n then 0 else (s.ring n).dev + 1 } :=
    ring_setRing_self s n _
  rw [takeBuffer, ring_setRing_self, hbump]
  simp only [beq_iff_eq]

theorem ring_takeBuffer_ne (s : State) {m n : Nat} (b : Buf) (h : m ≠ n) : (takeBuffer s n b).ring m = s.ring m :=
  (ring_setRing_ne _ _ h).trans (ring_setRing_ne s _ h)

theorem takeBuffer_frame (s : State) (n : Nat) (b : Buf) :
    takeBuffer s n b = { s with rings := (takeBuffer s n b).rings } := rfl

theorem exec_bufferFetch_of_parsed {s u : State} {dt : Nat} {n : Fin 32} (hu : u = s.advance dt)
    (hm : u.mayFetch n.val 1 = true) {bs : List Byte} {b : Buf} (hb : parseBuf (padTo 64 bs) = some b) :
    exec (.bufferFetch dt n (some bs)) s = .next (takeBuffer u n.val b) := by
  subst hu
  refine congrArg Host.Outcome.next ((if_pos hm).trans ?_)
  dsimp only
  rw [hb]
  rfl

theorem exec_bufferFetch_of_failed {s u : State} {dt : Nat} {n : Fin 32} (hu : u = s.advance dt)
    (hm : u.mayFetch n.val 1 = true) :
    exec (.bufferFetch dt n none) s = .next (u.fetchFailed n.val 0xFF) := by
  subst hu
  exact congrArg Host.Outcome.next (if_pos hm)

/-- Settles O40: a fetch is `takeDescriptor` or `takeBuffer`, a failed one `State.fetchFailed`, whose completion leaves the
ring stopped. -/
theorem fetchesTakePostedEntries : Obligations.FetchesTakePostedEntries := by
  constructor
  · intro s dt n u hm ht
    refine ⟨fun bs hop hh => ?_, _, exec_descriptorFetch_of_turn rfl hm ht none, fetchFailed_endTurn u ..⟩
    refine ⟨takeDescriptor u n.val bs, ?_, ?_, ?_, fun m hne => ring_takeDescriptor_ne u bs hne,
      takeDescriptor_frame .., cal_takeDescriptor _ _⟩
    · rw [exec_descriptorFetch_of_turn rfl hm ht]
      exact congrArg Host.Outcome.next (dropUndefined_takeDescriptor hop hh)
    · rw [ring_takeDescriptor]
    · rw [ring_takeDescriptor]
  · intro s dt n u hm
    refine ⟨fun bs b hb => ?_, _, exec_bufferFetch_of_failed rfl hm, fetchFailed_spec ..⟩
    refine ⟨_, exec_bufferFetch_of_parsed rfl hm hb, ?_, ?_, fun m hne => ring_takeBuffer_ne u b hne, takeBuffer_frame ..⟩
    · rw [ring_takeBuffer]
    · rw [ring_takeBuffer]

end Sys2Proof.Safety
end

section
/-! PROOF. The timeouts of the rings, and the archive's enabling and flushing. -/

namespace Sys2Proof.Safety

open Sys2Proof.Machine

/-! ## BUFFER_FLUSH_TIMEOUT -/

/-- A closed buffer leaves its ring. -/
theorem bufs_closeBuf {s : State} {n : Nat} {b : Buf} {rest : List Buf} (h : (s.ring n).bufs = b :: rest) (status : Status)
    (length : Nat) : ((s.closeBuf n status length).ring n).bufs = rest := by
  unfold State.closeBuf
  rw [h]
  exact ((SameRings.refl (s.setRing n { s.ring n with bufs := rest })).complete.bufs n).trans
    (congrArg Ring.bufs (ring_setRing_self s n _))

theorem flushDue_of_head {s : State} {n : Nat} {b : Buf} {rest : List Buf} (h : (s.ring n).bufs = b :: rest)
    (hi : b.items ≠ 0) (ht : 1000 * max 1 (s.fld (.RING_FLUSH_FLUSH n)) ≤ s.now - b.firstAt) : s.flushDue n = true := by
  unfold State.flushDue
  rw [h]
  simp only [List.head?_cons, Option.any_some, Bool.and_eq_true, bne_iff_ne, decide_eq_true_eq]
  exact ⟨hi, ht⟩

theorem exec_bufferFlushTimeout_of_due {s u : State} {dt : Nat} {n : Fin 32} (hu : u = s.advance dt)
    (hg : u.gated 1 = false) (hd : u.flushDue n.val = true) :
    ∃ len, exec (.bufferFlushTimeout dt n) s = .next (u.closeBuf n.val .ok len) := by
  subst hu
  exact ⟨_, congrArg Host.Outcome.next ((if_neg (by rw [hg]; decide)).trans (if_pos hd))⟩

/-! ## MODERATION_TIMEOUT -/

theorem rings_msixDue (s : State) (i v : Nat) : (s.msixDue i v).rings = s.rings := by
  unfold State.msixDue
  split
  · split <;> rfl
  · rfl

theorem rings_setPme (s : State) (i : Nat) : (s.setPme i).rings = s.rings := by
  unfold State.setPme
  split
  · rfl
  · split <;> rfl

/-- A CQ that is announced, or whose vector was sent at this time already, has nothing left to announce. -/
theorem ring_cqDue_self {s : State} {n : Nat} (h : s.canSignal (ringFn n) = true) :
    (s.cqDue n).ring n = { s.ring n with unannounced := 0, timer := none, timerSpent := false } := by
  unfold State.cqDue
  rw [h, Bool.not_true, if_neg Bool.false_ne_true]
  extract_lets r s1 v p s2
  have h1 : s1.ring n = { s.ring n with unannounced := 0, timer := none, timerSpent := false } := ring_setRing_self s n _
  split
  · exact h1
  · exact (congrArg (Store.get (fun _ => Ring.init) · n) (rings_msixDue s2 _ _)).trans h1

theorem pmeStatus_setPme (s : State) (i : Nat) : ((s.setPme i).fn i).pmeStatus = true := by
  unfold State.setPme
  split
  · assumption
  · split
    · exact congrArg PciFn.pmeStatus (fn_setFn_self s i _)
    · exact congrArg PciFn.pmeStatus (fn_setFn_self s i _)

/-- The CQ of ring `n`, that of the mailbox for the 33rd. -/
def modCq (n : Fin 33) : Nat := if n.val < 32 then n.val else mboxCq

section
variable {s u : State} {dt : Nat} {n : Fin 33} (hu : u = s.advance dt) (hd : u.modTimerDue (modCq n) = true)
include hu hd

theorem exec_moderationTimeout_of_due :
    exec (.moderationTimeout dt n) s = .next (if (u.fn (ringFn (modCq n))).d3hot then
      if (u.ring (modCq n)).timerSpent then u
      else (u.setRing (modCq n) { u.ring (modCq n) with timerSpent := true }).setPme (ringFn (modCq n))
    else if (u.modCfg (modCq n)).1 then u.cqDue (modCq n) else u) := by
  subst hu
  exact congrArg Host.Outcome.next (if_pos hd)

/-- In D0, with interrupts on, the CQ is announced. -/
theorem exec_moderationTimeout_of_d0 (h3 : (u.fn (ringFn (modCq n))).d3hot = false) (hc : (u.modCfg (modCq n)).1 = true) :
    exec (.moderationTimeout dt n) s = .next (u.cqDue (modCq n)) := by
  rw [exec_moderationTimeout_of_due hu hd, h3, hc]
  rfl

/-- In D3hot a timer that reaches TIME sets PME_Status. -/
theorem exec_moderationTimeout_of_d3hot (h3 : (u.fn (ringFn (modCq n))).d3hot = true)
    (hs : (u.ring (modCq n)).timerSpent = false) : exec (.moderationTimeout dt n) s =
      .next ((u.setRing (modCq n) { u.ring (modCq n) with timerSpent := true }).setPme (ringFn (modCq n))) := by
  rw [exec_moderationTimeout_of_due hu hd, h3, hs]
  rfl

/-- It does so once. -/
theorem exec_moderationTimeout_of_spent (h3 : (u.fn (ringFn (modCq n))).d3hot = true)
    (hs : (u.ring (modCq n)).timerSpent = true) : exec (.moderationTimeout dt n) s = .next u := by
  rw [exec_moderationTimeout_of_due hu hd, h3, hs]
  rfl

end

theorem ring_setPme (s : State) (i m : Nat) : (s.setPme i).ring m = s.ring m := by
  unfold State.ring
  rw [rings_setPme]

/-! ## ARCHIVE_ENABLE -/

/-- The archive's region starts anew. -/
def restartArchive (s : State) : State :=
  { (s.setWide Reg.RING_ARCH_WPTR_LO 0).setFld .RING_ARCH_WRAPS_COUNT 0 with
    archive := { blocks := [], seq := 0, sinceReport := 0 } }

theorem restartArchive_regs (s : State) : (restartArchive s).regs =
    ((s.setWide Reg.RING_ARCH_WPTR_LO 0).setFld .RING_ARCH_WRAPS_COUNT 0).regs := rfl

theorem restartArchive_reg (s : State) {a : Nat} (hw : a ≠ Reg.RING_ARCH_WRAPS) :
    (restartArchive s).reg a = (s.setWide Reg.RING_ARCH_WPTR_LO 0).reg a := by
  unfold State.reg
  rw [restartArchive_regs]
  exact reg_setFld_ne (f := .RING_ARCH_WRAPS_COUNT) (s.setWide Reg.RING_ARCH_WPTR_LO 0) 0 hw

theorem restartArchive_en (s : State) : (restartArchive s).flag .RING_ARCH_CFG_EN = s.flag .RING_ARCH_CFG_EN := by
  rw [flag_eq_bitOf, flag_eq_bitOf, restartArchive_reg s (by decide), reg_setWide_ne s 0 (by decide) (by decide)]

theorem restartArchive_wptr (s : State) : (restartArchive s).wide Reg.RING_ARCH_WPTR_LO = 0 := by
  have hw := wide_setWide s Reg.RING_ARCH_WPTR_LO 0
  unfold State.wide at hw ⊢
  rw [restartArchive_reg s (by decide), restartArchive_reg s (by decide), hw]
  rfl

theorem restartArchive_wraps (s : State) : (restartArchive s).fld .RING_ARCH_WRAPS_COUNT = 0 :=
  (fld_congr (restartArchive_regs s) _).trans (fld_setFld_self _ .RING_ARCH_WRAPS_COUNT 0 (by decide) (by decide))

/-- The host writes all of RING_ARCH_CFG but its reserved bits. -/
theorem regRow_archCfg : regRow Reg.RING_ARCH_CFG = some ⟨0x5804, 1, 0x0, 1, 0x0, 0xffff7f01, 0x0, 0xa000000⟩ := by
  decide +kernel

theorem rings_setArchive (s : State) (x : Archive) : ({ s with archive := x } : State).rings = s.rings := rfl

theorem restartArchive_rings (s : State) : (restartArchive s).rings = s.rings :=
  (rings_setArchive ((s.setWide Reg.RING_ARCH_WPTR_LO 0).setFld .RING_ARCH_WRAPS_COUNT 0) _).trans
    ((State.setFld_rings (s.setWide Reg.RING_ARCH_WPTR_LO 0) _ 0).trans (State.setWide_rings s _ 0))

theorem rings_plainWriteReg (s : State) (a : Nat) (v : Word) : (s.plainWriteReg a v).rings = s.rings := by
  unfold State.plainWriteReg
  split <;> rfl

/-- A word written into RING_ARCH_CFG, with EN set. -/
def archOn (v : Nat) : Word := BitVec.ofNat 32 (putBit v 0 true)

theorem plainWrite_archOn (s : State) (v : Nat) :
    (s.plainWriteReg Reg.RING_ARCH_CFG (archOn v)).flag .RING_ARCH_CFG_EN = true := by
  rw [State.plainWriteReg, regRow_archCfg, flag_eq_bitOf, reg_setReg_self]
  refine (bitOf_plainWrite _ _ (by decide)).trans ?_
  rw [archOn, bitOf_eq_testBit, BitVec.toNat_ofNat, Nat.testBit_mod_two_pow, ← bitOf_eq_testBit, bitOf_putBit_self]
  rfl

theorem archCfgWrite_enable {s : State} (v : Nat) (hen : s.flag .RING_ARCH_CFG_EN = false)
    (h0 : s.fld .RING_ARCH_SIZE_SIZE ≠ 0) (hmax : s.fld .RING_ARCH_SIZE_SIZE ≤ 131072) :
    s.archCfgWrite (putBit v 0 true) =
      restartArchive (s.plainWriteReg Reg.RING_ARCH_CFG (archOn (putBit v 0 true))) := by
  have hok : (bitOf (putBit v 0 true) 0 && s.fld .RING_ARCH_SIZE_SIZE != 0 && decide (s.fld .RING_ARCH_SIZE_SIZE ≤ 131072)) =
      true := by
    rw [bitOf_putBit_self, bne_iff_ne.mpr h0, decide_eq_true hmax]
    rfl
  unfold State.archCfgWrite
  rw [hen, if_neg Bool.false_ne_true]
  dsimp only
  rw [hok, if_pos rfl]
  rfl

/-! ## ARCHIVE_BLOCK_FLUSH -/

/-- A flushed block is open no more. -/
theorem archBlock_flushBlock (s : State) (kind cam : Nat) :
    (archBlock s (kind * 4 + cam)).items ≠ 0 → archBlock (s.flushBlock kind cam).2 (kind * 4 + cam) = ⟨[], 0, 0⟩ := by
  intro hi
  unfold State.flushBlock
  extract_lets key b
  rw [if_neg (show ¬ b.items = 0 from hi)]
  have hw := (SameBlocks.refl { s with archive := { s.archive with blocks := s.archive.blocks.erase (kind * 4 + cam) } }).writeBlock
    (kind := kind) (cam := cam) (items := (archBlock s (kind * 4 + cam)).items)
    (payload := (archBlock s (kind * 4 + cam)).bytes)
  exact (congrArg (fun x => Store.get (fun _ => (⟨[], 0, 0⟩ : ArchBlock)) x (kind * 4 + cam)) hw.blocks).trans
    (Store.get_erase_self _ _ _)

theorem exec_archiveBlockFlush_of_due {s u : State} {dt : Nat} {kind : Fin 7} {cam : Fin 4} (hu : u = s.advance dt)
    (hg : u.gated 1 = false) (hen : u.flag .RING_ARCH_CFG_EN = true) (hi : (archBlock u (kind.val * 4 + cam.val)).items ≠ 0)
    (ht : 1000000 * max 1 (u.fld .RING_ARCH_CFG_FLUSH) ≤ u.now - (archBlock u (kind.val * 4 + cam.val)).firstAt) :
    exec (.archiveBlockFlush dt kind cam) s =
      .next ((u.flushBlock kind.val cam.val).2.eventsN 4 (u.flushBlock kind.val cam.val).1) := by
  subst hu
  refine congrArg Host.Outcome.next (if_pos ?_)
  rw [hg, hen]
  simp only [Bool.not_false, Bool.true_and, Bool.and_eq_true, bne_iff_ne, decide_eq_true_eq]
  exact ⟨hi, ht⟩

/-- Settles O42: the timeouts come down to `State.closeBuf`, `State.cqDue` and `State.setPme`, the archive's enabling to
`restartArchive`, and a block's flushing to `State.flushBlock`, after which events open at most the block of the event stream. -/
theorem ringTimeoutsAndTheArchive : Obligations.RingTimeoutsAndTheArchive := by
  refine ⟨?_, ?_, ?_, ?_⟩
  · intro s dt n b rest u hg hb hi ht
    obtain ⟨len, hx⟩ := exec_bufferFlushTimeout_of_due rfl hg (flushDue_of_head hb hi ht)
    exact ⟨_, hx, bufs_closeBuf hb .ok len, (Posted.refl u).closeBuf.regs⟩
  · intro s dt n u q hd
    refine ⟨fun h3 hs hc => ?_, fun h3 hs => ?_, fun h3 hs => exec_moderationTimeout_of_spent rfl hd h3 hs⟩
    · refine ⟨_, exec_moderationTimeout_of_d0 rfl hd h3 hc, ?_, ?_, (Posted.refl u).cqDue.regs⟩
      · exact congrArg Ring.unannounced (ring_cqDue_self hs)
      · exact congrArg Ring.timer (ring_cqDue_self hs)
    · refine ⟨_, exec_moderationTimeout_of_d3hot rfl hd h3 hs, pmeStatus_setPme _ _, ?_, fun m hm => ?_,
        (Posted.refl u).setRing.setPme.regs⟩
      · exact congrArg Ring.timerSpent ((ring_setPme _ _ _).trans (ring_setRing_self u _ _))
      · exact (ring_setPme _ _ _).trans (ring_setRing_ne u _ hm)
  · intro s v hok u hen h0 hmax
    refine ⟨_, congrArg Host.Outcome.next ((pf0Write_accessible hok _).trans (archCfgWrite_enable v.toNat hen h0 hmax)),
      (restartArchive_en _).trans (plainWrite_archOn u _), restartArchive_wptr _, restartArchive_wraps _, rfl,
      (restartArchive_rings _).trans (rings_plainWriteReg u _ _)⟩
  · intro s dt kind cam u key b hg hen hi ht
    refine ⟨_, exec_archiveBlockFlush_of_due rfl hg hen hi ht, (Quiet.refl u).flushBlock.eventsN.tb, fun hk => ?_⟩
    exact ((Announced.refl _).eventsN.blocks _ (by omega)).trans (archBlock_flushBlock u kind.val cam.val hi)

end Sys2Proof.Safety
end

section
/-! PROOF. What interrupts to the host leave alone, and what a function loses at its reset.

Interrupts change the ICX and its registers, and of the link what PF1 sends (`Noticed`). With them come the rules of the
resets: `StoppedF0`, `StoppedF1` and `LinkGone` say what R331 takes. -/

namespace Sys2Proof.Safety

open Sys2Proof.Machine

/-! ## Stores and registers that are cut down -/

/-- A store that keeps the pairs of some keys. -/
theorem get_filter_keys {α : Type} (d : Nat → α) (m : Store α) (c : Nat → Bool) (k : Nat) :
    Store.get d (m.filter fun p => c p.1) k = if c k then m.get d k else d k := by
  induction m with
  | nil => simp
  | cons p m ih =>
    obtain ⟨j, v⟩ := p
    by_cases hj : j = k
    · subst hj
      cases hc : c j <;> simp [hc, Store.get, ih]
    · cases hc : c j <;> simp [hc, Store.get, ih, hj]

theorem reg_resetRegs (s : State) (lo hi a : Nat) :
    (s.resetRegs lo hi).reg a = if a < lo ∨ hi ≤ a then s.reg a else regReset a :=
  (get_filter_keys regReset s.regs (fun k => k < lo || hi ≤ k) a).trans (by
    simp only [Bool.or_eq_true, decide_eq_true_eq]
    rfl)

/-- A register that is one field. -/
theorem reg_eq_wholeFld (s : State) (a : Nat) : s.reg a = BitVec.ofNat 32 (s.fld ⟨a, 31, 0⟩) := by
  have hlt := (s.reg a).isLt
  simp only [State.fld, getBits, pow_zero, Nat.div_one]
  rw [show 31 + 1 - 0 = 32 from rfl, Nat.mod_eq_of_lt hlt, BitVec.ofNat_toNat, BitVec.setWidth_eq]

/-- A flag of a register that is as before. -/
theorem flag_of_reg {s t : State} {f : Fld} (h : t.reg f.addr = s.reg f.addr) : t.flag f = s.flag f :=
  congrArg (· == 1) (fld_of_reg h)

/-! ## Interrupts -/

/-- The registers of the ICX. -/
def IcxReg (a : Nat) : Prop := 0x20800 ≤ a ∧ a < 0x21000

theorem icxPlace_icxReg {kind : Nat} (src : Nat) (hk : kind ≤ 2) : IcxReg (icxPlace kind src).addr := by
  unfold icxPlace IcxReg
  split
  · dsimp only [Reg.ICX_MASK]
    omega
  · dsimp only [Reg.ICX_FMASK]
    omega

theorem icxCounter_icxReg {src : Nat} (h : src ≤ 272) : IcxReg (icxCounter src).addr := by
  unfold icxCounter IcxReg
  split
  · dsimp only [Reg.ICX_CNT]
    omega
  · dsimp only [Reg.ICX_FCNT]
    omega

/-- A state without its registers, its ICX and what its interrupts send to the host. -/
def noticeless (s : State) : State :=
  { s with regs := [], icx := State.reset.icx, sent := [], pcie := { s.pcie with f1 := fnCore s.pcie.f1, heldMsgs := [] } }

/-- `s` differs from `s₀` at most in what interrupts change: the ICX with its registers, and what PF1 sends if it is not as
reset. -/
structure Noticed (s₀ s : State) : Prop where
  rest : noticeless s = noticeless s₀
  regs : RegsKept s₀ s IcxReg
  idle : s₀.pcie.f1 = PciFn.init → s.pcie.f1 = PciFn.init

theorem Noticed.refl (s : State) : Noticed s s := ⟨rfl, .refl s _, id⟩

theorem Noticed.rings {s₀ s : State} (h : Noticed s₀ s) : s.rings = s₀.rings := (congrArg State.rings h.rest :)
theorem Noticed.groups {s₀ s : State} (h : Noticed s₀ s) : s.groups = s₀.groups := (congrArg State.groups h.rest :)
theorem Noticed.loads {s₀ s : State} (h : Noticed s₀ s) : s.loads = s₀.loads := (congrArg State.loads h.rest :)
theorem Noticed.link {s₀ s : State} (h : Noticed s₀ s) : s.pcie.link = s₀.pcie.link :=
  (congrArg (fun t => t.pcie.link) h.rest :)
theorem Noticed.perst {s₀ s : State} (h : Noticed s₀ s) : s.pcie.perst = s₀.pcie.perst :=
  (congrArg (fun t => t.pcie.perst) h.rest :)
theorem Noticed.f0 {s₀ s : State} (h : Noticed s₀ s) : s.pcie.f0 = s₀.pcie.f0 := (congrArg (fun t => t.pcie.f0) h.rest :)
theorem Noticed.f1 {s₀ s : State} (h : Noticed s₀ s) : fnCore s.pcie.f1 = fnCore s₀.pcie.f1 :=
  (congrArg (fun t => t.pcie.f1) h.rest :)

theorem Noticed.branch {s₀ s t : State} {c : Prop} {inst : Decidable c} (hs : Noticed s₀ s) (ht : Noticed s₀ t) :
    Noticed s₀ (if c then s else t) := by split <;> assumption

/-- A fold over a state. -/
theorem Noticed.foldl {β : Type} {s₀ s : State} {f : State → β → State} {l : List β} (h : Noticed s₀ s)
    (hf : ∀ {t x}, Noticed s₀ t → Noticed s₀ (f t x)) : Noticed s₀ (l.foldl f s) :=
  List.foldlRecOn l f (motive := Noticed s₀) h fun _ ht _ _ => hf ht

/-- A function as reset sends nothing. -/
theorem hostDue_of_init {s : State} (h : s.pcie.f1 = PciFn.init) : s.hostDue = s := by
  have hf : s.fn 1 = PciFn.init := h
  unfold State.hostDue State.msixDue State.canSignal
  rw [hf]
  rfl

theorem noticeless_setFn {s : State} {f : PciFn} (h : fnCore f = fnCore s.pcie.f1) :
    noticeless (s.setFn 1 f) = noticeless s := by
  have hp : ({ (s.setFn 1 f).pcie with f1 := fnCore f, heldMsgs := [] } : Pcie) =
      { s.pcie with f1 := fnCore s.pcie.f1, heldMsgs := [] } := by
    rw [h]
    rfl
  exact congrArg (fun p => { s with regs := [], icx := State.reset.icx, sent := [], pcie := p }) hp

theorem noticeless_hostDue (s : State) : noticeless s.hostDue = noticeless s := by
  unfold State.hostDue State.setPme State.msixDue
  split
  · split
    · rfl
    · extract_lets _ t
      have ht : noticeless t = noticeless s := noticeless_setFn rfl
      split
      · exact ht
      · exact ht
  · split
    · split
      · exact noticeless_setFn rfl
      · rfl
    · rfl

section
variable {s₀ s : State} (h : Noticed s₀ s)
include h

theorem Noticed.setReg {a v} (ha : IcxReg a) : Noticed s₀ (s.setReg a v) := ⟨h.rest, h.regs.setReg ha, h.idle⟩
theorem Noticed.setFlag {f b} (hf : IcxReg f.addr) : Noticed s₀ (s.setFlag f b) := h.setReg hf
theorem Noticed.count {f n} (hf : IcxReg f.addr) : Noticed s₀ (s.count f n) := h.setReg hf
theorem Noticed.setIcx {x} : Noticed s₀ { s with icx := x } := ⟨h.rest, h.regs, h.idle⟩
theorem Noticed.assertTarget {u t} : Noticed s₀ (s.assertTarget u t) := branch h.setIcx h
theorem Noticed.hostDue : Noticed s₀ s.hostDue :=
  ⟨(noticeless_hostDue s).trans h.rest, fun a ha => (reg_congr (Posted.refl s).hostDue.regs a).trans (h.regs a ha),
    fun h1 => (congrArg (fun t => t.pcie.f1) (hostDue_of_init (h.idle h1))).trans (h.idle h1)⟩
omit h in
theorem Noticed.icxChange {f} (hf : Noticed s₀ (f s)) : Noticed s₀ (s.icxChange f) :=
  have h1 := hf.assertTarget.assertTarget.assertTarget
  branch h1.hostDue h1
theorem Noticed.makePending {src} : Noticed s₀ (s.makePending src) :=
  have h1 := h.setFlag (b := true) (icxPlace_icxReg src (by decide))
  branch h1 (branch h1.setIcx h1.setIcx)
theorem Noticed.applyRaise {src} (hs : src ≤ 272) : Noticed s₀ (s.applyRaise src) :=
  have h1 := h.count (n := 1) (icxCounter_icxReg hs)
  branch (h1.setFlag (icxPlace_icxReg src (by decide))) h1.makePending
theorem Noticed.raise {src} (hs : src ≤ 272) : Noticed s₀ (s.raise src) :=
  branch (branch h.setIcx h) (icxChange (h.applyRaise hs))
theorem Noticed.raiseFast {n} (hn : n ≤ 16) : Noticed s₀ (s.raiseFast n) := h.raise (by omega)
theorem Noticed.completeNormal {t src} : Noticed s₀ (s.completeNormal t src) :=
  branch (icxChange h.setIcx) (h.count ⟨by decide, by decide⟩)
theorem Noticed.popFast {t} : Noticed s₀ (s.popFast t) :=
  have h1 : Noticed s₀ (s.icxChange _) := icxChange h.setIcx
  branch h1.hostDue h1
theorem Noticed.completeAllOf {t} : Noticed s₀ (s.completeAllOf t) :=
  h.foldl fun h => branch h.completeNormal h.popFast

end

/-! ## PF0 stops -/

/-- What PF0 loses at its reset: its rings with their registers, the groups and the loads. -/
structure StoppedF0 (s t : State) : Prop where
  ringBlock : RingBlockReset s t
  regs : RegsKept s t fun a => 0x5000 ≤ a ∧ a < 0x6000
  rings : ∀ n, t.ring n = if n < 32 then Ring.init else s.ring n
  groups : t.groups = []
  loads : t.loads = []
  f0 : t.pcie.f0 = s.pcie.f0
  f1 : t.pcie.f1 = s.pcie.f1

/-- A load that is abandoned changes the tables only. -/
def OnlyTables (s t : State) : Prop := t = { s with tables := t.tables, freeCtr := t.freeCtr }

theorem onlyTables_abandonLoads (s : State) (l : List Load) : OnlyTables s (l.foldl (fun t x => t.abandonLoad x) s) :=
  List.foldlRecOn l _ (motive := OnlyTables s) rfl fun t ht x _ => by
    have hx : OnlyTables t (t.abandonLoad x) := rfl
    exact hx.trans (congrArg (fun t' : State =>
      { t' with tables := (t.abandonLoad x).tables, freeCtr := (t.abandonLoad x).freeCtr }) ht)

theorem stopF0_spec (s : State) : StoppedF0 s s.stopF0 := by
  unfold State.stopF0
  extract_lets s1 p s2
  generalize hn : (s.archive.blocks.filter fun e => e.2.items != 0).length = dropped
  have h1 : OnlyTables s s1 := onlyTables_abandonLoads s _
  have hring (n : Nat) : s2.ring n = if n < 32 then Ring.init else s.ring n := by
    have hrings : s1.rings = s.rings := (congrArg State.rings h1 :)
    refine (get_filter_keys (fun _ => Ring.init) s1.rings (fun k => 32 ≤ k) n).trans ?_
    rw [hrings]
    by_cases hn : n < 32
    · rw [if_neg (by simpa using hn), if_pos hn]
    · rw [if_pos (by simpa using hn), if_neg hn]
      rfl
  have hreg (a : Nat) : (s2.resetRegs 0x5000 0x6000).reg a = if a < 0x5000 ∨ 0x6000 ≤ a then s.reg a else regReset a := by
    rw [reg_resetRegs]
    exact congrArg (fun r => if a < 0x5000 ∨ 0x6000 ≤ a then Store.get regReset r a else regReset a)
      (congrArg State.regs h1 :)
  have hdrop (a : Nat) (ha : a ≠ Reg.RING_ARCH_DROP) : ((s2.resetRegs 0x5000 0x6000).count .RING_ARCH_DROP_COUNT dropped).reg a =
      if a < 0x5000 ∨ 0x6000 ≤ a then s.reg a else regReset a := (reg_setReg_ne _ _ ha).trans (hreg a)
  have hpcie := State.count_pcie (s2.resetRegs 0x5000 0x6000) .RING_ARCH_DROP_COUNT dropped
  refine ⟨fun a hl hu => ?_, fun a ha => ?_, fun n => ?_, State.count_groups .., State.count_loads ..,
    (congrArg Pcie.f0 hpcie).trans (congrArg (fun t => t.pcie.f0) h1 :),
    (congrArg Pcie.f1 hpcie).trans (congrArg (fun t => t.pcie.f1) h1 :)⟩
  · split
    · next ha =>
      have hzero : (s2.resetRegs 0x5000 0x6000).fld .RING_ARCH_DROP_COUNT = 0 := by
        unfold State.fld
        rw [hreg, if_neg (by decide)]
        decide +kernel
      rw [ha, reg_eq_wholeFld, fld_count_self _ .RING_ARCH_DROP_COUNT _ (by decide) (by decide), hzero, Nat.zero_add, hn]
      rfl
    · next ha => rw [hdrop a ha, if_neg (by omega)]
  · have hne : a ≠ Reg.RING_ARCH_DROP := fun e => ha (by rw [e]; decide)
    rw [hdrop a hne, if_pos (by omega)]
  · exact (congrArg (Store.get (fun _ => Ring.init) · n)
      (State.count_rings (s2.resetRegs 0x5000 0x6000) .RING_ARCH_DROP_COUNT dropped)).trans (hring n)

/-! ## PF1 stops -/

/-- What PF1 loses at its reset: its rings and the mailbox registers, and what the host has claimed. -/
structure StoppedF1 (s t : State) : Prop where
  mailbox : ∀ a, 0x20000 ≤ a → a < 0x20800 → t.reg a = regReset a
  regs : RegsKept s t fun a => 0x20000 ≤ a ∧ a < 0x21000
  rings : ∀ n, t.ring n = if n < 32 then s.ring n else Ring.init
  groups : t.groups = s.groups
  loads : t.loads = s.loads
  f0 : t.pcie.f0 = s.pcie.f0
  f1 : fnCore t.pcie.f1 = fnCore s.pcie.f1
  idle : s.pcie.f1 = PciFn.init → t.pcie.f1 = PciFn.init

/-- PF1 without its rings and mailbox registers. -/
def dropF1 (s : State) : State :=
  { s with
    rings := s.rings.filter (fun p => p.1 < 32)
    mboxGen := s.mboxGen + 1
    pcie := { s.pcie with heldMsgs := s.pcie.heldMsgs.filter (·.fn != 1) } }.resetRegs 0x20000 0x20800

theorem stopF1_spec (s : State) : StoppedF1 s s.stopF1 := by
  have hn : Noticed (dropF1 s) s.stopF1 := (Noticed.refl (dropF1 s)).completeAllOf
  have hreg (a : Nat) : (dropF1 s).reg a = if a < 0x20000 ∨ 0x20800 ≤ a then s.reg a else regReset a :=
    reg_resetRegs _ _ _ a
  refine ⟨fun a hl hu => ?_, fun a ha => ?_, fun n => ?_, hn.groups, hn.loads, hn.f0, hn.f1, hn.idle⟩
  · rw [hn.regs a (by unfold IcxReg; omega), hreg, if_neg (by omega)]
  · rw [hn.regs a (by unfold IcxReg; omega), hreg, if_pos (by omega)]
  · have hring : s.stopF1.ring n = (dropF1 s).ring n := congrArg (Store.get (fun _ => Ring.init) · n) hn.rings
    rw [hring]
    exact (get_filter_keys (fun _ => Ring.init) s.rings (fun k => k < 32) n).trans (by
      simp only [decide_eq_true_eq]
      rfl)

theorem ring_congr {s t : State} (h : t.rings = s.rings) (n : Nat) : t.ring n = s.ring n :=
  congrArg (Store.get (fun _ => Ring.init) · n) h

/-! ## The link is gone -/

/-- What the device loses with the link. -/
structure LinkGone (s t : State) (next : LinkState) (perst : Bool) : Prop where
  link : t.pcie.link = next
  perst : t.pcie.perst = perst
  f0 : t.pcie.f0 = PciFn.init
  f1 : t.pcie.f1 = PciFn.init
  speed : t.fld .HIF_LINK_STAT_SPEED = 0
  width : t.fld .HIF_LINK_STAT_WIDTH = s.fld .HIF_LINK_STAT_WIDTH
  rings : ∀ n, t.ring n = Ring.init
  groups : t.groups = []
  loads : t.loads = []
  ringBlock : RingBlockReset s t
  mailbox : ∀ a, 0x20000 ≤ a → a < 0x20800 → t.reg a = regReset a
  resets : t.fld .HIF_RESET_STAT_LINK_RST = satAdd Fld.HIF_RESET_STAT_LINK_RST.width (s.fld .HIF_RESET_STAT_LINK_RST) 1

/-- An interrupt leaves the loss as it is. -/
theorem LinkGone.noticed {s t u : State} {next : LinkState} {perst : Bool} (h : LinkGone s t next perst) (hu : Noticed t u) :
    LinkGone s u next perst := by
  have hkept {a : Nat} (ha : a < 0x20800) : u.reg a = t.reg a := hu.regs a fun hi => absurd hi.1 (by omega)
  exact
    { link := hu.link.trans h.link
      perst := hu.perst.trans h.perst
      f0 := hu.f0.trans h.f0
      f1 := hu.idle h.f1
      speed := (fld_of_reg (hkept (by decide))).trans h.speed
      width := (fld_of_reg (hkept (by decide))).trans h.width
      rings := fun n => (ring_congr hu.rings n).trans (h.rings n)
      groups := hu.groups.trans h.groups
      loads := hu.loads.trans h.loads
      ringBlock := fun a hl hr => (hkept (by omega)).trans (h.ringBlock a hl hr)
      mailbox := fun a hl hr => (hkept hr).trans (h.mailbox a hl hr)
      resets := (fld_of_reg (hkept (by decide))).trans h.resets }

/-- What both functions lose at their resets. -/
structure StoppedBoth (s t : State) : Prop where
  ringBlock : RingBlockReset s t
  mailbox : ∀ a, 0x20000 ≤ a → a < 0x20800 → t.reg a = regReset a
  regs : ∀ a, a < 0x5000 → t.reg a = s.reg a
  rings : ∀ n, t.ring n = Ring.init
  groups : t.groups = []
  loads : t.loads = []
  f0 : t.pcie.f0 = s.pcie.f0
  idle : s.pcie.f1 = PciFn.init → t.pcie.f1 = PciFn.init

theorem stopBoth_spec (s : State) : StoppedBoth s s.stopF0.stopF1 := by
  have h0 := stopF0_spec s
  have h1 := stopF1_spec s.stopF0
  refine ⟨fun a hl hu => (h1.regs a (by omega)).trans (h0.ringBlock a hl hu), h1.mailbox,
    fun a ha => (h1.regs a (by omega)).trans (h0.regs a (by omega)), fun n => ?_, h1.groups.trans h0.groups,
    h1.loads.trans h0.loads, h1.f0.trans h0.f0, fun h => h1.idle (h0.f1.trans h)⟩
  rw [h1.rings, h0.rings]
  split <;> rfl

/-- Both functions as reset. -/
def initFns (s : State) : State := (s.setFn 0 PciFn.init).setFn 1 PciFn.init

/-- The link goes down, or trains anew. -/
def setLink (s : State) (next : LinkState) (perst : Bool) : State :=
  { s with pcie := { s.pcie with
      link := next, perst := perst, heldMsgs := [], heldWrites := [], eqDraw := none, eq16 := false, margin := [] } }

theorem linkGone_of_stopped {s u v w : State} {next : LinkState} {perst : Bool} (h : StoppedBoth (initFns s) u)
    (hv : OnlyRegs u v) (hw : OnlyRegs (setLink v next perst) w) (hspeed : v.fld .HIF_LINK_STAT_SPEED = 0)
    (hwidth : v.fld .HIF_LINK_STAT_WIDTH = u.fld .HIF_LINK_STAT_WIDTH)
    (hcount : w.fld .HIF_RESET_STAT_LINK_RST =
      satAdd Fld.HIF_RESET_STAT_LINK_RST.width (v.fld .HIF_RESET_STAT_LINK_RST) 1)
    (hvreg : RegsKept u v (· = Reg.HIF_LINK_STAT)) (hwreg : RegsKept v w (· = Reg.HIF_RESET_STAT)) :
    LinkGone s w next perst := by
  have hreg {a : Nat} (ha : 0x5000 ≤ a) : w.reg a = u.reg a :=
    (hwreg a (by dsimp only [Reg.HIF_RESET_STAT]; omega)).trans (hvreg a (by dsimp only [Reg.HIF_LINK_STAT]; omega))
  have hlow {a : Nat} (ha : a < 0x5000) : u.reg a = s.reg a := h.regs a ha
  have hstat : w.reg Reg.HIF_LINK_STAT = v.reg Reg.HIF_LINK_STAT := hwreg _ (by decide)
  have hrst : v.reg Reg.HIF_RESET_STAT = u.reg Reg.HIF_RESET_STAT := hvreg _ (by decide)
  exact
    { link := (congrArg (fun t => t.pcie.link) hw :)
      perst := (congrArg (fun t => t.pcie.perst) hw :)
      f0 := ((congrArg (fun t => t.pcie.f0) hw :).trans (congrArg (fun t => t.pcie.f0) hv :)).trans h.f0
      f1 := ((congrArg (fun t => t.pcie.f1) hw :).trans (congrArg (fun t => t.pcie.f1) hv :)).trans (h.idle rfl)
      speed := (fld_of_reg (f := .HIF_LINK_STAT_SPEED) hstat).trans hspeed
      width := (fld_of_reg (f := .HIF_LINK_STAT_WIDTH) hstat).trans
        (hwidth.trans (fld_of_reg (f := .HIF_LINK_STAT_WIDTH) (hlow (by decide))))
      rings := fun n => (ring_congr ((congrArg State.rings hw :).trans (congrArg State.rings hv :)) n).trans (h.rings n)
      groups := ((congrArg State.groups hw :).trans (congrArg State.groups hv :)).trans h.groups
      loads := ((congrArg State.loads hw :).trans (congrArg State.loads hv :)).trans h.loads
      ringBlock := fun a hl hu => (hreg hl).trans (h.ringBlock a hl hu)
      mailbox := fun a hl hu => (hreg (by omega)).trans (h.mailbox a hl hu)
      resets := by
        rw [hcount, fld_of_reg (f := .HIF_RESET_STAT_LINK_RST) hrst,
          fld_of_reg (f := .HIF_RESET_STAT_LINK_RST) (hlow (by decide))] }

/-- The loss before the interrupt. -/
def dropLink (s : State) (next : LinkState) (perst : Bool) : State :=
  (setLink ((initFns s).stopF0.stopF1.setFld .HIF_LINK_STAT_SPEED 0) next perst).count .HIF_RESET_STAT_LINK_RST 1

theorem dropLink_gone (s : State) (next : LinkState) (perst : Bool) : LinkGone s (dropLink s next perst) next perst :=
  linkGone_of_stopped (stopBoth_spec (initFns s)) (OnlyRegs.refl _).setFld (OnlyRegs.refl _).setFld
    (fld_setFld_self _ .HIF_LINK_STAT_SPEED 0 (by decide) (by decide)) (fld_setFld_bits _ 0)
    (fld_count_self _ .HIF_RESET_STAT_LINK_RST 1 (by decide) (by decide)) ((RegsKept.refl _ _).setFld rfl)
    ((RegsKept.refl _ _).count rfl)

theorem linkReset_gone (s : State) (next : LinkState) (perst : Bool) : LinkGone s (s.linkReset next perst) next perst := by
  have h := dropLink_gone s next perst
  have hr : LinkGone s ((dropLink s next perst).raiseFast 14) next perst := h.noticed ((Noticed.refl _).raiseFast (by decide))
  unfold State.linkReset
  split
  · exact hr
  · exact h

end Sys2Proof.Safety
end

section
/-! PROOF. The resets of the functions and of the link, and D3hot. -/

namespace Sys2Proof.Safety

open Sys2Proof.Machine

/-! ## Resets of one function -/

theorem fn_zero (s : State) : s.fn 0 = s.pcie.f0 := rfl

theorem fn_one (s : State) : s.fn 1 = s.pcie.f1 := rfl

/-- `t` is `s` with one event more in a field of HIF_RESET_STAT. -/
structure ResetCounted (s t : State) (f : Fld) : Prop where
  only : OnlyRegs s t
  regs : RegsKept s t (· = Reg.HIF_RESET_STAT)
  fld : t.fld f = satAdd f.width (s.fld f) 1

theorem count_resetCounted (s : State) {hi lo : Nat} (h : lo ≤ hi := by decide) (h32 : hi < 32 := by decide) :
    ResetCounted s (s.count ⟨Reg.HIF_RESET_STAT, hi, lo⟩ 1) ⟨Reg.HIF_RESET_STAT, hi, lo⟩ :=
  ⟨(OnlyRegs.refl s).setFld, (RegsKept.refl s _).count rfl, fld_count_self s ⟨Reg.HIF_RESET_STAT, hi, lo⟩ 1 h h32⟩

section
variable {s u t : State} {f : Fld}

/-- A reset of PF0 that is counted. -/
theorem StoppedF0.counted (h : StoppedF0 s u) (hc : ResetCounted u t f) (hf : f.addr = Reg.HIF_RESET_STAT) :
    t.pcie.f0 = s.pcie.f0 ∧ t.pcie.f1 = s.pcie.f1 ∧ t.groups = [] ∧ t.loads = [] ∧ (∀ n, n < 32 → (t.ring n).enabled = false) ∧
    RingBlockReset s t ∧ t.fld f = satAdd f.width (s.fld f) 1 := by
  refine ⟨(congrArg (fun x => x.pcie.f0) hc.only :).trans h.f0, (congrArg (fun x => x.pcie.f1) hc.only :).trans h.f1,
    (congrArg State.groups hc.only :).trans h.groups, (congrArg State.loads hc.only :).trans h.loads, fun n hn => ?_,
    fun a hl hu => ?_, ?_⟩
  · have hring : t.ring n = u.ring n := ring_congr (congrArg State.rings hc.only :) n
    rw [hring, h.rings, if_pos hn]
    rfl
  · exact (hc.regs a (by dsimp only [Reg.HIF_RESET_STAT]; omega)).trans (h.ringBlock a hl hu)
  · rw [hc.fld, fld_of_reg (h.regs f.addr (by rw [hf]; decide))]

/-- A reset of PF1 that is counted. -/
theorem StoppedF1.counted (h : StoppedF1 s u) (hc : ResetCounted u t f) (hf : f.addr = Reg.HIF_RESET_STAT) :
    t.pcie.f0 = s.pcie.f0 ∧ fnCore t.pcie.f1 = fnCore s.pcie.f1 ∧ (s.pcie.f1 = PciFn.init → t.pcie.f1 = PciFn.init) ∧
    (∀ n, 32 ≤ n → (t.ring n).enabled = false) ∧ (∀ a, 0x20000 ≤ a → a < 0x20800 → t.reg a = regReset a) ∧
    t.fld f = satAdd f.width (s.fld f) 1 := by
  have hf1 : t.pcie.f1 = u.pcie.f1 := (congrArg (fun x => x.pcie.f1) hc.only :)
  refine ⟨(congrArg (fun x => x.pcie.f0) hc.only :).trans h.f0, (congrArg fnCore hf1).trans h.f1,
    fun hi => hf1.trans (h.idle hi), fun n hn => ?_, fun a hl hu => ?_, ?_⟩
  · have hring : t.ring n = u.ring n := ring_congr (congrArg State.rings hc.only :) n
    rw [hring, h.rings, if_neg (by omega)]
    rfl
  · exact (hc.regs a (by dsimp only [Reg.HIF_RESET_STAT]; omega)).trans (h.mailbox a hl hu)
  · rw [hc.fld, fld_of_reg (h.regs f.addr (by rw [hf]; decide))]

end

theorem RingBlockReset.of_archive {s s' t : State} (h : RingBlockReset s' t) (ha : s'.archive = s.archive) :
    RingBlockReset s t := fun a hl hu => by rw [h a hl hu, ha]

theorem functionReset_f0 (s : State) :
    (s.functionReset 0).fn 0 = PciFn.init ∧ (s.functionReset 0).fn 1 = s.fn 1 ∧ (s.functionReset 0).groups = [] ∧
    (s.functionReset 0).loads = [] ∧ (∀ n, n < 32 → ((s.functionReset 0).ring n).enabled = false) ∧
    RingBlockReset s (s.functionReset 0) ∧ (s.functionReset 0).fld .HIF_RESET_STAT_FLR0 =
      satAdd Fld.HIF_RESET_STAT_FLR0.width (s.fld .HIF_RESET_STAT_FLR0) 1 := by
  obtain ⟨hf0, hf1, hgroups, hloads, hrings, hblock, hcount⟩ :=
    (stopF0_spec (s.setFn 0 PciFn.init)).counted (count_resetCounted _ (hi := 7) (lo := 0)) rfl
  rw [State.functionReset, State.stopFn, if_pos rfl, if_pos rfl, fn_zero, fn_one, fn_one]
  exact ⟨hf0, hf1, hgroups, hloads, hrings, hblock.of_archive rfl, hcount⟩

theorem functionReset_f1 (s : State) :
    (s.functionReset 1).fn 1 = PciFn.init ∧ (s.functionReset 1).fn 0 = s.fn 0 ∧
    ((s.functionReset 1).ring mboxSq).enabled = false ∧ ((s.functionReset 1).ring mboxCq).enabled = false ∧
    (∀ a, 0x20000 ≤ a → a < 0x20800 → (s.functionReset 1).reg a = regReset a) ∧
    (s.functionReset 1).fld .HIF_RESET_STAT_FLR1 =
      satAdd Fld.HIF_RESET_STAT_FLR1.width (s.fld .HIF_RESET_STAT_FLR1) 1 := by
  obtain ⟨hf0, -, hf1, hrings, hmail, hcount⟩ :=
    (stopF1_spec (s.setFn 1 PciFn.init)).counted (count_resetCounted _ (hi := 15) (lo := 8)) rfl
  exact ⟨hf1 rfl, hf0, hrings _ (by decide), hrings _ (by decide), hmail, hcount⟩

theorem busMasterOff_of_on {s : State} {i : Nat} (h : (s.fn i).busMaster = true) : s.busMasterOff i =
    ((s.setFn i { s.fn i with busMaster := false }).stopFn i).count .HIF_RESET_STAT_BME_OFF 1 := if_pos h

theorem ringFn_eq_zero {n : Nat} (h : ringFn n = 0) : n < 32 := by
  unfold ringFn at h
  split at h
  · assumption
  · exact absurd h (by decide)

theorem ringFn_eq_one {n : Nat} (h : ringFn n = 1) : 32 ≤ n := by
  unfold ringFn at h
  split at h
  · exact absurd h (by decide)
  · omega

theorem busMasterOff_f0 {s : State} (h : (s.fn 0).busMaster = true) :
    ((s.busMasterOff 0).fn 0).busMaster = false ∧ (s.busMasterOff 0).fn 1 = s.fn 1 ∧
    (∀ n, n < 32 → ((s.busMasterOff 0).ring n).enabled = false) ∧ (s.busMasterOff 0).groups = [] ∧
    (s.busMasterOff 0).loads = [] ∧ RingBlockReset s (s.busMasterOff 0) ∧
    (s.busMasterOff 0).fld .HIF_RESET_STAT_BME_OFF =
      satAdd Fld.HIF_RESET_STAT_BME_OFF.width (s.fld .HIF_RESET_STAT_BME_OFF) 1 := by
  obtain ⟨hf0, hf1, hgroups, hloads, hrings, hblock, hcount⟩ :=
    (stopF0_spec (s.setFn 0 { s.fn 0 with busMaster := false })).counted (count_resetCounted _ (hi := 23) (lo := 16)) rfl
  rw [busMasterOff_of_on h, State.stopFn, if_pos rfl, fn_zero, fn_one, fn_one]
  exact ⟨congrArg PciFn.busMaster hf0, hf1, hrings, hgroups, hloads, hblock.of_archive rfl, hcount⟩

theorem busMasterOff_f1 {s : State} (h : (s.fn 1).busMaster = true) :
    ((s.busMasterOff 1).fn 1).busMaster = false ∧ (s.busMasterOff 1).fn 0 = s.fn 0 ∧
    (∀ n, 32 ≤ n → ((s.busMasterOff 1).ring n).enabled = false) ∧
    (∀ a, 0x20000 ≤ a → a < 0x20800 → (s.busMasterOff 1).reg a = regReset a) ∧
    (s.busMasterOff 1).fld .HIF_RESET_STAT_BME_OFF =
      satAdd Fld.HIF_RESET_STAT_BME_OFF.width (s.fld .HIF_RESET_STAT_BME_OFF) 1 := by
  obtain ⟨hf0, hf1, -, hrings, hmail, hcount⟩ :=
    (stopF1_spec (s.setFn 1 { s.fn 1 with busMaster := false })).counted (count_resetCounted _ (hi := 23) (lo := 16)) rfl
  rw [busMasterOff_of_on h, State.stopFn, if_neg (by decide)]
  exact ⟨(congrArg PciFn.busMaster hf1 :), hf0, hrings, hmail, hcount⟩

/-! ## Resets of the link -/

theorem exec_perstNRelease_of_low {s u : State} {dt : Nat} (hu : u = s.advance dt) (hp : u.pcie.perst = true)
    (hr : u.inReset = false) (ho : u.off = false) (hm : u.power.moulting = false) :
    exec (.perstNRelease dt) s = .next { u with pcie := { u.pcie with perst := false, link := .training } } := by
  subst hu
  exact congrArg Host.Outcome.next ((if_neg (by rw [hp, ho]; decide)).trans (if_neg (by rw [hr, hm]; decide)))

/-- A link that is up has its loss counted as one more training. -/
def retrainCounted (u : State) : State := if u.linked then u.count .HIF_LINK_STAT_RETRAINS 1 else u

section
variable {s u : State} {dt : Nat} (hu : u = s.advance dt) (hr : u.inReset = false) (ho : u.off = false)
  (hm : u.power.moulting = false)
include hu hr ho hm

theorem exec_hotReset_of_perstN : exec (.hotReset dt .perstN) s = .next (u.linkReset .down true) := by
  subst hu
  exact congrArg Host.Outcome.next (if_neg (by rw [hr, ho, hm]; decide))

theorem exec_hotReset_of_trains {kind : LinkReset} (hk : kind ≠ .perstN) (hp : u.pcie.perst = false)
    (hl : ¬(kind = .linkDown ∧ u.pcie.link = .up ∧ (u.fn 0).d3hot = true ∧ (u.fn 1).d3hot = true)) :
    exec (.hotReset dt kind) s = .next ((retrainCounted u).linkReset .training false) := by
  subst hu
  have hblocked : ¬ ((s.advance dt).inReset || (s.advance dt).off || (s.advance dt).power.moulting ||
      (s.advance dt).pcie.perst) = true := by rw [hr, ho, hm, hp]; decide
  have hl2 : ¬ (decide (kind = .linkDown) && decide ((s.advance dt).pcie.link = .up) && ((s.advance dt).fn 0).d3hot &&
      ((s.advance dt).fn 1).d3hot) = true := by
    simp only [Bool.and_eq_true, decide_eq_true_eq, and_assoc]
    exact hl
  cases kind with
  | perstN => exact absurd rfl hk
  | hotReset => exact congrArg Host.Outcome.next ((if_neg hblocked).trans (if_neg hl2))
  | linkDown => exact congrArg Host.Outcome.next ((if_neg hblocked).trans (if_neg hl2))

theorem exec_hotReset_of_l2 (hp : u.pcie.perst = false) (hl : u.pcie.link = .up) (h0 : (u.fn 0).d3hot = true)
    (h1 : (u.fn 1).d3hot = true) : exec (.hotReset dt .linkDown) s = .next u.enterL2 := by
  subst hu
  exact congrArg Host.Outcome.next ((if_neg (by rw [hr, ho, hm, hp]; decide)).trans
    (if_pos (by rw [hl, h0, h1]; decide)))

end

/-- A training more leaves the widths and the rest of the registers. -/
theorem LinkGone.of_count {u t : State} {next : LinkState} {perst : Bool}
    (h : LinkGone (u.count .HIF_LINK_STAT_RETRAINS 1) t next perst) : LinkGone u t next perst := by
  have hkept : RegsKept u (u.count .HIF_LINK_STAT_RETRAINS 1) (· = Reg.HIF_LINK_STAT) := (RegsKept.refl u _).count rfl
  obtain ⟨hl, hp, hf0, hf1, hspeed, hwidth, hrings, hgroups, hloads, hblock, hmail, hresets⟩ := h
  exact ⟨hl, hp, hf0, hf1, hspeed, hwidth.trans (fld_setFld_bits u _), hrings, hgroups, hloads,
    hblock.of_archive (State.count_archive ..), hmail, hresets.trans (by rw [hkept.fld (by decide)])⟩

theorem retrainCounted_gone (u : State) (next : LinkState) (perst : Bool) :
    LinkGone u ((retrainCounted u).linkReset next perst) next perst := by
  unfold retrainCounted
  split
  · exact (linkReset_gone _ next perst).of_count
  · exact linkReset_gone u next perst

/-- The functions keep PME_En and PME_Status in L2. -/
def keepPme (f : PciFn) : PciFn := { PciFn.init with pmeEnable := f.pmeEnable, pmeStatus := f.pmeStatus }

/-- The device in L2 before the functions take back PME_En and PME_Status. -/
def lostToL2 (u : State) : State := (u.count .HIF_LINK_STAT_RETRAINS 1).linkReset .l2 false

theorem lostToL2_gone (u : State) : LinkGone u (lostToL2 u) .l2 false := (linkReset_gone _ .l2 false).of_count

theorem enterL2_eq (u : State) :
    u.enterL2 = ((lostToL2 u).setFn 0 (keepPme (u.fn 0))).setFn 1 (keepPme (u.fn 1)) := rfl

/-! ## D3hot -/

/-- The buffers of a ring whose open buffer is closed. -/
def closedBufs : List Buf → List Buf
  | [] => []
  | b :: rest => if b.items = 0 then b :: rest else rest

/-- D3HOT_ENTRY closes the open buffer of one ring. -/
def closeOpen (s : State) (n : Nat) : State :=
  match (s.ring n).bufs with
  | b :: _ => if b.items = 0 then s else s.closeBuf n .ok b.used
  | [] => s

theorem bufs_closeBuf_ne (s : State) {m n : Nat} (h : m ≠ n) (status : Status) (length : Nat) :
    ((s.closeBuf n status length).ring m).bufs = (s.ring m).bufs := by
  unfold State.closeBuf
  split
  · rfl
  · exact ((SameRings.refl _).complete.bufs m).trans (congrArg Ring.bufs (ring_setRing_ne s _ h))

theorem bufs_closeOpen (s : State) (n m : Nat) :
    ((closeOpen s n).ring m).bufs = if m = n then closedBufs (s.ring m).bufs else (s.ring m).bufs := by
  unfold closeOpen
  by_cases hm : m = n
  · subst hm
    rw [if_pos rfl]
    split
    · next b rest hb =>
      rw [hb, closedBufs]
      split
      · exact hb
      · exact bufs_closeBuf hb .ok b.used
    · next hb => rw [hb, closedBufs]
  · rw [if_neg hm]
    split
    · split
      · rfl
      · exact bufs_closeBuf_ne s hm _ _
    · rfl

/-- Each ring of a list has its open buffer closed, once. -/
theorem bufs_closeOpens {l : List Nat} (hl : l.Nodup) (s : State) (m : Nat) :
    ((l.foldl closeOpen s).ring m).bufs = if m ∈ l then closedBufs (s.ring m).bufs else (s.ring m).bufs := by
  induction l generalizing s with
  | nil => rfl
  | cons n l ih =>
    obtain ⟨hn, hl⟩ := List.nodup_cons.mp hl
    rw [List.foldl_cons, ih hl, bufs_closeOpen]
    by_cases hm : m = n
    · subst hm
      rw [if_neg hn, if_pos rfl, if_pos List.mem_cons_self]
    · simp only [hm, if_false, List.mem_cons, false_or]

theorem SameLink.closeOpenBufs {s₀ s : State} (h : SameLink s₀ s) : SameLink s₀ s.closeOpenBufs :=
  h.foldl fun {t n} h => by
    split
    · exact h.branch h.closeBuf
    · exact h

theorem SameLink.sendIfPending {s₀ s : State} (h : SameLink s₀ s) {i v : Nat} : SameLink s₀ (s.sendIfPending i v) :=
  branch h.setFn.sendVector h
theorem SameLink.sendPending {s₀ s : State} (h : SameLink s₀ s) {i : Nat} : SameLink s₀ (s.sendPending i) :=
  h.foldl fun h => h.sendIfPending
theorem SameLink.resumeCq {s₀ s : State} (h : SameLink s₀ s) {q : Nat} : SameLink s₀ (s.resumeCq q) :=
  branch h.drainHeld.cqDue h.drainHeld

theorem d3hot_setFn (s : State) (i : Nat) (f : PciFn) : ((s.setFn i f).fn i).d3hot = f.d3hot :=
  congrArg PciFn.d3hot (fn_setFn_self s i f)

/-- D3HOT_ENTRY of a function in D0. -/
theorem enterD3hot_spec {s : State} (i : Nat) (h : (s.fn i).d3hot = false) :
    ((s.enterD3hot i).fn i).d3hot = true ∧ (s.enterD3hot i).regs = s.regs ∧
    (i = 0 → ∀ n b rest, n < 32 → (s.ring n).bufs = b :: rest → b.items ≠ 0 → ((s.enterD3hot i).ring n).bufs = rest) := by
  refine ⟨?_, (Posted.refl s).enterD3hot.regs, fun hi n b rest hn hb hitems => ?_⟩
  · unfold State.enterD3hot
    rw [if_neg (by rw [h]; decide)]
    extract_lets _ s1
    have h1 : (s1.fn i).d3hot = true := d3hot_setFn s i _
    split
    · exact ((SameLink.refl s1).closeOpenBufs.d3hot i).trans h1
    · exact h1
  · unfold State.enterD3hot
    rw [if_neg (by rw [h]; decide)]
    extract_lets _ s1
    rw [if_pos hi]
    refine (bufs_closeOpens List.nodup_range s1 n).trans ?_
    have hb1 : (s1.ring n).bufs = b :: rest := hb
    rw [if_pos (List.mem_range.mpr hn), hb1, closedBufs, if_neg hitems]

/-- D0_RETURN of a function in D3hot. -/
theorem returnD0_spec {s : State} (i : Nat) (h : (s.fn i).d3hot = true) :
    ((s.returnD0 i).fn i).d3hot = false ∧ (s.returnD0 i).regs = s.regs := by
  refine ⟨?_, (Posted.refl s).returnD0.regs⟩
  unfold State.returnD0
  rw [if_pos h]
  extract_lets _ s1 s2
  have h0 : ((s.setFn i { s.fn i with d3hot := false }).fn i).d3hot = false := d3hot_setFn s i _
  have hs1 : SameLink (s.setFn i { s.fn i with d3hot := false }) s1 := (SameLink.refl _).sendPending
  have hs2 : SameLink (s.setFn i { s.fn i with d3hot := false }) s2 := hs1.resumeCq
  split
  · exact ((hs1.foldl fun h => .branch h.resumeCq h).d3hot i).trans h0
  · exact ((SameLink.branch hs2.msixDue hs2).d3hot i).trans h0

end Sys2Proof.Safety
end

section
/-! PROOF. The training of the link, its errors, and the unmasking of a vector. -/

namespace Sys2Proof.Safety

open Sys2Proof.Machine

/-! ## LINK_UP -/

theorem Posted.sendHeld {s₀ s : State} (h : Posted s₀ s) {m : Msg} : Posted s₀ (s.sendHeld m) := by
  unfold State.sendHeld
  split
  · exact h.msixDue
  · exact h

theorem SameLink.sendHeld {s₀ s : State} (h : SameLink s₀ s) {m : Msg} : SameLink s₀ (s.sendHeld m) := by
  unfold State.sendHeld
  split
  · exact h.msixDue
  · exact h

/-- The result of a training in HIF_LINK_STAT. -/
def writeTraining (s : State) (w : Nat) (rev : Bool) (speed : Nat) : State :=
  ((s.setFld .HIF_LINK_STAT_WIDTH w).setFlag .HIF_LINK_STAT_REVERSED rev).setFld .HIF_LINK_STAT_SPEED speed

/-- The link is up, and holds nothing. -/
def raiseLink (s : State) : State := { s with pcie := { s.pcie with link := .up, heldMsgs := [], heldWrites := [] } }

/-- What was held while the link trained goes out. -/
def releaseHeld (s t : State) : State :=
  (List.range 34).foldl (fun t n => if t.ringKind n = 2 then t.drainCq n else t)
    (s.pcie.heldMsgs.foldl State.sendHeld (s.pcie.heldWrites.foldl (fun t w => t.writeMem w.1 w.2) t))

theorem linkTrained_eq (s : State) (w : Nat) (rev : Bool) (speed : Nat) :
    s.linkTrained w rev speed = releaseHeld s (raiseLink ((writeTraining s w rev speed).equalised speed)) := rfl

theorem releaseHeld_posted (s t : State) : Posted t (releaseHeld s t) :=
  (((Posted.refl t).foldl fun h => h.writeMem).foldl fun h => h.sendHeld).foldl fun h => .branch h.drainHeld h

theorem releaseHeld_sameLink (s t : State) : SameLink t (releaseHeld s t) :=
  (((SameLink.refl t).foldl fun h => h.writeMem).foldl fun h => h.sendHeld).foldl fun h => .branch h.drainCq h

theorem equalised_kept (s : State) (speed : Nat) : (s.equalised speed).regs = s.regs ∧
    (s.equalised speed).pcie.laneEvent = s.pcie.laneEvent ∧ (s.equalised speed).pcie.failClr = s.pcie.failClr := by
  unfold State.equalised
  split <;> exact ⟨rfl, rfl, rfl⟩

/-- `t` is `s` after a training with a width, a reversal and a speed. -/
structure Trained (s t : State) (w : Nat) (rev : Bool) (speed : Nat) : Prop where
  link : t.pcie.link = .up
  laneEvent : t.pcie.laneEvent = s.pcie.laneEvent
  failClr : t.pcie.failClr = s.pcie.failClr
  width : t.fld .HIF_LINK_STAT_WIDTH = w
  reversed : t.flag .HIF_LINK_STAT_REVERSED = rev
  speed : t.fld .HIF_LINK_STAT_SPEED = speed
  laneFail : t.fld .HIF_LINK_STAT_LANE_FAIL = s.fld .HIF_LINK_STAT_LANE_FAIL
  regs : RegsKept s t (· = Reg.HIF_LINK_STAT)

theorem writeTraining_kept (s : State) (w : Nat) (rev : Bool) (speed : Nat) :
    RegsKept s (writeTraining s w rev speed) (· = Reg.HIF_LINK_STAT) :=
  (((RegsKept.refl s (· = Reg.HIF_LINK_STAT)).setFld (f := .HIF_LINK_STAT_WIDTH) rfl).setFlag
    (f := .HIF_LINK_STAT_REVERSED) rfl).setFld (f := .HIF_LINK_STAT_SPEED) rfl

theorem linkTrained_spec (s : State) {w speed : Nat} (rev : Bool) (hw : w < 8) (hs : speed < 8) :
    Trained s (s.linkTrained w rev speed) w rev speed := by
  rw [linkTrained_eq]
  obtain ⟨hregs, hevent, hclr⟩ := equalised_kept (writeTraining s w rev speed) speed
  generalize (writeTraining s w rev speed).equalised speed = e at hregs hevent hclr
  have hkept : (releaseHeld s (raiseLink e)).regs = (writeTraining s w rev speed).regs :=
    (releaseHeld_posted s (raiseLink e)).regs.trans hregs
  have hl := releaseHeld_sameLink s (raiseLink e)
  refine ⟨hl.link, hl.laneEvent.trans hevent, hl.failClr.trans hclr, ?_, ?_, ?_, ?_, fun a ha => ?_⟩
  · rw [fld_congr hkept, writeTraining, fld_setFld_bits, State.setFlag, fld_setFld_bits,
      fld_setFld_self _ _ _ (by decide) (by decide)]
    exact Nat.mod_eq_of_lt hw
  · rw [flag_congr hkept, writeTraining, flag_setFld_bits, flag_setFlag_bit]
  · rw [fld_congr hkept, writeTraining, fld_setFld_self _ _ _ (by decide) (by decide)]
    exact Nat.mod_eq_of_lt hs
  · rw [fld_congr hkept, writeTraining, fld_setFld_bits, State.setFlag, fld_setFld_bits, fld_setFld_bits]
  · exact (reg_congr hkept a).trans (writeTraining_kept s w rev speed a ha)

/-- The failed lane is reported. -/
def noteLane (s : State) : State := { s with pcie := { s.pcie with laneEvent := false } }

theorem laneReport_of_event {s : State} (h : s.pcie.laneEvent = true) :
    ∃ args, s.laneReport = (noteLane s).event 0x8 .ok 0 args := ⟨_, if_pos h⟩

theorem laneReport_of_none {s : State} (h : s.pcie.laneEvent = false) : s.laneReport = s :=
  if_neg (by rw [h]; decide)

/-- The report of a failed lane leaves the state of the training. -/
theorem laneReport_spec (s : State) : s.laneReport.pcie.link = s.pcie.link ∧ s.laneReport.pcie.laneEvent = false ∧
    s.laneReport.pcie.failClr = s.pcie.failClr ∧ s.laneReport.reg Reg.HIF_LINK_STAT = s.reg Reg.HIF_LINK_STAT := by
  cases he : s.pcie.laneEvent with
  | true =>
    obtain ⟨args, hx⟩ := laneReport_of_event he
    have hq : Quiet (noteLane s) s.laneReport := hx ▸ (Quiet.refl _).event
    have ha : Announced (noteLane s) s.laneReport := hx ▸ (Announced.refl _).event
    exact ⟨ha.link.link, ha.link.laneEvent, ha.link.failClr, hq.regs _ (by unfold EventReg; decide)⟩
  | false =>
    rw [laneReport_of_none he]
    exact ⟨rfl, he, rfl, rfl⟩

/-- FAIL_CLR as written clears LANE_FAIL at a training. -/
def clearFails (s : State) : State :=
  if s.pcie.failClr then { (s.setFld .HIF_LINK_STAT_LANE_FAIL 0) with pcie := { s.pcie with failClr := false } } else s

theorem clearFails_spec (s : State) : (clearFails s).pcie.failClr = false ∧
    (s.pcie.failClr = true → (clearFails s).fld .HIF_LINK_STAT_LANE_FAIL = 0) ∧
    (s.pcie.failClr = false → clearFails s = s) := by
  unfold clearFails
  split
  · next h =>
    exact ⟨rfl, fun _ => fld_setFld_self s .HIF_LINK_STAT_LANE_FAIL 0 (by decide) (by decide),
      fun h' => absurd h' (by rw [h]; decide)⟩
  · next h => exact ⟨by simpa using h, fun h' => absurd h' h, fun _ => rfl⟩

theorem exec_linkUp_of_trains {s u : State} {dt : Nat} {lanes : List Bool} {speed : Fin 5} (hu : u = s.advance dt)
    (hl : u.pcie.link = .training ∨ u.pcie.link = .retraining ∨ u.pcie.link = .l2) : exec (.linkUp dt lanes speed) s = .next
      (match linkWidth ((clearFails u).goodLanes lanes) with
      | some (w, rev) => ((clearFails u).linkTrained w rev (max 1 speed.val)).laneReport
      | none => clearFails u) := by
  subst hu
  exact congrArg Host.Outcome.next (if_pos hl)

theorem linkWidth_lt {l : List Bool} {w : Nat} {rev : Bool} (h : linkWidth l = some (w, rev)) : w < 8 := by
  unfold linkWidth at h
  split at h <;> simp only [Option.some.injEq, Prod.mk.injEq, reduceCtorEq] at h <;> omega

/-! ## HIF_LINK_CFG -/

theorem bitOf_getBits_low (v : Nat) {hi i : Nat} (h : i ≤ hi) : bitOf (getBits v hi 0) i = bitOf v i := by
  rw [bitOf_eq_testBit, bitOf_eq_testBit, getBits, pow_zero, Nat.div_one, Nat.testBit_mod_two_pow]
  simp only [Bool.and_eq_right_iff_imp, decide_eq_true_eq]
  omega

/-- The state after LANE_DIS and FAIL_CLR are written. -/
def writeLanes (s : State) (v : Nat) : State :=
  let s1 := if bitOf v 0 && bitOf v 3 then s else s.setFld .HIF_LINK_CFG_LANE_DIS (getBits v 3 0)
  if bitOf v 9 then { s1 with pcie := { s1.pcie with failClr := true } } else s1

theorem linkCfgWrite_eq (s : State) (v : Nat) :
    s.linkCfgWrite v = if bitOf v 8 then (writeLanes s v).retrain else writeLanes s v := by
  unfold State.linkCfgWrite writeLanes
  dsimp only
  rw [bitOf_getBits_low v (by decide), bitOf_getBits_low v (by decide)]

theorem writeLanes_spec (s : State) (v : Nat) : (writeLanes s v).pcie.link = s.pcie.link ∧
    (writeLanes s v).pcie.failClr = (s.pcie.failClr || bitOf v 9) ∧
    (writeLanes s v).fld .HIF_LINK_CFG_LANE_DIS =
      (if bitOf v 0 && bitOf v 3 then s.fld .HIF_LINK_CFG_LANE_DIS else getBits v 3 0) ∧
    RegsKept s (writeLanes s v) (· = Reg.HIF_LINK_CFG) := by
  unfold writeLanes
  extract_lets s1
  have hl : s1.pcie = s.pcie := by
    simp only [s1]
    split <;> rfl
  have hk : RegsKept s s1 (· = Reg.HIF_LINK_CFG) := .branch (.refl s _) ((RegsKept.refl s _).setFld rfl)
  have hd : s1.fld .HIF_LINK_CFG_LANE_DIS =
      (if bitOf v 0 && bitOf v 3 then s.fld .HIF_LINK_CFG_LANE_DIS else getBits v 3 0) := by
    simp only [s1]
    split
    · rfl
    · rw [fld_setFld_self _ _ _ (by decide) (by decide)]
      exact Nat.mod_eq_of_lt (Nat.mod_lt _ (by decide))
  cases bitOf v 9 with
  | true => exact ⟨(congrArg Pcie.link hl :), (Bool.or_true _).symm, hd, hk⟩
  | false => exact ⟨congrArg Pcie.link hl, (congrArg Pcie.failClr hl).trans (Bool.or_false _).symm, hd, hk⟩

/-- LINK_RETRAIN writes HIF_LINK_CFG with RETRAIN set. -/
theorem writeLanes_retrain (s : State) (v : Nat) : writeLanes s (putBit v 8 true) = writeLanes s v := by
  unfold writeLanes
  rw [bitOf_putBit_ne v 8 0 true (by decide), bitOf_putBit_ne v 8 3 true (by decide),
    bitOf_putBit_ne v 8 9 true (by decide), show getBits (putBit v 8 true) 3 0 = getBits v 3 0 from
      getBits_putBits_apart v 8 8 _ 3 0 (by decide) (.inl (by decide))]

/-- The link retrains. -/
def beginRetrain (s : State) : State :=
  { (s.count .HIF_LINK_STAT_RETRAINS 1) with pcie := { s.pcie with link := .retraining } }

theorem beginRetrain_regs (s : State) : (beginRetrain s).regs = (s.count .HIF_LINK_STAT_RETRAINS 1).regs := rfl

theorem linkCfgWrite_retrain {s : State} (v : Nat) (h : s.pcie.link = .up) :
    s.linkCfgWrite (putBit v 8 true) = beginRetrain (writeLanes s v) := by
  rw [linkCfgWrite_eq, bitOf_putBit_self, if_pos rfl, writeLanes_retrain, State.retrain,
    if_pos ((writeLanes_spec s v).1.trans h)]
  rfl

theorem retrain_spec {s : State} (v : Nat) (h : s.pcie.link = .up) {t : State} (ht : t = s.linkCfgWrite (putBit v 8 true)) :
    t.pcie.link = .retraining ∧
    t.fld .HIF_LINK_STAT_RETRAINS = min 255 (s.fld .HIF_LINK_STAT_RETRAINS + 1) ∧
    t.fld .HIF_LINK_CFG_LANE_DIS =
      (if bitOf v 0 && bitOf v 3 then s.fld .HIF_LINK_CFG_LANE_DIS else getBits v 3 0) ∧
    t.pcie.failClr = (s.pcie.failClr || bitOf v 9) ∧
    RegsKept s t (fun a => a = Reg.HIF_LINK_CFG ∨ a = Reg.HIF_LINK_STAT) := by
  obtain ⟨-, hclr, hdis, hkept⟩ := writeLanes_spec s v
  rw [ht, linkCfgWrite_retrain v h]
  generalize writeLanes s v = u at hclr hdis hkept
  have hregs := beginRetrain_regs u
  have hstat : RegsKept u (u.count .HIF_LINK_STAT_RETRAINS 1) (· = Reg.HIF_LINK_STAT) := (RegsKept.refl u _).count rfl
  refine ⟨rfl, ?_, ?_, hclr, fun a ha => ?_⟩
  · rw [fld_congr hregs, fld_count_self u .HIF_LINK_STAT_RETRAINS 1 (by decide) (by decide), hkept.fld (by decide)]
    rfl
  · rw [fld_congr hregs, hstat.fld (by decide), hdis]
  · rw [reg_congr hregs, hstat a fun e => ha (.inr e), hkept a fun e => ha (.inl e)]

/-- LANE_FAIL_CLR writes HIF_LINK_CFG with FAIL_CLR set. -/
theorem linkCfgWrite_failClr {s : State} {v : Nat} (h : bitOf v 8 = false) {t : State}
    (ht : t = s.linkCfgWrite (putBit v 9 true)) :
    t.pcie.failClr = true ∧ t.pcie.link = s.pcie.link ∧ RegsKept s t (· = Reg.HIF_LINK_CFG) := by
  obtain ⟨hlink, hclr, -, hkept⟩ := writeLanes_spec s (putBit v 9 true)
  rw [ht, linkCfgWrite_eq, bitOf_putBit_ne v 9 8 true (by decide), h, if_neg Bool.false_ne_true]
  exact ⟨hclr.trans (by rw [bitOf_putBit_self, Bool.or_true]), hlink, hkept⟩

end Sys2Proof.Safety
end

section
/-! PROOF. Correctable errors, and the unmasking of a vector. -/

namespace Sys2Proof.Safety

open Sys2Proof.Machine

/-! ## Correctable errors -/

/-- `t` has the registers, the spares and the time of `s`. -/
structure SameCharges (s t : State) : Prop where
  regs : t.regs = s.regs
  spares : t.spares = s.spares
  now : t.now = s.now

theorem SameCharges.refl (s : State) : SameCharges s s := ⟨rfl, rfl, rfl⟩

theorem SameCharges.free {s t : State} (h : SameCharges s t) : SameCharges s t.free.2 := ⟨h.regs, h.spares, h.now⟩

theorem SameCharges.setFn {s t : State} (h : SameCharges s t) {i f} : SameCharges s (t.setFn i f) :=
  ⟨h.regs, h.spares, h.now⟩

theorem SameCharges.reportCorrectable {s t : State} (h : SameCharges s t) {i bit} :
    SameCharges s (t.reportCorrectable i bit) := ⟨h.regs, h.spares, h.now⟩

/-- A correctable error is reported on the link only. -/
theorem linkError_kept (s : State) (lane : Option (Fin 4)) : SameCharges s (s.linkError lane) := by
  unfold State.linkError
  have hf := (SameCharges.refl s).free
  generalize s.free = p at hf
  dsimp only
  split
  · exact hf.reportCorrectable.reportCorrectable.setFn
  · exact hf.reportCorrectable.reportCorrectable

/-- What the windows of the fault sources rest on. -/
structure SameWindows (s t : State) : Prop where
  spares : t.spares = s.spares
  now : t.now = s.now
  cfg : t.reg (Reg.FLT_SRC_CFG 6) = s.reg (Reg.FLT_SRC_CFG 6)

theorem SameWindows.fltN {s t : State} (h : SameWindows s t) : t.fltN 7 = s.fltN 7 :=
  fld_of_reg (f := .FLT_SRC_CFG_N 6) h.cfg

theorem SameWindows.bucket {s t : State} (h : SameWindows s t) : t.bucket 7 0 = s.bucket 7 0 := by
  have hw : t.fltW 7 = s.fltW 7 := congrArg (10000000 * ·) (fld_of_reg (f := .FLT_SRC_CFG_W 6) h.cfg)
  unfold State.bucket
  rw [h.spares, h.now, hw]

/-- A charge of PCIE_CORR short of a lasting fault counts, and changes no other register. -/
theorem charge_pcieCorr {s u : State} (hs : SameWindows u s)
    (h : u.fltN 7 = 0 ∨ (u.bucket 7 0).length + 1 < u.fltN 7) :
    (s.charge 7 0).regs = (s.count (.FLT_SRC_EVT_COUNT 6) 1).regs := by
  have hc : SameWindows u (s.count (.FLT_SRC_EVT_COUNT 6) 1) :=
    ⟨(State.count_spares ..).trans hs.spares, (State.count_now ..).trans hs.now, (reg_setReg_ne _ _ (by decide)).trans hs.cfg⟩
  have hb := hc.bucket
  have hn := hs.fltN
  unfold State.charge State.chargeFor
  extract_lets s1 n b
  have hn1 : n = u.fltN 7 := hn
  have hb1 : b.length = (u.bucket 7 0).length + 1 := by
    simp only [b, List.length_append, List.length_singleton]
    exact congrArg (·.length + 1) hb
  split
  · rfl
  · next hlive =>
    have hzero : n ≠ 0 := fun e => hlive (by rw [decide_eq_true e]; rfl)
    rw [if_neg (by omega)]
    rfl

/-- The counter of a lane in HIF_LANE_ERR. -/
def laneErrs (l : Fin 4) : Fld := ⟨Reg.HIF_LANE_ERR, 8 * l.val + 7, 8 * l.val⟩

/-- The receiver errors of the lanes are replaced. -/
def withLaneErrs (s : State) (l : List (Nat × Nat)) : State := { s with pcie := { s.pcie with laneErrs := l } }

theorem withLaneErrs_kept (s : State) (l : List (Nat × Nat)) : SameCharges s (withLaneErrs s l) := ⟨rfl, rfl, rfl⟩

/-- The lane of a receiver error counts it. -/
def noteLaneError (s : State) (l : Fin 4) : State :=
  withLaneErrs (s.count (laneErrs l) 1)
    ((s.pcie.laneErrs.filter fun (e : Nat × Nat) => s.now - e.2 < s.fltW 7) ++ [(l.val, s.now)])

theorem noteLaneError_kept (s : State) (l : Fin 4) : SameCharges (s.count (laneErrs l) 1) (noteLaneError s l) :=
  withLaneErrs_kept _ _

section
variable {s u : State} {dt : Nat} (hu : u = s.advance dt) (hl : u.pcie.link ≠ .down) (hr : u.inReset = false)
  (ho : u.off = false)
include hu hl hr ho

theorem exec_pcieCorrectableError_of_lane (l : Fin 4) :
    exec (.pcieCorrectableError dt (some l)) s = .next ((noteLaneError (u.linkError (some l)) l).charge 7 0) := by
  subst hu
  exact congrArg Host.Outcome.next (if_neg (by rw [decide_eq_false hl, hr, ho]; decide))

theorem exec_pcieCorrectableError_of_none :
    exec (.pcieCorrectableError dt none) s = .next ((u.linkError none).charge 7 0) := by
  subst hu
  exact congrArg Host.Outcome.next (if_neg (by rw [decide_eq_false hl, hr, ho]; decide))

end

/-- A charge that counts on top of a state with known registers. -/
theorem charge_counts {s u t : State} {p : Nat → Prop} (hs : SameWindows u s)
    (h : u.fltN 7 = 0 ∨ (u.bucket 7 0).length + 1 < u.fltN 7) (hp : ¬ p (Fld.FLT_SRC_EVT_COUNT 6).addr)
    (hk : RegsKept u s p) (ht : t = s.charge 7 0) :
    t.fld (.FLT_SRC_EVT_COUNT 6) =
      satAdd (Fld.FLT_SRC_EVT_COUNT 6).width (u.fld (.FLT_SRC_EVT_COUNT 6)) 1 ∧
    RegsKept s t (· = (Fld.FLT_SRC_EVT_COUNT 6).addr) := by
  have hregs : t.regs = (s.count (.FLT_SRC_EVT_COUNT 6) 1).regs := ht ▸ charge_pcieCorr hs h
  refine ⟨?_, fun a ha => ?_⟩
  · rw [fld_congr hregs, fld_count_self s (.FLT_SRC_EVT_COUNT 6) 1 (by decide) (by decide), hk.fld hp]
    rfl
  · rw [reg_congr hregs]
    exact (RegsKept.refl s (· = (Fld.FLT_SRC_EVT_COUNT 6).addr)).count (f := .FLT_SRC_EVT_COUNT 6) rfl a ha

theorem laneErrs_width (l : Fin 4) : (laneErrs l).width = 8 := by
  dsimp only [Fld.width, laneErrs]
  omega

theorem fld_noteLaneError (s : State) (l : Fin 4) :
    (noteLaneError s l).fld (laneErrs l) = min 255 (s.fld (laneErrs l) + 1) := by
  refine (fld_congr (noteLaneError_kept s l).regs _).trans
    ((fld_count_self s (laneErrs l) 1 (by dsimp only [laneErrs]; omega) (by dsimp only [laneErrs]; omega)).trans ?_)
  rw [laneErrs_width]
  rfl

theorem regsKept_noteLaneError (s : State) (l : Fin 4) : RegsKept s (noteLaneError s l) (· = Reg.HIF_LANE_ERR) :=
  fun a ha => (reg_congr (noteLaneError_kept s l).regs a).trans (reg_setReg_ne s _ ha)

theorem pcieCorrectableError_lane {u t : State} (l : Fin 4) (h : u.fltN 7 = 0 ∨ (u.bucket 7 0).length + 1 < u.fltN 7)
    (ht : t = (noteLaneError (u.linkError (some l)) l).charge 7 0) :
    t.fld (laneErrs l) = min 255 (u.fld (laneErrs l) + 1) ∧
    t.fld (.FLT_SRC_EVT_COUNT 6) = satAdd (Fld.FLT_SRC_EVT_COUNT 6).width (u.fld (.FLT_SRC_EVT_COUNT 6)) 1 ∧
    RegsKept u t (fun a => a = Reg.HIF_LANE_ERR ∨ a = (Fld.FLT_SRC_EVT_COUNT 6).addr) := by
  obtain ⟨hregs, hspares, hnow⟩ := linkError_kept u (some l)
  generalize u.linkError (some l) = v at hregs hspares hnow ht
  have hkept : RegsKept u (noteLaneError v l) (· = Reg.HIF_LANE_ERR) := fun a ha =>
    (regsKept_noteLaneError v l a ha).trans (reg_congr hregs a)
  have hcounted : (noteLaneError v l).fld (laneErrs l) = min 255 (u.fld (laneErrs l) + 1) := by
    rw [fld_noteLaneError, fld_congr hregs]
  have hs : (noteLaneError v l).spares = v.spares := (noteLaneError_kept v l).spares.trans (State.count_spares ..)
  have hn : (noteLaneError v l).now = v.now := (noteLaneError_kept v l).now.trans (State.count_now ..)
  generalize noteLaneError v l = w at hkept hcounted hs hn ht
  obtain ⟨hcount, hrest⟩ := charge_counts (p := (· = Reg.HIF_LANE_ERR))
    ⟨hs.trans hspares, hn.trans hnow, hkept _ (by decide)⟩ h (by decide) hkept ht
  refine ⟨?_, hcount, fun a ha => (hrest a fun e => ha (.inr e)).trans (hkept a fun e => ha (.inl e))⟩
  exact (hrest.fld (f := laneErrs l) (by dsimp only [laneErrs]; decide)).trans hcounted

theorem pcieCorrectableError_none {u t : State} (h : u.fltN 7 = 0 ∨ (u.bucket 7 0).length + 1 < u.fltN 7)
    (ht : t = (u.linkError none).charge 7 0) :
    t.fld (.FLT_SRC_EVT_COUNT 6) = satAdd (Fld.FLT_SRC_EVT_COUNT 6).width (u.fld (.FLT_SRC_EVT_COUNT 6)) 1 ∧
    RegsKept u t (· = (Fld.FLT_SRC_EVT_COUNT 6).addr) := by
  obtain ⟨hregs, hspares, hnow⟩ := linkError_kept u none
  generalize u.linkError none = v at hregs hspares hnow ht
  have hkept : RegsKept u v (fun _ => False) := fun a _ => reg_congr hregs a
  obtain ⟨hcount, hrest⟩ := charge_counts (p := fun _ => False) ⟨hspares, hnow, hkept _ id⟩ h id hkept ht
  exact ⟨hcount, fun a ha => (hrest a ha).trans (hkept a id)⟩

/-! ## MSIX_VECTOR_UNMASK -/

/-- A function whose vector takes an entry. -/
def withVector (f : PciFn) (v : Nat) (e : MsixEntry) : PciFn :=
  { f with vectors := f.vectors.set (fun _ => MsixEntry.init) v e }

theorem vector_withVector (f : PciFn) (v : Nat) (e : MsixEntry) : (withVector f v e).vector v = e :=
  Store.get_set_self _ _ _ _

/-- A pending bit is cleared. -/
def clearPba (f : PciFn) (v : Nat) : PciFn := { f with pba := f.pba.set (fun _ => false) v false }

theorem pba_clearPba (f : PciFn) (v : Nat) : (clearPba f v).pba.get (fun _ => false) v = false :=
  Store.get_set_self (fun _ => false) f.pba v false

theorem sendIfPending_of_none {s : State} {i v : Nat} (h : (s.fn i).pba.get (fun _ => false) v = false) :
    s.sendIfPending i v = s := if_neg (by rw [h, Bool.false_and, Bool.false_and]; decide)

theorem sendIfPending_of_pending {s : State} {i v : Nat} (hp : (s.fn i).pba.get (fun _ => false) v = true)
    (hm : (s.fn i).masked v = false) (hc : s.canSignal i = true) :
    s.sendIfPending i v = (s.setFn i (clearPba (s.fn i) v)).sendVector i v := if_pos (by rw [hp, hm, hc]; rfl)

theorem vector_sendIfPending (s : State) (i v : Nat) : ((s.sendIfPending i v).fn i).vector v = (s.fn i).vector v := by
  unfold State.sendIfPending
  split
  · exact (congrArg (PciFn.vector · v) (fn_setFn_self s i (clearPba (s.fn i) v)) :)
  · rfl

theorem sent_sendVector {s : State} (i v : Nat) (h : s.pcie.link = .up) : (s.sendVector i v).sent =
    .msix i v (((s.fn i).vector v).addrLo.toNat + 2 ^ 32 * ((s.fn i).vector v).addrHi.toNat) ((s.fn i).vector v).data ::
      s.sent := by
  refine if_pos ?_
  rw [h]
  decide

theorem canSignal_setFn (s : State) (i v : Nat) (e : MsixEntry) :
    (s.setFn i (withVector (s.fn i) v e)).canSignal i = s.canSignal i := by
  unfold State.canSignal
  rw [fn_setFn_self]
  rfl

theorem link_setFn (s : State) (i : Nat) (f : PciFn) : (s.setFn i f).pcie.link = s.pcie.link := by
  unfold State.setFn
  dsimp only
  split <;> rfl

theorem setVector_eq (s : State) (i v : Nat) (e : MsixEntry) :
    s.setVector i v e = (s.setFn i (withVector (s.fn i) v e)).sendIfPending i v := rfl

/-- An unmasked vector with a pending bit sends its message and clears the bit. -/
theorem setVector_unmask (u : State) (i v : Nat) {e : MsixEntry} (he : e.control = 0) :
    (((u.setVector i v e).fn i).vector v).control = 0 ∧ (u.setVector i v e).regs = u.regs ∧
    ((u.fn i).pba.get (fun _ => false) v = true → u.canSignal i = true →
      ((u.setVector i v e).fn i).pba.get (fun _ => false) v = false ∧
      (u.pcie.link = .up → (u.setVector i v e).sent =
        .msix i v (e.addrLo.toNat + 2 ^ 32 * e.addrHi.toNat) e.data :: u.sent)) ∧
    ((u.fn i).pba.get (fun _ => false) v = false → (u.setVector i v e).sent = u.sent) := by
  have hx := setVector_eq u i v e
  have hfn : (u.setFn i (withVector (u.fn i) v e)).fn i = withVector (u.fn i) v e := fn_setFn_self u i _
  have hvec : ((u.setFn i (withVector (u.fn i) v e)).fn i).vector v = e := by rw [hfn, vector_withVector]
  have hpba : ((u.setFn i (withVector (u.fn i) v e)).fn i).pba = (u.fn i).pba := by
    rw [hfn]
    rfl
  have hcan := canSignal_setFn u i v e
  have hlink := link_setFn u i (withVector (u.fn i) v e)
  have hregs : (u.setFn i (withVector (u.fn i) v e)).regs = u.regs := rfl
  have hsent : (u.setFn i (withVector (u.fn i) v e)).sent = u.sent := rfl
  rw [hx]
  generalize u.setFn i (withVector (u.fn i) v e) = t at hvec hpba hcan hlink hregs hsent
  refine ⟨?_, (Posted.refl t).sendIfPending.regs.trans hregs, fun hp hc => ?_, fun hp => ?_⟩
  · rw [vector_sendIfPending, hvec, he]
  · have hmask : (t.fn i).masked v = false := by
      rw [PciFn.masked, hvec, he]
      decide
    rw [sendIfPending_of_pending (hpba ▸ hp) hmask (hcan.trans hc)]
    have hclr : (t.setFn i (clearPba (t.fn i) v)).fn i = clearPba (t.fn i) v := fn_setFn_self t i _
    refine ⟨?_, fun hup => ?_⟩
    · exact (congrArg (fun f : PciFn => f.pba.get (fun _ => false) v) hclr).trans (pba_clearPba (t.fn i) v)
    · rw [sent_sendVector i v ((link_setFn t i _).trans (hlink.trans hup)), hclr]
      have hv : (clearPba (t.fn i) v).vector v = e := hvec
      rw [hv, ← hsent]
      rfl
  · rw [sendIfPending_of_none (hpba ▸ hp), hsent]

/-- The host clears the mask of a vector. -/
def unmaskVector (s : State) (i v : Nat) : State := s.setVector i v { (s.fn i).vector v with control := 0 }

theorem exec_msixVectorUnmask_of_accessible {s : State} {i : Fin 2} {vec : Fin 64} (hv : vec.val < fnVectors i.val)
    (h : s.barOk i.val = true) : exec (.msixVectorUnmask i vec) s =
      .next (unmaskVector (if i = 0 then s.hostActivity else s) i.val vec.val) := by
  refine congrArg Host.Outcome.next ((if_pos hv).trans ?_)
  match i with
  | 0 => exact pf0Write_accessible h (unmaskVector · 0 vec.val)
  | 1 => exact pf1Write_accessible h (unmaskVector · 1 vec.val)

end Sys2Proof.Safety
end

section
/-! PROOF. The link trains, and functions reset. -/

namespace Sys2Proof.Safety

open Sys2Proof.Machine

/-- LINK_UP with enough good lanes, and no FAIL_CLR. -/
theorem linkUp_trained {s u : State} {dt : Nat} {lanes : List Bool} {speed : Fin 5} {w : Nat} {rev : Bool}
    (hu : u = s.advance dt) (hl : u.pcie.link = .training ∨ u.pcie.link = .retraining ∨ u.pcie.link = .l2)
    (hclr : u.pcie.failClr = false) (hw : linkWidth (u.goodLanes lanes) = some (w, rev)) :
    ∃ t, exec (.linkUp dt lanes speed) s = .next t ∧ t.pcie.link = .up ∧ t.fld .HIF_LINK_STAT_WIDTH = w ∧
      t.flag .HIF_LINK_STAT_REVERSED = rev ∧ t.fld .HIF_LINK_STAT_SPEED = max 1 speed.val ∧
      t.pcie.laneEvent = false ∧ (u.pcie.laneEvent = false → RegsKept u t (· = Reg.HIF_LINK_STAT)) := by
  obtain ⟨-, -, hsame⟩ := clearFails_spec u
  have hx : exec (.linkUp dt lanes speed) s = .next (u.linkTrained w rev (max 1 speed.val)).laneReport := by
    rw [exec_linkUp_of_trains hu hl, hsame hclr, hw]
  have ht := linkTrained_spec u rev (linkWidth_lt hw) (show max 1 speed.val < 8 by omega)
  obtain ⟨hlink, hevent, -, hstat⟩ := laneReport_spec (u.linkTrained w rev (max 1 speed.val))
  refine ⟨_, hx, hlink.trans ht.link, (fld_of_reg (f := .HIF_LINK_STAT_WIDTH) hstat).trans ht.width, ?_,
    (fld_of_reg (f := .HIF_LINK_STAT_SPEED) hstat).trans ht.speed, hevent, fun he => ?_⟩
  · exact (flag_of_reg (f := .HIF_LINK_STAT_REVERSED) hstat).trans ht.reversed
  · rw [laneReport_of_none (ht.laneEvent.trans he)]
    exact ht.regs

/-- LINK_UP with FAIL_CLR written. -/
theorem linkUp_clears {s u : State} {dt : Nat} {lanes : List Bool} {speed : Fin 5}
    (hu : u = s.advance dt) (hl : u.pcie.link = .training ∨ u.pcie.link = .retraining ∨ u.pcie.link = .l2)
    (hclr : u.pcie.failClr = true) : ∃ t, exec (.linkUp dt lanes speed) s = .next t ∧ t.pcie.failClr = false ∧
      t.fld .HIF_LINK_STAT_LANE_FAIL = 0 := by
  obtain ⟨hoff, hfail, -⟩ := clearFails_spec u
  refine ⟨_, exec_linkUp_of_trains hu hl, ?_⟩
  split
  · next w rev hw =>
    have ht := linkTrained_spec (clearFails u) rev (linkWidth_lt hw) (show max 1 speed.val < 8 by omega)
    obtain ⟨-, -, hkept, hstat⟩ := laneReport_spec ((clearFails u).linkTrained w rev (max 1 speed.val))
    exact ⟨hkept.trans (ht.failClr.trans hoff),
      (fld_of_reg (f := .HIF_LINK_STAT_LANE_FAIL) hstat).trans (ht.laneFail.trans (hfail hclr))⟩
  · exact ⟨hoff, hfail hclr⟩

/-- The resets and power states of the functions, with the link up. -/
theorem exec_of_cfgOk {s : State} (h : s.cfgOk = true) (i : Fin 2) :
    exec (.functionLevelReset i) s = .next (s.functionReset i.val) ∧
    exec (.busMasterDisable i) s = .next (s.busMasterOff i.val) ∧ exec (.d3hotEntry i) s = .next (s.enterD3hot i.val) ∧
    exec (.d0Return i) s = .next (s.returnD0 i.val) :=
  ⟨congrArg _ (if_pos h), congrArg _ (if_pos h), congrArg _ (if_pos h), congrArg _ (if_pos h)⟩

/-- A cleared Bus Master Enable of either function. -/
theorem busMasterOff_spec {s : State} (i : Fin 2) (h : (s.fn i.val).busMaster = true) :
    ((s.busMasterOff i.val).fn i.val).busMaster = false ∧ (s.busMasterOff i.val).fn (1 - i.val) = s.fn (1 - i.val) ∧
    (∀ n, n < 34 → ringFn n = i.val → ((s.busMasterOff i.val).ring n).enabled = false) ∧
    (i = 0 → (s.busMasterOff i.val).groups = [] ∧ (s.busMasterOff i.val).loads = [] ∧
      RingBlockReset s (s.busMasterOff i.val)) ∧
    (i = 1 → ∀ a, 0x20000 ≤ a → a < 0x20800 → (s.busMasterOff i.val).reg a = regReset a) ∧
    (s.busMasterOff i.val).fld .HIF_RESET_STAT_BME_OFF =
      satAdd Fld.HIF_RESET_STAT_BME_OFF.width (s.fld .HIF_RESET_STAT_BME_OFF) 1 := by
  match i with
  | 0 =>
    obtain ⟨hoff, hother, hrings, hgroups, hloads, hblock, hcount⟩ := busMasterOff_f0 h
    exact ⟨hoff, hother, fun n _ hn => hrings n (ringFn_eq_zero hn), fun _ => ⟨hgroups, hloads, hblock⟩,
      fun hi => absurd hi (by decide), hcount⟩
  | 1 =>
    obtain ⟨hoff, hother, hrings, hmail, hcount⟩ := busMasterOff_f1 h
    exact ⟨hoff, hother, fun n _ hn => hrings n (ringFn_eq_one hn), fun hi => absurd hi (by decide), fun _ => hmail, hcount⟩

/-- What the loss of the link leaves, as the statement has it. -/
theorem LinkGone.parts {u t : State} {next : LinkState} {perst : Bool} (h : LinkGone u t next perst) :
    t.fn 0 = PciFn.init ∧ t.fn 1 = PciFn.init ∧ t.fld .HIF_LINK_STAT_SPEED = 0 ∧
    t.fld .HIF_LINK_STAT_WIDTH = u.fld .HIF_LINK_STAT_WIDTH ∧ (∀ n, n < 34 → (t.ring n).enabled = false) ∧
    t.groups = [] ∧ t.loads = [] ∧ RingBlockReset u t ∧ (∀ a, 0x20000 ≤ a → a < 0x20800 → t.reg a = regReset a) ∧
    t.fld .HIF_RESET_STAT_LINK_RST =
      satAdd Fld.HIF_RESET_STAT_LINK_RST.width (u.fld .HIF_RESET_STAT_LINK_RST) 1 :=
  ⟨(fn_zero t).trans h.f0, (fn_one t).trans h.f1, h.speed, h.width, fun n _ => congrArg Ring.enabled (h.rings n),
    h.groups, h.loads, h.ringBlock, h.mailbox, h.resets⟩

/-- The device in L2. -/
theorem enterL2_spec (u : State) {t : State} (ht : t = u.enterL2) : t.pcie.link = .l2 ∧ t.fld .HIF_LINK_STAT_SPEED = 0 ∧
    (∀ i, i < 2 → t.fn i = keepPme (u.fn i)) ∧ (∀ n, n < 34 → (t.ring n).enabled = false) ∧ t.groups = [] ∧
    t.loads = [] ∧ RingBlockReset u t ∧ (∀ a, 0x20000 ≤ a → a < 0x20800 → t.reg a = regReset a) ∧
    t.fld .HIF_RESET_STAT_LINK_RST =
      satAdd Fld.HIF_RESET_STAT_LINK_RST.width (u.fld .HIF_RESET_STAT_LINK_RST) 1 := by
  rw [ht, enterL2_eq]
  have h := lostToL2_gone u
  generalize lostToL2 u = v at h
  obtain ⟨-, -, hspeed, -, hrings, hgroups, hloads, hblock, hmail, hresets⟩ := h.parts
  refine ⟨(link_setFn _ _ _).trans ((link_setFn _ _ _).trans h.link), hspeed, fun i hi => ?_, hrings, hgroups, hloads,
    hblock, hmail, hresets⟩
  have hcases : i = 0 ∨ i = 1 := by omega
  rcases hcases with rfl | rfl
  · rfl
  · rfl

/-- Settles O43: each command comes down to a function of the link or of a PCIe function, whose effects the lemmas above
state. -/
theorem linkTrainsAndFunctionsReset : Obligations.LinkTrainsAndFunctionsReset := by
  refine ⟨?_, ?_, ?_, ?_, ?_, ?_, ?_, ?_⟩
  · intro s dt u hp hr ho hm
    exact ⟨_, exec_perstNRelease_of_low rfl hp hr ho hm, rfl, rfl, rfl⟩
  · intro s dt lanes speed u hl
    exact ⟨fun w rev hclr hw => linkUp_trained rfl hl hclr hw, linkUp_clears rfl hl⟩
  · intro s v hok u
    refine ⟨fun hl => ?_, fun hv => ?_⟩
    · exact ⟨_, congrArg Host.Outcome.next (pf0Write_accessible hok _), retrain_spec v.toNat hl rfl⟩
    · exact ⟨_, congrArg Host.Outcome.next (pf0Write_accessible hok _), linkCfgWrite_failClr hv rfl⟩
  · intro s dt lane u f hl hr ho hb
    refine ⟨⟨_, exec_pcieCorrectableError_of_lane rfl hl hr ho lane, pcieCorrectableError_lane lane hb rfl⟩,
      ⟨_, exec_pcieCorrectableError_of_none rfl hl hr ho, pcieCorrectableError_none hb rfl⟩⟩
  · intro s hok
    have hx := exec_of_cfgOk hok
    refine ⟨⟨_, (hx 0).1, functionReset_f0 s⟩, ⟨_, (hx 1).1, functionReset_f1 s⟩, fun i h => ?_, fun i h => ?_, fun i h => ?_⟩
    · obtain ⟨-, hb, -, -⟩ := hx i
      exact ⟨_, hb, busMasterOff_spec i h⟩
    · obtain ⟨-, -, hd3, -⟩ := hx i
      obtain ⟨hin, hregs, hbufs⟩ := enterD3hot_spec i.val h
      exact ⟨_, hd3, hin, hregs, fun hi => hbufs (congrArg Fin.val hi)⟩
    · obtain ⟨-, -, -, hd0⟩ := hx i
      exact ⟨_, hd0, returnD0_spec i.val h⟩
  · intro s dt kind u hr ho hm hp hl
    by_cases hk : kind = .perstN
    · subst hk
      have h := linkReset_gone u .down true
      exact ⟨_, exec_hotReset_of_perstN rfl hr ho hm, h.link, h.perst, h.parts⟩
    · have h := retrainCounted_gone u .training false
      rw [if_neg hk, if_neg hk]
      exact ⟨_, exec_hotReset_of_trains rfl hr ho hm hk (hp.resolve_left hk) hl, h.link, h.perst, h.parts⟩
  · intro s dt u hr ho hm hp hl h0 h1
    exact ⟨_, exec_hotReset_of_l2 rfl hr ho hm hp hl h0 h1, enterL2_spec u rfl⟩
  · intro s i vec hv hok u e
    exact ⟨_, exec_msixVectorUnmask_of_accessible hv hok, setVector_unmask u i.val vec.val (e := { e with control := 0 }) rfl⟩

end Sys2Proof.Safety
end

section
/-! PROOF. What the work of a start and of a shutdown leaves alone.

Pins and engines (`Pinned`), the sequences of the NVM (`Burned`), and all that the start and the Moult call (`SameBoot`) keep
the state of reset and power, the boot count, the life cycle and the latest Moult. As before there is one lemma per function of
the model, named after it, whose proof is the composition itself. -/

namespace Sys2Proof.Safety

-- The many small side goals below, elaborated in parallel, would take more threads than the memory limit allows.
set_option Elab.async false

open Sys2Proof.Machine

/-! ## Pins and engines -/

/-- A state without its pins, outputs, timebase units and Weevil engines. -/
def pinless (s : State) : State :=
  { s with
    pins := [], wvPins := [], fireflies := [], trigOuts := [], tbu := State.reset.tbu, engines := [], wvRoles := [] }

/-- `s` differs from `s₀` at most in pins, outputs, timebase units and Weevil engines. -/
def Pinned (s₀ s : State) : Prop := pinless s = pinless s₀

theorem Pinned.refl (s : State) : Pinned s s := rfl

theorem Pinned.nvm {s₀ s : State} (h : Pinned s₀ s) : s.nvm = s₀.nvm := (congrArg State.nvm h :)
theorem Pinned.off {s₀ s : State} (h : Pinned s₀ s) : s.off = s₀.off := (congrArg State.off h :)
theorem Pinned.power {s₀ s : State} (h : Pinned s₀ s) : s.power = s₀.power := (congrArg State.power h :)

theorem Pinned.branch {s₀ s t : State} {c : Prop} {inst : Decidable c} (hs : Pinned s₀ s) (ht : Pinned s₀ t) :
    Pinned s₀ (if c then s else t) := by split <;> assumption

/-- A fold over a state. -/
theorem Pinned.foldl {β : Type} {s₀ s : State} {f : State → β → State} {l : List β} (h : Pinned s₀ s)
    (hf : ∀ {t x}, Pinned s₀ t → Pinned s₀ (f t x)) : Pinned s₀ (l.foldl f s) :=
  List.foldlRecOn l f (motive := Pinned s₀) h fun _ ht _ _ => hf ht

section
variable {s₀ s : State} (h : Pinned s₀ s)
include h

theorem Pinned.putPin {n b} : Pinned s₀ (s.putPin n b) := h
theorem Pinned.setTbu {x} : Pinned s₀ { s with tbu := x } := h
theorem Pinned.setPin {n b} : Pinned s₀ (s.setPin n b) := h.putPin.setTbu
theorem Pinned.modWvPin {n f} : Pinned s₀ (s.modWvPin n f) := h
theorem Pinned.setWvPin {n b} : Pinned s₀ (s.setWvPin n b) := branch h h.setPin.modWvPin
theorem Pinned.modWv {r f} : Pinned s₀ (s.modWv r f) := h
theorem Pinned.modEngine {e f} : Pinned s₀ (s.modEngine e f) := h
theorem Pinned.stopEngine {e} : Pinned s₀ (s.stopEngine e) := h.modEngine
theorem Pinned.movePin {n} : Pinned s₀ (s.movePin n) := h.modWvPin.setWvPin
theorem Pinned.drive {r} : Pinned s₀ (s.drive r) := h.foldl fun h => h.movePin
theorem Pinned.driveAll : Pinned s₀ s.driveAll :=
  (h.foldl fun h => h.drive).foldl fun h => branch h.modWvPin.setWvPin h
theorem Pinned.feed {r} : Pinned s₀ (s.feed r) := h.modEngine.modWv
theorem Pinned.startProgram {r} : Pinned s₀ (s.startProgram r) := h.modWv.modEngine.drive
theorem Pinned.setFirefly {f x} : Pinned s₀ (s.setFirefly f x) := h
theorem Pinned.setTrigOut {k t} : Pinned s₀ (s.setTrigOut k t) := h
theorem Pinned.settleFireflies : Pinned s₀ s.settleFireflies := h.foldl fun h => branch h h.setPin
theorem Pinned.settleTrigs : Pinned s₀ s.settleTrigs := h.foldl fun h => branch h h.setPin
theorem Pinned.settlePins : Pinned s₀ s.settlePins := h.settleFireflies.settleTrigs.driveAll
theorem Pinned.endPulses : Pinned s₀ s.endPulses :=
  ((h.foldl fun h => h.setFirefly).foldl fun h => h.setTrigOut).setPin.setTbu.settlePins

end

/-! ## The sequences of the NVM -/

/-- A record of the wear counters. -/
def IsWear : NvmJob → Prop
  | .record _ _ (.wear _) => True
  | _ => False

/-- A state without its registers, and of the NVM without its bytes, the log and the sequences. -/
def burnless (s : State) : State :=
  { s with
    freeCtr := 0, regs := []
    nvm := { s.nvm with
      bytes := [], erases := [], logBase := 0, logTail := 0, seq := 0, notes := [], jobs := [], cold := [] } }

/-- `s` differs from `s₀` at most by what program sequences write, and by records of the wear counters that wait. -/
structure Burned (s₀ s : State) : Prop where
  rest : burnless s = burnless s₀
  regs : RegsKept s₀ s (· = Reg.THM_NVM_Q)
  jobs : ∃ w, s.nvm.jobs = s₀.nvm.jobs ++ w ∧ ∀ j ∈ w, IsWear j

theorem Burned.refl (s : State) : Burned s s := ⟨rfl, .refl s _, [], (List.append_nil _).symm, fun _ h => absurd h List.not_mem_nil⟩

theorem Burned.branch {s₀ s t : State} {c : Prop} {inst : Decidable c} (hs : Burned s₀ s) (ht : Burned s₀ t) :
    Burned s₀ (if c then s else t) := by split <;> assumption

/-- A fold over a state. -/
theorem Burned.foldl {β : Type} {s₀ s : State} {f : State → β → State} {l : List β} (h : Burned s₀ s)
    (hf : ∀ {t x}, Burned s₀ t → Burned s₀ (f t x)) : Burned s₀ (l.foldl f s) :=
  List.foldlRecOn l f (motive := Burned s₀) h fun _ ht _ _ => hf ht

section
variable {s₀ s : State} (h : Burned s₀ s)
include h

/-- An update of what the sequences write. -/
theorem Burned.setLog {bytes erases logBase logTail seq notes cold} : Burned s₀ { s with nvm := { s.nvm with
      bytes := bytes, erases := erases, logBase := logBase, logTail := logTail, seq := seq, notes := notes, cold := cold } } :=
  ⟨h.rest, h.regs, h.jobs⟩
theorem Burned.free : Burned s₀ s.free.2 := ⟨h.rest, h.regs, h.jobs⟩
theorem Burned.writeNvm {a bs} : Burned s₀ (s.writeNvm a bs) := h.setLog
theorem Burned.eraseBlock {b} : Burned s₀ (s.eraseBlock b) := h.writeNvm.setLog
theorem Burned.setLost {v} : Burned s₀ (s.setReg Reg.THM_NVM_Q v) := ⟨h.rest, h.regs.setReg rfl, h.jobs⟩
theorem Burned.program {j} (hj : IsWear j) : Burned s₀ (s.program j) := by
  have happend : Burned s₀ { s with nvm := { s.nvm with jobs := s.nvm.jobs ++ [j] } } := by
    obtain ⟨w, hw, hall⟩ := h.jobs
    refine ⟨h.rest, h.regs, w ++ [j], ?_, fun x hx => ?_⟩
    · rw [← List.append_assoc, ← hw]
    · rcases List.mem_append.mp hx with hx | hx
      · exact hall x hx
      · rw [List.mem_singleton.mp hx]; exact hj
  exact branch (branch h.setLog h.setLost) (branch h happend)
theorem Burned.journalWear : Burned s₀ s.journalWear := h.program trivial
theorem Burned.compact : Burned s₀ s.compact :=
  (h.writeNvm.foldl fun h => h.eraseBlock).setLog.journalWear
theorem Burned.makeRoom {n} : Burned s₀ (s.makeRoom n) := branch h.compact h
theorem Burned.placeRecord {n bs} : Burned s₀ (s.placeRecord n bs) := h.writeNvm.setLog
theorem Burned.writeRecord {type body note} : Burned s₀ (s.writeRecord type body note) := h.makeRoom.setLog.placeRecord

end

end Sys2Proof.Safety
end

section
/-! PROOF. The state of reset and power through the work of a start and of the Moult. -/

namespace Sys2Proof.Safety

-- The many small side goals below, elaborated in parallel, would take more threads than the memory limit allows.
set_option Elab.async false

open Sys2Proof.Machine

/-- The registers that show the start and the power state. -/
abbrev BootReg (a : Nat) : Prop := a = Reg.HIF_READY ∨ a = Reg.PWR_STATE ∨ a = Reg.BIST_STAT

/-- `s` has the reset, the power state, the boot count and the life cycle of `s₀`, and shows the same start and power
state. -/
structure SameBoot (s₀ s : State) : Prop where
  inReset : s.inReset = s₀.inReset
  resetN : s.resetN = s₀.resetN
  railLow : s.railLow = s₀.railLow
  startAt : s.startAt = s₀.startAt
  off : s.off = s₀.off
  power : s.power = s₀.power
  boot : s.nvm.boot = s₀.nvm.boot
  lifecycle : s.nvm.lifecycle = s₀.nvm.lifecycle
  quick : s.flag .BIST_STAT_QUICK = s₀.flag .BIST_STAT_QUICK
  ready : s.reg Reg.HIF_READY = s₀.reg Reg.HIF_READY
  shown : s.reg Reg.PWR_STATE = s₀.reg Reg.PWR_STATE

theorem SameBoot.refl (s : State) : SameBoot s s := ⟨rfl, rfl, rfl, rfl, rfl, rfl, rfl, rfl, rfl, rfl, rfl⟩

theorem SameBoot.branch {s₀ s t : State} {c : Prop} {inst : Decidable c} (hs : SameBoot s₀ s) (ht : SameBoot s₀ t) :
    SameBoot s₀ (if c then s else t) := by split <;> assumption

/-- A fold over a state. -/
theorem SameBoot.foldl {β : Type} {s₀ s : State} {f : State → β → State} {l : List β} (h : SameBoot s₀ s)
    (hf : ∀ {t x}, SameBoot s₀ t → SameBoot s₀ (f t x)) : SameBoot s₀ (l.foldl f s) :=
  List.foldlRecOn l f (motive := SameBoot s₀) h fun _ ht _ _ => hf ht

/-! ## Registers by number -/

theorem not_bootReg_of {a : Nat} (hr : a ≠ 0x0) (hp : a ≠ 0x21900) (hb : a ≠ 0x23000) : ¬ BootReg a :=
  fun h => h.elim hr fun h => h.elim hp hb

theorem not_bootReg_event (n : Nat) : ¬ BootReg (Fld.FLT_SRC_EVT_COUNT n).addr :=
  not_bootReg_of (a := 0x22214 + 0x10 * n) (by omega) (by omega) (by omega)

theorem not_bootReg_last (n : Nat) : ¬ BootReg (Fld.FLT_SRC_LAST_COUNT n).addr :=
  not_bootReg_of (a := 0x22218 + 0x10 * n) (by omega) (by omega) (by omega)

theorem not_bootReg_classUse (cls : Nat) : ¬ BootReg (Reg.SPR_CLASS_USE cls) :=
  not_bootReg_of (a := 0x22004 + 0x8 * cls) (by omega) (by omega) (by omega)

theorem not_bootReg_camera (n : Nat) : ¬ BootReg (Fld.CSX_CAM_STAT_PIPE n).addr :=
  not_bootReg_of (a := 0x2058 + 0x20 * n) (by omega) (by omega) (by omega)

theorem not_bootReg_verdict (verdict : Nat) : ¬ BootReg (verdictCount verdict).addr := by
  match verdict with
  | 0 => decide
  | 1 => decide
  | n + 2 => exact (by decide : ¬ BootReg Reg.SPR_ST_INCOMPLETE)

section
variable {s₀ s : State} (h : SameBoot s₀ s)
include h

/-- An update of fields of the state that are none of reset, power, registers and the NVM. -/
theorem SameBoot.update {f0 f1 f2 f3 f4 f5 f11 f13 f14 f15 f16 f17 f18 f19 f20 f21 f22 f23 f24 f25 f26 f27 f28 f29 f30 f31
      f32 f33 f34 f35 f36 f37 f38 f39 f40 f41 f42 f43 f44 f45 f46 f47 f48 f49 f51 f52 f53 f54 f55 f57 f58 f59} :
    SameBoot s₀ ⟨f0, f1, f2, f3, f4, f5, s.inReset, s.resetN, s.railLow, s.startAt, s.off, f11, s.regs, f13, f14, f15, f16,
      f17, f18, f19, f20, f21, f22, f23, f24, f25, f26, f27, f28, f29, f30, f31, f32, f33, f34, f35, f36, f37, f38, f39,
      f40, f41, f42, f43, f44, f45, f46, f47, f48, f49, s.nvm, f51, f52, f53, f54, f55, s.power, f57, f58, f59⟩ :=
  ⟨h.inReset, h.resetN, h.railLow, h.startAt, h.off, h.power, h.boot, h.lifecycle, h.quick, h.ready, h.shown⟩

/-- An update of the NVM that keeps the boot count and the life cycle. -/
theorem SameBoot.setNvm {x : Nvm} (hb : x.boot = s.nvm.boot := by rfl) (hl : x.lifecycle = s.nvm.lifecycle := by rfl) :
    SameBoot s₀ { s with nvm := x } :=
  ⟨h.inReset, h.resetN, h.railLow, h.startAt, h.off, h.power, hb.trans h.boot, hl.trans h.lifecycle, h.quick, h.ready,
    h.shown⟩

/-- A state that differs in neither reset nor power, and in no register that shows them. -/
theorem SameBoot.kept {t : State} (hr : t.inReset = s.inReset) (hn : t.resetN = s.resetN) (hl : t.railLow = s.railLow)
    (ha : t.startAt = s.startAt) (ho : t.off = s.off) (hp : t.power = s.power) (hv : t.nvm = s.nvm)
    (hk : ∀ a, BootReg a → t.reg a = s.reg a) : SameBoot s₀ t :=
  ⟨hr.trans h.inReset, hn.trans h.resetN, hl.trans h.railLow, ha.trans h.startAt, ho.trans h.off, hp.trans h.power,
    (congrArg Nvm.boot hv).trans h.boot, (congrArg Nvm.lifecycle hv).trans h.lifecycle,
    (flag_of_reg (f := .BIST_STAT_QUICK) (hk _ (.inr (.inr rfl)))).trans h.quick,
    (hk _ (.inl rfl)).trans h.ready, (hk _ (.inr (.inl rfl))).trans h.shown⟩

theorem SameBoot.setReg {a v} (ha : ¬ BootReg a := by decide) : SameBoot s₀ (s.setReg a v) :=
  h.kept rfl rfl rfl rfl rfl rfl rfl fun _ hb => reg_setReg_ne s v fun e => ha (e ▸ hb)
theorem SameBoot.setFld {f v} (hf : ¬ BootReg f.addr := by decide) : SameBoot s₀ (s.setFld f v) := h.setReg hf
theorem SameBoot.setFlag {f b} (hf : ¬ BootReg f.addr := by decide) : SameBoot s₀ (s.setFlag f b) := h.setReg hf
theorem SameBoot.count {f n} (hf : ¬ BootReg f.addr := by decide) : SameBoot s₀ (s.count f n) := h.setReg hf
/-- A write of another field of BIST_STAT than QUICK. -/
theorem SameBoot.setBist {hi lo v} (hl : 1 ≤ lo := by decide) (hh : lo ≤ hi := by decide) (h32 : hi < 32 := by decide) :
    SameBoot s₀ (s.setFld ⟨Reg.BIST_STAT, hi, lo⟩ v) :=
  ⟨h.inReset, h.resetN, h.railLow, h.startAt, h.off, h.power, h.boot, h.lifecycle,
    (flag_setFld_bits s v hh h32 (.inl hl)).trans h.quick, (reg_setFld_ne s v (by decide : Reg.HIF_READY ≠ Reg.BIST_STAT)).trans h.ready,
    (reg_setFld_ne s v (by decide : Reg.PWR_STATE ≠ Reg.BIST_STAT)).trans h.shown⟩
theorem SameBoot.resetRegs {lo hi} (hk : ∀ a, BootReg a → a < lo ∨ hi ≤ a := by rintro a (rfl | rfl | rfl) <;> decide) :
    SameBoot s₀ (s.resetRegs lo hi) :=
  h.kept rfl rfl rfl rfl rfl rfl rfl fun a ha => by rw [reg_resetRegs, if_pos (hk a ha)]

theorem SameBoot.quiet {t} (ht : Quiet s t) : SameBoot s₀ t :=
  h.kept (congrArg State.inReset ht.rest :) (congrArg State.resetN ht.rest :) (congrArg State.railLow ht.rest :)
    (congrArg State.startAt ht.rest :) (congrArg State.off ht.rest :) (congrArg State.power ht.rest :)
    (congrArg State.nvm ht.rest :) fun a ha => ht.regs a (by
      unfold EventReg
      dsimp only [BootReg, Reg.HIF_READY, Reg.PWR_STATE, Reg.BIST_STAT, Reg.HIF_NORING_DROP] at ha ⊢
      omega)
theorem SameBoot.post {t} (ht : Posted s t) : SameBoot s₀ t := h.quiet ((Quiet.refl s).post ht)
theorem SameBoot.pinned {t} (ht : Pinned s t) : SameBoot s₀ t :=
  h.kept (congrArg State.inReset ht :) (congrArg State.resetN ht :) (congrArg State.railLow ht :)
    (congrArg State.startAt ht :) (congrArg State.off ht :) (congrArg State.power ht :) (congrArg State.nvm ht :)
    fun a _ => reg_congr (congrArg State.regs ht :) a

theorem SameBoot.free : SameBoot s₀ s.free.2 := h.update
theorem SameBoot.raiseFast {n} (hn : n ≤ 16 := by decide) : SameBoot s₀ (s.raiseFast n) :=
  h.quiet ((Quiet.refl s).raiseFast hn)
theorem SameBoot.event {code status source args} : SameBoot s₀ (s.event code status source args) :=
  h.quiet (Quiet.refl s).event
theorem SameBoot.hand {kind cam bs tick tag} : SameBoot s₀ (s.hand kind cam bs tick tag) := h.quiet (Quiet.refl s).hand
theorem SameBoot.finishWaiting {notify status result} : SameBoot s₀ (s.finishWaiting notify status result) :=
  h.post (Posted.refl s).finishWaiting
theorem SameBoot.returnSources {t} : SameBoot s₀ (s.returnSources t) := h.quiet Quiet.returnSources

/-! ### The journal, the units and their tests -/

theorem SameBoot.program {j} : SameBoot s₀ (s.program j) := branch (branch h.setNvm h.count) (branch h h.setNvm)
theorem SameBoot.journal {type body note} : SameBoot s₀ (s.journal type body note) := h.program
theorem SameBoot.journalOpaque {type note} : SameBoot s₀ (s.journalOpaque type note) := h.journal
theorem SameBoot.faultRecord {r} : SameBoot s₀ (s.faultRecord r) := h.setNvm.journal
theorem SameBoot.journalMap : SameBoot s₀ s.journalMap := h.journalOpaque
theorem SameBoot.staleSubsts {p} : SameBoot s₀ (s.staleSubsts p) := h.update
theorem SameBoot.setUnit {cls u v} : SameBoot s₀ (s.setUnit cls u v) :=
  branch h.update (branch h.update.staleSubsts h.update).journalMap
theorem SameBoot.setHolder {cls r u} : SameBoot s₀ (s.setHolder cls r u) := h.staleSubsts.update
theorem SameBoot.setEpoch {cls r e} : SameBoot s₀ (s.setEpoch cls r e) := h.update
theorem SameBoot.bumpEpoch {cls r} : SameBoot s₀ (s.bumpEpoch cls r) := h.setEpoch
theorem SameBoot.setLost {cls r b} : SameBoot s₀ (s.setLost cls r b) := h.update
theorem SameBoot.setKept {r b} : SameBoot s₀ (s.setKept r b) := h.update
theorem SameBoot.setNoSpare {cls r b} : SameBoot s₀ (s.setNoSpare cls r b) := h.update.setFld (not_bootReg_classUse cls)
theorem SameBoot.testCounted {t verdict patterns} : SameBoot s₀ (testCounted s t verdict patterns) := by
  unfold Safety.testCounted showTest
  split
  · exact (h.update.setReg.setReg.setFld).count (not_bootReg_verdict verdict)
  · exact (h.update.setReg.setReg.setFld).count (not_bootReg_verdict verdict)
theorem SameBoot.endTestWith {t verdict patterns after} : SameBoot s₀ (s.endTestWith t verdict patterns after) := by
  rw [endTestWith_eq]
  have h2 : SameBoot s₀ ((Safety.testCounted s t verdict patterns).setUnit t.cls t.unit after) := h.testCounted.setUnit
  exact (branch (branch h2.faultRecord h2) h2.faultRecord).finishWaiting
theorem SameBoot.setQueue {l} : SameBoot s₀ (s.setQueue l) := h.update.setFlag
theorem SameBoot.pushSubst {q} : SameBoot s₀ (s.pushSubst q) := h.setQueue
theorem SameBoot.queueSubst {q new} : SameBoot s₀ (s.queueSubst q new) := by
  unfold State.queueSubst
  refine SameBoot.pushSubst ?_
  split
  · exact h.setUnit
  · exact h
theorem SameBoot.giveBack {q} : SameBoot s₀ (s.giveBack q) := by
  unfold State.giveBack
  split
  · exact branch h.setUnit h
  · exact h
theorem SameBoot.dropTest {t} : SameBoot s₀ (s.dropTest t) := (h.setQueue.foldl fun h => h.giveBack).endTestWith
theorem SameBoot.chooseSpare {q} : SameBoot s₀ (s.chooseSpare q) := by
  unfold State.chooseSpare
  split
  · exact h.queueSubst
  · split
    · exact h.free.endTestWith.queueSubst
    · refine SameBoot.queueSubst ?_
      split
      · exact h.dropTest
      · exact h
theorem SameBoot.seekSpare {cls r old why} : SameBoot s₀ (s.seekSpare cls r old why) :=
  (h.setQueue.foldl fun h => h.giveBack).chooseSpare.foldl fun h => h.chooseSpare
theorem SameBoot.replaceChosen {cls u} : SameBoot s₀ (s.replaceChosen cls u) := by
  unfold State.replaceChosen
  refine h.setQueue.foldl fun h => ?_
  split
  · split
    · exact h.dropTest
    · exact h
  · exact h.chooseSpare
theorem SameBoot.testGone {cls u} : SameBoot s₀ (s.testGone cls u) := h.update.foldl fun h => h.finishWaiting
theorem SameBoot.changeWhy {q why} : SameBoot s₀ (s.changeWhy q why) := h.update
theorem SameBoot.retireTested {cls u} : SameBoot s₀ (s.retireTested cls u) := by
  unfold State.retireTested
  split
  · exact h.free.endTestWith.count
  · exact h.setUnit
theorem SameBoot.retire {cls u source} : SameBoot s₀ (s.retire cls u source) := by
  unfold State.retire
  dsimp only
  split
  · exact h
  · exact h.setUnit
  · exact h.retireTested
  · split
    · exact h.setUnit.replaceChosen
    · split
      · exact h.setUnit.seekSpare
      · split
        · exact h.setUnit.testGone.changeWhy
        · exact branch h.setUnit h.setUnit.seekSpare
theorem SameBoot.setTests {l} : SameBoot s₀ (s.setTests l) := h.update
theorem SameBoot.abortTest {t} : SameBoot s₀ (s.abortTest t) := by
  unfold State.abortTest
  dsimp only
  split
  · split
    · exact branch h.free.endTestWith.queueSubst h.free.endTestWith
    · exact h.free.endTestWith
  · exact h.dropTest
theorem SameBoot.abortRunning : SameBoot s₀ s.abortRunning := h.foldl fun h => h.abortTest
theorem SameBoot.abortTests : SameBoot s₀ s.abortTests := h.foldl fun h => h.abortTest

/-! ### The Coachmen -/

theorem SameBoot.putBank {bank st} : SameBoot s₀ (s.putBank bank st) := branch h.setNvm h.setNvm
theorem SameBoot.setBank {bank st} : SameBoot s₀ (s.setBank bank st) := h.putBank.journalOpaque
theorem SameBoot.bootCoach {u bank} : SameBoot s₀ (s.bootCoach u bank) := branch h.update h.update
theorem SameBoot.restartStandby {u why} : SameBoot s₀ (s.restartStandby u why) := h.bootCoach.update
theorem SameBoot.swapCoaches : SameBoot s₀ s.swapCoaches :=
  have h1 := h.setFld.setHolder.bumpEpoch
  branch h1.setUnit h1.setUnit.setHolder.bumpEpoch.setUnit
theorem SameBoot.restartFormer {old} : SameBoot s₀ (s.restartFormer old) := branch h h.restartStandby
theorem SameBoot.afterTakeOver {old expired why} : SameBoot s₀ (s.afterTakeOver old expired why) := by
  unfold State.afterTakeOver
  split
  · exact
      have h1 := h.update.setBank.finishWaiting
      branch h1.restartFormer h1
  · exact h.update.setBank.restartFormer
  · exact h.restartFormer
theorem SameBoot.rerunMailbox : SameBoot s₀ s.rerunMailbox :=
  have h1 := branch h.update.setFld h
  branch ((branch h1.setFld.update h1).setTests.update) h
theorem SameBoot.takeOver {why} : SameBoot s₀ (s.takeOver why) :=
  (branch h.rerunMailbox h).abortRunning.swapCoaches.update.event.returnSources.afterTakeOver
theorem SameBoot.requestTakeOver {why} : SameBoot s₀ (s.requestTakeOver why) := branch h.update h.takeOver
theorem SameBoot.askTakeOver {why} : SameBoot s₀ (s.askTakeOver why) :=
  branch h (branch h.update (branch h h.requestTakeOver))
theorem SameBoot.standbyExpired {u} : SameBoot s₀ (s.standbyExpired u) := by
  unfold State.standbyExpired
  split
  · extract_lets
    split
    · exact h.update.finishWaiting
    · exact h.update.finishWaiting
    · exact h.update.finishWaiting
    · exact h.update
  · split
    · exact h
    · exact h.update
    · exact h.restartStandby.update
    · exact h.restartStandby
theorem SameBoot.coachGone {u} : SameBoot s₀ (s.coachGone u) := branch h.update.askTakeOver h.standbyExpired

/-! ### Faults and substitutions -/

theorem SameBoot.retrain : SameBoot s₀ s.retrain := branch h.count.update h
theorem SameBoot.laneCheck : SameBoot s₀ s.laneCheck := by
  unfold State.laneCheck
  extract_lets
  split
  · exact h.setFld.setUnit.retrain.update
  · exact h
theorem SameBoot.retireLoop {u} : SameBoot s₀ (s.retireLoop u) :=
  have h1 := h.retireTested.setFld
  branch h1.setFlag h1
theorem SameBoot.leftWithout {cls r u source} : SameBoot s₀ (s.leftWithout cls r u source) :=
  h.event.faultRecord.setNoSpare
theorem SameBoot.coachLost {u source} : SameBoot s₀ (s.coachLost u source) := h.leftWithout.setLost
theorem SameBoot.spareRow {n} : SameBoot s₀ (s.spareRow n) := branch h (branch h.pushSubst h.setUnit.pushSubst)
theorem SameBoot.lastingEffect {src inst} : SameBoot s₀ (s.lastingEffect src inst) := by
  unfold State.lastingEffect
  extract_lets cls u
  have hunit : SameBoot s₀ (if cls ≤ 8 then s.retire cls u src else if cls = 9 then s.retireLoop u
      else if cls = 10 then ((s.retireTested 10 u).coachLost u src).coachGone u else s) :=
    branch h.retire (branch h.retireLoop (branch h.retireTested.coachLost.coachGone h))
  split
  · exact h.spareRow
  · exact h.retireTested.setFld
  · exact h.laneCheck
  · exact h.retireTested
  · exact hunit
  · exact hunit
  · exact hunit
  · exact hunit
  · exact hunit
  · exact hunit
  · exact h
theorem SameBoot.lasting {src inst unit} : SameBoot s₀ (s.lasting src inst unit) :=
  ((branch h.event h.event.faultRecord).count (f := .FLT_SRC_LAST_COUNT (src - 1)) (not_bootReg_last _)).lastingEffect
theorem SameBoot.charge {src inst} : SameBoot s₀ (s.charge src inst) :=
  have h1 := h.count (f := .FLT_SRC_EVT_COUNT (src - 1)) (n := 1) (not_bootReg_event _)
  branch h1 (branch h1.update.lasting h1.update)
theorem SameBoot.rowAlone {n source} : SameBoot s₀ (s.rowAlone n source) := h.leftWithout.charge
theorem SameBoot.applyNewHolder {q u e} : SameBoot s₀ (s.applyNewHolder q u e) := by
  unfold State.applyNewHolder
  extract_lets s0 s1 s2 old s3 s4 s5 s6
  have h2 : SameBoot s₀ s2 := (branch h.setKept h).setHolder.setEpoch.setLost.setNoSpare.setUnit
  have h3 : SameBoot s₀ s3 := by
    dsimp only [s3]
    split
    · exact h2
    · split
      · exact h2.setUnit
      · exact h2.setUnit
      · exact branch h2.setUnit.setTests.setReg h2.setUnit
  have h6 : SameBoot s₀ s6 := (branch h3 h3.event).faultRecord.journalMap.count (not_bootReg_classUse q.cls)
  split
  · exact h6.finishWaiting
  · exact h6
theorem SameBoot.applyNoSpare {q} : SameBoot s₀ (s.applyNoSpare q) :=
  branch h.leftWithout.setKept.journalMap h.leftWithout.setLost

/-! ### The steps of a start -/

theorem SameBoot.restoreMap : SameBoot s₀ s.restoreMap := h.update
theorem SameBoot.rowPassed {n} : SameBoot s₀ (s.rowPassed n) := h.setUnit.faultRecord
theorem SameBoot.rowFailed {n} : SameBoot s₀ (s.rowFailed n) := branch h (branch h.setUnit.count h.rowAlone)
theorem SameBoot.memoryTest {l} : SameBoot s₀ (s.memoryTest l) :=
  (h.foldl fun h => h.rowPassed).foldl fun h => h.rowFailed
theorem SameBoot.markPartition {p} : SameBoot s₀ (s.markPartition p) := h.setBist
theorem SameBoot.signatureFailed {f} : SameBoot s₀ (s.signatureFailed f) := by
  unfold State.signatureFailed
  split
  · exact h.markPartition.setBist.faultRecord
  · split
    · exact h.markPartition.charge
    · exact h
  · exact h
theorem SameBoot.signatureCut {f} : SameBoot s₀ (s.signatureCut f) := by
  have hf := h.free
  unfold State.signatureCut
  generalize s.free = p at hf ⊢
  dsimp only
  split
  · exact hf.faultRecord
  · exact hf.faultRecord
  · exact h
theorem SameBoot.fillRoles : SameBoot s₀ s.fillRoles := by
  unfold State.fillRoles
  refine foldl (foldl h fun h => branch h h.seekSpare).setQueue fun h => ?_
  split
  · exact h.applyNewHolder
  · exact h.applyNoSpare
theorem SameBoot.showPipe {n} : SameBoot s₀ (s.showPipe n) := h.setFld (not_bootReg_camera _)
theorem SameBoot.replay {r} : SameBoot s₀ (s.replay r) := h.update.update.count.pinned (Pinned.refl _).feed
theorem SameBoot.haltLost {r} : SameBoot s₀ (s.haltLost r) :=
  (h.pinned (Pinned.refl s).stopEngine.modWv.drive).raiseFast.raiseFast
theorem SameBoot.moveRole {r forced} : SameBoot s₀ (s.moveRole r forced) :=
  have h1 := h.pinned (Pinned.refl s).modWv.modEngine.modEngine.modWv
  (branch h1 (h1.pinned (Pinned.refl _).startProgram)).replay
theorem SameBoot.seatEngines : SameBoot s₀ s.seatEngines := h.foldl fun h => branch h.haltLost (branch h h.moveRole)
theorem SameBoot.endTrial : SameBoot s₀ s.endTrial := h.foldl fun h => branch h.setBank h
theorem SameBoot.bootCoachmen : SameBoot s₀ s.bootCoachmen := by
  have h1 {c : Prop} [Decidable c] {v} : SameBoot s₀ (if c then s else s.setFld .SEC_FW_STAT_REASON v) := branch h h.setFld
  unfold State.bootCoachmen
  exact branch h1 (branch (branch h1.setFld.setHolder.update.bootCoach.setBank.update
    h1.setFld.setHolder.update.setFld.setBank) h1.setFld.setHolder.update)
theorem SameBoot.noteShutdown : SameBoot s₀ s.noteShutdown := branch h.setNvm.journalOpaque h
theorem SameBoot.startReads {b} : SameBoot s₀ (s.startReads b) := branch h.raiseFast h
theorem SameBoot.settlePins : SameBoot s₀ s.settlePins := h.pinned (Pinned.refl s).settlePins

/-! ### The steps of the Moult -/

theorem SameBoot.flushTracks {tick tag service all} : SameBoot s₀ (s.flushTracks tick tag service all) :=
  h.update.foldl fun h => h.hand
theorem SameBoot.raiseSafe : SameBoot s₀ s.raiseSafe := h.foldl fun h => branch h.raiseFast h
theorem SameBoot.allSafe : SameBoot s₀ s.allSafe :=
  (h.raiseSafe.foldl fun h => h.pinned (Pinned.refl _).modWv.stopEngine).pinned (Pinned.refl _).driveAll
theorem SameBoot.stopF0 : SameBoot s₀ s.stopF0 := by
  have h1 : SameBoot s₀ ((s.loads.filter s.loadStarted).foldl (fun s l => s.abandonLoad l) s) :=
    h.foldl fun h => h.free.update
  exact h1.update.resetRegs.count
theorem SameBoot.stopF1 : SameBoot s₀ s.stopF1 := h.update.resetRegs.quiet (Quiet.refl _).completeAllOf
theorem SameBoot.linkReset {next perst} : SameBoot s₀ (s.linkReset next perst) :=
  have h1 := h.update.update.stopF0.stopF1.setFld.update.count
  branch h1.raiseFast h1

end
end Sys2Proof.Safety
end

section
/-! PROOF. What a reset leaves of the NVM, and what a start shows. -/

namespace Sys2Proof.Safety

open Sys2Proof.Machine

/-! ## Bytes of the NVM -/

theorem nvmRange_one (s : State) (i : Nat) : s.nvmRange i 1 = [s.nvm.bytes.get Config.nvmByte i] := rfl

/-- A byte outside those written is as before. -/
theorem nvmRange_writeNvm (s : State) {a i : Nat} {bs : List Byte} (h : i < a ∨ a + bs.length ≤ i) :
    (s.writeNvm a bs).nvmRange i 1 = s.nvmRange i 1 := by
  rw [nvmRange_one, nvmRange_one]
  refine congrArg (fun b => [b]) ((Store.get_setMany Config.nvmByte s.nvm.bytes a i bs).trans ?_)
  split
  · rw [List.getElem?_eq_none (by omega)]
    rfl
  · rfl

theorem nvmRange_eraseBlock (s : State) {b i : Nat} (h : i < 4096 * b ∨ 4096 * b + 4096 ≤ i) :
    (s.eraseBlock b).nvmRange i 1 = s.nvmRange i 1 := by
  unfold State.eraseBlock
  obtain ⟨bs, hbs⟩ : ∃ bs, bs = List.replicate 4096 Config.erasedByte := ⟨_, rfl⟩
  have hlen : bs.length = 4096 := by rw [hbs, List.length_replicate]
  rw [← hbs]
  exact nvmRange_writeNvm s (hlen ▸ h)

/-! ## The sequence that a reset cuts off -/

/-- A state without program sequences. -/
def jobless (s : State) : State := { s with nvm := { s.nvm with jobs := [] } }

/-- What a reset leaves of the NVM. -/
theorem cutJob_burned (s : State) : Burned (jobless s) s.cutJob := by
  have ht : Burned (jobless s) { s.free.2 with nvm := { s.nvm with jobs := [] } } := (Burned.refl (jobless s)).free
  unfold State.cutJob
  extract_lets t v
  split
  · next hj => exact ⟨rfl, .refl _ _, [], hj, fun _ h => absurd h List.not_mem_nil⟩
  · exact .branch ht ht.makeRoom.placeRecord
  · exact ht.writeNvm
  · exact .branch ht.eraseBlock ht

theorem cutJob_of_idle {s : State} (h : s.nvm.jobs = []) : s.cutJob = s := by
  unfold State.cutJob
  rw [h]

theorem nvmRange_cutJob_chunk {s : State} {a i : Nat} {data : List Byte} {note : NvmNote} {rest : List NvmJob}
    (h : s.nvm.jobs = .chunk a data note :: rest) (hi : i < a ∨ a + data.length ≤ i) :
    s.cutJob.nvmRange i 1 = s.nvmRange i 1 := by
  unfold State.cutJob
  rw [h]
  exact nvmRange_writeNvm _ (hi.imp_right fun hi => (by rw [List.length_take]; omega))

theorem nvmRange_cutJob_erase {s : State} {b i : Nat} {rest : List NvmJob}
    (h : s.nvm.jobs = .erase b :: rest) (hi : i < 4096 * b ∨ 4096 * b + 4096 ≤ i) :
    s.cutJob.nvmRange i 1 = s.nvmRange i 1 := by
  unfold State.cutJob
  rw [h]
  dsimp only
  split
  · exact nvmRange_eraseBlock _ hi
  · rfl

/-! ## Resets of the device -/

/-- A reset ends an access at the JTAG port, and leaves the rest. -/
theorem endAccess_eq (s : State) : ∃ j, s.endAccess = { s with jtag := j } := by
  unfold State.endAccess
  split
  · exact ⟨s.jtag, rfl⟩
  · split
    · exact ⟨_, rfl⟩
    · exact ⟨_, rfl⟩
    · exact ⟨s.jtag, rfl⟩

/-- What a reset of the device leaves. -/
structure ResetDevice (s t : State) : Prop where
  regs : t.regs = []
  rings : t.rings = []
  link : t.pcie.link = .down
  inReset : t.inReset = true
  bytes : t.nvm.bytes = s.cutJob.nvm.bytes
  jobs : t.nvm.jobs = []
  lifecycle : t.nvm.lifecycle = s.nvm.lifecycle
  rights : t.nvm.rights = s.nvm.lifecycle
  keysErased : t.nvm.keysErased = s.nvm.keysErased
  owner : t.nvm.owner = s.nvm.owner
  faults : t.nvm.faults = s.nvm.faults
  rollback : t.nvm.rollback = s.nvm.rollback
  hostMem : t.hostMem = s.hostMem

theorem resetAll_spec (s : State) : ResetDevice s s.resetAll := by
  have h := (cutJob_burned s).rest
  unfold State.resetAll
  obtain ⟨j, hj⟩ := endAccess_eq s.cutJob.reboot
  rw [hj]
  exact
    { regs := rfl, rings := rfl, link := rfl, inReset := rfl, bytes := rfl, jobs := rfl
      lifecycle := (congrArg (fun t => t.nvm.lifecycle) h :)
      rights := (congrArg (fun t => t.nvm.lifecycle) h :)
      keysErased := (congrArg (fun t => t.nvm.keysErased) h :)
      owner := (congrArg (fun t => t.nvm.owner) h :)
      faults := (congrArg (fun t => t.nvm.faults) h :)
      rollback := (congrArg (fun t => t.nvm.rollback) h :)
      hostMem := (congrArg State.hostMem h :) }

/-- The same in the words of the statement, for a state with the NVM and host memory of the one that is reset. -/
theorem ResetDevice.parts {s u t : State} (h : ResetDevice s t) (hv : s.nvm = u.nvm) (hm : s.hostMem = u.hostMem) :
    (∀ a, t.reg a = regReset a) ∧ (∀ n, (t.ring n).enabled = false) ∧ t.pcie.link = .down ∧
      t.inReset = true ∧ (u.nvm.jobs = [] → t.nvm.bytes = u.nvm.bytes) ∧
      (∀ a data note rest i, u.nvm.jobs = .chunk a data note :: rest → i < a ∨ a + data.length ≤ i →
        t.nvmRange i 1 = u.nvmRange i 1) ∧
      (∀ b rest i, u.nvm.jobs = .erase b :: rest → i < 4096 * b ∨ 4096 * b + 4096 ≤ i → t.nvmRange i 1 = u.nvmRange i 1) ∧
      t.nvm.jobs = [] ∧ t.nvm.lifecycle = u.nvm.lifecycle ∧ t.nvm.rights = u.nvm.lifecycle ∧
      t.nvm.keysErased = u.nvm.keysErased ∧ t.nvm.owner = u.nvm.owner ∧ t.nvm.faults = u.nvm.faults ∧
      t.nvm.rollback = u.nvm.rollback ∧ MemKept u t (fun _ => False) := by
  have hbyte (i : Nat) : t.nvmRange i 1 = s.cutJob.nvmRange i 1 := by rw [nvmRange_one, nvmRange_one, h.bytes]
  have hsame (i : Nat) : u.nvmRange i 1 = s.nvmRange i 1 := by rw [nvmRange_one, nvmRange_one, hv]
  simp only [hsame, ← hv]
  refine ⟨fun a => ?_, fun n => ?_, h.link, h.inReset, fun hj => ?_, fun a data note rest i hj hi => ?_,
    fun b rest i hj hi => ?_, h.jobs, h.lifecycle, h.rights, h.keysErased, h.owner, h.faults, h.rollback, fun a _ => ?_⟩
  · rw [State.reg, h.regs, Store.get_nil]
  · rw [State.ring, h.rings, Store.get_nil]
    rfl
  · rw [h.bytes, cutJob_of_idle hj]
  · rw [hbyte, nvmRange_cutJob_chunk hj hi]
  · rw [hbyte, nvmRange_cutJob_erase hj hi]
  · rw [State.memByte, h.hostMem, hm]
    rfl

theorem exec_resetNAssert {s u : State} {dt : Nat} (hu : u = s.advance dt) :
    exec (.resetNAssert dt) s = .next ({ u with resetN := false } : State).resetAll := by
  subst hu
  rfl

theorem exec_brownout {s u : State} {dt : Nat} (hu : u = s.advance dt) :
    exec (.brownout dt) s = .next ({ u with railLow := true } : State).resetAll := by
  subst hu
  rfl

/-! ## The start -/

/-- What the journal says is read whatever the level of RESET_N and the rails. -/
theorem takeNote_withCauses (s : State) (n : NvmNote) (a b : Bool) :
    ({ s with resetN := a, railLow := b } : State).takeNote n = { s.takeNote n with resetN := a, railLow := b } := by
  cases n <;> rfl

/-- RESET_N and the rails. -/
def withCauses (s : State) (a b : Bool) : State := { s with resetN := a, railLow := b }

theorem readJournal_withCauses (s : State) (a b : Bool) :
    (withCauses s a b).readJournal.nvm = s.readJournal.nvm := by
  have hfold : ∀ (l : List LogRecord) (t : State),
      l.foldl (fun s r => s.takeNote (s.nvm.notes.get (fun _ => .quiet) r.seq)) (withCauses t a b) =
      withCauses (l.foldl (fun s r => s.takeNote (s.nvm.notes.get (fun _ => .quiet) r.seq)) t) a b := fun l t =>
    List.foldl_hom (fun t => withCauses t a b) fun t r => takeNote_withCauses t _ a b
  have hl : (withCauses s a b).logRecords = s.logRecords := rfl
  unfold State.readJournal
  rw [hl]
  dsimp only
  rw [hfold]
  rfl

/-- A note of the journal touches neither the state of reset nor the boot count, the life cycle and whether the latest Moult
was used. -/
structure Noted (s t : State) : Prop where
  only : t = { s with nvm := t.nvm }
  boot : t.nvm.boot = s.nvm.boot
  lifecycle : t.nvm.lifecycle = s.nvm.lifecycle
  consumed : t.nvm.moultConsumed = s.nvm.moultConsumed

theorem takeNote_noted (s : State) (n : NvmNote) : Noted s (s.takeNote n) := by
  cases n <;> exact ⟨rfl, rfl, rfl, rfl⟩

theorem Noted.trans {s t u : State} (h : Noted s t) (h' : Noted t u) : Noted s u :=
  ⟨h'.only.trans (congrArg (fun x : State => { x with nvm := u.nvm }) h.only), h'.boot.trans h.boot,
    h'.lifecycle.trans h.lifecycle, h'.consumed.trans h.consumed⟩

theorem readJournal_noted (s : State) : Noted s s.readJournal := by
  unfold State.readJournal
  extract_lets l t faults
  have ht : Noted s t := List.foldlRecOn l _ (motive := Noted s) ⟨rfl, rfl, rfl, rfl⟩ fun u hu r _ => hu.trans (takeNote_noted u _)
  exact ht.trans ⟨rfl, rfl, rfl, rfl⟩

/-- The device has left reset, and the journal is read. -/
def leaveReset (s : State) : State :=
  { s.readJournal with
    inReset := false, startAt := s.now, nvm := { s.readJournal.nvm with boot := (s.nvm.boot + 1) % 2 ^ 16 } }

/-- Whether the start is a quick one shows. -/
def showStart (s : State) (quick age : Bool) : State :=
  (((s.setFlag .BIST_STAT_QUICK quick).setFlag .BIST_STAT_AGE_OK age).setFlag .HIF_READY_FULL (!quick)).setFlag
    .BIST_CTL_FULL_NEXT s.nvm.fullNext

theorem ageOk_eq (s : State) : s.ageOk.2 = s ∨ s.ageOk.2 = s.free.2 := by
  unfold State.ageOk
  split
  · exact .inl rfl
  · split
    · exact .inl rfl
    · split
      · exact .inl rfl
      · exact .inr rfl

theorem start_sameBoot (s : State) (all : List Nat) :
    SameBoot (showStart (leaveReset s).ageOk.2 ((leaveReset s).ageOk.2.quickStart (leaveReset s).ageOk.1) (leaveReset s).ageOk.1)
      (s.start all) := by
  unfold State.start
  extract_lets results s0 n1 s1 fails cut
  change SameBoot (showStart s1.ageOk.2 (s1.ageOk.2.quickStart s1.ageOk.1) s1.ageOk.1) _
  generalize s1.ageOk = p
  obtain ⟨age, s2⟩ := p
  dsimp -zeta only
  extract_lets quick s3 n3 s4 s5 s6 s7 s8
  have h3 : SameBoot s3 s3 := .refl s3
  have h5 : SameBoot s3 s5 := h3.setNvm.restoreMap.memoryTest
  have h6 : SameBoot s3 s6 := .branch h5
    (((h5.foldl fun h => h.signatureFailed).foldl fun h => h.signatureCut).setFld)
  have h7 : SameBoot s3 s7 := (h6.fillRoles.foldl fun h => h.showPipe).seatEngines
  exact (SameBoot.branch h7 h7.update).endTrial.bootCoachmen.noteShutdown.startReads.settlePins

theorem flag_setFlag_apart (s : State) {f g : Fld} (b : Bool) (h : g.addr ≠ f.addr) : (s.setFlag f b).flag g = s.flag g :=
  flag_of_reg (reg_setFlag_ne s b h)

theorem showStart_flags (s : State) (quick age : Bool) : (showStart s quick age).flag .BIST_STAT_QUICK = quick ∧
    (showStart s quick age).flag .HIF_READY_FULL = !quick := by
  unfold showStart
  constructor
  · rw [flag_setFlag_apart _ _ (by decide), flag_setFlag_apart _ _ (by decide), flag_setFlag_bits, flag_setFlag_bit]
  · rw [flag_setFlag_apart _ _ (by decide), flag_setFlag_bit]

theorem showStart_kept (s : State) (quick age : Bool) : OnlyRegs s (showStart s quick age) :=
  (OnlyRegs.refl s).setFld.setFld.setFld.setFld

/-- What of the state the journal's reading and a free value leave. -/
theorem ageOk_leaveReset (s : State) : (leaveReset s).ageOk.2.inReset = false ∧
    (leaveReset s).ageOk.2.resetN = s.resetN ∧ (leaveReset s).ageOk.2.railLow = s.railLow ∧
    (leaveReset s).ageOk.2.startAt = s.now ∧ (leaveReset s).ageOk.2.nvm = (leaveReset s).nvm := by
  have h := readJournal_noted s
  have hn : s.readJournal.resetN = s.resetN := (congrArg State.resetN h.only :)
  have hl : s.readJournal.railLow = s.railLow := (congrArg State.railLow h.only :)
  rcases ageOk_eq (leaveReset s) with he | he
  · rw [he]
    exact ⟨rfl, hn, hl, rfl, rfl⟩
  · rw [he]
    exact ⟨rfl, hn, hl, rfl, rfl⟩

/-- Without a passing Moult record that is not used, or with FULL_NEXT, the start is no quick one. -/
theorem quickStart_eq_false {s : State} (age : Bool)
    (h : s.nvm.moult ≠ 1 ∨ s.nvm.moultConsumed = true ∨ s.nvm.fullNext = true) : s.quickStart age = false := by
  unfold State.quickStart
  rcases h with h | h | h
  · rw [beq_eq_false_iff_ne.mpr h]
    rfl
  · rw [h, Bool.not_true, Bool.and_false, Bool.false_and, Bool.false_and, Bool.false_and]
  · rw [h, Bool.not_true, Bool.and_false, Bool.false_and]

/-- What a start shows. -/
theorem start_spec (s : State) (results : List Nat) : (s.start results).inReset = false ∧
    (s.start results).resetN = s.resetN ∧ (s.start results).railLow = s.railLow ∧ (s.start results).startAt = s.now ∧
    (s.start results).nvm.boot = (s.nvm.boot + 1) % 2 ^ 16 ∧ (s.start results).nvm.lifecycle = s.nvm.lifecycle ∧
    (s.readJournal.nvm.moult ≠ 1 ∨ s.nvm.moultConsumed = true ∨ s.readJournal.nvm.fullNext = true →
      (s.start results).flag .BIST_STAT_QUICK = false ∧ (s.start results).flag .HIF_READY_FULL = true) := by
  have h := start_sameBoot s results
  have hj := readJournal_noted s
  obtain ⟨hr, hn, hl, ha, hv⟩ := ageOk_leaveReset s
  generalize (leaveReset s).ageOk.1 = age at h
  generalize (leaveReset s).ageOk.2 = v at h hr hn hl ha hv
  obtain ⟨hquick, hfull⟩ := showStart_flags v (v.quickStart age) age
  have hk := showStart_kept v (v.quickStart age) age
  generalize showStart v (v.quickStart age) age = w at h hquick hfull hk
  have hw : w.nvm = (leaveReset s).nvm := (congrArg State.nvm hk :).trans hv
  refine ⟨h.inReset.trans ((congrArg State.inReset hk :).trans hr), h.resetN.trans ((congrArg State.resetN hk :).trans hn),
    h.railLow.trans ((congrArg State.railLow hk :).trans hl), h.startAt.trans ((congrArg State.startAt hk :).trans ha),
    h.boot.trans (congrArg Nvm.boot hw), h.lifecycle.trans ((congrArg Nvm.lifecycle hw).trans hj.lifecycle), fun hm => ?_⟩
  have hq : v.quickStart age = false := quickStart_eq_false age (by
    rw [hv]
    exact hm.imp_right fun hm => hm.imp_left hj.consumed.trans)
  rw [hq] at hquick hfull
  exact ⟨h.quick.trans hquick, (flag_of_reg (f := .HIF_READY_FULL) h.ready).trans hfull⟩

/-- RESET_N_RELEASE and BROWNOUT_RESET_EXIT, while the other cause lasts and when none does. -/
theorem start_of_causes {s : State} {a b : Bool} (results : List Nat) : ((withCauses s a b).start results).inReset = false ∧
    ((withCauses s a b).start results).resetN = a ∧ ((withCauses s a b).start results).railLow = b ∧
    ((withCauses s a b).start results).startAt = s.now ∧
    ((withCauses s a b).start results).nvm.boot = (s.nvm.boot + 1) % 2 ^ 16 ∧
    ((withCauses s a b).start results).nvm.lifecycle = s.nvm.lifecycle ∧
    (s.readJournal.nvm.moult ≠ 1 ∨ s.nvm.moultConsumed = true ∨ s.readJournal.nvm.fullNext = true →
      ((withCauses s a b).start results).flag .BIST_STAT_QUICK = false ∧
      ((withCauses s a b).start results).flag .HIF_READY_FULL = true) := by
  have h := start_spec (withCauses s a b) results
  rw [readJournal_withCauses] at h
  exact h

section
variable {s u : State} {dt : Nat} {results : List Nat} (hu : u = s.advance dt)
include hu

theorem exec_resetNRelease (hn : u.resetN = false) : exec (.resetNRelease dt results) s =
    .next (if u.railLow then { u with resetN := true } else (withCauses u true u.railLow).start results) := by
  subst hu
  exact congrArg Host.Outcome.next (if_neg (by rw [hn]; decide))

theorem exec_resetNRelease_of_low (hn : u.resetN = false) (hl : u.railLow = true) :
    exec (.resetNRelease dt results) s = .next { u with resetN := true } :=
  (exec_resetNRelease hu hn).trans (congrArg Host.Outcome.next (if_pos hl))

theorem exec_resetNRelease_of_good (hn : u.resetN = false) (hl : u.railLow = false) :
    exec (.resetNRelease dt results) s = .next ((withCauses u true false).start results) := by
  rw [exec_resetNRelease hu hn, hl, if_neg Bool.false_ne_true]

theorem exec_brownoutResetExit (hl : u.railLow = true) : exec (.brownoutResetExit dt results) s =
    .next (if u.resetN then (withCauses u u.resetN false).start results else { u with railLow := false }) := by
  subst hu
  exact congrArg Host.Outcome.next (if_pos hl)

theorem exec_brownoutResetExit_of_low (hl : u.railLow = true) (hn : u.resetN = false) :
    exec (.brownoutResetExit dt results) s = .next { u with railLow := false } :=
  (exec_brownoutResetExit hu hl).trans (congrArg Host.Outcome.next (if_neg (by rw [hn]; decide)))

theorem exec_brownoutResetExit_of_high (hl : u.railLow = true) (hn : u.resetN = true) :
    exec (.brownoutResetExit dt results) s = .next ((withCauses u true false).start results) := by
  rw [exec_brownoutResetExit hu hl, hn, if_pos rfl]

end

end Sys2Proof.Safety
end

section
/-! PROOF. The Moult, the shutdown, and a fault of a rail. -/

namespace Sys2Proof.Safety

open Sys2Proof.Machine

/-! ## RAIL_FAULT -/

theorem regs_assertTarget (s u : State) (t : Nat) : (s.assertTarget u t).regs = s.regs := by
  unfold State.assertTarget
  split <;> rfl

theorem regs_icxChange (s : State) (f : State → State) : (s.icxChange f).regs = (f s).regs := by
  have h1 : ((((f s).assertTarget s 0).assertTarget s 1).assertTarget s 2).regs = (f s).regs := by
    rw [regs_assertTarget, regs_assertTarget, regs_assertTarget]
  unfold State.icxChange
  extract_lets s1 s2
  split
  · exact (Posted.refl s2).hostDue.regs.trans h1
  · exact h1

theorem regs_makePending (s : State) (src : Nat) : (s.makePending src).regs = (s.setFlag (icxPlace 1 src) true).regs := by
  unfold State.makePending
  dsimp only
  split
  · rfl
  · split <;> rfl

/-- A raise of a source that is not masked: it is pending, and counted. -/
theorem raise_unmasked {s : State} {src : Nat} (h : s.icxStopped = false) (hm : s.flag (icxPlace 0 src) = false) :
    (s.raise src).regs = ((s.count (icxCounter src) 1).setFlag (icxPlace 1 src) true).regs := by
  unfold State.raise
  rw [if_neg (by rw [h]; decide), regs_icxChange]
  unfold State.applyRaise
  extract_lets t
  rw [if_neg (by rw [hm]; decide)]
  exact regs_makePending t src

theorem railFault_spec {u : State} (h : u.icxStopped = false) (hm : u.flag (icxPlace 0 267) = false) :
    (u.raiseFast 11).flag (icxPlace 1 267) = true ∧
    (u.raiseFast 11).fld (icxCounter 267) = min 255 (u.fld (icxCounter 267) + 1) := by
  have hregs : (u.raiseFast 11).regs = _ := raise_unmasked h hm
  constructor
  · rw [flag_congr hregs]
    exact flag_setFlag_self _ (icxPlace 1 267) true (by decide) (by decide)
  · rw [fld_congr hregs]
    refine (fld_of_reg (s := u.count (icxCounter 267) 1) (reg_setFlag_ne _ true (by decide))).trans ?_
    exact fld_count_self u (icxCounter 267) 1 (by decide) (by decide)

theorem exec_railFault_of_alive {s u : State} {dt : Nat} (hu : u = s.advance dt) (h : u.alive = true) :
    exec (.railFault dt) s = .next (u.raiseFast 11) := by
  subst hu
  exact congrArg Host.Outcome.next (if_pos h)

/-! ## MOULT_START -/

/-- The state that the Moult starts from: the open tracks are flushed, the self-tests aborted. -/
def readyMoult (s : State) : State :=
  let s1 := (s.flushAll.abortTests).setFlag .PWR_STATE_PENDING false
  if s1.coldRefused then s1 else s1.releaseCold

/-- The Moult begins. -/
def beginMoult (s : State) : State := { s with power := { request := none, waking := false, moulting := true } }

theorem exec_moultStart_of_asked {s u : State} {dt : Nat} (hu : u = s.advance dt) (ha : u.alive = true)
    (hr : u.power.request.map (·.target) = some 3) (hs : u.settled = true) (ht : u.thermal.trip = none) :
    exec (.moultStart dt) s =
      .next ((beginMoult (readyMoult u)).allSafe.linkReset .down (beginMoult (readyMoult u)).pcie.perst) := by
  subst hu
  exact congrArg Host.Outcome.next (if_pos (by rw [ha, hr, hs, ht]; decide))

theorem readyMoult_spec (u : State) : (readyMoult u).off = u.off ∧ (readyMoult u).flag .PWR_STATE_PENDING = false := by
  have h : SameBoot u u.flushAll.abortTests := (SameBoot.refl u).flushTracks.abortTests
  unfold readyMoult
  extract_lets s1
  have h1 : s1.off = u.off := h.off
  have h2 : s1.flag .PWR_STATE_PENDING = false := flag_setFlag_bit _ false
  split
  · exact ⟨h1, h2⟩
  · exact ⟨h1, h2⟩

theorem moultStart_spec (u : State) {t : State}
    (ht : t = (beginMoult (readyMoult u)).allSafe.linkReset .down (beginMoult (readyMoult u)).pcie.perst) :
    t.power = ⟨none, false, true⟩ ∧ t.pcie.link = .down ∧ t.flag .PWR_STATE_PENDING = false ∧
    (∀ n, n < 34 → (t.ring n).enabled = false) ∧ t.off = u.off := by
  obtain ⟨hoff, hpending⟩ := readyMoult_spec u
  generalize readyMoult u = v at hoff hpending ht
  have hb : SameBoot (beginMoult v) t := ht ▸ (SameBoot.refl _).allSafe.linkReset
  have hl : LinkGone (beginMoult v).allSafe t .down (beginMoult v).pcie.perst := ht ▸ linkReset_gone _ _ _
  refine ⟨hb.power, hl.link, ?_, fun n _ => congrArg Ring.enabled (hl.rings n), hb.off.trans hoff⟩
  exact (flag_of_reg (f := .PWR_STATE_PENDING) hb.shown).trans hpending

/-! ## The program sequences of the Moult -/

/-- The program sequences may run, at the time of `s₀`. -/
structure Burning (s₀ s : State) : Prop where
  cold : s.coldRefused = false
  trip : s.thermal.trip = none
  now : s.now = s₀.now

/-- A state with what the latest Moult left: its verdict, not used, and the age timer charged. -/
structure MoultKept (s : State) (verdict at_ : Nat) : Prop where
  moult : s.nvm.moult = verdict
  fresh : s.nvm.moultConsumed = false
  charged : s.nvm.ageCharged = some at_

theorem Burned.burning {s₀ s t : State} (h : Burning s₀ s) (ht : Burned s t) : Burning s₀ t := by
  refine ⟨?_, (congrArg (fun x => x.thermal.trip) ht.rest :).trans h.trip, (congrArg State.now ht.rest :).trans h.now⟩
  exact (flag_of_reg (f := .THM_STAT_COLD_LIMIT) (ht.regs _ (by decide))).trans h.cold

theorem Burned.moultKept {s t : State} {v a : Nat} (h : MoultKept s v a) (ht : Burned s t) : MoultKept t v a :=
  ⟨(congrArg (fun x => x.nvm.moult) ht.rest :).trans h.moult, (congrArg (fun x => x.nvm.moultConsumed) ht.rest :).trans h.fresh,
    (congrArg (fun x => x.nvm.ageCharged) ht.rest :).trans h.charged⟩

/-- A sequence that is done leaves the queue, the temperature and the time. -/
structure DoneKept (s t : State) : Prop where
  jobs : t.nvm.jobs = s.nvm.jobs
  regs : t.regs = s.regs
  trip : t.thermal.trip = s.thermal.trip
  now : t.now = s.now

theorem Posted.doneKept {s t u : State} (h : DoneKept s t) (hu : Posted t u) : DoneKept s u :=
  ⟨(congrArg (fun x => x.nvm.jobs) hu :).trans h.jobs, hu.regs.trans h.regs,
    (congrArg (fun x => x.thermal.trip) hu :).trans h.trip, (congrArg State.now hu :).trans h.now⟩

theorem takeNote_doneKept (s : State) (n : NvmNote) : DoneKept s (s.takeNote n) := by
  cases n <;> exact ⟨rfl, rfl, rfl, rfl⟩

theorem DoneKept.setFaults {s t : State} (h : DoneKept s t) {x} :
    DoneKept s { t with nvm := { t.nvm with faults := x } } := ⟨h.jobs, h.regs, h.trip, h.now⟩

theorem nvmDone_doneKept (s : State) (seq : Nat) (note : NvmNote) : DoneKept s (s.nvmDone seq note) := by
  have h := takeNote_doneKept s note
  unfold State.nvmDone
  extract_lets t
  have ht : DoneKept s t := h
  split
  · exact ht.setFaults
  · exact (Posted.refl t).finishWaiting.doneKept ht
  · exact (Posted.refl t).finishWaiting.doneKept ht
  · exact (Posted.refl t).finishWaiting.doneKept ht
  · exact ⟨ht.jobs, ht.regs, ht.trip, ht.now⟩
  · exact ht

theorem DoneKept.burning {s₀ s t : State} (h : Burning s₀ s) (ht : DoneKept s t) : Burning s₀ t :=
  ⟨(flag_congr ht.regs _).trans h.cold, ht.trip.trans h.trip, ht.now.trans h.now⟩

/-- A sequence writes, and is done: either it is an erasure, or its note is taken. -/
theorem runJob_cases (s : State) (j : NvmJob) : ∃ t, Burned s t ∧ (s.runJob j = t ∨ ∃ seq note, s.runJob j = t.nvmDone seq note) := by
  cases j with
  | record type body note => exact ⟨_, (Burned.refl s).writeRecord, .inr ⟨_, _, rfl⟩⟩
  | chunk a data note => exact ⟨_, (Burned.refl s).writeNvm, .inr ⟨_, _, rfl⟩⟩
  | erase b =>
    refine ⟨_, ?_, .inl rfl⟩
    unfold State.runJob
    dsimp only
    split
    · exact (Burned.refl s).eraseBlock
    · exact (Burned.refl s).eraseBlock.journalWear

/-- A sequence adds at most records of the wear counters. -/
theorem runJob_queue {s₀ s : State} (j : NvmJob) (h : Burning s₀ s) : Burning s₀ (s.runJob j) ∧
    ∃ w, (s.runJob j).nvm.jobs = s.nvm.jobs ++ w ∧ ∀ x ∈ w, IsWear x := by
  obtain ⟨t, ht, hj | ⟨seq, note, hj⟩⟩ := runJob_cases s j
  · rw [hj]
    exact ⟨ht.burning h, ht.jobs⟩
  · have hd := nvmDone_doneKept t seq note
    rw [hj]
    refine ⟨hd.burning (ht.burning h), ?_⟩
    rw [hd.jobs]
    exact ht.jobs

theorem runJob_wear_moultKept {s : State} {j : NvmJob} {v a : Nat} (hj : IsWear j) (h : MoultKept s v a) :
    MoultKept (s.runJob j) v a := by
  match j, hj with
  | .record type body (.wear m), _ =>
    have ht : MoultKept (s.writeRecord type body (.wear m)) v a := (Burned.refl s).writeRecord.moultKept h
    exact ⟨ht.moult, ht.fresh, ht.charged⟩

/-- The record of a Moult takes its verdict, and charges the age timer. -/
theorem runJob_moult {s₀ s : State} {type : Nat} {body : List Byte} {r : MoultRecord} (h : Burning s₀ s) :
    MoultKept (s.runJob (.record type body (.moult r))) r.verdict s₀.now := by
  have ht := (Burned.refl s).writeRecord (type := type) (body := body) (note := .moult r) |>.burning h
  exact ⟨rfl, rfl, congrArg some ht.now⟩

/-- The queue without its first sequence. -/
def dropJob (s : State) (rest : List NvmJob) : State := { s with nvm := { s.nvm with jobs := rest } }

theorem runJobs_cons {s : State} {fuel : Nat} {j : NvmJob} {rest : List NvmJob} (h : s.nvm.jobs = j :: rest) :
    State.runJobs (fuel + 1) s = State.runJobs fuel ((dropJob s rest).runJob j) := by
  rw [State.runJobs, h]
  rfl

theorem Burning.dropJob {s₀ s : State} (h : Burning s₀ s) {rest : List NvmJob} : Burning s₀ (dropJob s rest) :=
  ⟨h.cold, h.trip, h.now⟩

/-- While only wear counters wait, the sequences leave what the Moult left. -/
theorem runJobs_wears {s₀ s : State} {fuel v a : Nat} (h : Burning s₀ s) (hw : ∀ x ∈ s.nvm.jobs, IsWear x)
    (hk : MoultKept s v a) : MoultKept (State.runJobs fuel s) v a := by
  induction fuel generalizing s with
  | zero => exact hk
  | succ fuel ih =>
    cases hj : s.nvm.jobs with
    | nil => rw [State.runJobs, hj]; exact hk
    | cons j rest =>
      rw [hj] at hw
      rw [runJobs_cons hj]
      obtain ⟨hb, w, hjobs, hall⟩ := runJob_queue j (h.dropJob (rest := rest))
      refine ih hb (fun x hx => ?_) (runJob_wear_moultKept (hw j List.mem_cons_self) ⟨hk.moult, hk.fresh, hk.charged⟩)
      rw [hjobs] at hx
      exact (List.mem_append.mp hx).elim (fun hx => hw x (List.mem_cons_of_mem j hx)) (hall x)

/-- With the record of the Moult in the queue, wear counters behind it, and fuel enough, it is written. -/
theorem runJobs_moult {s₀ s : State} {fuel type : Nat} {body : List Byte} {r : MoultRecord} {pre wears : List NvmJob}
    (h : Burning s₀ s) (hj : s.nvm.jobs = pre ++ .record type body (.moult r) :: wears) (hw : ∀ x ∈ wears, IsWear x)
    (hf : pre.length < fuel) : MoultKept (State.runJobs fuel s) r.verdict s₀.now := by
  induction pre generalizing s fuel wears with
  | nil =>
    obtain ⟨fuel, rfl⟩ : ∃ n, fuel = n + 1 := ⟨fuel - 1, by simp only [List.length_nil] at hf; omega⟩
    rw [runJobs_cons hj]
    obtain ⟨hb, w, hjobs, hall⟩ := runJob_queue (.record type body (.moult r)) (h.dropJob (rest := wears))
    refine runJobs_wears hb (fun x hx => ?_) (runJob_moult h.dropJob)
    rw [hjobs] at hx
    exact (List.mem_append.mp hx).elim (hw x) (hall x)
  | cons j pre ih =>
    obtain ⟨fuel, rfl⟩ : ∃ n, fuel = n + 1 := ⟨fuel - 1, by omega⟩
    have hcons : s.nvm.jobs = j :: (pre ++ .record type body (.moult r) :: wears) := hj
    rw [runJobs_cons hcons]
    obtain ⟨hb, w, hjobs, hall⟩ := runJob_queue j (h.dropJob (rest := pre ++ .record type body (.moult r) :: wears))
    refine ih (wears := wears ++ w) hb ?_ (fun x hx => (List.mem_append.mp hx).elim (hw x) (hall x)) ?_
    · rw [hjobs]
      simp only [dropJob, List.append_assoc, List.cons_append]
    · rw [List.length_cons] at hf
      omega

/-! ## OFF -/

/-- The device off, before its outputs end. -/
def switchOff (s : State) : State :=
  { s with
    off := true
    pcie := { s.pcie with link := .down, heldMsgs := [], heldWrites := [], heldItems := [] }
    power := { request := none, waking := false, moulting := false }
    nvm := { s.nvm with jobs := [], cold := [] } }

theorem goOff_eq (s : State) : s.goOff = (switchOff s.cutJob).endPulses := rfl

/-- The device goes off. -/
theorem goOff_spec (s : State) : s.goOff.off = true ∧ s.goOff.power.moulting = false ∧ s.goOff.nvm.jobs = [] ∧
    s.goOff.nvm.moult = s.nvm.moult ∧ s.goOff.nvm.moultConsumed = s.nvm.moultConsumed ∧
    s.goOff.nvm.ageCharged = s.nvm.ageCharged := by
  have hc := (cutJob_burned s).rest
  have hp : Pinned (switchOff s.cutJob) s.goOff := goOff_eq s ▸ (Pinned.refl _).endPulses
  refine ⟨hp.off, congrArg Power.moulting hp.power, congrArg Nvm.jobs hp.nvm, (congrArg Nvm.moult hp.nvm).trans ?_,
    (congrArg Nvm.moultConsumed hp.nvm).trans ?_, (congrArg Nvm.ageCharged hp.nvm).trans ?_⟩
  · exact (congrArg (fun t => t.nvm.moult) hc :)
  · exact (congrArg (fun t => t.nvm.moultConsumed) hc :)
  · exact (congrArg (fun t => t.nvm.ageCharged) hc :)

/-! ## MOULT_COMPLETE -/

/-- A record joins the queue where the sequences may run. -/
theorem program_of_burning {s₀ s : State} (h : Burning s₀ s) (j : NvmJob) :
    s.program j = { s with nvm := { s.nvm with jobs := s.nvm.jobs ++ [j] } } := by
  unfold State.program
  rw [h.cold, h.trip]
  rfl

/-- The queue with the record of the Moult at its end. -/
theorem journalOpaque_moult {s₀ s : State} (h : Burning s₀ s) (r : MoultRecord) :
    Burning s₀ (s.journalOpaque 3 (.moult r)) ∧
    ∃ body, (s.journalOpaque 3 (.moult r)).nvm.jobs = s.nvm.jobs ++ [.record 3 body (.moult r)] := by
  rw [State.journalOpaque, State.journal, program_of_burning h]
  exact ⟨⟨h.cold, h.trip, h.now⟩, _, rfl⟩

theorem Burning.free {s₀ s : State} (h : Burning s₀ s) : Burning s₀ s.free.2 := ⟨h.cold, h.trip, h.now⟩

theorem Burning.setFld {s₀ s : State} (h : Burning s₀ s) {f : Fld} {v : Nat} (hf : Reg.THM_STAT ≠ f.addr := by decide) :
    Burning s₀ (s.setFld f v) :=
  ⟨(flag_of_reg (f := .THM_STAT_COLD_LIMIT) (reg_setFld_ne s v hf)).trans h.cold, h.trip, h.now⟩

theorem Burning.moultPatterns {s₀ s : State} (h : Burning s₀ s) {results : List Nat} :
    Burning s₀ (s.moultPatterns results).2 := by
  unfold State.moultPatterns
  dsimp only
  split
  · exact h.free
  · exact h

theorem Burning.faultRecord {s₀ s : State} (h : Burning s₀ s) {r : FaultRec} : Burning s₀ (s.faultRecord r) := by
  have h1 : Burning s₀ { s with nvm := { s.nvm with faultSeq := s.nvm.faultSeq + 1 } } := ⟨h.cold, h.trip, h.now⟩
  unfold State.faultRecord
  dsimp only
  rw [State.journal, program_of_burning h1]
  exact ⟨h1.cold, h1.trip, h1.now⟩

theorem Burning.moultFault {s₀ s : State} (h : Burning s₀ s) {v patterns : Nat} : Burning s₀ (s.moultFault v patterns) := by
  unfold State.moultFault
  split
  · exact h
  · exact h.faultRecord

/-- The state with the record of the Moult in the queue. -/
def recordMoult (s : State) (results : List Nat) : State :=
  (((s.moultPatterns results).2.setFld .BIST_PATCNT_COUNT (s.moultPatterns results).1).moultFault (moultVerdict results)
    (s.moultPatterns results).1).journalOpaque 3 (.moult (moultRecord (s.moultPatterns results).1 results))

section
variable {s u : State} {dt : Nat} {results : List Nat} (hu : u = s.advance dt) (ha : u.alive = true)
  (hm : u.power.moulting = true) (ht : u.thermal.trip = none)
include hu ha hm ht

theorem exec_moultComplete_of_cold (hc : u.coldRefused = true) :
    exec (.moultComplete dt results) s = .next u.goOff := by
  subst hu
  exact congrArg Host.Outcome.next ((if_pos (by rw [ha, hm, ht]; decide)).trans (if_pos hc))

theorem exec_moultComplete_of_warm (hc : u.coldRefused = false) : exec (.moultComplete dt results) s =
    .next (State.runJobs (2 * (recordMoult u results).nvm.jobs.length + 8) (recordMoult u results)).goOff := by
  subst hu
  exact congrArg Host.Outcome.next ((if_pos (by rw [ha, hm, ht]; decide)).trans (if_neg (by rw [hc]; decide)))

end

/-- The record of the Moult is written before the device goes off. -/
theorem runJobs_recordMoult {u : State} (results : List Nat) (hc : u.coldRefused = false) (ht : u.thermal.trip = none) :
    MoultKept (State.runJobs (2 * (recordMoult u results).nvm.jobs.length + 8) (recordMoult u results))
      (moultVerdict results) u.now := by
  have h0 : Burning u u := ⟨hc, ht, rfl⟩
  have h1 : Burning u (((u.moultPatterns results).2.setFld .BIST_PATCNT_COUNT (u.moultPatterns results).1).moultFault
      (moultVerdict results) (u.moultPatterns results).1) := h0.moultPatterns.setFld.moultFault
  obtain ⟨hb, body, hjobs⟩ := journalOpaque_moult h1 (moultRecord (u.moultPatterns results).1 results)
  have hlen := congrArg List.length hjobs
  rw [List.length_append] at hlen
  exact runJobs_moult (wears := []) hb hjobs (fun x hx => absurd hx List.not_mem_nil) (by unfold recordMoult; omega)

/-- MOULT_COMPLETE ends in OFF, with the verdict written but while it is too cold to write. -/
theorem moultComplete_spec {s u : State} {dt : Nat} (hu : u = s.advance dt) (ha : u.alive = true)
    (hm : u.power.moulting = true) (ht : u.thermal.trip = none) (results : List Nat) :
    ∃ t, exec (.moultComplete dt results) s = .next t ∧ t.off = true ∧ t.power.moulting = false ∧
      (u.coldRefused = false → t.nvm.moult = moultVerdict results ∧ t.nvm.moultConsumed = false ∧
        t.nvm.ageCharged = some u.now ∧ t.nvm.jobs = []) ∧
      (u.coldRefused = true → t.nvm.moult = u.nvm.moult) := by
  cases hc : u.coldRefused with
  | true =>
    obtain ⟨hoff, hend, -, hkept, -, -⟩ := goOff_spec u
    exact ⟨_, exec_moultComplete_of_cold hu ha hm ht hc, hoff, hend, fun h => Bool.noConfusion h, fun _ => hkept⟩
  | false =>
    have h := runJobs_recordMoult results hc ht
    obtain ⟨hoff, hend, hjobs, hkept, hfresh, hcharged⟩ :=
      goOff_spec (State.runJobs (2 * (recordMoult u results).nvm.jobs.length + 8) (recordMoult u results))
    exact ⟨_, exec_moultComplete_of_warm hu ha hm ht hc, hoff, hend,
      fun _ => ⟨hkept.trans h.moult, hfresh.trans h.fresh, hcharged.trans h.charged, hjobs⟩, fun h => Bool.noConfusion h⟩

/-! ## BIST_SHUTDOWN -/

/-- FULL_NEXT takes a value, and the journal notes it where it is another. -/
def writeFullNext (s : State) (b : Bool) : State :=
  if s.flag .BIST_CTL_FULL_NEXT = b then s else (s.setFlag .BIST_CTL_FULL_NEXT b).journalOpaque 8 (.fullNext b)

theorem Filed.journalOpaque (s : State) (type : Nat) (note : NvmNote) : Filed s (s.journalOpaque type note) := by
  rw [State.journalOpaque, State.journal]
  exact .program s _

theorem rights_program (s : State) (j : NvmJob) : (s.program j).nvm.rights = s.nvm.rights := by
  unfold State.program
  split
  · split
    · rfl
    · exact congrArg Nvm.rights (State.count_nvm s .THM_NVM_Q_LOST 1)
  · split
    · rfl
    · rfl

theorem rights_journalOpaque (s : State) (type : Nat) (note : NvmNote) :
    (s.journalOpaque type note).nvm.rights = s.nvm.rights := by
  rw [State.journalOpaque, State.journal, rights_program]

/-- The state of the shutdown: the request, RUN, the rights, and the temperature. -/
structure SameShutdown (s t : State) : Prop where
  power : t.power = s.power
  run : t.run = s.run
  rights : t.nvm.rights = s.nvm.rights
  thermal : t.thermal = s.thermal

theorem SameShutdown.trans {s t u : State} (h : SameShutdown s t) (h' : SameShutdown t u) : SameShutdown s u :=
  ⟨h'.power.trans h.power, h'.run.trans h.run, h'.rights.trans h.rights, h'.thermal.trans h.thermal⟩

theorem setFlag_sameShutdown (s : State) {f : Fld} (b : Bool) (hf : Fld.HIF_RUN_RUN.addr ≠ f.addr) :
    SameShutdown s (s.setFlag f b) := ⟨rfl, flag_setFlag_apart s b hf, rfl, rfl⟩

theorem journalOpaque_sameShutdown (s : State) (type : Nat) (note : NvmNote) :
    SameShutdown s (s.journalOpaque type note) := by
  have hf := Filed.journalOpaque s type note
  exact ⟨(congrArg State.power hf.rest :), flag_of_reg (f := .HIF_RUN_RUN) (hf.regs _ (by decide)),
    rights_journalOpaque s type note, (congrArg State.thermal hf.rest :)⟩

/-- What the writing of FULL_NEXT leaves. -/
theorem writeFullNext_spec (s : State) (b : Bool) :
    (writeFullNext s b).flag .BIST_CTL_FULL_NEXT = b ∧ SameShutdown s (writeFullNext s b) := by
  unfold writeFullNext
  split
  · next h => exact ⟨h, rfl, rfl, rfl, rfl⟩
  · have hset := flag_setFlag_self s .BIST_CTL_FULL_NEXT b rfl (by decide)
    have hkept := setFlag_sameShutdown s b (f := .BIST_CTL_FULL_NEXT) (by decide)
    generalize s.setFlag .BIST_CTL_FULL_NEXT b = u at hset hkept
    have hreg := (Filed.journalOpaque u 8 (.fullNext b)).regs Reg.BIST_CTL (by decide)
    exact ⟨(flag_of_reg (f := .BIST_CTL_FULL_NEXT) hreg).trans hset, hkept.trans (journalOpaque_sameShutdown u 8 _)⟩

theorem bistCtl_eq (s : State) (v : Nat) : s.bistCtl v =
    if getBits v 15 0 = 0x4D4F then (writeFullNext s (bitOf v 16)).askShutdown else writeFullNext s (bitOf v 16) := rfl

/-- The clean shutdown is asked for. -/
def requestShutdown (s : State) : State := { s with power := { s.power with request := some ⟨3, none⟩, waking := false } }

theorem askShutdown_of_allowed {s : State} (h0 : s.nvm.rights ≠ 0) (h5 : s.nvm.rights ≠ 5) (ht : s.thermal.trip = none) :
    ∃ n, s.askShutdown = (if (requestShutdown (s.finishWaiting n .precondition 0)).run then
      (requestShutdown (s.finishWaiting n .precondition 0)).stopRun
      else requestShutdown (s.finishWaiting n .precondition 0)).setFlag .PWR_STATE_PENDING true := by
  have hno : ¬ (s.nvm.rights = 0 ∨ s.nvm.rights = 5 ∨ s.thermal.trip.isSome = true) := by
    rw [ht]
    rintro (h | h | h)
    · exact h0 h
    · exact h5 h
    · exact absurd h (by decide)
  exact ⟨_, if_neg hno⟩

theorem stopRun_spec (s : State) : s.stopRun.run = false ∧ s.stopRun.power = s.power ∧
    s.stopRun.flag .BIST_CTL_FULL_NEXT = s.flag .BIST_CTL_FULL_NEXT :=
  ⟨flag_setFlag_bit s false, rfl, flag_setFlag_apart s false (by decide)⟩

theorem askShutdown_spec {s : State} (h0 : s.nvm.rights ≠ 0) (h5 : s.nvm.rights ≠ 5) (ht : s.thermal.trip = none) :
    s.askShutdown.power.request = some ⟨3, none⟩ ∧ s.askShutdown.flag .PWR_STATE_PENDING = true ∧
    s.askShutdown.run = false ∧ s.askShutdown.flag .BIST_CTL_FULL_NEXT = s.flag .BIST_CTL_FULL_NEXT := by
  obtain ⟨n, hx⟩ := askShutdown_of_allowed h0 h5 ht
  have hregs : (requestShutdown (s.finishWaiting n .precondition 0)).regs = s.regs :=
    (Posted.refl s).finishWaiting.regs
  have hreq : (requestShutdown (s.finishWaiting n .precondition 0)).power.request = some ⟨3, none⟩ := rfl
  rw [hx]
  generalize requestShutdown (s.finishWaiting n .precondition 0) = u at hregs hreq
  obtain ⟨hrun, hpower, hfull⟩ := stopRun_spec u
  have hw : ∃ w, (if u.run then u.stopRun else u) = w ∧ w.run = false ∧ w.power.request = some ⟨3, none⟩ ∧
      w.flag .BIST_CTL_FULL_NEXT = s.flag .BIST_CTL_FULL_NEXT := by
    refine ⟨_, rfl, ?_⟩
    split
    · exact ⟨hrun, (congrArg Power.request hpower).trans hreq, hfull.trans (flag_congr hregs _)⟩
    · next h => exact ⟨by simpa using h, hreq, flag_congr hregs _⟩
  obtain ⟨w, hwx, hr, hp, hf⟩ := hw
  rw [hwx]
  exact ⟨(congrArg Power.request (State.setFlag_power w _ true)).trans hp, flag_setFlag_bit w true,
    (flag_setFlag_apart w true (by decide)).trans hr, (flag_setFlag_apart w true (by decide)).trans hf⟩

/-! ## The whole -/

/-- Settles O52: a reset is `resetAll_spec`, a start `start_spec`, the Moult `moultStart_spec` and `runJobs_moult`, and its end
`goOff_spec`. -/
theorem resetStartAndMoult : Obligations.ResetStartAndMoult := by
  refine ⟨?_, ?_, ?_, ?_⟩
  · intro s dt c hc u
    rcases List.mem_cons.mp hc with rfl | hc
    · exact ⟨_, exec_resetNAssert rfl, (resetAll_spec _).parts rfl rfl⟩
    · rw [List.mem_singleton.mp hc]
      exact ⟨_, exec_brownout rfl, (resetAll_spec _).parts rfl rfl⟩
  · intro s dt results u
    refine ⟨fun hn hl => exec_resetNRelease_of_low rfl hn hl, fun hl hn => exec_brownoutResetExit_of_low rfl hl hn,
      fun c hc => ?_⟩
    rcases hc with ⟨rfl, hn, hl⟩ | ⟨rfl, hl, hn⟩
    · exact ⟨_, exec_resetNRelease_of_good rfl hn hl, start_of_causes results⟩
    · exact ⟨_, exec_brownoutResetExit_of_high rfl hl hn, start_of_causes results⟩
  · intro s dt u
    refine ⟨fun ha hs hm => ?_, fun ha hr hs ht => ?_, fun results ha hm ht => ?_⟩
    · exact ⟨_, exec_railFault_of_alive rfl ha, railFault_spec hs hm⟩
    · exact ⟨_, exec_moultStart_of_asked rfl ha hr hs ht, moultStart_spec u rfl⟩
    · exact moultComplete_spec rfl ha hm ht results
  · intro s v hok
    have hx : exec (.bistShutdown v) s = .next (s.bistCtl v.toNat) := congrArg Host.Outcome.next (pf1Write_accessible hok _)
    obtain ⟨hfull, hpower, hrun, hrights, hthermal⟩ := writeFullNext_spec s (bitOf v.toNat 16)
    refine ⟨fun hv h0 h5 ht => ?_, fun hv => ?_⟩
    · rw [hx, bistCtl_eq, if_pos hv]
      obtain ⟨hreq, hpending, hstop, hkept⟩ := askShutdown_spec (s := writeFullNext s (bitOf v.toNat 16)) (hrights ▸ h0)
        (hrights ▸ h5) ((congrArg Thermal.trip hthermal).trans ht)
      exact ⟨_, rfl, hreq, hpending, hstop, hkept.trans hfull⟩
    · rw [hx, bistCtl_eq, if_neg hv]
      exact ⟨_, rfl, hpower, hfull, hrun⟩

end Sys2Proof.Safety
end

section
/-! PROOF. Numbers as bytes, and the entries of stream SQs (R342). -/

namespace Sys2Proof.Safety

open Sys2Proof.Machine

/-! ## Numbers as bytes -/

theorem leNat_leBytes (n v : Nat) : leNat (leBytes n v) = v % 256 ^ n := by
  induction n generalizing v with
  | zero => rw [Nat.pow_zero, Nat.mod_one]; rfl
  | succ n ih =>
    rw [leBytes, leNat, ih, BitVec.toNat_ofNat, show 256 ^ (n + 1) = 256 * 256 ^ n from Nat.pow_succ',
      Nat.mod_mul]

theorem leBytes_leNat (bs : List Byte) : leBytes bs.length (leNat bs) = bs := by
  induction bs with
  | nil => rfl
  | cons b bs ih =>
    have hlow : BitVec.ofNat 8 (b.toNat + 256 * leNat bs) = b := by bv_omega
    have hhigh : (b.toNat + 256 * leNat bs) / 256 = leNat bs := by omega
    rw [leNat, List.length_cons, leBytes, hlow, hhigh, ih]

/-- The bytes of the number at an offset are those that stand there. -/
theorem leBytes_bytesAt {d : List Byte} {o n : Nat} (h : o + n ≤ d.length) :
    leBytes n (bytesAt d o n) = (d.drop o).take n := by
  have hlen : ((d.drop o).take n).length = n := by
    rw [List.length_take, List.length_drop]
    omega
  have hback := leBytes_leNat ((d.drop o).take n)
  rwa [hlen] at hback

theorem drop_eq_take_append_drop (d : List Byte) (o n : Nat) : d.drop o = (d.drop o).take n ++ d.drop (o + n) := by
  rw [← List.drop_drop, List.take_append_drop]

/-- A number that stands after `a` reads as written, as far as its bytes reach. -/
theorem bytesAt_append_leBytes (a c : List Byte) {o n : Nat} (v : Nat) (ho : o = a.length) :
    bytesAt (a ++ leBytes n v ++ c) o n = v % 256 ^ n := by
  rw [bytesAt, ho, List.append_assoc, List.drop_left, List.take_left' (length_leBytes n v), leNat_leBytes]

theorem allZero_iff (bs : List Byte) : allZero bs = true ↔ bs = List.replicate bs.length 0 := by
  simp only [allZero, List.all_eq_true, beq_iff_eq, List.eq_replicate_iff, true_and]

/-! ## Entries of stream SQs -/

/-- The 64 bytes of an entry of a stream SQ: ADDR, LENGTH, TAG and zeros (R342). -/
def streamEntry (addr len tag : Nat) : List Byte :=
  leBytes 8 addr ++ leBytes 4 len ++ leBytes 2 tag ++ List.replicate 50 0

theorem streamEntry_addr (addr len tag : Nat) : bytesAt (streamEntry addr len tag) 0 8 = addr % 2 ^ 64 := by
  rw [streamEntry, List.append_assoc, List.append_assoc]
  exact bytesAt_append_leBytes [] _ addr rfl

theorem streamEntry_len (addr len tag : Nat) : bytesAt (streamEntry addr len tag) 8 4 = len % 2 ^ 32 := by
  rw [streamEntry, List.append_assoc]
  exact bytesAt_append_leBytes _ _ len (length_leBytes 8 addr).symm

theorem streamEntry_tag (addr len tag : Nat) : bytesAt (streamEntry addr len tag) 12 2 = tag % 2 ^ 16 :=
  bytesAt_append_leBytes _ _ tag (by rw [List.length_append, length_leBytes, length_leBytes])

theorem streamEntry_rest (addr len tag : Nat) : (streamEntry addr len tag).drop 14 = List.replicate 50 0 :=
  List.drop_left' (by simp only [List.length_append, length_leBytes])

/-- 64 bytes with zeros after TAG are the entry of what stands in their fields. -/
theorem eq_streamEntry {d : List Byte} (hlen : d.length = 64) (hz : allZero (d.drop 14) = true) :
    d = streamEntry (bytesAt d 0 8) (bytesAt d 8 4) (bytesAt d 12 2) := by
  have hrest : d.drop 14 = List.replicate 50 0 := by
    rw [(allZero_iff _).mp hz, List.length_drop, hlen]
  rw [streamEntry, leBytes_bytesAt (by omega), leBytes_bytesAt (by omega), leBytes_bytesAt (by omega), ← hrest,
    List.append_assoc, List.append_assoc]
  calc d = d.take 8 ++ d.drop 8 := (List.take_append_drop 8 d).symm
    _ = d.take 8 ++ ((d.drop 8).take 4 ++ d.drop 12) := congrArg _ (drop_eq_take_append_drop d 8 4)
    _ = d.take 8 ++ ((d.drop 8).take 4 ++ ((d.drop 12).take 2 ++ d.drop 14)) :=
      congrArg (fun l => d.take 8 ++ ((d.drop 8).take 4 ++ l)) (drop_eq_take_append_drop d 12 2)

/-- The buffer that the fields of an entry name, still empty. -/
def entryBuf (d : List Byte) : Buf :=
  { addr := bytesAt d 0 8, len := bytesAt d 8 4, tag := bytesAt d 12 2, used := 0, items := 0, firstAt := 0, lastTick := 0
    lastTag := 0 }

/-- An entry is read as a buffer where its fields and its reserved bytes keep the layout (R342). -/
theorem parseBuf_eq_some_iff (d : List Byte) (b : Buf) : parseBuf d = some b ↔
    (bytesAt d 0 8 % 64 = 0 ∧ bytesAt d 8 4 % 64 = 0 ∧ 64 ≤ bytesAt d 8 4 ∧ allZero (d.drop 14) = true) ∧
      entryBuf d = b := by
  unfold parseBuf
  dsimp only
  split
  · next h => exact Option.some_inj.trans (and_iff_right h).symm
  · next h => exact iff_of_false nofun fun hb => h hb.1

/-- Settles O41: the fields of an entry read as written (`streamEntry_addr` and those after it), and an entry that
`parseBuf` takes is `streamEntry` of its fields. -/
theorem streamEntriesReadBackAsWritten : Obligations.StreamEntriesReadBackAsWritten := by
  refine ⟨fun addr len tag ha ha64 hl hl64 hl0 ht => ?_, fun d b hlen hb => ?_⟩
  · have haddr := (streamEntry_addr addr len tag).trans (Nat.mod_eq_of_lt ha)
    have hsize := (streamEntry_len addr len tag).trans (Nat.mod_eq_of_lt hl)
    have htag := (streamEntry_tag addr len tag).trans (Nat.mod_eq_of_lt ht)
    refine (parseBuf_eq_some_iff (streamEntry addr len tag) _).mpr ⟨⟨?_, ?_, ?_, ?_⟩, ?_⟩
    · rw [haddr, ha64]
    · rw [hsize, hl64]
    · rw [hsize]; exact hl0
    · rw [streamEntry_rest]; decide
    · rw [entryBuf, haddr, hsize, htag]
  · obtain ⟨⟨haddr, hsize, hmin, hz⟩, rfl⟩ := (parseBuf_eq_some_iff d b).mp hb
    exact ⟨haddr, hsize, hmin, eq_streamEntry hlen hz⟩

end Sys2Proof.Safety
end

section
/-! PROOF. Completions as entries of their CQ (R349, R373).

Once an entry stands in its CQ, what remains of a completion, the end of a disable and the message to the host, leaves host
memory and the place and phase of each ring's device pointer alone (`SameEntries`). -/

namespace Sys2Proof.Safety

open Sys2Proof.Machine

/-! ## What keeps the entries -/

/-- `s` has the host memory of `s₀`, and its rings the device pointers and phases. -/
structure SameEntries (s₀ s : State) : Prop where
  mem : s.hostMem = s₀.hostMem
  dev : ∀ n, (s.ring n).dev = (s₀.ring n).dev
  phase : ∀ n, (s.ring n).phase = (s₀.ring n).phase

theorem SameEntries.refl (s : State) : SameEntries s s := ⟨rfl, fun _ => rfl, fun _ => rfl⟩

theorem SameEntries.branch {s₀ s t : State} {c : Prop} {inst : Decidable c} (hs : SameEntries s₀ s)
    (ht : SameEntries s₀ t) : SameEntries s₀ (if c then s else t) := by split <;> assumption

section
variable {s₀ s : State} (h : SameEntries s₀ s)
include h

/-- A ring takes a value with its device pointer and phase. -/
theorem SameEntries.setRing {n r} (hd : r.dev = (s.ring n).dev := by rfl) (hp : r.phase = (s.ring n).phase := by rfl) :
    SameEntries s₀ (s.setRing n r) := by
  refine ⟨h.mem, fun m => ?_, fun m => ?_⟩ <;> by_cases hm : m = n
  · rw [hm, ring_setRing_self, hd, h.dev]
  · rw [ring_setRing_ne s r hm, h.dev]
  · rw [hm, ring_setRing_self, hp, h.phase]
  · rw [ring_setRing_ne s r hm, h.phase]
theorem SameEntries.setPcie {x} : SameEntries s₀ { s with pcie := x } := ⟨h.mem, h.dev, h.phase⟩
theorem SameEntries.setFn {i f} : SameEntries s₀ (s.setFn i f) := h.setPcie
theorem SameEntries.sendVector {i v} : SameEntries s₀ (s.sendVector i v) := ⟨h.mem, h.dev, h.phase⟩
theorem SameEntries.msixDue {i v} : SameEntries s₀ (s.msixDue i v) := branch (branch h.setFn h.sendVector) h
theorem SameEntries.cqDue {n} : SameEntries s₀ (s.cqDue n) :=
  branch h (branch h.setRing h.setRing.setPcie.msixDue)
theorem SameEntries.settleRing {n} : SameEntries s₀ (s.settleRing n) :=
  branch (branch h.setRing.setRing h.setRing) h

end

/-! ## Placing an entry -/

/-- A completion is an entry of 32 bytes. -/
@[simp] theorem length_cpl_bytes (c : Cpl) (phase : Bool) (sqHead : Nat) : (c.bytes phase sqHead).length = 32 := by
  simp [Cpl.bytes]

/-- Bytes stand where they were written. -/
theorem memByte_writeMem_written (s : State) (a : Nat) (bs : List Byte) {i : Nat} (h : i < bs.length) :
    some ((s.writeMem a bs).memByte (a % 2 ^ 64 + i)) = bs[i]? := by
  rw [memByte_writeMem, if_pos (Nat.le_add_right _ _), Nat.add_sub_cancel_left, List.getElem?_eq_getElem h]
  rfl

/-- The entry of a completion written at the device pointer of CQ `q`, and the pointer moved on (R349). -/
def placeCpl (s : State) (q : Nat) (c : Cpl) : State :=
  let r := s.ring q
  let t := s.writeMem (s.ringBase q + 32 * r.dev) (c.bytes r.phase (c.sqHead.getD (s.ring c.ring).dev))
  t.setRing q { r with
    dev := if r.dev + 1 = s.ringSize q then 0 else r.dev + 1
    phase := if r.dev + 1 = s.ringSize q then !r.phase else r.phase }

theorem ring_placeCpl (s : State) (q : Nat) (c : Cpl) : (placeCpl s q c).ring q =
    { s.ring q with
      dev := if (s.ring q).dev + 1 = s.ringSize q then 0 else (s.ring q).dev + 1
      phase := if (s.ring q).dev + 1 = s.ringSize q then !(s.ring q).phase else (s.ring q).phase } :=
  ring_setRing_self _ q _

theorem memByte_placeCpl (s : State) (q : Nat) (c : Cpl) (x : Nat) : (placeCpl s q c).memByte x =
    (s.writeMem (s.ringBase q + 32 * (s.ring q).dev)
      (c.bytes (s.ring q).phase (c.sqHead.getD (s.ring c.ring).dev))).memByte x := rfl

/-- `State.writeCpl` places the entry; beside it, it counts what is to be announced and may end a disable. -/
theorem SameEntries.writeCpl (s : State) (q : Nat) (c : Cpl) (rest : List Cpl) (start : Bool) :
    SameEntries (placeCpl s q c) (s.writeCpl q c rest start) := by
  unfold State.writeCpl
  extract_lets r s1 wrap s2
  have hwrap : wrap = decide (r.dev + 1 = s.ringSize q) := rfl
  have hq : s2.ring q = { (placeCpl s q c).ring q with
      held := rest
      unannounced := r.unannounced + 1
      timer := if r.unannounced == 0 && start then some s.now else r.timer
      timerSpent := r.timerSpent && r.unannounced != 0 } := by
    rw [ring_setRing_self, ring_placeCpl, hwrap]
    simp only [decide_eq_true_eq, r]
  have hne (m : Nat) (hm : m ≠ q) : s2.ring m = (placeCpl s q c).ring m :=
    (ring_setRing_ne s1 _ hm).trans (ring_setRing_ne s1 _ hm).symm
  have hs2 : SameEntries (placeCpl s q c) s2 := by
    refine ⟨rfl, fun m => ?_, fun m => ?_⟩ <;> by_cases hm : m = q
    · rw [hm, hq]
    · rw [hne m hm]
    · rw [hm, hq]
    · rw [hne m hm]
  exact hs2.settleRing

/-! ## A completion falls due -/

/-- A held completion with a free entry is placed. -/
theorem SameEntries.drainHeld_one {s : State} {q : Nat} (c : Cpl) (hd : s.canDma (ringFn q) = true)
    (hl : s.ringLoad q + 1 < s.ringSize q) : SameEntries (placeCpl s q c) (s.drainHeld q true [c]) := by
  have hw := SameEntries.writeCpl s q c [] true
  have hgo : (s.canDma (ringFn q) && decide (s.ringLoad q + 1 < s.ringSize q)) = true := by
    rw [hd, decide_eq_true hl]
    rfl
  unfold State.drainHeld
  rw [if_pos hgo]
  exact .branch hw.cqDue hw

/-- A state that holds a completion back in CQ `q`. -/
def holdCpl (s : State) (q : Nat) (c : Cpl) : State := s.setRing q { s.ring q with held := (s.ring q).held ++ [c] }

theorem ring_holdCpl (s : State) (q : Nat) (c : Cpl) :
    (holdCpl s q c).ring q = { s.ring q with held := (s.ring q).held ++ [c] } := ring_setRing_self s q _

theorem SameEntries.holdCpl (s : State) (q : Nat) (c : Cpl) : SameEntries s (holdCpl s q c) := (SameEntries.refl s).setRing

/-- A completion that is held takes no entry of its CQ. -/
theorem ringLoad_holdCpl (s : State) (q : Nat) (c : Cpl) : (holdCpl s q c).ringLoad q = s.ringLoad q := by
  unfold State.ringLoad
  rw [ring_holdCpl]
  rfl

theorem complete_eq_drainHeld {s : State} {c : Cpl} (he : (s.ring c.ring).enabled = true)
    (hh : (s.ring (s.ringCq c.ring)).held = []) :
    s.complete c = (holdCpl s (s.ringCq c.ring) c).drainHeld (s.ringCq c.ring) true [c] := by
  refine (if_pos he).trans ?_
  change (holdCpl s (s.ringCq c.ring) c).drainCq (s.ringCq c.ring) = _
  rw [State.drainCq, ring_holdCpl, hh]
  rfl

/-- Settles O34: the completion is placed (`SameEntries.drainHeld_one`), and the entry placed is the one of the statement. -/
theorem completionsAreWrittenToTheirQueue : Obligations.CompletionsAreWrittenToTheirQueue := by
  intro s c q r a t he hh hd hl
  have hhold := SameEntries.holdCpl s q c
  have ht : SameEntries (placeCpl (holdCpl s q c) q c) t := by
    rw [show t = _ from complete_eq_drainHeld he hh]
    exact .drainHeld_one c hd (by rw [ringLoad_holdCpl]; exact hl)
  have hmem (x : Nat) : t.memByte x =
      ((holdCpl s q c).writeMem a (c.bytes r.phase (c.sqHead.getD (s.ring c.ring).dev))).memByte x := by
    rw [← hhold.dev c.ring, ← hhold.phase q, show a = (holdCpl s q c).ringBase q + 32 * _ from
      congrArg (s.ringBase q + 32 * ·) (hhold.dev q).symm, ← memByte_placeCpl]
    exact congrArg (Store.get _ · x) ht.mem
  refine ⟨fun i hi => ?_, fun x hx => ?_, ?_, ?_⟩
  · rw [hmem]
    exact memByte_writeMem_written _ _ _ (by rw [length_cpl_bytes]; exact hi)
  · rw [hmem]
    exact memKept_writeMem hhold.mem a _ x (by rw [length_cpl_bytes]; exact hx)
  · rw [ht.dev, ring_placeCpl, ring_holdCpl]
    rfl
  · rw [ht.phase, ring_placeCpl, ring_holdCpl]
    rfl

end Sys2Proof.Safety
end

section
/-! PROOF. The doorbells of the rings (R347, R348, R356).

Every doorbell write shows its value first (`showTail`, `showHead`); a bad one then only counts, a good one moves the host
pointer of its ring, and that of a CQ lets held completions be written. -/

namespace Sys2Proof.Safety

open Sys2Proof.Machine

/-! ## What a doorbell shows -/

/-- Ring `n` takes the value `r` that notes a doorbell write of `v`; the doorbells of the mailbox are registers, here field
`f`. -/
def showDoorbell (s : State) (n : Nat) (r : Ring) (f : Fld) (v : Nat) : State :=
  if n < 32 then s.setRing n r else (s.setRing n r).setFld f v

/-- The value last written to the tail doorbell of ring `n` is `v`. -/
def showTail (s : State) (n v : Nat) : State :=
  showDoorbell s n { s.ring n with lastTail := BitVec.ofNat 32 v } .MGMT_SQ_TAIL_PTR v

/-- The value last written to the head doorbell of CQ `n` is `v`. -/
def showHead (s : State) (n v : Nat) : State :=
  showDoorbell s n { s.ring n with lastHead := BitVec.ofNat 32 v } .MGMT_CQ_HEAD_PTR v

theorem rings_showDoorbell (s : State) (n : Nat) (r : Ring) (f : Fld) (v : Nat) :
    (showDoorbell s n r f v).rings = (s.setRing n r).rings := by
  unfold showDoorbell
  split <;> rfl

theorem ring_showTail_self (s : State) (n v : Nat) :
    (showTail s n v).ring n = { s.ring n with lastTail := BitVec.ofNat 32 v } :=
  (ring_congr (rings_showDoorbell s n _ _ v) n).trans (ring_setRing_self s n _)

theorem ring_showTail_ne (s : State) {m n : Nat} (v : Nat) (h : m ≠ n) : (showTail s n v).ring m = s.ring m :=
  (ring_congr (rings_showDoorbell s n _ _ v) m).trans (ring_setRing_ne s _ h)

/-- A ring that keeps its host pointer leaves every host pointer as it was. -/
theorem host_setRing (s : State) (n : Nat) (r : Ring) (m : Nat) (h : r.host = (s.ring n).host) :
    ((s.setRing n r).ring m).host = (s.ring m).host := by
  by_cases hm : m = n
  · rw [hm, ring_setRing_self, h]
  · rw [ring_setRing_ne s r hm]

/-- `t` has the host pointers of `s`, and its counters of discarded doorbells. -/
structure SameDoorbells (s t : State) : Prop where
  host : ∀ m, (t.ring m).host = (s.ring m).host
  errs : t.fld .RING_DB_ERR_COUNT = s.fld .RING_DB_ERR_COUNT
  mgmtErrs : t.fld .MGMT_STAT_DB_ERR = s.fld .MGMT_STAT_DB_ERR

theorem sameDoorbells_showDoorbell (s : State) (n : Nat) (r : Ring) (f : Fld) (v : Nat) (hr : r.host = (s.ring n).host)
    (h1 : Reg.RING_DB_ERR ≠ f.addr) (h2 : Reg.MGMT_STAT ≠ f.addr) : SameDoorbells s (showDoorbell s n r f v) := by
  refine ⟨fun m => ?_, ?_, ?_⟩
  · exact (congrArg Ring.host (ring_congr (rings_showDoorbell s n r f v) m)).trans (host_setRing s n r m hr)
  · unfold showDoorbell
    split
    · rfl
    · exact fld_setFld_ne (g := .RING_DB_ERR_COUNT) _ v h1
  · unfold showDoorbell
    split
    · rfl
    · exact fld_setFld_ne (g := .MGMT_STAT_DB_ERR) _ v h2

theorem sameDoorbells_showTail (s : State) (n v : Nat) : SameDoorbells s (showTail s n v) :=
  sameDoorbells_showDoorbell s n _ _ v rfl (by decide) (by decide)

theorem sameDoorbells_showHead (s : State) (n v : Nat) : SameDoorbells s (showHead s n v) :=
  sameDoorbells_showDoorbell s n _ _ v rfl (by decide) (by decide)

/-! ## Discarded doorbells -/

theorem rings_doorbellErr (s : State) (n : Nat) : (s.doorbellErr n).rings = s.rings := by
  unfold State.doorbellErr
  split
  · exact State.count_rings s _ 1
  · exact State.count_rings s _ 1

/-- A discarded doorbell of PF0 counts in RING_DB_ERR. -/
theorem SameDoorbells.discard {s t : State} (h : SameDoorbells s t) {n : Nat} (hn : n < 32) :
    (∀ m, ((t.doorbellErr n).ring m).host = (s.ring m).host) ∧
    (t.doorbellErr n).fld .RING_DB_ERR_COUNT = min (2 ^ 32 - 1) (s.fld .RING_DB_ERR_COUNT + 1) := by
  refine ⟨fun m => (congrArg Ring.host (ring_congr (rings_doorbellErr t n) m)).trans (h.host m), ?_⟩
  rw [State.doorbellErr, if_pos hn, ← h.errs]
  exact fld_count_self t .RING_DB_ERR_COUNT 1 (by decide) (by decide)

/-- A discarded doorbell of the mailbox counts in MGMT_STAT.DB_ERR. -/
theorem SameDoorbells.discardMailbox {s t : State} (h : SameDoorbells s t) {n : Nat} (hn : ¬ n < 32) :
    (∀ m, ((t.doorbellErr n).ring m).host = (s.ring m).host) ∧
    (t.doorbellErr n).fld .MGMT_STAT_DB_ERR =
      min (2 ^ Fld.MGMT_STAT_DB_ERR.width - 1) (s.fld .MGMT_STAT_DB_ERR + 1) := by
  refine ⟨fun m => (congrArg Ring.host (ring_congr (rings_doorbellErr t n) m)).trans (h.host m), ?_⟩
  rw [State.doorbellErr, if_neg hn, ← h.mgmtErrs]
  exact fld_count_self t .MGMT_STAT_DB_ERR 1 (by decide) (by decide)

/-! ## Tail doorbells -/

/-- The state after entries of SQ `n` up to `v` are posted (R348). -/
def postTail (s : State) (n v : Nat) : State :=
  (showTail s n v).setRing n { (showTail s n v).ring n with host := v }

theorem ring_postTail (s : State) (n v : Nat) :
    (postTail s n v).ring n = { s.ring n with lastTail := BitVec.ofNat 32 v, host := v } := by
  rw [postTail, ring_setRing_self, ring_showTail_self]

theorem ring_postTail_ne (s : State) {m n : Nat} (v : Nat) (h : m ≠ n) : (postTail s n v).ring m = s.ring m :=
  (ring_setRing_ne _ _ h).trans (ring_showTail_ne s v h)

theorem postTail_frame (s : State) {n : Nat} (v : Nat) (hn : n < 32) :
    postTail s n v = { s with rings := (postTail s n v).rings } := by
  unfold postTail showTail showDoorbell
  rw [if_pos hn]
  rfl

theorem postTail_mailbox (s : State) (v : Nat) : postTail s mboxSq v =
    { s with rings := (postTail s mboxSq v).rings, regs := (s.setFld .MGMT_SQ_TAIL_PTR v).regs } := by
  unfold postTail showTail showDoorbell
  rw [if_neg (by decide)]
  rfl

theorem regs_postTail_mailbox (s : State) (v : Nat) :
    (postTail s mboxSq v).regs = (s.setFld .MGMT_SQ_TAIL_PTR v).regs :=
  (congrArg State.regs (postTail_mailbox s v) :)

theorem ringKind_mboxSq_ne_two (s : State) : s.ringKind mboxSq ≠ 2 := show (0 : Nat) ≠ 2 by decide

theorem tailDoorbell_of_good {s : State} {n v : Nat} (hon : s.ringOn n = true) (hk : s.ringKind n ≠ 2)
    (hs : v < s.ringSize n) (hv : v < 2 ^ 16) : s.tailDoorbell n v = postTail s n v := by
  refine if_neg ?_
  simp only [hon, Bool.not_true, Bool.or_false, Bool.or_eq_true, decide_eq_true_eq]
  omega

theorem tailDoorbell_of_bad {s : State} {n v : Nat}
    (h : s.ringOn n = false ∨ s.ringKind n = 2 ∨ s.ringSize n ≤ v ∨ 2 ^ 16 ≤ v) :
    s.tailDoorbell n v = (showTail s n v).doorbellErr n := by
  refine if_pos ?_
  simp only [Bool.or_eq_true, decide_eq_true_eq, Bool.not_eq_true']
  tauto

/-! ## Head doorbells -/

theorem headDoorbell_of_good {s : State} {n v : Nat} (hon : s.ringOn n = true) (hk : s.ringKind n = 2)
    (hs : v < s.ringSize n) (hv : v < 2 ^ 16)
    (hl : (v + s.ringSize n - (s.ring n).host) % s.ringSize n ≤ s.ringLoad n) :
    ((s.headDoorbell n v).ring n).host = v := by
  rw [← (sameDoorbells_showHead s n v).host n] at hl
  have hgood : ¬ (decide (2 ^ 16 ≤ v) || !s.ringOn n || s.ringKind n != 2 || decide (s.ringSize n ≤ v) ||
      decide (s.ringLoad n < (v + s.ringSize n - ((showHead s n v).ring n).host) % s.ringSize n)) = true := by
    simp only [hon, hk, Bool.not_true, bne_self_eq_false, Bool.or_false, Bool.or_eq_true, decide_eq_true_eq]
    omega
  refine (congrArg (fun t : State => (t.ring n).host) (if_neg hgood)).trans ?_
  exact (congrArg Ring.host ((SameRings.refl _).drainHeld n) :).trans (congrArg Ring.host (ring_setRing_self _ n _))

theorem headDoorbell_of_bad {s : State} {n v : Nat}
    (h : s.ringOn n = false ∨ s.ringKind n ≠ 2 ∨ s.ringSize n ≤ v ∨ 2 ^ 16 ≤ v ∨
      s.ringLoad n < (v + s.ringSize n - (s.ring n).host) % s.ringSize n) :
    s.headDoorbell n v = (showHead s n v).doorbellErr n := by
  rw [← (sameDoorbells_showHead s n v).host n] at h
  refine if_pos ?_
  change (decide (2 ^ 16 ≤ v) || !s.ringOn n || s.ringKind n != 2 || decide (s.ringSize n ≤ v) ||
    decide (s.ringLoad n < (v + s.ringSize n - ((showHead s n v).ring n).host) % s.ringSize n)) = true
  simp only [Bool.or_eq_true, decide_eq_true_eq, Bool.not_eq_true', bne_iff_ne]
  tauto

/-! ## The commands -/

section
variable {s : State} {n : Fin 33} (hn : n.val < 32) (hb : s.barOk 0 = true) (v : Word)
include hn hb

theorem exec_sqTailDoorbell_pf0 :
    exec (.sqTailDoorbell n v) s = .next (s.hostActivity.tailDoorbell n.val v.toNat) :=
  congrArg Host.Outcome.next ((if_pos hn).trans (pf0Write_accessible hb _))

theorem exec_cqHeadDoorbell_pf0 :
    exec (.cqHeadDoorbell n v) s = .next (s.hostActivity.headDoorbell n.val v.toNat) := by
  refine congrArg Host.Outcome.next ((if_pos hn).trans ((pf0Write_accessible hb _).trans ?_))
  rw [if_pos hn]

end

theorem exec_sqTailDoorbell_mailbox {s : State} (hb : s.barOk 1 = true) (v : Word) :
    exec (.sqTailDoorbell 32 v) s = .next (s.hostActivity.tailDoorbell mboxSq v.toNat) :=
  congrArg Host.Outcome.next (doorbellWrite_mailbox hb _)

theorem exec_cqHeadDoorbell_mailbox {s : State} (hb : s.barOk 1 = true) (v : Word) :
    exec (.cqHeadDoorbell 32 v) s = .next (s.hostActivity.headDoorbell mboxCq v.toNat) :=
  congrArg Host.Outcome.next (doorbellWrite_mailbox hb _)

theorem ofNat_word_toNat (v : Word) : BitVec.ofNat 32 v.toNat = v := BitVec.eq_of_toNat_eq (by simp)

/-- Settles O39: a good doorbell is `postTail` or, for a CQ, moves the host pointer before completions are written; a bad
one is discarded and counted (`SameDoorbells.discard`). -/
theorem doorbellsMoveHostPointers : Obligations.DoorbellsMoveHostPointers := by
  refine ⟨fun s n v hn hb => ⟨fun hon hk hs hv => ?_, fun h => ?_, fun hon hk hs hv hl => ?_, fun h => ?_⟩,
    fun s v hb => ⟨fun hon hs hv => ?_, fun h => ?_, fun hon hs hv hl => ?_, fun h => ?_⟩⟩
  · refine ⟨_, (exec_sqTailDoorbell_pf0 hn hb v).trans (congrArg _ (tailDoorbell_of_good hon hk hs hv)), ?_, ?_,
      fun m hm => ring_postTail_ne _ _ hm, postTail_frame _ _ hn⟩
    · rw [ring_postTail]
    · rw [ring_postTail, ofNat_word_toNat]
  · exact ⟨_, (exec_sqTailDoorbell_pf0 hn hb v).trans (congrArg _ (tailDoorbell_of_bad h)),
      (sameDoorbells_showTail ..).discard hn⟩
  · exact ⟨_, exec_cqHeadDoorbell_pf0 hn hb v, headDoorbell_of_good hon hk hs hv hl⟩
  · exact ⟨_, (exec_cqHeadDoorbell_pf0 hn hb v).trans (congrArg _ (headDoorbell_of_bad h)),
      (sameDoorbells_showHead ..).discard hn⟩
  · have hgood := tailDoorbell_of_good hon (ringKind_mboxSq_ne_two _) hs hv
    refine ⟨_, (exec_sqTailDoorbell_mailbox hb v).trans (congrArg _ hgood), ?_, ?_,
      fun m hm => ring_postTail_ne _ _ hm, ?_, ?_, postTail_mailbox ..⟩
    · rw [ring_postTail]
    · rw [ring_postTail, ofNat_word_toNat]
    · rw [fld_congr (regs_postTail_mailbox ..), fld_setFld_self _ .MGMT_SQ_TAIL_PTR _ (by decide) (by decide)]
      exact Nat.mod_eq_of_lt hv
    · intro a ha
      rw [reg_congr (regs_postTail_mailbox ..)]
      exact reg_setFld_ne (f := .MGMT_SQ_TAIL_PTR) _ _ ha
  · exact ⟨_, (exec_sqTailDoorbell_mailbox hb v).trans (congrArg _ (tailDoorbell_of_bad (h.imp_right .inr))),
      (sameDoorbells_showTail ..).discardMailbox (by decide)⟩
  · exact ⟨_, exec_cqHeadDoorbell_mailbox hb v, headDoorbell_of_good hon rfl hs hv hl⟩
  · exact ⟨_, (exec_cqHeadDoorbell_mailbox hb v).trans (congrArg _ (headDoorbell_of_bad (h.imp_right .inr))),
      (sameDoorbells_showHead ..).discardMailbox (by decide)⟩

end Sys2Proof.Safety
end

section
/-! PROOF. Enabling and disabling rings (R341, R352, R389).

The disable of an SQ shows EN 0 at once (`startDisable`), completes what its ring holds, and ends in `State.settleRing`, which
turns an idle ring (`RingIdle`) off. -/

namespace Sys2Proof.Safety

open Sys2Proof.Machine

/-! ## EN and the configuration of a ring -/

theorem ring_setEn (s : State) (n m : Nat) (b : Bool) : (s.setEn n b).ring m = s.ring m :=
  ring_congr (State.setFlag_rings s _ b) m

theorem setEn_of_lt (s : State) {n : Nat} (b : Bool) (h : n < 32) : s.setEn n b = s.setFlag (.RING_CFG_EN n) b := by
  rw [State.setEn, if_pos h]

theorem flag_setEn (s : State) {n : Nat} (b : Bool) (h : n < 32) : (s.setEn n b).flag (.RING_CFG_EN n) = b := by
  rw [setEn_of_lt s b h]
  exact flag_setFlag_bit s b

theorem flag_setEn_mailbox (s : State) (b : Bool) : (s.setEn mboxSq b).flag .MGMT_CFG_EN = b :=
  flag_setFlag_bit s b

/-- EN is apart from the CQ that a ring names. -/
theorem ringCq_setEn (s : State) (n : Nat) (b : Bool) : (s.setEn n b).ringCq n = s.ringCq n := by
  unfold State.ringCq
  split
  · next h =>
    rw [setEn_of_lt s b h]
    exact fld_setFld_bits s (boolNat b)
  · rfl

theorem ring_writeRingCfg (s : State) (n v m : Nat) : (s.writeRingCfg n v).ring m = s.ring m :=
  ring_congr (rings_plainWriteReg s _ _) m

/-! ## Enabling -/

section
variable {s w : State} {n v : Nat} (hw : w = s.writeRingCfg n (putBit v 0 true)) (he : (s.ring n).enabled = false)
include hw he

theorem ringEnable_of_ok (h0 : w.enableErr n = 0) : s.ringEnable n v =
    if n < 32 then w.setRing n (w.ring n).enable
    else (w.setRing n (w.ring n).enable).setRing mboxCq ((w.setRing n (w.ring n).enable).ring mboxCq).enable := by
  subst hw
  unfold State.ringEnable
  rw [he, if_neg Bool.false_ne_true]
  dsimp only
  rw [h0]
  rfl

theorem ringEnable_pf0_of_ok (h0 : w.enableErr n = 0) (hn : n < 32) :
    s.ringEnable n v = w.setRing n (w.ring n).enable := (ringEnable_of_ok hw he h0).trans (if_pos hn)

/-- The mailbox is enabled with its CQ. -/
theorem ringEnable_mailbox_of_ok (h0 : w.enableErr n = 0) (hn : n = mboxSq) :
    ((s.ringEnable n v).ring mboxSq).enabled = true ∧ ((s.ringEnable n v).ring mboxCq).enabled = true ∧
    ((s.ringEnable n v).ring mboxCq).phase = true := by
  rw [ringEnable_of_ok hw he h0, if_neg (by rw [hn]; decide), ring_setRing_self, ring_setRing_ne _ _ (by decide), hn,
    ring_setRing_self]
  exact ⟨rfl, rfl, rfl⟩

theorem ringEnable_of_err (h0 : w.enableErr n ≠ 0) :
    s.ringEnable n v = (w.setRing n { w.ring n with err := w.enableErr n }).setEn n false := by
  subst hw
  unfold State.ringEnable
  rw [he, if_neg Bool.false_ne_true]
  exact if_pos (bne_iff_ne.mpr h0)

/-- A ring that fails a check stays disabled and shows the check. -/
theorem ring_ringEnable_of_err (h0 : w.enableErr n ≠ 0) : ((s.ringEnable n v).ring n).enabled = false ∧
    ((s.ringEnable n v).ring n).err = w.enableErr n := by
  rw [ringEnable_of_err hw he h0, ring_setEn, ring_setRing_self]
  refine ⟨?_, rfl⟩
  rw [hw, ring_writeRingCfg]
  exact he

end

/-! ## Disabling an SQ -/

/-- Nothing of SQ `n` waits: no entry of it is fetched and not completed, and no completion of it is held. -/
structure RingIdle (s : State) (n : Nat) : Prop where
  fetched : (s.ring n).fetched = []
  bufs : (s.ring n).bufs = []
  accepted : s.accepted = []
  held : ∀ c ∈ (s.ring (s.ringCq n)).held, c.ring ≠ n

/-- An idle ring that is being disabled is no longer enabled, and the mailbox CQ goes with its SQ. -/
theorem settleRing_of_idle {s : State} {n : Nat} (h : RingIdle s n) (he : (s.ring n).enabled = true)
    (hd : (s.ring n).disabling = true) :
    ((s.settleRing n).ring n).enabled = false ∧ (n = mboxSq → ((s.settleRing n).ring mboxCq).enabled = false) := by
  have hheld : ((s.ring (s.ringCq n)).held.any (·.ring == n)) = false :=
    List.any_eq_false.mpr fun c hc => by rw [beq_iff_eq]; exact h.held c hc
  unfold State.settleRing
  extract_lets r s1
  have hgo : (r.enabled && r.disabling && r.fetched.isEmpty && r.bufs.isEmpty && !(s.accepted.any (·.ring == n)) &&
      !((s.ring (s.ringCq n)).held.any (·.ring == n))) = true := by
    rw [hheld, h.accepted, h.fetched, h.bufs, he, hd]
    rfl
  have hoff : (s1.ring n).enabled = false := congrArg Ring.enabled (ring_setRing_self s n _)
  rw [if_pos hgo]
  by_cases hn : n = mboxSq
  · rw [if_pos hn]
    have hne : n ≠ mboxCq := by rw [hn]; decide
    exact ⟨(congrArg Ring.enabled (ring_setRing_ne s1 _ hne)).trans hoff,
      fun _ => congrArg Ring.enabled (ring_setRing_self s1 mboxCq _)⟩
  · rw [if_neg hn]
    exact ⟨hoff, fun h => absurd h hn⟩

/-- Ring `n` is being disabled: EN reads 0. -/
def startDisable (s : State) (n : Nat) : State := (s.setRing n { s.ring n with disabling := true }).setEn n false

theorem ring_startDisable (s : State) (n : Nat) :
    (startDisable s n).ring n = { s.ring n with disabling := true } :=
  (ring_setEn _ n n false).trans (ring_setRing_self s n _)

theorem ring_startDisable_ne (s : State) {m n : Nat} (h : m ≠ n) : (startDisable s n).ring m = s.ring m :=
  (ring_setEn _ n m false).trans (ring_setRing_ne s _ h)

theorem ringCq_startDisable (s : State) (n : Nat) : (startDisable s n).ringCq n = s.ringCq n := ringCq_setEn _ n false

theorem RingIdle.startDisable {s : State} {n : Nat} (h : RingIdle s n) (hq : s.ringCq n ≠ n) :
    RingIdle (startDisable s n) n := by
  refine ⟨?_, ?_, h.accepted, ?_⟩
  · rw [ring_startDisable]; exact h.fetched
  · rw [ring_startDisable]; exact h.bufs
  · rw [ringCq_startDisable, ring_startDisable_ne s hq]; exact h.held

/-- An idle ring takes a value with nothing fetched. -/
theorem RingIdle.setRing {s : State} {n : Nat} {r : Ring} (h : RingIdle s n) (hq : s.ringCq n ≠ n) (hf : r.fetched = [])
    (hb : r.bufs = []) : RingIdle (s.setRing n r) n := by
  refine ⟨?_, ?_, h.accepted, ?_⟩
  · rw [ring_setRing_self]; exact hf
  · rw [ring_setRing_self]; exact hb
  · intro c hc
    rw [show (s.setRing n r).ringCq n = s.ringCq n from rfl, ring_setRing_ne s r hq] at hc
    exact h.held c hc

/-- A command SQ with nothing fetched has no descriptor to abort. -/
theorem ringDisable_command {s : State} {n : Nat} (v : Nat) (he : (s.ring n).enabled = true) (hk : s.ringKind n = 0)
    (hf : (s.ring n).fetched = []) : s.ringDisable n v = ((startDisable s n).cutLate n).settleRing n := by
  unfold State.ringDisable
  extract_lets r s1 r1 s2
  rw [he, Bool.not_true, if_neg Bool.false_ne_true, if_neg (by rw [hk]; decide)]
  have hnone : (if r.executing then r.fetched.drop 1 else r.fetched) = [] := by
    rw [hf]
    split <;> rfl
  have hs2 : s2 = (s1.cutLate n).abortDescs n (if r.executing then r.fetched.drop 1 else r.fetched) :=
    if_neg (by rw [hk]; decide)
  rw [hs2, hnone]
  rfl

/-- No buffer of stream SQ `n` is claimed any more. -/
def dropClaimsOf (s : State) (n : Nat) : State := s.setRing n { s.ring n with claims := [] }

theorem ring_dropClaimsOf (s : State) (n : Nat) : (dropClaimsOf s n).ring n = { s.ring n with claims := [] } :=
  ring_setRing_self s n _

/-- The buffers of a stream SQ complete, whatever was claimed of them. -/
theorem ringDisable_stream {s : State} {n : Nat} (v : Nat) (he : (s.ring n).enabled = true) (hk : s.ringKind n = 1) :
    s.ringDisable n v = ((dropClaimsOf (startDisable s n) n).abortBufs n (s.ring n).bufs.length).settleRing n := by
  unfold State.ringDisable
  extract_lets r s1 r1 s2
  rw [he, Bool.not_true, if_neg Bool.false_ne_true, if_neg (by rw [hk]; decide)]
  exact congrArg (State.settleRing · n) (if_pos hk)

/-- No COMMIT is tried again where the disable leaves the descriptors of its ring. -/
theorem ringDrop_of_fetched {s : State} {n v : Nat} (h : ((s.ringDisable n v).ring n).fetched = (s.ring n).fetched) :
    s.ringDrop n v = s.ringDisable n v := if_pos h

theorem SameRings.fetched {s₀ s : State} (h : SameRings s₀ s) (n : Nat) : (s.ring n).fetched = (s₀.ring n).fetched :=
  (congrArg Ring.fetched (h n) :)

theorem fetched_settleRing (s : State) (n m : Nat) : ((s.settleRing n).ring m).fetched = (s.ring m).fetched :=
  (SameRings.refl s).settleRing.fetched m

/-- What the disable of SQ `n` has done: EN reads 0, and an idle ring is off, with the mailbox CQ where it is the mailbox,
without a byte of host memory written. -/
structure Disabled (s t : State) (n : Nat) : Prop where
  regs : t.regs = (startDisable s n).regs
  off : RingIdle s n → s.ringCq n ≠ n → (t.ring n).enabled = false
  cqOff : RingIdle s n → s.ringCq n ≠ n → n = mboxSq → (t.ring mboxCq).enabled = false
  mem : RingIdle s n → t.hostMem = s.hostMem

theorem Disabled.en {s t : State} {n : Nat} (h : Disabled s t n) (hn : n < 32) : t.flag (.RING_CFG_EN n) = false :=
  (flag_congr h.regs _).trans (flag_setEn _ false hn)

/-- A disable ends where the ring, once being disabled, stays as idle as it was. -/
theorem disabled_settleRing {s w : State} {n : Nat} (hregs : w.regs = (startDisable s n).regs)
    (hidle : RingIdle s n → s.ringCq n ≠ n → RingIdle w n) (he : RingIdle s n → (w.ring n).enabled = true)
    (hd : RingIdle s n → (w.ring n).disabling = true) (hm : RingIdle s n → w.hostMem = s.hostMem) :
    Disabled s (w.settleRing n) n :=
  ⟨(Posted.refl w).settleRing.regs.trans hregs,
    fun hi hq => (settleRing_of_idle (hidle hi hq) (he hi) (hd hi)).1,
    fun hi hq => (settleRing_of_idle (hidle hi hq) (he hi) (hd hi)).2,
    fun hi => (SameEntries.refl w).settleRing.mem.trans (hm hi)⟩

theorem disabled_command {s : State} {n : Nat} (v : Nat) (he : (s.ring n).enabled = true) (hk : s.ringKind n = 0)
    (hf : (s.ring n).fetched = []) : Disabled s (s.ringDrop n v) n := by
  have hring : ((startDisable s n).cutLate n).ring n = { s.ring n with disabling := true } := ring_startDisable s n
  have hdrop : s.ringDrop n v = ((startDisable s n).cutLate n).settleRing n := by
    rw [ringDrop_of_fetched]
    · exact ringDisable_command v he hk hf
    · rw [ringDisable_command v he hk hf, fetched_settleRing, hring]
  rw [hdrop]
  refine disabled_settleRing rfl (fun hi hq => ?_) (fun _ => ?_) (fun _ => ?_) (fun _ => rfl)
  · obtain ⟨h1, h2, h3, h4⟩ := hi.startDisable hq
    exact ⟨h1, h2, h3, h4⟩
  · rw [hring]; exact he
  · rw [hring]

/-! ## Stream buffers at a disable -/

theorem fetched_closeBuf (s : State) (n : Nat) (status : Status) (length : Nat) :
    ((s.closeBuf n status length).ring n).fetched = (s.ring n).fetched := by
  unfold State.closeBuf
  split
  · rfl
  · next b rest _ =>
    have hc {c} := (SameRings.refl (s.setRing n { s.ring n with bufs := rest })).complete (c := c)
    exact (SameRings.fetched hc n).trans
      (congrArg Ring.fetched (ring_setRing_self s n { s.ring n with bufs := rest }) :)

theorem Posted.abortBufs {s₀ s : State} (h : Posted s₀ s) {n fuel : Nat} : Posted s₀ (s.abortBufs n fuel) := by
  induction fuel generalizing s with
  | zero => exact h
  | succ fuel ih =>
    unfold State.abortBufs
    split
    · exact h
    · exact ih (branch h.closeBuf h.closeBuf)

theorem fetched_abortBufs (s : State) (n fuel : Nat) : ((s.abortBufs n fuel).ring n).fetched = (s.ring n).fetched := by
  induction fuel generalizing s with
  | zero => rfl
  | succ fuel ih =>
    unfold State.abortBufs
    split
    · rfl
    · rw [ih]
      split
      · exact fetched_closeBuf ..
      · exact fetched_closeBuf ..

/-- With fuel for each buffer, none is left. -/
theorem bufs_abortBufs {s : State} {n fuel : Nat} (h : (s.ring n).bufs.length = fuel) :
    ((s.abortBufs n fuel).ring n).bufs = [] := by
  induction fuel generalizing s with
  | zero => exact List.length_eq_zero_iff.mp h
  | succ fuel ih =>
    unfold State.abortBufs
    split
    · assumption
    · next b rest hb =>
      have hrest : rest.length = fuel := by rw [hb, List.length_cons] at h; omega
      refine ih ?_
      split
      · rw [bufs_closeBuf hb]; exact hrest
      · rw [bufs_closeBuf hb]; exact hrest

section
variable {s : State} {n : Nat} (v : Nat) (he : (s.ring n).enabled = true) (hk : s.ringKind n = 1)
include he hk

theorem ringDrop_stream : s.ringDrop n v =
    ((dropClaimsOf (startDisable s n) n).abortBufs n (s.ring n).bufs.length).settleRing n := by
  rw [ringDrop_of_fetched]
  · exact ringDisable_stream v he hk
  · rw [ringDisable_stream v he hk, fetched_settleRing, fetched_abortBufs, ring_dropClaimsOf, ring_startDisable]

/-- A stream SQ that is disabled holds no buffer any more. -/
theorem bufs_ringDrop_stream : ((s.ringDrop n v).ring n).bufs = [] := by
  rw [ringDrop_stream v he hk]
  refine ((SameRings.refl _).settleRing.bufs n).trans (bufs_abortBufs ?_)
  rw [ring_dropClaimsOf, ring_startDisable]

theorem disabled_stream : Disabled s (s.ringDrop n v) n := by
  rw [ringDrop_stream v he hk]
  have hw (hi : RingIdle s n) : (dropClaimsOf (startDisable s n) n).abortBufs n (s.ring n).bufs.length =
      dropClaimsOf (startDisable s n) n := by
    rw [hi.bufs]
    rfl
  refine disabled_settleRing (Posted.refl (dropClaimsOf (startDisable s n) n)).abortBufs.regs
    (fun hi hq => ?_) (fun hi => ?_) (fun hi => ?_) (fun hi => ?_) <;> rw [hw hi]
  · have hs := hi.startDisable hq
    exact hs.setRing (by rw [ringCq_startDisable]; exact hq) hs.fetched hs.bufs
  · rw [ring_dropClaimsOf, ring_startDisable]; exact he
  · rw [ring_dropClaimsOf, ring_startDisable]
  · rfl

end

/-! ## Disabling a CQ -/

/-- Does an enabled SQ of PF0 name CQ `n`? -/
def cqNamed (s : State) (n : Nat) : Bool :=
  (List.range 32).any fun m => (s.ring m).enabled && s.ringKind m != 2 && s.ringCq m == n

section
variable {s : State} {n : Nat} (v : Nat) (he : (s.ring n).enabled = true) (hk : s.ringKind n = 2)
include he hk

theorem ringDisable_cq : s.ringDisable n v =
    if cqNamed s n then s.setRing n { s.ring n with err := 5 }
    else (s.setRing n { s.ring n with enabled := false }).setEn n false := by
  unfold State.ringDisable
  extract_lets r
  rw [he, Bool.not_true, if_neg Bool.false_ne_true, if_pos hk]
  rfl

/-- A CQ that an enabled SQ names only shows the error. -/
theorem ringDrop_cq_of_named (h : cqNamed s n = true) : s.ringDrop n v = s.setRing n { s.ring n with err := 5 } := by
  have hd := (ringDisable_cq v he hk).trans (if_pos h)
  rw [ringDrop_of_fetched, hd]
  rw [hd, ring_setRing_self]

theorem ringDrop_cq_of_free (h : cqNamed s n = false) :
    s.ringDrop n v = (s.setRing n { s.ring n with enabled := false }).setEn n false := by
  have hd := (ringDisable_cq v he hk).trans (if_neg (by rw [h]; decide))
  rw [ringDrop_of_fetched, hd]
  rw [hd, ring_setEn, ring_setRing_self]

end

/-! ## The commands -/

theorem exec_ringEnable_pf0 {s : State} {n : Fin 33} (hn : n.val < 32) (hb : s.barOk 0 = true) (v : Word) :
    exec (.ringEnable n v) s = .next (s.hostActivity.ringEnable n.val v.toNat) :=
  congrArg Host.Outcome.next ((if_pos hn).trans (pf0Write_accessible hb _))

theorem exec_ringDisable_pf0 {s : State} {n : Fin 33} (hn : n.val < 32) (hb : s.barOk 0 = true) (v : Word) :
    exec (.ringDisable n v) s = .next (s.hostActivity.ringDrop n.val v.toNat) :=
  congrArg Host.Outcome.next ((if_pos hn).trans (pf0Write_accessible hb _))

theorem exec_ringEnable_mailbox {s : State} (hb : s.barOk 1 = true) (v : Word) :
    exec (.ringEnable 32 v) s = .next (s.ringEnable mboxSq v.toNat) :=
  congrArg Host.Outcome.next (pf1Write_accessible hb fun s => s.ringEnable mboxSq v.toNat)

theorem exec_ringDisable_mailbox {s : State} (hb : s.barOk 1 = true) (v : Word) :
    exec (.ringDisable 32 v) s = .next (s.ringDrop mboxSq v.toNat) :=
  congrArg Host.Outcome.next (pf1Write_accessible hb fun s => s.ringDrop mboxSq v.toNat)

theorem memKept_of_hostMem {s t : State} (h : t.hostMem = s.hostMem) (p : Nat → Prop) : MemKept s t p :=
  fun x _ => congrArg (Store.get _ · x) h

theorem setRing_frame (s : State) (n : Nat) (r : Ring) : s.setRing n r = { s with rings := (s.setRing n r).rings } := rfl

theorem setEn_frame (s : State) (n : Nat) (r : Ring) (b : Bool) : (s.setRing n r).setEn n b =
    { s with rings := ((s.setRing n r).setEn n b).rings, regs := ((s.setRing n r).setEn n b).regs } := rfl

/-- Settles O38: an SQ's disable comes to its end in `State.settleRing` (`Disabled`), which finds an idle ring idle; enabling
and the disable of a CQ are one change of the ring each, with EN. -/
theorem ringsEnableAndDisable : Obligations.RingsEnableAndDisable := by
  refine ⟨fun s n v hn hb => ⟨fun he => ⟨fun h0 => ?_, fun h0 => ?_⟩, fun he hk hf hbufs ha hh hq => ?_,
      fun he hk hf hq => ?_, fun he hk => ?_⟩,
    fun s v hb => ⟨fun he h0 => ?_, fun he h0 => ?_, fun he hf hbufs ha hh => ?_⟩⟩
  · refine ⟨_, (exec_ringEnable_pf0 hn hb v).trans (congrArg _ (ringEnable_pf0_of_ok rfl he h0 hn)), ?_⟩
    rw [ring_setRing_self]
    exact ⟨rfl, rfl, rfl, rfl, rfl⟩
  · obtain ⟨hoff, herr⟩ := ring_ringEnable_of_err rfl he h0
    refine ⟨_, exec_ringEnable_pf0 hn hb v, hoff, herr, ?_⟩
    rw [ringEnable_of_err rfl he h0]
    exact flag_setEn _ false hn
  · have hd := disabled_command v.toNat he hk hf
    have hi : RingIdle s.hostActivity n.val := ⟨hf, hbufs, ha, hh⟩
    exact ⟨_, exec_ringDisable_pf0 hn hb v, hd.off hi hq, hd.en hn, memKept_of_hostMem (hd.mem hi) _⟩
  · have hd := disabled_stream v.toNat he hk
    refine ⟨_, exec_ringDisable_pf0 hn hb v, bufs_ringDrop_stream v.toNat he hk, hd.en hn, fun hbufs ha hh => ?_⟩
    have hi : RingIdle s.hostActivity n.val := ⟨hf, hbufs, ha, hh⟩
    exact ⟨hd.off hi hq, memKept_of_hostMem (hd.mem hi) _⟩
  · intro named
    refine ⟨_, exec_ringDisable_pf0 hn hb v, fun hx => ?_, fun hx => ?_, fun m hm => ?_⟩
    · rw [ringDrop_cq_of_named v.toNat he hk hx, ring_setRing_self]
      exact ⟨he, rfl, setRing_frame ..⟩
    · rw [ringDrop_cq_of_free v.toNat he hk hx, ring_setEn, ring_setRing_self]
      refine ⟨rfl, flag_setEn _ false hn, ?_, setEn_frame ..⟩
      rw [setEn_of_lt _ false hn]
      exact (RegsKept.refl _ _).setFlag rfl
    · cases hx : cqNamed s.hostActivity n.val
      · rw [ringDrop_cq_of_free v.toNat he hk hx, ring_setEn, ring_setRing_ne _ _ hm]
      · rw [ringDrop_cq_of_named v.toNat he hk hx, ring_setRing_ne _ _ hm]
  · obtain ⟨hoff, herr⟩ := ring_ringEnable_of_err rfl he h0
    refine ⟨_, exec_ringEnable_mailbox hb v, hoff, herr, ?_, ?_⟩ <;> rw [ringEnable_of_err (n := mboxSq) rfl he h0]
    · exact flag_setEn_mailbox _ false
    · rw [ring_setEn, ring_setRing_ne _ _ (by decide), ring_writeRingCfg]
  · exact ⟨_, exec_ringEnable_mailbox hb v, ringEnable_mailbox_of_ok rfl he h0 rfl⟩
  · have hd := disabled_command v.toNat he rfl hf
    have hq : s.ringCq mboxSq ≠ mboxSq := show mboxCq ≠ mboxSq by decide
    have hi : RingIdle s mboxSq := ⟨hf, hbufs, ha, fun c hc => absurd (hh ▸ hc) List.not_mem_nil⟩
    exact ⟨_, exec_ringDisable_mailbox hb v, hd.off hi hq, hd.cqOff hi hq rfl⟩

end Sys2Proof.Safety
end

section
/-! PROOF. What the life cycle goes through in one step.

The life-cycle code, the rights and the mark of the erased keys change only where fuses are burned and where a reset puts the
rights of the code in force. So a property of the standing that these two keep (`Lasting`) is kept by every function of the
model (`Stands`): an update of anything else leaves the standing as it was (`Stands.update`), and a choice, a fold and a
composition carry the property through. -/

namespace Sys2Proof.Safety

-- The many small `rfl` side goals below, elaborated in parallel, would take more threads than the memory limit allows.
set_option Elab.async false

open Sys2Proof.Machine

/-- A property of the standing that holds on after every change that the device makes to it: a transition of R502 to a state
that is not SCRAPPED, SCRAPPED, and the rights that a reset puts in force. -/
structure Lasting (P : Standing → Prop) : Prop where
  next : ∀ {x : Standing} {n : Nat}, P x → x.lifecycle < n → n < 5 → P { x with lifecycle := n }
  scrapped : ∀ {x : Standing}, P x → x.lifecycle < 5 → P ⟨5, 5, true⟩
  reset : ∀ {x : Standing}, P x → P { x with rights := x.lifecycle }

/-- The standing of a state has a property. -/
def Stands (P : Standing → Prop) (s : State) : Prop := P (standing s)

/-- The standing of the next state of an answer, if it has one, has a property. -/
def NextStands (P : Standing → Prop) : Host.Outcome State Fault Refusal → Prop
  | .next t => Stands P t
  | _ => True

/-! ### The transitions -/

/-- LIFECYCLE raises the code. -/
theorem lt_of_transitionOk {s : State} {t : Nat} (h : s.transitionOk t = true) : s.nvm.lifecycle < t := by
  unfold State.transitionOk at h
  split at h <;> simp_all

/-- LIFECYCLE leads to a state of R501. -/
theorem le_of_transitionOk {s : State} {t : Nat} (h : s.transitionOk t = true) : t ≤ 5 := by
  unfold State.transitionOk at h
  split at h <;> simp_all

/-- The factory raises the code. -/
theorem lt_of_factoryOk {s : State} {t : Nat} (h : s.factoryOk t = true) : s.nvm.lifecycle < t := by
  simp only [State.factoryOk, Bool.or_eq_true, Bool.and_eq_true, beq_iff_eq] at h
  omega

section
variable {P : Standing → Prop}

/-- A choice between two states. -/
theorem Stands.branch {s t : State} {c : Prop} {inst : Decidable c} (hs : Stands P s) (ht : Stands P t) :
    Stands P (if c then s else t) := by split <;> assumption

/-- A fold over a value that carries a state. -/
theorem Stands.foldlOn {α β : Type} (g : α → State) {f : α → β → α} {a : α} {l : List β}
    (h : Stands P (g a)) (hf : ∀ {a x}, Stands P (g a) → Stands P (g (f a x))) : Stands P (g (l.foldl f a)) := by
  induction l generalizing a with
  | nil => exact h
  | cons x l ih => exact ih (hf h)

/-- A fold over a state. -/
theorem Stands.foldl {β : Type} {s : State} {f : State → β → State} {l : List β}
    (h : Stands P s) (hf : ∀ {t x}, Stands P t → Stands P (f t x)) : Stands P (l.foldl f s) :=
  foldlOn id h hf

section
variable {s : State} (h : Stands P s)
include h

/-- An update of fields other than those that the NVM keeps. -/
theorem Stands.update {f0 f1 f2 f3 f4 f5 f6 f7 f8 f9 f10 f11 f12 f13 f14 f15 f16 f17 f18 f19 f20 f21 f22 f23 f24 f25
      f26 f27 f28 f29 f30 f31 f32 f33 f34 f35 f36 f37 f38 f39 f40 f41 f42 f43 f44 f45 f46 f47 f48 f49 f51 f52 f53 f54 f55
      f56 f57 f58 f59} :
    Stands P ⟨f0, f1, f2, f3, f4, f5, f6, f7, f8, f9, f10, f11, f12, f13, f14, f15, f16, f17, f18, f19, f20, f21,
      f22, f23, f24, f25, f26, f27, f28, f29, f30, f31, f32, f33, f34, f35, f36, f37, f38, f39, f40, f41, f42, f43, f44,
      f45, f46, f47, f48, f49, s.nvm, f51, f52, f53, f54, f55, f56, f57, f58, f59⟩ := h

/-- An update that leaves the standing as it was in what the NVM keeps. -/
theorem Stands.updateNvm {f0 f1 f2 f3 f4 f5 f6 f7 f8 f9 f10 f11 f12 f13 f14 f15 f16 f17 f18 f19 f20 f21 f22 f23 f24
      f25 f26 f27 f28 f29 f30 f31 f32 f33 f34 f35 f36 f37 f38 f39 f40 f41 f42 f43 f44 f45 f46 f47 f48 f49 f51 f52 f53 f54
      f55 f56 f57 f58 f59 n0 n4 n5 n6 n7 n8 n9 n10 n11 n12 n13 n14 n15 n16 n17 n18 n19 n20 n21 n22 n23 n24 n25 n26 n27 n28
      n29 n30 n31 n32 n33 n34 n35 n36 n37} :
    Stands P ⟨f0, f1, f2, f3, f4, f5, f6, f7, f8, f9, f10, f11, f12, f13, f14, f15, f16, f17, f18, f19, f20, f21,
      f22, f23, f24, f25, f26, f27, f28, f29, f30, f31, f32, f33, f34, f35, f36, f37, f38, f39, f40, f41, f42, f43, f44,
      f45, f46, f47, f48, f49, ⟨n0, s.nvm.lifecycle, s.nvm.rights, s.nvm.keysErased, n4, n5, n6, n7, n8, n9, n10, n11,
      n12, n13, n14, n15, n16, n17, n18, n19, n20, n21, n22, n23, n24, n25, n26, n27, n28, n29, n30, n31, n32, n33, n34,
      n35, n36, n37⟩, f51, f52, f53, f54, f55, f56, f57, f58, f59⟩ := h

/-! ### The functions of Machine/Ops -/

/-- A write of a register. -/
theorem Stands.setReg {a v} : Stands P (s.setReg a v) := h.update
theorem Stands.setFld {f v} : Stands P (s.setFld f v) := h.setReg
theorem Stands.setFlag {f b} : Stands P (s.setFlag f b) := h.setFld
theorem Stands.count {f n} : Stands P (s.count f n) := h.setFld
theorem Stands.setWide {a v} : Stands P (s.setWide a v) := h.setReg.setReg
theorem Stands.plainWriteReg {a v} : Stands P (s.plainWriteReg a v) := by
  unfold State.plainWriteReg
  split
  · exact h.setReg
  · exact h
theorem Stands.free : Stands P s.free.2 := h.update
theorem Stands.markEdge {n} : Stands P (s.markEdge n) := h.update
theorem Stands.putPin {n b} : Stands P (s.putPin n b) := h.update
theorem Stands.setPin {n b} : Stands P (s.setPin n b) := h.putPin.update
theorem Stands.modWvPin {n f} : Stands P (s.modWvPin n f) := h.update
theorem Stands.setWvPin {n b} : Stands P (s.setWvPin n b) := branch h h.setPin.modWvPin
theorem Stands.wvEdge {n b} : Stands P (s.wvEdge n b) := branch h h.modWvPin.setWvPin
theorem Stands.pinEdge {src b} : Stands P (s.pinEdge src b) := branch h.wvEdge h.setPin
/-- A write to host memory. -/
theorem Stands.writeMem {a bs} : Stands P (s.writeMem a bs) := h.update

/-! ### The functions of Machine/Pads -/

theorem Stands.modWv {r f} : Stands P (s.modWv r f) := h.update
theorem Stands.modEngine {e f} : Stands P (s.modEngine e f) := h.update
theorem Stands.stopEngine {e} : Stands P (s.stopEngine e) := h.modEngine
theorem Stands.writeSr {e v} : Stands P (s.writeSr e v) := h.modEngine
theorem Stands.setDriven {n} : Stands P (s.setDriven n) := h.modWvPin
theorem Stands.movePin {n} : Stands P (s.movePin n) := h.setDriven.setWvPin
theorem Stands.drive {r} : Stands P (s.drive r) := h.foldl fun h => h.movePin
theorem Stands.driveAll : Stands P s.driveAll :=
  (h.foldl fun h => h.drive).foldl fun h => branch h.modWvPin.setWvPin h
theorem Stands.toldEdge {src rising} : Stands P (s.toldEdge src rising) :=
  branch h (branch h.pinEdge h.pinEdge.markEdge)
theorem Stands.gateCount {dt n} : Stands P (s.gateCount dt n) := branch h.setWide h
theorem Stands.pass {dt} : Stands P (s.pass dt) :=
  branch (h.foldl fun h => h.gateCount).update h.update
theorem Stands.placePin {n} : Stands P (s.placePin n) := h.setDriven.putPin
theorem Stands.elapse {dt} : Stands P (s.elapse dt) :=
  branch h.pass ((h.pass.foldl fun h => h.placePin).foldl fun h => h.pass.foldl fun h => h.movePin)
theorem Stands.syncThrough {level} : Stands P (s.syncThrough level) := branch h.update.setPin h.update
theorem Stands.transferDividers : Stands P s.transferDividers := h.update
theorem Stands.settleDividers : Stands P s.settleDividers := by
  unfold State.settleDividers
  split
  · exact branch h.transferDividers h
  · exact h
theorem Stands.advance {dt} : Stands P (s.advance dt) :=
  (h.foldl fun h => h.elapse.syncThrough).update.elapse.settleDividers

/-! ### The functions of Machine/Msi -/

theorem Stands.setFn {i f} : Stands P (s.setFn i f) := h.update
theorem Stands.emitIf {go m} : Stands P (s.emitIf go m) := h.update
theorem Stands.emit {m} : Stands P (s.emit m) := h.emitIf
theorem Stands.sendVector {i v} : Stands P (s.sendVector i v) := h.emit
theorem Stands.msixDue {i v} : Stands P (s.msixDue i v) := branch (branch h.setFn h.sendVector) h
theorem Stands.setPme {i} : Stands P (s.setPme i) := branch h (branch h.setFn.emit h.setFn)
theorem Stands.reportError {i bit} : Stands P (s.reportError i bit) := h.setFn.emitIf
theorem Stands.reportCorrectable {i bit} : Stands P (s.reportCorrectable i bit) := h.setFn.emitIf
theorem Stands.readFailed {i} : Stands P (s.readFailed i) := h.free.count.reportError

/-! ### The functions of Machine/Icx -/

theorem Stands.setIcxTarget {t v} : Stands P (s.setIcxTarget t v) := h.update
theorem Stands.hostDue : Stands P s.hostDue := branch h.setPme h.msixDue
theorem Stands.assertTarget {s0 t} : Stands P (s.assertTarget s0 t) := branch h.setIcxTarget h
theorem Stands.icxChange {f} (hf : ∀ {t}, Stands P t → Stands P (f t)) :
    Stands P (s.icxChange f) :=
  have h1 := (hf h).assertTarget.assertTarget.assertTarget
  branch h1.hostDue h1
theorem Stands.makePending {src} : Stands P (s.makePending src) :=
  branch h.setFlag (branch h.setFlag.update h.setFlag.update)
theorem Stands.applyRaise {src} : Stands P (s.applyRaise src) :=
  branch h.count.setFlag h.count.makePending
theorem Stands.raise {src} : Stands P (s.raise src) :=
  branch (branch h.update h) (h.icxChange fun h => h.applyRaise)
theorem Stands.raiseFast {n} : Stands P (s.raiseFast n) := h.raise
theorem Stands.stopIcx : Stands P s.stopIcx := h.update
theorem Stands.resumeTimes : Stands P s.resumeTimes := h.update
theorem Stands.applyLatches : Stands P s.applyLatches :=
  h.resumeTimes.update.foldl fun h => branch (h.icxChange fun h => h.applyRaise) h
theorem Stands.clearPending {src} : Stands P (s.clearPending src) := h.setFlag.update
theorem Stands.settleAsserted {t} : Stands P (s.settleAsserted t) := branch h.setIcxTarget h
theorem Stands.claimNormal {t} : Stands P (s.claimNormal t).2 := by
  unfold State.claimNormal
  split
  · exact (h.icxChange fun h => h.clearPending.setIcxTarget).settleAsserted
  · exact h.settleAsserted
theorem Stands.claimFast {t} : Stands P (s.claimFast t).2 := by
  unfold State.claimFast
  split
  · exact (h.icxChange fun h => h.clearPending.setIcxTarget).settleAsserted
  · split
    · exact h
    · exact h.settleAsserted
theorem Stands.completeNormal {t src} : Stands P (s.completeNormal t src) :=
  branch (h.icxChange fun h => h.setIcxTarget) h.count
theorem Stands.popFast {t} : Stands P (s.popFast t) :=
  have h1 := h.icxChange fun h => h.setIcxTarget
  branch h1.hostDue h1
theorem Stands.completeFast {t n} : Stands P (s.completeFast t n).2 := by
  unfold State.completeFast
  split
  · exact h.popFast
  · exact h.setFlag.count.raiseFast
theorem Stands.completeAllOf {t} : Stands P (s.completeAllOf t) :=
  h.foldl fun h => branch h.completeNormal h.popFast
theorem Stands.writePend {w v} : Stands P (s.writePend w v) :=
  h.icxChange fun h => h.foldl fun h => branch h.makePending h.clearPending
theorem Stands.writeMask {w v} : Stands P (s.writeMask w v) :=
  h.icxChange fun h => h.foldl fun h => branch h.setFlag.setFlag.makePending h.setFlag
theorem Stands.lockRead {t} : Stands P (s.lockRead t).2 := by
  unfold State.lockRead
  split
  · exact h.setFld.update
  · split <;> exact h
theorem Stands.lockRelease {t v} : Stands P (s.lockRelease t v) := branch h.setFld h

/-! ### The functions of Machine/Rings -/

theorem Stands.setRing {n r} : Stands P (s.setRing n r) := h.update
theorem Stands.cqDue {n} : Stands P (s.cqDue n) :=
  branch h (branch h.setRing h.setRing.update.msixDue)
theorem Stands.settleRing {n} : Stands P (s.settleRing n) :=
  branch (branch h.setRing.setRing h.setRing) h
theorem Stands.writeCpl {q c rest start} : Stands P (s.writeCpl q c rest start) :=
  h.writeMem.setRing.settleRing
theorem Stands.drainHeld {q announce l} : Stands P (s.drainHeld q announce l) := by
  induction l generalizing s with
  | nil => exact h
  | cons c rest ih => exact branch (ih (branch h.writeCpl.cqDue h.writeCpl)) h
theorem Stands.drainCq {q} : Stands P (s.drainCq q) := h.drainHeld
theorem Stands.complete {c} : Stands P (s.complete c) := branch h.setRing.drainCq h
theorem Stands.postMem {a bs} : Stands P (s.postMem a bs) := branch h.update h.writeMem
theorem Stands.closeBuf {n status length} : Stands P (s.closeBuf n status length) := by
  unfold State.closeBuf
  split
  · exact h
  · exact h.setRing.complete
theorem Stands.flushBuf {n tick} : Stands P (s.flushBuf n tick) := by
  unfold State.flushBuf
  split
  · exact h
  · exact branch h.closeBuf h.postMem.closeBuf
theorem Stands.settleClaims {n fuel} : Stands P (s.settleClaims n fuel) := by
  induction fuel generalizing s with
  | zero => exact h
  | succ fuel ih =>
    unfold State.settleClaims
    split
    · exact ih h.setRing.flushBuf
    · exact h
theorem Stands.setClaims {n l} : Stands P (s.setClaims n l) := h.setRing.settleClaims
theorem Stands.passBufs {n size l} : Stands P (s.passBufs n size l) := by
  induction l generalizing s with
  | nil => exact h
  | cons b rest ih => exact branch h (ih h.closeBuf)
theorem Stands.drayFull {held} : Stands P (s.drayFull held).2 := by
  unfold State.drayFull
  split
  · exact h.free
  · exact h
theorem Stands.putItem {n bytes tick tag} : Stands P (s.putItem n bytes tick tag) := by
  unfold State.putItem
  split
  · exact h
  · exact h.postMem.setRing
theorem Stands.closeFlushed {n} : Stands P (s.closeFlushed n) := branch h.closeBuf h
theorem Stands.placeItem {n bytes tick tag} : Stands P (s.placeItem n bytes tick tag) :=
  branch h.drayFull.closeFlushed.count (branch h.drayFull.closeFlushed.putItem (branch h.drayFull.closeFlushed.count
    (branch h.drayFull.closeFlushed.passBufs.count h.drayFull.closeFlushed.passBufs.putItem)))
theorem Stands.archWrap {size} : Stands P (s.archWrap size).2 := by
  unfold State.archWrap
  extract_lets
  split
  · exact h
  · exact (branch h h.writeMem.update).setFld.setWide
theorem Stands.writeBlock {kind cam items payload} :
    Stands P (s.writeBlock kind cam items payload).2 := by
  have hf := h.free
  unfold State.writeBlock
  generalize s.free = p at hf ⊢
  dsimp only
  split
  · exact hf.count
  · exact hf.archWrap.writeMem.setWide.update
theorem Stands.flushBlock {kind cam} : Stands P (s.flushBlock kind cam).2 := by
  unfold State.flushBlock
  extract_lets
  split
  · exact h
  · exact h.update.writeBlock
theorem Stands.archItem {kind cam bytes} : Stands P (s.archItem kind cam bytes).2 := by
  have hf {c : Prop} [Decidable c] {cam} : Stands P (if c then s.flushBlock kind cam else ([], s)).2 := by
    split
    · exact h.flushBlock
    · exact h
  unfold State.archItem
  split
  · exact hf.update
  · exact h
theorem Stands.dropItem {kind cam} : Stands P (s.dropItem kind cam) := by
  unfold State.dropItem
  split <;> exact h.count
theorem Stands.writeItem {i} : Stands P (s.writeItem i).2 := by
  unfold State.writeItem
  dsimp only
  split
  · exact h.archItem.placeItem
  · exact h.archItem.dropItem
theorem Stands.handOne {i} : Stands P (s.handOne i).2 := by
  unfold State.handOne
  split
  · exact branch h.drayFull.dropItem h.drayFull.update
  · exact h.writeItem
theorem Stands.eventOne {e} : Stands P (s.eventOne e).2 := (branch h.raise h).update.handOne
theorem Stands.eventsN {fuel es} : Stands P (s.eventsN fuel es) := by
  induction fuel generalizing s es with
  | zero => exact h
  | succ fuel ih =>
    cases es with
    | nil => exact h
    | cons e es =>
      refine ih ?_
      exact foldlOn Prod.snd (a := ([], s)) h fun h => h.eventOne
theorem Stands.event {code status source args} : Stands P (s.event code status source args) :=
  h.eventsN
theorem Stands.hand {kind cam bytes tick tag} : Stands P (s.hand kind cam bytes tick tag) :=
  h.handOne.eventsN
theorem Stands.releaseItems : Stands P s.releaseItems := branch h (h.update.foldl fun h => h.hand)

/-! ### The functions of Machine/HostAct -/

theorem Stands.stageMgmt {c} : Stands P (s.stageMgmt c) := h.update
theorem Stands.hostActivity : Stands P s.hostActivity :=
  branch h.update.setFlag.stageMgmt.event h.update
theorem Stands.hostAbsent : Stands P s.hostAbsent := h.setFlag.stageMgmt.update.event
theorem Stands.pf0Write {f} (hf : ∀ {t}, Stands P t → Stands P (f t)) :
    Stands P (s.pf0Write f) :=
  branch (hf h.hostActivity) h
theorem Stands.pf1Write {f} (hf : ∀ {t}, Stands P t → Stands P (f t)) :
    Stands P (s.pf1Write f) :=
  branch (hf h) h

/-! ### The functions of Machine/RingCmds -/

theorem Stands.popHead {n} : Stands P (s.popHead n) := h.setRing
theorem Stands.dropUndefined {n fuel} : Stands P (s.dropUndefined n fuel) := by
  induction fuel generalizing s with
  | zero => exact h
  | succ fuel ih =>
    unfold State.dropUndefined
    split
    · exact branch h (ih h.popHead.complete)
    · exact h
theorem Stands.nextHead {n} : Stands P (s.nextHead n) := h.popHead.dropUndefined.settleRing
theorem Stands.finishHead {n status result} : Stands P (s.finishHead n status result) := by
  unfold State.finishHead
  split
  · exact h
  · exact h.popHead.complete.dropUndefined.settleRing
theorem Stands.startHead {n} : Stands P (s.startHead n) := h.setRing
theorem Stands.writeRingCfg {n v} : Stands P (s.writeRingCfg n v) := h.plainWriteReg
theorem Stands.setEn {n b} : Stands P (s.setEn n b) := h.setFlag
theorem Stands.ringEnable {n v} : Stands P (s.ringEnable n v) :=
  branch h (branch h.writeRingCfg.setRing.setEn (branch h.writeRingCfg.setRing h.writeRingCfg.setRing.setRing))
theorem Stands.abortBufs {n fuel} : Stands P (s.abortBufs n fuel) := by
  induction fuel generalizing s with
  | zero => exact h
  | succ fuel ih =>
    unfold State.abortBufs
    split
    · exact h
    · exact ih (branch h.closeBuf h.closeBuf)
theorem Stands.abortDescs {n l} : Stands P (s.abortDescs n l) := by
  induction l generalizing s with
  | nil => exact h
  | cons d rest ih => exact ih h.setRing.complete
theorem Stands.cutLate {n} : Stands P (s.cutLate n) := h.update
theorem Stands.ringDisable {n v} : Stands P (s.ringDisable n v) :=
  branch h.writeRingCfg (branch (branch h.setRing h.setRing.setEn) (branch h.setRing.setEn.setRing.abortBufs
    h.setRing.setEn.cutLate.abortDescs).settleRing)
theorem Stands.doorbellErr {n} : Stands P (s.doorbellErr n) := branch h.count h.count
theorem Stands.doorbellWrite {n} {f} (hf : ∀ {t}, Stands P t → Stands P (f t)) :
    Stands P (s.doorbellWrite n f) :=
  branch (h.pf0Write hf) (h.pf1Write fun h => hf h.hostActivity)
theorem Stands.tailDoorbell {n v} : Stands P (s.tailDoorbell n v) :=
  have h1 := branch h.setRing h.setRing.setFld
  branch h1.doorbellErr h1.setRing
theorem Stands.headDoorbell {n v} : Stands P (s.headDoorbell n v) :=
  have h1 := branch h.setRing h.setRing.setFld
  branch h1.doorbellErr h1.setRing.drainCq
theorem Stands.endTurn {n} : Stands P (s.endTurn n) := h.update
theorem Stands.fetchFailed {n opcode} : Stands P (s.fetchFailed n opcode) :=
  h.readFailed.setRing.complete
theorem Stands.bumpDev {n} : Stands P (s.bumpDev n) := h.setRing
theorem Stands.noteFetch {n} : Stands P (s.noteFetch n) := h.update
theorem Stands.execDescriptorFetch {dt ring data} :
    NextStands P (Machine.execDescriptorFetch dt ring data s) := by
  unfold Machine.execDescriptorFetch
  extract_lets
  split
  · split
    · exact h.advance.endTurn.free.fetchFailed
    · exact h.advance.endTurn.bumpDev.noteFetch.setRing.dropUndefined
  · exact h.advance
theorem Stands.execBufferFetch {dt ring data} : NextStands P (Machine.execBufferFetch dt ring data s) := by
  refine branch ?_ h.advance
  split
  · exact h.advance.fetchFailed
  · dsimp only
    split
    · exact h.advance.bumpDev.setRing
    · exact h.advance.bumpDev.complete
theorem Stands.archCfgWrite {v} : Stands P (s.archCfgWrite v) :=
  branch h.setFlag (branch h.plainWriteReg.setWide.setFld.update h.plainWriteReg)
theorem Stands.ringClr {v} : Stands P (s.ringClr v) :=
  have h1 := branch h.setFld h
  branch h1.setFld h1
theorem Stands.ringDropClr {v} : Stands P (s.ringDropClr v) := h.foldl fun h => branch h.setFld h

/-! ### The functions of Machine/Pcie -/

theorem Stands.sendHeld {x1} : Stands P (s.sendHeld x1) := by
  unfold State.sendHeld
  split
  · exact h.msixDue
  · exact h.emit
theorem Stands.equalised {speed} : Stands P (s.equalised speed) := branch h h.free.update
theorem Stands.linkTrained {w rev speed} : Stands P (s.linkTrained w rev speed) :=
  ((h.setFld.setFlag.setFld.equalised.update.foldl fun h => h.writeMem).foldl fun h => h.sendHeld).foldl fun h =>
    branch h.drainCq h
theorem Stands.laneReport : Stands P s.laneReport := branch h.update.event h
theorem Stands.execLinkUp {dt lanes speed} : NextStands P (Machine.execLinkUp dt lanes speed s) := by
  unfold Machine.execLinkUp
  extract_lets
  split
  · split
    · exact (branch h.advance.setFld.update h.advance).linkTrained.laneReport
    · exact branch h.advance.setFld.update h.advance
  · exact h.advance
theorem Stands.retrain : Stands P s.retrain := branch h.count.update h
theorem Stands.linkCfgWrite {v} : Stands P (s.linkCfgWrite v) :=
  have h1 := branch (branch h h.setFld).update (branch h h.setFld)
  branch h1.retrain h1
theorem Stands.pcieClr {v} : Stands P (s.pcieClr v) :=
  have h1 := branch h.setReg h
  have h2 := branch h1.setReg h1
  have h3 := branch h2.setReg h2
  branch h3.setReg h3
theorem Stands.linkError {lane} : Stands P (s.linkError lane) :=
  match lane with
  | some _ => h.free.reportCorrectable.reportCorrectable.setFn
  | none => h.free.reportCorrectable.reportCorrectable
theorem Stands.writeTable {key bank off bs} : Stands P (s.writeTable key bank off bs) := h.update
theorem Stands.abandonLoad {l} : Stands P (s.abandonLoad l) := h.free.writeTable.update
theorem Stands.resetRegs {lo hi} : Stands P (s.resetRegs lo hi) := h.update
theorem Stands.stopF0 : Stands P s.stopF0 := (h.foldl fun h => h.abandonLoad).update.resetRegs.count
theorem Stands.stopF1 : Stands P s.stopF1 := h.update.resetRegs.completeAllOf
theorem Stands.stopFn {i} : Stands P (s.stopFn i) := branch h.stopF0 h.stopF1
theorem Stands.functionReset {i} : Stands P (s.functionReset i) := h.setFn.stopFn.count
theorem Stands.busMasterOff {i} : Stands P (s.busMasterOff i) := branch h.setFn.stopFn.count h
theorem Stands.linkReset {next perst} : Stands P (s.linkReset next perst) :=
  have h1 := h.setFn.setFn.stopFn
  branch h1.stopFn.setFld.update.count.raiseFast h1.stopFn.setFld.update.count
theorem Stands.enterL2 : Stands P s.enterL2 := h.count.linkReset.setFn.setFn
theorem Stands.execHotReset {dt kind} : NextStands P (Machine.execHotReset dt kind s) := by
  unfold Machine.execHotReset
  extract_lets
  split
  · exact branch h.advance.update h.advance.linkReset
  · exact branch h.advance (branch h.advance.enterL2 (branch h.advance.count h.advance).linkReset)
theorem Stands.sendIfPending {i v} : Stands P (s.sendIfPending i v) := branch h.setFn.sendVector h
theorem Stands.sendPending {i} : Stands P (s.sendPending i) := h.foldl fun h => h.sendIfPending
theorem Stands.setVector {i v e} : Stands P (s.setVector i v e) := h.setFn.sendIfPending
theorem Stands.closeOpenBufs : Stands P s.closeOpenBufs := by
  unfold State.closeOpenBufs
  refine h.foldl fun h => ?_
  split
  · exact branch h h.closeBuf
  · exact h
theorem Stands.enterD3hot {i} : Stands P (s.enterD3hot i) :=
  branch h (branch h.setFn.closeOpenBufs h.setFn)
theorem Stands.resumeCq {q} : Stands P (s.resumeCq q) := branch h.drainHeld.cqDue h.drainHeld
theorem Stands.returnD0 {i} : Stands P (s.returnD0 i) :=
  have h1 := h.setFn.sendPending
  branch (branch (h1.foldl fun h => branch h.resumeCq h) (branch h1.resumeCq.msixDue h1.resumeCq)) h
theorem Stands.writeVectorWord {i v j w} : Stands P (s.writeVectorWord i v j w) := h.setVector
theorem Stands.barWrite {i} {f} (hf : ∀ {t}, Stands P t → Stands P (f t)) :
    Stands P (s.barWrite i f) :=
  branch (h.pf0Write hf) (h.pf1Write hf)
theorem Stands.marginCommand {off} : Stands P (s.marginCommand off) :=
  branch h.setFn.update h.setFn.free.update
theorem Stands.capWrite {i off v} : Stands P (s.capWrite i off v) :=
  branch h (branch h.setFn.marginCommand h.setFn)
theorem Stands.cfgWrite {i off v} : Stands P (s.cfgWrite i off v) :=
  branch h (branch (branch h.capWrite.setFn.setFn.sendPending h.capWrite.setFn.busMasterOff) (branch h.capWrite.setFn
    (branch (branch h.capWrite.setFn.enterD3hot (branch h.capWrite.setFn.returnD0 h.capWrite.setFn)) (branch
    h.capWrite.setFn.sendPending (branch (branch h.capWrite.functionReset h.capWrite.setFn) (branch h.capWrite.setFn
    (branch h.capWrite.setFn h.capWrite)))))))

/-! ### The functions of Machine/Nvm -/

theorem Stands.program {j} : Stands P (s.program j) :=
  branch (branch h.updateNvm h.count) (branch h h.updateNvm)
theorem Stands.journal {type body note} : Stands P (s.journal type body note) := h.program
theorem Stands.journalOpaque {type note} : Stands P (s.journalOpaque type note) := h.journal
theorem Stands.releaseCold : Stands P s.releaseCold := h.updateNvm
theorem Stands.faultRecord {r} : Stands P (s.faultRecord r) :=
  have h1 : Stands P { s with nvm := { s.nvm with faultSeq := s.nvm.faultSeq + 1 } } := h.updateNvm
  h1.journal
theorem Stands.nvmReadFailed {len} : Stands P (s.nvmReadFailed len).2 := h.raiseFast.free
theorem Stands.nvmRead {bs} : Stands P (s.nvmRead bs).2 := by
  unfold State.nvmRead
  extract_lets
  split
  · exact h.free.nvmReadFailed
  · exact h.free
theorem Stands.writeNvm {a bs} : Stands P (s.writeNvm a bs) := h.updateNvm
theorem Stands.eraseBlock {b} : Stands P (s.eraseBlock b) := by
  unfold State.eraseBlock
  extract_lets t
  have ht : Stands P t := h.writeNvm
  exact ht.updateNvm
theorem Stands.journalWear : Stands P s.journalWear := h.journalOpaque
theorem Stands.compact : Stands P s.compact := by
  unfold State.compact
  extract_lets _ bytes base s1 s2
  have h2 : Stands P s2 := h.writeNvm.foldl fun h => h.eraseBlock
  exact Stands.journalWear h2.updateNvm
theorem Stands.makeRoom {n} : Stands P (s.makeRoom n) := branch h.compact h
theorem Stands.placeRecord {n bs} : Stands P (s.placeRecord n bs) := h.updateNvm
theorem Stands.writeRecord {type body note} : Stands P (s.writeRecord type body note) := by
  unfold State.writeRecord
  extract_lets bs t
  have ht : Stands P t := h.makeRoom
  exact Stands.placeRecord ht.updateNvm
theorem Stands.takeNote {x1} : Stands P (s.takeNote x1) := by
  unfold State.takeNote
  split
  · exact h.updateNvm
  · exact h.updateNvm
  · exact h.updateNvm
  · exact h.updateNvm
  · exact h.updateNvm
  · exact h.updateNvm
  · exact h.updateNvm
  · exact h
  · exact h
  · exact h
  · exact h
theorem Stands.readJournal : Stands P s.readJournal := by
  unfold State.readJournal
  extract_lets l t
  have ht : Stands P t := h.foldl fun h => h.takeNote
  exact ht.updateNvm
theorem Stands.cutJob : Stands P s.cutJob := by
  unfold State.cutJob
  extract_lets _ _ t v
  have ht : Stands P t := h.updateNvm
  clear_value t
  split
  · exact h
  · exact branch ht ht.makeRoom.placeRecord
  · exact ht.writeNvm
  · exact branch ht.eraseBlock ht

/-! ### The functions of Machine/Spares -/

theorem Stands.journalMap : Stands P s.journalMap := h.journalOpaque
theorem Stands.staleSubsts {p} : Stands P (s.staleSubsts p) := h.update
theorem Stands.setUnit {cls u v} : Stands P (s.setUnit cls u v) :=
  branch h.update (branch h.update.staleSubsts h.update).journalMap
theorem Stands.setHolder {cls r u} : Stands P (s.setHolder cls r u) := h.staleSubsts.update
theorem Stands.setEpoch {cls r e} : Stands P (s.setEpoch cls r e) := h.update
theorem Stands.bumpEpoch {cls r} : Stands P (s.bumpEpoch cls r) := h.setEpoch
theorem Stands.setLost {cls r b} : Stands P (s.setLost cls r b) := h.update
theorem Stands.setKept {r b} : Stands P (s.setKept r b) := h.update
theorem Stands.setNoSpare {cls r b} : Stands P (s.setNoSpare cls r b) := h.update.setFld
theorem Stands.mailbox {op used} {f} (hf : ∀ {a0 t}, Stands P t → Stands P (f a0 t)) :
    Stands P (s.mailbox op used f) := by
  unfold State.mailbox
  split
  · exact h
  · exact branch h.finishHead (branch h.finishHead (branch h (hf h)))
theorem Stands.finishMbox {st result} : Stands P (s.finishMbox st result) := h.finishHead
theorem Stands.finishWaiting {notify st result} : Stands P (s.finishWaiting notify st result) :=
  branch h.finishMbox h
theorem Stands.endTestWith {t verdict patterns after} :
    Stands P (s.endTestWith t verdict patterns after) := by
  unfold State.endTestWith
  extract_lets rest _ s1 s2 s3 s4 s5 s6
  have h1 : Stands P s1 := h.update
  have h3 : Stands P s3 := by
    dsimp only [s3]
    split <;> exact h1.setReg.setReg
  have h5 : Stands P s5 := h3.setFld.count.setUnit
  exact (branch (branch h5.faultRecord h5) h5.faultRecord).finishWaiting
theorem Stands.setQueue {l} : Stands P (s.setQueue l) := h.update.setFlag
theorem Stands.pushSubst {q} : Stands P (s.pushSubst q) := h.setQueue
theorem Stands.copyDone : Stands P s.copyDone := h.setQueue
theorem Stands.queueSubst {q new} : Stands P (s.queueSubst q new) := by
  unfold State.queueSubst
  refine Stands.pushSubst ?_
  split
  · exact h.setUnit
  · exact h
theorem Stands.giveBack {q} : Stands P (s.giveBack q) := by
  unfold State.giveBack
  split
  · exact branch h.setUnit h
  · exact h
theorem Stands.dropTest {t} : Stands P (s.dropTest t) :=
  (h.setQueue.foldl fun h => h.giveBack).endTestWith
theorem Stands.chooseSpare {q} : Stands P (s.chooseSpare q) := by
  unfold State.chooseSpare
  split
  · exact h.queueSubst
  · split
    · exact h.free.endTestWith.queueSubst
    · refine Stands.queueSubst ?_
      split
      · exact h.dropTest
      · exact h
theorem Stands.seekSpare {cls r old why} : Stands P (s.seekSpare cls r old why) :=
  (h.setQueue.foldl fun h => h.giveBack).chooseSpare.foldl fun h => h.chooseSpare
theorem Stands.replaceChosen {cls u} : Stands P (s.replaceChosen cls u) := by
  unfold State.replaceChosen
  refine h.setQueue.foldl fun h => ?_
  split
  · split
    · exact h.dropTest
    · exact h
  · exact h.chooseSpare
theorem Stands.testGone {cls u} : Stands P (s.testGone cls u) :=
  h.update.foldl fun h => h.finishWaiting
theorem Stands.changeWhy {q why} : Stands P (s.changeWhy q why) := h.update
theorem Stands.retireTested {cls u} : Stands P (s.retireTested cls u) := by
  unfold State.retireTested
  split
  · exact h.free.endTestWith.count
  · exact h.setUnit
theorem Stands.retire {cls u source} : Stands P (s.retire cls u source) := by
  unfold State.retire
  dsimp only
  split
  · exact h
  · exact h.setUnit
  · exact h.retireTested
  · split
    · exact h.setUnit.replaceChosen
    · split
      · exact h.setUnit.seekSpare
      · split
        · exact h.setUnit.testGone.changeWhy
        · exact branch h.setUnit h.setUnit.seekSpare
theorem Stands.setTests {l} : Stands P (s.setTests l) := h.update
theorem Stands.abortTest {t} : Stands P (s.abortTest t) := by
  unfold State.abortTest
  dsimp only
  split
  · split
    · exact branch h.free.endTestWith.queueSubst h.free.endTestWith
    · exact h.free.endTestWith
  · exact h.dropTest
theorem Stands.abortTests : Stands P s.abortTests := h.foldl fun h => h.abortTest
theorem Stands.abortRunning : Stands P s.abortRunning := h.foldl fun h => h.abortTest

/-! ### The functions of Machine/Takeover -/

theorem Stands.putBank {bank st} : Stands P (s.putBank bank st) := branch h.updateNvm h.updateNvm
theorem Stands.journalBanks : Stands P s.journalBanks := h.journalOpaque
theorem Stands.setBank {bank st} : Stands P (s.setBank bank st) := h.putBank.journalBanks
theorem Stands.bootCoach {u bank} : Stands P (s.bootCoach u bank) := branch h.update h.update
theorem Stands.restartStandby {u why} : Stands P (s.restartStandby u why) := h.bootCoach.update
theorem Stands.returnSources {t} : Stands P (s.returnSources t) := by
  unfold State.returnSources
  exact h.icxChange fun h => h.completeAllOf.foldl fun h => h.makePending
theorem Stands.swapCoaches : Stands P s.swapCoaches :=
  have h1 := h.setFld.setHolder.bumpEpoch
  branch h1.setUnit h1.setUnit.setHolder.bumpEpoch.setUnit
theorem Stands.restartFormer {old} : Stands P (s.restartFormer old) := branch h h.restartStandby
theorem Stands.afterTakeOver {old expired x3} : Stands P (s.afterTakeOver old expired x3) := by
  unfold State.afterTakeOver
  split
  · exact
      have h1 := h.update.setBank.finishWaiting
      branch h1.restartFormer h1
  · exact h.update.setBank.restartFormer
  · exact h.restartFormer
theorem Stands.showItem {item b} : Stands P (s.showItem item b) := h.setFld
theorem Stands.rerunMailbox : Stands P s.rerunMailbox :=
  have h1 := branch h.update.setFld h
  branch ((branch h1.showItem.update h1).setTests.setRing) h
theorem Stands.takeOver {why} : Stands P (s.takeOver why) :=
  (branch h.rerunMailbox h).abortRunning.swapCoaches.update.event.returnSources.afterTakeOver
theorem Stands.requestTakeOver {why} : Stands P (s.requestTakeOver why) := branch h.update h.takeOver
theorem Stands.askTakeOver {why} : Stands P (s.askTakeOver why) :=
  branch h (branch h.update (branch h h.requestTakeOver))
theorem Stands.standbyExpired {u} : Stands P (s.standbyExpired u) := by
  unfold State.standbyExpired
  split
  · extract_lets
    split
    · exact h.update.finishWaiting
    · exact h.update.finishWaiting
    · exact h.update.finishWaiting
    · exact h.update
  · split
    · exact h
    · exact h.update
    · exact h.restartStandby.update
    · exact h.restartStandby
theorem Stands.coachGone {u} : Stands P (s.coachGone u) :=
  branch h.update.askTakeOver h.standbyExpired

/-! ### The functions of Machine/Faults -/

theorem Stands.setBucket {src inst l} : Stands P (s.setBucket src inst l) := h.update
theorem Stands.laneCheck : Stands P s.laneCheck := by
  unfold State.laneCheck
  extract_lets
  split
  · exact h.setFld.setUnit.retrain.update
  · exact h
theorem Stands.retireLoop {u} : Stands P (s.retireLoop u) :=
  have h1 := h.retireTested.setFld
  branch h1.setFlag h1
theorem Stands.leftWithout {cls r u source} : Stands P (s.leftWithout cls r u source) :=
  h.event.faultRecord.setNoSpare
theorem Stands.coachLost {u source} : Stands P (s.coachLost u source) := h.leftWithout.setLost
theorem Stands.spareRow {n} : Stands P (s.spareRow n) :=
  branch h (branch h.pushSubst h.setUnit.pushSubst)
theorem Stands.lastingEffect {src inst} : Stands P (s.lastingEffect src inst) := by
  unfold State.lastingEffect
  extract_lets
  split
  · exact h.spareRow
  · exact h.retireTested.setFld
  · exact h.laneCheck
  · exact h.retireTested
  · exact branch h.retire (branch h.retireLoop (branch h.retireTested.coachLost.coachGone h))
  · exact branch h.retire (branch h.retireLoop (branch h.retireTested.coachLost.coachGone h))
  · exact branch h.retire (branch h.retireLoop (branch h.retireTested.coachLost.coachGone h))
  · exact branch h.retire (branch h.retireLoop (branch h.retireTested.coachLost.coachGone h))
  · exact branch h.retire (branch h.retireLoop (branch h.retireTested.coachLost.coachGone h))
  · exact branch h.retire (branch h.retireLoop (branch h.retireTested.coachLost.coachGone h))
  · exact h
theorem Stands.lasting {src inst unit} : Stands P (s.lasting src inst unit) :=
  (branch h.event h.event.faultRecord).count.lastingEffect
theorem Stands.chargeFor {src inst unit} : Stands P (s.chargeFor src inst unit) :=
  branch h.count (branch h.count.setBucket.lasting h.count.setBucket)
theorem Stands.charge {src inst} : Stands P (s.charge src inst) := h.chargeFor
theorem Stands.chargeMemory {inst} : Stands P (s.chargeMemory inst) := h.charge
theorem Stands.rowAlone {n source} : Stands P (s.rowAlone n source) := h.leftWithout.chargeMemory
theorem Stands.chargeRow {n} : Stands P (s.chargeRow n) := h.charge
theorem Stands.chargeSram {e} : Stands P (s.chargeSram e) :=
  (h.foldl fun h => h.chargeRow).foldl fun h => h.raiseFast.chargeMemory
theorem Stands.execPcieCorrectableError {dt lane} :
    NextStands P (Machine.execPcieCorrectableError dt lane s) := by
  refine branch h.advance (charge ?_)
  split
  · exact h.advance.linkError.count.update
  · exact h.advance.linkError
theorem Stands.applyNewHolder {q u e} : Stands P (s.applyNewHolder q u e) := by
  unfold State.applyNewHolder
  extract_lets s0 s1 s2 old s3 s4 s5 s6
  have h2 : Stands P s2 := (branch h.setKept h).setHolder.setEpoch.setLost.setNoSpare.setUnit
  have h3 : Stands P s3 := by
    dsimp only [s3]
    split
    · exact h2
    · split
      · exact h2.setUnit
      · exact h2.setUnit
      · exact branch h2.setUnit.setTests.setReg h2.setUnit
  have h6 : Stands P s6 := (branch h3 h3.event).faultRecord.journalMap.count
  split
  · exact h6.finishWaiting
  · exact h6
theorem Stands.applyNoSpare {q} : Stands P (s.applyNoSpare q) :=
  branch h.leftWithout.setKept.journalMap h.leftWithout.setLost
theorem Stands.applySubst {q} : Stands P (s.applySubst q) := by
  unfold State.applySubst
  split
  · exact branch h.count h.rowAlone
  · split
    · split
      · exact h.finishWaiting
      · exact h.giveBack.testGone
      · exact h.giveBack
    · split
      · exact h.applyNewHolder
      · exact h.applyNoSpare
theorem Stands.coupleSpares {t first} : Stands P (s.coupleSpares t first) :=
  h.setQueue.foldl fun h => h.applySubst
theorem Stands.execSpareAssign : NextStands P (Machine.execSpareAssign s) := by
  unfold Machine.execSpareAssign
  refine h.mailbox fun h => ?_
  extract_lets
  split
  · exact h.finishMbox
  · split
    · exact h.finishMbox
    · split
      · split
        · exact h.finishMbox
        · exact h.startHead.pushSubst
      · exact branch h.finishMbox (branch h.finishMbox h.startHead.pushSubst)
theorem Stands.startTest {cls u notify} : Stands P (s.startTest cls u notify) := by
  unfold State.startTest
  extract_lets
  split
  · exact h.setUnit.setTests.setReg
  · split
    · exact h
    · split
      · exact h
      · exact h.queueSubst.setTests
theorem Stands.execSelftestUnit : NextStands P (Machine.execSelftestUnit s) := by
  unfold Machine.execSelftestUnit
  refine h.mailbox fun h => ?_
  extract_lets
  split
  · exact h.finishMbox
  · split
    · exact h.finishMbox
    · split
      · exact h.startHead.startTest
      · split
        · exact branch h.finishMbox h.startHead.startTest
        · exact h.finishMbox
theorem Stands.execSelftestComplete {dt cls pass patterns} :
    NextStands P (Machine.execSelftestComplete dt cls pass patterns s) := by
  unfold Machine.execSelftestComplete
  extract_lets
  split
  · exact h.advance
  · exact
      have h1 := h.advance.endTestWith
      branch h1.charge h1
theorem Stands.execSelftestTurn {dt cls} : NextStands P (Machine.execSelftestTurn dt cls s) := by
  unfold Machine.execSelftestTurn
  extract_lets
  split
  · split
    · exact h.advance
    · extract_lets
      split
      · exact branch h.advance.update.count h.advance.update.startTest
      · exact h.advance.update
      · exact h.advance.update.startTest
  · exact h.advance
theorem Stands.takenFromTest {cls u r} : Stands P (s.takenFromTest cls u r) := by
  unfold State.takenFromTest
  split
  · exact h.free.endTestWith
  · exact h.setUnit
theorem Stands.sprClr {v} : Stands P (s.sprClr v) :=
  have h1 := h.foldl fun h => branch h.setReg h
  branch (h1.foldl fun h => h.setFld) h1
theorem Stands.fltClr {v} : Stands P (s.fltClr v) := h.foldl fun h => branch h.setFld.setFld h

/-! ### The functions of Machine/IcxCmds -/

theorem Stands.answer {v} : Stands P (s.answer v) := h.update
theorem Stands.barRead {i} {f} (hf : ∀ {t}, Stands P t → Stands P (f t).2) :
    Stands P (s.barRead i f) :=
  branch (hf h).answer (branch h.answer h)
theorem Stands.completeFastCharged {t n} : Stands P (s.completeFastCharged t n) :=
  branch h.completeFast h.completeFast.charge
theorem Stands.execCoachmanIcxClaim {core fast} :
    NextStands P (Machine.execCoachmanIcxClaim core fast s) := by
  unfold Machine.execCoachmanIcxClaim
  split
  · refine Stands.answer ?_
    split
    · exact h.claimFast
    · exact h.claimNormal
  · exact h
theorem Stands.icxCntClr {v} : Stands P (s.icxCntClr v) := h.foldl fun h => branch h.setFld h

/-! ### The functions of Machine/Power -/

theorem Stands.abortSleep : Stands P s.abortSleep := h.update.setFlag.count.finishWaiting
theorem Stands.wakeFires {src} : Stands P (s.wakeFires src) :=
  branch h (branch h (branch (branch h.setFld.abortSleep h.setFld) (branch h.setFld.abortSleep h.setFld).update))

/-! ### The functions of Machine/Sequencer -/

theorem Stands.candidate {lat} : Stands P (s.candidate lat) :=
  branch h.update (branch h.update.count (branch h.update.count (branch h.count h.update)))
theorem Stands.trigCount : Stands P s.trigCount := branch h.update.candidate h.update

/-! ### The functions of Machine/Timebase -/

theorem Stands.setTrigOut {k t} : Stands P (s.setTrigOut k t) := h.update
theorem Stands.queueTrig {k ofs} : Stands P (s.queueTrig k ofs) := h.setTrigOut
theorem Stands.setCompare {n c} : Stands P (s.setCompare n c) := h.update
theorem Stands.armCompare {n} : Stands P (s.armCompare n) := h.setCompare.setFlag
theorem Stands.cmpValHi {n v} : Stands P (s.cmpValHi n v) :=
  branch h.setReg.setCompare.setFld.armCompare h.setReg.setCompare.setFld
theorem Stands.cmpCtl {n v} : Stands P (s.cmpCtl n v) :=
  branch (branch h.plainWriteReg h.plainWriteReg.armCompare) h.plainWriteReg.setFlag
theorem Stands.reloadCompare {n} : Stands P (s.reloadCompare n) := h.setCompare.count
theorem Stands.fireOutputs {n} : Stands P (s.fireOutputs n) :=
  have h1 := h.foldl fun h => branch h.queueTrig h
  branch h1.setPin.update h1
theorem Stands.fire {n} : Stands P (s.fire n) :=
  have h1 := h.setFld.fireOutputs
  have h2 := branch h1.raise h1
  have h3 := branch h2.wakeFires h2
  have h4 := branch h3.reloadCompare h3.setFlag
  branch h4.candidate h4
theorem Stands.setShadow {n rising v} : Stands P (s.setShadow n rising v) := h.update
theorem Stands.stampReg {n rising t} : Stands P (s.stampReg n rising t) := h.setWide.setFlag
theorem Stands.stamp {n rising} : Stands P (s.stamp n rising) :=
  branch h.stampReg (branch h.setShadow.setFlag h.count)
theorem Stands.captureEdge {n src rising} : Stands P (s.captureEdge n src rising) :=
  branch h.count.setFlag (branch h (branch h.count h.stamp))
theorem Stands.capRelease {n} : Stands P (s.capRelease n) := by
  unfold State.capRelease
  split
  · extract_lets move
    have hmove {t : State} {b : Bool} (ht : Stands P t) : Stands P (move t b) := by
      dsimp only [move]
      split
      · exact ht.setShadow.stampReg
      · exact ht
    exact (hmove (hmove h)).setFlag.setFlag
  · exact h
theorem Stands.capStat {n v} : Stands P (s.capStat n v) :=
  have h1 := branch h.setFlag h
  have h2 := branch h1.setFld h1
  branch h2.capRelease h2
theorem Stands.capCtl {n v} : Stands P (s.capCtl n v) :=
  have h1 := branch h.setFlag.setFlag h
  branch h1.setFlag.setFld h1.setFlag
theorem Stands.gcCtl {n v} : Stands P (s.gcCtl n v) :=
  have h1 := branch h.setFlag.setFlag.setWide h.setFlag.setFlag
  have h2 := branch h1.setFlag h1
  have h3 := branch h2.setFld h2
  branch h3.setFlag h3
theorem Stands.syncCtl {v} : Stands P (s.syncCtl v) :=
  branch h.setFlag.setFlag (branch h.setFlag.setFlag h.setFlag)
theorem Stands.loadTimebase : Stands P s.loadTimebase := h.update.setWide.setFlag.setFlag.event
theorem Stands.repeatSync : Stands P s.repeatSync := branch h.setPin h
theorem Stands.syncEdge {level} : Stands P (s.syncEdge level) := h.update.setPin
theorem Stands.execTsyncOutInactive {dt} : NextStands P (Machine.execTsyncOutInactive dt s) := by
  unfold Machine.execTsyncOutInactive
  extract_lets
  split
  · exact branch h.advance.setPin.update h.advance
  · exact h.advance
theorem Stands.syncOut {v} : Stands P (s.syncOut v) :=
  branch h.plainWriteReg h.plainWriteReg.update.setPin
theorem Stands.ptmRequest : Stands P s.ptmRequest := branch h.update h
theorem Stands.ptmCtl {v} : Stands P (s.ptmCtl v) :=
  have h1 := branch h h.update.setFld
  branch h1.ptmRequest h1

/-! ### The functions of Machine/Exposure -/

theorem Stands.modFrame {tick f} : Stands P (s.modFrame tick f) := h.update
theorem Stands.limitedEvent {code sub status source args} :
    Stands P (s.limitedEvent code sub status source args) :=
  branch h h.update.event
theorem Stands.execExposureIntervalStart {dt} : NextStands P (Machine.execExposureIntervalStart dt s) := by
  unfold Machine.execExposureIntervalStart
  extract_lets
  split
  · split
    · exact branch h.advance.modFrame h.advance
    · exact h.advance
  · exact h.advance
theorem Stands.execExposureIntervalEnd {dt light} :
    NextStands P (Machine.execExposureIntervalEnd dt light s) := by
  unfold Machine.execExposureIntervalEnd
  extract_lets
  split
  · split
    · exact branch h.advance.modFrame h.advance
    · exact h.advance
  · exact h.advance
theorem Stands.setFirefly {f x} : Stands P (s.setFirefly f x) := h.update
theorem Stands.settleFireflies : Stands P s.settleFireflies := h.foldl fun h => branch h h.setPin
theorem Stands.suppressPulse {frame f} : Stands P (s.suppressPulse frame f) := by
  unfold State.suppressPulse
  extract_lets s1 s2 mask s3 s4
  have h3 : Stands P s3 := h.count.setFld.modFrame.update
  exact branch h3.limitedEvent h3.limitedEvent.update
theorem Stands.startPulse {x f p} : Stands P (s.startPulse x f p) :=
  branch h.modFrame.suppressPulse h.modFrame.setFirefly.setPin
theorem Stands.execFireflyPulseStart {dt f} : NextStands P (Machine.execFireflyPulseStart dt f s) := by
  unfold Machine.execFireflyPulseStart
  extract_lets
  split
  · split
    · exact branch h.advance.startPulse h.advance
    · exact h.advance
  · exact h.advance
theorem Stands.execReadoutStart {dt} : NextStands P (Machine.execReadoutStart dt s) := by
  unfold Machine.execReadoutStart
  extract_lets
  split
  · exact branch h.advance.modFrame h.advance
  · exact h.advance
theorem Stands.droop {mv} : Stands P (s.droop mv) := by
  unfold State.droop
  split
  · exact branch h.modFrame.count.limitedEvent h
  · exact h

/-! ### The functions of Machine/Readout -/

theorem Stands.chargeSlot {f used conv} : Stands P (s.chargeSlot f used conv) :=
  (h.count.foldl fun h => branch h.charge (h.foldl fun h => h.charge)).foldl fun h => branch h.charge h
theorem Stands.execRowSlot {dt analog} : NextStands P (Machine.execRowSlot dt analog s) := by
  unfold Machine.execRowSlot
  extract_lets
  split
  · exact branch h.advance.modFrame.chargeSlot h.advance
  · exact h.advance
theorem Stands.execAxlePacket {dt lane flips} : NextStands P (Machine.execAxlePacket dt lane flips s) := by
  unfold Machine.execAxlePacket
  extract_lets
  split
  · exact branch (branch h.advance.modFrame h.advance.modFrame.count.charge) h.advance
  · exact h.advance

/-! ### The functions of Machine/Companion -/

theorem Stands.modCam {p f} : Stands P (s.modCam p f) := h.update
theorem Stands.removeCam {x} : Stands P (s.removeCam x) := h.update
theorem Stands.malformed {x} : Stands P (s.malformed x) := h.count.removeCam
theorem Stands.dropCam {n st} : Stands P (s.dropCam n st) := h.count.limitedEvent
theorem Stands.showBuffered : Stands P s.showBuffered := h.foldl fun h => h.setFlag
theorem Stands.camStart {vc n} : Stands P (s.camStart vc n) :=
  branch (branch h.update.setWide.dropCam h.update.setWide) h.update.setWide.update
theorem Stands.csiHeader {x1} : Stands P (s.csiHeader x1).1 := by
  unfold State.csiHeader
  split
  · exact h
  · exact h.count
  · exact h.count
theorem Stands.showLanes {l} : Stands P (s.showLanes l) := h.setFld.setFlag
theorem Stands.camEnd {x} : Stands P (s.camEnd x) := by
  unfold State.camEnd
  split
  · exact h.malformed
  · split
    · exact h.modCam.modFrame
    · exact h.removeCam.dropCam
    · exact h.removeCam
theorem Stands.execMergeBufferDispatch {dt} : NextStands P (Machine.execMergeBufferDispatch dt s) := by
  unfold Machine.execMergeBufferDispatch
  extract_lets
  split
  · exact branch h.advance h.advance.modCam.showBuffered
  · exact h.advance
theorem Stands.settleTrigs : Stands P s.settleTrigs := h.foldl fun h => branch h h.setPin
theorem Stands.edgeTrigs {n} : Stands P (s.edgeTrigs n) := h.foldl fun h => branch h.queueTrig h
theorem Stands.endTrigs : Stands P s.endTrigs := (h.foldl fun h => h.setTrigOut).settleTrigs
theorem Stands.execTrigOutActive {dt k} : NextStands P (Machine.execTrigOutActive dt k s) := by
  unfold Machine.execTrigOutActive
  extract_lets
  split
  · exact branch h.advance h.advance.setTrigOut.setPin
  · exact h.advance

/-! ### The functions of Machine/Outputs -/

theorem Stands.passClaims {n tick} : Stands P (s.passClaims n tick) := h.setClaims
theorem Stands.fillBuf {n bytes tick tag st} : Stands P (s.fillBuf n bytes tick tag st) := by
  unfold State.fillBuf
  split
  · exact h
  · exact h.postMem.setRing.closeBuf.setClaims
theorem Stands.placeOutput {n o tick tag} : Stands P (s.placeOutput n o tick tag) := by
  have hd : Stands P ((s.drayFull false).2.passClaims n tick) := h.drayFull.passClaims
  unfold State.placeOutput
  dsimp only
  split
  · exact hd.count
  · exact branch hd.count.setClaims (branch hd.fillBuf hd.fillBuf.count)
theorem Stands.handOutput {o tick tag} : Stands P (s.handOutput o tick tag) := by
  have hb {c : Prop} [Decidable c] {kind cam items payload} :
      Stands P (if c then s.writeBlock kind cam items payload else ([], s)).2 := by
    split
    · exact h.writeBlock
    · exact h
  unfold State.handOutput
  dsimp only
  split
  · exact hb.eventsN.placeOutput
  · exact hb.eventsN.count
theorem Stands.handDisplay {f cam time v ds} : Stands P (s.handDisplay f cam time v ds) := by
  refine branch (branch h.count ?_) h
  split
  · exact h
  · exact h.free.update.handOutput
theorem Stands.handCoding {f cam time v ds} : Stands P (s.handCoding f cam time v ds) := by
  refine branch ?_ h
  split
  · exact h
  · exact h.free.handOutput
theorem Stands.handMv {f cam time v ds} : Stands P (s.handMv f cam time v ds) :=
  branch (h.foldl fun h => branch h h.handOutput) h
theorem Stands.handOutputs {f cam time v ds} : Stands P (s.handOutputs f cam time v ds) :=
  h.handDisplay.handCoding.handMv
theorem Stands.claimFrame {n tick} : Stands P (s.claimFrame n tick) := branch h h.setRing
theorem Stands.dropClaims : Stands P s.dropClaims := h.foldl fun h => branch h h.setClaims
theorem Stands.claimOutputs {tick} : Stands P (s.claimOutputs tick) :=
  h.dropClaims.foldl fun h => branch (branch h.claimFrame.claimFrame h.setClaims) h
theorem Stands.loseOutputs {f js time} : Stands P (s.loseOutputs f js time) := by
  unfold State.loseOutputs
  refine h.foldl fun h => ?_
  split
  · exact h
  · exact h.passClaims.foldl fun h => h.fillBuf
theorem Stands.handStats {f v ts} : Stands P (s.handStats f v ts) := branch h.hand h
theorem Stands.keepStats {f ts} : Stands P (s.keepStats f ts) := h.update

/-! ### The functions of Machine/Segment -/

theorem Stands.capReached {f} : Stands P (s.capReached f) := branch h h.modFrame.count.limitedEvent
theorem Stands.addRound {f time d} : Stands P (s.addRound f time d) :=
  branch h.count.count.count.modFrame.capReached h.count.count.count.modFrame

/-! ### The functions of Machine/Detect -/

theorem Stands.setCalEntry {item index v} : Stands P (s.setCalEntry item index v) := h.update
theorem Stands.applyEntries {es} : Stands P (s.applyEntries es) := h.foldl fun h => h.setCalEntry
theorem Stands.moveEntries {es} : Stands P (s.moveEntries es) := h.foldl fun h => h.setCalEntry
theorem Stands.stageClassB {c} : Stands P (s.stageClassB c) := h.update
theorem Stands.addDrift {x y kind} : Stands P (s.addDrift x y kind) := branch h.update.setFld h
theorem Stands.addDrifts {ps} : Stands P (s.addDrifts ps) := h.foldl fun h => h.addDrift
theorem Stands.classEvent {p} : Stands P (s.classEvent p) := h.event
theorem Stands.classPixels {ps} : Stands P (s.classPixels ps) :=
  have h1 := h.foldl fun h => h.classEvent
  branch h (branch h1.stageClassB h1.addDrifts)
theorem Stands.observePixel {d draw found p} :
    Stands P (State.observePixel d draw (s, found) p).1 := by
  unfold State.observePixel
  dsimp only
  split
  · exact h.update
  · exact h.update
theorem Stands.advanceGroup {d} : Stands P (s.advanceGroup d) := branch h.update h
theorem Stands.detectDrift {f ds} : Stands P (s.detectDrift f ds) := by
  refine branch h ?_
  split
  · exact h
  · exact (foldlOn Prod.fst h.free fun h => h.observePixel).update.advanceGroup.classPixels
theorem Stands.copyBank {key} : Stands P (s.copyBank key) := h.update
theorem Stands.writeFlat {a g} : Stands P (s.writeFlat a g) := by
  have h1 {k l} : Stands P ((s.free.2.copyBank k).copyBank l) := h.free.copyBank.copyBank
  unfold State.writeFlat
  refine (foldl (foldl h1 fun h => foldl h fun {t k} h => ?_) fun h => h.writeTable).setReg.update
  split
  · exact h.writeTable
  · exact h
theorem Stands.endFlat {a st result} : Stands P (s.endFlat a st result) :=
  h.update.setFld.finishWaiting
theorem Stands.endCalRun {r st} : Stands P (s.endCalRun r st) := h.update.setFld.finishWaiting
theorem Stands.stopCalRun : Stands P s.stopCalRun := by
  unfold State.stopCalRun
  split
  · exact branch h.endCalRun h
  · exact h
theorem Stands.settleFlat : Stands P s.settleFlat := by
  unfold State.settleFlat
  split
  · exact h
  · split
    · exact h
    · exact branch h.writeFlat.endFlat h
theorem Stands.flatFrame {f v ds ts} : Stands P (s.flatFrame f v ds ts) := by
  unfold State.flatFrame
  split
  · exact h
  · exact branch h (branch (branch h.endFlat h.update) (branch h.endFlat (branch h.update.settleFlat (branch h.endFlat
      h.update))))

/-! ### The functions of Machine/Pipeline -/

theorem Stands.learn {f d} : Stands P (s.learn f d) := h.update
theorem Stands.markPiped {f cam done} : Stands P (s.markPiped f cam done) := h.modFrame
theorem Stands.pipeLost {f} : Stands P (s.pipeLost f) :=
  h.markPiped.handStats.keepStats.flatFrame.loseOutputs
theorem Stands.pipeOwn {f0} : Stands P (s.pipeOwn f0) := by
  have hd {c : Prop} [Decidable c] : Stands P (if c then s.free else (0, s)).2 := by
    split
    · exact h.free
    · exact h
  unfold State.pipeOwn
  exact branch h.pipeLost ((((hd.modFrame.markPiped.foldl fun h => h.learn).count.foldl fun h =>
    h.addRound).handOutputs.handStats.keepStats).detectDrift.flatFrame)
theorem Stands.pipeCam {f x} : Stands P (s.pipeCam f x) :=
  have h1 := h.update.modFrame.markPiped
  branch h.update.markPiped.loseOutputs ((branch h1.learn.count.addRound h1.learn.count).handOutputs)
theorem Stands.pipeline {cam} : Stands P (s.pipeline cam) := by
  unfold State.pipeline
  split
  · split
    · exact branch h.pipeOwn h
    · exact h
  · split
    · split
      · exact h.pipeCam
      · exact h.update
    · exact h

/-! ### The functions of Machine/Eject -/

theorem Stands.moveDuty {window ps} : Stands P (s.moveDuty window ps) := h.foldl fun h => h.update
theorem Stands.commitPlan {x d tick x4} : Stands P (s.commitPlan x d tick x4).1 := by
  unfold State.commitPlan
  split
  · exact h.update
  · exact h.moveDuty.update.count
  · exact h
theorem Stands.protect {id r} : Stands P (s.protect id r) := h.update
theorem Stands.noteFired {id r tick valves} : Stands P (s.noteFired id r tick valves) := h.update
theorem Stands.pastConflicts {ds p} : Stands P (pastConflicts (s, ds) p).1 := by
  unfold Machine.pastConflicts
  dsimp only
  split
  · exact h
  · exact h.count
theorem Stands.noteQueued {d lastFire} : Stands P (s.noteQueued d lastFire) := by
  unfold State.noteQueued
  split
  · exact h
  · exact h.update
theorem Stands.fireDecision {v tick r ds id} : Stands P (fireDecision v tick r (s, ds) id).1 := by
  have hplans {s : State} {d tick} {l : List (Valve × Plan)} (h : Stands P s) :
      Stands P (l.foldl (fun (a : State × List Time) p =>
        ((a.1.commitPlan p.1 d tick p.2).1, a.2 ++ (a.1.commitPlan p.1 d tick p.2).2.toList)) (s, [])).1 :=
    foldlOn Prod.fst h fun h => h.commitPlan
  unfold Machine.fireDecision
  split
  · exact h
  · dsimp only
    split
    · exact h.count.protect
    · split
      · exact h.count.count.count.count.count.protect
      · split
        · exact branch h.count.count.count.count.protect h.count.count.count.count
        · exact (hplans h.count.count.count.count).noteFired.noteQueued
theorem Stands.queueTick {v noFire tick ds} : Stands P (s.queueTick v noFire tick ds).1 :=
  foldlOn Prod.fst (foldlOn Prod.fst h.update fun h => h.pastConflicts) fun h => h.fireDecision

/-! ### The functions of Machine/Tracker -/

theorem Stands.modTrack {i f} : Stands P (s.modTrack i f) := h.update
theorem Stands.freeTrack {i} : Stands P (s.freeTrack i) := h.modTrack
theorem Stands.allocate {i t} (ha : s.allocate = some (i, t)) : Stands P t := by
  simp only [State.allocate, Option.map_eq_some_iff, Prod.mk.injEq] at ha
  obtain ⟨_, _, _, rfl⟩ := ha
  exact h.update
theorem Stands.takeId : Stands P s.takeId.2 := h.update
theorem Stands.countIn {v tick t o i} : Stands P (s.countIn v tick t o i) :=
  branch h.modTrack.count h.modTrack
theorem Stands.addUntracked {tick u} : Stands P (s.addUntracked tick u) := by
  unfold State.addUntracked
  split
  · exact h.modFrame
  · exact h.update
theorem Stands.loseSighting {v f r o} : Stands P (s.loseSighting v f r o) := h.takeId.addUntracked
theorem Stands.noContext {v f r o} : Stands P (s.noContext v f r o) := h.count.loseSighting
theorem Stands.startTrack {v f r l o} : Stands P (startTrack v f r (s, l) o).1 := by
  unfold Machine.startTrack
  split
  · exact h.noContext
  · next ha => exact (h.allocate ha).takeId.modTrack
theorem Stands.splitTrack {v f r i l o} : Stands P (splitTrack v f r i (s, l) o).1 := by
  unfold Machine.splitTrack
  extract_lets t
  split
  · exact h.modTrack.noContext
  · next ha => exact (h.modTrack.allocate ha).takeId.modTrack.count.countIn
theorem Stands.resolveClaims {v f r claims l i} :
    Stands P (resolveClaims v f r claims (s, l) i).1 := by
  unfold Machine.resolveClaims
  extract_lets mine
  split
  · exact h
  · refine countIn ?_
    split
    · exact h.count
    · exact foldlOn Prod.fst h fun h => h.splitTrack
theorem Stands.overloadSegment {v f r draw o} : Stands P (s.overloadSegment v f r draw o) := by
  unfold State.overloadSegment
  refine Stands.loseSighting ?_
  split
  · exact h.modTrack
  · exact h
theorem Stands.countMisses {v r live counted} : Stands P (s.countMisses v r live counted) :=
  branch h (h.foldl fun h => branch h h.modTrack)
theorem Stands.ownRound {v f r} : Stands P (s.ownRound v f r) :=
  ((foldlOn Prod.fst (foldlOn Prod.fst
    (h.free.foldl fun h => branch (h.foldl fun h => h.modTrack) h)
    fun h => h.resolveClaims) fun h => h.startTrack).foldl fun h => h.overloadSegment).countMisses
theorem Stands.companionRound {v f r} : Stands P (s.companionRound v f r) :=
  (h.free.foldl fun h => h.modTrack).count.foldl fun h => h.overloadSegment

/-! ### The functions of Machine/Decide -/

theorem Stands.decideOne {v draw d} : Stands P (State.decideOne v draw s d).1 := by
  unfold State.decideOne
  split
  · exact h
  · exact (branch h.count h).count
theorem Stands.carryOut {v f ds0} : Stands P (s.carryOut v f ds0) := by
  refine foldl (queueTick (foldl h.free fun {t d} h => ?_)) fun h => h.hand.foldl fun h => h.hand
  split
  · exact h.modTrack
  · exact h
theorem Stands.endTrack {tick i} : Stands P (s.endTrack tick i) :=
  branch h.takeId.addUntracked.freeTrack (branch (branch h.freeTrack h.modTrack) h)
theorem Stands.contextErrors {tick contexts} : Stands P (s.contextErrors tick contexts) :=
  h.foldl fun h => branch h.endTrack.raiseFast.charge h
theorem Stands.sramErrors {tick e} : Stands P (s.sramErrors tick e) := h.contextErrors.chargeSram
theorem Stands.decideDue {v f} : Stands P (s.decideDue v f).1 :=
  foldlOn Prod.fst (branch h.free.count.capReached h.free.count) fun h => h.decideOne
theorem Stands.releaseOver {v} : Stands P (s.releaseOver v) := h.foldl fun h => h.freeTrack
theorem Stands.flushTracks {tick tag service all} : Stands P (s.flushTracks tick tag service all) :=
  h.update.foldl fun h => h.hand
theorem Stands.settleDrain : Stands P s.settleDrain := by
  unfold State.settleDrain
  split
  · exact h
  · extract_lets t _ s1
    have h1 : Stands P s1 := branch h h.flushTracks.update
    exact branch h1.update.setFlag h1
theorem Stands.dropFrames : Stands P s.dropFrames := h.update
theorem Stands.endFrame {f} : Stands P (s.endFrame f) := h.modFrame.dropFrames.settleDrain
theorem Stands.finishTick {f0} : Stands P (s.finishTick f0) :=
  h.decideDue.carryOut.releaseOver.endFrame
theorem Stands.endRound {f r} : Stands P (s.endRound f r) := by
  unfold State.endRound
  extract_lets
  split
  · exact branch h.modFrame (branch h.modFrame.dropFrames h.modFrame.finishTick)
  · exact h.modFrame
theorem Stands.runRound {own} : Stands P (s.runRound own) := by
  unfold State.runRound
  split
  · exact h
  · split
    · exact branch h.finishTick h
    · exact branch h (branch h.ownRound h.companionRound).endRound

/-! ### The functions of Machine/Weevil -/

theorem Stands.feed {r} : Stands P (s.feed r) := h.modEngine.modWv
theorem Stands.handRecord {r words} : Stands P (s.handRecord r words) := h.modWv.feed
theorem Stands.replay {r} : Stands P (s.replay r) := h.modEngine.modWv.count.feed
theorem Stands.ejSafe : Stands P s.ejSafe := h.raiseFast
theorem Stands.raiseSafe : Stands P s.raiseSafe := h.foldl fun h => branch h.ejSafe h
theorem Stands.settleTrip : Stands P s.settleTrip :=
  branch h (h.foldl fun h => branch h (branch h.modWv h.modWv.stopEngine.ejSafe.drive))
theorem Stands.startProgram {r} : Stands P (s.startProgram r) := h.modWv.modEngine.drive
theorem Stands.forceSwap {r} : Stands P (s.forceSwap r) :=
  h.count.modEngine.modWv.startProgram.ejSafe.replay
theorem Stands.clearInputs {r} : Stands P (s.clearInputs r) := h.foldl fun h => branch h h.modWvPin
theorem Stands.moveRole {r forced} : Stands P (s.moveRole r forced) :=
  (branch h.modWv.modEngine.modEngine.modWv h.modWv.modEngine.modEngine.modWv.startProgram).replay
theorem Stands.forceNow {r} : Stands P (s.forceNow r) :=
  branch h.count.modWv.moveRole.ejSafe h.forceSwap
theorem Stands.startNow {r} : Stands P (s.startNow r) :=
  branch h.modWv.modWv.moveRole h.modWv.startProgram
theorem Stands.swapProgram {r force} : Stands P (s.swapProgram r force) :=
  branch (branch h.forceNow h.forceNow.clearInputs) (branch (branch h.forceNow.raiseFast
    h.forceNow.raiseFast.clearInputs) (branch (branch h.startNow h.startNow.clearInputs) h.modWv))
theorem Stands.refreshEngine {e} : Stands P (s.refreshEngine e) := h.modEngine
theorem Stands.startOp {e op r arg t} (ho : s.startOp e op = some (r, arg, t)) : Stands P t := by
  unfold State.startOp at ho
  dsimp only at ho
  split at ho
  · contradiction
  · split at ho
    · split at ho
      · simp only [Option.some.injEq, Prod.mk.injEq] at ho
        obtain ⟨_, _, rfl⟩ := ho
        exact h.refreshEngine.free.modEngine.modWv.drive
      · contradiction
    · contradiction
theorem Stands.completeOp {e f} : Stands P (s.completeOp e f) := h.modEngine
theorem Stands.runOp {e op f} (hf : ∀ {r arg t}, Stands P t → Stands P (f r arg t)) :
    Stands P (s.runOp e op f) := by
  unfold State.runOp
  split
  · next ho => exact hf (h.startOp ho)
  · exact h

/-! ### The functions of Machine/WeevilOps -/

theorem Stands.doPull {e r} : Stands P (s.doPull e r) := by
  unfold State.doPull
  split
  · exact h
  · exact h.modEngine.writeSr.completeOp.feed
theorem Stands.doPush {e} : Stands P (s.doPush e) := h.completeOp
theorem Stands.stallPush {e} : Stands P (s.stallPush e) := h.modEngine
theorem Stands.execStallResume {dt e} : NextStands P (Machine.execStallResume dt e s) := by
  unfold Machine.execStallResume
  extract_lets
  split
  · exact branch h.advance.refreshEngine.doPull h.advance
  · exact branch h.advance.refreshEngine.doPush h.advance
  · exact h.advance
theorem Stands.startShift {e r arg out} : Stands P (s.startShift e r arg out) :=
  h.completeOp.refreshEngine.drive
theorem Stands.askShift {e r arg out} : Stands P (s.askShift e r arg out) :=
  branch h.startShift h.modEngine
theorem Stands.execShiftOut {dt e} : NextStands P (Machine.execShiftOut dt e s) := by
  unfold Machine.execShiftOut
  extract_lets
  split
  · trivial
  · exact h.advance.runOp fun h => h.askShift
theorem Stands.afterShift {e r} : Stands P (s.afterShift e r) := by
  unfold State.afterShift
  extract_lets
  split
  · exact branch h h.doPull
  · exact h.startShift
  · exact h.startShift
  · exact h
theorem Stands.padEdges {pads} : Stands P (s.padEdges pads) := h.foldl fun h => h.advance.wvEdge
theorem Stands.execShiftComplete {dt e pads} : NextStands P (Machine.execShiftComplete dt e pads s) := by
  unfold Machine.execShiftComplete
  extract_lets
  split
  · exact branch h.padEdges.advance.refreshEngine.modEngine.afterShift.drive h.padEdges.advance.refreshEngine
  · exact h.padEdges.advance.refreshEngine
theorem Stands.ackRecord {r late} : Stands P (s.ackRecord r late) := by
  unfold State.ackRecord
  extract_lets
  split
  · exact h
  · exact branch h h.modWv.settleTrip
theorem Stands.driveLatch {e r mask level ack} : Stands P (s.driveLatch e r mask level ack) :=
  branch h.completeOp.drive.ackRecord h.completeOp.drive
theorem Stands.latchMiss {e r} : Stands P (s.latchMiss e r) := branch h.count.charge h
theorem Stands.execLatchEdge {dt e} : NextStands P (Machine.execLatchEdge dt e s) := by
  unfold Machine.execLatchEdge
  extract_lets
  split
  · exact branch h.advance.driveLatch h.advance
  · exact h.advance
theorem Stands.execCapture {dt e} : NextStands P (Machine.execCapture dt e s) := by
  unfold Machine.execCapture
  extract_lets
  split
  · trivial
  · refine h.advance.runOp fun h => ?_
    extract_lets
    split
    · exact h.completeOp
    · exact h.writeSr.completeOp
    · exact h.writeSr.completeOp
theorem Stands.execWeevilCaptureEdge {dt e} : NextStands P (Machine.execWeevilCaptureEdge dt e s) := by
  unfold Machine.execWeevilCaptureEdge
  extract_lets
  split
  · split
    · exact branch h.advance.toldEdge.modEngine h.advance.toldEdge
    · exact h.advance
  · exact h.advance
theorem Stands.weevilEvent {e r code fault} : Stands P (s.weevilEvent e r code fault) :=
  branch h.count.limitedEvent.raiseFast h.count.limitedEvent
theorem Stands.execRxFifoDrain {dt e} : NextStands P (Machine.execRxFifoDrain dt e s) := by
  unfold Machine.execRxFifoDrain
  extract_lets
  split
  · exact branch h.advance.modEngine.event h.advance
  · exact h.advance
theorem Stands.execSafeStateSwitch {dt e} : NextStands P (Machine.execSafeStateSwitch dt e s) := by
  unfold Machine.execSafeStateSwitch
  extract_lets
  split
  · exact branch h.advance.refreshEngine.startProgram h.advance.refreshEngine
  · exact h.advance.refreshEngine
theorem Stands.execForcedSwapTimeout {dt e} : NextStands P (Machine.execForcedSwapTimeout dt e s) := by
  unfold Machine.execForcedSwapTimeout
  extract_lets
  split
  · exact branch h.advance (branch h.advance.count.moveRole.raiseFast.ejSafe (branch h.advance.forceSwap.raiseFast
      h.advance))
  · exact h.advance

/-! ### The functions of Machine/Handover -/

theorem Stands.closeOwner {id} : Stands P (s.closeOwner id) := by
  unfold State.closeOwner
  split
  · exact h
  · exact branch h.modTrack.freeTrack h.modTrack
theorem Stands.closePulse {p} : Stands P (s.closePulse p) := h.update.foldl fun h => h.closeOwner
theorem Stands.openPulse {l p} : Stands P (s.openPulse l p) := h.update
theorem Stands.applyEdge {l p} : Stands P (s.applyEdge l p) :=
  branch h.update.openPulse h.update.closePulse
theorem Stands.handChain {p l} : Stands P (s.handChain p l) :=
  (h.foldl fun h => h.applyEdge).count.handRecord
theorem Stands.handDirect {r t} : Stands P (s.handDirect r t) :=
  (h.foldl fun h => h.applyEdge).handRecord
theorem Stands.execChainRecordHandover {dt p} : NextStands P (Machine.execChainRecordHandover dt p s) := by
  unfold Machine.execChainRecordHandover
  extract_lets
  split
  · exact branch h.advance.handChain.settleDrain.settleTrip h.advance
  · exact h.advance
theorem Stands.execDirectRecordHandover {dt r} :
    NextStands P (Machine.execDirectRecordHandover dt r s) := by
  unfold Machine.execDirectRecordHandover
  extract_lets
  split
  · exact branch h.advance.handDirect.settleDrain.settleTrip h.advance
  · exact h.advance

/-! ### The functions of Machine/Commands -/

theorem Stands.setGroup {g l} : Stands P (s.setGroup g l) := h.update
theorem Stands.command {q op grouped used} {f} (hf : ∀ {a0 t}, Stands P t → Stands P (f a0 t))
      :
    Stands P (s.command q op grouped used f) := by
  unfold State.command
  split
  · exact h
  · exact branch h.finishHead (branch h (hf h))
theorem Stands.stage {q d items result} : Stands P (s.stage q d items result) := by
  unfold State.stage
  split
  · exact h.finishHead
  · exact branch h.setGroup.finishHead h.finishHead
theorem Stands.unlessLocked {q} {f} (hf : ∀ {t}, Stands P t → Stands P (f t)) :
    Stands P (s.unlessLocked q f) :=
  branch h.finishHead (hf h)
theorem Stands.writeLoad {l} : Stands P (s.writeLoad l) := h.writeTable.update
theorem Stands.markIncomplete {table index} : Stands P (s.markIncomplete table index) := h.update
theorem Stands.toggleBank {key} : Stands P (s.toggleBank key) := h.update
theorem Stands.hostSetsMode {m} : Stands P (s.hostSetsMode m) := branch h.update h.update.setFld
theorem Stands.coldHold {on} : Stands P (s.coldHold on) :=
  branch h.setFld.update (branch h h.setFlag.setFld.update)
theorem Stands.acceptCommit {q d target} : Stands P (s.acceptCommit q d target) :=
  branch h.finishHead h.setGroup.update.nextHead
theorem Stands.tryCommit {q d} : Stands P (s.tryCommit q d) := by
  unfold State.tryCommit
  split
  · exact h.finishHead
  · exact branch h.startHead h.acceptCommit
theorem Stands.retryCommits : Stands P s.retryCommits := by
  unfold State.retryCommits
  refine h.foldl fun h => ?_
  split
  · exact branch h.tryCommit h
  · exact h
theorem Stands.execTableLoad {q data} : NextStands P (Machine.execTableLoad q data s) := by
  unfold Machine.execTableLoad
  refine Stands.retryCommits ?_
  refine h.command fun h => ?_
  refine h.unlessLocked fun h => ?_
  extract_lets
  split
  · exact h.finishHead
  · split
    · exact h.startHead.update
    · exact branch h.readFailed.markIncomplete.finishHead h
theorem Stands.ringDrop {n v} : Stands P (s.ringDrop n v) :=
  branch h.ringDisable h.ringDisable.retryCommits
theorem Stands.ringCfgWrite {n v en} : Stands P (s.ringCfgWrite n v en) :=
  branch (h.pf0Write fun h => branch h.ringEnable h.ringDrop) (h.pf1Write fun h => branch h.ringEnable h.ringDrop)
theorem Stands.execTableLoadComplete {dt q} : NextStands P (Machine.execTableLoadComplete dt q s) := by
  unfold Machine.execTableLoadComplete
  extract_lets
  split
  · exact h.advance
  · exact branch h.advance.writeLoad.update.finishHead.settleFlat.retryCommits h.advance
theorem Stands.stageBundle {q d b} : Stands P (s.stageBundle q d b) := by
  unfold State.stageBundle
  split
  · exact h.finishHead
  · exact branch h.finishHead (branch (h.foldl fun h => h.writeLoad).setGroup.finishHead h)
theorem Stands.bundleCut {q d b len} : Stands P (s.bundleCut q d b len) := by
  unfold State.bundleCut
  extract_lets
  split
  · exact h.readFailed.finishHead
  · exact branch h.readFailed.finishHead (branch (h.readFailed.foldl fun h => h.writeLoad.markIncomplete).finishHead
      h)
theorem Stands.execBundle {q data} : NextStands P (Machine.execBundle q data s) := by
  unfold Machine.execBundle
  refine h.command fun h => ?_
  extract_lets
  split
  · exact h.finishHead
  · split
    · exact h.bundleCut
    · split
      · exact h.finishHead
      · exact branch h.finishHead h.stageBundle

/-! ### The functions of Machine/Governor -/

theorem Stands.stageDurations {e tick plan} : Stands P (s.stageDurations e tick plan) :=
  h.stageMgmt.setFld.setFlag.setFlag
theorem Stands.execGovernorEvaluate {dt} : NextStands P (Machine.execGovernorEvaluate dt s) := by
  have hg {g} : Stands P { s.advance dt with gov := g } := h.advance.update
  have hd {c : Prop} [Decidable c] {g n} : Stands P (if c then (0, { s.advance dt with gov := g })
      else (n, { s.advance dt with gov := g, freeCtr := n + 1 })).2 := by
    split
    · exact hg
    · exact hg.update
  refine branch ?_ h.advance
  dsimp only
  split
  · refine branch ?_ hg
    split
    · exact hd
    · exact hd.stageDurations
  · exact hg

/-! ### The functions of Machine/Coach -/

theorem Stands.settleTakeOver : Stands P s.settleTakeOver := by
  unfold State.settleTakeOver
  split
  · exact branch h h.takeOver
  · exact h
theorem Stands.execStandbyReady {dt} : NextStands P (Machine.execStandbyReady dt s) := by
  unfold Machine.execStandbyReady
  extract_lets
  split
  · exact h.advance
  · split
    · exact h.advance
    · exact h.advance.update.requestTakeOver
    · exact h.advance.update.finishWaiting
    · exact h.advance.update.finishWaiting.requestTakeOver
    · exact h.advance.update.requestTakeOver
    · exact h.advance.update
theorem Stands.execTrialTimeout {dt} : NextStands P (Machine.execTrialTimeout dt s) := by
  unfold Machine.execTrialTimeout
  extract_lets
  split
  · exact branch h.advance.askTakeOver h.advance
  · exact h.advance
theorem Stands.execFwWrite {data} : NextStands P (Machine.execFwWrite data s) := by
  unfold Machine.execFwWrite
  refine h.mailbox fun h => ?_
  extract_lets
  split
  · exact h.finishMbox
  · split
    · exact branch h.finishMbox (branch h.startHead (h.startHead.setBank.foldl fun h => h.program)).program
    · exact h.finishMbox
    · exact branch h.finishMbox h.readFailed.finishMbox
theorem Stands.execFwActivate : NextStands P (Machine.execFwActivate s) := by
  unfold Machine.execFwActivate
  refine h.mailbox fun h => ?_
  split
  · exact h
  · split
    · exact h.finishMbox
    · split
      · exact h.finishMbox
      · exact branch h.finishMbox (branch h.setFld.setBank.finishMbox h.startHead.setBank.bootCoach.update)
theorem Stands.confirmTrial : Stands P s.confirmTrial := by
  unfold State.confirmTrial
  extract_lets b _ _ s1
  have h1 : Stands P s1 := h.updateNvm
  exact h1.putBank.putBank.journalBanks

/-! ### The functions of Machine/Tick -/

theorem Stands.settleDeskew {before} : Stands P (s.settleDeskew before) :=
  branch h (branch h.setFlag.free.showLanes h.setFlag.showLanes)
theorem Stands.takeSetting {n a v} : Stands P (s.takeSetting n a v) :=
  (branch h.plainWriteReg.update h.plainWriteReg.update).settleDeskew
theorem Stands.applyItem {n x2} : Stands P (s.applyItem n x2) := by
  unfold State.applyItem
  split
  · exact h.takeSetting
  · exact h.toggleBank.update
  · exact h.hostSetsMode
theorem Stands.takeGroup {n edge mode min kept finished items a} :
    Stands P (EdgeGroups.take n edge mode min ⟨s, kept, finished, items⟩ a).state := by
  unfold EdgeGroups.take
  split
  · exact h
  · dsimp only
    split
    · exact h.foldl fun h => h.applyItem
    · exact h
theorem Stands.hostGroups {n mode min} : Stands P (s.hostGroups n mode min).state := by
  have hr : Stands P (s.accepted.foldl (EdgeGroups.take n s.tb mode min) ⟨s, [], [], []⟩).state :=
    foldlOn EdgeGroups.state h fun h => h.takeGroup
  exact (branch hr.update hr.update).count
theorem Stands.completeGroup {f} : Stands P (s.completeGroup f) := h.complete
theorem Stands.completeGroups {l} : Stands P (s.completeGroups l) := by
  induction l generalizing s with
  | nil => exact h
  | cons f rest ih => exact ih h.update.completeGroup.update
theorem Stands.formDigest : Stands P s.formDigest := h.update.setReg
theorem Stands.checkDigest : Stands P s.checkDigest := by
  unfold State.checkDigest
  split
  · exact h
  · exact branch h.setFlag h.setFlag.event
theorem Stands.applyThrottle {on} : Stands P (s.applyThrottle on) :=
  branch h.update.setFlag.setFlag h.update.setFlag.setFlag.setFlag
theorem Stands.applyMgmt {n x2} : Stands P (s.applyMgmt n x2) := by
  unfold State.applyMgmt
  split
  · exact h.update
  · exact (h.foldl fun h => h.setReg).update
  · exact branch h.moveEntries h.applyEntries
  · exact h.update.setFld
  · exact h.addDrifts
  · exact h.applyThrottle
  · exact h.coldHold
theorem Stands.mgmtChanges {n items} : Stands P (s.mgmtChanges n items).1 :=
  h.update.foldl fun h => h.applyMgmt
theorem Stands.throttleEvents {floor changes} : Stands P (s.throttleEvents floor changes) :=
  h.foldl fun h => h.event
theorem Stands.loseBanks {n before} : Stands P (s.loseBanks n before) := h.foldl fun h => h.endTrack
theorem Stands.haltLost {r} : Stands P (s.haltLost r) := h.stopEngine.modWv.drive.raiseFast.ejSafe
theorem Stands.coupleWeevil {before r} : Stands P (State.coupleWeevil before s r) :=
  branch (branch h h.haltLost) (branch h (branch h.moveRole h.modWv))
theorem Stands.setShared {n b} : Stands P (s.setShared n b) := h.setFlag
theorem Stands.beginShare {n} : Stands P (s.beginShare n) := branch (branch h.setUnit h).setShared h
theorem Stands.endShare {n} : Stands P (s.endShare n) := by
  unfold State.endShare
  split
  · extract_lets
    split
    · exact h.setShared
    · split
      · exact h.setShared.setHolder.setUnit
      · exact h.setShared.applyNoSpare
  · exact h
theorem Stands.coupleShares : Stands P s.coupleShares :=
  (h.foldl fun h => h.beginShare).foldl fun h => h.endShare
theorem Stands.coupleCamera {n} : Stands P (s.coupleCamera n) :=
  branch h (branch h.setFlag.event (branch h.setShared h))
theorem Stands.showPipe {n} : Stands P (s.showPipe n) := h.setFld
theorem Stands.stepPipe {before n} : Stands P (State.stepPipe before s n) :=
  branch h.showPipe.bumpEpoch h.showPipe
theorem Stands.settleShares : Stands P s.settleShares := h.coupleShares.foldl fun h => h.stepPipe
theorem Stands.coupleMap {first} : Stands P (s.coupleMap first) :=
  ((h.coupleSpares.coupleShares.foldl fun h => h.coupleCamera).foldl fun h => h.stepPipe).foldl fun h =>
    h.coupleWeevil
theorem Stands.settleLoss {f} : Stands P (s.settleLoss f) := h.carryOut.modFrame
theorem Stands.settleLosses : Stands P s.settleLosses := h.foldl fun h => h.settleLoss
theorem Stands.number {n} : Stands P (s.number n) := h.setWide.setWide.update
theorem Stands.freeDrained : Stands P s.freeDrained := h.foldl fun h => h.freeTrack
theorem Stands.initMode : Stands P s.initMode := branch h.update.hostSetsMode h
theorem Stands.showNs {f v} : Stands P (s.showNs f v) := branch h.setFld h.free.setFld
theorem Stands.setLimits {prevMode prevMin} : Stands P (s.setLimits prevMode prevMin) :=
  h.update.showNs.showNs.setFlag
theorem Stands.changeMode {n prevMode} : Stands P (s.changeMode n prevMode) :=
  branch h.update.setFlag (branch h.flushTracks.stopCalRun.update h)
theorem Stands.sampleLive : Stands P s.sampleLive := h.setFld.setFld
theorem Stands.swapPrograms {items} : Stands P (s.swapPrograms items) :=
  h.foldl fun h => branch h h.swapProgram
theorem Stands.beginFrame {f} : Stands P (s.beginFrame f) := h.update
theorem Stands.settlePins : Stands P s.settlePins := h.settleFireflies.settleTrigs.driveAll
theorem Stands.edgeTakeOver : Stands P s.edgeTakeOver := by
  unfold State.edgeTakeOver
  split
  · exact branch h.takeOver h
  · exact h
theorem Stands.takeEdge : Stands P s.takeEdge := by
  unfold State.takeEdge
  extract_lets n _ s1 prevMode prevMin _ g applied s2
  have hg : Stands P g.state := h.settleLosses.number.freeDrained.initMode.hostGroups
  have h2 : Stands P s2 := branch hg.formDigest hg
  have h3 : Stands P (s2.mgmtChanges n g.items).1 := h2.mgmtChanges
  split
  next s3 _ hm =>
    rw [hm] at h3
    extract_lets change s4 s5 s6 moved s7 s8 s9 s10
    have h4 : Stands P s4 := h3.setLimits.setFlag.setFlag.throttleEvents
    have h6 : Stands P s6 := (branch h4.checkDigest h4).coupleMap.swapPrograms.edgeTakeOver
    have h8 : Stands P s8 := (branch h6.setFld h6).changeMode.sampleLive
    have h10 : Stands P s10 := h8.edgeTrigs.beginFrame.loseBanks.dropFrames.settlePins.claimOutputs
    exact h10.completeGroups.settleDrain
theorem Stands.holdEdge : Stands P s.holdEdge := branch h.update.count h.update.count
theorem Stands.freeFlat : Stands P s.freeFlat := branch h.settleFlat.retryCommits h.settleFlat
theorem Stands.execTickEdge {reads} : NextStands P (Machine.execTickEdge reads s) := by
  unfold Machine.execTickEdge
  extract_lets
  split
  · exact branch (branch h.advance.takeEdge.freeFlat.sramErrors h.advance.holdEdge) h.advance
  · exact h.advance

/-! ### The functions of Machine/RunControl -/

theorem Stands.startRun : Stands P s.startRun := branch h.setFlag.update h
theorem Stands.stopRun : Stands P s.stopRun := h.setFlag.update
theorem Stands.clearList {v l} : Stands P (s.clearList v l) := h.foldl fun h => branch h.setReg h
theorem Stands.cntClr {v} : Stands P (s.cntClr v) := h.clearList
theorem Stands.ovlClr {v} : Stands P (s.ovlClr v) := h.clearList
theorem Stands.expClr {v} : Stands P (s.expClr v) := h.clearList.setFld
theorem Stands.roClr {v} : Stands P (s.roClr v) := branch h.clearList.setFld h.clearList
theorem Stands.csxClr {v} : Stands P (s.csxClr v) := h.clearList
theorem Stands.pipeClr {v} : Stands P (s.pipeClr v) := h.clearList
theorem Stands.trkClr {v} : Stands P (s.trkClr v) := branch h.clearList.setFld h.clearList
theorem Stands.ejClr {v} : Stands P (s.ejClr v) := h.clearList
theorem Stands.wvClr {v} : Stands P (s.wvClr v) := h.clearList
theorem Stands.pllClr {v} : Stands P (s.pllClr v) := h.clearList
theorem Stands.whileStopped {f} (hf : ∀ {t}, Stands P t → Stands P (f t)) :
    Stands P (s.whileStopped f) :=
  branch h.count (hf h)
theorem Stands.factDefectsClr {v} : Stands P (s.factDefectsClr v) :=
  h.whileStopped fun h => (branch h.setFld h).clearList
theorem Stands.peakClr {v} : Stands P (s.peakClr v) := branch h.setFld h
theorem Stands.abortClr {v} : Stands P (s.abortClr v) := branch h.setFld h

/-! ### The functions of Machine/Clocks -/

theorem Stands.setLocked {p b} : Stands P (s.setLocked p b) := h.setFld
theorem Stands.setGated {role at_ noStandIn} : Stands P (s.setGated role at_ noStandIn) := h.update
theorem Stands.ungate {role} : Stands P (s.ungate role) := h.setGated.releaseItems
theorem Stands.loopEvent {role kind step} : Stands P (s.loopEvent role kind step) := h.event
theorem Stands.markLost {f} : Stands P (s.markLost f) := h.modFrame
theorem Stands.markLosses : Stands P s.markLosses := h.foldl fun h => h.markLost
theorem Stands.cutFrame : Stands P s.cutFrame := by
  unfold State.cutFrame
  refine Stands.settleFireflies ?_
  refine Stands.endTrigs ?_
  split
  · exact
      have h1 := (h.foldl fun h => h.setFirefly).modFrame
      branch h1 h1.markLost
  · exact h.foldl fun h => h.setFirefly
theorem Stands.holdCounters : Stands P s.holdCounters := h.foldl fun h => branch h.setFlag h
theorem Stands.holdTimebase : Stands P s.holdTimebase := h.setFlag.raiseFast.holdCounters.cutFrame
theorem Stands.delayCloses {c0} : Stands P (s.delayCloses c0) := h.update
theorem Stands.stepTimebase {t} : Stands P (s.stepTimebase t) :=
  (h.update.setWide.setFlag.setFlag.raiseFast.foldl fun h => h.modWv).delayCloses
theorem Stands.enterHoldover : Stands P s.enterHoldover := branch h h.update.setFlag
theorem Stands.leaveHoldover : Stands P s.leaveHoldover := by
  unfold State.leaveHoldover
  split
  · exact h.update.setFlag.setFld.setFlag
  · exact h
theorem Stands.loadDividers {p role} : Stands P (s.loadDividers p role) := h.update
theorem Stands.loopAlone {role} : Stands P (s.loopAlone role) := h.leftWithout
theorem Stands.awaitStandIn {role} : Stands P (s.awaitStandIn role) :=
  have h1 := h.setGated.setFlag.loadDividers
  branch h1.holdTimebase h1.markLosses
theorem Stands.noStandInFor {role} : Stands P (s.noStandInFor role) :=
  have h1 := h.loopEvent.loopAlone
  branch (branch h1.free.enterHoldover h1.free.setGated.holdTimebase) h1.setGated.markLosses
theorem Stands.holdoverFrom {t} : Stands P (s.holdoverFrom t) := h.ungate.stepTimebase.enterHoldover
theorem Stands.leftAlone {role t} : Stands P (s.leftAlone role t) :=
  have h1 := h.loopEvent.loopAlone
  branch (branch h1.free.holdoverFrom h1.free.setGated) h1.setGated
theorem Stands.standbyGone : Stands P s.standbyGone := by
  unfold State.standbyGone
  refine h.setFlag.foldl fun h => ?_
  split
  · exact branch h h.leftAlone
  · exact h
theorem Stands.roleLoss {p} : Stands P (s.roleLoss p) := by
  unfold State.roleLoss
  split
  · extract_lets
    split
    · exact h.raiseFast.awaitStandIn
    · exact h.raiseFast.noStandInFor
  · exact h.loopEvent.standbyGone
theorem Stands.takeRole {role since} : Stands P (s.takeRole role since) :=
  have h1 := h.setFld.setHolder.bumpEpoch.transferDividers.setNoSpare.ungate
  have h2 := (branch h1.stepTimebase h1).loopEvent.takenFromTest
  branch h2 (branch h2.setUnit.setFld.setFlag h2.setUnit)
theorem Stands.execStandIn {dt role} : NextStands P (Machine.execStandIn dt role s) := by
  unfold Machine.execStandIn
  extract_lets
  split
  · exact branch h.advance.takeRole h.advance
  · exact h.advance
theorem Stands.resumeRole {r} : Stands P (s.resumeRole r) := by
  unfold State.resumeRole
  extract_lets t s1
  have h1 : Stands P s1 := by
    dsimp only [s1]
    split
    · exact branch (branch h.setNoSpare.ungate.stepTimebase h.setNoSpare.ungate) h.setNoSpare
    · exact h.setNoSpare
  exact branch h1.leaveHoldover h1
theorem Stands.becomeStandby {p lost} : Stands P (s.becomeStandby p lost) :=
  branch h.setFld.setFlag h.setFld.setFlag.loopEvent
theorem Stands.execLoopRelock {dt p} : NextStands P (Machine.execLoopRelock dt p s) := by
  unfold Machine.execLoopRelock
  extract_lets
  split
  · exact h.advance
  · split
    · exact branch h.advance h.advance.setLocked.update.resumeRole
    · exact branch h.advance (branch h.advance.setLocked.update h.advance.setLocked.update.becomeStandby)
theorem Stands.refGate {r} : Stands P (s.refGate r) := branch h.setLocked h.setLocked.setGated

/-! ### The functions of Machine/PowerCmds -/

theorem Stands.sleepLoops {stop} : Stands P (s.sleepLoops stop) :=
  have h1 := h.foldl fun h => h.setLocked.resumeRole
  branch (h.foldl fun h => branch h h.setLocked).standbyGone (branch h (branch h1 h1.setLocked.setFlag))
theorem Stands.endPulses : Stands P s.endPulses :=
  ((h.foldl fun h => h.setFirefly).foldl fun h => h.setTrigOut).setPin.update.settlePins
theorem Stands.enterSleep {target} : Stands P (s.enterSleep target) :=
  branch h.raiseSafe.stopIcx.setFld.sleepLoops.setFlag.endPulses (branch
    h.setFld.sleepLoops.applyLatches.settlePins.repeatSync h.setFld)
theorem Stands.flushAll : Stands P s.flushAll := h.flushTracks
theorem Stands.execPowerStateEntry {dt} : NextStands P (Machine.execPowerStateEntry dt s) := by
  unfold Machine.execPowerStateEntry
  extract_lets
  split
  · exact branch h.advance.flushAll.abortTests.update.setFlag.enterSleep.finishWaiting h.advance
  · exact h.advance
theorem Stands.reachActive : Stands P s.reachActive := by
  unfold State.reachActive
  extract_lets was autorun back _ s1 s2 s3
  have h1 : Stands P s1 := h.update.setFld
  have h2 : Stands P s2 := branch h1.sleepLoops.setFlag.applyLatches.repeatSync h1
  have h3 : Stands P s3 := by
    dsimp only [s3]
    clear_value back
    cases back with
    | some r => exact h2.releaseItems.settlePins.finishWaiting
    | none => exact h2.releaseItems.settlePins
  exact branch h3.startRun h3

/-! ### The functions of Machine/Thermal -/

theorem Stands.retireOsc {site which} : Stands P (s.retireOsc site which) := h.update.setFlag.setUnit
theorem Stands.judgeSite {l site} : Stands P (s.judgeSite l site) := by
  have hd {c : Prop} [Decidable c] {m n : Nat} : Stands P (if c then (m, s.free.2) else (n, s)).2 := by
    split
    · exact h.free
    · exact h
  unfold State.judgeSite
  split
  · exact branch (branch hd.chargeFor.retireOsc hd.chargeFor) h
  · exact h
theorem Stands.showSite {l site} : Stands P (s.showSite l site) := by
  unfold State.showSite
  split
  · exact h.setFld.setFld
  · exact h
theorem Stands.showExtremes {l first} : Stands P (s.showExtremes l first) :=
  have h1 := h.setFld.setFld.setFld.setFld
  branch h1.setFld h1
theorem Stands.goOff : Stands P s.goOff := by
  unfold State.goOff
  extract_lets u _ _ s1
  have hu : Stands P u := h.cutJob
  have h1 : Stands P s1 := hu.updateNvm
  exact h1.endPulses
theorem Stands.writeShut {cause cut temp} : Stands P (s.writeShut cause cut temp) := h.updateNvm
theorem Stands.refuseWaiting {keep} : Stands P (s.refuseWaiting keep) := by
  unfold State.refuseWaiting
  extract_lets later own _ s1 s2
  have h1 : Stands P s1 := h.updateNvm
  have h2 : Stands P s2 := branch (h1.foldl fun h => h.program) h1
  exact h2.foldl fun h => branch h.finishWaiting h
theorem Stands.orderlyShutdown : Stands P s.orderlyShutdown :=
  h.raiseFast.update.stopRun.refuseWaiting.settleTrip
theorem Stands.safeNow : Stands P s.safeNow :=
  (h.raiseSafe.update.foldl fun h => h.modWv.stopEngine.modEngine).driveAll
theorem Stands.immediateShutdown : Stands P s.immediateShutdown := h.stopRun.safeNow.writeShut.goOff
theorem Stands.countRuns {k t} : Stands P (s.countRuns k t) := h.foldl fun h => h.update
theorem Stands.crossingEvent {k rising} : Stands P (s.crossingEvent k rising) := h.event
theorem Stands.crossingEffect {k rising} : Stands P (s.crossingEffect k rising) := by
  unfold State.crossingEffect
  split
  · exact branch h.setFlag.setFlag.refuseWaiting.stageMgmt.update h.setFlag.setFlag.refuseWaiting.stageMgmt
  · exact h.setFlag.releaseCold.stageMgmt
  · exact h.setFlag
  · exact h.setFlag.setFlag.setFlag.update
  · exact branch h.setFlag.setFlag.setFlag.update h.setFlag.stageMgmt
  · exact h.orderlyShutdown
  · exact h.immediateShutdown
  · exact h
theorem Stands.testThreshold {k} : Stands P (s.testThreshold k) :=
  branch h (branch h.crossingEvent.crossingEffect (branch h.crossingEvent.crossingEffect h))
theorem Stands.settleReady : Stands P s.settleReady := branch h h.setFlag.setFld
theorem Stands.countStart : Stands P s.countStart := branch h.update h
theorem Stands.execGraceExpiry {dt} : NextStands P (Machine.execGraceExpiry dt s) := by
  unfold Machine.execGraceExpiry
  extract_lets
  split
  · exact branch h.advance.setFlag.update.stageMgmt h.advance
  · exact h.advance

/-! ### The functions of Machine/Calib -/

theorem Stands.markSuspect {item index ms report} : Stands P (s.markSuspect item index ms report) :=
  (branch (branch h.count.event h.count).update (branch h.count.event h.count)).charge
theorem Stands.darkEvent {d} : Stands P (s.darkEvent d) := h.event
theorem Stands.darkLevel {meas} : Stands P (s.darkLevel meas).2 := by
  unfold State.darkLevel
  split
  · exact h
  · exact h.free
theorem Stands.takePass {meas item found measured events index} :
    Stands P (CalPass.take meas item ⟨s, found, measured, events⟩ index).state := by
  unfold CalPass.take
  split
  · exact h
  · split
    · exact h
    · exact h
    · exact h.markSuspect
theorem Stands.applyResults {item es} : Stands P (s.applyResults item es) :=
  branch h (branch h.stageClassB h.applyEntries)
theorem Stands.setCalRun {r} : Stands P (s.setCalRun r) := h.update
theorem Stands.advanceCalRun {meas fuel} : Stands P (State.advanceCalRun meas s fuel) := by
  induction fuel generalizing s with
  | zero => exact h
  | succ fuel ih =>
    unfold State.advanceCalRun
    split
    · exact h
    · split
      · exact h.endCalRun
      · refine branch (ih h.showItem.setCalRun) (branch (branch ?_ h) ?_)
        · exact branch (ih h.darkLevel.setCalRun) h.darkLevel.setFlag.darkEvent.endCalRun
        · have hp {l : List Nat} {item meas found measured events} : Stands P (l.foldl
              (CalPass.take meas item) ⟨s.showItem item true, found, measured, events⟩).state :=
            foldlOn CalPass.state h.showItem fun h => h.takePass
          exact branch (ih hp.applyResults.showItem.setCalRun) hp.setCalRun
theorem Stands.loadEntries : Stands P s.loadEntries := by
  unfold State.loadEntries
  split
  · exact h.update.setFld.setFld
  · exact h.update.setFld
theorem Stands.passRole {r} : Stands P (s.passRole r) :=
  branch h (branch h.loopAlone.setGated h.setFld.setHolder.setUnit.loadDividers.transferDividers.setFlag)
theorem Stands.lockLoops {unlocked} : Stands P (s.lockLoops unlocked) :=
  branch h (((h.foldl fun h => h.retireLoop).foldl fun h => h.passRole).setFlag.foldl fun h => branch h
    h.setLocked).update
theorem Stands.powerUpItem {meas item} : Stands P (State.powerUpItem meas s item) :=
  (foldlOn CalPass.state h fun h => h.takePass).update.applyEntries
theorem Stands.trackPass {meas item found measured events index} :
    Stands P (CalPass.track meas item ⟨s, found, measured, events⟩ index).state := by
  unfold CalPass.track
  split
  · exact h
  · dsimp only
    split <;> exact h
  · exact h.markSuspect
theorem Stands.trackItem {meas first item} : Stands P (State.trackItem meas first s item) := by
  unfold State.trackItem
  extract_lets p _ _ t
  have hp : Stands P p.state := foldlOn CalPass.state h fun h => h.trackPass
  have ht : Stands P t := hp.update
  exact branch ht (branch ht.stageClassB ht.moveEntries)
theorem Stands.trackAll {meas} : Stands P (s.trackAll meas) :=
  have h1 := h.foldl fun h => h.trackItem
  branch (h1.foldl fun h => h.trackItem) h1
theorem Stands.testDark {d} : Stands P (s.testDark d) :=
  branch h.setFlag (branch h h.setFlag.darkEvent)
theorem Stands.settleCycle : Stands P s.settleCycle := branch h.setFld.update h
theorem Stands.nextIndex : Stands P s.nextIndex := h.setFld
theorem Stands.calRead : Stands P s.calRead.2 := (branch h.setFlag h).nextIndex
theorem Stands.calWrite {v} : Stands P (s.calWrite v) :=
  have h1 := branch h.setFlag h
  branch ((branch h1.setFlag h1).nextIndex) (branch h.stageMgmt h.setCalEntry).nextIndex
theorem Stands.execCalDataAccess {write} : NextStands P (Machine.execCalDataAccess write s) := by
  unfold Machine.execCalDataAccess
  split
  · exact h.pf1Write fun h => h.calWrite
  · exact h.barRead fun h => h.calRead
theorem Stands.dlistClr {v} : Stands P (s.dlistClr v) := branch h.stageClassB h

/-! ### The functions of Machine/Security -/

theorem Stands.nvmDone {seq note} : Stands P (s.nvmDone seq note) := by
  unfold State.nvmDone
  extract_lets t
  have ht : Stands P t := h.takeNote
  split
  · exact ht.updateNvm
  · exact ht.finishWaiting
  · exact ht.finishWaiting
  · exact ht.finishWaiting
  · exact ht.updateNvm
  · exact ht
theorem Stands.eraseJob {b} : Stands P (s.runJob (.erase b)) := by
  unfold State.runJob
  dsimp -zeta only
  extract_lets t
  have ht : Stands P t := h.eraseBlock
  clear_value t
  split
  · exact ht
  · exact ht.journalWear
theorem Stands.runJob {j} : Stands P (s.runJob j) :=
  match j with
  | .record _ _ _ => h.writeRecord.nvmDone
  | .chunk _ _ _ => h.writeNvm.nvmDone
  | .erase _ => h.eraseJob
theorem Stands.jobFailed {j} : Stands P (s.jobFailed j) := by
  unfold State.jobFailed
  extract_lets s1
  have h1 : Stands P s1 := h.count.raiseFast
  clear_value s1
  split
  · exact Stands.finishWaiting h1.updateNvm
  · exact h1.updateNvm
/-- The program sequences that wait are replaced. -/
theorem Stands.setJobs {l} : Stands P { s with nvm := { s.nvm with jobs := l } } := h.updateNvm
theorem Stands.execNvmProgramSequenceComplete {dt ok} :
    NextStands P (Machine.execNvmProgramSequenceComplete dt ok s) := by
  unfold Machine.execNvmProgramSequenceComplete
  extract_lets
  split
  · exact branch h.advance (branch h.advance.setJobs.runJob h.advance.jobFailed)
  · exact h.advance
theorem Stands.mboxWrite {d bs result} : Stands P (s.mboxWrite d bs result) :=
  branch h.finishMbox h.writeMem.finishMbox
theorem Stands.digestNow : Stands P s.digestNow.2 := by
  unfold State.digestNow
  split
  · exact h.free
  · exact h
theorem Stands.execOwnerEnroll {data} : NextStands P (Machine.execOwnerEnroll data s) := by
  unfold Machine.execOwnerEnroll
  refine h.mailbox fun h => ?_
  split
  · exact h.finishMbox
  · split
    · exact h.finishMbox
    · split
      · exact h.readFailed.finishMbox
      · exact branch h.startHead.journal h.finishMbox
theorem Stands.endAccess : Stands P s.endAccess := by
  unfold State.endAccess
  split
  · exact h
  · split
    · exact h.update
    · exact h.update
    · exact h
omit h in
/-- The rights in force take effect at the port. -/
theorem Stands.burn {t} (hP : Lasting P) (hs : Stands P s) (hlt : s.nvm.lifecycle < t) (h5 : t ≤ 5) :
    Stands P (s.burn t) := by
  unfold State.burn
  split
  · next e => exact Stands.endAccess (hP.scrapped hs (e ▸ hlt))
  · next e => exact hP.next hs hlt (lt_of_le_of_ne h5 e)
/-- LIFECYCLE burns only transitions of R502. -/
theorem Stands.execLifecycle (hP : Lasting P) : NextStands P (Machine.execLifecycle s) :=
  h.mailbox fun h => by
    split
    · exact h.finishMbox
    · split
      · next ht => exact (Stands.burn hP h (lt_of_transitionOk ht) (le_of_transitionOk ht)).finishMbox
      · exact h.finishMbox

/-! ### The functions of Machine/Sideband -/

theorem Stands.i3cDirect {f} (hf : ∀ {t}, Stands P t → Stands P (f t)) :
    Stands P (s.i3cDirect f) :=
  branch (hf h) h
theorem Stands.i3cPrivate {f} (hf : ∀ {t}, Stands P t → Stands P (f t)) :
    Stands P (s.i3cPrivate f) :=
  branch (hf h) h
theorem Stands.i3cAnswer {bs} : Stands P (s.i3cAnswer bs) := h.update
theorem Stands.jtagTakes {i} : Stands P (s.jtagTakes i) := h.update
theorem Stands.idcodeOut : Stands P s.idcodeOut := branch h.jtagTakes.update h.jtagTakes
theorem Stands.execJtagInstruction {ins} (hP : Lasting P) : NextStands P (Machine.execJtagInstruction ins s) := by
  unfold Machine.execJtagInstruction
  split
  · exact h.idcodeOut
  · exact h.jtagTakes
  · exact h.jtagTakes
  · exact h.jtagTakes
  · exact h.jtagTakes
  · exact h.jtagTakes
  · next t =>
    split
    · next ht => exact (Stands.burn hP h (lt_of_factoryOk ht) (Nat.le_of_lt_succ t.isLt)).jtagTakes
    · exact h.jtagTakes

/-! ### The functions of Machine/Start -/

/-- A restart puts the rights of the life-cycle code in force. -/
theorem Stands.reboot (hP : Lasting P) : Stands P s.reboot := hP.reset h
theorem Stands.resetAll (hP : Lasting P) : Stands P s.resetAll := (h.cutJob.reboot hP).endAccess
theorem Stands.restoreMap : Stands P s.restoreMap := h.update
theorem Stands.fillRoles : Stands P s.fillRoles := by
  unfold State.fillRoles
  refine (h.foldl fun h => branch h h.seekSpare).setQueue.foldl fun h => ?_
  split
  · exact h.applyNewHolder
  · exact h.applyNoSpare
theorem Stands.markPartition {p} : Stands P (s.markPartition p) := h.setFld
theorem Stands.signatureCut {f} : Stands P (s.signatureCut f) :=
  match f with
  | .shared _ => h.free.faultRecord
  | .unit _ _ => h.free.faultRecord
  | .row _ => h
theorem Stands.signatureFailed {x1} : Stands P (s.signatureFailed x1) := by
  unfold State.signatureFailed
  split
  · exact h.markPartition.setFlag.faultRecord
  · split
    · exact h.markPartition.charge
    · exact h
  · exact h
theorem Stands.rowFailed {n} : Stands P (s.rowFailed n) :=
  branch h (branch h.setUnit.count h.rowAlone)
theorem Stands.rowPassed {n} : Stands P (s.rowPassed n) := h.setUnit.faultRecord
theorem Stands.memoryTest {bad} : Stands P (s.memoryTest bad) :=
  (h.foldl fun h => h.rowPassed).foldl fun h => h.rowFailed
theorem Stands.ageOk : Stands P s.ageOk.2 := by
  unfold State.ageOk
  split
  · exact h
  · split
    · exact h
    · split
      · exact h
      · exact h.free
theorem Stands.seatEngines : Stands P s.seatEngines :=
  h.foldl fun h => branch h.haltLost (branch h h.moveRole)
theorem Stands.endTrial : Stands P s.endTrial := h.foldl fun h => branch h.setBank h
theorem Stands.bootCoachmen : Stands P s.bootCoachmen := by
  unfold State.bootCoachmen
  extract_lets b r lead s1 s2 _ s3 r2
  have h1 : Stands P s1 := branch h h.setFld
  have h3 : Stands P s3 := h1.setFld.setHolder.update
  exact branch h1 (branch (branch h3.bootCoach.setBank.update h3.setFld.setBank) h3)
theorem Stands.noteShutdown : Stands P s.noteShutdown := by
  unfold State.noteShutdown
  split
  · exact Stands.journalOpaque h.updateNvm
  · exact h
theorem Stands.startReads {failed} : Stands P (s.startReads failed) := branch h.raiseFast h
theorem Stands.start {all} : Stands P (s.start all) := by
  unfold State.start
  extract_lets results s0 n1 s1 fails cut
  have h0 : Stands P s0 := h.readJournal
  have h1 : Stands P s1 := h0.updateNvm
  have h2 : Stands P s1.ageOk.2 := h1.ageOk
  generalize s1.ageOk = p at h2 ⊢
  obtain ⟨age, s2⟩ := p
  dsimp -zeta only
  extract_lets quick s3 n3 s4 s5 s6 s7 s8
  have h3 : Stands P s3 := h2.setFlag.setFlag.setFlag.setFlag
  have h4 : Stands P s4 := Stands.restoreMap h3.updateNvm
  have h5 : Stands P s5 := h4.memoryTest
  have h6 : Stands P s6 := branch h5 ((h5.foldl fun h => h.signatureFailed).foldl fun h => h.signatureCut).setFld
  have h7 : Stands P s7 := (h6.fillRoles.foldl fun h => h.showPipe).seatEngines
  exact (branch h7 h7.update).endTrial.bootCoachmen.noteShutdown.startReads.settlePins
theorem Stands.askShutdown : Stands P s.askShutdown :=
  branch h (branch h.finishWaiting.update.stopRun h.finishWaiting.update).setFlag
theorem Stands.bistCtl {v} : Stands P (s.bistCtl v) :=
  have h1 := branch h h.setFlag.journalOpaque
  branch h1.askShutdown h1
theorem Stands.allSafe : Stands P s.allSafe :=
  (h.raiseSafe.foldl fun h => h.modWv.stopEngine).driveAll
theorem Stands.runJobs {fuel} : Stands P (State.runJobs fuel s) := by
  induction fuel generalizing s with
  | zero => exact h
  | succ fuel ih =>
    unfold State.runJobs
    split
    · exact h
    · exact ih h.setJobs.runJob
theorem Stands.moultFault {v patterns} : Stands P (s.moultFault v patterns) := branch h h.faultRecord
theorem Stands.moultPatterns {results} : Stands P (s.moultPatterns results).2 := by
  unfold State.moultPatterns
  extract_lets
  split
  · exact h.free
  · exact h

/-! ### The functions of Machine/RegWrite -/

theorem Stands.settingWrite {a v} : Stands P (s.settingWrite a v) :=
  branch (h.foldl fun h => branch h.toggleBank.swapProgram h) (branch h h.takeSetting.settleShares.settlePins)
theorem Stands.unlessOwned {f} (hf : ∀ {t}, Stands P t → Stands P (f t)) :
    Stands P (s.unlessOwned f) :=
  branch h.count (hf h)
theorem Stands.policyWrite {v} : Stands P (s.policyWrite v) := (branch h h.setFld).setFlag
theorem Stands.hifWrite {a v} : Stands P (s.hifWrite a v) :=
  branch (branch h.startRun h.stopRun) (branch h.policyWrite (branch (h.unlessOwned fun h => h.whileStopped fun h =>
    h.plainWriteReg) (branch h.cntClr (branch h.ovlClr (branch h.expClr (branch h.roClr (branch h.csxClr (branch
    h.pipeClr (branch h.trkClr (branch h.ejClr (branch h.wvClr (branch h.pcieClr (branch h.linkCfgWrite
    h.plainWriteReg)))))))))))))
theorem Stands.cmpWrite {a v} : Stands P (s.cmpWrite a v) :=
  branch h.cmpValHi (branch h.cmpCtl h.plainWriteReg)
theorem Stands.tbWrite {a v} : Stands P (s.tbWrite a v) :=
  branch h.syncCtl (branch h.syncOut (branch h.ptmCtl (branch h.cmpWrite (branch (branch h.capCtl (branch h.capStat
    h)) (branch h.gcCtl h.plainWriteReg)))))
theorem Stands.modChanged {n} : Stands P (s.modChanged n) := branch h.cqDue h
theorem Stands.ringWrite {a v} : Stands P (s.ringWrite a v) :=
  branch (branch (branch h.ringEnable h.ringDrop) (branch h.plainWriteReg.modChanged h.plainWriteReg)) (branch
    h.archCfgWrite (branch h.ringClr (branch h.ringDropClr h.plainWriteReg)))
theorem Stands.vectorWrite {i base a value words} : Stands P (s.vectorWrite i base a value words) :=
  h.foldl fun h => h.writeVectorWord
theorem Stands.bar0Write {a width value} : Stands P (s.bar0Write a width value) :=
  branch h.vectorWrite (branch h (branch (h.unlessOwned fun h => h.whileStopped fun h => h.settingWrite) (branch
    h.factDefectsClr (branch (branch (h.whileStopped fun h => h.plainWriteReg) h) (branch h.hifWrite (branch h.tbWrite
    (branch h.ringWrite h)))))))
theorem Stands.bar2Write {a width value} : Stands P (s.bar2Write a width value) :=
  branch h (branch h.tailDoorbell h.headDoorbell)
theorem Stands.mgmtWrite {a v} : Stands P (s.mgmtWrite a v) :=
  branch (branch h.ringEnable h.ringDrop) (branch h.hostActivity.tailDoorbell (branch h.hostActivity.headDoorbell
    (branch h.plainWriteReg.modChanged h.plainWriteReg)))
theorem Stands.icxWrite {a v} : Stands P (s.icxWrite a v) :=
  branch h.completeNormal (branch h.completeFastCharged (branch h.lockRelease (branch h.writeMask (branch h.writePend
    (branch h.writeMask (branch h.writePend (branch h.icxCntClr (branch (branch h.setReg h) (h.icxChange fun h =>
    h.plainWriteReg)))))))))
theorem Stands.pllCtlWrite {v} : Stands P (s.pllCtlWrite v) :=
  branch h.plainWriteReg h.plainWriteReg.setLocked.standbyGone
theorem Stands.pllCalWrite {a v} : Stands P (s.pllCalWrite a v) :=
  branch h.pllCtlWrite (branch h.pllClr (branch h.plainWriteReg.setFlag.setFlag (branch h.calWrite (branch h.dlistClr
    h.plainWriteReg))))
theorem Stands.fldInRange {f lo hi v} : Stands P (s.fldInRange f lo hi v) := branch h.setFld h
theorem Stands.thmWrite {a v} : Stands P (s.thmWrite a v) :=
  branch h.fldInRange.fldInRange.fldInRange (branch h.fldInRange (branch h.peakClr (branch (branch h.wakeFires h)
    (branch h.abortClr h.plainWriteReg))))
theorem Stands.sprWrite {a v} : Stands P (s.sprWrite a v) :=
  branch h.sprClr (branch h.fltClr (branch h.fldInRange.setFlag (branch h.bistCtl (branch (branch h.setFld h)
    h.plainWriteReg))))
theorem Stands.bar1Write {offset width value} : Stands P (s.bar1Write offset width value) :=
  branch h.vectorWrite (branch h (branch h.mgmtWrite (branch h.icxWrite (branch h.pllCalWrite (branch h.thmWrite
    h.sprWrite)))))
theorem Stands.leadIcxWrite {a v} : Stands P (s.leadIcxWrite a v) :=
  branch (h.icxChange fun h => h.setReg) (branch (h.icxChange fun h => h.setReg) (branch (h.icxChange fun h =>
    h.setReg) (branch (h.icxChange fun h => h.setReg) (branch h (branch h.writeMask (branch h.writePend (branch
    h.writeMask (branch h.writePend h))))))))

/-! ### The functions of Machine/Views -/

theorem Stands.cfgWriteBytes {i o width v} : Stands P (s.cfgWriteBytes i o width v) :=
  branch h h.cfgWrite
theorem Stands.execRegisterWrite {space offset width value} :
    NextStands P (Machine.execRegisterWrite space offset width value s) := by
  unfold Machine.execRegisterWrite
  split
  · exact h.pf0Write fun h => h.bar0Write
  · exact h.pf0Write fun h => h.bar2Write
  · exact h.pf1Write fun h => h.bar1Write
  · exact h.cfgWriteBytes
  · exact h.cfgWriteBytes
  · exact branch h.leadIcxWrite h

/-! ### The commands -/

theorem Stands.execTrigInEdge {dt pin rising} : NextStands P (Machine.execTrigInEdge dt pin rising s) :=
  have h1 := branch h.advance.setPin.raise.wakeFires h.advance.setPin
  branch (branch (branch h1.count (branch h1.trigCount h1)) h1) h.advance.setPin
theorem Stands.execPipelineFrame {reads cam} : NextStands P (Machine.execPipelineFrame reads cam s) :=
  have h1 := h.advance.sramErrors.pipeline.dropClaims.dropFrames.settleDrain
  branch h.advance (branch h1.retryCommits h1)
theorem Stands.execPixsupMonitorSample {dt mv} : NextStands P (Machine.execPixsupMonitorSample dt mv s) :=
  have h1 := h.advance.setFld.setFlag.droop
  branch (branch h.advance.setFld (branch h1.raiseFast h1)) h.advance
theorem Stands.execCsiFrameStart {dt packet} : NextStands P (Machine.execCsiFrameStart dt packet s) :=
  have h1 := h.advance.showLanes.csiHeader
  branch (branch ((h1.foldl fun h => h.malformed).foldl fun h => h.camStart).showBuffered h1) h.advance
theorem Stands.execCsiLongPacket {dt packet} : NextStands P (Machine.execCsiLongPacket dt packet s) :=
  have h1 := h.advance.showLanes.csiHeader
  branch (branch h1 (branch h1.count (branch h1 h1.count.charge).modCam)) h.advance
theorem Stands.execCsiFrameEnd {dt packet} : NextStands P (Machine.execCsiFrameEnd dt packet s) :=
  have h1 := h.advance.showLanes.csiHeader
  branch (branch (h1.foldl fun h => h.camEnd).showBuffered h1) h.advance
theorem Stands.execCalRun {meas} : NextStands P (Machine.execCalRun meas s) :=
  branch (branch h.advanceCalRun h) (h.mailbox fun h => branch h.finishMbox (branch h.finishMbox
    h.startHead.setFlag.setCalRun.advanceCalRun))
theorem Stands.execPowerState : NextStands P (Machine.execPowerState s) :=
  h.mailbox fun h => branch h.finishMbox (branch h.finishMbox (branch h.startHead (branch h.startHead.update (branch
    h.startHead.update.stopRun h.startHead.update).setFlag)))
theorem Stands.execWake {dt source} : NextStands P (Machine.execWake dt source s) :=
  have h1 := h.advance.wakeFires
  branch (branch h1.reachActive h1) h.advance
theorem Stands.execRefInLoss {dt} : NextStands P (Machine.execRefInLoss dt s) :=
  have h1 := h.advance.update.setFlag.count.refGate.refGate.setLocked.setLocked.standbyGone
  branch ((branch h1 h1.enterHoldover).markLosses.raiseFast.free.loopEvent) h.advance
theorem Stands.execPowerupCalibration {dt found} :
    NextStands P (Machine.execPowerupCalibration dt found s) :=
  have h1 := h.advance.loadEntries.powerUpItem.lockLoops.powerUpItem
  branch ((branch (h1.darkLevel.foldl fun h => h.powerUpItem) h1.darkLevel.setFlag.darkEvent).setFlag.setFld.update)
    h.advance
theorem Stands.execThermalSample {dt counts} : NextStands P (Machine.execThermalSample dt counts s) :=
  have h1 := (h.advance.foldl fun h => h.showSite.judgeSite).showExtremes.update.countStart
  have h2 := h1.foldl fun h => h.countRuns
  branch h.advance (branch h1 (branch h2 (h2.foldl fun h => h.testThreshold).settleReady))
theorem Stands.execShutdownComplete {dt} : NextStands P (Machine.execShutdownComplete dt s) :=
  have h1 := h.advance.settleTrip
  branch (branch h1.writeShut.goOff h1) h.advance
theorem Stands.execCoachmanWatchdogExpiry {dt core} :
    NextStands P (Machine.execCoachmanWatchdogExpiry dt core s) :=
  have h1 := h.advance.raiseFast.charge
  branch h.advance ((branch h1.coachLost h1).coachGone)
theorem Stands.execMoultStart {dt} : NextStands P (Machine.execMoultStart dt s) :=
  have h1 := h.advance.flushAll.abortTests.setFlag
  branch ((branch h1 h1.releaseCold).update.allSafe.linkReset) h.advance

/-- What a command makes of the standing: a case per command. -/
theorem Stands.exec (hP : Lasting P) : (i : Instr) → NextStands P (Machine.exec i s)
  | .tickEdge .. => h.execTickEdge
  | .internalPeriodExpiry .. => branch h.advance.candidate h.advance
  | .trigInEdge .. => h.execTrigInEdge
  | .compareFire .. => branch h.advance.fire h.advance
  | .exposureIntervalStart .. => h.execExposureIntervalStart
  | .exposureIntervalEnd .. => h.execExposureIntervalEnd
  | .fireflyPulseStart .. => h.execFireflyPulseStart
  | .fireflyPulseEnd .. => branch h.advance.setFirefly.setPin h.advance
  | .readoutStart .. => h.execReadoutStart
  | .rowSlot .. => h.execRowSlot
  | .axlePacket .. => h.execAxlePacket
  | .pipelineFrame .. => h.execPipelineFrame
  | .trackerRound .. => branch h.advance h.advance.sramErrors.runRound
  | .companionRound .. => branch h.advance h.advance.sramErrors.runRound
  | .trackerBankCopyComplete .. => branch h.advance h.advance.copyDone
  | .governorEvaluate .. => h.execGovernorEvaluate
  | .pixsupMonitorSample .. => h.execPixsupMonitorSample
  | .pixsupReadyRise .. => branch h.advance.setFlag h.advance
  | .csiFrameStart .. => h.execCsiFrameStart
  | .csiLongPacket .. => h.execCsiLongPacket
  | .csiFrameEnd .. => h.execCsiFrameEnd
  | .mergeBufferDispatch .. => h.execMergeBufferDispatch
  | .trigOutActive .. => h.execTrigOutActive
  | .trigOutInactive .. => branch h.advance.setTrigOut.setPin h.advance
  | .tsyncInEdge .. => branch h.advance.syncEdge.loadTimebase h.advance.syncEdge
  | .tsyncOutInactive .. => h.execTsyncOutInactive
  | .tbSyncArm .. => h.pf0Write fun h => h.syncCtl
  | .tbSyncDisarm .. => h.pf0Write fun h => h.syncCtl
  | .cmpValHiWrite .. => h.pf0Write fun h => h.cmpValHi
  | .cmpCtlWrite .. => h.pf0Write fun h => h.cmpCtl
  | .captureEdge .. => branch h.advance.toldEdge.captureEdge h.advance.toldEdge
  | .capRiseLoRead .. => h.barRead fun h => h.setFlag
  | .capFallHiRead .. => h.barRead fun h => h.capRelease
  | .capRelease .. => h.pf0Write fun h => h.capRelease
  | .capLostClr .. => h.pf0Write fun h => h.setFld
  | .gcClr .. => h.pf0Write fun h => h.gcCtl
  | .ptmReq .. => h.pf0Write fun h => h.ptmCtl
  | .ptmAutoExpiry .. => branch h.advance.update.ptmRequest h.advance
  | .ptmDialogueComplete .. => branch h.advance.update.setWide.setWide.setReg.setReg.raise h.advance
  | .chainRecordHandover .. => h.execChainRecordHandover
  | .directRecordHandover .. => h.execDirectRecordHandover
  | .weevilNop .. => h.advance.runOp fun h => branch h.completeOp h.modEngine
  | .pull .. => h.advance.runOp fun h => branch h.doPull h.modEngine
  | .push .. => h.advance.runOp fun h => branch h.doPush h.stallPush
  | .shiftOut .. => h.execShiftOut
  | .shiftIn .. => h.advance.runOp fun h => h.askShift
  | .shiftComplete .. => h.execShiftComplete
  | .setTime .. => h.advance.runOp fun h => h.completeOp
  | .waitTime .. => h.advance.runOp fun h => branch h.completeOp h.modEngine
  | .timeReached .. => branch h.advance.completeOp h.advance
  | .latchAt .. => h.advance.runOp fun h => branch h.latchMiss.driveLatch h.latchMiss.modEngine
  | .latchEdge .. => h.execLatchEdge
  | .capture .. => h.execCapture
  | .weevilCaptureEdge .. => h.execWeevilCaptureEdge
  | .raiseEvent .. => h.advance.runOp fun h => h.completeOp.weevilEvent
  | .halt .. => h.advance.runOp fun h => h.stopEngine.modWv.drive.raiseFast.ejSafe
  | .stallResume .. => h.execStallResume
  | .rxFifoDrain .. => h.execRxFifoDrain
  | .safeStateSwitch .. => h.execSafeStateSwitch
  | .forcedSwapTimeout .. => h.execForcedSwapTimeout
  | .weevilRoleHandover .. => branch h.advance.moveRole h.advance
  | .hostAbsenceExpiry .. => branch h.advance.hostAbsent h.advance
  | .hifRunSet .. => h.pf0Write fun h => branch h.startRun h
  | .hifRunClear .. => h.pf0Write fun h => branch h h.stopRun
  | .runStopComplete .. => branch h.advance.setFlag.setFlag.settlePins.settleTakeOver h.advance
  | .hifHostAlive .. => h.pf0Write fun h => h
  | .hifCntClr .. => h.pf0Write fun h => h.cntClr
  | .hifOvlClr .. => h.pf0Write fun h => h.ovlClr
  | .hifExpClr .. => h.pf0Write fun h => h.expClr
  | .hifRoClr .. => h.pf0Write fun h => h.roClr
  | .hifCsxClr .. => h.pf0Write fun h => h.csxClr
  | .hifPipeClr .. => h.pf0Write fun h => h.pipeClr
  | .hifTrkClr .. => h.pf0Write fun h => h.trkClr
  | .hifEjClr .. => h.pf0Write fun h => h.ejClr
  | .hifWvClr .. => h.pf0Write fun h => h.wvClr
  | .hifPcieClr .. => h.pf0Write fun h => h.pcieClr
  | .ringClr .. => h.pf0Write fun h => h.ringClr
  | .ringDropClr .. => h.pf0Write fun h => h.ringDropClr
  | .pllClr .. => h.pf1Write fun h => h.pllClr
  | .sprClr .. => h.pf1Write fun h => h.sprClr
  | .fltClr .. => h.pf1Write fun h => h.fltClr
  | .icxCntClr .. => h.pf1Write fun h => h.icxCntClr
  | .icxErrClr .. => h.pf1Write fun h => h.setReg
  | .roFactDefectsClr .. => h.pf0Write fun h => h.factDefectsClr
  | .thmPeakClr .. => h.pf1Write fun h => h.peakClr
  | .pwrSleepAbortClr .. => h.pf1Write fun h => h.abortClr
  | .registerWrite .. => h.execRegisterWrite
  | .nop .. => h.command fun h => h.finishHead
  | .stageReg .. => h.command fun h => h.unlessLocked fun h => h.stage
  | .setMode .. => h.command fun h => h.unlessLocked fun h => h.stage
  | .tableLoad .. => h.execTableLoad
  | .tableLoadComplete .. => h.execTableLoadComplete
  | .tableSwap .. => h.command fun h => h.unlessLocked fun h => h.stage
  | .commit .. => h.command fun h => h.tryCommit
  | .discard .. => h.command fun h => h.setGroup.finishHead
  | .bundle .. => h.execBundle
  | .sqTailDoorbell .. => h.doorbellWrite fun h => h.tailDoorbell
  | .cqHeadDoorbell .. => h.doorbellWrite fun h => h.headDoorbell
  | .ringEnable .. => h.ringCfgWrite
  | .ringDisable .. => h.ringCfgWrite
  | .descriptorFetch .. => h.execDescriptorFetch
  | .bufferFetch .. => h.execBufferFetch
  | .bufferFlushTimeout .. => branch h.advance h.advance.closeFlushed
  | .moderationTimeout .. => branch (branch (branch h.advance h.advance.setRing.setPme) (branch h.advance.cqDue
      h.advance)) h.advance
  | .archiveEnable .. => h.pf0Write fun h => h.archCfgWrite
  | .archiveBlockFlush .. => branch h.advance.flushBlock.eventsN h.advance
  | .perstNRelease .. => branch h.advance (branch h.advance.update h.advance.update)
  | .linkRetrain .. => h.pf0Write fun h => h.linkCfgWrite
  | .laneFailClr .. => h.pf0Write fun h => h.linkCfgWrite
  | .pcieCorrectableError .. => h.execPcieCorrectableError
  | .functionLevelReset .. => branch h.functionReset h
  | .busMasterDisable .. => branch h.busMasterOff h
  | .hotReset .. => h.execHotReset
  | .d3hotEntry .. => branch h.enterD3hot h
  | .d0Return .. => branch h.returnD0 h
  | .msixVectorUnmask .. => branch (h.barWrite fun h => h.setVector) h
  | .ctxRead => h.mailbox fun h => branch h.finishMbox h.free.writeMem.contextErrors.finishMbox
  | .idRead => h.mailbox fun h => h.mboxWrite
  | .certRead => h.mailbox fun h => branch h.finishMbox h.mboxWrite
  | .quote => h.mailbox fun h => branch h.finishMbox h.digestNow.writeMem.finishMbox
  | .factDefects => h.mailbox fun h => branch h.finishMbox h.nvmRead.mboxWrite
  | .fwWrite .. => h.execFwWrite
  | .fwActivate => h.execFwActivate
  | .fwConfirm => h.mailbox fun h => branch h.finishMbox (branch h.confirmTrial.startHead.restartStandby
      h.confirmTrial.finishMbox)
  | .ownerEnroll .. => h.execOwnerEnroll
  | .digestExpect => h.mailbox fun h => h.update.finishMbox
  | .digestRead => h.mailbox fun h => h.digestNow.mboxWrite
  | .lifecycle => h.execLifecycle hP
  | .calRun .. => h.execCalRun
  | .calSnapshot => h.mailbox fun h => branch h.finishMbox h.startHead.journalOpaque
  | .flatAcquire => h.mailbox fun h => branch h.finishMbox (branch h.finishMbox h.startHead.showItem.update)
  | .spareAssign => h.execSpareAssign
  | .selftestUnit => h.execSelftestUnit
  | .faultRead => h.mailbox fun h => branch h.finishMbox h.nvmRead.writeMem.finishMbox
  | .journalRead => h.mailbox fun h => branch h.finishMbox h.nvmRead.writeMem.finishMbox
  | .powerState => h.execPowerState
  | .powerStateEntry .. => h.execPowerStateEntry
  | .wake .. => h.execWake
  | .loopLockLoss .. => branch h.advance.setLocked.update.count.charge.roleLoss h.advance
  | .standIn .. => h.execStandIn
  | .loopRelock .. => h.execLoopRelock
  | .refInLoss .. => h.execRefInLoss
  | .refInGood .. => branch h.advance.update.setFlag.leaveHoldover.free.loopEvent h.advance
  | .powerupCalibration .. => h.execPowerupCalibration
  | .backgroundDriftMeasure .. => branch (h.advance.foldl fun h => h.testDark).trackAll.settleCycle h.advance
  | .calDataAccess .. => h.execCalDataAccess
  | .calDlistClr .. => h.pf1Write fun h => h.dlistClr
  | .thermalSample .. => h.execThermalSample
  | .shutdownComplete .. => h.execShutdownComplete
  | .graceExpiry .. => h.execGraceExpiry
  | .faultBucketLeak .. => h.advance.setBucket
  | .selftestTurn .. => h.execSelftestTurn
  | .selftestComplete .. => h.execSelftestComplete
  | .bistShutdown .. => h.pf1Write fun h => h.bistCtl
  | .moultComplete .. => branch (branch h.advance.goOff
      h.advance.moultPatterns.setFld.moultFault.journalOpaque.runJobs.goOff) h.advance
  | .resetNAssert .. => h.advance.update.resetAll hP
  | .resetNRelease .. => branch h.advance (branch h.advance.update h.advance.update.start)
  | .brownout .. => h.advance.update.resetAll hP
  | .railFault .. => branch h.advance.raiseFast h.advance
  | .standbyReady .. => h.execStandbyReady
  | .trialTimeout .. => h.execTrialTimeout
  | .coachmanWatchdogExpiry .. => h.execCoachmanWatchdogExpiry
  | .secAlarm .. => branch h.advance.count.setFlag.raiseFast h.advance
  | .journalCompaction .. => branch h.advance.compact h.advance
  | .entdaa .. => branch h.update h
  | .setdasa .. => branch h.update h
  | .rstdaa => branch h.update h
  | .getpid => h.i3cDirect fun h => h.i3cAnswer
  | .getbcr => h.i3cDirect fun h => h.i3cAnswer
  | .getdcr => h.i3cDirect fun h => h.i3cAnswer
  | .getstatus => h.i3cDirect fun h => h.free.i3cAnswer
  | .getmrl => h.i3cDirect fun h => h.i3cAnswer
  | .getmwl => h.i3cDirect fun h => h.i3cAnswer
  | .enec .. => branch h.update h
  | .disec .. => branch h.update h
  | .i3cId => h.i3cDirect fun h => h.i3cAnswer
  | .i3cStatus => h.i3cPrivate fun h => h.i3cAnswer
  | .i3cTemps => h.i3cPrivate fun h => h.i3cAnswer
  | .i3cTick => h.i3cPrivate fun h => h.i3cAnswer
  | .i3cFault => h.i3cPrivate fun h => h.i3cAnswer
  | .i3cWake => h.i3cPrivate fun h => h.wakeFires
  | .i3cRequest .. => h.i3cPrivate fun h => h.setReg.raise.wakeFires
  | .icxHclaim => h.barRead fun h => h.claimNormal
  | .icxHfclaim => h.barRead fun h => h.claimFast
  | .icxHcomplete .. => h.pf1Write fun h => h.completeNormal
  | .icxHfcomplete .. => h.pf1Write fun h => h.completeFastCharged
  | .icxLockRead .. => branch (h.barRead fun h => h.lockRead) (branch h.lockRead.answer h)
  | .icxLockRelease .. => branch (h.pf1Write fun h => h.lockRelease) (branch h.lockRelease h)
  | .icxLockTimeout .. => branch h.advance.setFld.count h.advance
  | .hostClaimWindowExpiry .. => branch (h.advance.icxChange fun h => h.update) h.advance
  | .icxPendWrite .. => h.pf1Write fun h => h.writePend
  | .icxMaskWrite .. => h.pf1Write fun h => h.writeMask
  | .internalMessage .. => branch h.advance.update h.advance.update.charge
  | .csiDeskewComplete .. => branch h.advance.setFlag h.advance
  | .linkUp .. => h.execLinkUp
  | .nvmProgramSequenceComplete .. => h.execNvmProgramSequenceComplete
  | .brownoutResetExit .. => branch (branch h.advance.update.start h.advance.update) h.advance
  | .moultStart .. => h.execMoultStart
  | .coachmanIcxClaim .. => h.execCoachmanIcxClaim
  | .coachmanIcxComplete .. => branch (branch h.completeFastCharged h.completeNormal) h
  | .jtagInstruction .. => h.execJtagInstruction hP

end

/-- What a step makes of the standing. -/
theorem Stands.step {s : State} (hP : Lasting P) (h : Stands P s) : NextStands P (Machine.step s) := by
  unfold Machine.step
  split
  · exact h.advance
  · exact Stands.exec h.update hP _

end

/-! ### The invariants -/

/-- A code that is not below `n`, and one of the six where `n` is. -/
def CodeFrom (n : Nat) (x : Standing) : Prop := n ≤ x.lifecycle ∧ (n ≤ 5 → x.lifecycle ≤ 5)

theorem codeFrom_lasting (n : Nat) : Lasting (CodeFrom n) where
  next h hlt h5 := ⟨h.1.trans hlt.le, fun _ => h5.le⟩
  scrapped h hlt := ⟨h.1.trans hlt.le, fun _ => le_rfl⟩
  reset h := h

theorem legal_lasting : Lasting Standing.Legal where
  next h _ h5 := ⟨h5.le, h.2.1, fun e => absurd e h5.ne⟩
  scrapped _ _ := ⟨le_rfl, le_rfl, fun _ => ⟨rfl, rfl⟩⟩
  reset h := ⟨h.1, h.1, fun e => ⟨e, (h.2.2 e).2⟩⟩

/-- A property that lasts holds of the state that a step answers. -/
theorem Stands.of_step {P : Standing → Prop} {s t : State} (hP : Lasting P) (h : Stands P s) (ht : Machine.step s = .next t) :
    Stands P t := by
  have hn : NextStands P (Machine.step s) := Stands.step hP h
  rwa [ht] at hn

/-- Settles O59: legality lasts through transitions and resets, so every step keeps it. -/
theorem lifeCycleStaysLegal : Obligations.LifeCycleStaysLegal :=
  fun _ _ h ht => Stands.of_step (P := Standing.Legal) legal_lasting h ht

/-- What a read of SEC_STAT returns (R526). -/
theorem readReg_secStat (s : State) : s.readReg Reg.SEC_STAT =
    pack [(s.nvm.lifecycle, 0, 3), (boolNat s.ownerEnrolled, 3, 1), (boolNat s.ownerLocked, 4, 1),
      (boolNat s.coach.trial.isSome, 5, 1), (s.fld .SEC_STAT_DIGEST_MATCH, 6, 1),
      (boolNat s.digest.expected.isSome, 7, 1), (s.fld .SEC_STAT_ALARM, 8, 1), (s.lead, 9, 1),
      (s.coachBank s.lead, 10, 1)] := by
  have hspr : s.viewSpr Reg.SEC_STAT = none := rfl
  change ((s.viewSpr Reg.SEC_STAT).or (s.viewSec Reg.SEC_STAT)).getD (s.reg Reg.SEC_STAT).toNat = _
  rw [hspr]
  rfl

/-- The lowest field of a packed word reads its value. -/
theorem getBits_pack_lowest (x : Nat) (l : List (Nat × Nat × Nat)) (h : ∀ f ∈ l, 3 ≤ f.2.1) :
    getBits (pack ((x, 0, 3) :: l)) 2 0 = x % 8 := by
  have hsum : ∀ v, (l.foldl (fun v f => v + f.1 % 2 ^ f.2.2 * 2 ^ f.2.1) v) % 8 = v % 8 := by
    induction l with
    | nil => exact fun _ => rfl
    | cons f l ih =>
      intro v
      obtain ⟨k, hk⟩ := Nat.exists_eq_add_of_le (h f List.mem_cons_self)
      have h8 : f.1 % 2 ^ f.2.2 * 2 ^ f.2.1 = 8 * (f.1 % 2 ^ f.2.2 * 2 ^ k) := by rw [hk, pow_add]; ring
      rw [List.foldl_cons, ih (fun g hg => h g (List.mem_cons_of_mem f hg)), h8, Nat.add_mul_mod_self_left]
  unfold getBits pack
  rw [List.foldl_cons]
  simpa using hsum (x % 8)

/-- SEC_STAT shows the life-cycle code in its lowest bits. -/
theorem getBits_readReg_secStat (s : State) : getBits (s.readReg Reg.SEC_STAT) 2 0 = s.nvm.lifecycle % 8 := by
  rw [readReg_secStat]
  exact getBits_pack_lowest _ _ (by simp)

/-- Settles O57: that the code is not below the one before lasts through transitions and resets, so every step keeps it. -/
theorem lifeCycleCodeOnlyIncreases : Obligations.LifeCycleCodeOnlyIncreases :=
  ⟨fun s _ ht => Stands.of_step (s := s) (codeFrom_lasting s.nvm.lifecycle) ⟨le_rfl, id⟩ ht, getBits_readReg_secStat⟩

end Sys2Proof.Safety
end

section
/-! PROOF. Staging into commit groups (R366 to R368, R371). -/

namespace Sys2Proof.Safety

open Sys2Proof.Machine

/-- A well-formed command without a group at the head of its ring is carried out. -/
theorem command_of_headFor_ungrouped {s : State} {q op : Nat} {used : List (Nat × Nat)} {d : List Byte}
    {f : List Byte → State → State} (hd : s.headFor q op = some d) (hz : unusedZero d ([(0, 4)] ++ used) = true)
    (hg : bytesAt d 1 1 = 0) (hm : ((op == 4 || op == 8) && !s.canDma 0) = false) :
    s.command q op false used f = f d s := by
  unfold State.command
  rw [hd]
  dsimp only
  rw [hz, hg, hm, if_neg (by decide), if_neg Bool.false_ne_true]

/-- A group other than the one replaced keeps its items. -/
theorem group_setGroup_ne (s : State) {g k : Nat} (l : List Item) (h : k ≠ g) : (s.setGroup g l).group k = s.group k :=
  Store.get_set_ne _ _ _ h

/-- What follows at the head of a ring once its command is done leaves registers and groups alone. -/
theorem posted_finishHead (s : State) (q : Nat) (st : Status) (r : Nat) : Posted s (s.finishHead q st r) :=
  (Posted.refl s).finishHead

/-- Items that fit their group are staged in it, and the command is done. -/
theorem stage_of_fits {s : State} {q r : Nat} {d : List Byte} {l : List Item}
    (h : groupFits (l.foldl addItem (s.group (bytesAt d 1 1))) = true) :
    s.stage q d (some l) r =
      (s.setGroup (bytesAt d 1 1) (l.foldl addItem (s.group (bytesAt d 1 1)))).finishHead q .ok r := if_pos h

/-- A group replaced at the end of a command: it holds its new items, and the registers and the other groups are as before. -/
theorem setGroup_finishHead (s : State) (q g r : Nat) (l : List Item) :
    ((s.setGroup g l).finishHead q .ok r).regs = s.regs ∧ ((s.setGroup g l).finishHead q .ok r).group g = l ∧
      ∀ k, k ≠ g → ((s.setGroup g l).finishHead q .ok r).group k = s.group k :=
  have hp := posted_finishHead (s.setGroup g l) q .ok r
  ⟨hp.regs, (hp.group g).trans (group_setGroup s g l), fun k hk => (hp.group k).trans (group_setGroup_ne s l hk)⟩

/-- A staging command whose operands hold: its items join its group, or an owner-locked device refuses it. -/
theorem stages_items {s : State} {q op : Nat} {used : List (Nat × Nat)} {d : List Byte} {l : List Item}
    {items : List Byte → Option (List Item)} {r : List Byte → Nat} (hd : s.headFor q op = some d)
    (hz : unusedZero d ([(0, 4)] ++ used) = true) (hg : bytesAt d 1 1 < 16)
    (hm : ((op == 4 || op == 8) && !s.canDma 0) = false) (hi : items d = some l)
    (hfit : groupFits (l.foldl addItem (s.group (bytesAt d 1 1))) = true) :
    let t := s.command q op true used fun d s => s.unlessLocked q fun s => s.stage q d (items d) (r d)
    t.regs = s.regs ∧
      (s.ownerLocked = false → t.group (bytesAt d 1 1) = l.foldl addItem (s.group (bytesAt d 1 1)) ∧
        ∀ k, k ≠ bytesAt d 1 1 → t.group k = s.group k) ∧
      (s.ownerLocked = true → t.groups = s.groups) := by
  intro t
  have ht : t = s.unlessLocked q fun s => s.stage q d (items d) (r d) := command_of_headFor hd hz hg hm
  cases hlock : s.ownerLocked
  · have he : t = (s.setGroup (bytesAt d 1 1) (l.foldl addItem (s.group (bytesAt d 1 1)))).finishHead q .ok (r d) := by
      rw [ht, State.unlessLocked, hlock, if_neg Bool.false_ne_true, hi, stage_of_fits hfit]
    rw [he]
    obtain ⟨hregs, hgroup, hrest⟩ := setGroup_finishHead s q (bytesAt d 1 1) (r d)
      (l.foldl addItem (s.group (bytesAt d 1 1)))
    exact ⟨hregs, fun _ => ⟨hgroup, hrest⟩, fun h => absurd h Bool.false_ne_true⟩
  · have he : t = s.finishHead q .sigFail 0 := by rw [ht, State.unlessLocked, hlock, if_pos rfl]
    have hp : Posted s t := he ▸ posted_finishHead s q .sigFail 0
    exact ⟨hp.regs, fun h => Bool.noConfusion h, fun _ => hp.groups⟩

/-- Settles O35: the three staging commands are `stages_items`, DISCARD is `setGroup_finishHead`, and NOP is done at once. -/
theorem stagingCommandsFillTheirGroup : Obligations.StagingCommandsFillTheirGroup := by
  intro s q d g put p
  refine ⟨fun hd hz hg => ?_, fun l hd hz hg h1 h7 ha hi hfit => ?_, fun l hd hz hg h8 h9 hi hfit => ?_,
    fun l hd hz hg h17 hi hfit => ?_, fun hd hz hg => ?_⟩
  · have hp := posted_finishHead s q.val .ok 0
    exact ⟨_, congrArg Host.Outcome.next (command_of_headFor_ungrouped hd hz hg rfl), hp.groups, hp.regs, rfl⟩
  · refine ⟨_, rfl, stages_items hd hz hg rfl ?_ hfit⟩
    exact (if_pos (by simp [p] at *; simp [*])).trans hi
  · refine ⟨_, rfl, stages_items hd hz hg rfl ?_ hfit⟩
    exact (if_pos (by simp [p] at *; simp [*])).trans hi
  · refine ⟨_, rfl, stages_items hd hz hg rfl ?_ hfit⟩
    exact (if_pos h17).trans hi
  · obtain ⟨hregs, hgroup, hrest⟩ := setGroup_finishHead s q.val g (s.group g).length []
    exact ⟨_, congrArg Host.Outcome.next (command_of_headFor hd hz hg rfl), hregs, hgroup, hrest⟩

end Sys2Proof.Safety
end

section
/-! PROOF. A step on an empty queue lets 1 ns pass (log 1).

Time passes at the clocks in pieces: the pads move and edges of TSYNC_IN come through between them. `Elapsed` says what a piece
of `k` ns does to the clocks and leaves alone, and pieces add up (`Elapsed.trans`). -/

namespace Sys2Proof.Safety

open Sys2Proof.Machine

/-- A state without its pads, clocks, clock loops and registers. -/
def clockless (s : State) : State :=
  { padless s with now := 0, tb := 0, clk := 0, clocks := State.reset.clocks, regs := [] }

/-- `k` ns pass from `s` to `t`: at the timebase where it runs, and beside clocks and pads only counters of gates change. -/
structure Elapsed (k : Nat) (s t : State) : Prop where
  rest : clockless t = clockless s
  now : t.now = s.now + k
  tb : t.tb = if s.tbRuns then timeAfter s.tb k else s.tb
  regs : ∀ a, a < Reg.GC_LO 0 → t.reg a = s.reg a

theorem timeAfter_zero (t : Time) : timeAfter t 0 = t := BitVec.add_zero t

/-- What differs in pads only, with no time. -/
theorem Elapsed.of_padsMoved {s t : State} (h : PadsMoved s t) : Elapsed 0 s t where
  rest := (congrArg clockless h :)
  now := (congrArg State.now h :)
  tb := by rw [timeAfter_zero, ite_self]; exact (congrArg State.tb h :)
  regs a _ := reg_congr h.regs a

/-- While time passes the timebase goes on to run, or to stand. -/
theorem Elapsed.tbRuns {k : Nat} {s t : State} (h : Elapsed k s t) : t.tbRuns = s.tbRuns := by
  have hs : t.tbStarted = s.tbStarted := (congrArg State.tbStarted h.rest :)
  have hr : t.inReset = s.inReset := (congrArg State.inReset h.rest :)
  have ho : t.off = s.off := (congrArg State.off h.rest :)
  have hf : t.flag .TB_STAT_HELD = s.flag .TB_STAT_HELD := flag_of_reg (h.regs Reg.TB_STAT (by decide))
  unfold State.tbRuns
  rw [hs, hr, ho, hf]

theorem Elapsed.trans {j k : Nat} {s t u : State} (h : Elapsed j s t) (h' : Elapsed k t u) : Elapsed (j + k) s u where
  rest := h'.rest.trans h.rest
  now := by rw [h'.now, h.now, Nat.add_assoc]
  tb := by
    rw [h'.tb, h.tbRuns, h.tb]
    split
    · exact timeAfter_timeAfter s.tb j k
    · rfl
  regs a ha := (h'.regs a ha).trans (h.regs a ha)

/-- A fold of steps that take no time. -/
theorem Elapsed.foldl_still {β : Type} {f : State → β → State} (hf : ∀ t x, Elapsed 0 t (f t x)) (l : List β) (s : State) :
    Elapsed 0 s (l.foldl f s) :=
  List.foldlRecOn l f (Elapsed.of_padsMoved (.refl s)) fun _ h x _ => h.trans (hf _ x)

/-- A write of a register of the gated counters. -/
theorem elapsed_setReg (s : State) {a : Nat} (v : Word) (ha : Reg.GC_LO 0 ≤ a) : Elapsed 0 s (s.setReg a v) where
  rest := rfl
  now := rfl
  tb := by rw [timeAfter_zero, ite_self]; rfl
  regs _ hb := reg_setReg_ne s v (by omega)

/-- A gated counter counts. -/
theorem elapsed_gateCount (s : State) (dt n : Nat) : Elapsed 0 s (s.gateCount dt n) := by
  unfold State.gateCount
  split
  · exact (elapsed_setReg s _ (by dsimp only [Reg.GC_LO]; omega)).trans
      (elapsed_setReg _ _ (by dsimp only [Reg.GC_LO]; omega))
  · exact .of_padsMoved (.refl s)

/-- A pin takes its level without an edge. -/
theorem padsMoved_placePin (s : State) (n : Nat) : PadsMoved s (s.placePin n) := rfl

theorem elapsed_pass (s : State) (dt : Nat) : Elapsed dt s (s.pass dt) := by
  unfold State.pass
  split
  · next hr =>
    have h : Elapsed 0 s ((List.range 8).foldl (fun t n => t.gateCount dt n) s) :=
      .foldl_still (fun t n => elapsed_gateCount t dt n) _ s
    exact ⟨h.rest, rfl, (if_pos hr).symm, h.regs⟩
  · next hr => exact ⟨rfl, rfl, (if_neg hr).symm, fun _ _ => rfl⟩

/-- The pieces of 1 ns in which pads are looked at. -/
theorem elapsed_pieces {f : State → State} (hf : ∀ t, Elapsed 0 t (f t)) (s : State) (n : Nat) :
    Elapsed n s ((List.range n).foldl (fun s _ => f (s.pass 1)) s) := by
  induction n with
  | zero => exact .of_padsMoved (.refl s)
  | succ n ih =>
    rw [List.range_succ, List.foldl_append]
    exact ih.trans ((elapsed_pass _ 1).trans (hf _))

theorem elapsed_elapse (s : State) (dt : Nat) : Elapsed dt s (s.elapse dt) := by
  unfold State.elapse
  extract_lets pins n
  split
  · exact elapsed_pass s dt
  · have hplace : Elapsed (dt - n) s (pins.foldl State.placePin (s.pass (dt - n))) :=
      (elapsed_pass s _).trans (.foldl_still (fun t x => .of_padsMoved (padsMoved_placePin t x)) _ _)
    have hmove := elapsed_pieces (f := fun t => pins.foldl State.movePin t)
      (fun t => .foldl_still (fun t x => .of_padsMoved ((PadsMoved.refl t).movePin (n := x))) pins t)
      (pins.foldl State.placePin (s.pass (dt - n))) n
    have h := hplace.trans hmove
    rwa [Nat.sub_add_cancel (Nat.min_le_left dt 5)] at h

theorem elapsed_syncThrough (s : State) (b : Bool) : Elapsed 0 s (s.syncThrough b) := by
  unfold State.syncThrough
  exact .of_padsMoved (.branch rfl rfl)

theorem elapsed_settleDividers (s : State) : Elapsed 0 s s.settleDividers := by
  have hs : Elapsed 0 s s := .of_padsMoved (.refl s)
  unfold State.settleDividers
  split
  · split
    · exact ⟨rfl, rfl, hs.tb, fun _ _ => rfl⟩
    · exact hs
  · exact hs

/-- The edges of TSYNC_IN that have come by a time come through, up to that time. -/
theorem elapsed_edges (l : List (Nat × Bool)) (s : State) (n : Nat) (h : ∀ e ∈ l, e.1 ≤ s.now + n) :
    ∃ k ≤ n, Elapsed k s (l.foldl (fun t e => (t.elapse (e.1 - t.now)).syncThrough e.2) s) := by
  induction l using List.reverseRecOn with
  | nil => exact ⟨0, Nat.zero_le n, .of_padsMoved (.refl s)⟩
  | append_singleton l e ih =>
    obtain ⟨k, hk, hl⟩ := ih fun x hx => h x (List.mem_append_left _ hx)
    rw [List.foldl_append]
    refine ⟨_, ?_, hl.trans ((elapsed_elapse _ _).trans (elapsed_syncThrough _ e.2))⟩
    have he := h e (by simp)
    have hnow := hl.now
    omega

theorem elapsed_advance (s : State) (n : Nat) : Elapsed n s (s.advance n) := by
  unfold State.advance
  extract_lets due later t
  obtain ⟨k, hk, ht⟩ : ∃ k ≤ n, Elapsed k s t :=
    elapsed_edges due s n fun e he => of_decide_eq_true (List.mem_filter.mp he).2
  have hsync : Elapsed 0 t { t with tbu := { t.tbu with syncEdges := later } } := .of_padsMoved rfl
  have h := ((ht.trans hsync).trans (elapsed_elapse _ (s.now + n - t.now))).trans (elapsed_settleDividers _)
  rwa [show k + 0 + (s.now + n - t.now) + 0 = n by rw [ht.now]; omega] at h

/-- Settles O1: by the definition of a step. -/
theorem stepRunsFrontCommand : Obligations.StepRunsFrontCommand := fun _ _ _ => rfl

/-- Settles O2: the step is 1 ns of `elapsed_advance`. -/
theorem emptyQueueLetsOneNsPass : Obligations.EmptyQueueLetsOneNsPass := by
  intro s hs
  have h := elapsed_advance s 1
  have hm : (s.advance 1).hostMem = s.hostMem := (congrArg State.hostMem h.rest :)
  refine ⟨s.advance 1, ?_, h.now, h.tb, h.regs, memKept_of_hostMem hm _, (congrArg State.rings h.rest :),
    (congrArg State.pending h.rest :).trans hs⟩
  unfold step
  rw [hs]

end Sys2Proof.Safety
end

section
/-! PROOF. A load that names a table beyond its index writes the bank of the next table (O36).

`tableKey` counts 256 indices to a table, so that the keys of two tables meet where an index reaches 256. `loadOk` admits
no such load; the statement speaks of every open load, this one too. -/

namespace Sys2Proof.Safety

open Sys2Proof.Machine

/-- A load of byte 0 into index 256 of table 0x21, whose key is that of FF_FINE (0x22). -/
def overlongLoad : Load := ⟨0, 0x21, 256, 0, [0], none⟩

/-- A flat-field acquisition that has gathered its frames and waits to write FF_FINE and FF_COARSE. -/
def gatheredFlat : Flat :=
  { taps := [], want := 0, earliest := 0, ticks := 0, used := 0, first := none, sums := [], late := [],
    ready := some ⟨[], [], false, false, 0⟩, notify := none }

/-- The device at reset with the overlong load open and the acquisition about to end. -/
def loadIntoFlat : State :=
  { State.reset with loads := [overlongLoad], cal := { State.reset.cal with flat := some gatheredFlat } }

/-- The byte at offset 0 of the shadow bank that the load writes, after its completion. -/
def loadedByte : Host.Outcome State Fault Refusal → Byte
  | .next t => t.tables.bytes.get tableReset (tableAddr (tableKey 0x21 256) 1 0)
  | _ => 0

/-- The acquisition ends behind the load and copies the active bank over the byte loaded. -/
theorem loadedByte_loadIntoFlat : loadedByte (exec (.tableLoadComplete 0 0) loadIntoFlat) = 128 := by decide +kernel

theorem loadIntoFlat_bankFree : (loadIntoFlat.advance 0).bankFree 0 0x21 256 = true := by decide +kernel
theorem loadIntoFlat_activeBank :
    (loadIntoFlat.advance 0).activeBank (tableKey overlongLoad.table overlongLoad.index) = 0 := by decide +kernel
theorem loadIntoFlat_loads : (loadIntoFlat.advance 0).loads = [overlongLoad] := by decide +kernel

/-- Refutes O36: an open load of table 0x21 with index 256 has the key of FF_FINE, and the acquisition that its end
lets complete copies the active bank over the byte loaded. -/
theorem not_tableLoadsWriteTheShadowBank : ¬ Obligations.TableLoadsWriteTheShadowBank := by
  rintro ⟨-, hload⟩
  have hfirst : ∀ p : Load → Bool, p overlongLoad = true →
      (loadIntoFlat.advance 0).loads.find? p = some overlongLoad := fun p hp => by
    rw [loadIntoFlat_loads]
    exact List.find?_cons_of_pos hp
  obtain ⟨t, ht, hbytes, -⟩ := hload loadIntoFlat 0 0 overlongLoad (hfirst _ rfl) (hfirst _ rfl)
    loadIntoFlat_bankFree (fun h => absurd h (by decide)) (loadIntoFlat_activeBank ▸ Nat.zero_le 1) (by decide)
  have hread := loadedByte_loadIntoFlat
  rw [ht] at hread
  have hzero := hbytes 0 (by decide)
  rw [loadIntoFlat_activeBank] at hzero
  exact absurd (hread.symm.trans (Option.some.inj hzero)) (by decide)

end Sys2Proof.Safety
end

section
/-! PROOF. The power states: what a sleep and a return to ACTIVE leave of the shown state, and the wake sources (O47). -/

namespace Sys2Proof.Safety

-- The many small side goals below, elaborated in parallel, would take more threads than the memory limit allows.
set_option Elab.async false

open Sys2Proof.Machine

/-! ## The sleep's frame -/

/-- The registers that show the start, the power state and the wake source. -/
abbrev SleepReg (a : Nat) : Prop := BootReg a ∨ a = Reg.PWR_WAKE_SRC

theorem not_sleepReg_classUse (cls : Nat) : ¬ SleepReg (Reg.SPR_CLASS_USE cls) :=
  fun h => h.elim (not_bootReg_classUse cls) fun e => by
    dsimp only [Reg.SPR_CLASS_USE, Reg.PWR_WAKE_SRC] at e
    omega

/-- `s` has the reset, the power state and the tests in service of `s₀`, and shows the same power state and wake source. -/
structure SameSleep (s₀ s : State) : Prop where
  boot : SameBoot s₀ s
  tests : s.spares.tests = s₀.spares.tests
  wake : s.reg Reg.PWR_WAKE_SRC = s₀.reg Reg.PWR_WAKE_SRC

theorem SameSleep.refl (s : State) : SameSleep s s := ⟨.refl s, rfl, rfl⟩

theorem SameSleep.branch {s₀ s t : State} {c : Prop} {inst : Decidable c} (hs : SameSleep s₀ s) (ht : SameSleep s₀ t) :
    SameSleep s₀ (if c then s else t) := by split <;> assumption

/-- A fold over a state. -/
theorem SameSleep.foldl {β : Type} {s₀ s : State} {f : State → β → State} {l : List β} (h : SameSleep s₀ s)
    (hf : ∀ {t x}, SameSleep s₀ t → SameSleep s₀ (f t x)) : SameSleep s₀ (l.foldl f s) :=
  List.foldlRecOn l f (motive := SameSleep s₀) h fun _ ht _ _ => hf ht

section
variable {s₀ s : State} (h : SameSleep s₀ s)
include h

theorem SameSleep.setReg {a v} (ha : ¬ SleepReg a := by decide) : SameSleep s₀ (s.setReg a v) :=
  ⟨h.boot.setReg fun hb => ha (.inl hb), h.tests, (reg_setReg_ne s v fun e => ha (.inr e.symm)).trans h.wake⟩
theorem SameSleep.setFld {f v} (hf : ¬ SleepReg f.addr := by decide) : SameSleep s₀ (s.setFld f v) := h.setReg hf
theorem SameSleep.setFlag {f b} (hf : ¬ SleepReg f.addr := by decide) : SameSleep s₀ (s.setFlag f b) := h.setReg hf
theorem SameSleep.setWide {a v} (h1 : ¬ SleepReg a := by decide) (h2 : ¬ SleepReg (a + 4) := by decide) :
    SameSleep s₀ (s.setWide a v) := (h.setReg h1).setReg h2
theorem SameSleep.setClocks {x} : SameSleep s₀ { s with clocks := x } := ⟨h.boot.update, h.tests, h.wake⟩
theorem SameSleep.setIcx {x} : SameSleep s₀ { s with icx := x } := ⟨h.boot.update, h.tests, h.wake⟩
theorem SameSleep.setPcie {x} : SameSleep s₀ { s with pcie := x } := ⟨h.boot.update, h.tests, h.wake⟩
theorem SameSleep.setTb {x} : SameSleep s₀ { s with tb := x } := ⟨h.boot.update, h.tests, h.wake⟩
theorem SameSleep.setEj {x} : SameSleep s₀ { s with ej := x } := ⟨h.boot.update, h.tests, h.wake⟩
theorem SameSleep.setSpares {x : Spares} (hx : x.tests = s.spares.tests := by rfl) : SameSleep s₀ { s with spares := x } :=
  ⟨h.boot.update, hx.trans h.tests, h.wake⟩
theorem SameSleep.quiet {t} (ht : Quiet s t) : SameSleep s₀ t :=
  ⟨h.boot.quiet ht, (congrArg Spares.tests ht.spares).trans h.tests, (ht.regs _ (by unfold EventReg; decide)).trans h.wake⟩
theorem SameSleep.pinned {t} (ht : Pinned s t) : SameSleep s₀ t :=
  ⟨h.boot.pinned ht, (congrArg (fun t => t.spares.tests) ht :).trans h.tests,
    (reg_congr (congrArg State.regs ht :) _).trans h.wake⟩
theorem SameSleep.event {code status source args} : SameSleep s₀ (s.event code status source args) :=
  h.quiet (Quiet.refl s).event
theorem SameSleep.hand {kind cam bs tick tag} : SameSleep s₀ (s.hand kind cam bs tick tag) := h.quiet (Quiet.refl s).hand
theorem SameSleep.raiseFast {n} (hn : n ≤ 16 := by decide) : SameSleep s₀ (s.raiseFast n) :=
  h.quiet ((Quiet.refl s).raiseFast hn)
theorem SameSleep.finishWaiting {notify status result} : SameSleep s₀ (s.finishWaiting notify status result) :=
  h.quiet ((Quiet.refl s).post (Posted.refl s).finishWaiting)
theorem SameSleep.faultRecord {r} : SameSleep s₀ (s.faultRecord r) :=
  have hf := Filed.faultRecord s r
  ⟨h.boot.faultRecord, (congrArg Spares.tests hf.spares).trans h.tests, (hf.regs _ (by decide)).trans h.wake⟩
theorem SameSleep.setNoSpare {cls r b} : SameSleep s₀ (s.setNoSpare cls r b) :=
  h.setSpares.setFld (not_sleepReg_classUse cls)
theorem SameSleep.leftWithout {cls r u source} : SameSleep s₀ (s.leftWithout cls r u source) :=
  h.event.faultRecord.setNoSpare

/-! ### The clock loops -/

theorem SameSleep.setLocked {p b} : SameSleep s₀ (s.setLocked p b) := h.setFld
theorem SameSleep.setGated {r t b} : SameSleep s₀ (s.setGated r t b) := h.setClocks
theorem SameSleep.releaseItems : SameSleep s₀ s.releaseItems := branch h (h.setPcie.foldl fun h => h.hand)
theorem SameSleep.ungate {r} : SameSleep s₀ (s.ungate r) := h.setGated.releaseItems
theorem SameSleep.stepTimebase {t} : SameSleep s₀ (s.stepTimebase t) :=
  SameSleep.setEj (h.setTb.setWide.setFlag.setFlag.raiseFast.foldl fun h => h.pinned (Pinned.refl _).modWv)
theorem SameSleep.enterHoldover : SameSleep s₀ s.enterHoldover := branch h h.setClocks.setFlag
theorem SameSleep.leaveHoldover : SameSleep s₀ s.leaveHoldover := by
  unfold State.leaveHoldover
  split
  · exact h.setClocks.setFlag.setFld.setFlag
  · exact h
theorem SameSleep.holdoverFrom {t} : SameSleep s₀ (s.holdoverFrom t) := h.ungate.stepTimebase.enterHoldover
theorem SameSleep.leftAlone {r t} : SameSleep s₀ (s.leftAlone r t) :=
  have h1 : SameSleep s₀ ((s.loopEvent r 1 0).loopAlone r) := h.event.leftWithout
  have h2 := h1.quiet (Quiet.refl _).free
  branch (branch h2.holdoverFrom h2.setGated) h1.setGated
theorem SameSleep.standbyGone : SameSleep s₀ s.standbyGone := by
  refine h.setFlag.foldl fun h => ?_
  split
  · exact branch h h.leftAlone
  · exact h
theorem SameSleep.resumeRole {r} : SameSleep s₀ (s.resumeRole r) := by
  have h1 : SameSleep s₀ (s.setNoSpare 9 r false) := h.setNoSpare
  unfold State.resumeRole
  extract_lets u v
  have h2 : SameSleep s₀ v := by
    dsimp only [v]
    split
    · exact branch (branch h1.ungate.stepTimebase h1.ungate) h1
    · exact h1
  exact branch h2.leaveHoldover h2
theorem SameSleep.sleepLoops {stop} : SameSleep s₀ (s.sleepLoops stop) := by
  have h1 : SameSleep s₀ ([0, 1].foldl (fun s r => (s.setLocked (s.loopOf r) true).resumeRole r) s) :=
    h.foldl fun h => h.setLocked.resumeRole
  exact branch (h.foldl fun h => branch h h.setLocked).standbyGone (branch h (branch h1 h1.setLocked.setFlag))

/-! ### Entering and leaving -/

theorem SameSleep.raiseSafe : SameSleep s₀ s.raiseSafe := h.foldl fun h => branch h.raiseFast h
theorem SameSleep.stopIcx : SameSleep s₀ s.stopIcx := h.setIcx
theorem SameSleep.endPulses : SameSleep s₀ s.endPulses := h.pinned (Pinned.refl s).endPulses
theorem SameSleep.settlePins : SameSleep s₀ s.settlePins := h.pinned (Pinned.refl s).settlePins
theorem SameSleep.repeatSync : SameSleep s₀ s.repeatSync := branch (h.pinned (Pinned.refl s).setPin) h
theorem SameSleep.startRun : SameSleep s₀ s.startRun :=
  have h1 : SameSleep s₀ (s.setFlag .HIF_RUN_RUN true) := h.setFlag
  branch ⟨h1.boot.update, h1.tests, h1.wake⟩ h

end

/-- The sources of the interrupt controller. -/
theorem le_of_mem_icx {n : Nat} (h : n ∈ icxFast ++ icxNormal) : n ≤ 272 := by
  revert n
  decide +kernel

theorem Quiet.applyLatches (s : State) : Quiet s s.applyLatches :=
  List.foldlRecOn _ _ (motive := Quiet s) (Quiet.refl s).setIcx fun _ ht _ hn =>
    branch (icxChange (ht.applyRaise (le_of_mem_icx hn))) ht

theorem SameSleep.applyLatches {s₀ s : State} (h : SameSleep s₀ s) : SameSleep s₀ s.applyLatches := h.quiet (.applyLatches s)

/-! ## POWER_STATE -/

theorem executing_startHead (s : State) (n : Nat) : ((s.startHead n).ring n).executing = true :=
  congrArg Ring.executing (ring_setRing_self s n _)

/-- The state in which a sleep or a return is asked for. -/
def askPower (s : State) (target : Nat) : State :=
  { s.startHead mboxSq with power := { s.power with request := some ⟨target, s.waiting⟩ } }

/-- RUN ends where it is 1. -/
def stopIfRun (s : State) : State := if s.run then s.stopRun else s

theorem stopIfRun_spec (s : State) : (stopIfRun s).run = false ∧ (stopIfRun s).power = s.power ∧
    (stopIfRun s).rings = s.rings ∧ RegsKept s (stopIfRun s) (· = Reg.HIF_RUN) := by
  unfold stopIfRun
  split
  · exact ⟨flag_setFlag_bit s false, rfl, rfl, fun a ha => reg_setFlag_ne s false ha⟩
  · next h => exact ⟨by simpa using h, rfl, rfl, .refl s _⟩

theorem exec_powerState_of_same {s : State} {d : List Byte} (h : MailboxTakes s 0xA8 [(20, 4)] d) (ha : bytesAt d 20 4 ≤ 2)
    (hs : s.fld .PWR_STATE_STATE = bytesAt d 20 4) (hr : s.power.request = none) :
    exec .powerState s = .next (s.finishMbox .ok 0) := by
  refine congrArg Host.Outcome.next ((mailbox_of_takes h).trans ?_)
  dsimp only
  rw [if_neg (by omega), if_pos (by simp [hs, hr])]

theorem exec_powerState_of_other {s : State} {d : List Byte} (h : MailboxTakes s 0xA8 [(20, 4)] d) (ha : bytesAt d 20 4 ≤ 2)
    (hs : s.fld .PWR_STATE_STATE ≠ bytesAt d 20 4) (hr : s.power.request = none) :
    exec .powerState s = .next (if bytesAt d 20 4 = 0 then askPower s (bytesAt d 20 4)
      else (stopIfRun (askPower s (bytesAt d 20 4))).setFlag .PWR_STATE_PENDING true) := by
  refine congrArg Host.Outcome.next ((mailbox_of_takes h).trans ?_)
  dsimp only
  rw [if_neg (by omega), if_neg (by simp [hs]), if_neg (by simp [hr])]
  rfl

/-! ## POWER_STATE_ENTRY -/

theorem tests_setUnit (s : State) (cls u : Nat) (v : UnitInfo) : (s.setUnit cls u v).spares.tests = s.spares.tests :=
  (setUnit_spec s cls u v).2.1

theorem tests_setQueue (s : State) (l : List Subst) : (s.setQueue l).spares.tests = s.spares.tests :=
  (congrArg Spares.tests (State.setFlag_spares { s with spares := { s.spares with queue := l } } _ _) :)

theorem tests_queueSubst (s : State) (q : Subst) (new : Option Nat) :
    (s.queueSubst q new).spares.tests = s.spares.tests := by
  unfold State.queueSubst
  refine (tests_setQueue _ _).trans ?_
  split
  · exact tests_setUnit ..
  · rfl

theorem tests_giveBack (s : State) (q : Subst) : (s.giveBack q).spares.tests = s.spares.tests := by
  unfold State.giveBack
  split
  · split
    · exact tests_setUnit ..
    · rfl
  · rfl

theorem tests_dropTest (s : State) (t : SelfTest) :
    (s.dropTest t).spares.tests = s.spares.tests.filter fun x => !(x.cls == t.cls && x.unit == t.unit) := by
  unfold State.dropTest
  dsimp only
  refine (endTestWith_spec _ t 2 0 _).2.2.1.trans (congrArg _ ?_)
  exact List.foldlRecOn _ _ (motive := fun u : State => u.spares.tests = s.spares.tests) (tests_setQueue s _)
    fun u hu q _ => (tests_giveBack u q).trans hu

/-- A test that is aborted is in service no more, and no other begins. -/
theorem tests_abortTest (s : State) (t : SelfTest) :
    (s.abortTest t).spares.tests = s.spares.tests.filter fun x => !(x.cls == t.cls && x.unit == t.unit) := by
  have hend (patterns : Nat) (after : UnitInfo) := (endTestWith_spec s.free.2 t 2 patterns after).2.2.1
  unfold State.abortTest
  dsimp only
  split
  · split
    · split
      · exact (tests_queueSubst _ _ _).trans (hend _ _)
      · exact hend _ _
    · exact hend _ _
  · exact tests_dropTest s t

/-- No test of `l` is in service after all of `l` are aborted. -/
theorem mem_foldl_abortTest (l : List SelfTest) (s : State) {x : SelfTest}
    (hx : x ∈ (l.foldl (fun s t => s.abortTest t) s).spares.tests) : x ∈ s.spares.tests ∧ x ∉ l := by
  induction l generalizing s with
  | nil => exact ⟨hx, List.not_mem_nil⟩
  | cons t l ih =>
    obtain ⟨hmem, hl⟩ := ih (s.abortTest t) hx
    rw [tests_abortTest, List.mem_filter] at hmem
    refine ⟨hmem.1, fun h => (List.mem_cons.mp h).elim (fun e => ?_) hl⟩
    have hself := hmem.2
    rw [e] at hself
    simp at hself

theorem tests_abortTests (s : State) : s.abortTests.spares.tests = [] :=
  List.eq_nil_iff_forall_not_mem.mpr fun _ hx =>
    have h := mem_foldl_abortTest s.spares.tests s hx
    h.2 h.1

/-- A change of STATE to one of its values, behind which the shown state stays. -/
theorem sleeping_of_same {s t : State} {target : Nat} (ht : target < 4)
    (h : SameSleep (s.setFld .PWR_STATE_STATE target) t) :
    t.fld .PWR_STATE_STATE = target ∧ t.flag .PWR_STATE_PENDING = s.flag .PWR_STATE_PENDING ∧ t.power = s.power ∧
      t.spares.tests = s.spares.tests := by
  refine ⟨(fld_of_reg (f := .PWR_STATE_STATE) h.boot.shown).trans ?_, (flag_of_reg (f := .PWR_STATE_PENDING) h.boot.shown).trans ?_, h.boot.power, h.tests⟩
  · exact (fld_setFld_self s .PWR_STATE_STATE target (by decide) (by decide)).trans (Nat.mod_eq_of_lt ht)
  · exact flag_setFld_bits s target

/-- The device enters IDLE or STANDBY. -/
theorem enterSleep_spec {s : State} {target : Nat} (ht : target = 1 ∨ target = 2) :
    (s.enterSleep target).fld .PWR_STATE_STATE = target ∧
    (s.enterSleep target).flag .PWR_STATE_PENDING = s.flag .PWR_STATE_PENDING ∧
    (s.enterSleep target).power = s.power ∧ (s.enterSleep target).spares.tests = s.spares.tests := by
  have hlt : target < 4 := by omega
  have h0 : SameSleep s s.raiseSafe.stopIcx := (SameSleep.refl s).raiseSafe.stopIcx
  have h1 := SameSleep.refl (s.setFld .PWR_STATE_STATE target)
  unfold State.enterSleep
  dsimp only
  split
  · have hloops := (SameSleep.refl (s.raiseSafe.stopIcx.setFld .PWR_STATE_STATE target)).sleepLoops (stop := true)
    obtain ⟨hs, hp, hw, htests⟩ := sleeping_of_same hlt (hloops.setFlag (f := .RO_PIXSUP_STAT_READY) (b := false)).endPulses
    exact ⟨hs, hp.trans (flag_of_reg (f := .PWR_STATE_PENDING) h0.boot.shown), hw.trans h0.boot.power, htests.trans h0.tests⟩
  · exact sleeping_of_same hlt (h1.sleepLoops.applyLatches.settlePins.repeatSync.branch h1)

/-- The settled device before it enters the sleep: the open tracks are flushed, the self-tests aborted. -/
def readySleep (s : State) : State :=
  ({ s.flushAll.abortTests with power := { s.power with request := none } }).setFlag .PWR_STATE_PENDING false

theorem exec_powerStateEntry_of_settled {s u : State} {dt : Nat} {r : PowerReq} (hu : u = s.advance dt)
    (ha : u.alive = true) (hr : u.power.request = some r) (ht : r.target = 1 ∨ r.target = 2)
    (hw : u.power.waking = false) (hs : u.settled = true) :
    exec (.powerStateEntry dt) s = .next (((readySleep u).enterSleep r.target).finishWaiting r.notify .ok 0) := by
  subst hu
  refine congrArg Host.Outcome.next ?_
  dsimp only
  rw [hr]
  have hp : (s.advance dt).sleepPending = true := by
    unfold State.sleepPending
    rw [hr]
    simpa using ht
  exact if_pos (by rw [ha, hp, hw, hs]; rfl)

theorem powerStateEntry_spec (u : State) {r : PowerReq} (ht : r.target = 1 ∨ r.target = 2) {t : State}
    (h : t = ((readySleep u).enterSleep r.target).finishWaiting r.notify .ok 0) :
    t.fld .PWR_STATE_STATE = r.target ∧ t.flag .PWR_STATE_PENDING = false ∧ t.power.request = none ∧
      t.spares.tests = [] := by
  obtain ⟨hstate, hpending, hpower, htests⟩ := enterSleep_spec (s := readySleep u) ht
  have hk : SameSleep ((readySleep u).enterSleep r.target) t := h ▸ (SameSleep.refl _).finishWaiting
  refine ⟨(fld_of_reg (f := .PWR_STATE_STATE) hk.boot.shown).trans hstate,
    (flag_of_reg (f := .PWR_STATE_PENDING) hk.boot.shown).trans (hpending.trans (flag_setFlag_bit _ false)), ?_, ?_⟩
  · exact (congrArg Power.request (hk.boot.power.trans hpower)).trans (congrArg Power.request (State.setFlag_power ..))
  · exact hk.tests.trans (htests.trans (tests_abortTests u.flushAll))

/-! ## WAKE -/

theorem wakeCode_lt (src : WakeSource) : wakeCode src < 256 := by
  cases src with
  | trig pin => exact (by omega : 1 + pin.val < 256)
  | pcie => decide
  | i3c => decide
  | compare n => exact (by omega : 16 + n.val < 256)

/-- The state that shows a wake source, with a sleep that is asked for aborted. -/
def wokenState (s : State) (src : WakeSource) : State :=
  if s.sleepPending then (s.setFld .PWR_WAKE_SRC_SRC (wakeCode src)).abortSleep
  else s.setFld .PWR_WAKE_SRC_SRC (wakeCode src)

theorem wakeFires_of_enabled {s : State} {src : WakeSource} (he : s.wakeEnabled src = true) (ha : s.alive = true)
    (hs : s.fld .PWR_STATE_STATE ≠ 0 ∨ s.sleepPending = true) :
    s.wakeFires src = if s.fld .PWR_STATE_STATE = 0 then wokenState s src
      else { wokenState s src with power := { (wokenState s src).power with waking := true } } := by
  obtain ⟨hreset, hoff⟩ : s.inReset = false ∧ s.off = false := by simpa [State.alive] using ha
  unfold State.wakeFires
  rw [if_neg (by simp [he, hreset, hoff]), if_neg (by rcases hs with h | h <;> simp [h])]
  simp only [beq_iff_eq]
  rfl

/-- A sleep is asked for no more. -/
def unasked (s : State) : State :=
  State.setFlag { s with power := { s.power with request := none } } .PWR_STATE_PENDING false

theorem unasked_spec (s : State) : (unasked s).power = { s.power with request := none } ∧
    (unasked s).flag .PWR_STATE_PENDING = false ∧ (unasked s).fld .PWR_STATE_STATE = s.fld .PWR_STATE_STATE ∧
    RegsKept s (unasked s) (· = Reg.PWR_STATE) := by
  unfold unasked
  refine ⟨State.setFlag_power .., flag_setFlag_bit _ false, fld_setFld_bits _ _, fun a ha => reg_setFlag_ne _ false ha⟩

theorem abortSleep_eq (s : State) : s.abortSleep = ((unasked s).count .PWR_SLEEP_ABORT_COUNT 1).finishWaiting
    (s.power.request.bind (·.notify)) .sleepAbortedWake 0 := rfl

/-- A sleep asked for is aborted: it is asked for no more, PENDING ends, and the abort is counted. -/
theorem abortSleep_spec (s : State) : s.abortSleep.power = { s.power with request := none } ∧
    s.abortSleep.flag .PWR_STATE_PENDING = false ∧ s.abortSleep.fld .PWR_STATE_STATE = s.fld .PWR_STATE_STATE ∧
    s.abortSleep.fld .PWR_SLEEP_ABORT_COUNT = min 65535 (s.fld .PWR_SLEEP_ABORT_COUNT + 1) ∧
    RegsKept s s.abortSleep (fun a => a = Reg.PWR_STATE ∨ a = Reg.PWR_SLEEP_ABORT) := by
  obtain ⟨hpower, hpending, hstate, hk⟩ := unasked_spec s
  rw [abortSleep_eq]
  generalize unasked s = v at hpower hpending hstate hk
  have hp : Posted (v.count .PWR_SLEEP_ABORT_COUNT 1) _ := (Posted.refl _).finishWaiting
    (notify := s.power.request.bind (·.notify)) (st := .sleepAbortedWake) (result := 0)
  have hc (a : Nat) (ha : a ≠ Reg.PWR_SLEEP_ABORT) := (reg_congr hp.regs a).trans (reg_count_ne v (f := .PWR_SLEEP_ABORT_COUNT) 1 ha)
  have hw : ((v.count .PWR_SLEEP_ABORT_COUNT 1).finishWaiting (s.power.request.bind (·.notify)) .sleepAbortedWake 0).power =
      v.power := (congrArg State.power hp :)
  refine ⟨hw.trans hpower, ?_, ?_, ?_, fun a ha => ?_⟩
  · exact (flag_of_reg (hc _ (by decide))).trans hpending
  · exact (fld_of_reg (hc _ (by decide))).trans hstate
  · rw [fld_congr hp.regs, fld_count_self v .PWR_SLEEP_ABORT_COUNT 1 (by decide) (by decide), hk.fld (by decide)]
    rfl
  · exact (hc a fun e => ha (.inr e)).trans (hk a fun e => ha (.inl e))

/-- A wake source shows in PWR_WAKE_SRC, beside which an aborted sleep changes PENDING and its count only. -/
theorem wokenState_spec (s : State) (src : WakeSource) :
    (wokenState s src).fld .PWR_WAKE_SRC_SRC = wakeCode src ∧
    (wokenState s src).fld .PWR_STATE_STATE = s.fld .PWR_STATE_STATE ∧
    RegsKept s (wokenState s src) (fun a => a = Reg.PWR_WAKE_SRC ∨ a = Reg.PWR_STATE ∨ a = Reg.PWR_SLEEP_ABORT) := by
  have hcode : (s.setFld .PWR_WAKE_SRC_SRC (wakeCode src)).fld .PWR_WAKE_SRC_SRC = wakeCode src :=
    (fld_setFld_self s .PWR_WAKE_SRC_SRC _ (by decide) (by decide)).trans (Nat.mod_eq_of_lt (wakeCode_lt src))
  have hk : RegsKept s (s.setFld .PWR_WAKE_SRC_SRC (wakeCode src))
      (fun a => a = Reg.PWR_WAKE_SRC ∨ a = Reg.PWR_STATE ∨ a = Reg.PWR_SLEEP_ABORT) := (RegsKept.refl s _).setFld (.inl rfl)
  have hstate : (s.setFld .PWR_WAKE_SRC_SRC (wakeCode src)).fld .PWR_STATE_STATE = s.fld .PWR_STATE_STATE :=
    fld_setFld_ne s _ (by decide)
  unfold wokenState
  split
  · obtain ⟨-, -, hs, -, habort⟩ := abortSleep_spec (s.setFld .PWR_WAKE_SRC_SRC (wakeCode src))
    refine ⟨(habort.fld (f := .PWR_WAKE_SRC_SRC) (by decide)).trans hcode, hs.trans hstate, fun a ha => ?_⟩
    exact (habort a fun h => ha (.inr h)).trans (hk a ha)
  · exact ⟨hcode, hstate, hk⟩

/-- The device reaches ACTIVE. -/
theorem reachActive_spec (s : State) : s.reachActive.fld .PWR_STATE_STATE = 0 ∧
    s.reachActive.fld .PWR_WAKE_SRC_SRC = s.fld .PWR_WAKE_SRC_SRC ∧ s.reachActive.power.waking = false := by
  unfold State.reachActive
  extract_lets was autorun back p s1 s2 s3
  have hstate : s1.fld .PWR_STATE_STATE = 0 := fld_setFld_self _ .PWR_STATE_STATE 0 (by decide) (by decide)
  have hsrc : s1.fld .PWR_WAKE_SRC_SRC = s.fld .PWR_WAKE_SRC_SRC := fld_setFld_ne _ 0 (by decide)
  have hwaking : s1.power.waking = false := congrArg Power.waking (State.setFld_power ..)
  have h1 := SameSleep.refl s1
  have h2 : SameSleep s1 s2 :=
    (((h1.sleepLoops (stop := false)).setFlag (f := .RO_PIXSUP_STAT_READY) (b := true)).applyLatches.repeatSync).branch h1
  have h3 : SameSleep s1 s3 := by
    clear_value back
    dsimp only [s3]
    split
    · exact h2.releaseItems.settlePins.finishWaiting
    · exact h2.releaseItems.settlePins
  have h : SameSleep s1 (if autorun = true then s3.startRun else s3) := h3.startRun.branch h3
  exact ⟨(fld_of_reg (f := .PWR_STATE_STATE) h.boot.shown).trans hstate,
    (fld_of_reg (f := .PWR_WAKE_SRC_SRC) h.wake).trans hsrc, (congrArg Power.waking h.boot.power).trans hwaking⟩

theorem exec_wake_of_ready {s u : State} {dt : Nat} {src : WakeSource} (hu : u = s.advance dt) (ha : u.alive = true)
    (ht : u.thermal.trip = none) :
    exec (.wake dt src) s =
      .next (if (u.wakeFires src).returning then (u.wakeFires src).reachActive else u.wakeFires src) := by
  subst hu
  exact congrArg Host.Outcome.next (if_pos (by rw [ha, ht]; rfl))

/-- A device that wakes from IDLE or STANDBY returns. -/
theorem returning_of_waking {s : State} (hs : s.fld .PWR_STATE_STATE ≠ 0) (hw : s.power.waking = true) :
    s.returning = true := by
  unfold State.returning
  simp [hs, hw]

theorem wakeFires_of_disabled {s : State} {src : WakeSource} (h : s.wakeEnabled src = false) : s.wakeFires src = s :=
  if_pos (by rw [h]; rfl)

/-- Settles O47: POWER_STATE by the cases of the present state, POWER_STATE_ENTRY by `powerStateEntry_spec`, and WAKE by
`reachActive_spec` and `abortSleep_spec`. -/
theorem powerStatesAreEnteredAndLeft : Obligations.PowerStatesAreEnteredAndLeft := by
  refine ⟨fun s d h ha => ⟨fun hs hr => ?_, fun hs hr => ?_⟩, fun s dt r => ?_, fun s dt src => ?_⟩
  · have hpost : Posted s (s.finishMbox .ok 0) := (Posted.refl s).finishMbox
    exact ⟨_, exec_powerState_of_same h ha hs hr, rfl, (congrArg State.power hpost :), hpost.regs⟩
  · refine ⟨_, exec_powerState_of_other h ha hs hr, ?_⟩
    obtain ⟨hrun, hpower, hrings, hregs⟩ := stopIfRun_spec (askPower s (bytesAt d 20 4))
    have hexec : ((askPower s (bytesAt d 20 4)).ring mboxSq).executing = true := executing_startHead s mboxSq
    split
    · next h0 => exact ⟨hexec, rfl, fun h1 => absurd h0 h1, fun _ _ => rfl⟩
    · refine ⟨?_, ?_, fun _ => ⟨(flag_setFlag_apart _ true (by decide)).trans hrun, flag_setFlag_bit _ true⟩, fun a hx => ?_⟩
      · exact (congrArg (fun r => (Store.get (fun _ => Ring.init) r mboxSq).executing) hrings).trans hexec
      · exact congrArg Power.request hpower
      · exact (reg_setFlag_ne _ true fun e => hx (.inr e)).trans (hregs a fun e => hx (.inl e))
  · intro u ha hr ht hw hs
    exact ⟨_, exec_powerStateEntry_of_settled rfl ha hr ht hw hs, powerStateEntry_spec u ht rfl⟩
  · intro u ha ht
    refine ⟨fun he hs => ?_, fun he hs hp => ?_, fun he hr => ?_⟩
    · obtain ⟨hcode, hstate, -⟩ := wokenState_spec u src
      have hfire := wakeFires_of_enabled he ha (.inl hs)
      rw [if_neg hs] at hfire
      have hret : (u.wakeFires src).returning = true := by
        rw [hfire]
        exact returning_of_waking (fun h => hs (hstate.symm.trans h)) rfl
      obtain ⟨hactive, hsrc, hwaking⟩ := reachActive_spec (u.wakeFires src)
      refine ⟨_, (exec_wake_of_ready rfl ha ht).trans (congrArg Host.Outcome.next (if_pos hret)), hactive, ?_, hwaking⟩
      rw [hsrc, hfire]
      exact hcode
    · have hfire := wakeFires_of_enabled he ha (.inr hp)
      rw [if_pos hs, wokenState, if_pos hp] at hfire
      obtain ⟨hpower, hpending, hstate, hcount, hregs⟩ := abortSleep_spec (u.setFld .PWR_WAKE_SRC_SRC (wakeCode src))
      have hzero : (u.wakeFires src).fld .PWR_STATE_STATE = 0 := by
        rw [hfire, hstate, fld_setFld_ne u _ (by decide), hs]
      have hret : (u.wakeFires src).returning = false := by
        unfold State.returning
        rw [hzero]
        rfl
      refine ⟨_, (exec_wake_of_ready rfl ha ht).trans (congrArg Host.Outcome.next (if_neg (by rw [hret]; decide))), ?_, ?_, ?_, ?_, hzero⟩
      · rw [hfire, hpower]
      · rw [hfire, hpending]
      · rw [hfire, hregs.fld (f := .PWR_WAKE_SRC_SRC) (by decide)]
        exact (fld_setFld_self u .PWR_WAKE_SRC_SRC _ (by decide) (by decide)).trans (Nat.mod_eq_of_lt (wakeCode_lt src))
      · rw [hfire, hcount, fld_setFld_ne u _ (by decide)]
    · refine (exec_wake_of_ready rfl ha ht).trans (congrArg Host.Outcome.next ?_)
      rw [wakeFires_of_disabled he, if_neg (by rw [hr]; decide)]

end Sys2Proof.Safety
end

section
/-! PROOF. The I3C target and the JTAG port (O54). -/

namespace Sys2Proof.Safety

open Sys2Proof.Machine

/-! ## The target's answers -/

theorem i3cDirect_of_addressed {s : State} (h : s.i3cAddressed = true) (f : State → State) : s.i3cDirect f = f s := if_pos h

theorem i3cDirect_of_silent {s : State} (h : s.i3cAddressed = false) (f : State → State) : s.i3cDirect f = s :=
  if_neg (by rw [h]; decide)

theorem i3cPrivate_of_addressed {s : State} (h : s.i3cAddressed = true) (hr : s.nvm.rights ≠ 5) (f : State → State) :
    s.i3cPrivate f = f s := if_pos (by simp [h, hr])

theorem i3cPrivate_of_silent {s : State} (h : s.i3cAddressed = false) (f : State → State) : s.i3cPrivate f = s :=
  if_neg (by simp [h])

theorem i3cPrivate_of_scrapped {s : State} (h : s.nvm.rights = 5) (f : State → State) : s.i3cPrivate f = s :=
  if_neg (by simp [h])

/-- A read that answers `bs` changes what a read returns, and nothing else. -/
theorem answers_of_exec {c : Instr} {s : State} {bs : List Byte} (h : exec c s = .next (s.i3cAnswer bs)) :
    ∃ t, exec c s = .next t ∧ t.rbytes = bs ∧ t = { s with rbytes := t.rbytes } := ⟨_, h, rfl, rfl⟩

/-- A directed code is answered where the target holds an address. -/
theorem answers_of_direct {c : Instr} {s : State} {bs : List Byte} (h : s.i3cAddressed = true)
    (hc : exec c s = .next (s.i3cDirect fun s => s.i3cAnswer bs)) :
    ∃ t, exec c s = .next t ∧ t.rbytes = bs ∧ t = { s with rbytes := t.rbytes } :=
  answers_of_exec (hc.trans (congrArg Host.Outcome.next (i3cDirect_of_addressed h _)))

/-- A command beside the directed codes is answered where the part is not SCRAPPED. -/
theorem answers_of_private {c : Instr} {s : State} {f : State → State} {bs : List Byte} (h : s.i3cAddressed = true)
    (hr : s.nvm.rights ≠ 5) (hc : exec c s = .next (s.i3cPrivate f)) (hf : f s = s.i3cAnswer bs) :
    ∃ t, exec c s = .next t ∧ t.rbytes = bs ∧ t = { s with rbytes := t.rbytes } :=
  answers_of_exec (hc.trans (congrArg Host.Outcome.next ((i3cPrivate_of_addressed h hr _).trans hf)))

/-! ## Wake and request -/

/-- The wake source I3C, from IDLE or STANDBY. -/
theorem wakeFires_i3c {s : State} (he : s.flag .PWR_WAKE_EN_I3C = true) (hr : s.inReset = false) (ho : s.off = false)
    (hs : s.fld .PWR_STATE_STATE ≠ 0) :
    (s.wakeFires .i3c).power.waking = true ∧ (s.wakeFires .i3c).fld .PWR_WAKE_SRC_SRC = 6 := by
  have ha : s.alive = true := by rw [State.alive, hr, ho]; rfl
  rw [wakeFires_of_enabled (show s.wakeEnabled .i3c = true from he) ha (.inl hs), if_neg hs]
  exact ⟨rfl, (wokenState_spec s .i3c).1⟩

/-- What a wake source changes of the registers. -/
theorem wakeFires_regs (s : State) (src : WakeSource) :
    RegsKept s (s.wakeFires src) (fun a => a = Reg.PWR_WAKE_SRC ∨ a = Reg.PWR_STATE ∨ a = Reg.PWR_SLEEP_ABORT) := by
  obtain ⟨-, -, hk⟩ := wokenState_spec s src
  have hw : RegsKept s ({ wokenState s src with power := { (wokenState s src).power with waking := true } })
      (fun a => a = Reg.PWR_WAKE_SRC ∨ a = Reg.PWR_STATE ∨ a = Reg.PWR_SLEEP_ABORT) := hk
  exact (RegsKept.refl s _).branch ((RegsKept.refl s _).branch (hk.branch hw))

/-- A request: its word, its source and its wake. -/
theorem i3cRequest_spec (s : State) (arg : Word) {t : State}
    (ht : t = ((s.setReg Reg.SEC_I3C_REQ arg).raise 42).wakeFires .i3c) (hi : s.icxStopped = false)
    (hm : s.flag (icxPlace 0 42) = false) :
    t.reg Reg.SEC_I3C_REQ = arg ∧ t.flag (icxPlace 1 42) = true ∧
      (s.flag .PWR_WAKE_EN_I3C = true → s.inReset = false → s.off = false → s.fld .PWR_STATE_STATE ≠ 0 →
        t.power.waking = true ∧ t.fld .PWR_WAKE_SRC_SRC = 6) := by
  obtain ⟨v, hv⟩ : ∃ v, v = s.setReg Reg.SEC_I3C_REQ arg := ⟨_, rfl⟩
  have hk : RegsKept s v (· = Reg.SEC_I3C_REQ) := hv ▸ (RegsKept.refl s _).setReg rfl
  have hq : Quiet v (v.raise 42) := (Quiet.refl v).raise (by decide)
  have hfld (f : Fld) (h1 : ¬ EventReg f.addr) (h2 : f.addr ≠ Reg.SEC_I3C_REQ) : (v.raise 42).fld f = s.fld f :=
    (hq.fld h1).trans (hk.fld h2)
  have hstop : v.icxStopped = false := by rw [← hi, hv]; unfold State.icxStopped; rw [fld_setReg_ne s arg (by decide)]; rfl
  have hreg : v.reg Reg.SEC_I3C_REQ = arg := hv ▸ reg_setReg_self s _ arg
  have hpend : (v.raise 42).flag (icxPlace 1 42) = true := by
    rw [flag_congr (raise_unmasked hstop ((hk.flag (by decide)).trans hm))]
    exact flag_setFlag_self _ _ true rfl (by decide)
  have hrest : (v.raise 42).inReset = s.inReset ∧ (v.raise 42).off = s.off :=
    ⟨(congrArg State.inReset hq.rest :).trans (hv ▸ rfl), (congrArg State.off hq.rest :).trans (hv ▸ rfl)⟩
  have hw := wakeFires_regs (v.raise 42) .i3c
  rw [← hv] at ht
  subst ht
  refine ⟨(hw _ (by decide)).trans ((hq.regs _ (by unfold EventReg; decide)).trans hreg), (hw.flag (by decide)).trans hpend,
    fun he hr ho hs => wakeFires_i3c ?_ (hrest.1.trans hr) (hrest.2.trans ho) ?_⟩
  · exact (congrArg (· == 1) (hfld .PWR_WAKE_EN_I3C (by unfold EventReg; decide) (by decide))).trans he
  · rw [hfld .PWR_STATE_STATE (by unfold EventReg; decide) (by decide)]
    exact hs

/-! ## JTAG -/

theorem burn_of_factory (s : State) {x : Nat} (h : x ≠ 5) :
    s.burn x = { s with nvm := { s.nvm with lifecycle := x } } := if_neg h

theorem exec_jtag_idcode (s : State) : exec (.jtagInstruction .idcode) s = .next s.idcodeOut := rfl

/-- IDCODE is read where TDO drives, which it does where the device lives. -/
theorem idcodeOut_eq (s : State) : s.idcodeOut =
    { s with jtag := .idcode, tap := .runTestIdle, rdata := if s.alive then BitVec.ofNat 32 idcodeWord else s.rdata } := by
  have hdriven : ({ s.jtagTakes .idcode with tap := .shiftDr } : State).tdoDriven = s.alive := Bool.and_true _
  unfold State.idcodeOut
  dsimp only
  rw [hdriven]
  cases s.alive
  · rfl
  · rfl

/-- The address and the event bits. -/
theorem i3c_codes (s : State) (a : BitVec 7) (e : Byte) (hon : s.i3cOn = true) :
    (s.i3c.addr = none →
      exec (.entdaa a) s = .next { s with i3c := { s.i3c with addr := some a } } ∧
      exec (.setdasa a) s = .next { s with i3c := { s.i3c with addr := some a } }) ∧
    exec .rstdaa s = .next { s with i3c := { s.i3c with addr := none } } ∧
    exec (.enec e) s = .next { s with i3c := { s.i3c with events := s.i3c.events ||| e } } ∧
    exec (.disec e) s = .next { s with i3c := { s.i3c with events := s.i3c.events &&& ~~~e } } := by
  have hfree (hn : s.i3c.addr = none) : (s.i3cOn && s.i3c.addr.isNone) = true := by rw [hon, hn]; rfl
  exact ⟨fun hn => ⟨congrArg Host.Outcome.next (if_pos (hfree hn)), congrArg Host.Outcome.next (if_pos (hfree hn))⟩,
    congrArg Host.Outcome.next (if_pos hon), congrArg Host.Outcome.next (if_pos hon), congrArg Host.Outcome.next (if_pos hon)⟩

/-- What a target with an address answers in every life-cycle state. -/
theorem i3c_public_reads {s : State} (h : s.i3cAddressed = true) :
    ∀ c ∈ [(Instr.getpid, (leBytes 6 Config.i3cPid.toNat).reverse), (.getbcr, [Config.i3cBcr]), (.getdcr, [Config.i3cDcr]),
        (.getmrl, (leBytes 2 Config.i3cMrl.toNat).reverse), (.getmwl, (leBytes 2 Config.i3cMwl.toNat).reverse),
        (.i3cId, leBytes 1 Config.variantBit ++ leBytes 1 Config.stepping.toNat ++ leBytes 1 s.nvm.lifecycle ++ [0] ++
          leBytes 8 Config.serial.toNat ++ leBytes 4 (s.reg Reg.HIF_CFG_TAG).toNat)],
      ∃ t, exec c.1 s = .next t ∧ t.rbytes = c.2 ∧ t = { s with rbytes := t.rbytes } := by
  simp only [List.forall_mem_cons]
  exact ⟨answers_of_direct h rfl, answers_of_direct h rfl, answers_of_direct h rfl, answers_of_direct h rfl,
    answers_of_direct h rfl, answers_of_exec (congrArg Host.Outcome.next (i3cDirect_of_addressed h _)),
    fun _ hc => absurd hc List.not_mem_nil⟩

/-- What a target with an address answers beside these where the part is not SCRAPPED. -/
theorem i3c_private_reads {s : State} (h : s.i3cAddressed = true) (hr : s.nvm.rights ≠ 5) :
    ∀ c ∈ [(Instr.i3cStatus, leBytes 1 (s.fld .PWR_STATE_STATE) ++ leBytes 1 (s.fld .HIF_READY_READY) ++
          leBytes 1 (s.fld .HIF_STAT_RUNNING) ++ leBytes 1 (s.reg Reg.THM_STAT).toNat ++
          leBytes 2 (s.fld .THM_HOT_TEMP) ++ leBytes 1 s.nvm.shutCause ++ leBytes 1 (s.fld .BIST_STAT_DEV_FAIL)),
        (.i3cTemps, (List.range 12).flatMap fun n => leBytes 2 (s.fld (.THM_SITE_TEMP n))),
        (.i3cTick, leBytes 6 s.lastTick ++ leBytes 4 s.cfgTag.toNat ++ leBytes 4 (s.fld .HIF_GEN_GEN)),
        (.i3cFault, leBytes 4 (bytesAt s.newestFault 0 4) ++ s.newestFault)],
      ∃ t, exec c.1 s = .next t ∧ t.rbytes = c.2 ∧ t = { s with rbytes := t.rbytes } := by
  simp only [List.forall_mem_cons]
  exact ⟨answers_of_private h hr rfl rfl, answers_of_private h hr rfl rfl, answers_of_private h hr rfl rfl,
    answers_of_private h hr rfl rfl, fun _ hc => absurd hc List.not_mem_nil⟩

/-- Settles O54: each command by what it answers (`i3c_codes`, `i3c_public_reads`, `i3c_private_reads`,
`i3cRequest_spec`), and by the cases that it does not answer. -/
theorem sidebandTargetsAnswer : Obligations.SidebandTargetsAnswer := by
  refine ⟨fun s a e hon => ?_, fun s h => ⟨i3c_public_reads h, ?_, fun hr => ⟨i3c_private_reads h hr, ?_, fun arg hi hm => ?_⟩,
    fun hr arg => ?_⟩, fun s arg h => ?_, fun s => ⟨?_, ?_, ?_, fun x hx => ?_, fun x hx => ?_⟩⟩
  · obtain ⟨htake, hrst, henec, hdisec⟩ := i3c_codes s a e hon
    exact ⟨fun hn => ⟨⟨_, (htake hn).1, rfl, rfl⟩, ⟨_, (htake hn).2, rfl, rfl⟩⟩, ⟨_, hrst, rfl, rfl⟩,
      ⟨_, henec, fun i _ => BitVec.getLsbD_or, rfl, rfl⟩, ⟨_, hdisec, fun i hi => by simp [hi], rfl, rfl⟩⟩
  · exact ⟨_, congrArg Host.Outcome.next (i3cDirect_of_addressed h _), length_leBytes 2 _, rfl⟩
  · exact fun he hreset hoff hs =>
      ⟨_, congrArg Host.Outcome.next (i3cPrivate_of_addressed h hr _), wakeFires_i3c he hreset hoff hs⟩
  · exact ⟨_, congrArg Host.Outcome.next (i3cPrivate_of_addressed h hr _), i3cRequest_spec s arg rfl hi hm⟩
  · have hsilent (f : State → State) := i3cPrivate_of_scrapped hr f
    simp only [List.forall_mem_cons]
    exact ⟨congrArg Host.Outcome.next (hsilent _), congrArg Host.Outcome.next (hsilent _),
      congrArg Host.Outcome.next (hsilent _), congrArg Host.Outcome.next (hsilent _),
      congrArg Host.Outcome.next (hsilent _), congrArg Host.Outcome.next (hsilent _), fun _ hc => absurd hc List.not_mem_nil⟩
  · have hd (f : State → State) : (.next (s.i3cDirect f) : Host.Outcome State Fault Refusal) = .next s :=
      congrArg _ (i3cDirect_of_silent h f)
    have hp (f : State → State) : (.next (s.i3cPrivate f) : Host.Outcome State Fault Refusal) = .next s :=
      congrArg _ (i3cPrivate_of_silent h f)
    simp only [List.forall_mem_cons]
    exact ⟨hd _, hd _, hd _, hd _, hd _, hd _, hd _, hp _, hp _, hp _, hp _, hp _, hp _, fun _ hc => absurd hc List.not_mem_nil⟩
  · refine ⟨_, exec_jtag_idcode s, ?_⟩
    rw [idcodeOut_eq]
    exact ⟨rfl, rfl, rfl, rfl⟩
  · simp only [List.forall_mem_cons]
    exact ⟨rfl, rfl, rfl, fun _ hc => absurd hc List.not_mem_nil⟩
  · have hg : s.jtagGranted = true ↔ s.nvm.rights = 1 ∨ s.nvm.rights = 4 := by simp [State.jtagGranted]
    simp only [List.forall_mem_cons, ← hg]
    exact ⟨rfl, rfl, fun _ hc => absurd hc List.not_mem_nil⟩
  · have hok : s.factoryOk x.val = true := by
      unfold State.factoryOk
      rcases hx with ⟨hl, rfl⟩ | ⟨hl, rfl⟩ <;> simp [hl]
    have hne : x.val ≠ 5 := by rcases hx with ⟨-, rfl⟩ | ⟨-, rfl⟩ <;> decide
    refine ⟨_, congrArg Host.Outcome.next (if_pos hok), ?_⟩
    rw [burn_of_factory s hne]
    exact ⟨rfl, rfl, rfl⟩
  · refine congrArg Host.Outcome.next (if_neg fun hok => hx ?_)
    simpa [State.factoryOk, Fin.ext_iff] using hok

end Sys2Proof.Safety
end

section
/-! PROOF. The interrupt controller: claims, completions, words, the lock and the windows (O55). -/

namespace Sys2Proof.Safety

-- The many small side goals below, elaborated in parallel, would take more threads than the memory limit allows.
set_option Elab.async false

open Sys2Proof.Machine

/-! ## Targets -/

theorem target_setTarget_self (x : Icx) (t : Nat) (v : IcxTarget) : (x.setTarget t v).target t = v := by
  unfold Icx.setTarget Icx.target
  split
  · rfl
  · split <;> rfl

/-- A target whose asserted flag alone is written: what is active at every target stays. -/
theorem held_setAsserted (x : Icx) (t k : Nat) (b : Bool) :
    ((x.setTarget t { x.target t with asserted := b }).target k).active = (x.target k).active ∧
    ((x.setTarget t { x.target t with asserted := b }).target k).fast = (x.target k).fast := by
  unfold Icx.setTarget Icx.target
  split
  · split
    · exact ⟨rfl, rfl⟩
    · split <;> exact ⟨rfl, rfl⟩
  · split
    · split
      · exact ⟨rfl, rfl⟩
      · split <;> exact ⟨rfl, rfl⟩
    · split
      · exact ⟨rfl, rfl⟩
      · split <;> exact ⟨rfl, rfl⟩

theorem windows_setTarget (x : Icx) (t : Nat) (v : IcxTarget) : (x.setTarget t v).windows = x.windows := by
  unfold Icx.setTarget
  split
  · rfl
  · split <;> rfl

/-- `t` has the registers, the claim windows and the active sources of `s`. -/
structure SameHeld (s t : State) : Prop where
  regs : t.regs = s.regs
  windows : t.icx.windows = s.icx.windows
  active : ∀ k, (t.icx.target k).active = (s.icx.target k).active
  fast : ∀ k, (t.icx.target k).fast = (s.icx.target k).fast

theorem SameHeld.refl (s : State) : SameHeld s s := ⟨rfl, rfl, fun _ => rfl, fun _ => rfl⟩

theorem SameHeld.branch {s₀ s t : State} {c : Prop} {inst : Decidable c} (hs : SameHeld s₀ s) (ht : SameHeld s₀ t) :
    SameHeld s₀ (if c then s else t) := by split <;> assumption

section
variable {s₀ s : State} (h : SameHeld s₀ s)
include h

theorem SameHeld.setAsserted {t b} : SameHeld s₀ (s.setIcxTarget t { s.icx.target t with asserted := b }) :=
  ⟨h.regs, (windows_setTarget ..).trans h.windows, fun k => (held_setAsserted s.icx t k b).1.trans (h.active k),
    fun k => (held_setAsserted s.icx t k b).2.trans (h.fast k)⟩
theorem SameHeld.assertTarget {u t} : SameHeld s₀ (s.assertTarget u t) := branch h.setAsserted h
theorem SameHeld.settleAsserted {t} : SameHeld s₀ (s.settleAsserted t) := branch h.setAsserted h
theorem SameHeld.post {t} (ht : Posted s t) : SameHeld s₀ t :=
  have hx : t.icx = s.icx := (congrArg State.icx ht :)
  ⟨ht.regs.trans h.regs, (congrArg Icx.windows hx).trans h.windows, fun k => (congrArg (fun x => (Icx.target x k).active) hx).trans (h.active k),
    fun k => (congrArg (fun x => (Icx.target x k).fast) hx).trans (h.fast k)⟩
theorem SameHeld.hostDue : SameHeld s₀ s.hostDue := h.post (Posted.refl s).hostDue
omit h in
/-- What is signalled of a change leaves the change itself. -/
theorem SameHeld.icxChange (s : State) (f : State → State) : SameHeld (f s) (s.icxChange f) :=
  have h1 := (SameHeld.refl (f s)).assertTarget.assertTarget.assertTarget
  branch h1.hostDue h1

end

/-! ## Claims -/

/-- A pending bit clears, and nothing else of the registers. -/
theorem clearPending_spec (s : State) (src : Nat) : (s.clearPending src).regs = (s.setFlag (icxPlace 1 src) false).regs ∧
    ∀ k, (s.clearPending src).icx.target k = s.icx.target k := ⟨rfl, fun _ => rfl⟩

theorem icxPlace_bit (kind src : Nat) (hs : src ≤ 272) : (icxPlace kind src).lo = (icxPlace kind src).hi ∧
    (icxPlace kind src).hi < 32 := by
  unfold icxPlace
  split
  · exact ⟨rfl, Nat.mod_lt _ (by decide)⟩
  · exact ⟨rfl, by dsimp only; omega⟩

theorem le_of_mem_icxNormal {n : Nat} (h : n ∈ icxNormal) : n ≤ 272 := le_of_mem_icx (List.mem_append.mpr (.inr h))
theorem le_of_mem_icxFast {n : Nat} (h : n ∈ icxFast) : n ≤ 272 := le_of_mem_icx (List.mem_append.mpr (.inl h))

/-- A claim of the normal bank: the lowest eligible source, which is then active and pending no more. -/
theorem claimNormal_some {s : State} {t src : Nat} (h : icxNormal.find? (s.eligible t) = some src) :
    (s.claimNormal t).1 = src ∧ ((s.claimNormal t).2.icx.target t).active = src :: (s.icx.target t).active ∧
    (s.claimNormal t).2.flag (icxPlace 1 src) = false ∧ RegsKept s (s.claimNormal t).2 (· = (icxPlace 1 src).addr) := by
  unfold State.claimNormal
  rw [h]
  dsimp only
  obtain ⟨hregs, -, hactive, -⟩ := (SameHeld.icxChange s fun s => (s.clearPending src).setIcxTarget t
    { (s.clearPending src).icx.target t with
      active := src :: ((s.clearPending src).icx.target t).active
      claims := src :: ((s.clearPending src).icx.target t).claims }).settleAsserted (t := t)
  obtain ⟨hlo, hhi⟩ := icxPlace_bit 1 src (le_of_mem_icxNormal (List.mem_of_find?_eq_some h))
  refine ⟨rfl, (hactive t).trans (congrArg IcxTarget.active (target_setTarget_self ..)), ?_, fun a ha => ?_⟩
  · exact (flag_congr hregs _).trans (flag_setFlag_self s _ false hlo hhi)
  · exact (reg_congr hregs a).trans (reg_setFlag_ne s false ha)

theorem claimNormal_none {s : State} {t : Nat} (h : icxNormal.find? (s.eligible t) = none) :
    (s.claimNormal t).1 = (if (s.icx.target t).asserted then 255 else 0) ∧ (s.claimNormal t).2.regs = s.regs := by
  unfold State.claimNormal
  rw [h]
  exact ⟨rfl, (SameHeld.refl s).settleAsserted.regs⟩

/-- A claim of the fast bank. -/
theorem claimFast_some {s : State} {t src : Nat} (h : icxFast.find? (s.fastClaimable t) = some src) :
    (s.claimFast t).1 = src - 256 ∧ ((s.claimFast t).2.icx.target t).fast = src :: (s.icx.target t).fast ∧
    (s.claimFast t).2.flag (icxPlace 1 src) = false ∧ RegsKept s (s.claimFast t).2 (· = (icxPlace 1 src).addr) := by
  unfold State.claimFast
  rw [h]
  dsimp only
  obtain ⟨hregs, -, -, hfast⟩ := (SameHeld.icxChange s fun s => (s.clearPending src).setIcxTarget t
    { (s.clearPending src).icx.target t with
      fast := src :: ((s.clearPending src).icx.target t).fast
      claims := src :: ((s.clearPending src).icx.target t).claims }).settleAsserted (t := t)
  obtain ⟨hlo, hhi⟩ := icxPlace_bit 1 src (le_of_mem_icxFast (List.mem_of_find?_eq_some h))
  refine ⟨rfl, (hfast t).trans (congrArg IcxTarget.fast (target_setTarget_self ..)), ?_, fun a ha => ?_⟩
  · exact (flag_congr hregs _).trans (flag_setFlag_self s _ false hlo hhi)
  · exact (reg_congr hregs a).trans (reg_setFlag_ne s false ha)

/-! ## Completions -/

theorem completeNormal_held {s : State} {t src : Nat} (h : (s.icx.target t).active.contains src = true) :
    ((s.completeNormal t src).icx.target t).active = (s.icx.target t).active.erase src ∧
    (s.completeNormal t src).regs = s.regs := by
  unfold State.completeNormal
  rw [if_pos h]
  obtain ⟨hregs, -, hactive, -⟩ := SameHeld.icxChange s fun s => s.setIcxTarget t
    { s.icx.target t with active := (s.icx.target t).active.erase src, claims := (s.icx.target t).claims.erase src }
  exact ⟨(hactive t).trans (congrArg IcxTarget.active (target_setTarget_self ..)), hregs⟩

theorem completeNormal_other {s : State} {t src : Nat} (h : (s.icx.target t).active.contains src = false) :
    s.completeNormal t src = s.count .ICX_ERR_BAD_CPL 1 := if_neg (by rw [h]; decide)

theorem popFast_spec (s : State) (t : Nat) :
    ((s.popFast t).icx.target t).fast = (s.icx.target t).fast.tail ∧ (s.popFast t).regs = s.regs := by
  have h := SameHeld.icxChange s fun s => s.setIcxTarget t
    { s.icx.target t with fast := (s.icx.target t).fast.tail, claims := (s.icx.target t).claims.erase ((s.icx.target t).fast.headD 0) }
  have hp : SameHeld _ (s.popFast t) := h.hostDue.branch h
  exact ⟨(hp.fast t).trans (congrArg IcxTarget.fast (target_setTarget_self ..)), hp.regs⟩

theorem completeFastCharged_top {s : State} {t n : Nat} (h : (s.icx.target t).fast.head? = some (256 + n)) :
    s.completeFastCharged t n = s.popFast t := by
  unfold State.completeFastCharged State.completeFast
  simp [h]

/-! ## Faults of the ICX

A completion out of order raises a fast source and is charged; neither moves what the targets hold. -/

/-- The registers that count what completes wrongly. -/
abbrev ClaimReg (a : Nat) : Prop := a = Reg.ICX_ERR ∨ a = Reg.ICX_HSTAT

/-- `s` has the fast stacks of `s₀`, and counts what it counts of wrong completions. -/
structure SameClaims (s₀ s : State) : Prop where
  fast : ∀ k, (s.icx.target k).fast = (s₀.icx.target k).fast
  regs : ∀ a, ClaimReg a → s.reg a = s₀.reg a

theorem SameClaims.refl (s : State) : SameClaims s s := ⟨fun _ => rfl, fun _ _ => rfl⟩

theorem SameClaims.branch {s₀ s t : State} {c : Prop} {inst : Decidable c} (hs : SameClaims s₀ s) (ht : SameClaims s₀ t) :
    SameClaims s₀ (if c then s else t) := by split <;> assumption

/-- A fold over a value that carries a state. -/
theorem SameClaims.foldlOn {α β : Type} {s₀ : State} (g : α → State) {f : α → β → α} {a : α} {l : List β}
    (h : SameClaims s₀ (g a)) (hf : ∀ {a x}, SameClaims s₀ (g a) → SameClaims s₀ (g (f a x))) :
    SameClaims s₀ (g (l.foldl f a)) :=
  List.foldlRecOn l f (motive := fun a => SameClaims s₀ (g a)) h fun _ ha _ _ => hf ha

theorem not_claimReg_of {a : Nat} (h : a < 0x20800 ∨ 0x21000 ≤ a) : ¬ ClaimReg a := by
  dsimp only [ClaimReg, Reg.ICX_ERR, Reg.ICX_HSTAT]
  omega

theorem not_claimReg_place {kind src : Nat} (hk : kind ≤ 2) : ¬ ClaimReg (icxPlace kind src).addr := by
  unfold icxPlace
  split
  · dsimp only [ClaimReg, Reg.ICX_ERR, Reg.ICX_HSTAT, Reg.ICX_MASK]
    omega
  · dsimp only [ClaimReg, Reg.ICX_ERR, Reg.ICX_HSTAT, Reg.ICX_FMASK]
    omega

theorem not_claimReg_counter {src : Nat} (h : src ≤ 272) : ¬ ClaimReg (icxCounter src).addr := by
  unfold icxCounter
  split
  · dsimp only [ClaimReg, Reg.ICX_ERR, Reg.ICX_HSTAT, Reg.ICX_CNT]
    omega
  · dsimp only [ClaimReg, Reg.ICX_ERR, Reg.ICX_HSTAT, Reg.ICX_FCNT]
    omega

theorem not_claimReg_drop {n : Nat} (h : n < 32) : ¬ ClaimReg (Fld.RING_DROP_DROP n).addr := by
  dsimp only [ClaimReg, Reg.ICX_ERR, Reg.ICX_HSTAT, Reg.RING_DROP]
  omega

section
variable {s₀ s : State} (h : SameClaims s₀ s)
include h

/-- A state with the same controller, and with the same registers of it. -/
theorem SameClaims.kept {t : State} (hi : t.icx = s.icx) (hr : ∀ a, ClaimReg a → t.reg a = s.reg a) : SameClaims s₀ t :=
  ⟨fun k => (congrArg (fun x => (Icx.target x k).fast) hi).trans (h.fast k), fun a ha => (hr a ha).trans (h.regs a ha)⟩
theorem SameClaims.post {t} (ht : Posted s t) : SameClaims s₀ t :=
  h.kept (congrArg State.icx ht :) fun a _ => reg_congr ht.regs a
theorem SameClaims.held {t} (ht : SameHeld s t) : SameClaims s₀ t :=
  ⟨fun k => (ht.fast k).trans (h.fast k), fun a ha => (reg_congr ht.regs a).trans (h.regs a ha)⟩
theorem SameClaims.setReg {a v} (ha : ¬ ClaimReg a := by decide) : SameClaims s₀ (s.setReg a v) :=
  h.kept rfl fun b hb => reg_setReg_ne s v fun e : b = a => ha (e ▸ hb)
theorem SameClaims.setFld {f v} (hf : ¬ ClaimReg f.addr := by decide) : SameClaims s₀ (s.setFld f v) := h.setReg hf
theorem SameClaims.setFlag {f b} (hf : ¬ ClaimReg f.addr := by decide) : SameClaims s₀ (s.setFlag f b) := h.setReg hf
theorem SameClaims.count {f n} (hf : ¬ ClaimReg f.addr := by decide) : SameClaims s₀ (s.count f n) := h.setReg hf
theorem SameClaims.setWide {a v} (h1 : ¬ ClaimReg a := by decide) (h2 : ¬ ClaimReg (a + 4) := by decide) :
    SameClaims s₀ (s.setWide a v) := (h.setReg h1).setReg h2
theorem SameClaims.setArchive {x} : SameClaims s₀ { s with archive := x } := h.kept rfl fun _ _ => rfl
theorem SameClaims.setWindows {x} : SameClaims s₀ { s with icx := { s.icx with windows := x } } :=
  ⟨h.fast, h.regs⟩
theorem SameClaims.setLatched {x} : SameClaims s₀ { s with icx := { s.icx with latched := x } } := ⟨h.fast, h.regs⟩
theorem SameClaims.free : SameClaims s₀ s.free.2 := h.kept rfl fun _ _ => rfl
theorem SameClaims.setEvSeq {x} : SameClaims s₀ { s with evSeq := x } := h.kept rfl fun _ _ => rfl
theorem SameClaims.setPcie {x} : SameClaims s₀ { s with pcie := x } := h.kept rfl fun _ _ => rfl
omit h in
theorem SameClaims.icxChange {f} (hf : SameClaims s₀ (f s)) : SameClaims s₀ (s.icxChange f) :=
  hf.held (SameHeld.icxChange s f)
theorem SameClaims.makePending {src} : SameClaims s₀ (s.makePending src) :=
  have h1 := h.setFlag (b := true) (not_claimReg_place (kind := 1) (src := src) (by decide))
  branch h1 (branch h1.setWindows h1.setWindows)
theorem SameClaims.applyRaise {src} (hs : src ≤ 272) : SameClaims s₀ (s.applyRaise src) :=
  have h1 := h.count (n := 1) (not_claimReg_counter hs)
  branch (h1.setFlag (not_claimReg_place (by decide))) h1.makePending
theorem SameClaims.raise {src} (hs : src ≤ 272) : SameClaims s₀ (s.raise src) :=
  branch (branch h.setLatched h) (icxChange (h.applyRaise hs))
theorem SameClaims.drayFull {held} : SameClaims s₀ (s.drayFull held).2 := by
  unfold State.drayFull
  split
  · exact h.free
  · exact h
theorem SameClaims.placeItem {n bytes tick tag} (hn : n < 32) : SameClaims s₀ (s.placeItem n bytes tick tag) :=
  have h1 : SameClaims s₀ ((s.drayFull false).2.closeFlushed n) := h.drayFull.post (Posted.refl _).closeFlushed
  have h2 {size l} : SameClaims s₀ (((s.drayFull false).2.closeFlushed n).passBufs n size l) :=
    h1.post (Posted.refl _).passBufs
  have hd := not_claimReg_drop hn
  branch (h1.count hd) (branch (h1.post (Posted.refl _).putItem) (branch (h1.count hd)
    (branch (h2.count hd) (h2.post (Posted.refl _).putItem))))
theorem SameClaims.archWrap {size} : SameClaims s₀ (s.archWrap size).2 := by
  unfold State.archWrap
  extract_lets
  split
  · exact h
  · exact ((branch h (h.post (Posted.refl _).writeMem).setArchive).setFld).setWide
theorem SameClaims.writeBlock {kind cam items payload} : SameClaims s₀ (s.writeBlock kind cam items payload).2 := by
  have hf := h.free
  unfold State.writeBlock
  generalize s.free = p at hf ⊢
  dsimp only
  split
  · exact hf.count
  · exact ((hf.archWrap.post (Posted.refl _).writeMem).setWide).setArchive
theorem SameClaims.flushBlock {kind cam} : SameClaims s₀ (s.flushBlock kind cam).2 := by
  unfold State.flushBlock
  extract_lets
  split
  · exact h
  · exact h.setArchive.writeBlock
theorem SameClaims.archItem {kind cam bytes} : SameClaims s₀ (s.archItem kind cam bytes).2 := by
  have hf {c : Prop} [Decidable c] {cam} : SameClaims s₀ (if c then s.flushBlock kind cam else ([], s)).2 := by
    split
    · exact h.flushBlock
    · exact h
  unfold State.archItem
  split
  · exact hf.setArchive
  · exact h
theorem SameClaims.dropItem {kind cam} : SameClaims s₀ (s.dropItem kind cam) := by
  unfold State.dropItem
  split
  · next hn => exact h.count (not_claimReg_drop (streamRing_lt hn))
  · exact h.count
theorem SameClaims.writeItem {i} : SameClaims s₀ (s.writeItem i).2 := by
  unfold State.writeItem
  dsimp only
  split
  · next hn => exact h.archItem.placeItem (streamRing_lt hn)
  · exact h.archItem.dropItem
theorem SameClaims.handOne {i} : SameClaims s₀ (s.handOne i).2 := by
  unfold State.handOne
  split
  · exact branch h.drayFull.dropItem h.drayFull.setPcie
  · exact h.writeItem
theorem SameClaims.eventOne {e} : SameClaims s₀ (s.eventOne e).2 := by
  have h1 : SameClaims s₀ (if 1 ≤ e.code ∧ e.code ≤ 0x15 then s.raise (16 + e.code) else s) := by
    split
    · next hc => exact h.raise (by omega)
    · exact h
  exact h1.setEvSeq.handOne
theorem SameClaims.eventsN {fuel es} : SameClaims s₀ (s.eventsN fuel es) := by
  induction fuel generalizing s es with
  | zero => exact h
  | succ fuel ih =>
    cases es with
    | nil => exact h
    | cons e es =>
      refine ih ?_
      exact foldlOn Prod.snd (a := ([], s)) h fun h => h.eventOne
theorem SameClaims.event {code status source args} : SameClaims s₀ (s.event code status source args) := h.eventsN
theorem SameClaims.faultRecord {r} : SameClaims s₀ (s.faultRecord r) :=
  have hf := Filed.faultRecord s r
  h.kept (congrArg State.icx hf.rest :) fun a ha => hf.regs a fun e => absurd ha (by rw [e]; decide)
/-- Lasting faults of the ICX have no effect of their own. -/
theorem SameClaims.lastingIcx {inst unit} : SameClaims s₀ (s.lasting 11 inst unit) := by
  unfold State.lasting
  extract_lets n cls role s1 s2
  have h1 : SameClaims s₀ s1 := h.event
  have h2 : SameClaims s₀ s2 := branch h1 h1.faultRecord
  exact (h2.count : SameClaims s₀ (s2.count (.FLT_SRC_LAST_COUNT 10) 1))
theorem SameClaims.setBucket {src inst l} : SameClaims s₀ (s.setBucket src inst l) := h.kept rfl fun _ _ => rfl
theorem SameClaims.chargeIcx {inst} : SameClaims s₀ (s.charge 11 inst) := by
  unfold State.charge State.chargeFor
  have h1 : SameClaims s₀ (s.count (.FLT_SRC_EVT_COUNT (11 - 1)) 1) := h.count
  revert h1
  generalize s.count (.FLT_SRC_EVT_COUNT (11 - 1)) 1 = v
  intro h1
  dsimp only
  split
  · exact h1
  · split
    · exact h1.setBucket.lastingIcx
    · exact h1.setBucket

end

theorem completeFastCharged_other {s : State} {t n : Nat} (h : (s.icx.target t).fast.head? ≠ some (256 + n)) :
    s.completeFastCharged t n =
      (((s.setFlag .ICX_HSTAT_ORDER_ERR true).count .ICX_ERR_ORDER 1).raiseFast 16).charge 11 0 := by
  unfold State.completeFastCharged State.completeFast
  simp [h]

/-- A completion out of order is counted and shown, and moves no stack. -/
theorem completeFastCharged_order {s : State} {t n : Nat} (h : (s.icx.target t).fast.head? ≠ some (256 + n)) :
    (∀ k, ((s.completeFastCharged t n).icx.target k).fast = (s.icx.target k).fast) ∧
    (s.completeFastCharged t n).flag .ICX_HSTAT_ORDER_ERR = true ∧
    (s.completeFastCharged t n).fld .ICX_ERR_ORDER = min 255 (s.fld .ICX_ERR_ORDER + 1) := by
  rw [completeFastCharged_other h]
  have hc : SameClaims ((s.setFlag .ICX_HSTAT_ORDER_ERR true).count .ICX_ERR_ORDER 1) _ :=
    ((SameClaims.refl _).raise (src := 272) (by decide)).chargeIcx (inst := 0)
  refine ⟨hc.fast, (flag_of_reg (hc.regs _ (.inr rfl))).trans ?_, (fld_of_reg (hc.regs _ (.inl rfl))).trans ?_⟩
  · exact (flag_of_reg (reg_count_ne _ 1 (by decide))).trans (flag_setFlag_bit s true)
  · rw [fld_count_self _ .ICX_ERR_ORDER 1 (by decide) (by decide), State.setFlag, fld_setFld_ne s _ (by decide)]
    rfl

/-! ## Words -/

/-- The sources of a word. -/
theorem le_of_mem_word {w n : Nat} (h : n ∈ icxWordSources w) : n ≤ 272 := by
  unfold icxWordSources at h
  split at h
  · obtain ⟨hn, -⟩ := List.mem_filter.mp h
    obtain ⟨k, hk, rfl⟩ := List.mem_map.mp hn
    have := List.mem_range.mp hk
    omega
  · exact le_of_mem_icxFast h

theorem nodup_icxWordSources (w : Nat) : (icxWordSources w).Nodup := by
  unfold icxWordSources
  split
  · exact (List.Nodup.map (fun a b h => by simpa using h) List.nodup_range).filter _
  · exact List.Nodup.map (fun a b h => by simpa using h) List.nodup_range

/-- Two places of the ICX that share a bit are the same place. -/
theorem icxPlace_inj {k j m n : Nat} (hm : m ≤ 272) (hn : n ≤ 272) (hk : k < 3) (hj : j < 3)
    (ha : (icxPlace k m).addr = (icxPlace j n).addr) (hb : (icxPlace k m).lo = (icxPlace j n).lo) : k = j ∧ m = n := by
  unfold icxPlace at ha hb
  dsimp only [Reg.ICX_MASK, Reg.ICX_FMASK] at ha hb
  split at ha <;> split at hb <;> split at ha <;> split at hb <;> dsimp only at ha hb <;> omega

/-- A write of one bit of the ICX leaves the others. -/
theorem flag_setFlag_place (s : State) {k j m n : Nat} (b : Bool) (hm : m ≤ 272) (hn : n ≤ 272) (hk : k < 3) (hj : j < 3)
    (h : ¬ (k = j ∧ m = n)) : (s.setFlag (icxPlace j n) b).flag (icxPlace k m) = s.flag (icxPlace k m) := by
  obtain ⟨hlo, hhi⟩ := icxPlace_bit k m hm
  obtain ⟨hlo', hhi'⟩ := icxPlace_bit j n hn
  by_cases ha : (icxPlace k m).addr = (icxPlace j n).addr
  · have hb : (icxPlace k m).lo ≠ (icxPlace j n).lo := fun hb => h (icxPlace_inj hm hn hk hj ha hb)
    exact congrArg (· == 1) (fld_setFld_apart s _ ha (by omega) (by omega) (by omega))
  · exact flag_setFlag_apart s b ha

theorem flag_setFlag_place_self (s : State) {j n : Nat} (b : Bool) (hn : n ≤ 272) :
    (s.setFlag (icxPlace j n) b).flag (icxPlace j n) = b :=
  have h := icxPlace_bit j n hn
  flag_setFlag_self s _ b h.1 h.2

/-- What a write of a pending word does for one source. -/
def pendStep (v : Nat) (s : State) (src : Nat) : State :=
  if bitOf v (icxWordBit src) then s.makePending src else s.clearPending src

theorem pendStep_regs (v : Nat) (s : State) (src : Nat) :
    (pendStep v s src).regs = (s.setFlag (icxPlace 1 src) (bitOf v (icxWordBit src))).regs := by
  unfold pendStep
  split
  · next h => rw [h, regs_makePending]
  · next h => rw [eq_false_of_ne_true h]; rfl

/-- What a write of a mask word does for one source. -/
def maskStep (v : Nat) (s : State) (src : Nat) : State :=
  if !bitOf v (icxWordBit src) && (s.setFlag (icxPlace 0 src) (bitOf v (icxWordBit src))).flag (icxPlace 2 src) then
    ((s.setFlag (icxPlace 0 src) (bitOf v (icxWordBit src))).setFlag (icxPlace 2 src) false).makePending src
  else s.setFlag (icxPlace 0 src) (bitOf v (icxWordBit src))

theorem maskStep_regs (v : Nat) (s : State) {src : Nat} (hs : src ≤ 272) :
    (maskStep v s src).regs = (if bitOf v (icxWordBit src) = false ∧ s.flag (icxPlace 2 src) = true then
      ((s.setFlag (icxPlace 0 src) false).setFlag (icxPlace 2 src) false).setFlag (icxPlace 1 src) true
      else s.setFlag (icxPlace 0 src) (bitOf v (icxWordBit src))).regs := by
  unfold maskStep
  rw [flag_setFlag_place s _ hs hs (by decide) (by decide) fun h => absurd h.1 (by decide)]
  cases hb : bitOf v (icxWordBit src) with
  | true => rfl
  | false =>
    cases hf : s.flag (icxPlace 2 src) with
    | true => exact regs_makePending _ _
    | false => rfl

/-- The pending bits after a write of a pending word. -/
theorem foldl_pendStep (v : Nat) (l : List Nat) (hl : ∀ n ∈ l, n ≤ 272) (s : State) :
    (∀ m ≤ 272, (l.foldl (pendStep v) s).flag (icxPlace 1 m) =
      if m ∈ l then bitOf v (icxWordBit m) else s.flag (icxPlace 1 m)) ∧
    RegsKept s (l.foldl (pendStep v) s) (fun a => ∃ n ∈ l, a = (icxPlace 1 n).addr) := by
  induction l generalizing s with
  | nil => exact ⟨fun _ _ => rfl, .refl s _⟩
  | cons n l ih =>
    have hn : n ≤ 272 := hl n List.mem_cons_self
    obtain ⟨hflag, hkept⟩ := ih (fun k hk => hl k (List.mem_cons_of_mem n hk)) (pendStep v s n)
    refine ⟨fun m hm => (hflag m hm).trans ?_, fun a ha => (hkept a fun ⟨k, hk, e⟩ => ha ⟨k, List.mem_cons_of_mem n hk, e⟩).trans ?_⟩
    · rw [flag_congr (pendStep_regs v s n)]
      by_cases hmn : m = n
      · rw [hmn, flag_setFlag_place_self s _ hn, if_pos List.mem_cons_self, ite_self]
      · rw [flag_setFlag_place s _ hm hn (by decide) (by decide) fun h => hmn h.2]
        exact if_congr (by simp [hmn]) rfl rfl
    · rw [reg_congr (pendStep_regs v s n)]
      exact reg_setFlag_ne s _ fun e => ha ⟨n, List.mem_cons_self, e⟩

/-- The bits of a source after its step of a write of a mask word. -/
theorem maskStep_self (v : Nat) (s : State) {n : Nat} (hn : n ≤ 272) :
    (maskStep v s n).flag (icxPlace 0 n) = bitOf v (icxWordBit n) ∧
    (if bitOf v (icxWordBit n) = false ∧ s.flag (icxPlace 2 n) = true
      then (maskStep v s n).flag (icxPlace 1 n) = true ∧ (maskStep v s n).flag (icxPlace 2 n) = false
      else (maskStep v s n).flag (icxPlace 1 n) = s.flag (icxPlace 1 n) ∧
        (maskStep v s n).flag (icxPlace 2 n) = s.flag (icxPlace 2 n)) := by
  have hap {k j : Nat} {b : Bool} {u : State} (hk : k < 3) (hj : j < 3) (h : k ≠ j) :
      (u.setFlag (icxPlace j n) b).flag (icxPlace k n) = u.flag (icxPlace k n) :=
    flag_setFlag_place u b hn hn hk hj fun e => h e.1
  have hregs := maskStep_regs v s hn
  split
  · next hc =>
    rw [if_pos hc] at hregs
    simp only [flag_congr hregs]
    rw [hap (by decide) (by decide) (by decide), hap (by decide) (by decide) (by decide), flag_setFlag_place_self _ _ hn,
      flag_setFlag_place_self _ _ hn, hap (by decide) (by decide) (by decide), flag_setFlag_place_self _ _ hn]
    exact ⟨hc.1.symm, rfl, rfl⟩
  · next hc =>
    rw [if_neg hc] at hregs
    simp only [flag_congr hregs]
    exact ⟨flag_setFlag_place_self _ _ hn, hap (by decide) (by decide) (by decide), hap (by decide) (by decide) (by decide)⟩

/-- A step of a write of a mask word leaves the bits of the other sources. -/
theorem maskStep_other (v : Nat) (s : State) {n m k : Nat} (hn : n ≤ 272) (hm : m ≤ 272) (hk : k < 3) (h : m ≠ n) :
    (maskStep v s n).flag (icxPlace k m) = s.flag (icxPlace k m) := by
  have hap {j : Nat} {b : Bool} {u : State} (hj : j < 3) :
      (u.setFlag (icxPlace j n) b).flag (icxPlace k m) = u.flag (icxPlace k m) :=
    flag_setFlag_place u b hm hn hk hj fun e => h e.2
  have hregs := maskStep_regs v s hn
  rw [flag_congr hregs]
  split
  · rw [hap (by decide), hap (by decide), hap (by decide)]
  · exact hap (by decide)

theorem maskStep_kept (v : Nat) (s : State) {n : Nat} (hn : n ≤ 272) :
    RegsKept s (maskStep v s n) (fun a => ∃ k < 3, a = (icxPlace k n).addr) := by
  intro a ha
  have hap {j : Nat} {b : Bool} {u : State} (hj : j < 3) : (u.setFlag (icxPlace j n) b).reg a = u.reg a :=
    reg_setFlag_ne u b fun e => ha ⟨j, hj, e⟩
  have hregs := maskStep_regs v s hn
  rw [reg_congr hregs]
  split
  · rw [hap (by decide), hap (by decide), hap (by decide)]
  · exact hap (by decide)

/-- The bits after a write of a mask word: each source's own step decides on them. -/
theorem foldl_maskStep (v : Nat) (l : List Nat) (hl : ∀ n ∈ l, n ≤ 272) (hd : l.Nodup) (s : State) :
    (∀ m ∈ l, (l.foldl (maskStep v) s).flag (icxPlace 0 m) = bitOf v (icxWordBit m) ∧
      (if bitOf v (icxWordBit m) = false ∧ s.flag (icxPlace 2 m) = true
        then (l.foldl (maskStep v) s).flag (icxPlace 1 m) = true ∧ (l.foldl (maskStep v) s).flag (icxPlace 2 m) = false
        else (l.foldl (maskStep v) s).flag (icxPlace 1 m) = s.flag (icxPlace 1 m) ∧
          (l.foldl (maskStep v) s).flag (icxPlace 2 m) = s.flag (icxPlace 2 m))) ∧
    (∀ m ≤ 272, m ∉ l → ∀ k < 3, (l.foldl (maskStep v) s).flag (icxPlace k m) = s.flag (icxPlace k m)) ∧
    RegsKept s (l.foldl (maskStep v) s) (fun a => ∃ k < 3, ∃ n ∈ l, a = (icxPlace k n).addr) := by
  induction l generalizing s with
  | nil => exact ⟨fun _ hm => absurd hm List.not_mem_nil, fun _ _ _ _ _ => rfl, .refl s _⟩
  | cons n l ih =>
    have hn : n ≤ 272 := hl n List.mem_cons_self
    obtain ⟨hnl, hd⟩ := List.nodup_cons.mp hd
    obtain ⟨hin, hout, hkept⟩ := ih (fun k hk => hl k (List.mem_cons_of_mem n hk)) hd (maskStep v s n)
    refine ⟨fun m hm => ?_, fun m hm hml k hk => ?_, fun a ha => ?_⟩
    · rcases List.mem_cons.mp hm with rfl | hm
      · have hself := hout m hn hnl
        rw [List.foldl_cons, hself 0 (by decide), hself 1 (by decide), hself 2 (by decide)]
        exact maskStep_self v s hn
      · have hne : m ≠ n := fun e => hnl (e ▸ hm)
        have hother {k : Nat} (hk : k < 3) := maskStep_other v s hn (hl m (List.mem_cons_of_mem n hm)) hk hne
        have h := hin m hm
        rw [hother (k := 1) (by decide), hother (k := 2) (by decide)] at h
        exact h
    · exact (hout m hm (fun h => hml (List.mem_cons_of_mem n h)) k hk).trans
        (maskStep_other v s hn hm hk fun e => hml (e ▸ List.mem_cons_self))
    · exact (hkept a fun ⟨k, hk, j, hj, e⟩ => ha ⟨k, hk, j, List.mem_cons_of_mem n hj, e⟩).trans
        (maskStep_kept v s hn a fun ⟨k, hk, e⟩ => ha ⟨k, hk, n, List.mem_cons_self, e⟩)

/-! ## The lock, the windows and the counters -/

/-- The counters of two sources share no bit. -/
theorem icxCounter_apart {m n : Nat} (hm : m ≠ 256) (hn : n ≠ 256) (h : m ≠ n) :
    (icxCounter m).addr ≠ (icxCounter n).addr ∨ (icxCounter m).hi < (icxCounter n).lo ∨
      (icxCounter n).hi < (icxCounter m).lo := by
  unfold icxCounter
  by_cases h1 : m < 256
  · by_cases h2 : n < 256
    · simp only [h1, h2, if_true, Reg.ICX_CNT]; omega
    · simp only [h1, h2, if_true, if_false, Reg.ICX_CNT, Reg.ICX_FCNT]; omega
  · by_cases h2 : n < 256
    · simp only [h1, h2, if_true, if_false, Reg.ICX_CNT, Reg.ICX_FCNT]; omega
    · simp only [h1, h2, if_false, Reg.ICX_FCNT]; omega

theorem icxCounter_bits (n : Nat) : (icxCounter n).lo ≤ (icxCounter n).hi ∧ (icxCounter n).hi < 32 := by
  unfold icxCounter
  split
  · dsimp only; omega
  · dsimp only; omega

theorem fld_setFld_counter (s : State) {m n : Nat} (hm : m ≠ 256) (hn : n ≠ 256) :
    (s.setFld (icxCounter n) 0).fld (icxCounter m) = if m = n then 0 else s.fld (icxCounter m) := by
  obtain ⟨hlo, hhi⟩ := icxCounter_bits n
  split
  · next h => rw [h, fld_setFld_self s _ 0 hlo hhi, Nat.zero_mod]
  · next h =>
    rcases icxCounter_apart hm hn h with ha | hb
    · exact fld_setFld_ne s 0 ha
    · by_cases ha : (icxCounter m).addr = (icxCounter n).addr
      · exact fld_setFld_apart s 0 ha hlo hhi hb
      · exact fld_setFld_ne s 0 ha

/-- The counters that a clear names are 0, the others stay. -/
theorem foldl_clearCounters (p : Nat → Bool) (l : List Nat) (hl : 256 ∉ l) (s : State) {m : Nat} (hm : m ≠ 256) :
    (l.foldl (fun s n => if p n then s.setFld (icxCounter n) 0 else s) s).fld (icxCounter m) =
      if m ∈ l ∧ p m = true then 0 else s.fld (icxCounter m) := by
  induction l generalizing s with
  | nil => rfl
  | cons n l ih =>
    have hn : n ≠ 256 := fun e => hl (e ▸ List.mem_cons_self)
    refine (ih (fun h => hl (List.mem_cons_of_mem n h)) _).trans ?_
    dsimp only
    by_cases hp : p n = true
    · rw [if_pos hp, fld_setFld_counter s hm hn]
      by_cases hmn : m = n
      · simp [hmn, hp]
      · simp [hmn]
    · rw [if_neg hp]
      refine if_congr ?_ rfl rfl
      by_cases hmn : m = n
      · simp [hmn, hp]
      · simp [hmn]

theorem not_mem_icxNormal_256 : 256 ∉ icxNormal := by decide
theorem not_mem_icxFast_256 : 256 ∉ icxFast := by decide

/-- ICX_CNT_CLR clears the counters that it names. -/
theorem icxCntClr_spec (s : State) (v : Nat) :
    (∀ src ∈ (if bitOf v 8 then icxFast else icxNormal), (s.icxCntClr v).fld (icxCounter src) =
      if bitOf v 9 ∨ src = v % 256 + (if bitOf v 8 then 256 else 0) then 0 else s.fld (icxCounter src)) ∧
    OnlyRegs s (s.icxCntClr v) := by
  unfold State.icxCntClr
  dsimp only
  refine ⟨fun src hsrc => ?_, (OnlyRegs.refl s).foldl fun h => .branch h.setFld h⟩
  have hbank : 256 ∉ (if bitOf v 8 then icxFast else icxNormal) := by
    split
    · exact not_mem_icxFast_256
    · exact not_mem_icxNormal_256
  refine (foldl_clearCounters (fun n => bitOf v 9 || n == if bitOf v 8 = true then v % 256 + 256 else v % 256) _ hbank s
    fun e => hbank (e ▸ hsrc)).trans (if_congr ?_ rfl rfl)
  rw [and_iff_right hsrc]
  cases bitOf v 8 <;> simp

/-- A read that acts, of an accessible function. -/
theorem barRead_of_ok {s : State} {i : Nat} (h : s.barOk i = true) (f : State → Nat × State) :
    s.barRead i f = (f s).2.answer (f s).1 := if_pos h

/-- A write of RELEASE. -/
theorem lockRelease_of_holder {s : State} {t v : Nat} :
    s.lockRelease t (putBit v 1 true) = if s.fld .ICX_LOCK_HOLDER = t then s.setFld .ICX_LOCK_HOLDER 3 else s := by
  have hb : bitOf (putBit v 1 true) 1 = true := bitOf_putBit_self v 1 true
  unfold State.lockRelease
  rw [hb]
  simp only [Bool.true_and, beq_iff_eq]


theorem exec_icxPendWrite {s : State} (h : s.barOk 1 = true) (w : Fin 9) (v : Word) :
    ∃ t, exec (.icxPendWrite w v) s = .next t ∧
      (∀ src ∈ icxWordSources w.val, t.flag (icxPlace 1 src) = bitOf v.toNat (icxWordBit src)) ∧
      RegsKept s t (fun a => ∃ src ∈ icxWordSources w.val, a = (icxPlace 1 src).addr) := by
  have hx := SameHeld.icxChange s fun s => (icxWordSources w.val).foldl (pendStep v.toNat) s
  obtain ⟨hflag, hkept⟩ := foldl_pendStep v.toNat (icxWordSources w.val) (fun _ => le_of_mem_word) s
  refine ⟨_, congrArg Host.Outcome.next (pf1Write_accessible h _), fun src hsrc => ?_, fun a ha => ?_⟩
  · exact (flag_congr hx.regs _).trans ((hflag src (le_of_mem_word hsrc)).trans (if_pos hsrc))
  · exact (reg_congr hx.regs a).trans (hkept a ha)

theorem exec_icxMaskWrite {s : State} (h : s.barOk 1 = true) (w : Fin 9) (v : Word) :
    ∃ t, exec (.icxMaskWrite w v) s = .next t ∧
      (∀ src ∈ icxWordSources w.val, t.flag (icxPlace 0 src) = bitOf v.toNat (icxWordBit src) ∧
        (if bitOf v.toNat (icxWordBit src) = false ∧ s.flag (icxPlace 2 src) = true
          then t.flag (icxPlace 1 src) = true ∧ t.flag (icxPlace 2 src) = false
          else t.flag (icxPlace 1 src) = s.flag (icxPlace 1 src) ∧ t.flag (icxPlace 2 src) = s.flag (icxPlace 2 src))) ∧
      RegsKept s t (fun a => ∃ k < 3, ∃ src ∈ icxWordSources w.val, a = (icxPlace k src).addr) := by
  have hx := SameHeld.icxChange s fun s => (icxWordSources w.val).foldl (maskStep v.toNat) s
  obtain ⟨hflag, -, hkept⟩ := foldl_maskStep v.toNat (icxWordSources w.val) (fun _ => le_of_mem_word)
    (nodup_icxWordSources w.val) s
  refine ⟨_, congrArg Host.Outcome.next (pf1Write_accessible h _), fun src hsrc => ?_, fun a ha => ?_⟩
  · have hf (k : Nat) := flag_congr hx.regs (icxPlace k src)
    have hspec := hflag src hsrc
    rw [← hf 0, ← hf 1, ← hf 2] at hspec
    exact hspec
  · exact (reg_congr hx.regs a).trans (hkept a ha)

/-- Completions written by the host reach the controller. -/
theorem exec_icxHcomplete {s : State} (h : s.barOk 1 = true) (v : Word) :
    exec (.icxHcomplete v) s = .next (s.completeNormal 2 (v.toNat % 256)) :=
  congrArg Host.Outcome.next (pf1Write_accessible h _)

theorem exec_icxHfcomplete {s : State} (h : s.barOk 1 = true) (v : Word) :
    exec (.icxHfcomplete v) s = .next (s.completeFastCharged 2 (v.toNat % 256)) :=
  congrArg Host.Outcome.next (pf1Write_accessible h _)

/-! ## The lock -/

/-- The reader of the lock reaches it: the host through PF1, a Coachman where it runs. -/
def LockReach (s : State) (reader : Fin 3) : Prop := reader.val = 2 ∧ s.barOk 1 = true ∨ reader.val < 2 ∧ s.coachmanRuns = true

theorem exec_icxLockRead {s : State} {reader : Fin 3} (h : LockReach s reader) :
    exec (.icxLockRead reader) s = .next ((s.lockRead reader.val).2.answer (s.lockRead reader.val).1) := by
  refine congrArg Host.Outcome.next ?_
  rcases h with ⟨hr, hb⟩ | ⟨hr, hc⟩
  · rw [if_pos hr, hr]
    exact barRead_of_ok hb _
  · rw [if_neg (by omega), if_pos hc]

theorem exec_icxLockRelease {s : State} {reader : Fin 3} (h : LockReach s reader) (v : Word) :
    exec (.icxLockRelease reader v) s =
      .next (if s.fld .ICX_LOCK_HOLDER = reader.val then s.setFld .ICX_LOCK_HOLDER 3 else s) := by
  refine congrArg Host.Outcome.next ?_
  rcases h with ⟨hr, hb⟩ | ⟨hr, hc⟩
  · rw [if_pos hr, hr, pf1Write_accessible hb]
    exact lockRelease_of_holder
  · rw [if_neg (by omega), if_pos hc]
    exact lockRelease_of_holder

theorem fld_setHolder (s : State) {t : Nat} (h : t < 4) : (s.setFld .ICX_LOCK_HOLDER t).fld .ICX_LOCK_HOLDER = t :=
  (fld_setFld_self s .ICX_LOCK_HOLDER t (by decide) (by decide)).trans (Nat.mod_eq_of_lt h)

theorem lockRead_free {s : State} {t : Nat} (h : s.fld .ICX_LOCK_HOLDER = 3) : s.lockRead t =
    (1 + 4 * t, { s.setFld .ICX_LOCK_HOLDER t with icx := { s.icx with lockSince := s.now } }) := if_pos (by rw [h]; rfl)

theorem lockRead_held {s : State} {t : Nat} (h : s.fld .ICX_LOCK_HOLDER = t) (h3 : t ≠ 3) : s.lockRead t = (1 + 4 * t, s) := by
  unfold State.lockRead
  rw [if_neg (by simp [h, h3]), if_pos (by simp [h])]

theorem lockRead_other {s : State} {t : Nat} (h3 : s.fld .ICX_LOCK_HOLDER ≠ 3) (h : s.fld .ICX_LOCK_HOLDER ≠ t) :
    s.lockRead t = (4 * s.fld .ICX_LOCK_HOLDER, s) := by
  unfold State.lockRead
  rw [if_neg (by simp [h3]), if_neg (by simp [h])]

/-! ## The claims of the Coachmen, the time of the lock and the windows -/

theorem exec_coachmanIcxClaim {s : State} (h : s.coachmanRuns = true) (core : Fin 2) (fast : Bool) :
    exec (.coachmanIcxClaim core fast) s = .next (if fast then (s.claimFast core.val).2.answer (s.claimFast core.val).1
      else (s.claimNormal core.val).2.answer (s.claimNormal core.val).1) := by
  refine congrArg Host.Outcome.next ((if_pos h).trans ?_)
  cases fast
  · rfl
  · rfl

theorem exec_coachmanIcxComplete {s : State} (h : s.coachmanRuns = true) (core : Fin 2) (fast : Bool) (v : Word) :
    exec (.coachmanIcxComplete core fast v) s = .next (if fast then s.completeFastCharged core.val (v.toNat % 256)
      else s.completeNormal core.val (v.toNat % 256)) := congrArg Host.Outcome.next (if_pos h)

/-- A window that closes is open no more. -/
theorem windowOpen_filter (l : List (Nat × Nat)) (src : Nat) : (l.filter (·.1 != src)).any (·.1 == src) = false := by
  rw [List.any_eq_false]
  intro w hw
  simpa using (List.mem_filter.mp hw).2

/-- Settles O55: claims, completions and words by their effects, behind which `SameHeld` keeps what an assertion changes. -/
theorem interruptControllerClaimsAndCompletes : Obligations.InterruptControllerClaimsAndCompletes := by
  refine ⟨fun s hok => ⟨fun src h => ?_, fun h => ?_, fun src h => ?_, fun v h => ?_, fun v h => ?_, fun v h => ?_, fun v h => ?_,
    exec_icxPendWrite hok, exec_icxMaskWrite hok, fun v => ?_, fun v => ?_⟩,
    fun s core v hrun => ⟨fun src h => ?_, fun src h => ?_, fun h => ?_, fun h => ?_⟩,
    fun s reader v hreach => ⟨fun h => ?_, fun h => ?_, fun h3 h => ?_, fun h => ?_, fun h => ?_⟩, fun s dt src => ?_⟩
  · exact ⟨_, congrArg Host.Outcome.next (barRead_of_ok hok _), congrArg (BitVec.ofNat 32) (claimNormal_some h).1,
      (claimNormal_some h).2⟩
  · exact ⟨_, congrArg Host.Outcome.next (barRead_of_ok hok _), (congrArg (BitVec.ofNat 32) (claimNormal_none h).1).trans
      (apply_ite (BitVec.ofNat 32) _ _ _), (claimNormal_none h).2⟩
  · exact ⟨_, congrArg Host.Outcome.next (barRead_of_ok hok _), congrArg (BitVec.ofNat 32) (claimFast_some h).1,
      (claimFast_some h).2⟩
  · exact ⟨_, exec_icxHcomplete hok v, completeNormal_held (t := 2) h⟩
  · refine ⟨_, exec_icxHcomplete hok v, ?_⟩
    rw [completeNormal_other h]
    exact ⟨rfl, fld_count_self s .ICX_ERR_BAD_CPL 1 (by decide) (by decide)⟩
  · refine ⟨_, exec_icxHfcomplete hok v, ?_⟩
    rw [completeFastCharged_top (t := 2) h]
    exact popFast_spec s 2
  · obtain ⟨hfast, hshown, hcount⟩ := completeFastCharged_order (s := s) (t := 2) h
    exact ⟨_, exec_icxHfcomplete hok v, hfast 2, hshown, hcount⟩
  · exact ⟨_, congrArg Host.Outcome.next (pf1Write_accessible hok _), icxCntClr_spec s v.toNat⟩
  · exact ⟨_, congrArg Host.Outcome.next (pf1Write_accessible hok _), reg_setReg_self s _ 0, fun a ha => reg_setReg_ne s 0 ha, rfl⟩
  · obtain ⟨hval, hact, hpend, -⟩ := claimNormal_some h
    exact ⟨_, exec_coachmanIcxClaim hrun core false, congrArg (BitVec.ofNat 32) hval, hact, hpend⟩
  · obtain ⟨hval, hact, hpend, -⟩ := claimFast_some h
    exact ⟨_, exec_coachmanIcxClaim hrun core true, congrArg (BitVec.ofNat 32) hval, hact, hpend⟩
  · exact ⟨_, exec_coachmanIcxComplete hrun core false v, completeNormal_held h⟩
  · refine ⟨_, exec_coachmanIcxComplete hrun core true v, ?_⟩
    rw [if_pos rfl, completeFastCharged_top h]
    exact popFast_spec s core.val
  · refine ⟨_, exec_icxLockRead hreach, ?_⟩
    rw [lockRead_free h]
    exact ⟨fld_setHolder s (by omega), rfl, rfl⟩
  · refine ⟨_, exec_icxLockRead hreach, ?_⟩
    rw [lockRead_held h (by omega)]
    exact ⟨rfl, rfl⟩
  · refine ⟨_, exec_icxLockRead hreach, ?_⟩
    rw [lockRead_other h3 h]
    exact ⟨rfl, rfl⟩
  · refine ⟨_, exec_icxLockRelease hreach v, ?_⟩
    rw [if_pos h]
    exact ⟨fld_setHolder s (by decide), fun a ha => reg_setFld_ne s 3 ha⟩
  · rw [exec_icxLockRelease hreach v, if_neg h]
  · intro u hi
    refine ⟨fun h3 ht => ⟨_, congrArg Host.Outcome.next (if_pos (by simp [hi, h3, ht, u])), ?_, ?_⟩, fun hw =>
      ⟨_, congrArg Host.Outcome.next (if_pos (by simp only [hi, hw, u]; rfl)), ?_, ?_⟩⟩
    · exact (fld_of_reg (reg_count_ne _ 1 (by decide))).trans (fld_setHolder u (by decide))
    · rw [fld_count_self _ .ICX_ERR_LOCK_TMO 1 (by decide) (by decide), fld_setFld_ne u _ (by decide)]
      rfl
    · have hx := SameHeld.icxChange u fun s => { s with icx := { s.icx with windows := s.icx.windows.filter (·.1 != src) } }
      exact (congrArg (fun l => List.any l (·.1 == src)) hx.windows).trans (windowOpen_filter u.icx.windows src)
    · exact (SameHeld.icxChange u fun s => { s with icx := { s.icx with windows := s.icx.windows.filter (·.1 != src) } }).regs

end Sys2Proof.Safety
end

section
/-! PROOF. The firmware, owner and life-cycle commands of the mailbox (O45). -/

namespace Sys2Proof.Safety

open Sys2Proof.Machine

/-! ## Program sequences and banks -/

theorem nvmRefused_eq_false {s : State} (h : s.nvmRefused = false) : s.coldRefused = false ∧ s.thermal.trip = none := by
  obtain ⟨hc, ht⟩ := Bool.or_eq_false_iff.mp h
  exact ⟨hc, by simpa using ht⟩

/-- Where sequences are not refused, one joins the queue. -/
theorem program_of_open {s : State} (h : s.nvmRefused = false) (j : NvmJob) :
    s.program j = { s with nvm := { s.nvm with jobs := s.nvm.jobs ++ [j] } } := by
  obtain ⟨hc, ht⟩ := nvmRefused_eq_false h
  unfold State.program
  rw [if_neg (by rw [hc]; decide), if_neg (by rw [ht]; decide)]

/-- Several sequences join the queue in their order. -/
theorem foldl_program_of_open {β : Type} (f : β → NvmJob) (l : List β) {s : State} (h : s.nvmRefused = false) :
    l.foldl (fun s x => s.program (f x)) s = { s with nvm := { s.nvm with jobs := s.nvm.jobs ++ l.map f } } := by
  induction l generalizing s with
  | nil => rw [List.map_nil, List.append_nil]; rfl
  | cons x l ih =>
    rw [List.foldl_cons, program_of_open h, ih (s := { s with nvm := { s.nvm with jobs := s.nvm.jobs ++ [f x] } }) h]
    simp only [List.map_cons, List.append_assoc, List.singleton_append]

/-- The record of the banks' states. -/
def banksNote (s : State) : NvmNote := .banks s.nvm.bankA s.nvm.bankB s.nvm.confirmed

theorem journalBanks_of_open {s : State} (h : s.nvmRefused = false) :
    s.journalBanks = { s with nvm := { s.nvm with jobs := s.nvm.jobs ++
      [.record 6 ((Config.recordBody 6 s.nvm.seq (banksNote s).content).take (bodyLimit 6)) (banksNote s)] } } :=
  program_of_open h _

theorem putBank_eq (s : State) (b st : Nat) : s.putBank b st =
    { s with nvm := { s.nvm with bankA := if b = 0 then st else s.nvm.bankA, bankB := if b = 0 then s.nvm.bankB else st } } := by
  unfold State.putBank
  split
  · next h => rfl
  · next h => rfl

/-- A bank that changes its state: it has the new one, and the bank that it is not keeps its own. -/
theorem bankState_putBank (s : State) (b st k : Nat) :
    (s.putBank b st).bankState k = if (k = 0 ↔ b = 0) then st else s.bankState k := by
  rw [putBank_eq]
  unfold State.bankState
  by_cases hk : k = 0 <;> by_cases hb : b = 0 <;> simp [hk, hb]

theorem setBank_of_open {s : State} (h : s.nvmRefused = false) (b st : Nat) :
    ∃ j, s.setBank b st = { s.putBank b st with nvm := { (s.putBank b st).nvm with jobs := s.nvm.jobs ++ [j] } } ∧
      j = .record 6 ((Config.recordBody 6 s.nvm.seq (banksNote (s.putBank b st)).content).take (bodyLimit 6))
        (banksNote (s.putBank b st)) := by
  have hp : (s.putBank b st).nvmRefused = false := by
    rw [putBank_eq]
    exact h
  refine ⟨_, (journalBanks_of_open hp).trans ?_, rfl⟩
  rw [putBank_eq]

/-! ## FW_WRITE -/

/-- The state in which a chunk joins its bank's sequences. -/
def openBank (s : State) (b : Nat) : State :=
  if s.bankState b = 1 then s.startHead mboxSq
  else (List.range 384).foldl (fun s i => s.program (.erase (b * 384 + i))) ((s.startHead mboxSq).setBank b 1)

theorem exec_fwWrite_of_good {s : State} {d bs : List Byte} {b : Nat} (h : MailboxTakes s 0x85 [(8, 16)] d)
    (ho : bytesAt d 20 4 % 256 = 0) (hm : bytesAt d 16 4 % 256 = 0) (h1 : 256 ≤ bytesAt d 16 4) (h2 : bytesAt d 16 4 ≤ 16384)
    (hl : bytesAt d 20 4 + bytesAt d 16 4 ≤ 0x180000) (hb : s.inactiveBank = some b) (ht : s.coach.trial = none)
    (hr : s.nvmRefused = false) :
    exec (.fwWrite (some bs)) s = .next ((openBank s b).program
      (.chunk (b * 0x180000 + bytesAt d 20 4) (padTo (bytesAt d 16 4) bs) (.fwWrite (bytesAt d 16 4) s.waiting))) := by
  refine congrArg Host.Outcome.next ((mailbox_of_takes h).trans ?_)
  dsimp only
  rw [if_neg (by simp [ho, hm, inRange, h1, h2, bankSize, Nat.not_lt.mpr hl]), hb]
  dsimp only
  rw [if_neg (by simp [ht, hr])]
  rfl

/-- The bank of a chunk is in state 1, its record and its erasures are queued where it was not, and the other bank keeps its
state. -/
theorem openBank_spec {s : State} {b : Nat} (hb : b ≤ 1) (hr : s.nvmRefused = false) :
    (openBank s b).nvmRefused = false ∧ (openBank s b).rings = (s.startHead mboxSq).rings ∧ (openBank s b).regs = s.regs ∧
    (openBank s b).bankState b = 1 ∧ (openBank s b).bankState (1 - b) = s.bankState (1 - b) ∧
    (openBank s b).nvm.jobs = s.nvm.jobs ++ (if s.bankState b = 1 then []
      else
        let n : NvmNote := .banks (if b = 0 then 1 else s.nvm.bankA) (if b = 0 then s.nvm.bankB else 1) s.nvm.confirmed
        .record 6 ((Config.recordBody 6 s.nvm.seq n.content).take (bodyLimit 6)) n ::
          (List.range 384).map fun i => .erase (b * 384 + i)) := by
  unfold openBank
  split
  · next h1 => exact ⟨hr, rfl, rfl, h1, rfl, (List.append_nil _).symm⟩
  · obtain ⟨j, hset, hj⟩ := setBank_of_open (s := s.startHead mboxSq) hr b 1
    have hopen : ((s.startHead mboxSq).setBank b 1).nvmRefused = false := by
      rw [hset, putBank_eq]
      exact hr
    rw [foldl_program_of_open (fun i => .erase (b * 384 + i)) _ hopen, hset]
    rw [putBank_eq] at hj ⊢
    refine ⟨hr, rfl, rfl, ?_, ?_, ?_⟩
    · unfold State.bankState
      dsimp only
      split <;> rfl
    · unfold State.bankState
      dsimp only
      rcases Nat.le_one_iff_eq_zero_or_eq_one.mp hb with rfl | rfl
      · rfl
      · rfl
    · rw [hj]
      exact List.append_assoc _ _ _

/-! ## FW_ACTIVATE -/

theorem imageReason_lt (s : State) (b : Nat) : s.imageReason b < 16 := by
  unfold State.imageReason
  dsimp only
  repeat' split
  all_goals decide

theorem exec_fwActivate_of_good {s : State} {d : List Byte} {b : Nat} (h : MailboxTakes s 0x86 [] d)
    (hd : s.takeOverDue = false) (hs : s.standbyServes = true) (hb : s.inactiveBank = some b) (ht : s.coach.trial = none)
    (hr : s.nvmRefused = false) :
    exec .fwActivate s = .next (if s.imageReason b ≠ 0 then
        ((s.setFld .SEC_FW_STAT_REASON (s.imageReason b)).setBank b 5).finishMbox .sigFail 0
      else
        let s1 := ((s.startHead mboxSq).setBank b 2).bootCoach (1 - s.lead) b
        { s1 with coach := { s1.coach with restart := some (.activate s.waiting) } }) := by
  refine congrArg Host.Outcome.next ((mailbox_of_takes h).trans ?_)
  dsimp only
  rw [if_neg (by rw [hd]; decide), if_neg (by rw [hs]; decide), hb]
  dsimp only
  rw [if_neg (by simp [ht, hr])]
  simp only [bne_iff_ne]

/-- A Coachman that restarts on a bank runs it. -/
theorem coachBank_bootCoach (s : State) (u bank : Nat) : (s.bootCoach u bank).coachBank u = bank := by
  unfold State.bootCoach State.coachBank
  split
  · rfl
  · rfl

theorem bootCoach_eq (s : State) (u bank : Nat) : s.bootCoach u bank = { s with coach := (s.bootCoach u bank).coach } := by
  unfold State.bootCoach
  split <;> rfl

/-- A valid image: the bank is VERIFIED and the standby restarts on it. -/
theorem activate_valid (s : State) (b : Nat) (hr : s.nvmRefused = false) {t : State}
    (ht : t = let s1 := ((s.startHead mboxSq).setBank b 2).bootCoach (1 - s.lead) b
      { s1 with coach := { s1.coach with restart := some (.activate s.waiting) } }) :
    (t.ring mboxSq).executing = true ∧ t.bankState b = 2 ∧ t.coachBank (1 - s.lead) = b ∧
      t.coach.restart = some (.activate s.waiting) ∧ t.regs = s.regs := by
  obtain ⟨j, hset, -⟩ := setBank_of_open (s := s.startHead mboxSq) hr b 2
  have hbank := bankState_putBank (s.startHead mboxSq) b 2 b
  subst ht
  dsimp only
  refine ⟨?_, ?_, coachBank_bootCoach ((s.startHead mboxSq).setBank b 2) (1 - s.lead) b, rfl, ?_⟩
  · rw [bootCoach_eq, hset, putBank_eq]
    exact executing_startHead s mboxSq
  · rw [bootCoach_eq, hset]
    exact hbank.trans (if_pos Iff.rfl)
  · rw [bootCoach_eq, hset, putBank_eq]
    rfl

/-- An invalid image: the bank is REJECTED, and REASON says why. -/
theorem activate_invalid (s : State) (b : Nat) (hr : s.nvmRefused = false) {t : State}
    (ht : t = ((s.setFld .SEC_FW_STAT_REASON (s.imageReason b)).setBank b 5).finishMbox .sigFail 0) :
    t.fld .SEC_FW_STAT_REASON = s.imageReason b ∧ t.bankState b = 5 ∧ t.coach = s.coach ∧
      RegsKept s t (· = Reg.SEC_FW_STAT) := by
  obtain ⟨v, hv⟩ : ∃ v, v = s.setFld .SEC_FW_STAT_REASON (s.imageReason b) := ⟨_, rfl⟩
  have hopen : v.nvmRefused = false := by
    rw [hv]
    unfold State.nvmRefused State.coldRefused
    rw [flag_of_reg (reg_setFld_ne s _ (by decide))]
    exact hr
  rw [← hv] at ht
  obtain ⟨j, hset, -⟩ := setBank_of_open hopen b 5
  have hbank := bankState_putBank v b 5 b
  have hp : Posted (v.setBank b 5) t := ht ▸ (Posted.refl _).finishMbox
  have hregs : t.regs = v.regs := by
    rw [hp.regs, hset, putBank_eq]
  refine ⟨?_, ?_, ?_, fun a ha => ?_⟩
  · rw [fld_congr hregs, hv]
    exact (fld_setFld_self s .SEC_FW_STAT_REASON _ (by decide) (by decide)).trans (Nat.mod_eq_of_lt (imageReason_lt s b))
  · have hn : t.nvm = (v.setBank b 5).nvm := (congrArg State.nvm hp :)
    rw [State.bankState, hn, ← State.bankState, hset]
    exact hbank.trans (if_pos Iff.rfl)
  · refine (congrArg State.coach hp :).trans ?_
    rw [hset, putBank_eq, hv]
    rfl
  · rw [reg_congr hregs, hv]
    exact reg_setFld_ne s _ ha

/-! ## FW_CONFIRM -/

/-- The state in which a trial has ended, its bank confirmed, before the banks show it. -/
def trialEnded (s : State) : State :=
  { s with
    nvm := { s.nvm with rollback := max s.nvm.rollback (s.imageWord (s.coachBank s.lead) 8), confirmed := s.coachBank s.lead }
    coach := { s.coach with trial := none } }

/-- The banks show a trial that has ended. -/
def banksConfirmed (s : State) : State :=
  ((trialEnded s).putBank (s.coachBank s.lead) 3).putBank (1 - s.coachBank s.lead)
    (if max s.nvm.rollback (s.imageWord (s.coachBank s.lead) 8) ≤ s.imageWord (1 - s.coachBank s.lead) 8 then 2 else 0)

theorem confirmTrial_eq (s : State) : s.confirmTrial = (banksConfirmed s).journalBanks := rfl

/-- The confirmation of a trial: the banks, the rollback floor and the end of the trial; the rest but the journal stays. -/
theorem confirmTrial_spec {s : State} (hr : s.nvmRefused = false) :
    s.confirmTrial.nvm.confirmed = s.coachBank s.lead ∧
    s.confirmTrial.nvm.rollback = max s.nvm.rollback (s.imageWord (s.coachBank s.lead) 8) ∧
    s.confirmTrial.coach = { s.coach with trial := none } ∧ s.confirmTrial.bankState (s.coachBank s.lead) = 3 ∧
    s.confirmTrial.bankState (1 - s.coachBank s.lead) =
      (if max s.nvm.rollback (s.imageWord (s.coachBank s.lead) 8) ≤ s.imageWord (1 - s.coachBank s.lead) 8 then 2 else 0) ∧
    s.confirmTrial.regs = s.regs ∧ s.confirmTrial.spares = s.spares := by
  have hu : (banksConfirmed s).nvmRefused = false := by
    unfold banksConfirmed
    rw [putBank_eq, putBank_eq]
    exact hr
  have hb (k : Nat) : s.confirmTrial.bankState k = (banksConfirmed s).bankState k := by
    rw [confirmTrial_eq, journalBanks_of_open hu]
    rfl
  refine ⟨?_, ?_, ?_, ?_, ?_, ?_, ?_⟩
  case _ => rw [confirmTrial_eq, journalBanks_of_open hu]; unfold banksConfirmed; rw [putBank_eq, putBank_eq]; rfl
  case _ => rw [confirmTrial_eq, journalBanks_of_open hu]; unfold banksConfirmed; rw [putBank_eq, putBank_eq]; rfl
  case _ => rw [confirmTrial_eq, journalBanks_of_open hu]; unfold banksConfirmed; rw [putBank_eq, putBank_eq]; rfl
  case _ =>
    rw [hb, banksConfirmed, bankState_putBank, if_neg (by omega), bankState_putBank, if_pos Iff.rfl]
  case _ => rw [hb, banksConfirmed, bankState_putBank, if_pos Iff.rfl]
  case _ => rw [confirmTrial_eq, journalBanks_of_open hu]; unfold banksConfirmed; rw [putBank_eq, putBank_eq]; rfl
  case _ => rw [confirmTrial_eq, journalBanks_of_open hu]; unfold banksConfirmed; rw [putBank_eq, putBank_eq]; rfl

theorem exec_fwConfirm_of_trial {s : State} {d : List Byte} (h : MailboxTakes s 0x87 [] d) (ht : s.trialOn = true)
    (hr : s.nvmRefused = false) :
    exec .fwConfirm s = .next (if s.confirmTrial.standbyServes then
      (s.confirmTrial.startHead mboxSq).restartStandby (1 - s.lead) (.confirm s.waiting)
      else s.confirmTrial.finishMbox .ok 0) :=
  congrArg Host.Outcome.next ((mailbox_of_takes h).trans (if_neg (by rw [ht, hr]; decide)))

theorem restartStandby_spec (s : State) (u : Nat) (why : CoachWhy) : (s.restartStandby u why).nvm = s.nvm ∧
    (s.restartStandby u why).regs = s.regs ∧ (s.restartStandby u why).coach.trial = s.coach.trial ∧
    (s.restartStandby u why).coach.restart = some why := by
  unfold State.restartStandby State.bootCoach
  dsimp only
  split <;> exact ⟨rfl, rfl, rfl, rfl⟩

theorem standbyServes_congr {s t : State} (hs : t.coach.started = s.coach.started) (hr : t.regs = s.regs)
    (hp : t.spares = s.spares) : t.standbyServes = s.standbyServes := by
  have hl : t.lead = s.lead := fld_congr hr _
  unfold State.standbyServes State.unitInfo
  rw [hs, hl, hp]

/-- FW_CONFIRM confirms the trial, and the standby restarts where one serves. -/
theorem fwConfirm_spec {s t : State} (hr : s.nvmRefused = false)
    (ht : t = if s.confirmTrial.standbyServes then
      (s.confirmTrial.startHead mboxSq).restartStandby (1 - s.lead) (.confirm s.waiting)
      else s.confirmTrial.finishMbox .ok 0) :
    t.nvm.confirmed = s.coachBank s.lead ∧
    t.nvm.rollback = max s.nvm.rollback (s.imageWord (s.coachBank s.lead) 8) ∧ t.coach.trial = none ∧
    t.bankState (s.coachBank s.lead) = 3 ∧
    t.bankState (1 - s.coachBank s.lead) =
      (if max s.nvm.rollback (s.imageWord (s.coachBank s.lead) 8) ≤ s.imageWord (1 - s.coachBank s.lead) 8 then 2 else 0) ∧
    (s.standbyServes = true → t.coach.restart = some (.confirm s.waiting)) ∧ t.regs = s.regs := by
  obtain ⟨hconf, hroll, hcoach, hbank, hother, hregs, hspares⟩ := confirmTrial_spec hr
  have hserves : s.confirmTrial.standbyServes = s.standbyServes :=
    standbyServes_congr (by rw [hcoach]) hregs hspares
  have hended : s.confirmTrial.coach.trial = none := by rw [hcoach]
  obtain ⟨hn, htr, htrial, hrestart⟩ : t.nvm = s.confirmTrial.nvm ∧ t.regs = s.regs ∧ t.coach.trial = none ∧
      (s.standbyServes = true → t.coach.restart = some (.confirm s.waiting)) := by
    rw [hserves] at ht
    subst ht
    split
    · obtain ⟨hn, hrg, htr, hrs⟩ := restartStandby_spec (s.confirmTrial.startHead mboxSq) (1 - s.lead) (.confirm s.waiting)
      exact ⟨hn, hrg.trans hregs, htr.trans hended, fun _ => hrs⟩
    · next h =>
      have hp : Posted s.confirmTrial (s.confirmTrial.finishMbox .ok 0) := (Posted.refl _).finishMbox
      exact ⟨(congrArg State.nvm hp :), hp.regs.trans hregs,
        (congrArg (fun u => u.coach.trial) hp :).trans hended, fun h' => absurd h' h⟩
  have hb (k : Nat) : t.bankState k = s.confirmTrial.bankState k := by rw [State.bankState, hn, ← State.bankState]
  rw [hb, hb, hn]
  exact ⟨hconf, hroll, htrial, hbank, hother, hrestart, htr⟩

theorem le_one_of_inactiveBank {s : State} {b : Nat} (h : s.inactiveBank = some b) : b ≤ 1 := by
  unfold State.inactiveBank at h
  dsimp only at h
  split at h
  · exact absurd h (by simp)
  · have := Option.some.inj h
    omega

/-! ## OWNER_ENROLL, LIFECYCLE and refusals -/

theorem exec_ownerEnroll_of_long {s : State} {d bs : List Byte} (h : MailboxTakes s 0x88 [(8, 12)] d)
    (hl : 5421 ≤ bytesAt d 16 4) (hr : s.nvmRefused = false) :
    exec (.ownerEnroll (some bs)) s = .next (if s.ownerAccepted (padTo 5421 bs) then
      (s.startHead mboxSq).journal 7 (padTo 5421 bs)
        (.owner (if ownerRelease (padTo 5421 bs) then [] else (padTo 5421 bs).take 2048) (bytesAt (padTo 5421 bs) 4 4) s.waiting)
      else s.finishMbox .sigFail 0) := by
  refine congrArg Host.Outcome.next ((mailbox_of_takes h).trans ?_)
  dsimp only
  rw [if_neg (by omega), if_neg (by rw [hr]; decide)]

theorem burn_spec (s : State) (x : Nat) : (s.burn x).regs = s.regs ∧ (s.burn x).nvm.lifecycle = x ∧
    (x = 5 → (s.burn x).nvm.rights = 5 ∧ (s.burn x).nvm.keysErased = true) ∧
    (x ≠ 5 → (s.burn x).nvm.rights = s.nvm.rights ∧ (s.burn x).nvm.keysErased = s.nvm.keysErased) := by
  have hend (u : State) : u.endAccess.regs = u.regs ∧ u.endAccess.nvm = u.nvm := by
    unfold State.endAccess
    split
    · exact ⟨rfl, rfl⟩
    · split <;> exact ⟨rfl, rfl⟩
  by_cases hx : x = 5
  · obtain ⟨hregs, hnvm⟩ := hend { s with nvm := { s.nvm with lifecycle := 5, rights := 5, keysErased := true } }
    have hb : s.burn x = ({ s with nvm := { s.nvm with lifecycle := 5, rights := 5, keysErased := true } } : State).endAccess :=
      if_pos hx
    rw [hb, hregs, hnvm]
    exact ⟨rfl, hx.symm, fun _ => ⟨rfl, rfl⟩, fun h => absurd hx h⟩
  · rw [burn_of_factory s hx]
    exact ⟨rfl, rfl, fun h => absurd h hx, fun _ => ⟨rfl, rfl⟩⟩

/-- A mailbox command that the rights do not grant completes with LIFECYCLE_DENIED. -/
theorem mailbox_of_denied {s : State} {op : Nat} {used : List (Nat × Nat)} {d : List Byte} {f : List Byte → State → State}
    (hd : s.headFor mboxSq op = some d) (hg : mailboxGranted s.nvm.rights op = false) :
    s.mailbox op used f = s.finishMbox .lifecycleDenied 0 := by
  unfold State.mailbox
  rw [hd]
  dsimp only
  rw [hg]
  rfl

theorem denied_of_exec {s : State} {op : Nat} {used : List (Nat × Nat)} {d : List Byte} {f : List Byte → State → State}
    {c : Instr} (hc : exec c s = .next (s.mailbox op used f)) (hd : s.headFor mboxSq op = some d)
    (hg : mailboxGranted s.nvm.rights op = false) :
    ∃ t, exec c s = .next t ∧ t = s.finishMbox .lifecycleDenied 0 ∧ t.nvm = s.nvm ∧ t.regs = s.regs := by
  have hp : Posted s (s.finishMbox .lifecycleDenied 0) := (Posted.refl s).finishMbox
  exact ⟨_, hc.trans (congrArg Host.Outcome.next (mailbox_of_denied hd hg)), rfl, (congrArg State.nvm hp :), hp.regs⟩

/-- Settles O45: each command by its own lemma; a refusal by `mailbox_of_denied`. -/
theorem firmwareOwnerAndLifeCycleCommands : Obligations.FirmwareOwnerAndLifeCycleCommands := by
  intro s d
  refine ⟨fun b bs h ho hm h1 h2 hl hb ht hr => ?_, fun b h hd hs hb ht hr => ?_, fun h ht hr => ?_, fun bs h hl hr => ?_,
    fun h hr => ?_, fun h => ?_, fun data => ?_⟩
  · refine ⟨_, exec_fwWrite_of_good h ho hm h1 h2 hl hb ht hr, ?_⟩
    obtain ⟨hopen, hrings, hregs, hself, hother, hjobs⟩ := openBank_spec (le_one_of_inactiveBank hb) hr
    rw [program_of_open hopen]
    refine ⟨?_, hregs, hself, hother, congrArg (· ++ _) hjobs⟩
    exact (congrArg (fun r => (Store.get (fun _ => Ring.init) r mboxSq).executing) hrings).trans (executing_startHead s mboxSq)
  · refine ⟨_, exec_fwActivate_of_good h hd hs hb ht hr, fun h0 => ?_, fun h0 => ?_⟩
    · rw [if_neg (not_not.mpr h0)]
      exact activate_valid s b hr rfl
    · rw [if_pos h0]
      exact activate_invalid s b hr rfl
  · exact ⟨_, exec_fwConfirm_of_trial h ht hr, fwConfirm_spec hr rfl⟩
  · refine ⟨_, exec_ownerEnroll_of_long h hl hr, ?_⟩
    have hp : Posted s (s.finishMbox .sigFail 0) := (Posted.refl s).finishMbox
    cases ha : s.ownerAccepted (padTo 5421 bs) with
    | true =>
      rw [if_pos rfl, State.journal, program_of_open (s := s.startHead mboxSq) hr]
      exact ⟨rfl, rfl, fun _ => ⟨executing_startHead s mboxSq, _, rfl⟩, fun h => absurd h (by decide)⟩
    | false =>
      rw [if_neg (by decide)]
      exact ⟨(congrArg (fun u => u.nvm.owner) hp :), hp.regs, fun h => absurd h (by decide), fun _ => rfl⟩
  · refine ⟨_, congrArg Host.Outcome.next ((mailbox_of_takes h).trans (if_neg (by rw [hr]; decide))), ?_⟩
    cases ht : s.transitionOk (bytesAt d 20 4) with
    | true =>
      rw [if_pos rfl]
      obtain ⟨hregs, hlife, hscrap, hkeep⟩ := burn_spec s (bytesAt d 20 4)
      have hp : Posted (s.burn (bytesAt d 20 4)) ((s.burn (bytesAt d 20 4)).finishMbox .ok 0) := (Posted.refl _).finishMbox
      have hn : ((s.burn (bytesAt d 20 4)).finishMbox .ok 0).nvm = (s.burn (bytesAt d 20 4)).nvm := (congrArg State.nvm hp :)
      rw [hn]
      exact ⟨hp.regs.trans hregs, fun _ => ⟨hlife, hscrap, hkeep⟩, fun h => absurd h (by decide)⟩
    | false =>
      rw [if_neg (by decide)]
      have hp : Posted s (s.finishMbox .lifecycleDenied 0) := (Posted.refl s).finishMbox
      exact ⟨hp.regs, fun h => absurd h (by decide), fun _ => ⟨rfl, (congrArg State.nvm hp :)⟩⟩
  · refine ⟨_, congrArg Host.Outcome.next (mailbox_of_takes h), ?_⟩
    dsimp only
    have hp {u : State} : Posted u (u.finishMbox .ok 0) := (Posted.refl u).finishMbox
    exact ⟨hp.regs, (congrArg (fun u => u.digest.value) hp :), (congrArg (fun u => u.digest.expected) hp :)⟩
  · simp only [List.forall_mem_cons]
    exact ⟨denied_of_exec rfl, denied_of_exec rfl, denied_of_exec rfl, denied_of_exec rfl, denied_of_exec rfl,
      denied_of_exec rfl, denied_of_exec rfl, denied_of_exec rfl, denied_of_exec rfl, denied_of_exec rfl,
      denied_of_exec rfl, denied_of_exec rfl, denied_of_exec rfl, denied_of_exec rfl, denied_of_exec rfl,
      fun _ he => absurd he List.not_mem_nil⟩

end Sys2Proof.Safety
end

section
/-! PROOF. The calibration, spare and self-test commands of the mailbox (O46). -/

namespace Sys2Proof.Safety

open Sys2Proof.Machine

/-! ## The head of a ring -/

theorem executing_popHead (s : State) (n : Nat) : ((s.popHead n).ring n).executing = false :=
  congrArg Ring.executing (ring_setRing_self s n _)

theorem executing_of_sameRings {s t : State} (h : SameRings s t) (n : Nat) : (t.ring n).executing = (s.ring n).executing :=
  (congrArg Ring.executing (h n) :)

theorem executing_dropUndefined {s : State} {n : Nat} (h : (s.ring n).executing = false) (fuel : Nat) :
    ((s.dropUndefined n fuel).ring n).executing = false := by
  induction fuel generalizing s with
  | zero => exact h
  | succ fuel ih =>
    unfold State.dropUndefined
    split
    · split
      · exact h
      · exact ih ((executing_of_sameRings (SameRings.refl _).complete n).trans (executing_popHead s n))
    · exact h

/-- A head that completes runs no more. -/
theorem executing_finishHead {s : State} {n : Nat} (h : (s.ring n).fetched ≠ []) (st : Status) (r : Nat) :
    ((s.finishHead n st r).ring n).executing = false := by
  unfold State.finishHead
  split
  · next he => exact absurd he h
  · refine (executing_of_sameRings (SameRings.refl _).settleRing n).trans (executing_dropUndefined ?_ _)
    exact (executing_of_sameRings (SameRings.refl _).complete n).trans (executing_popHead s n)

theorem fetched_of_headFor {s : State} {n op : Nat} {d : List Byte} (h : s.headFor n op = some d) :
    (s.ring n).fetched ≠ [] := by
  unfold State.headFor at h
  split at h
  · next hf => rw [hf]; exact List.cons_ne_nil _ _
  · exact absurd h (by simp)

/-! ## CAL_RUN -/

/-- The run that a CAL_RUN of the items begins. -/
def newRun (s : State) (items : List Nat) : CalRun :=
  { items := items, done := 0, measured := [], results := [], events := 0, checked := false, notify := s.waiting }

/-- The state in which a CAL_RUN begins. -/
def runBegun (s : State) (items : List Nat) : State :=
  ((s.startHead mboxSq).setFlag .CAL_STAT_PRECOND false).setCalRun (newRun s items)

/-- The items that a mask names. -/
def calItems (mask : Nat) : List Nat := (List.range 7).filter fun i => bitOf mask i

theorem exec_calRun_of_takes {s : State} {d : List Byte} {meas : List Measurement} (hn : s.cal.run = none)
    (h : MailboxTakes s 0x90 [(20, 4)] d) (ha : bytesAt d 20 4 < 128) :
    exec (.calRun meas) s = .next (
      if (calItems (bytesAt d 20 4)).any (2 ≤ ·) && s.mode != serviceMode then s.finishMbox .precondition 0
      else (runBegun s (calItems (bytesAt d 20 4))).advanceCalRun (s.keptValues meas) 16) := by
  refine congrArg Host.Outcome.next ((if_neg (by rw [hn]; decide)).trans ((mailbox_of_takes h).trans ?_))
  dsimp only
  rw [if_neg (by omega)]
  rfl

theorem exec_calRun_granted {s : State} {d : List Byte} {meas : List Measurement} (hn : s.cal.run = none)
    (h : MailboxTakes s 0x90 [(20, 4)] d) (ha : bytesAt d 20 4 < 128)
    (hs : (calItems (bytesAt d 20 4)).any (2 ≤ ·) = false ∨ s.mode = 7) :
    exec (.calRun meas) s = .next ((runBegun s (calItems (bytesAt d 20 4))).advanceCalRun (s.keptValues meas) 16) := by
  refine (exec_calRun_of_takes hn h ha).trans (congrArg Host.Outcome.next (if_neg ?_))
  rcases hs with hs | hs
  · rw [hs, Bool.false_and]; decide
  · rw [hs]; simp [serviceMode]

/-- The command of a run completes with it. -/
theorem endCalRun_spec {s : State} {r : CalRun} {st : Status} (hn : r.notify = some s.mboxGen)
    (he : (s.ring mboxSq).executing = true) (hf : (s.ring mboxSq).fetched ≠ []) :
    ((s.endCalRun r st).ring mboxSq).executing = false ∧ (s.endCalRun r st).cal = { s.cal with run := none } := by
  unfold State.endCalRun
  extract_lets c s1
  have hrings : (s1.setFld .CAL_STAT_RUNNING (s1.fld .CAL_STAT_RUNNING &&& 128)).ring mboxSq = s.ring mboxSq := rfl
  have hfin : (s1.setFld .CAL_STAT_RUNNING (s1.fld .CAL_STAT_RUNNING &&& 128)).finishWaiting r.notify st r.done =
      (s1.setFld .CAL_STAT_RUNNING (s1.fld .CAL_STAT_RUNNING &&& 128)).finishMbox st r.done := by
    unfold State.finishWaiting
    refine if_pos ?_
    rw [hrings, he, hn]
    simp [s1]
  rw [hfin]
  refine ⟨executing_finishHead (hrings ▸ hf) st r.done, ?_⟩
  have hp : Posted _ ((s1.setFld .CAL_STAT_RUNNING (s1.fld .CAL_STAT_RUNNING &&& 128)).finishMbox st r.done) := (Posted.refl _).finishMbox
  exact (congrArg State.cal hp :)

/-- A run without items ends at once. -/
theorem advanceCalRun_nil {s : State} {r : CalRun} (meas : List Measurement) (fuel : Nat) (hr : s.cal.run = some r)
    (hi : r.items = []) : s.advanceCalRun meas (fuel + 1) = s.endCalRun r .ok := by
  unfold State.advanceCalRun
  rw [hr]
  dsimp only
  rw [hi]

theorem flag_runBegun_precond (s : State) (items : List Nat) : (runBegun s items).flag .CAL_STAT_PRECOND = false :=
  (flag_congr (s := (s.startHead mboxSq).setFlag .CAL_STAT_PRECOND false) rfl _).trans
    (flag_setFlag_self _ _ false (by decide) (by decide))

theorem flag_runBegun_noStandby (s : State) (items : List Nat) :
    (runBegun s items).flag .PLL_ROLE_NO_STANDBY = s.flag .PLL_ROLE_NO_STANDBY :=
  (flag_congr (s := (s.startHead mboxSq).setFlag .CAL_STAT_PRECOND false) rfl _).trans
    (flag_setFlag_apart (s.startHead mboxSq) (f := .CAL_STAT_PRECOND) (g := .PLL_ROLE_NO_STANDBY) false (by decide))

theorem fetched_startHead (s : State) (n : Nat) : ((s.startHead n).ring n).fetched = (s.ring n).fetched :=
  (congrArg Ring.fetched (ring_setRing_self s n _) :)

theorem calRun_waits_on (s : State) (items : List Nat) :
    (runBegun s items).cal.run = some (newRun s items) ∧ (newRun s items).notify = some (runBegun s items).mboxGen ∧
      ((runBegun s items).ring mboxSq).executing = true ∧
      ((runBegun s items).ring mboxSq).fetched = (s.ring mboxSq).fetched :=
  ⟨rfl, rfl, executing_startHead s mboxSq, fetched_startHead s mboxSq⟩

/-- Without values nothing is measured. -/
theorem measuresOf_nil (item index : Nat) : measuresOf [] item index = [] := by
  have h : ∀ l : List Nat, l.foldl (fun _ _ => 0) 0 = 0 := fun l => by
    induction l with
    | nil => rfl
    | cons a l ih => exact ih
  simp [measuresOf, h]

theorem take_nil (item : Nat) (p : CalPass) (index : Nat) : p.take [] item index = p := by
  unfold CalPass.take
  rw [measuresOf_nil]
  split <;> rfl

theorem foldl_take_nil (item : Nat) (p : CalPass) (l : List Nat) : l.foldl (CalPass.take [] item) p = p := by
  induction l with
  | nil => rfl
  | cons a l ih => rw [List.foldl_cons, take_nil, ih]

/-- A run has elements to measure of each of its items, but of LOOP without a standby loop. -/
theorem calElements_ne_nil (s : State) {item : Nat} (h : item = 0 → s.flag .PLL_ROLE_NO_STANDBY = false) :
    s.calElements item false ≠ [] := by
  unfold State.calElements
  split
  · next h0 => rw [h h0.1]; simp
  · have hc : 0 < calCount item := by unfold calCount; split <;> decide
    simpa using Nat.pos_iff_ne_zero.mp hc

/-- A run that is given no value waits with its items. -/
theorem advanceCalRun_waits {s : State} {r : CalRun} {item : Nat} {rest : List Nat} {n : Nat} (fuel : Nat) (hr : s.cal.run = some r)
    (hi : r.items = item :: rest) (h0 : item = 0 → s.flag .PLL_ROLE_NO_STANDBY = false) (hm : r.measured = [])
    (hfuel : n = fuel + 1) : s.advanceCalRun [] n = s ∨ s.advanceCalRun [] n = (s.showItem item true).setCalRun r := by
  subst hfuel
  unfold State.advanceCalRun
  rw [hr]
  dsimp only
  rw [hi]
  dsimp only
  rw [if_neg (fun h => Bool.false_ne_true ((h0 h.1).symm.trans h.2))]
  split
  · exact .inl rfl
  · obtain ⟨i, l, hl⟩ := List.exists_cons_of_ne_nil (calElements_ne_nil s h0)
    rw [foldl_take_nil, if_neg (by rw [hl, List.all_cons, hm]; exact Bool.false_ne_true)]
    exact .inr (by rw [← hi])

/-- A run that waits leaves the entries and the rings. -/
theorem calRun_shown (s : State) (item : Nat) (r : CalRun) :
    ((s.showItem item true).setCalRun r).cal.run = some r ∧
      ((s.showItem item true).setCalRun r).cal.entries = s.cal.entries ∧
      ((s.showItem item true).setCalRun r).ring mboxSq = s.ring mboxSq := ⟨rfl, rfl, rfl⟩

theorem flag_showItem_precond (s : State) (item : Nat) (b : Bool) :
    (s.showItem item b).flag .CAL_STAT_PRECOND = s.flag .CAL_STAT_PRECOND :=
  flag_setFld_bits s _

/-- The values of item 1 count in every power state and beside any readout. -/
theorem measuresOf_keptValues (s : State) (meas : List Measurement) (i : Nat) :
    measuresOf (s.keptValues meas) 1 i = measuresOf meas 1 i := by
  have hf : ∀ e : Nat, (s.keptValues meas).filter (fun x => x.item.val == 1 && x.element == e) =
      meas.filter fun x => x.item.val == 1 && x.element == e := fun e => by
    unfold State.keptValues
    rw [List.filter_filter]
    refine List.filter_congr fun x _ => ?_
    by_cases h : x.item.val = 1 <;> simp [h]
  unfold measuresOf
  simp only [hf]

/-- The elements that a list of indices marks as measured. -/
def markAll (l : List Nat) (m : Store Bool) : Store Bool := l.foldl (fun m i => m.set (fun _ => false) i true) m

theorem get_markAll (l : List Nat) (m : Store Bool) (i : Nat) :
    (markAll l m).get (fun _ => false) i = (decide (i ∈ l) || m.get (fun _ => false) i) := by
  induction l generalizing m with
  | nil => simp [markAll]
  | cons a l ih =>
    refine (ih (m.set (fun _ => false) a true)).trans ?_
    rw [Store.get_set]
    by_cases h : i = a <;> simp [h]

/-- A pass in which every element has a result finds all of them. -/
theorem foldl_take_results {meas : List Measurement} {item : Nat} {m : Nat → List Int} {l : List Nat} (hn : l.Nodup)
    (hr : ∀ i ∈ l, resolve item i (measuresOf meas item i) = .result (m i)) {p : CalPass}
    (hp : ∀ i ∈ l, p.measured.get (fun _ => false) i = false) :
    l.foldl (CalPass.take meas item) p =
      { p with found := p.found ++ l.map fun i => (item, i, calPack item (m i)), measured := markAll l p.measured } := by
  induction l generalizing p with
  | nil => simp [markAll]
  | cons a l ih =>
    obtain ⟨ha, hn'⟩ := List.nodup_cons.mp hn
    have htake : CalPass.take meas item p a =
        { p with found := p.found ++ [(item, a, calPack item (m a))], measured := p.measured.set (fun _ => false) a true } := by
      unfold CalPass.take
      rw [hp a List.mem_cons_self, hr a List.mem_cons_self]
      rfl
    rw [List.foldl_cons, htake, ih hn' (fun i hi => hr i (List.mem_cons_of_mem a hi)) fun i hi => ?_]
    · simp [markAll]
    · exact (Store.get_set_ne _ _ true (ne_of_mem_of_not_mem hi ha)).trans (hp i (List.mem_cons_of_mem a hi))

theorem applyEntries_eq (s : State) (es : List (Nat × Nat × Nat)) :
    s.applyEntries es = { s with cal := { s.cal with entries := (s.applyEntries es).cal.entries } } := by
  unfold State.applyEntries
  induction es generalizing s with
  | nil => rfl
  | cons e es ih => exact ih (s.setCalEntry e.1 e.2.1 e.2.2)

theorem calEntry_setCalEntry_self (s : State) (item i v : Nat) : (s.setCalEntry item i v).calEntry item i = v :=
  Store.get_set_self _ _ _ _

theorem calEntry_setCalEntry_ne (s : State) {item i j : Nat} (v : Nat) (h : j ≠ i) :
    (s.setCalEntry item i v).calEntry item j = s.calEntry item j :=
  Store.get_set_ne _ _ _ (fun hk => h (Nat.add_left_cancel hk))

/-- Each entry of an item that changes has its new value. -/
theorem calEntry_applyEntries (s : State) (item : Nat) (v : Nat → Nat) (l : List Nat) (i : Nat) :
    (s.applyEntries (l.map fun i => (item, i, v i))).calEntry item i = if i ∈ l then v i else s.calEntry item i := by
  unfold State.applyEntries
  induction l generalizing s with
  | nil => rfl
  | cons a l ih =>
    rw [List.map_cons, List.foldl_cons, ih]
    by_cases hl : i ∈ l
    · simp [hl]
    · by_cases ha : i = a
      · subst ha; simp [hl, calEntry_setCalEntry_self]
      · simp [hl, ha, calEntry_setCalEntry_ne s _ ha]

/-- The state in which the results of a run's only item 1 have taken effect. -/
def offsetsSet (s : State) (es : List (Nat × Nat × Nat)) (r : CalRun) : State :=
  (((s.showItem 1 true).applyEntries es).showItem 1 false).setCalRun r

/-- A run of item 1 alone that is given a result for each entry ends with all of them in force. -/
theorem advanceCalRun_offsets {s : State} {meas : List Measurement} {r : CalRun} (fuel : Nat) {m : Nat → List Int}
    (hm : ∀ i ∈ s.calElements 1 false, resolve 1 i (measuresOf meas 1 i) = .result (m i))
    (hl : s.calElements 1 false ≠ []) (hn : (s.calElements 1 false).Nodup)
    (hr : s.cal.run = some r) (hi : r.items = [1]) (hres : r.results = []) (hmeas : r.measured = []) :
    ∃ r1 : CalRun, r1.notify = r.notify ∧ s.advanceCalRun meas (fuel + 2) =
      (offsetsSet s ((s.calElements 1 false).map fun i => (1, i, calPack 1 (m i))) r1).endCalRun r1 .ok := by
  rw [State.advanceCalRun, hr]
  dsimp only
  rw [hi]
  dsimp only
  generalize s.calElements 1 false = l at *
  have hf := foldl_take_results hn hm
    (p := { state := s.showItem 1 true, found := r.results, measured := r.measured, events := r.events })
    fun i _ => congrArg (fun x : Store Bool => x.get (fun _ => false) i) hmeas
  rw [if_neg (fun h => absurd h.1 (by decide)), if_neg (fun h => absurd h.1 (by decide)), hf, if_pos ?_]
  · refine ⟨{ r with items := [], done := r.done + 1, measured := [], results := [] }, rfl, ?_⟩
    refine (advanceCalRun_nil meas fuel rfl rfl).trans ?_
    have happly : (s.showItem 1 true).applyResults 1 (l.map fun i => (1, i, calPack 1 (m i))) =
        (s.showItem 1 true).applyEntries (l.map fun i => (1, i, calPack 1 (m i))) := by
      unfold State.applyResults
      rw [if_neg (by simpa using hl), if_neg (by decide)]
    dsimp only
    rw [hres, List.nil_append, happly]
    rfl
  · exact List.all_eq_true.mpr fun i hi => (get_markAll _ _ i).trans (by rw [decide_eq_true hi, Bool.true_or])

/-- The results of a run stand in the entries when it has ended. -/
theorem calEntry_endCalRun (s : State) (r : CalRun) (st : Status) (item i : Nat) :
    (s.endCalRun r st).calEntry item i = s.calEntry item i := by
  unfold State.endCalRun
  extract_lets c s1
  have hp : Posted (s1.setFld .CAL_STAT_RUNNING (s1.fld .CAL_STAT_RUNNING &&& 128))
      ((s1.setFld .CAL_STAT_RUNNING (s1.fld .CAL_STAT_RUNNING &&& 128)).finishWaiting r.notify st r.done) :=
    (Posted.refl _).finishWaiting
  have hc : (s1.setFld .CAL_STAT_RUNNING (s1.fld .CAL_STAT_RUNNING &&& 128) |>.finishWaiting r.notify st r.done).cal =
      { s.cal with run := none } := (congrArg State.cal hp :)
  exact (congrArg (fun x : Cal => x.entries.get (fun _ => 0) (calKey item i)) hc :)

theorem calRun_of_none {s : State} {d : List Byte} {meas : List Measurement} (hn : s.cal.run = none)
    (h : MailboxTakes s 0x90 [(20, 4)] d) (h0 : bytesAt d 20 4 = 0) :
    ∃ t, exec (.calRun meas) s = .next t ∧ t.cal = s.cal ∧ (t.ring mboxSq).executing = false := by
  obtain ⟨hrun, hnotify, hexec, hfetched⟩ := calRun_waits_on s []
  have hd := fetched_of_headFor h.1
  obtain ⟨he, hc⟩ := endCalRun_spec (st := .ok) hnotify hexec (hfetched ▸ hd)
  refine ⟨(runBegun s []).endCalRun (newRun s []) .ok, ?_, ?_, he⟩
  · have hi : calItems 0 = [] := by decide
    rw [exec_calRun_granted hn h (by omega) (.inl (by rw [h0]; decide)), h0, hi, advanceCalRun_nil _ 15 hrun rfl]
  · refine hc.trans ?_
    change ({ s.cal with run := none } : Cal) = s.cal
    rw [← hn]

theorem calRun_outside_service {s : State} {d : List Byte} {meas : List Measurement} (hn : s.cal.run = none)
    (h : MailboxTakes s 0x90 [(20, 4)] d) (ha : bytesAt d 20 4 < 128) (hi : (calItems (bytesAt d 20 4)).any (2 ≤ ·) = true)
    (hm : s.mode ≠ 7) :
    ∃ t, exec (.calRun meas) s = .next t ∧ t = s.finishMbox .precondition 0 ∧ t.cal = s.cal := by
  refine ⟨_, (exec_calRun_of_takes hn h ha).trans (congrArg Host.Outcome.next (if_pos ?_)), rfl,
    (congrArg State.cal ((Posted.refl s).finishMbox : Posted s (s.finishMbox .precondition 0)) :)⟩
  rw [hi, Bool.true_and]
  exact bne_iff_ne.mpr hm

theorem calRun_unmeasured {s : State} {d : List Byte} (hn : s.cal.run = none)
    (h : MailboxTakes s 0x90 [(20, 4)] d) (ha : bytesAt d 20 4 < 128)
    (hs : (calItems (bytesAt d 20 4)).any (2 ≤ ·) = false ∨ s.mode = 7) (hi : calItems (bytesAt d 20 4) ≠ [])
    (h0 : (calItems (bytesAt d 20 4)).head? = some 0 → s.flag .PLL_ROLE_NO_STANDBY = false) :
    ∃ t r, exec (.calRun []) s = .next t ∧ t.cal.run = some r ∧ r.items = calItems (bytesAt d 20 4) ∧
      t.cal.entries = s.cal.entries ∧ (t.ring mboxSq).executing = true ∧ t.flag .CAL_STAT_PRECOND = false := by
  have hx := exec_calRun_granted (meas := []) hn h ha hs
  generalize calItems (bytesAt d 20 4) = items at hx hi h0 ⊢
  obtain ⟨item, rest, rfl⟩ := List.exists_cons_of_ne_nil hi
  obtain ⟨hrun, -, hexec, -⟩ := calRun_waits_on s (item :: rest)
  have hflag : (runBegun s (item :: rest)).flag .CAL_STAT_PRECOND = false := flag_runBegun_precond s _
  have hstandby : item = 0 → (runBegun s (item :: rest)).flag .PLL_ROLE_NO_STANDBY = false := fun he =>
    (flag_runBegun_noStandby s _).trans (h0 (congrArg some he))
  have hw := advanceCalRun_waits (n := 16) 15 hrun rfl hstandby rfl rfl
  have hkept : s.keptValues [] = [] := rfl
  rw [hkept] at hx
  rw [hx]
  generalize (runBegun s (item :: rest)).advanceCalRun [] 16 = t at hw
  rcases hw with rfl | rfl
  · exact ⟨_, _, rfl, hrun, rfl, rfl, hexec, hflag⟩
  · obtain ⟨hrun', hentries, hring⟩ := calRun_shown (runBegun s (item :: rest)) item (newRun s (item :: rest))
    exact ⟨_, newRun s (item :: rest), rfl, hrun', rfl, hentries, (congrArg Ring.executing hring).trans hexec,
      (flag_showItem_precond _ item true).trans hflag⟩

theorem offsetsSet_kept (s : State) (es : List (Nat × Nat × Nat)) (r : CalRun) :
    (offsetsSet s es r).ring mboxSq = s.ring mboxSq ∧ (offsetsSet s es r).mboxGen = s.mboxGen := by
  unfold offsetsSet
  rw [applyEntries_eq (s.showItem 1 true) es]
  exact ⟨rfl, rfl⟩

theorem calEntry_offsetsSet (s : State) (es : List (Nat × Nat × Nat)) (r : CalRun) (item i : Nat) :
    (offsetsSet s es r).calEntry item i = ((s.showItem 1 true).applyEntries es).calEntry item i := rfl

/-- A run of item 1 alone completes its command and leaves the means in force. -/
theorem advanceCalRun_offsets_spec {s : State} {meas : List Measurement} {r : CalRun} {n : Nat} (fuel : Nat) {m : Nat → List Int}
    (hm : ∀ i ∈ s.calElements 1 false, resolve 1 i (measuresOf meas 1 i) = .result (m i))
    (hl : s.calElements 1 false ≠ []) (hn : (s.calElements 1 false).Nodup)
    (hr : s.cal.run = some r) (hi : r.items = [1]) (hres : r.results = []) (hmeas : r.measured = [])
    (hnotify : r.notify = some s.mboxGen) (he : (s.ring mboxSq).executing = true) (hf : (s.ring mboxSq).fetched ≠ [])
    (hfuel : n = fuel + 2) : (s.advanceCalRun meas n).cal.run = none ∧
      ((s.advanceCalRun meas n).ring mboxSq).executing = false ∧
      ∀ i ∈ s.calElements 1 false, (s.advanceCalRun meas n).calEntry 1 i = calPack 1 (m i) := by
  obtain ⟨r1, hr1, hx⟩ := advanceCalRun_offsets fuel hm hl hn hr hi hres hmeas
  rw [hfuel, hx]
  obtain ⟨hring, hgen⟩ := offsetsSet_kept s ((s.calElements 1 false).map fun i => (1, i, calPack 1 (m i))) r1
  obtain ⟨hend, hc⟩ := endCalRun_spec (st := .ok) (hr1.trans (hnotify.trans (congrArg some hgen.symm)))
    ((congrArg Ring.executing hring).trans he) (by rw [hring]; exact hf)
  refine ⟨congrArg Cal.run hc, hend, fun i hmem => ?_⟩
  rw [calEntry_endCalRun, calEntry_offsetsSet, calEntry_applyEntries _ 1 (fun i => calPack 1 (m i)), if_pos hmem]

theorem calRun_of_offsets {s : State} {d : List Byte} {meas : List Measurement} {m : Nat → List Int} (hn : s.cal.run = none)
    (h : MailboxTakes s 0x90 [(20, 4)] d) (ha : bytesAt d 20 4 = 2)
    (hm : ∀ i, i < 24 → resolve 1 i (measuresOf meas 1 i) = .result (m i)) :
    ∃ t, exec (.calRun meas) s = .next t ∧ t.cal.run = none ∧ (t.ring mboxSq).executing = false ∧
      ∀ i, i < 24 → t.calEntry 1 i = calPack 1 (m i) := by
  obtain ⟨hrun, hnotify, hexec, hfetched⟩ := calRun_waits_on s [1]
  have hels : (runBegun s [1]).calElements 1 false = List.range 24 := rfl
  have hi : calItems 2 = [1] := by decide
  have hx := exec_calRun_granted (meas := meas) hn h (by omega) (.inl (by rw [ha]; decide))
  rw [ha, hi] at hx
  have hm' : ∀ i ∈ List.range 24, resolve 1 i (measuresOf (s.keptValues meas) 1 i) = .result (m i) := fun i hmem =>
    (congrArg (resolve 1 i) (measuresOf_keptValues s meas i)).trans (hm i (List.mem_range.mp hmem))
  have hfull : (s.ring mboxSq).fetched ≠ [] := fetched_of_headFor h.1
  rw [← hfetched] at hfull
  obtain ⟨hnone, hend, hset⟩ := advanceCalRun_offsets_spec (meas := s.keptValues meas) (n := 16) 14 (m := m)
    (by rw [hels]; exact hm') (by rw [hels]; exact List.cons_ne_nil 0 _) (by rw [hels]; exact List.nodup_range)
    hrun rfl rfl rfl hnotify hexec hfull rfl
  rw [hels] at hset
  exact ⟨_, hx, hnone, hend, fun i hlt => hset i (List.mem_range.mpr hlt)⟩

/-! ## Snapshots and flat-field acquisitions -/

theorem calSnapshot_taken {s : State} {d : List Byte} (h : MailboxTakes s 0x91 [] d) (ho : s.nvmRefused = false) :
    exec .calSnapshot s = .next ((s.startHead mboxSq).journalOpaque 4 (.snapshot s.snapshotEntries s.waiting)) :=
  congrArg Host.Outcome.next ((mailbox_of_takes h).trans (if_neg (by rw [ho]; decide)))

/-- The acquisition that a FLAT_ACQUIRE asks for. -/
def askedFlat (s : State) (mask n : Nat) : Flat :=
  { taps := (List.range 4).filter fun t => bitOf mask t, want := n, earliest := timeAfter s.tb 2000,
    ticks := 0, used := 0, first := none, sums := [], late := [], ready := none, notify := s.waiting }

/-- The state in which an acquisition waits. -/
def flatAsked (s : State) (a : Flat) : State :=
  { (s.startHead mboxSq).showItem 7 true with cal := { s.cal with flat := some a } }

theorem exec_flatAcquire {s : State} {d : List Byte} (h : MailboxTakes s 0x92 [(20, 8)] d) (h0 : 0 < bytesAt d 20 4)
    (h16 : bytesAt d 20 4 < 16) (hn : 1 ≤ bytesAt d 24 4) (hn' : bytesAt d 24 4 ≤ 256) :
    exec .flatAcquire s = .next (if s.ownerLocked then s.finishMbox .sigFail 0
      else flatAsked s (askedFlat s (bytesAt d 20 4) (bytesAt d 24 4))) := by
  refine congrArg Host.Outcome.next ((mailbox_of_takes h).trans ?_)
  dsimp only
  have hr : inRange 1 256 (bytesAt d 24 4) = true := by simp [inRange, hn, hn']
  rw [if_neg (by simp [hr]; omega)]
  rfl

theorem running_showItem (s : State) : bitOf ((s.showItem 7 true).fld .CAL_STAT_RUNNING) 7 = true := by
  unfold State.showItem
  rw [fld_setFld_self s .CAL_STAT_RUNNING _ (by decide) (by decide)]
  have hw : (Fld.CAL_STAT_RUNNING).width = 8 := rfl
  rw [hw, bitOf_eq_testBit, Nat.testBit_mod_two_pow, ← bitOf_eq_testBit, bitOf_putBit_self]
  rfl

end Sys2Proof.Safety
end

section
/-! PROOF. The commands of the spares, and the mailbox commands of calibration, spares and tests together (O46). -/

namespace Sys2Proof.Safety

open Sys2Proof.Machine

/-! ## The queue of changes -/

theorem queue_setQueue (s : State) (l : List Subst) : (s.setQueue l).spares.queue = l :=
  (congrArg Spares.queue (State.setFlag_spares { s with spares := { s.spares with queue := l } } _ _) :)

theorem ring_setQueue (s : State) (l : List Subst) (n : Nat) : (s.setQueue l).ring n = s.ring n :=
  ring_congr (State.setFlag_rings { s with spares := { s.spares with queue := l } } _ _) n

theorem regsKept_setFlag (s : State) (f : Fld) (b : Bool) : RegsKept s (s.setFlag f b) (· = f.addr) :=
  (RegsKept.refl s _).setFlag rfl

theorem regsKept_setQueue (s : State) (l : List Subst) : RegsKept s (s.setQueue l) (· = Reg.TRK_BANK_STAT) := by
  unfold State.setQueue
  generalize l.any (·.copying) = b
  exact regsKept_setFlag { s with spares := { s.spares with queue := l } } .TRK_BANK_STAT_COPYING b

theorem rings_withUnits (s : State) (x : Store UnitInfo) (q : List Subst) : (withUnits s x q).rings = s.rings := rfl

theorem Filed.ring {s t : State} (h : Filed s t) (n : Nat) : t.ring n = s.ring n :=
  ring_congr (congrArg State.rings h.rest :) n

/-- A change of a unit leaves the rings. -/
theorem ring_setUnit (s : State) (cls u : Nat) (v : UnitInfo) (n : Nat) : (s.setUnit cls u v).ring n = s.ring n := by
  obtain ⟨q, hf⟩ := setUnit_filed s cls u v
  exact (hf.ring n).trans (ring_congr (rings_withUnits s _ q) n)

theorem Filed.tb {s t : State} (h : Filed s t) : t.tb = s.tb := (congrArg State.tb h.rest :)

theorem tb_withUnits (s : State) (x : Store UnitInfo) (q : List Subst) : (withUnits s x q).tb = s.tb := rfl

theorem tb_setUnit (s : State) (cls u : Nat) (v : UnitInfo) : (s.setUnit cls u v).tb = s.tb := by
  obtain ⟨q, hf⟩ := setUnit_filed s cls u v
  exact hf.tb.trans (tb_withUnits s _ q)

/-- A change that is queued with a unit is the youngest in the queue. -/
theorem queueSubst_spec (s : State) (q : Subst) (new : Option Nat) :
    { q with new := new, earliest := timeAfter s.tb 2000, copying := q.cls == 6 && new.isSome, stale := false } ∈
      (s.queueSubst q new).spares.queue ∧ ∀ n, (s.queueSubst q new).ring n = s.ring n := by
  unfold State.queueSubst
  extract_lets s1
  have htb : s1.tb = s.tb ∧ ∀ n, s1.ring n = s.ring n := by
    unfold s1
    cases new with
    | none => exact ⟨rfl, fun _ => rfl⟩
    | some u => exact ⟨tb_setUnit s q.cls u _, ring_setUnit s q.cls u _⟩
  obtain ⟨htb, hring⟩ := htb
  refine ⟨?_, fun n => (ring_setQueue s1 _ n).trans (hring n)⟩
  unfold State.pushSubst
  rw [queue_setQueue]
  exact List.mem_append_right _ (List.mem_singleton.mpr rfl)

/-! ## SPARE_ASSIGN -/

/-- The classes of spares have fewer units than the number that stands for any of them. -/
theorem classUnits_le {c : Nat} (h : c ≤ 8) : classUnits c ≤ 33280 := by
  interval_cases c <;> decide

/-- The change that a SPARE_ASSIGN of a unit asks for. -/
def assignSubst (s : State) (cls r u : Nat) : Subst :=
  { s.newSubst cls r (s.holder cls r) (.host s.waiting) with new := some u, copying := cls == 6 }

/-- The operands of a SPARE_ASSIGN name a role and a unit that exist. -/
def AssignNames (cls r u : Nat) : Prop :=
  cls ≤ 8 ∧ ¬(cls = 5 ∧ r = 0) ∧ r < classRoles cls ∧ u < classUnits cls

theorem assign_any_false {cls r u : Nat} (h : AssignNames cls r u) : (u == 0xFFFFFFFF) = false := by
  obtain ⟨hc, -, -, hu⟩ := h
  have := classUnits_le hc
  exact beq_false_of_ne (by omega)

theorem assign_wellFormed {cls r u : Nat} (h : AssignNames cls r u) :
    (decide (8 < cls) || (cls == 5 && r == 0) || decide (classRoles cls ≤ r) ||
      (!(u == 0xFFFFFFFF) && decide (classUnits cls ≤ u))) = false := by
  rw [assign_any_false h]
  obtain ⟨hc, h5, hr, hu⟩ := h
  simp
  omega

theorem exec_spareAssign_held {s : State} {d : List Byte} (h : MailboxTakes s 0x98 [(20, 12)] d)
    (hn : AssignNames (bytesAt d 20 4) (bytesAt d 24 4) (bytesAt d 28 4))
    (hh : s.holds (bytesAt d 20 4) (bytesAt d 24 4) (bytesAt d 28 4) = true) :
    exec .spareAssign s = .next (s.finishMbox .ok (s.epoch (bytesAt d 20 4) (bytesAt d 24 4))) := by
  refine congrArg Host.Outcome.next ((mailbox_of_takes h).trans ?_)
  dsimp only
  generalize bytesAt d 20 4 = cls at *
  generalize bytesAt d 24 4 = r at *
  generalize bytesAt d 28 4 = u at *
  rw [if_neg (by rw [assign_wellFormed hn]; decide), if_pos (by rw [assign_any_false hn, hh]; rfl)]

theorem exec_spareAssign_stock {s : State} {d : List Byte} (h : MailboxTakes s 0x98 [(20, 12)] d)
    (hn : AssignNames (bytesAt d 20 4) (bytesAt d 24 4) (bytesAt d 28 4))
    (hh : s.holds (bytesAt d 20 4) (bytesAt d 24 4) (bytesAt d 28 4) = false)
    (hs : (s.unitInfo (bytesAt d 20 4) (bytesAt d 28 4)).state = .stock)
    (hi : inScope (bytesAt d 20 4) (bytesAt d 24 4) (bytesAt d 28 4) = true) :
    exec .spareAssign s =
      .next ((s.startHead mboxSq).pushSubst (assignSubst s (bytesAt d 20 4) (bytesAt d 24 4) (bytesAt d 28 4))) := by
  refine congrArg Host.Outcome.next ((mailbox_of_takes h).trans ?_)
  dsimp only
  generalize bytesAt d 20 4 = cls at *
  generalize bytesAt d 24 4 = r at *
  generalize bytesAt d 28 4 = u at *
  rw [if_neg (by rw [assign_wellFormed hn]; decide), if_neg (by rw [hh, Bool.and_false]; decide),
    if_neg (by rw [assign_any_false hn]; decide), if_neg (by rw [hs]; decide), if_neg (by rw [hi, hs]; decide)]
  rfl

theorem pushSubst_spec (s : State) (q : Subst) :
    (s.pushSubst q).spares.queue = s.spares.queue ++ [q] ∧ (∀ n, (s.pushSubst q).ring n = s.ring n) ∧
      RegsKept s (s.pushSubst q) (· = Reg.TRK_BANK_STAT) :=
  ⟨queue_setQueue _ _, ring_setQueue s _, regsKept_setQueue s _⟩

/-! ## SELFTEST_UNIT -/

theorem exec_selftestUnit {s : State} {d : List Byte} (h : MailboxTakes s 0x99 [(20, 8)] d) (hc : bytesAt d 20 4 ≤ 8)
    (hu : bytesAt d 24 4 < classUnits (bytesAt d 20 4))
    (ht : s.spares.tests.any (fun t => t.cls == bytesAt d 20 4 && t.unit == bytesAt d 24 4) = false)
    (hs : (s.unitInfo (bytesAt d 20 4) (bytesAt d 24 4)).state ≠ .underTest)
    (hr : (s.unitInfo (bytesAt d 20 4) (bytesAt d 24 4)).state = .inRole →
      ∃ r, (s.unitInfo (bytesAt d 20 4) (bytesAt d 24 4)).role = some r ∧ s.scopeStock (bytesAt d 20 4) r ≠ [] ∧
        ¬(bytesAt d 20 4 = 5 ∧ bytesAt d 24 4 = 0)) :
    exec .selftestUnit s = .next ((s.startHead mboxSq).startTest (bytesAt d 20 4) (bytesAt d 24 4) s.waiting) := by
  refine congrArg Host.Outcome.next ((mailbox_of_takes h).trans ?_)
  dsimp only
  generalize bytesAt d 20 4 = cls at *
  generalize bytesAt d 24 4 = u at *
  have h8 : decide (8 < cls) = false := decide_eq_false (by omega)
  rw [if_neg (by simp; omega), if_neg (by rw [ht]; simp [hs])]
  by_cases hir : (s.unitInfo cls u).state = .inRole
  · obtain ⟨r, hrole, hstock, h5⟩ := hr hir
    rw [if_neg (by rw [h8, hir]; decide), hrole]
    exact if_neg (by simpa [hstock] using fun a b => h5 ⟨a, b⟩)
  · exact if_pos (by simp [hir])

/-- A test in place starts: its unit is under test, the test is on, and SPR_ST_STAT names it. -/
theorem startTest_in_place {s : State} {c v : Nat} (n : Option Nat)
    (h : (s.unitInfo c v).state = .stock ∨ (s.unitInfo c v).state = .retired) :
    ((s.startTest c v n).unitInfo c v).state = .underTest ∧
      (s.startTest c v n).spares.tests =
        s.spares.tests ++ [⟨c, v, (s.unitInfo c v).role, true, (s.unitInfo c v).state, n⟩] ∧
      (s.startTest c v n).reg Reg.SPR_ST_STAT = BitVec.ofNat 32 (4 + 16 * c + 256 * v) ∧
      ∀ m, (s.startTest c v n).ring m = s.ring m := by
  obtain ⟨hu, ht, -, -⟩ := setUnit_spec s c v { s.unitInfo c v with state := .underTest }
  have hp : (c == 9 || c == 10 || (s.unitInfo c v).state != .inRole) = true := by
    rcases h with h | h <;> simp [h]
  unfold State.startTest
  dsimp only
  rw [if_pos hp]
  refine ⟨congrArg UnitInfo.state hu, ?_, reg_setReg_self _ _ _, ring_setUnit s c v _⟩
  change (s.setUnit c v _).spares.tests ++ [SelfTest.activate _ c v] = _
  rw [ht]
  simp [SelfTest.activate]

/-- The test of a unit in a role waits for the change that gives the role to the lowest unit in stock. -/
theorem startTest_in_role {s : State} {c u r v : Nat} {rest : List Nat} (n : Option Nat) (hc : c ≤ 8)
    (hs : (s.unitInfo c u).state = .inRole) (hr : (s.unitInfo c u).role = some r) (hv : s.scopeStock c r = v :: rest) :
    (s.startTest c u n).spares.tests = s.spares.tests ++ [⟨c, u, some r, false, .inRole, n⟩] ∧
      (∃ q ∈ (s.startTest c u n).spares.queue, q.cls = c ∧ q.role = r ∧ q.old = u ∧ q.new = some v ∧ q.why = .test) ∧
      ∀ m, (s.startTest c u n).ring m = s.ring m := by
  obtain ⟨hq, hring⟩ := queueSubst_spec s (s.newSubst c r u .test) (some v)
  have ht := tests_queueSubst s (s.newSubst c r u .test) (some v)
  have hp : ¬ (c == 9 || c == 10 || (s.unitInfo c u).state != .inRole) = true := by simp [hs]; omega
  unfold State.startTest
  dsimp only
  rw [if_neg hp, hr]
  dsimp only
  rw [hv]
  dsimp only
  rw [hs]
  exact ⟨congrArg (· ++ _) ht, ⟨_, hq, rfl, rfl, rfl, rfl, rfl⟩, hring⟩

/-! ## The obligation -/

theorem spareAssign_of_takes {s : State} {d : List Byte} (h : MailboxTakes s 0x98 [(20, 12)] d)
    (hn : AssignNames (bytesAt d 20 4) (bytesAt d 24 4) (bytesAt d 28 4))
    (hh : s.holds (bytesAt d 20 4) (bytesAt d 24 4) (bytesAt d 28 4) = false)
    (hs : (s.unitInfo (bytesAt d 20 4) (bytesAt d 28 4)).state = .stock)
    (hi : inScope (bytesAt d 20 4) (bytesAt d 24 4) (bytesAt d 28 4) = true) :
    ∃ t q, exec .spareAssign s = .next t ∧ (t.ring mboxSq).executing = true ∧
      t.spares.queue = s.spares.queue ++ [q] ∧ q.cls = bytesAt d 20 4 ∧ q.role = bytesAt d 24 4 ∧
      q.old = s.holder (bytesAt d 20 4) (bytesAt d 24 4) ∧ q.new = some (bytesAt d 28 4) ∧ q.why = .host s.waiting ∧
      q.earliest = timeAfter s.tb 2000 ∧ q.copying = (bytesAt d 20 4 == 6) ∧ RegsKept s t (· = Reg.TRK_BANK_STAT) := by
  obtain ⟨hqueue, hring, hregs⟩ := pushSubst_spec (s.startHead mboxSq)
    (assignSubst s (bytesAt d 20 4) (bytesAt d 24 4) (bytesAt d 28 4))
  exact ⟨_, _, exec_spareAssign_stock h hn hh hs hi, (congrArg Ring.executing (hring mboxSq)).trans (executing_startHead s mboxSq),
    hqueue, rfl, rfl, rfl, rfl, rfl, rfl, rfl, hregs⟩

theorem spareAssign_of_held {s : State} {d : List Byte} (h : MailboxTakes s 0x98 [(20, 12)] d)
    (hn : AssignNames (bytesAt d 20 4) (bytesAt d 24 4) (bytesAt d 28 4))
    (hh : s.holds (bytesAt d 20 4) (bytesAt d 24 4) (bytesAt d 28 4) = true) :
    ∃ t, exec .spareAssign s = .next t ∧ t = s.finishMbox .ok (s.epoch (bytesAt d 20 4) (bytesAt d 24 4)) ∧
      t.spares = s.spares :=
  ⟨_, exec_spareAssign_held h hn hh, rfl, (Posted.refl s).finishMbox.spares⟩

/-- Settles O46, command by command. -/
theorem calibrationSpareAndTestCommands : Obligations.CalibrationSpareAndTestCommands := by
  unfold Obligations.CalibrationSpareAndTestCommands
  intro s d
  refine ⟨fun meas hn h ha => ⟨calRun_of_none hn h, calRun_outside_service hn h ha, calRun_unmeasured hn h ha,
    fun m h2 hm => calRun_of_offsets hn h h2 hm⟩, ?snapshot, ?flat, ?assign, ?test⟩
  case snapshot =>
    intro h ho
    refine ⟨_, calSnapshot_taken h ho, ?_⟩
    unfold State.journalOpaque State.journal
    rw [program_of_open (s := s.startHead mboxSq) ho]
    exact ⟨executing_startHead s mboxSq, rfl, rfl⟩
  case flat =>
    intro h h0 h16 hn hn'
    have hx := exec_flatAcquire h h0 h16 hn hn'
    refine ⟨fun ho => ?_, fun ho => ?_⟩
    · rw [ho] at hx
      refine ⟨_, askedFlat s (bytesAt d 20 4) (bytesAt d 24 4), hx, executing_startHead s mboxSq, rfl, rfl, rfl, rfl,
        running_showItem _, ?_⟩
      exact (RegsKept.refl s (· = Reg.CAL_STAT)).setFld (f := .CAL_STAT_RUNNING) rfl
    · rw [ho] at hx
      exact ⟨_, hx, (congrArg State.cal ((Posted.refl s).finishMbox : Posted s (s.finishMbox .sigFail 0)) :),
        (Posted.refl s).finishMbox.regs⟩
  case assign =>
    exact fun h hc h5 hr hu => ⟨fun hh => spareAssign_of_held h ⟨hc, h5, hr, hu⟩ hh,
      fun hh hs hi => spareAssign_of_takes h ⟨hc, h5, hr, hu⟩ hh hs hi⟩
  case test =>
    refine fun h hc hu ht => ⟨fun hs => ?_, fun r v rest hs hr hv h5 => ?_⟩
    · obtain ⟨hstate, htests, hstat, hring⟩ := startTest_in_place (s := s.startHead mboxSq) s.waiting hs
      refine ⟨_, exec_selftestUnit h hc hu ht ?_ ?_, (congrArg Ring.executing (hring mboxSq)).trans
        (executing_startHead s mboxSq), hstate, htests, hstat⟩
      · rcases hs with hs | hs <;> rw [hs] <;> decide
      · exact fun hir => by rcases hs with hs | hs <;> exact absurd (hs.symm.trans hir) (by decide)
    · obtain ⟨htests, hqueue, hring⟩ := startTest_in_role (s := s.startHead mboxSq) s.waiting hc hs hr hv
      refine ⟨_, exec_selftestUnit h hc hu ht ?_ ?_, (congrArg Ring.executing (hring mboxSq)).trans
        (executing_startHead s mboxSq), htests, hqueue⟩
      · rw [hs]; decide
      · exact fun _ => ⟨r, hr, by rw [hv]; exact List.cons_ne_nil v rest, h5⟩

end Sys2Proof.Safety
end

section
/-! PROOF. The temperatures, their thresholds and the end of a shutdown (O50). -/

namespace Sys2Proof.Safety

open Sys2Proof.Machine

/-! ## What shows the temperatures -/

/-- The registers of the sensor sites and of the hot reading. -/
def ViewReg (a : Nat) : Prop := 0x21820 ≤ a ∧ a < 0x21854

/-- `s` shows the readings of the sites and the hot reading of `s₀`. -/
structure SameView (s₀ s : State) : Prop where
  temp : ∀ n, n < 12 → s.fld (.THM_SITE_TEMP n) = s₀.fld (.THM_SITE_TEMP n)
  diff : ∀ n, n < 12 → s.fld (.THM_SITE_DIFF n) = s₀.fld (.THM_SITE_DIFF n)
  hot : s.reg Reg.THM_HOT = s₀.reg Reg.THM_HOT

/-- `s` has counted the samples of `s₀`, at the same time, and shows no other warning. -/
structure SameRuns (s₀ s : State) : Prop where
  runs : s.thermal.runs = s₀.thermal.runs
  start : s.thermal.startSamples = s₀.thermal.startSamples
  now : s.now = s₀.now
  off : s.off = s₀.off
  cal : s.reg Reg.CAL_STAT = s₀.reg Reg.CAL_STAT
  warn : s.flag .THM_STAT_HOT_WARN = s₀.flag .THM_STAT_HOT_WARN

/-- `s` has the sensors' state and the registers of calibration and temperatures of `s₀`. -/
structure Calm (s₀ s : State) : Prop where
  thermal : s.thermal = s₀.thermal
  now : s.now = s₀.now
  off : s.off = s₀.off
  regs : ∀ a, a = 0x21400 ∨ (0x21800 ≤ a ∧ a < 0x21860) → s.reg a = s₀.reg a

theorem SameView.refl (s : State) : SameView s s := ⟨fun _ _ => rfl, fun _ _ => rfl, rfl⟩
theorem SameRuns.refl (s : State) : SameRuns s s := ⟨rfl, rfl, rfl, rfl, rfl, rfl⟩
theorem Calm.refl (s : State) : Calm s s := ⟨rfl, rfl, rfl, fun _ _ => rfl⟩

theorem SameView.branch {s₀ s t : State} {c : Prop} {inst : Decidable c} (hs : SameView s₀ s) (ht : SameView s₀ t) :
    SameView s₀ (if c then s else t) := by split <;> assumption
theorem SameRuns.branch {s₀ s t : State} {c : Prop} {inst : Decidable c} (hs : SameRuns s₀ s) (ht : SameRuns s₀ t) :
    SameRuns s₀ (if c then s else t) := by split <;> assumption
theorem Calm.branch {s₀ s t : State} {c : Prop} {inst : Decidable c} (hs : Calm s₀ s) (ht : Calm s₀ t) :
    Calm s₀ (if c then s else t) := by split <;> assumption

/-- A fold over a state. -/
theorem SameView.foldl {β : Type} {s₀ s : State} {f : State → β → State} {l : List β} (h : SameView s₀ s)
    (hf : ∀ {t x}, SameView s₀ t → SameView s₀ (f t x)) : SameView s₀ (l.foldl f s) :=
  List.foldlRecOn l f (motive := SameView s₀) h fun _ ht _ _ => hf ht
theorem Calm.foldl {β : Type} {s₀ s : State} {f : State → β → State} {l : List β} (h : Calm s₀ s)
    (hf : ∀ {t x}, Calm s₀ t → Calm s₀ (f t x)) : Calm s₀ (l.foldl f s) :=
  List.foldlRecOn l f (motive := Calm s₀) h fun _ ht _ _ => hf ht

section
variable {s₀ s t : State}

theorem SameView.regs (h : SameView s₀ s) (hr : ∀ a, ViewReg a → t.reg a = s.reg a) : SameView s₀ t :=
  have site (n : Nat) (hn : n < 12) : ViewReg (0x21820 + 0x4 * n) := by unfold ViewReg; omega
  ⟨fun n hn => (fld_of_reg (hr _ (site n hn))).trans (h.temp n hn),
    fun n hn => (fld_of_reg (hr _ (site n hn))).trans (h.diff n hn), (hr _ (by unfold ViewReg; decide)).trans h.hot⟩

theorem SameView.calm (h : SameView s₀ s) (ht : Calm s t) : SameView s₀ t :=
  h.regs fun a ha => ht.regs a (.inr (by unfold ViewReg at ha; omega))

theorem SameRuns.calm (h : SameRuns s₀ s) (ht : Calm s t) : SameRuns s₀ t :=
  ⟨(congrArg Thermal.runs ht.thermal).trans h.runs, (congrArg Thermal.startSamples ht.thermal).trans h.start,
    ht.now.trans h.now, ht.off.trans h.off, (ht.regs _ (.inl rfl)).trans h.cal,
    (flag_of_reg (ht.regs _ (.inr (by decide)))).trans h.warn⟩

theorem SameView.trans (h : SameView s₀ s) (h' : SameView s t) : SameView s₀ t :=
  ⟨fun n hn => (h'.temp n hn).trans (h.temp n hn), fun n hn => (h'.diff n hn).trans (h.diff n hn), h'.hot.trans h.hot⟩
theorem SameRuns.trans (h : SameRuns s₀ s) (h' : SameRuns s t) : SameRuns s₀ t :=
  ⟨h'.runs.trans h.runs, h'.start.trans h.start, h'.now.trans h.now, h'.off.trans h.off, h'.cal.trans h.cal,
    h'.warn.trans h.warn⟩
theorem Calm.trans (h : Calm s₀ s) (h' : Calm s t) : Calm s₀ t :=
  ⟨h'.thermal.trans h.thermal, h'.now.trans h.now, h'.off.trans h.off, fun a ha => (h'.regs a ha).trans (h.regs a ha)⟩

theorem not_eventReg_heat {a : Nat} (ha : a = 0x21400 ∨ (0x21800 ≤ a ∧ a < 0x21860)) : ¬ EventReg a := by
  have hd : Reg.HIF_NORING_DROP < 0x21400 := by decide
  unfold EventReg
  omega

theorem Quiet.calm (h : Quiet s t) : Calm s t :=
  ⟨(congrArg State.thermal h.rest :), (congrArg State.now h.rest :), (congrArg State.off h.rest :),
    fun a ha => h.regs a (not_eventReg_heat ha)⟩

theorem Filed.calm (h : Filed s t) : Calm s t :=
  ⟨(congrArg State.thermal h.rest :), (congrArg State.now h.rest :), (congrArg State.off h.rest :),
    fun a ha => h.regs a fun he => absurd ha (by rw [he]; decide)⟩

theorem Posted.calm (h : Posted s t) : Calm s t := ((Quiet.refl s).post h).calm

theorem calm_withUnits (s : State) (x : Store UnitInfo) (q : List Subst) : Calm s (withUnits s x q) :=
  ⟨rfl, rfl, rfl, fun _ _ => rfl⟩

theorem calm_setUnit (s : State) (cls u : Nat) (v : UnitInfo) : Calm s (s.setUnit cls u v) := by
  obtain ⟨q, hf⟩ := setUnit_filed s cls u v
  exact (calm_withUnits s _ q).trans hf.calm

/-! ## A fault of the sensors -/

variable (h : Calm s₀ s)
include h

theorem Calm.setReg {a v} (ha : 0x21860 ≤ a := by decide) : Calm s₀ (s.setReg a v) :=
  ⟨h.thermal, h.now, h.off, fun b hb => (reg_setReg_ne s v (by omega)).trans (h.regs b hb)⟩
theorem Calm.setSpares {x} : Calm s₀ { s with spares := x } := ⟨h.thermal, h.now, h.off, h.regs⟩
theorem Calm.setMgmt {x} : Calm s₀ { s with mgmt := x } := ⟨h.thermal, h.now, h.off, h.regs⟩
theorem Calm.setNvm {x} : Calm s₀ { s with nvm := x } := ⟨h.thermal, h.now, h.off, h.regs⟩
theorem Calm.count {f n} (hf : 0x21860 ≤ f.addr := by decide) : Calm s₀ (s.count f n) := h.setReg hf
theorem Calm.event {code status source args} : Calm s₀ (s.event code status source args) :=
  h.trans (Quiet.refl s).event.calm
theorem Calm.faultRecord {r} : Calm s₀ (s.faultRecord r) := h.trans (Filed.faultRecord s r).calm
theorem Calm.program {j} : Calm s₀ (s.program j) := h.trans (Filed.program s j).calm
theorem Calm.finishWaiting {notify status result} : Calm s₀ (s.finishWaiting notify status result) :=
  h.trans ((Posted.refl s).finishWaiting : Posted s (s.finishWaiting notify status result)).calm

/-- A disagreement of a site's oscillators, even a lasting one, changes what events, records and counters change. -/
theorem Calm.chargeSite {inst unit} : Calm s₀ (s.chargeFor 9 inst unit) := by
  have hl {t : State} (ht : Calm s₀ t) : Calm s₀ (t.lasting 9 inst unit) :=
    (branch ht.event ht.event.faultRecord).count
  exact branch h.count (branch (hl h.count.setSpares) h.count.setSpares)

theorem Calm.refuseWaiting {keep} : Calm s₀ (s.refuseWaiting keep) :=
  (branch (h.setNvm.foldl fun h => h.program) h.setNvm).foldl fun h => branch h.finishWaiting h

end

/-! ## The sites -/

/-- A site shows its sample. -/
def SiteShown (t : State) (l : List SiteSample) (n : Nat) : Prop :=
  t.fld (.THM_SITE_TEMP n) = unsigned 16 (readingAt l n) ∧
    ∀ x, l[n]? = some x → t.fld (.THM_SITE_DIFF n) = min 4095 x.diff

theorem SiteShown.view {s t : State} {l : List SiteSample} {n : Nat} (h : SiteShown s l n) (ht : SameView s t) (hn : n < 12) :
    SiteShown t l n := ⟨(ht.temp n hn).trans h.1, fun x hx => (ht.diff n hn).trans (h.2 x hx)⟩

theorem unsigned_lt (w : Nat) (v : Int) : unsigned w v < 2 ^ w := by
  have h := Int.emod_lt_of_pos v (by positivity : (0 : Int) < (2 ^ w : Nat))
  have h0 := Int.emod_nonneg v (by positivity : ((2 ^ w : Nat) : Int) ≠ 0)
  unfold unsigned
  omega

theorem site_ne {m n : Nat} (h : m ≠ n) : Reg.THM_SITE m ≠ Reg.THM_SITE n := by
  intro he
  exact h (Nat.eq_of_mul_eq_mul_left (by decide : 0 < 4) (Nat.add_left_cancel he))

/-- The sample of a site shows in its register, and in no other site's. -/
theorem showSite_shown (s : State) {l : List SiteSample} {i : Nat} {x : SiteSample} (hx : l[i]? = some x) :
    SiteShown (s.showSite l i) l i ∧ ∀ n, n ≠ i → SiteShown s l n → SiteShown (s.showSite l i) l n := by
  have hread : readingAt l i = x.temp := by unfold readingAt; rw [hx]; rfl
  unfold State.showSite
  rw [hx]
  refine ⟨⟨?_, fun y hy => ?_⟩, fun n hn h => ⟨?_, fun y hy => ?_⟩⟩
  · refine (fld_setFld_bits (hi := 27) (lo := 16) (hi' := 15) (lo' := 0) _ _).trans ?_
    rw [fld_setFld_self _ _ _ (by simp) (by simp), hread]
    exact Nat.mod_eq_of_lt (unsigned_lt 16 _)
  · obtain rfl := Option.some.inj (hx.symm.trans hy)
    rw [fld_setFld_self _ _ _ (by simp) (by simp)]
    exact Nat.mod_eq_of_lt (by simp [Fld.width])
  · rw [fld_setFld_ne _ _ (site_ne hn), fld_setFld_ne _ _ (site_ne hn)]
    exact h.1
  · rw [fld_setFld_ne _ _ (site_ne hn), fld_setFld_ne _ _ (site_ne hn)]
    exact h.2 y hy

theorem sameRuns_setReg {s₀ s : State} (h : SameRuns s₀ s) {a : Nat} {v : Word} (ha : 0x21800 < a := by decide) :
    SameRuns s₀ (s.setReg a v) :=
  ⟨h.runs, h.start, h.now, h.off, (reg_setReg_ne s v (Nat.ne_of_lt (Nat.lt_trans (by decide) ha))).trans h.cal,
    (flag_of_reg (reg_setReg_ne s v (Nat.ne_of_lt ha))).trans h.warn⟩

theorem sameRuns_showSite (s : State) (l : List SiteSample) (i : Nat) : SameRuns s (s.showSite l i) := by
  have ha : 0x21800 < 0x21820 + 0x4 * i := by omega
  unfold State.showSite
  split
  · exact sameRuns_setReg (sameRuns_setReg (.refl s) ha) ha
  · exact .refl s

/-- A retired oscillator shows in a bit of its own. -/
theorem sameView_retired (s : State) {i : Nat} (hi : i < 12) : SameView s (s.setFlag (.THM_SITE_RETIRED i) true) := by
  have hlt : 0x21820 + 0x4 * i < Reg.THM_HOT := by
    have hh : Reg.THM_HOT = 0x21850 := rfl
    omega
  refine ⟨fun n _ => ?_, fun n _ => ?_, reg_setFlag_ne s true (Nat.ne_of_gt hlt)⟩
  all_goals
    by_cases hn : n = i
    · subst hn
      exact fld_setFld_bits s _
    · exact fld_setFld_ne s _ (site_ne hn)

/-- The oscillator that a lasting disagreement retires shows in the site's register. -/
theorem retireOsc_kept (s : State) {i : Nat} (which : Nat) (hi : i < 12) :
    SameView s (s.retireOsc i which) ∧ SameRuns s (s.retireOsc i which) := by
  unfold State.retireOsc
  extract_lets th s1
  have hv : SameView s (s1.setFlag (.THM_SITE_RETIRED i) true) := (⟨fun _ _ => rfl, fun _ _ => rfl, rfl⟩ : SameView s s1).trans
    (sameView_retired s1 hi)
  have hr : SameRuns s (s1.setFlag (.THM_SITE_RETIRED i) true) := sameRuns_setReg (s₀ := s) (s := s1) ⟨rfl, rfl, rfl, rfl, rfl, rfl⟩
    (by omega : 0x21800 < 0x21820 + 0x4 * i)
  exact ⟨hv.calm (calm_setUnit _ _ _ _), hr.calm (calm_setUnit _ _ _ _)⟩

/-- A disagreement of a site's oscillators changes neither readings nor the counted samples. -/
theorem judgeSite_kept (s : State) (l : List SiteSample) {i : Nat} (hi : i < 12) :
    SameView s (s.judgeSite l i) ∧ SameRuns s (s.judgeSite l i) := by
  have charged {t : State} (ht : Calm s t) (which : Nat) (c : Prop) [Decidable c] (u : Nat) :
      SameView s (if c then (t.chargeFor 9 (unitKey 12 i) u).retireOsc i which else t.chargeFor 9 (unitKey 12 i) u) ∧
        SameRuns s (if c then (t.chargeFor 9 (unitKey 12 i) u).retireOsc i which else t.chargeFor 9 (unitKey 12 i) u) := by
    have hc : Calm s (t.chargeFor 9 (unitKey 12 i) u) := ht.chargeSite
    obtain ⟨hv, hr⟩ := retireOsc_kept (t.chargeFor 9 (unitKey 12 i) u) which hi
    exact ⟨SameView.branch (((SameView.refl s).calm hc).trans hv) ((SameView.refl s).calm hc),
      SameRuns.branch (((SameRuns.refl s).calm hc).trans hr) ((SameRuns.refl s).calm hc)⟩
  unfold State.judgeSite
  split
  · split
    · extract_lets before k
      by_cases hk : k = 0
      · rw [if_pos hk]
        exact charged (Quiet.refl s).free.calm _ _ _
      · rw [if_neg hk]
        exact charged (.refl s) _ _ _
    · exact ⟨.refl s, .refl s⟩
  · exact ⟨.refl s, .refl s⟩

/-- Every site shows its sample, and is judged. -/
def sitesShown (s : State) (l : List SiteSample) : State := (List.range 12).foldl (fun s i => (s.showSite l i).judgeSite l i) s

theorem sitesShown_spec (s : State) {l : List SiteSample} (hl : l.length = 12) :
    (∀ n, n < 12 → SiteShown (sitesShown s l) l n) ∧ SameRuns s (sitesShown s l) := by
  have hall : ∀ (is : List Nat) (t : State), (∀ i ∈ is, i < 12) →
      (∀ n, n < 12 → n ∈ is ∨ SiteShown t l n → SiteShown (is.foldl (fun s i => (s.showSite l i).judgeSite l i) t) l n) ∧
        SameRuns t (is.foldl (fun s i => (s.showSite l i).judgeSite l i) t) := by
    intro is
    induction is with
    | nil => exact fun t _ => ⟨fun n _ h => h.resolve_left List.not_mem_nil, .refl t⟩
    | cons i is ih =>
      intro t hlt
      have hi : i < 12 := hlt i List.mem_cons_self
      have hx : l[i]? = some l[i] := List.getElem?_eq_getElem (by omega)
      obtain ⟨hself, hother⟩ := showSite_shown t hx
      obtain ⟨hv, hr⟩ := judgeSite_kept (t.showSite l i) l hi
      obtain ⟨hshown, hruns⟩ := ih ((t.showSite l i).judgeSite l i) fun j hj => hlt j (List.mem_cons_of_mem i hj)
      refine ⟨fun n hn h => hshown n hn ?_, ((sameRuns_showSite t l i).trans hr).trans hruns⟩
      by_cases hni : n = i
      · exact .inr (hni ▸ hself.view hv hi)
      · exact h.imp (fun h => (List.mem_cons.mp h).resolve_left hni) fun h => (hother n hni h).view hv hn
  obtain ⟨hshown, hruns⟩ := hall (List.range 12) s fun i hi => List.mem_range.mp hi
  exact ⟨fun n hn => hshown n hn (.inl (List.mem_range.mpr hn)), hruns⟩

/-! ## The extremes -/

/-- The hot site is a site, and no site reads higher. -/
theorem extremeSite_hot (l : List SiteSample) :
    extremeSite l true < 12 ∧ ∀ n, n < 12 → readingAt l n ≤ readingAt l (extremeSite l true) := by
  have hall : ∀ (is : List Nat) (m : Nat), m < 12 → (∀ i ∈ is, i < 12) →
      let h := is.foldl (fun m i => if readingAt l m < readingAt l i then i else m) m
      h < 12 ∧ readingAt l m ≤ readingAt l h ∧ ∀ n ∈ is, readingAt l n ≤ readingAt l h := by
    intro is
    induction is with
    | nil => exact fun m hm _ => ⟨hm, Int.le_refl _, fun _ h => absurd h List.not_mem_nil⟩
    | cons i is ih =>
      intro m hm hlt
      have hstep : (if readingAt l m < readingAt l i then i else m) < 12 := by
        split
        · exact hlt i List.mem_cons_self
        · exact hm
      obtain ⟨h12, hle, hrest⟩ := ih _ hstep fun j hj => hlt j (List.mem_cons_of_mem i hj)
      have hmax : readingAt l m ≤ readingAt l (if readingAt l m < readingAt l i then i else m) ∧
          readingAt l i ≤ readingAt l (if readingAt l m < readingAt l i then i else m) := by
        split <;> omega
      refine ⟨h12, hmax.1.trans hle, fun n hn => ?_⟩
      rcases List.mem_cons.mp hn with rfl | hn
      · exact hmax.2.trans hle
      · exact hrest n hn
  obtain ⟨h12, -, hmax⟩ := hall (List.range 12) 0 (by decide) fun i hi => List.mem_range.mp hi
  have he : extremeSite l true = (List.range 12).foldl (fun m i => if readingAt l m < readingAt l i then i else m) 0 := rfl
  rw [he]
  exact ⟨h12, fun n hn => hmax n (List.mem_range.mpr hn)⟩

/-- THM_HOT shows the hot site and its reading. -/
def HotShown (t : State) (l : List SiteSample) : Prop :=
  t.fld .THM_HOT_SITE = extremeSite l true ∧ t.fld .THM_HOT_TEMP = unsigned 16 (readingAt l (extremeSite l true))

theorem HotShown.congr {s t : State} {l : List SiteSample} (h : HotShown s l) (ht : t.reg Reg.THM_HOT = s.reg Reg.THM_HOT) :
    HotShown t l := ⟨(fld_of_reg ht).trans h.1, (fld_of_reg ht).trans h.2⟩

theorem showExtremes_spec (s : State) {l : List SiteSample} (first : Bool) :
    HotShown (s.showExtremes l first) l ∧ SameRuns s (s.showExtremes l first) ∧
      ∀ n, n < 12 → SiteShown s l n → SiteShown (s.showExtremes l first) l n := by
  obtain ⟨h12, -⟩ := extremeSite_hot l
  unfold State.showExtremes
  extract_lets h c s1 s2
  have hhot : HotShown s1 l := by
    refine ⟨?_, ?_⟩
    · refine (fld_setFld_self _ .THM_HOT_SITE _ (by decide) (by decide)).trans ?_
      exact Nat.mod_eq_of_lt (Nat.lt_trans h12 (by decide))
    · refine (fld_setFld_bits _ _).trans ((fld_setFld_self s .THM_HOT_TEMP _ (by decide) (by decide)).trans ?_)
      exact Nat.mod_eq_of_lt (unsigned_lt 16 _)
  have hregs2 : ∀ a, a ≠ Reg.THM_COLD → s2.reg a = s1.reg a := fun a ha =>
    (reg_setFld_ne _ (f := .THM_COLD_SITE) _ ha).trans (reg_setFld_ne _ (f := .THM_COLD_TEMP) _ ha)
  have hregs1 : ∀ a, a ≠ Reg.THM_HOT → s1.reg a = s.reg a := fun a ha =>
    (reg_setFld_ne _ (f := .THM_HOT_SITE) _ ha).trans (reg_setFld_ne _ (f := .THM_HOT_TEMP) _ ha)
  have hruns : SameRuns s s2 := sameRuns_setReg (sameRuns_setReg (sameRuns_setReg (sameRuns_setReg (.refl s))))
  have hpeak : ∀ t : State, (∀ a, a ≠ Reg.THM_PEAK → t.reg a = s2.reg a) → HotShown t l ∧
      ∀ n, n < 12 → SiteShown s l n → SiteShown t l n := by
    intro t ht
    refine ⟨hhot.congr ((ht _ (by decide)).trans (hregs2 _ (by decide))), fun n hn hs => ?_⟩
    have hsite : t.reg (Reg.THM_SITE n) = s.reg (Reg.THM_SITE n) := by
      have hlt : 0x21820 + 0x4 * n < 0x21850 := by omega
      exact (ht _ (Nat.ne_of_lt (Nat.lt_trans hlt (by decide)))).trans
        ((hregs2 _ (Nat.ne_of_lt (Nat.lt_trans hlt (by decide)))).trans (hregs1 _ (Nat.ne_of_lt hlt)))
    exact ⟨(fld_of_reg hsite).trans hs.1, fun x hx => (fld_of_reg hsite).trans (hs.2 x hx)⟩
  split
  · obtain ⟨hh, hs⟩ := hpeak (s2.setFld .THM_PEAK_TEMP (unsigned 16 (readingAt l h))) fun a ha => reg_setFld_ne s2 _ ha
    exact ⟨hh, sameRuns_setReg hruns, hs⟩
  · obtain ⟨hh, hs⟩ := hpeak s2 fun _ _ => rfl
    exact ⟨hh, hruns, hs⟩

/-! ## Samples in a row -/

/-- A sample counts for one crossing of a threshold. -/
def countRun (s : State) (k : Nat) (t : Int) (up : Bool) : State :=
  let n := if s.qualifies k up t then min 8 (s.thmRun k up + 1) else 0
  { s with thermal := { s.thermal with runs := s.thermal.runs.set (fun _ => 0) (2 * k + boolNat (!up)) n } }

theorem countRuns_eq (s : State) (k : Nat) (t : Int) : s.countRuns k t = countRun (countRun s k t true) k t false := rfl

theorem qualifies_countRun (s : State) (k : Nat) (t : Int) (up : Bool) (j : Nat) (b : Bool) (u : Int) :
    (countRun s k t up).qualifies j b u = s.qualifies j b u := rfl

theorem thmRun_countRun (s : State) (k : Nat) (t : Int) (up : Bool) (j : Nat) (b : Bool) :
    (countRun s k t up).thmRun j b =
      if j = k ∧ b = up then (if s.qualifies k up t then min 8 (s.thmRun k up + 1) else 0) else s.thmRun j b := by
  have hkey : 2 * j + boolNat (!b) = 2 * k + boolNat (!up) ↔ j = k ∧ b = up := by
    cases b <;> cases up <;> simp [boolNat] <;> omega
  refine (Store.get_set (fun _ => 0) s.thermal.runs _ _ _).trans ?_
  by_cases h : j = k ∧ b = up
  · rw [if_pos (hkey.mpr h), if_pos h]
  · rw [if_neg fun he => h (hkey.mp he), if_neg h]
    rfl

/-- A sample counts for both crossings of its threshold. -/
theorem thmRun_countRuns (s : State) (k : Nat) (t : Int) (j : Nat) (b : Bool) :
    (s.countRuns k t).thmRun j b =
      if j = k then (if s.qualifies k b t then min 8 (s.thmRun k b + 1) else 0) else s.thmRun j b := by
  rw [countRuns_eq, thmRun_countRun, thmRun_countRun, thmRun_countRun, qualifies_countRun]
  by_cases hj : j = k <;> cases b <;> simp [hj]

/-- What the samples of the hot and the cold site count. -/
def allCounted (s : State) (hot cold : Int) : State :=
  (List.range 5).foldl (fun s k => s.countRuns k (if isCold k then cold else hot)) s

theorem allCounted_eq (s : State) (hot cold : Int) :
    allCounted s hot cold = ((((s.countRuns 0 cold).countRuns 1 cold).countRuns 2 hot).countRuns 3 hot).countRuns 4 hot := rfl

theorem qualifies_rising_hot (s : State) {k : Nat} (hk : 2 ≤ k) (t : Int) :
    s.qualifies k true t = decide (threshold k ≤ t) := by
  have hc : isCold k = false := decide_eq_false (by omega)
  unfold State.qualifies
  rw [hc]
  rfl

theorem qualifies_falling_trip (s : State) {k : Nat} (hk : 3 ≤ k) (t : Int) : s.qualifies k false t = false := by
  have hc : isCold k = false := decide_eq_false (by omega)
  have h2 : decide (k = 2) = false := decide_eq_false (by omega)
  unfold State.qualifies
  rw [hc, h2]
  rfl

/-- Between T_HOT_WARN and T_TRIP only the run that warns goes on. -/
theorem thmRun_allCounted {s : State} {hot : Int} (cold : Int) (h7 : 7 ≤ s.thmRun 2 true) (hw : 1520 ≤ hot) (ht : hot < 1792) :
    (allCounted s hot cold).thmRun 2 true = 8 ∧
      ∀ k, k = 3 ∨ k = 4 → ∀ up, (allCounted s hot cold).thmRun k up = 0 := by
  have h2 : threshold 2 = 1520 := rfl
  have h3 : threshold 3 = 1792 := rfl
  have h4 : threshold 4 = 1920 := rfl
  rw [allCounted_eq]
  refine ⟨?_, fun k hk up => ?_⟩
  · simp only [thmRun_countRuns, qualifies_rising_hot _ (by decide : 2 ≤ 2), h2, hw]
    simp
    omega
  · rcases hk with rfl | rfl <;> cases up <;>
      simp [thmRun_countRuns, qualifies_rising_hot, qualifies_falling_trip, h3, h4] <;> omega

/-! ## Crossings -/

theorem calm_crossingEvent (s : State) (k : Nat) (up : Bool) : Calm s (s.crossingEvent k up) := (Calm.refl s).event

theorem calm_stageMgmt (s : State) (c : MgmtChange) : Calm s (s.stageMgmt c) := (Calm.refl s).setMgmt

theorem calm_releaseCold (s : State) : Calm s s.releaseCold := (Calm.refl s).setNvm

theorem sameView_setStat (s : State) (i : Nat) (b : Bool) : SameView s (s.setFlag ⟨Reg.THM_STAT, i, i⟩ b) :=
  (SameView.refl s).regs fun _ ha => reg_setFlag_ne s b (Nat.ne_of_gt (Nat.lt_of_lt_of_le (by decide : 0x21800 < 0x21820) ha.1))

theorem sameRuns_setStat (s : State) {i : Nat} (b : Bool) (h32 : i < 32 := by decide) (hi : 2 ≠ i := by decide) :
    SameRuns s (s.setFlag ⟨Reg.THM_STAT, i, i⟩ b) :=
  ⟨rfl, rfl, rfl, rfl, reg_setFlag_ne s b (by decide : Reg.CAL_STAT ≠ Reg.THM_STAT), flag_setFlag_bits s b h32 hi⟩

/-- The crossings of the cold thresholds leave the readings and the counted samples. -/
theorem crossingEffect_cold (s : State) {k : Nat} (hk : k ≤ 1) (up : Bool) :
    SameView s (s.crossingEffect k up) ∧ SameRuns s (s.crossingEffect k up) := by
  have hcold : SameView s (s.crossingEffect 0 false) ∧ SameRuns s (s.crossingEffect 0 false) := by
    have hv := ((sameView_setStat s 0 true).trans (sameView_setStat _ 6 true)).calm
      ((Calm.refl _).refuseWaiting (keep := true) |>.trans (calm_stageMgmt _ (.coldHold true)))
    have hr := ((sameRuns_setStat s (i := 0) true).trans (sameRuns_setStat _ (i := 6) true)).calm
      ((Calm.refl _).refuseWaiting (keep := true) |>.trans (calm_stageMgmt _ (.coldHold true)))
    exact ⟨SameView.branch ⟨hv.temp, hv.diff, hv.hot⟩ hv, SameRuns.branch ⟨hr.runs, hr.start, hr.now, hr.off, hr.cal, hr.warn⟩ hr⟩
  have hwarm : SameView s (s.crossingEffect 0 true) ∧ SameRuns s (s.crossingEffect 0 true) :=
    ⟨(sameView_setStat s 0 false).calm ((calm_releaseCold _).trans (calm_stageMgmt _ _)),
      (sameRuns_setStat s (i := 0) false).calm ((calm_releaseCold _).trans (calm_stageMgmt _ _))⟩
  rcases Nat.le_one_iff_eq_zero_or_eq_one.mp hk with rfl | rfl
  · cases up
    · exact hcold
    · exact hwarm
  · exact ⟨sameView_setStat s 1 _, sameRuns_setStat s (i := 1) _⟩

theorem testThreshold_cold (s : State) {k : Nat} (hk : k ≤ 1) :
    SameView s (s.testThreshold k) ∧ SameRuns s (s.testThreshold k) := by
  have heffect (up : Bool) : SameView s ((s.crossingEvent k up).crossingEffect k up) ∧
      SameRuns s ((s.crossingEvent k up).crossingEffect k up) := by
    obtain ⟨hv, hr⟩ := crossingEffect_cold (s.crossingEvent k up) hk up
    exact ⟨((SameView.refl s).calm (calm_crossingEvent s k up)).trans hv,
      ((SameRuns.refl s).calm (calm_crossingEvent s k up)).trans hr⟩
  exact ⟨SameView.branch (.refl s) (SameView.branch (heffect _).1 (SameView.branch (heffect _).1 (.refl s))),
    SameRuns.branch (.refl s) (SameRuns.branch (heffect _).2 (SameRuns.branch (heffect _).2 (.refl s)))⟩

/-- Throttling is asked for, and the grace time runs from now. -/
def GraceRuns (t : State) (now : Nat) : Prop :=
  t.flag .THM_STAT_HOT_WARN = true ∧ t.flag .THM_STAT_THROTTLE_REQ = true ∧ t.flag .THM_STAT_GRACE = true ∧
    t.thermal.grace = some now

theorem GraceRuns.calm {s t : State} {now : Nat} (h : GraceRuns s now) (ht : Calm s t) : GraceRuns t now := by
  obtain ⟨hw, hr, hg, hgrace⟩ := h
  have hreg := ht.regs Reg.THM_STAT (.inr (by decide))
  exact ⟨(flag_of_reg hreg).trans hw, (flag_of_reg hreg).trans hr, (flag_of_reg hreg).trans hg,
    (congrArg Thermal.grace ht.thermal).trans hgrace⟩

/-- The state in which THM_STAT shows the crossing of T_HOT_WARN. -/
def warnShown (s : State) : State :=
  ((s.setFlag .THM_STAT_HOT_WARN true).setFlag .THM_STAT_THROTTLE_REQ true).setFlag .THM_STAT_GRACE true

theorem warnShown_spec (s : State) : (warnShown s).flag .THM_STAT_HOT_WARN = true ∧
    (warnShown s).flag .THM_STAT_THROTTLE_REQ = true ∧ (warnShown s).flag .THM_STAT_GRACE = true :=
  ⟨(flag_setFlag_bits _ true).trans ((flag_setFlag_bits _ true).trans (flag_setFlag_bit s true)),
    (flag_setFlag_bits _ true).trans (flag_setFlag_bit _ true), flag_setFlag_bit _ true⟩

theorem crossingEffect_warn (s : State) :
    GraceRuns (s.crossingEffect 2 true) s.now ∧ (s.crossingEffect 2 true).thermal.runs = s.thermal.runs := by
  obtain ⟨hw, hr, hg⟩ := warnShown_spec s
  have hregs : (s.crossingEffect 2 true).regs = (warnShown s).regs := rfl
  exact ⟨⟨(flag_congr hregs _).trans hw, (flag_congr hregs _).trans hr, (flag_congr hregs _).trans hg, rfl⟩, rfl⟩

theorem testThreshold_warn {s : State} (ho : s.off = false) (hw : s.flag .THM_STAT_HOT_WARN = false)
    (hr : s.thmRun 2 true = 8) :
    GraceRuns (s.testThreshold 2) s.now ∧ (s.testThreshold 2).thermal.runs = s.thermal.runs := by
  have hc : s.crossed 2 = false := hw
  have ht : s.testThreshold 2 = (s.crossingEvent 2 true).crossingEffect 2 true := by
    unfold State.testThreshold
    dsimp only
    rw [if_neg (by rw [ho]; decide), if_pos (by rw [hc]; simpa [isCold] using hr)]
    rfl
  have hc := calm_crossingEvent s 2 true
  rw [ht, ← hc.now, ← hc.thermal]
  exact crossingEffect_warn _

/-- A threshold that no run of samples crosses does nothing. -/
theorem testThreshold_idle {s : State} {k : Nat} (h : ∀ up, s.thmRun k up = 0) : s.testThreshold k = s := by
  unfold State.testThreshold
  dsimp only
  rw [h, h]
  simp

theorem calm_settleReady (s : State) : Calm s s.settleReady := by
  have hready (t : State) (f : Fld) (v : Nat) (hf : f.addr = Reg.HIF_READY) : Calm t (t.setFld f v) :=
    ⟨rfl, rfl, rfl, fun a ha => reg_setFld_ne t v (by rw [hf]; exact fun he => by subst he; revert ha; decide)⟩
  exact Calm.branch (.refl s) ((hready s .HIF_READY_READY 1 rfl).trans (hready _ .HIF_READY_START_MS _ rfl))

/-! ## Shutdowns -/

/-- The registers of the temperatures are those of `s`. -/
def SameShown (s t : State) : Prop := ∀ a, ViewReg a → t.reg a = s.reg a

theorem SameShown.refl (s : State) : SameShown s s := fun _ _ => rfl

section
variable {s₀ s t : State} (h : SameShown s₀ s)
include h

theorem SameShown.trans (ht : SameShown s t) : SameShown s₀ t := fun a ha => (ht a ha).trans (h a ha)
theorem SameShown.branch {c : Prop} {inst : Decidable c} (ht : SameShown s₀ t) : SameShown s₀ (if c then s else t) := by
  split <;> assumption
theorem SameShown.foldl {β : Type} {f : State → β → State} {l : List β}
    (hf : ∀ {t x}, SameShown s₀ t → SameShown s₀ (f t x)) : SameShown s₀ (l.foldl f s) :=
  List.foldlRecOn l f (motive := SameShown s₀) h fun _ ht _ _ => hf ht
theorem SameShown.update (hr : t.regs = s.regs := by rfl) : SameShown s₀ t := fun a ha => (reg_congr hr a).trans (h a ha)
theorem SameShown.calm (ht : Calm s t) : SameShown s₀ t :=
  h.trans fun a ha => ht.regs a (.inr (by unfold ViewReg at ha; omega))
theorem SameShown.pinned (ht : Pinned s t) : SameShown s₀ t := h.update (congrArg State.regs ht :)
theorem SameShown.ejSafe : SameShown s₀ s.ejSafe := h.calm ((Quiet.refl s).raiseFast (n := 6) (by decide)).calm

theorem SameShown.stopRun : SameShown s₀ s.stopRun :=
  (h.trans fun a ha => reg_setFlag_ne s false (fun he => by subst he; revert ha; unfold ViewReg; decide) : SameShown s₀
    (s.setFlag .HIF_RUN_RUN false)).update

theorem SameShown.settleTrip : SameShown s₀ s.settleTrip := by
  refine h.branch (h.foldl fun h => ?_)
  exact h.branch ((h.pinned (Pinned.refl _).modWv).branch
    (((h.pinned (Pinned.refl _).modWv.stopEngine).ejSafe).pinned (Pinned.refl _).drive))

theorem SameShown.orderlyShutdown : SameShown s₀ s.orderlyShutdown :=
  (((h.calm ((Quiet.refl s).raiseFast (n := 1) (by decide)).calm).update.stopRun).calm (Calm.refl _).refuseWaiting).settleTrip

theorem SameShown.safeNow : SameShown s₀ s.safeNow := by
  have h1 : SameShown s₀ s.raiseSafe := h.foldl fun h => h.ejSafe.branch h
  refine SameShown.pinned (SameShown.foldl h1.update fun h => ?_) (Pinned.refl _).driveAll
  exact h.pinned (Pinned.refl _).modWv.stopEngine.modEngine

theorem SameShown.burned (ht : Burned s t) : SameShown s₀ t :=
  h.trans fun a ha => ht.regs a fun he => by subst he; revert ha; unfold ViewReg; decide

theorem SameShown.cutJob : SameShown s₀ s.cutJob := by
  unfold State.cutJob
  extract_lets n0 n1 t v
  have ht : SameShown s₀ t := h.update
  split
  · exact h
  · exact ht.branch (ht.burned (Burned.refl _).makeRoom.placeRecord)
  · exact ht.burned (Burned.refl _).writeNvm
  · exact (ht.burned (Burned.refl _).eraseBlock).branch ht

theorem SameShown.goOff : SameShown s₀ s.goOff := h.cutJob.update.pinned (Pinned.refl _).endPulses

theorem SameShown.writeShut {cause cut temp} : SameShown s₀ (s.writeShut cause cut temp) := h.update

theorem SameShown.immediateShutdown : SameShown s₀ s.immediateShutdown := h.stopRun.safeNow.writeShut.goOff

end

theorem SameShown.view {s t : State} (h : SameShown s t) : SameView s t := (SameView.refl s).regs h

/-- A crossing leaves the readings that show. -/
theorem sameView_crossingEffect (s : State) (k : Nat) (up : Bool) : SameView s (s.crossingEffect k up) := by
  match k, up with
  | 0, up => exact (crossingEffect_cold s (by decide) up).1
  | 1, up => exact (crossingEffect_cold s (by decide) up).1
  | 2, true =>
    have hv := ((sameView_setStat s 2 true).trans (sameView_setStat _ 3 true)).trans (sameView_setStat _ 4 true)
    exact ⟨hv.temp, hv.diff, hv.hot⟩
  | 2, false =>
    have hw := sameView_setStat s 2 false
    have hv := (hw.trans (sameView_setStat _ 4 false)).trans (sameView_setStat _ 3 false)
    exact SameView.branch ⟨hv.temp, hv.diff, hv.hot⟩ (hw.calm (calm_stageMgmt _ _))
  | 3, true => exact (SameShown.refl s).orderlyShutdown.view
  | 3, false => exact .refl s
  | 4, true => exact (SameShown.refl s).immediateShutdown.view
  | 4, false => exact .refl s
  | k + 5, up => exact .refl s

theorem sameView_testThreshold (s : State) (k : Nat) : SameView s (s.testThreshold k) := by
  have heffect (up : Bool) : SameView s ((s.crossingEvent k up).crossingEffect k up) :=
    ((SameView.refl s).calm (calm_crossingEvent s k up)).trans (sameView_crossingEffect _ k up)
  exact SameView.branch (.refl s) (SameView.branch (heffect _) (SameView.branch (heffect _) (.refl s)))

/-! ## THERMAL_SAMPLE -/

/-- The state in which the readings of a sample show. -/
def sampleShown (s : State) (l : List SiteSample) : State := (sitesShown s l).showExtremes l (!s.thermal.sampled)

/-- The state in which a sample has counted for the start. -/
def sampleCounted (s : State) (l : List SiteSample) : State :=
  let s1 := sampleShown s l
  State.countStart { s1 with thermal := { s1.thermal with sampled := true } }

/-- The state in which a sample has counted for the thresholds. -/
def runsCounted (s : State) (l : List SiteSample) : State :=
  allCounted (sampleCounted s l) (readingAt l (extremeSite l true)) (readingAt l (extremeSite l false))

/-- The thresholds act. -/
def allTested (s : State) : State := (List.range 5).foldl (fun s k => s.testThreshold k) s

theorem exec_thermalSample {s : State} {dt : Nat} (counts : List Nat) (ha : (s.advance dt).alive = true) :
    exec (.thermalSample dt counts) s = .next (
      let l := (s.advance dt).siteSamples counts
      if (sampleCounted (s.advance dt) l).thermal.startSamples = 0 then sampleCounted (s.advance dt) l
      else if (runsCounted (s.advance dt) l).thermal.startSamples < 8 then runsCounted (s.advance dt) l
      else (allTested (runsCounted (s.advance dt) l)).settleReady) :=
  congrArg Host.Outcome.next (if_neg (by rw [ha]; decide))

theorem sameView_countStart (s : State) : SameView s s.countStart :=
  SameView.branch ⟨fun _ _ => rfl, fun _ _ => rfl, rfl⟩ (.refl s)

theorem sameView_sampleCounted (s : State) (l : List SiteSample) : SameView (sampleShown s l) (sampleCounted s l) :=
  (⟨fun _ _ => rfl, fun _ _ => rfl, rfl⟩ : SameView (sampleShown s l)
    { sampleShown s l with thermal := { (sampleShown s l).thermal with sampled := true } }).trans (sameView_countStart _)

theorem sameView_countRuns (s : State) (k : Nat) (t : Int) : SameView s (s.countRuns k t) :=
  ⟨fun _ _ => rfl, fun _ _ => rfl, rfl⟩

theorem sameView_runsCounted (s : State) (l : List SiteSample) : SameView (sampleShown s l) (runsCounted s l) :=
  (sameView_sampleCounted s l).foldl fun h => h.trans (sameView_countRuns _ _ _)

theorem sameView_allTested (s : State) : SameView s (allTested s).settleReady :=
  ((SameView.refl s).foldl fun h => h.trans (sameView_testThreshold _ _)).calm (calm_settleReady _)

/-- What shows after a sample: every site, and the hot one. -/
theorem sampleShown_spec (s : State) {l : List SiteSample} (hl : l.length = 12) :
    (∀ n, n < 12 → SiteShown (sampleShown s l) l n) ∧ HotShown (sampleShown s l) l ∧ SameRuns s (sampleShown s l) := by
  obtain ⟨hsites, hruns⟩ := sitesShown_spec s hl
  obtain ⟨hhot, hruns', hkept⟩ := showExtremes_spec (sitesShown s l) (l := l) (!s.thermal.sampled)
  exact ⟨fun n hn => hkept n hn (hsites n hn), hhot, hruns.trans hruns'⟩

/-- The eighth sample of the start counts, as every later one. -/
theorem countStart_eighth {s : State} (hc : s.flag .CAL_STAT_POWERUP_DONE = true) (h7 : 7 ≤ s.thermal.startSamples) :
    s.countStart.thermal.startSamples = 8 ∧ s.countStart.thermal.runs = s.thermal.runs ∧ s.countStart.now = s.now ∧
      s.countStart.off = s.off ∧ s.countStart.regs = s.regs := by
  unfold State.countStart
  rw [if_pos hc]
  exact ⟨by dsimp only; omega, rfl, rfl, rfl, rfl⟩

/-- `t` has the samples of the start, the time and the registers of `s`. -/
structure SameStart (s t : State) : Prop where
  start : t.thermal.startSamples = s.thermal.startSamples
  now : t.now = s.now
  off : t.off = s.off
  regs : t.regs = s.regs

theorem sameStart_countRuns (s : State) (k : Nat) (t : Int) : SameStart s (s.countRuns k t) := ⟨rfl, rfl, rfl, rfl⟩

theorem SameStart.trans {s t u : State} (h : SameStart s t) (h' : SameStart t u) : SameStart s u :=
  ⟨h'.start.trans h.start, h'.now.trans h.now, h'.off.trans h.off, h'.regs.trans h.regs⟩

theorem sameStart_allCounted (s : State) (hot cold : Int) : SameStart s (allCounted s hot cold) :=
  List.foldlRecOn _ _ (motive := SameStart s) ⟨rfl, rfl, rfl, rfl⟩ fun t ht k _ =>
    ht.trans (sameStart_countRuns t k (if isCold k then cold else hot))

/-- At the eighth reading in a row from T_HOT_WARN on, and none from T_TRIP on, the grace time begins. -/
theorem allTested_warn {s : State} (ho : s.off = false) (hw : s.flag .THM_STAT_HOT_WARN = false)
    (h8 : s.thmRun 2 true = 8) (h0 : ∀ k, k = 3 ∨ k = 4 → ∀ up, s.thmRun k up = 0) : GraceRuns (allTested s) s.now := by
  have hr : SameRuns s ((s.testThreshold 0).testThreshold 1) :=
    (testThreshold_cold s (by decide)).2.trans (testThreshold_cold _ (by decide)).2
  have hrun (k : Nat) (up : Bool) : ((s.testThreshold 0).testThreshold 1).thmRun k up = s.thmRun k up :=
    congrArg (fun m : Store Nat => m.get (fun _ => 0) (2 * k + boolNat (!up))) hr.runs
  obtain ⟨hg, hruns⟩ := testThreshold_warn (hr.off.trans ho) (hr.warn.trans hw) ((hrun 2 true).trans h8)
  rw [hr.now] at hg
  have hidle (k : Nat) (hk : k = 3 ∨ k = 4) :
      (((s.testThreshold 0).testThreshold 1).testThreshold 2).testThreshold k =
        ((s.testThreshold 0).testThreshold 1).testThreshold 2 :=
    testThreshold_idle fun up => (congrArg (fun m : Store Nat => m.get (fun _ => 0) (2 * k + boolNat (!up))) hruns).trans
      ((hrun k up).trans (h0 k hk up))
  have hall : allTested s =
      (((((s.testThreshold 0).testThreshold 1).testThreshold 2).testThreshold 3).testThreshold 4) := rfl
  rw [hall, hidle 3 (.inl rfl), hidle 4 (.inr rfl)]
  exact hg

/-- The eighth warm sample in a row of a device that has started. -/
theorem runsCounted_warm {s : State} {l : List SiteSample} (hl : l.length = 12) (ho : s.off = false)
    (hc : s.flag .CAL_STAT_POWERUP_DONE = true) (h7 : 7 ≤ s.thermal.startSamples) (hrun : 7 ≤ s.thmRun 2 true)
    (hhot : 1520 ≤ readingAt l (extremeSite l true)) (htrip : readingAt l (extremeSite l true) < 1792)
    (hw : s.flag .THM_STAT_HOT_WARN = false) :
    (sampleCounted s l).thermal.startSamples = 8 ∧ (runsCounted s l).thermal.startSamples = 8 ∧
      GraceRuns (allTested (runsCounted s l)) s.now := by
  obtain ⟨-, -, hs⟩ := sampleShown_spec s hl
  have hcal : ({ sampleShown s l with thermal := { (sampleShown s l).thermal with sampled := true } } : State).flag
      .CAL_STAT_POWERUP_DONE = true := (flag_of_reg hs.cal).trans hc
  obtain ⟨h8, hruns, hnow, hoff, hregs⟩ := countStart_eighth hcal (h7.trans (Nat.le_of_eq hs.start.symm))
  have hrun2 : (sampleCounted s l).thmRun 2 true = s.thmRun 2 true :=
    congrArg (fun m : Store Nat => m.get (fun _ => 0) 4) (hruns.trans hs.runs)
  have hcount := sameStart_allCounted (sampleCounted s l) (readingAt l (extremeSite l true)) (readingAt l (extremeSite l false))
  obtain ⟨hrun8, hrun0⟩ := thmRun_allCounted (s := sampleCounted s l) (readingAt l (extremeSite l false))
    (hrun.trans (Nat.le_of_eq hrun2.symm)) hhot htrip
  have hwarn : (runsCounted s l).flag .THM_STAT_HOT_WARN = false :=
    (flag_congr (hcount.regs.trans hregs) _).trans (hs.warn.trans hw)
  have hg := allTested_warn ((hcount.off.trans (hoff.trans hs.off)).trans ho) hwarn hrun8 hrun0
  have hn : (runsCounted s l).now = s.now := hcount.now.trans (hnow.trans hs.now)
  exact ⟨h8, hcount.start.trans h8, hn ▸ hg⟩

theorem length_siteSamples (s : State) (counts : List Nat) : (s.siteSamples counts).length = 12 := by
  simp [State.siteSamples]

theorem off_of_alive {s : State} (h : s.alive = true) : s.off = false := by
  unfold State.alive at h
  simp at h
  exact h.2

/-- The state after a sample, which shows what the sample gave. -/
theorem exec_thermalSample_view {s : State} {dt : Nat} (counts : List Nat) (ha : (s.advance dt).alive = true) :
    ∃ t, exec (.thermalSample dt counts) s = .next t ∧
      SameView (sampleShown (s.advance dt) ((s.advance dt).siteSamples counts)) t := by
  refine ⟨_, exec_thermalSample counts ha, ?_⟩
  exact SameView.branch (sameView_sampleCounted _ _)
    (SameView.branch (sameView_runsCounted _ _) ((sameView_runsCounted _ _).trans (sameView_allTested _)))

theorem exec_thermalSample_warm {s : State} {dt : Nat} (counts : List Nat) (ha : (s.advance dt).alive = true)
    {l : List SiteSample} (hl : (s.advance dt).siteSamples counts = l)
    (h1 : (sampleCounted (s.advance dt) l).thermal.startSamples = 8)
    (h2 : (runsCounted (s.advance dt) l).thermal.startSamples = 8) :
    exec (.thermalSample dt counts) s = .next (allTested (runsCounted (s.advance dt) l)).settleReady := by
  rw [exec_thermalSample counts ha, hl]
  dsimp only
  rw [if_neg (by rw [h1]; decide), if_neg (by rw [h2]; decide)]

/-! ## GRACE_EXPIRY and SHUTDOWN_COMPLETE -/

/-- The state in which the grace time is over. -/
def graceOver (s : State) : State :=
  let s1 := s.setFlag .THM_STAT_GRACE false
  { s1 with thermal := { s1.thermal with grace := none } }.stageMgmt (.throttle true)

theorem exec_graceExpiry {s : State} {dt t0 : Nat} (hg : (s.advance dt).thermal.grace = some t0)
    (ha : (s.advance dt).alive = true) (ht : t0 + 1000000 * (s.advance dt).fld .THM_GRACE_GRACE ≤ (s.advance dt).now) :
    exec (.graceExpiry dt) s = .next (graceOver (s.advance dt)) := by
  refine congrArg Host.Outcome.next ?_
  dsimp only
  rw [hg]
  exact if_pos (by rw [ha, decide_eq_true ht]; rfl)

theorem graceOver_spec (s : State) : (graceOver s).flag .THM_STAT_GRACE = false ∧ (graceOver s).thermal.grace = none ∧
    (graceOver s).mgmt = s.mgmt ++ [⟨.throttle true, timeAfter s.tb 2000⟩] ∧ RegsKept s (graceOver s) (· = Reg.THM_STAT) :=
  have hregs : (graceOver s).regs = (s.setFlag .THM_STAT_GRACE false).regs := rfl
  ⟨(flag_congr hregs _).trans (flag_setFlag_bit s false), rfl, rfl, fun a ha =>
    (reg_congr hregs a).trans (reg_setFlag_ne s false ha)⟩

/-- `t` has the NVM, the power state and the trip of `s`. -/
structure SameTrip (s t : State) : Prop where
  nvm : t.nvm = s.nvm
  thermal : t.thermal = s.thermal

theorem SameTrip.trans {s t u : State} (h : SameTrip s t) (h' : SameTrip t u) : SameTrip s u :=
  ⟨h'.nvm.trans h.nvm, h'.thermal.trans h.thermal⟩

theorem SameTrip.pinned {s t : State} (h : Pinned s t) : SameTrip s t := ⟨h.nvm, (congrArg State.thermal h :)⟩
theorem SameTrip.quiet {s t : State} (h : Quiet s t) : SameTrip s t :=
  ⟨(congrArg State.nvm h.rest :), (congrArg State.thermal h.rest :)⟩

theorem sameTrip_settleTrip (s : State) : SameTrip s s.settleTrip := by
  have h0 : SameTrip s s := ⟨rfl, rfl⟩
  unfold State.settleTrip
  split
  · exact h0
  · refine List.foldlRecOn _ _ (motive := SameTrip s) h0 fun t ht r _ => ?_
    split
    · exact ht
    · split
      · exact ht.trans (.pinned (Pinned.refl t).modWv)
      · exact ht.trans ((SameTrip.pinned (Pinned.refl t).modWv.stopEngine).trans
          ((SameTrip.quiet ((Quiet.refl _).raiseFast (n := 6) (by decide))).trans (.pinned (Pinned.refl _).drive)))

theorem Pinned.link {s t : State} (h : Pinned s t) : t.pcie.link = s.pcie.link := (congrArg (fun t : State => t.pcie.link) h :)

theorem switchOff_spec (s : State) : (switchOff s).off = true ∧ (switchOff s).pcie.link = .down ∧
    (switchOff s).nvm = { s.nvm with jobs := [], cold := [] } ∧ (switchOff s).power = ⟨none, false, false⟩ :=
  ⟨rfl, rfl, rfl, rfl⟩

/-- A device without a program sequence under way that goes OFF. -/
theorem goOff_of_idle {s : State} (h : s.nvm.jobs = []) :
    s.goOff.off = true ∧ s.goOff.pcie.link = .down ∧ s.goOff.nvm = { s.nvm with jobs := [], cold := [] } ∧
      s.goOff.power = ⟨none, false, false⟩ := by
  have hp : Pinned (switchOff s.cutJob) s.goOff := goOff_eq s ▸ (Pinned.refl _).endPulses
  rw [cutJob_of_idle h] at hp
  obtain ⟨hoff, hlink, hnvm, hpower⟩ := switchOff_spec s
  exact ⟨hp.off.trans hoff, hp.link.trans hlink, hp.nvm.trans hnvm, hp.power.trans hpower⟩

theorem writeShut_spec (s : State) (cause : Nat) (cut : Bool) (temp : Nat) :
    (s.writeShut cause cut temp).nvm.jobs = s.nvm.jobs ∧ (s.writeShut cause cut temp).nvm.shutCause = cause ∧
      (s.writeShut cause cut temp).nvm.shutCut = cut ∧ (s.writeShut cause cut temp).nvm.shutTemp = temp := ⟨rfl, rfl, rfl, rfl⟩

theorem exec_shutdownComplete {s : State} {dt : Nat} (ha : (s.advance dt).alive = true)
    (ht : (s.advance dt).thermal.trip.isSome = true) (hn : (s.advance dt).noPulse = true)
    (hj : (s.advance dt).nvm.jobs = []) (hp : (s.advance dt).ej.pulses = [])
    (hr : ∀ r, r < 16 → ((s.advance dt).settleTrip.wvRole r).unacked = []) :
    exec (.shutdownComplete dt) s = .next
      (((s.advance dt).settleTrip.writeShut 1 false (s.advance dt).settleTrip.thermal.tripTemp).goOff) := by
  have hall : ((List.range 16).all fun r => ((s.advance dt).settleTrip.wvRole r).unacked.isEmpty) = true :=
    List.all_eq_true.mpr fun r hmem => by rw [hr r (List.mem_range.mp hmem)]; rfl
  refine congrArg Host.Outcome.next ((if_pos ?_).trans (if_pos hall))
  rw [ha, ht, hn, hj, hp]
  rfl

/-- The device that has settled for its shutdown goes off. -/
theorem shutDown_spec {u : State} (hj : u.nvm.jobs = []) :
    let t := (u.settleTrip.writeShut 1 false u.settleTrip.thermal.tripTemp).goOff
    t.off = true ∧ t.pcie.link = .down ∧ t.nvm.shutCause = 1 ∧ t.nvm.shutCut = false ∧
      t.nvm.shutTemp = u.thermal.tripTemp ∧ t.power = ⟨none, false, false⟩ := by
  obtain ⟨hnvm, hthermal⟩ := sameTrip_settleTrip u
  obtain ⟨hjobs, hcause, hcut, htemp⟩ := writeShut_spec u.settleTrip 1 false u.settleTrip.thermal.tripTemp
  obtain ⟨hoff, hlink, hn', hpower⟩ := goOff_of_idle (hjobs.trans ((congrArg Nvm.jobs hnvm).trans hj))
  refine ⟨hoff, hlink, ?_, ?_, ?_, hpower⟩
  · rw [hn']; exact hcause
  · rw [hn']; exact hcut
  · rw [hn']; exact htemp.trans (congrArg Thermal.tripTemp hthermal)

/-- Settles O50, command by command. -/
theorem temperaturesAreShownAndActOn : Obligations.TemperaturesAreShownAndActOn := by
  unfold Obligations.TemperaturesAreShownAndActOn
  refine ⟨?sample, ?grace, ?shutdown⟩
  case sample =>
    intro s dt counts u l ha
    have hl : l.length = 12 := length_siteSamples u counts
    obtain ⟨hsites, hhot, -⟩ := sampleShown_spec u hl
    obtain ⟨-, hmax⟩ := extremeSite_hot l
    obtain ⟨t, hx, hv⟩ := exec_thermalSample_view counts ha
    have hh : HotShown t l := hhot.congr hv.hot
    refine ⟨t, hx, fun n hn => (hsites n hn).view hv hn, ?_, ?_, ?_⟩
    · rw [hh.1]; exact hmax
    · rw [hh.1]; exact hh.2
    · rw [hh.1]
      intro hc h7 hrun h1 h2 hw
      obtain ⟨hstart, hstart', hg⟩ := runsCounted_warm hl (off_of_alive ha) hc h7 hrun h1 h2 hw
      obtain rfl := Host.Outcome.next.inj (hx.symm.trans (exec_thermalSample_warm counts ha rfl hstart hstart'))
      exact hg.calm (calm_settleReady _)
  case grace =>
    exact fun s dt t0 hg ha ht => ⟨_, exec_graceExpiry hg ha ht, graceOver_spec _⟩
  case shutdown =>
    exact fun s dt ha ht hn hj hp hr => ⟨_, exec_shutdownComplete ha ht hn hj hp hr, shutDown_spec hj⟩

end Sys2Proof.Safety
end

section
/-! PROOF. The clock loops: their losses and locks, the stand-in, and the loss of the reference (O48). -/

namespace Sys2Proof.Safety

open Sys2Proof.Machine

/-! ## What shows the loops

Events, records, tests and frames leave alone what the loops show: their registers, their roles, the timebase and its
status. A step of the loops is then described by the few writes that matter, up to the rest. -/

/-- The registers TB_STAT, PLL_STAT, PLL_ROLE, PLL_REF_LOSS and PLL_HOLDOVER. -/
def LoopReg (a : Nat) : Prop := a = 0x408 ∨ a = 0x21000 ∨ a = 0x21004 ∨ a = 0x2101c ∨ a = 0x21020

theorem not_loopReg_above {a : Nat} (h : 0x21020 < a) : ¬ LoopReg a := by unfold LoopReg; omega

theorem not_loopReg_gate {n : Nat} (h : n < 8) : ¬ LoopReg (0x800 + 0x10 * n) := by unfold LoopReg; omega

/-- `s` has the loops and the timebase of `s₀`, at the same time. -/
structure SameLoops (s₀ s : State) : Prop where
  clocks : s.clocks = s₀.clocks
  tb : s.tb = s₀.tb
  started : s.tbStarted = s₀.tbStarted
  now : s.now = s₀.now
  regs : ∀ a, LoopReg a → s.reg a = s₀.reg a

theorem SameLoops.refl (s : State) : SameLoops s s := ⟨rfl, rfl, rfl, rfl, fun _ _ => rfl⟩

theorem SameLoops.trans {s t u : State} (h : SameLoops s t) (h' : SameLoops t u) : SameLoops s u :=
  ⟨h'.clocks.trans h.clocks, h'.tb.trans h.tb, h'.started.trans h.started, h'.now.trans h.now,
    fun a ha => (h'.regs a ha).trans (h.regs a ha)⟩

theorem SameLoops.branch {s₀ s t : State} {c : Prop} {inst : Decidable c} (hs : SameLoops s₀ s) (ht : SameLoops s₀ t) :
    SameLoops s₀ (if c then s else t) := by split <;> assumption

/-- A fold over a state. -/
theorem SameLoops.foldl {β : Type} {s₀ s : State} {f : State → β → State} {l : List β} (h : SameLoops s₀ s)
    (hf : ∀ {t x}, SameLoops s₀ t → SameLoops s₀ (f t x)) : SameLoops s₀ (l.foldl f s) :=
  List.foldlRecOn l f (motive := SameLoops s₀) h fun _ ht _ _ => hf ht

theorem SameLoops.fld {s t : State} (h : SameLoops s t) {f : Fld} (hf : LoopReg f.addr) : t.fld f = s.fld f :=
  fld_of_reg (h.regs _ hf)
theorem SameLoops.flag {s t : State} (h : SameLoops s t) {f : Fld} (hf : LoopReg f.addr) : t.flag f = s.flag f :=
  flag_of_reg (h.regs _ hf)

section
variable {s₀ s : State} (h : SameLoops s₀ s)
include h

theorem SameLoops.setReg {a v} (ha : ¬ LoopReg a) : SameLoops s₀ (s.setReg a v) :=
  ⟨h.clocks, h.tb, h.started, h.now, fun b hb => (reg_setReg_ne s v fun he => by subst he; exact ha hb).trans (h.regs b hb)⟩
theorem SameLoops.quiet {t} (ht : Quiet s t) : SameLoops s₀ t :=
  ⟨(congrArg State.clocks ht.rest :).trans h.clocks, ht.tb.trans h.tb, (congrArg State.tbStarted ht.rest :).trans h.started,
    (congrArg State.now ht.rest :).trans h.now, fun a ha => (ht.regs a (by
      have hd : Reg.HIF_NORING_DROP < 0x400 := by decide
      unfold LoopReg at ha; unfold EventReg; omega)).trans (h.regs a ha)⟩
theorem SameLoops.filed {t} (ht : Filed s t) : SameLoops s₀ t :=
  ⟨(congrArg State.clocks ht.rest :).trans h.clocks, ht.tb.trans h.tb, (congrArg State.tbStarted ht.rest :).trans h.started,
    (congrArg State.now ht.rest :).trans h.now, fun a ha => (ht.regs a fun he => by
      subst he; revert ha; unfold LoopReg; decide).trans (h.regs a ha)⟩
theorem SameLoops.pinned {t} (ht : Pinned s t) : SameLoops s₀ t :=
  ⟨(congrArg State.clocks ht :).trans h.clocks, (congrArg State.tb ht :).trans h.tb,
    (congrArg State.tbStarted ht :).trans h.started, (congrArg State.now ht :).trans h.now,
    fun a ha => (reg_congr (congrArg State.regs ht :) a).trans (h.regs a ha)⟩
theorem SameLoops.setSpares {x} : SameLoops s₀ { s with spares := x } := ⟨h.clocks, h.tb, h.started, h.now, h.regs⟩
theorem SameLoops.setPcie {x} : SameLoops s₀ { s with pcie := x } := ⟨h.clocks, h.tb, h.started, h.now, h.regs⟩
theorem SameLoops.setEj {x} : SameLoops s₀ { s with ej := x } := ⟨h.clocks, h.tb, h.started, h.now, h.regs⟩
theorem SameLoops.setFrames {x} : SameLoops s₀ { s with frames := x } := ⟨h.clocks, h.tb, h.started, h.now, h.regs⟩
theorem SameLoops.withUnits {x q} : SameLoops s₀ (withUnits s x q) := h.setSpares
theorem SameLoops.event {code status source args} : SameLoops s₀ (s.event code status source args) :=
  h.quiet (Quiet.refl s).event
theorem SameLoops.hand {kind cam bs tick tag} : SameLoops s₀ (s.hand kind cam bs tick tag) := h.quiet (Quiet.refl s).hand
theorem SameLoops.free : SameLoops s₀ s.free.2 := h.quiet (Quiet.refl s).free
theorem SameLoops.raiseFast {n} (hn : n ≤ 16 := by decide) : SameLoops s₀ (s.raiseFast n) :=
  h.quiet ((Quiet.refl s).raiseFast hn)
theorem SameLoops.finishWaiting {notify status result} : SameLoops s₀ (s.finishWaiting notify status result) :=
  h.quiet ((Quiet.refl s).post (Posted.refl s).finishWaiting)
theorem SameLoops.faultRecord {r} : SameLoops s₀ (s.faultRecord r) := h.filed (Filed.faultRecord s r)
theorem SameLoops.setUnit {cls u v} : SameLoops s₀ (s.setUnit cls u v) := by
  obtain ⟨q, hf⟩ := setUnit_filed s cls u v
  exact h.withUnits.filed hf
theorem SameLoops.setHolder {cls r u} : SameLoops s₀ (s.setHolder cls r u) := h.setSpares.setSpares
theorem SameLoops.bumpEpoch {cls r} : SameLoops s₀ (s.bumpEpoch cls r) := h.setSpares
theorem SameLoops.setNoSpare {cls r b} : SameLoops s₀ (s.setNoSpare cls r b) :=
  h.setSpares.setReg (not_loopReg_above (show 0x21020 < 0x22004 + 0x8 * cls by omega))
theorem SameLoops.leftWithout {cls r u source} : SameLoops s₀ (s.leftWithout cls r u source) :=
  h.event.faultRecord.setNoSpare
theorem SameLoops.loopEvent {r kind step} : SameLoops s₀ (s.loopEvent r kind step) := h.event
theorem SameLoops.loopAlone {r} : SameLoops s₀ (s.loopAlone r) := h.leftWithout
theorem SameLoops.releaseItems : SameLoops s₀ s.releaseItems := branch h (h.setPcie.foldl fun h => h.hand)

theorem SameLoops.testCounted {t verdict patterns} : SameLoops s₀ (testCounted s t verdict patterns) := by
  have h0 : SameLoops s₀ (withoutTest s t) := h.setSpares
  have hv : ¬ LoopReg (verdictCount verdict).addr := not_loopReg_above (by
    match verdict with
    | 0 => decide
    | 1 => decide
    | n + 2 => exact (by decide : 0x21020 < Reg.SPR_ST_INCOMPLETE))
  have hn : ¬ LoopReg Reg.SPR_ST_LAST ∧ ¬ LoopReg Reg.SPR_ST_STAT ∧ ¬ LoopReg Reg.BIST_PATCNT := by
    unfold LoopReg; decide
  unfold Safety.testCounted showTest
  split
  · exact ((((h0.setReg hn.1).setReg hn.2.1).setReg hn.2.2).setReg hv)
  · exact ((((h0.setReg hn.1).setReg hn.2.1).setReg hn.2.2).setReg hv)
theorem SameLoops.endTestWith {t verdict patterns after} : SameLoops s₀ (s.endTestWith t verdict patterns after) := by
  rw [endTestWith_eq]
  have h2 : SameLoops s₀ ((Safety.testCounted s t verdict patterns).setUnit t.cls t.unit after) := h.testCounted.setUnit
  exact (branch (branch h2.faultRecord h2) h2.faultRecord).finishWaiting
theorem SameLoops.retireTested {cls u} : SameLoops s₀ (s.retireTested cls u) := by
  unfold State.retireTested
  split
  · exact h.free.endTestWith.setReg (by unfold LoopReg; decide)
  · exact h.setUnit
theorem SameLoops.takenFromTest {cls u r} : SameLoops s₀ (s.takenFromTest cls u r) := by
  unfold State.takenFromTest
  split
  · exact h.free.endTestWith
  · exact h.setUnit

/-! ### Frames -/

theorem SameLoops.modFrame {tick f} : SameLoops s₀ (s.modFrame tick f) := h.setFrames
theorem SameLoops.markLost {f} : SameLoops s₀ (s.markLost f) := h.modFrame
theorem SameLoops.markLosses : SameLoops s₀ s.markLosses := h.foldl fun h => h.markLost
theorem SameLoops.cutFrame : SameLoops s₀ s.cutFrame := by
  have h1 : SameLoops s₀ ((List.range 8).foldl (fun s f => s.setFirefly f { s.firefly f with active := false }) s) :=
    h.foldl fun h => h.pinned (Pinned.refl _).setFirefly
  unfold State.cutFrame
  extract_lets s1 s2
  have h2 : SameLoops s₀ s2 := by
    dsimp only [s2]
    split
    · exact branch (h1.modFrame) (h1.modFrame.markLost)
    · exact h1
  exact h2.pinned ((Pinned.foldl (Pinned.refl _) fun h => h.setTrigOut).settleTrigs.settleFireflies)
theorem SameLoops.holdCounters : SameLoops s₀ s.holdCounters :=
  List.foldlRecOn _ _ (motive := SameLoops s₀) h fun _ ht _ hn =>
    branch (ht.setReg (not_loopReg_gate (List.mem_range.mp hn))) ht

end

/-! ## The writes that matter -/

/-- The same write keeps two states alike. -/
theorem SameLoops.setFld_both {s t : State} (h : SameLoops s t) (f : Fld) (v : Nat) : SameLoops (s.setFld f v) (t.setFld f v) := by
  refine ⟨h.clocks, h.tb, h.started, h.now, fun a ha => ?_⟩
  by_cases hf : a = f.addr
  · subst hf
    rw [reg_setFld_self, reg_setFld_self, h.regs _ ha]
  · rw [reg_setFld_ne t v hf, reg_setFld_ne s v hf, h.regs a ha]

theorem SameLoops.setFlag_both {s t : State} (h : SameLoops s t) (f : Fld) (b : Bool) :
    SameLoops (s.setFlag f b) (t.setFlag f b) := h.setFld_both f _

/-- The state in which the timebase has stepped by the time since `t`. -/
def stepped (s : State) (t : Nat) : State :=
  (({ s with tb := timeAfter s.tb (s.now - t) } : State).setFlag .TB_STAT_HELD false).setFlag .TB_STAT_STEPPED true

theorem stepTimebase_loops (s : State) (t : Nat) : SameLoops (stepped s t) (s.stepTimebase t) := by
  have h1 : SameLoops ({ s with tb := timeAfter s.tb (s.now - t) } : State)
      (({ s with tb := timeAfter s.tb (s.now - t) } : State).setWide Reg.TB_STEP_LO (s.now - t)) :=
    ((SameLoops.refl _).setReg (by unfold LoopReg; decide)).setReg (by unfold LoopReg; decide)
  have h2 := ((h1.setFlag_both .TB_STAT_HELD false).setFlag_both .TB_STAT_STEPPED true).raiseFast (n := 13)
  exact (h2.foldl fun h => h.pinned (Pinned.refl _).modWv).setEj

theorem lossGated_stepped (s : State) (t r : Nat) : (stepped s t).lossGated r = s.lossGated r := rfl

theorem loopLocked_stepped (s : State) (t p : Nat) : (stepped s t).loopLocked p = s.loopLocked p :=
  congrArg (bitOf · p) ((fld_setFld_ne (f := .TB_STAT_STEPPED) (g := .PLL_STAT_LOCKED) _ _ (by decide)).trans
    (fld_setFld_ne (f := .TB_STAT_HELD) (g := .PLL_STAT_LOCKED) _ _ (by decide)))

theorem holdTimebase_loops (s : State) : SameLoops (s.setFlag .TB_STAT_HELD true) s.holdTimebase :=
  (SameLoops.refl _).raiseFast.holdCounters.cutFrame

theorem ungate_loops (s : State) (r : Nat) : SameLoops (s.setGated r none false) (s.ungate r) :=
  (SameLoops.refl _).releaseItems

theorem gated_setGated (s : State) (r : Nat) (x : Option Nat) (b : Bool) (k : Nat) :
    (s.setGated r x b).clocks.gated.get (fun _ => none) k = if k = r then x else s.clocks.gated.get (fun _ => none) k :=
  Store.get_set _ _ _ _ _

theorem lossGated_setGated (s : State) (r : Nat) (x : Option Nat) (b : Bool) (k : Nat) :
    (s.setGated r x b).lossGated k = if k = r then x.isSome else s.lossGated k := by
  unfold State.lossGated
  rw [gated_setGated]
  split <;> rfl

theorem noStandIn_setGated (s : State) (r : Nat) (x : Option Nat) (b : Bool) (k : Nat) :
    (s.setGated r x b).noStandIn k = if k = r then b else s.noStandIn k := Store.get_set _ _ _ _ _

theorem lossGated_congr {s t : State} (h : t.clocks.gated = s.clocks.gated) (r : Nat) : t.lossGated r = s.lossGated r :=
  congrArg (fun m : Store (Option Nat) => (m.get (fun _ => none) r).isSome) h

theorem noStandIn_congr {s t : State} (h : t.clocks.noStandIn = s.clocks.noStandIn) (r : Nat) :
    t.noStandIn r = s.noStandIn r := congrArg (fun m : Store Bool => m.get (fun _ => false) r) h

theorem SameLoops.lossGated {s t : State} (h : SameLoops s t) (r : Nat) : t.lossGated r = s.lossGated r :=
  lossGated_congr (congrArg Clocks.gated h.clocks) r
theorem SameLoops.noStandIn {s t : State} (h : SameLoops s t) (r : Nat) : t.noStandIn r = s.noStandIn r :=
  noStandIn_congr (congrArg Clocks.noStandIn h.clocks) r
theorem SameLoops.loopLocked {s t : State} (h : SameLoops s t) (p : Nat) : t.loopLocked p = s.loopLocked p :=
  congrArg (bitOf · p) (h.fld (f := .PLL_STAT_LOCKED) (.inr (.inl rfl)))

theorem roleField_addr (k : Nat) : (roleField k).addr = Reg.PLL_ROLE := by
  unfold roleField; split <;> rfl

theorem SameLoops.loopOf {s t : State} (h : SameLoops s t) (k : Nat) : t.loopOf k = s.loopOf k :=
  h.fld (.inr (.inr (.inl (roleField_addr k))))

theorem loopOf_setFld_ne (s : State) {f : Fld} (v k : Nat) (hf : Reg.PLL_ROLE ≠ f.addr) : (s.setFld f v).loopOf k = s.loopOf k :=
  fld_setFld_ne s v (by rw [roleField_addr]; exact hf)

/-- A field of PLL_ROLE above the roles leaves them. -/
theorem loopOf_setFld_above (s : State) {hi lo : Nat} (v k : Nat) (hlo : 6 ≤ lo := by decide) (h : lo ≤ hi := by decide)
    (h32 : hi < 32 := by decide) : (s.setFld ⟨Reg.PLL_ROLE, hi, lo⟩ v).loopOf k = s.loopOf k := by
  have hk : (roleField k).hi < lo := by
    unfold roleField; split <;> simp <;> omega
  exact fld_setFld_apart s v (roleField_addr k) h h32 (.inl hk)

theorem loopLocked_setLocked (s : State) {p : Nat} (hp : p < 4) (b : Bool) (q : Nat) :
    (s.setLocked p b).loopLocked q = if q = p then b else s.loopLocked q := by
  unfold State.loopLocked State.setLocked
  rw [fld_setFld_self _ _ _ (by decide) (by decide), bitOf_eq_testBit, Nat.testBit_mod_two_pow, ← bitOf_eq_testBit]
  by_cases hq : q = p
  · subst hq
    rw [if_pos rfl, bitOf_putBit_self]
    simp [Fld.width, hp]
  · rw [if_neg hq, bitOf_putBit_ne _ _ _ _ hq]
    by_cases h4 : q < 4
    · simp [Fld.width, h4]
    · have hz : bitOf (s.fld .PLL_STAT_LOCKED) q = false := by
        unfold State.fld
        rw [bitOf_eq_testBit, testBit_getBits]
        simp
        omega
      rw [hz, Bool.and_false]

/-- The loop of a role, and the standby loop, is one of the four. -/
theorem loopOf_lt (s : State) (k : Nat) : s.loopOf k < 4 := by
  unfold State.loopOf State.fld getBits
  unfold roleField
  split <;> exact Nat.mod_lt _ (by decide)

theorem standby_lt (s : State) : s.fld .PLL_ROLE_STANDBY < 4 := Nat.mod_lt _ (by decide)

/-! ## The reference is good again -/

/-- The state in which the holdover began at `x`, or there is none. -/
def withHold (s : State) (x : Option Nat) : State := { s with clocks := { s.clocks with holdSince := x } }

theorem leaveHoldover_eq {s : State} {t0 : Nat} (h : s.clocks.holdSince = some t0) :
    s.leaveHoldover = (((withHold s none).setFlag .PLL_STAT_HOLDOVER false).setFld .PLL_HOLDOVER_VALUE
      (min (2 ^ 32 - 1) ((s.now - t0) / 1000))).setFlag .PLL_STAT_DRIFTED true := by
  unfold State.leaveHoldover
  rw [h]
  rfl

theorem leaveHoldover_of_none {s : State} (h : s.clocks.holdSince = none) : s.leaveHoldover = s := by
  unfold State.leaveHoldover
  rw [h]

theorem leaveHoldover_spec {s : State} {t0 : Nat} (h : s.clocks.holdSince = some t0) :
    s.leaveHoldover.flag .PLL_STAT_HOLDOVER = false ∧ s.leaveHoldover.flag .PLL_STAT_DRIFTED = true ∧
      s.leaveHoldover.fld .PLL_HOLDOVER_VALUE = min (2 ^ 32 - 1) ((s.now - t0) / 1000) := by
  rw [leaveHoldover_eq h]
  refine ⟨?_, flag_setFlag_bit _ true, ?_⟩
  · refine (flag_setFlag_bits _ true).trans (Eq.trans ?_
      (flag_setFlag_bit (a := Reg.PLL_STAT) (i := 9) (withHold s none) false))
    exact flag_of_reg (reg_setFld_ne _ _ (by decide))
  · refine (fld_setFld_ne _ _ (by decide)).trans ((fld_setFld_self _ .PLL_HOLDOVER_VALUE _ (by decide) (by decide)).trans ?_)
    exact Nat.mod_eq_of_lt (by show _ < 2 ^ 32; omega)

/-- The end of a holdover leaves the gates, the reference, and which loops are locked. -/
theorem leaveHoldover_kept (s : State) :
    s.leaveHoldover.clocks.refLost = s.clocks.refLost ∧ (∀ r, s.leaveHoldover.lossGated r = s.lossGated r) ∧
      (∀ p, s.leaveHoldover.loopLocked p = s.loopLocked p) ∧
      s.leaveHoldover.flag .PLL_STAT_REF_OK = s.flag .PLL_STAT_REF_OK := by
  cases h : s.clocks.holdSince with
  | none => rw [leaveHoldover_of_none h]; exact ⟨rfl, fun _ => rfl, fun _ => rfl, rfl⟩
  | some t0 =>
    rw [leaveHoldover_eq h]
    generalize min (2 ^ 32 - 1) ((s.now - t0) / 1000) = v
    refine ⟨rfl, fun _ => rfl, fun p => congrArg (bitOf · p) ?_, ?_⟩
    · refine (fld_setFld_bits _ _).trans (Eq.trans ?_
        (fld_setFld_bits (a := Reg.PLL_STAT) (hi := 9) (lo := 9) (withHold s none) (boolNat false)))
      exact fld_of_reg (reg_setFld_ne _ _ (by decide))
    · refine (flag_setFlag_bits _ true).trans (Eq.trans ?_
        (flag_setFlag_bits (a := Reg.PLL_STAT) (i := 9) (withHold s none) false))
      exact flag_of_reg (reg_setFld_ne _ _ (by decide))

/-- The state in which REF_IN is lost, or good again. -/
def withRef (s : State) (lost : Bool) : State :=
  ({ s with clocks := { s.clocks with refLost := lost } } : State).setFlag .PLL_STAT_REF_OK (!lost)

theorem refInGood_spec {s : State} {dt : Nat} (ha : (s.advance dt).alive = true) (hr : (s.advance dt).clocks.refLost = true) :
    ∃ t, exec (.refInGood dt) s = .next t ∧ SameLoops (withRef (s.advance dt) false).leaveHoldover t := by
  refine ⟨_, congrArg Host.Outcome.next (if_pos (by rw [ha, hr]; rfl)), ?_⟩
  exact (SameLoops.refl _).free.loopEvent

theorem withRef_spec (s : State) (lost : Bool) :
    (withRef s lost).clocks.refLost = lost ∧ (withRef s lost).flag .PLL_STAT_REF_OK = !lost :=
  ⟨rfl, flag_setFlag_bit _ _⟩

theorem refInGood_holds {s : State} {dt : Nat} (ha : (s.advance dt).alive = true)
    (hr : (s.advance dt).clocks.refLost = true) :
    ∃ t, exec (.refInGood dt) s = .next t ∧ t.clocks.refLost = false ∧ t.flag .PLL_STAT_REF_OK = true ∧
      (∀ t0, (s.advance dt).clocks.holdSince = some t0 → t.flag .PLL_STAT_HOLDOVER = false ∧
        t.flag .PLL_STAT_DRIFTED = true ∧
        t.fld .PLL_HOLDOVER_VALUE = min (2 ^ 32 - 1) (((s.advance dt).now - t0) / 1000)) := by
  obtain ⟨t, hx, hl⟩ := refInGood_spec ha hr
  obtain ⟨hlost, hok⟩ := withRef_spec (s.advance dt) false
  obtain ⟨hkeptLost, -, -, hkeptOk⟩ := leaveHoldover_kept (withRef (s.advance dt) false)
  have hstat : LoopReg Reg.PLL_STAT := .inr (.inl rfl)
  refine ⟨t, hx, ?_, (hl.flag hstat).trans (hkeptOk.trans hok), fun t0 h0 => ?_⟩
  · rw [hl.clocks, hkeptLost, hlost]
  · obtain ⟨hhold, hdrift, hvalue⟩ := leaveHoldover_spec (s := withRef (s.advance dt) false) h0
    exact ⟨(hl.flag hstat).trans hhold, (hl.flag hstat).trans hdrift,
      (hl.fld (.inr (.inr (.inr (.inr rfl))))).trans hvalue⟩

/-! ## A loop locks -/

/-- The state in which a loop has locked. -/
def relocked (s : State) (p : Nat) : State :=
  { s.setLocked p true with
    tbStarted := s.tbStarted || s.roleOf p == some 2
    clocks := { s.clocks with lostRole := s.clocks.lostRole.set (fun _ => 0) p 0 } }

theorem loopLocked_relocked (s : State) {p : Nat} (hp : p < 4) : (relocked s p).loopLocked p = true :=
  (loopLocked_setLocked s hp true p).trans (if_pos rfl)

theorem exec_loopRelock {s : State} {dt : Nat} {p : Fin 4} (ha : (s.advance dt).alive = true)
    (hr : (s.advance dt).clocks.refLost = false) (hl : (s.advance dt).loopLocked p.val = false) :
    exec (.loopRelock dt p) s = .next (match (s.advance dt).roleOf p.val with
      | some r => if (s.advance dt).standby && r != 2 then s.advance dt else (relocked (s.advance dt) p.val).resumeRole r
      | none =>
        if bitOf ((s.advance dt).fld .PLL_ROLE_RETIRED) p.val || !(s.advance dt).flag .PLL_CTL_STANDBY_EN ||
          (s.advance dt).standby then s.advance dt
        else if ((s.advance dt).standbyLoop).isSome then relocked (s.advance dt) p.val
        else (relocked (s.advance dt) p.val).becomeStandby p.val ((s.advance dt).clocks.lostRole.get (fun _ => 0) p.val)) := by
  refine congrArg Host.Outcome.next ((if_neg (by rw [ha, hr, hl]; decide)).trans ?_)
  rfl

/-- The domain of a role that had no stand-in runs again. -/
theorem resumeRole_spec (s : State) (r : Nat) :
    (∀ p, (s.resumeRole r).loopLocked p = s.loopLocked p) ∧ (s.noStandIn r = true → (s.resumeRole r).lossGated r = false) := by
  have h0 : SameLoops s (s.setNoSpare 9 r false) := (SameLoops.refl s).setNoSpare
  have hmain : ∀ v : State, (∀ p, v.loopLocked p = s.loopLocked p) → (s.noStandIn r = true → v.lossGated r = false) →
      (∀ p, (if r = 2 then v.leaveHoldover else v).loopLocked p = s.loopLocked p) ∧
        (s.noStandIn r = true → (if r = 2 then v.leaveHoldover else v).lossGated r = false) := by
    intro v hv hg
    obtain ⟨-, hgate, hlock, -⟩ := leaveHoldover_kept v
    split
    · exact ⟨fun p => (hlock p).trans (hv p), fun hn => (hgate r).trans (hg hn)⟩
    · exact ⟨hv, hg⟩
  unfold State.resumeRole
  extract_lets u v
  refine hmain v ?_ ?_
  · intro p
    dsimp only [v]
    split
    · split
      · have hun := (ungate_loops u r).loopLocked p
        split
        · exact ((stepTimebase_loops _ _).loopLocked p).trans ((loopLocked_stepped _ _ p).trans (hun.trans (h0.loopLocked p)))
        · exact hun.trans (h0.loopLocked p)
      · exact h0.loopLocked p
    · exact h0.loopLocked p
  · intro hn
    have hun : (u.ungate r).lossGated r = false :=
      ((ungate_loops u r).lossGated r).trans ((lossGated_setGated u r none false r).trans (if_pos rfl))
    dsimp only [v]
    split
    · rw [if_pos ((h0.noStandIn r).trans hn)]
      split
      · exact ((stepTimebase_loops _ _).lossGated r).trans ((lossGated_stepped _ _ r).trans hun)
      · exact hun
    · next hnone => exact congrArg Option.isSome hnone

theorem becomeStandby_loops (s : State) (p lost : Nat) :
    SameLoops ((s.setFld .PLL_ROLE_STANDBY p).setFlag .PLL_ROLE_NO_STANDBY false) (s.becomeStandby p lost) :=
  SameLoops.branch (.refl _) (SameLoops.refl _).loopEvent

theorem becomeStandby_spec (s : State) {p : Nat} (lost : Nat) (hp : p < 4) :
    (∀ q, (s.becomeStandby p lost).loopLocked q = s.loopLocked q) ∧
      (s.becomeStandby p lost).fld .PLL_ROLE_STANDBY = p ∧ (s.becomeStandby p lost).flag .PLL_ROLE_NO_STANDBY = false := by
  have h := becomeStandby_loops s p lost
  have hrole : LoopReg Reg.PLL_ROLE := .inr (.inr (.inl rfl))
  refine ⟨fun q => (h.loopLocked q).trans (congrArg (bitOf · q) ?_), (h.fld hrole).trans ?_,
    (h.flag hrole).trans (flag_setFlag_bit _ false)⟩
  · exact (fld_setFld_ne _ _ (by decide)).trans (fld_setFld_ne _ _ (by decide))
  · refine (fld_setFld_bits _ _).trans ((fld_setFld_self s .PLL_ROLE_STANDBY p (by decide) (by decide)).trans ?_)
    exact Nat.mod_eq_of_lt hp

/-! ## The loss of the reference -/

theorem SameLoops.setGated_both {s t : State} (h : SameLoops s t) (r : Nat) (x : Option Nat) (b : Bool) :
    SameLoops (s.setGated r x b) (t.setGated r x b) := by
  refine ⟨?_, h.tb, h.started, h.now, h.regs⟩
  exact congrArg (fun c : Clocks => { c with
    gated := c.gated.set (fun _ => none) r x
    noStandIn := c.noStandIn.set (fun _ => false) r b }) h.clocks

theorem SameLoops.stepped_both {s t : State} (h : SameLoops s t) (n : Nat) : SameLoops (stepped s n) (stepped t n) := by
  have h1 : SameLoops ({ s with tb := timeAfter s.tb (s.now - n) } : State) ({ t with tb := timeAfter t.tb (t.now - n) } : State) :=
    ⟨h.clocks, by rw [h.tb, h.now], h.started, h.now, h.regs⟩
  exact (h1.setFlag_both .TB_STAT_HELD false).setFlag_both .TB_STAT_STEPPED true

theorem SameLoops.enterHoldover_both {s t : State} (h : SameLoops s t) : SameLoops s.enterHoldover t.enterHoldover := by
  have hc : (t.flag .PLL_STAT_HOLDOVER || !t.tbStarted) = (s.flag .PLL_STAT_HOLDOVER || !s.tbStarted) := by
    rw [h.flag (f := .PLL_STAT_HOLDOVER) (.inr (.inl rfl)), h.started]
  have hw : SameLoops (withHold s (some s.now)) (withHold t (some t.now)) := by
    refine ⟨?_, h.tb, h.started, h.now, h.regs⟩
    rw [h.now]
    exact congrArg (fun c : Clocks => { c with holdSince := some s.now }) h.clocks
  unfold State.enterHoldover
  rw [hc]
  split
  · exact h
  · exact hw.setFlag_both .PLL_STAT_HOLDOVER true

theorem leftAlone_loops (s : State) {r : Nat} (t : Nat) (hr : r ≠ 2) :
    SameLoops (s.setGated r (some t) true) (s.leftAlone r t) := by
  have h1 : SameLoops s ((s.loopEvent r 1 0).loopAlone r) := (SameLoops.refl s).loopEvent.loopAlone
  unfold State.leftAlone
  dsimp only
  rw [if_neg hr]
  exact h1.setGated_both r (some t) true

theorem leftAlone_holdover (s : State) (t : Nat) (href : s.clocks.refLost = true) :
    SameLoops (stepped (s.setGated 2 none false) t).enterHoldover (s.leftAlone 2 t) := by
  have h1 : SameLoops s ((s.loopEvent 2 1 0).loopAlone 2).free.2 := (SameLoops.refl s).loopEvent.loopAlone.free
  unfold State.leftAlone
  dsimp only
  rw [if_pos rfl, href]
  generalize ((s.loopEvent 2 1 0).loopAlone 2).free = v at h1
  obtain ⟨v, s2⟩ := v
  have h2 : SameLoops (s.setGated 2 none false) (s2.ungate 2) := (h1.setGated_both 2 none false).trans (ungate_loops s2 2)
  exact (h2.stepped_both t |>.trans (stepTimebase_loops _ t)).enterHoldover_both

/-- What a step of the loss of the reference keeps of what has been lost. -/
structure Unrefs (s t : State) : Prop where
  lost : t.clocks.refLost = s.clocks.refLost
  ok : t.flag .PLL_STAT_REF_OK = s.flag .PLL_STAT_REF_OK
  loss : t.reg Reg.PLL_REF_LOSS = s.reg Reg.PLL_REF_LOSS
  started : t.tbStarted = s.tbStarted
  role : ∀ k, t.loopOf k = s.loopOf k
  locked : ∀ p, s.loopLocked p = false → t.loopLocked p = false
  gate : ∀ r, r ≠ 2 → s.lossGated r = true → t.lossGated r = true
  alone : s.flag .PLL_ROLE_NO_STANDBY = true → t.flag .PLL_ROLE_NO_STANDBY = true

/-- A step that leaves role T as it is. -/
structure UnrefsApart (s t : State) : Prop where
  unrefs : Unrefs s t
  gate : t.clocks.gated.get (fun _ => none) 2 = s.clocks.gated.get (fun _ => none) 2
  await : t.noStandIn 2 = s.noStandIn 2

theorem Unrefs.trans {s t u : State} (h : Unrefs s t) (h' : Unrefs t u) : Unrefs s u :=
  ⟨h'.lost.trans h.lost, h'.ok.trans h.ok, h'.loss.trans h.loss, h'.started.trans h.started,
    fun k => (h'.role k).trans (h.role k), fun p hp => h'.locked p (h.locked p hp),
    fun r hr hg => h'.gate r hr (h.gate r hr hg), fun ha => h'.alone (h.alone ha)⟩
theorem UnrefsApart.trans {s t u : State} (h : UnrefsApart s t) (h' : UnrefsApart t u) : UnrefsApart s u :=
  ⟨h.unrefs.trans h'.unrefs, h'.gate.trans h.gate, h'.await.trans h.await⟩

theorem SameLoops.unrefs {s t : State} (h : SameLoops s t) : UnrefsApart s t :=
  ⟨⟨congrArg Clocks.refLost h.clocks, h.flag (.inr (.inl rfl)), h.regs _ (.inr (.inr (.inr (.inl rfl)))), h.started,
    h.loopOf, fun p hp => (h.loopLocked p).trans hp, fun r _ hg => (h.lossGated r).trans hg,
    fun ha => (h.flag (.inr (.inr (.inl rfl)))).trans ha⟩,
    congrArg (fun c : Clocks => c.gated.get (fun _ => none) 2) h.clocks, h.noStandIn 2⟩

theorem unrefs_setLocked (s : State) {p : Nat} (hp : p < 4) : UnrefsApart s (s.setLocked p false) := by
  refine ⟨⟨rfl, flag_setFld_bits s _, reg_setFld_ne s _ (by decide), rfl, fun k => loopOf_setFld_ne s _ k (by decide),
    fun q hq => ?_, fun _ _ hg => hg, fun ha => (flag_of_reg (reg_setFld_ne s _ (by decide))).trans ha⟩, rfl, rfl⟩
  rw [loopLocked_setLocked s hp]
  split
  · rfl
  · exact hq

theorem unrefs_setGated (s : State) {r : Nat} (t : Nat) (hr : r ≠ 2) : UnrefsApart s (s.setGated r (some t) true) := by
  refine ⟨⟨rfl, rfl, rfl, rfl, fun _ => rfl, fun _ h => h, fun k _ hg => ?_, fun h => h⟩, ?_, ?_⟩
  · rw [lossGated_setGated]
    split
    · rfl
    · exact hg
  · exact (gated_setGated s r _ _ 2).trans (if_neg hr.symm)
  · exact (noStandIn_setGated s r _ _ 2).trans (if_neg hr.symm)

theorem unrefs_refGate (s : State) {r : Nat} (hr : r ≠ 2) : UnrefsApart s (s.refGate r) := by
  have h1 := unrefs_setLocked s (loopOf_lt s r)
  unfold State.refGate
  extract_lets s1
  split
  · exact h1
  · exact h1.trans (unrefs_setGated _ _ hr)

/-- The loop of the role is not locked, and its domain is gated. -/
theorem refGate_spec (s : State) (r : Nat) : (s.refGate r).loopLocked (s.loopOf r) = false ∧ (s.refGate r).lossGated r = true := by
  have h1 : (s.setLocked (s.loopOf r) false).loopLocked (s.loopOf r) = false :=
    (loopLocked_setLocked s (loopOf_lt s r) false _).trans (if_pos rfl)
  unfold State.refGate
  extract_lets s1
  split
  · next hg => exact ⟨h1, hg⟩
  · exact ⟨h1, (lossGated_setGated _ _ _ _ _).trans (if_pos rfl)⟩

theorem unrefs_alone (s : State) : UnrefsApart s (s.setFlag .PLL_ROLE_NO_STANDBY true) :=
  ⟨⟨rfl, flag_of_reg (reg_setFlag_ne s _ (by decide)), reg_setFlag_ne s _ (by decide), rfl,
    fun k => loopOf_setFld_above s _ k, fun p hp => (congrArg (bitOf · p) (fld_of_reg (reg_setFlag_ne s _ (by decide)))).trans hp,
    fun _ _ hg => hg, fun _ => flag_setFlag_bit s true⟩, rfl, rfl⟩

theorem unrefs_enterHoldover (s : State) : UnrefsApart s s.enterHoldover := by
  unfold State.enterHoldover
  split
  · exact (SameLoops.refl s).unrefs
  · refine ⟨⟨rfl, flag_setFlag_bits (withHold s (some s.now)) _, reg_setFlag_ne _ _ (by decide), rfl,
      fun k => loopOf_setFld_ne _ _ k (by decide), fun p hp => ?_, fun _ _ hg => hg,
      fun ha => (flag_of_reg (reg_setFlag_ne _ _ (by decide))).trans ha⟩, rfl, rfl⟩
    exact (congrArg (bitOf · p) (fld_setFld_bits (withHold s (some s.now)) _)).trans hp

theorem holdover_enterHoldover {s : State} (h : s.tbStarted = true) : s.enterHoldover.flag .PLL_STAT_HOLDOVER = true := by
  unfold State.enterHoldover
  split
  · next hc =>
    rw [h] at hc
    simpa using hc
  · exact flag_setFlag_bit _ true

theorem unrefs_stepped (s : State) (t : Nat) : UnrefsApart s (stepped s t) := by
  have hregs : ∀ a, a ≠ Reg.TB_STAT → (stepped s t).reg a = s.reg a := fun a ha =>
    (reg_setFlag_ne _ _ ha).trans (reg_setFlag_ne _ _ ha)
  exact ⟨⟨rfl, flag_of_reg (hregs _ (by decide)), hregs _ (by decide), rfl,
    fun k => fld_of_reg (hregs _ (by rw [roleField_addr]; decide)), fun p hp => (loopLocked_stepped s t p).trans hp,
    fun _ _ hg => hg, fun ha => (flag_of_reg (hregs _ (by decide))).trans ha⟩, rfl, rfl⟩

/-- A role that awaits the standby loop is left without it. -/
def goneStep (s : State) (r : Nat) : State :=
  match s.clocks.gated.get (fun _ => none) r with
  | some t => if s.noStandIn r then s else s.leftAlone r t
  | none => s

theorem standbyGone_eq (s : State) :
    s.standbyGone = goneStep (goneStep (goneStep (s.setFlag .PLL_ROLE_NO_STANDBY true) 0) 1) 2 := rfl

theorem unrefs_goneStep (s : State) {r : Nat} (hr : r ≠ 2) : UnrefsApart s (goneStep s r) := by
  unfold goneStep
  split
  · split
    · exact (SameLoops.refl s).unrefs
    · exact (unrefs_setGated s _ hr).trans (leftAlone_loops s _ hr).unrefs
  · exact (SameLoops.refl s).unrefs

/-- Role T, where it awaited the standby loop, goes on in holdover. -/
theorem goneStep_holdover {s : State} (href : s.clocks.refLost = true) :
    Unrefs s (goneStep s 2) ∧ (s.lossGated 2 = false ∨ s.noStandIn 2 = false → (goneStep s 2).lossGated 2 = false) := by
  unfold goneStep
  split
  · next t ht =>
    have hg : s.lossGated 2 = true := congrArg Option.isSome ht
    split
    · next hn => exact ⟨(SameLoops.refl s).unrefs.unrefs, fun h => by simp [hg, hn] at h⟩
    · have hl := leftAlone_holdover s t href
      have hgate : Unrefs s (s.setGated 2 none false) := by
        refine ⟨rfl, rfl, rfl, rfl, fun _ => rfl, fun _ h => h, fun k hk hkg => ?_, fun h => h⟩
        exact (lossGated_setGated s 2 _ _ k).trans ((if_neg hk).trans hkg)
      have hrest := (unrefs_stepped (s.setGated 2 none false) t).trans ((unrefs_enterHoldover _).trans hl.unrefs)
      refine ⟨hgate.trans hrest.unrefs, fun _ => ?_⟩
      have h2 : (s.setGated 2 none false).clocks.gated.get (fun _ => none) 2 = none :=
        (gated_setGated s 2 _ _ 2).trans (if_pos rfl)
      exact congrArg Option.isSome (hrest.gate.trans h2)
  · next hn => exact ⟨(SameLoops.refl s).unrefs.unrefs, fun _ => congrArg Option.isSome hn⟩

theorem standbyGone_spec {s : State} (href : s.clocks.refLost = true) :
    Unrefs s s.standbyGone ∧ s.standbyGone.flag .PLL_ROLE_NO_STANDBY = true ∧
      (s.lossGated 2 = false ∨ s.noStandIn 2 = false → s.standbyGone.lossGated 2 = false) := by
  have h01 := ((unrefs_goneStep (s.setFlag .PLL_ROLE_NO_STANDBY true) (r := 0) (by decide)).trans
    (unrefs_goneStep _ (r := 1) (by decide)))
  have hall := (unrefs_alone s).trans h01
  obtain ⟨hu, hg⟩ := goneStep_holdover (hall.unrefs.lost.trans href)
  rw [standbyGone_eq]
  refine ⟨hall.unrefs.trans hu, hu.alone (h01.unrefs.alone (flag_setFlag_bit s true)), fun h => hg ?_⟩
  exact h.imp (fun h => (congrArg Option.isSome hall.gate).trans h) fun h => hall.await.trans h

/-- The state in which REF_IN is lost, and the loss is counted. -/
def refCounted (s : State) : State := (withRef s true).count .PLL_REF_LOSS_COUNT 1

/-- The state in which no loop of a role and no standby loop is locked any more. -/
def refUnlocked (s : State) : State :=
  let b := (((refCounted s).refGate 0).refGate 1).setLocked ((withRef s true).fld .PLL_ROLE_STANDBY) false
  b.setLocked (b.loopOf 2) false

/-- The state in which role T is in holdover. -/
def refHeld (s : State) : State :=
  let c := (refUnlocked s).standbyGone
  if c.gated 2 then c else c.enterHoldover

theorem refInLoss_loops {s : State} {dt : Nat} (ha : (s.advance dt).alive = true)
    (hr : (s.advance dt).clocks.refLost = false) :
    ∃ t, exec (.refInLoss dt) s = .next t ∧ SameLoops (refHeld (s.advance dt)) t := by
  refine ⟨_, congrArg Host.Outcome.next (if_pos (by rw [ha, hr]; rfl)), ?_⟩
  exact ((SameLoops.refl _).markLosses.raiseFast (n := 5)).free.loopEvent

theorem refCounted_spec (s : State) :
    (refCounted s).clocks.refLost = true ∧ (refCounted s).flag .PLL_STAT_REF_OK = false ∧
      (refCounted s).fld .PLL_REF_LOSS_COUNT = min 65535 (s.fld .PLL_REF_LOSS_COUNT + 1) ∧
      (∀ k, (refCounted s).loopOf k = s.loopOf k) := by
  have hloss : (withRef s true).fld .PLL_REF_LOSS_COUNT = s.fld .PLL_REF_LOSS_COUNT :=
    fld_of_reg (reg_setFlag_ne _ _ (by decide))
  refine ⟨rfl, ?_, ?_, fun k => ?_⟩
  · exact (flag_of_reg (reg_count_ne _ 1 (by decide))).trans (withRef_spec s true).2
  · refine (fld_count_self (withRef s true) .PLL_REF_LOSS_COUNT 1 (by decide) (by decide)).trans ?_
    rw [hloss]
    rfl
  · exact (fld_of_reg (reg_count_ne _ 1 (by rw [roleField_addr]; decide))).trans
      (fld_of_reg (reg_setFlag_ne _ _ (by rw [roleField_addr]; decide)))

theorem standby_withRef (s : State) : (withRef s true).fld .PLL_ROLE_STANDBY = s.fld .PLL_ROLE_STANDBY :=
  fld_of_reg (reg_setFlag_ne _ _ (by decide))

/-- No loop of a role and no standby loop is locked, and roles C and X are gated. -/
theorem refUnlocked_spec (s : State) :
    UnrefsApart (refCounted s) (refUnlocked s) ∧ (∀ k, k < 3 → (refUnlocked s).loopLocked (s.loopOf k) = false) ∧
      (refUnlocked s).loopLocked (s.fld .PLL_ROLE_STANDBY) = false ∧ (refUnlocked s).lossGated 0 = true ∧
      (refUnlocked s).lossGated 1 = true := by
  obtain ⟨-, -, -, hrole⟩ := refCounted_spec s
  have hstandby := standby_withRef s
  have hlt := standby_lt (withRef s true)
  unfold refUnlocked
  extract_lets b
  have h0 := unrefs_refGate (refCounted s) (r := 0) (by decide)
  have h1 := unrefs_refGate ((refCounted s).refGate 0) (r := 1) (by decide)
  have h2 : UnrefsApart (((refCounted s).refGate 0).refGate 1) b := unrefs_setLocked _ hlt
  have h3 : UnrefsApart b (b.setLocked (b.loopOf 2) false) := unrefs_setLocked _ (loopOf_lt b 2)
  have hb : UnrefsApart (refCounted s) b := h0.trans (h1.trans h2)
  obtain ⟨hl0, hg0⟩ := refGate_spec (refCounted s) 0
  obtain ⟨hl1, hg1⟩ := refGate_spec ((refCounted s).refGate 0) 1
  have hself (x : State) {p : Nat} (hp : p < 4) : (x.setLocked p false).loopLocked p = false :=
    (loopLocked_setLocked x hp false p).trans (if_pos rfl)
  refine ⟨hb.trans h3, fun k hk => ?_, ?_, ?_, ?_⟩
  · match k, hk with
    | 0, _ => rw [← hrole 0]; exact (h1.trans (h2.trans h3)).unrefs.locked _ hl0
    | 1, _ => rw [← hrole 1, ← h0.unrefs.role 1]; exact (h2.trans h3).unrefs.locked _ hl1
    | 2, _ => rw [← hrole 2, ← hb.unrefs.role 2]; exact hself b (loopOf_lt b 2)
  · rw [← hstandby]
    exact h3.unrefs.locked _ (hself _ hlt)
  · exact (h1.trans (h2.trans h3)).unrefs.gate 0 (by decide) hg0
  · exact (h2.trans h3).unrefs.gate 1 (by decide) hg1

theorem gated_two (s : State) : s.gated 2 = s.lossGated 2 := by
  unfold State.gated
  simp

/-- Role T is in holdover once the timebase has started, where its domain runs or awaited the standby loop. -/
theorem refHeld_spec (s : State) :
    Unrefs (refUnlocked s) (refHeld s) ∧ (refHeld s).flag .PLL_ROLE_NO_STANDBY = true ∧
      (s.tbStarted = true → s.lossGated 2 = false ∨ s.noStandIn 2 = false →
        (refHeld s).flag .PLL_STAT_HOLDOVER = true ∧ (refHeld s).lossGated 2 = false) := by
  obtain ⟨hapart, -⟩ := refUnlocked_spec s
  obtain ⟨hlost, -⟩ := refCounted_spec s
  obtain ⟨hgone, halone, hgate⟩ := standbyGone_spec (hapart.unrefs.lost.trans hlost)
  have hstart : (refUnlocked s).tbStarted = s.tbStarted := hapart.unrefs.started
  have h2 : (refUnlocked s).lossGated 2 = s.lossGated 2 := congrArg Option.isSome hapart.gate
  have hn2 : (refUnlocked s).noStandIn 2 = s.noStandIn 2 := hapart.await
  have hhold := unrefs_enterHoldover (refUnlocked s).standbyGone
  unfold refHeld
  extract_lets c
  split
  · next hg =>
    refine ⟨hgone, halone, fun _ h => ?_⟩
    have hrun : c.lossGated 2 = false := hgate (h.imp (fun h => h2.trans h) fun h => hn2.trans h)
    rw [gated_two, hrun] at hg
    exact absurd hg (by decide)
  · refine ⟨hgone.trans hhold.unrefs, hhold.unrefs.alone halone, fun ht h => ⟨?_, ?_⟩⟩
    · exact holdover_enterHoldover (hgone.started.trans (hstart.trans ht))
    · exact (congrArg Option.isSome hhold.gate).trans (hgate (h.imp (fun h => h2.trans h) fun h => hn2.trans h))

theorem refInLoss_holds {s : State} {dt : Nat} (ha : (s.advance dt).alive = true)
    (hr : (s.advance dt).clocks.refLost = false) :
    let u := s.advance dt
    ∃ t, exec (.refInLoss dt) s = .next t ∧ t.clocks.refLost = true ∧
      t.flag .PLL_STAT_REF_OK = false ∧ t.fld .PLL_REF_LOSS_COUNT = min 65535 (u.fld .PLL_REF_LOSS_COUNT + 1) ∧
      (∀ k, k < 3 → t.loopLocked (u.loopOf k) = false) ∧ t.loopLocked (u.fld .PLL_ROLE_STANDBY) = false ∧
      t.flag .PLL_ROLE_NO_STANDBY = true ∧ t.lossGated 0 = true ∧ t.lossGated 1 = true ∧
      (u.tbStarted = true → u.lossGated 2 = false ∨ u.noStandIn 2 = false →
        t.flag .PLL_STAT_HOLDOVER = true ∧ t.lossGated 2 = false) := by
  intro u
  obtain ⟨t, hx, hl⟩ := refInLoss_loops ha hr
  obtain ⟨hlost, hok, hcount, -⟩ := refCounted_spec u
  obtain ⟨hapart, hroles, hstandby, hg0, hg1⟩ := refUnlocked_spec u
  obtain ⟨hheld, halone, hhold⟩ := refHeld_spec u
  have ht : Unrefs (refUnlocked u) t := hheld.trans hl.unrefs.unrefs
  have hall : Unrefs (refCounted u) t := hapart.unrefs.trans ht
  refine ⟨t, hx, hall.lost.trans hlost, hall.ok.trans hok, (fld_of_reg hall.loss).trans hcount,
    fun k hk => ht.locked _ (hroles k hk), ht.locked _ hstandby, hl.unrefs.unrefs.alone halone,
    ht.gate 0 (by decide) hg0, ht.gate 1 (by decide) hg1, fun hs h => ?_⟩
  obtain ⟨hflag, hgate⟩ := hhold hs h
  exact ⟨(hl.flag (.inr (.inl rfl))).trans hflag, (hl.lossGated 2).trans hgate⟩

/-! ## The stand-in -/

/-- The clocks after the loaded dividers have taken effect. -/
def dividersInForce (c : Clocks) : Clocks :=
  { c with dividers := c.divBuffer.foldl (fun m e => m.set roleDividers e.1 e.2) c.dividers, divBuffer := [], refEdge := none }

theorem SameLoops.transferDividers_both {s t : State} (h : SameLoops s t) : SameLoops s.transferDividers t.transferDividers :=
  ⟨congrArg dividersInForce h.clocks, h.tb, h.started, h.now, h.regs⟩

/-- The state in which the standby loop drives the domain of a role. -/
def standInRuns (s : State) (r t : Nat) : State :=
  let x := ((s.setFld (roleField r) (s.fld .PLL_ROLE_STANDBY)).transferDividers).setGated r none false
  if r = 2 then stepped x t else x

/-- What a stand-in brings: the role's loop, the domain's run, the timebase and its status. -/
structure StoodIn (x t : State) (r : Nat) : Prop where
  role : t.loopOf r = x.loopOf r
  gate : t.lossGated r = x.lossGated r
  tb : t.tb = x.tb
  stat : t.reg Reg.TB_STAT = x.reg Reg.TB_STAT

theorem StoodIn.loops {x s t : State} {r : Nat} (h : StoodIn x s r) (ht : SameLoops s t) : StoodIn x t r :=
  ⟨(ht.loopOf r).trans h.role, (ht.lossGated r).trans h.gate, ht.tb.trans h.tb, (ht.regs _ (.inl rfl)).trans h.stat⟩

theorem stoodIn_standby {x s : State} {r : Nat} (old : Nat) (h : StoodIn x s r) :
    StoodIn x ((s.setFld .PLL_ROLE_STANDBY old).setFlag .PLL_ROLE_NO_STANDBY false) r :=
  ⟨(loopOf_setFld_above _ _ r).trans ((loopOf_setFld_above s _ r).trans h.role), h.gate, h.tb,
    (reg_setFlag_ne _ _ (by decide)).trans ((reg_setFld_ne s _ (by decide)).trans h.stat)⟩

theorem takeRole_stoodIn (s : State) (r t : Nat) : StoodIn (standInRuns s r t) (s.takeRole r t) r := by
  unfold State.takeRole
  extract_lets old new s1 s2 s3 s4 s5
  have h1 : SameLoops (s.setFld (roleField r) new) s1 := (SameLoops.refl _).setHolder.bumpEpoch
  have h2 : SameLoops (((s.setFld (roleField r) new).transferDividers).setGated r none false) s2 :=
    (h1.transferDividers_both.setNoSpare.setGated_both r none false).trans (ungate_loops _ r)
  have h3 : SameLoops (standInRuns s r t) s3 := by
    dsimp only [s3, standInRuns]
    split
    · exact (h2.stepped_both t).trans (stepTimebase_loops s2 t)
    · exact h2
  have h4 : StoodIn (standInRuns s r t) s4 r := StoodIn.loops ⟨rfl, rfl, rfl, rfl⟩ h3.loopEvent.takenFromTest
  have h5 : StoodIn (standInRuns s r t) s5 r := h4.loops (SameLoops.refl s4).setUnit
  clear_value s4 s5
  split
  · exact h4
  · split
    · exact stoodIn_standby old h5
    · exact h5

theorem fld_roleField_self (s : State) (r : Nat) {v : Nat} (hv : v < 4) : (s.setFld (roleField r) v).loopOf r = v := by
  unfold State.loopOf roleField
  split <;> exact (fld_setFld_self s _ v (by decide) (by decide)).trans (Nat.mod_eq_of_lt hv)

theorem standInRuns_spec (s : State) (r t : Nat) :
    (standInRuns s r t).loopOf r = s.fld .PLL_ROLE_STANDBY ∧ (standInRuns s r t).lossGated r = false ∧
      (r = 2 → (standInRuns s r t).tb = timeAfter s.tb (s.now - t) ∧ (standInRuns s r t).flag .TB_STAT_HELD = false ∧
        (standInRuns s r t).flag .TB_STAT_STEPPED = true) ∧
      (r ≠ 2 → (standInRuns s r t).tb = s.tb) := by
  have hrole := fld_roleField_self s r (standby_lt s)
  unfold standInRuns
  extract_lets x
  have hx : x.loopOf r = s.fld .PLL_ROLE_STANDBY := hrole
  have hg : x.lossGated r = false := (lossGated_setGated _ r none false r).trans (if_pos rfl)
  split
  · next h2 =>
    refine ⟨?_, hg, fun _ => ⟨rfl, ?_, flag_setFlag_bit _ true⟩, fun hne => absurd h2 hne⟩
    · exact (loopOf_setFld_ne _ _ r (by decide)).trans ((loopOf_setFld_ne _ _ r (by decide)).trans hx)
    · exact (flag_setFlag_bits _ true).trans (flag_setFlag_bit _ false)
  · next h2 => exact ⟨hx, hg, fun h => absurd h h2, fun _ => rfl⟩

theorem exec_standIn {s : State} {dt : Nat} {role : Fin 3} {t0 : Nat}
    (hg : (s.advance dt).clocks.gated.get (fun _ => none) role.val = some t0) (ha : (s.advance dt).alive = true)
    (hn : (s.advance dt).noStandIn role.val = false) (ht : role = 2 ∨ t0 + 200 ≤ (s.advance dt).now) :
    exec (.standIn dt role) s = .next ((s.advance dt).takeRole role.val t0) := by
  have hdue : (role.val == 2 || decide (t0 + 200 ≤ (s.advance dt).now)) = true := by
    rcases ht with rfl | ht
    · rfl
    · rw [decide_eq_true ht, Bool.or_true]
  refine congrArg Host.Outcome.next ?_
  rw [hg]
  exact if_pos (by rw [ha, hn, hdue]; rfl)

theorem standIn_holds {s : State} {dt : Nat} {role : Fin 3} {t0 : Nat}
    (hg : (s.advance dt).clocks.gated.get (fun _ => none) role.val = some t0) (ha : (s.advance dt).alive = true)
    (hn : (s.advance dt).noStandIn role.val = false) (ht : role = 2 ∨ t0 + 200 ≤ (s.advance dt).now) :
    let u := s.advance dt
    ∃ t, exec (.standIn dt role) s = .next t ∧ t.loopOf role.val = u.fld .PLL_ROLE_STANDBY ∧ t.lossGated role.val = false ∧
      (role = 2 → t.tb = timeAfter u.tb (u.now - t0) ∧ t.flag .TB_STAT_HELD = false ∧ t.flag .TB_STAT_STEPPED = true) ∧
      (role ≠ 2 → t.tb = u.tb) := by
  intro u
  have hs := takeRole_stoodIn u role.val t0
  obtain ⟨hrole, hgate, htwo, hother⟩ := standInRuns_spec u role.val t0
  refine ⟨_, exec_standIn hg ha hn ht, hs.role.trans hrole, hs.gate.trans hgate, fun h2 => ?_, fun hne => ?_⟩
  · obtain ⟨htb, hheld, hstep⟩ := htwo (congrArg Fin.val h2)
    exact ⟨hs.tb.trans htb, (flag_of_reg hs.stat).trans hheld, (flag_of_reg hs.stat).trans hstep⟩
  · exact hs.tb.trans (hother fun h => hne (Fin.ext h))

/-! ## The loss of a loop -/

/-- What a fault charged to a loop keeps of the loops: at most it marks the loop as retired. -/
structure LoopCharged (s t : State) : Prop where
  clocks : t.clocks = s.clocks
  tb : t.tb = s.tb
  now : t.now = s.now
  locked : ∀ p, t.loopLocked p = s.loopLocked p
  role : ∀ k, t.loopOf k = s.loopOf k
  standby : t.fld .PLL_ROLE_STANDBY = s.fld .PLL_ROLE_STANDBY
  free : t.flag .PLL_ROLE_NO_STANDBY = s.flag .PLL_ROLE_NO_STANDBY

theorem SameLoops.charged {s t : State} (h : SameLoops s t) : LoopCharged s t :=
  ⟨h.clocks, h.tb, h.now, h.loopLocked, h.loopOf, h.fld (.inr (.inr (.inl rfl))), h.flag (.inr (.inr (.inl rfl)))⟩

theorem LoopCharged.trans {s t u : State} (h : LoopCharged s t) (h' : LoopCharged t u) : LoopCharged s u :=
  ⟨h'.clocks.trans h.clocks, h'.tb.trans h.tb, h'.now.trans h.now, fun p => (h'.locked p).trans (h.locked p),
    fun k => (h'.role k).trans (h.role k), h'.standby.trans h.standby, h'.free.trans h.free⟩

theorem loopCharged_retired (s : State) (v : Nat) : LoopCharged s (s.setFld .PLL_ROLE_RETIRED v) := by
  refine ⟨rfl, rfl, rfl, fun p => congrArg (bitOf · p) (fld_setFld_ne s v (by decide)), fun k => ?_, fld_setFld_bits s v,
    flag_setFld_bits s v⟩
  have hk : (roleField k).hi < 12 := by unfold roleField; split <;> decide
  exact fld_setFld_apart s v (roleField_addr k) (by decide) (by decide) (.inl hk)

theorem chargeLoop_charged (s : State) (inst : Nat) : LoopCharged s (s.charge 5 inst) := by
  have hlasting {t : State} (ht : SameLoops s t) : LoopCharged s (t.lasting 5 inst (inst % 2 ^ 20)) := by
    have h1 : SameLoops s (t.event 0xF .ok 5 (leBytes 4 (t.fltN 5) ++
        leBytes 4 (if t.fltN 5 ≤ 1 then 0 else t.fltW 5 / 1000000))) := ht.event
    unfold State.lasting
    extract_lets n cls role s1 s2
    have h2 : SameLoops s (s2.count (.FLT_SRC_LAST_COUNT (5 - 1)) 1) :=
      (SameLoops.branch h1 h1.faultRecord).setReg (by unfold LoopReg; decide)
    exact (h2.retireTested.charged).trans (loopCharged_retired _ _)
  have h0 : SameLoops s (s.count (.FLT_SRC_EVT_COUNT (5 - 1)) 1) := (SameLoops.refl s).setReg (by unfold LoopReg; decide)
  unfold State.charge State.chargeFor
  extract_lets s1 n b
  split
  · exact h0.charged
  · split
    · exact hlasting h0.setSpares
    · exact h0.setSpares.charged

/-- The state in which a role whose loop lost lock waits for the standby loop. -/
def waitShown (s : State) (r : Nat) : State :=
  ((s.setGated r (some s.now) false).setFlag .PLL_ROLE_NO_STANDBY true).loadDividers (s.fld .PLL_ROLE_STANDBY) r

theorem awaitStandIn_eq (s : State) (r : Nat) :
    s.awaitStandIn r = if r = 2 then (waitShown s r).holdTimebase else (waitShown s r).markLosses := rfl

theorem awaitStandIn_spec (s : State) (r : Nat) :
    (∀ p, (s.awaitStandIn r).loopLocked p = s.loopLocked p) ∧
      (s.awaitStandIn r).clocks.gated.get (fun _ => none) r = some s.now ∧ (s.awaitStandIn r).noStandIn r = false ∧
      (s.awaitStandIn r).flag .PLL_ROLE_NO_STANDBY = true ∧ (∀ k, (s.awaitStandIn r).loopOf k = s.loopOf k) ∧
      (s.awaitStandIn r).tb = s.tb ∧ (r = 2 → (s.awaitStandIn r).flag .TB_STAT_HELD = true) := by
  have hgate : (waitShown s r).clocks.gated.get (fun _ => none) r = some s.now :=
    (gated_setGated s r (some s.now) false r).trans (if_pos rfl)
  have hstand : (waitShown s r).noStandIn r = false := (noStandIn_setGated s r (some s.now) false r).trans (if_pos rfl)
  have halone : (waitShown s r).flag .PLL_ROLE_NO_STANDBY = true := flag_setFlag_bit (s.setGated r (some s.now) false) true
  have hrole (k : Nat) : (waitShown s r).loopOf k = s.loopOf k :=
    loopOf_setFld_above (s.setGated r (some s.now) false) (hi := 8) (lo := 8) (boolNat true) k
  have hlock (p : Nat) : (waitShown s r).loopLocked p = s.loopLocked p :=
    congrArg (bitOf · p) (fld_setFld_ne (s.setGated r (some s.now) false) (f := .PLL_ROLE_NO_STANDBY)
      (g := .PLL_STAT_LOCKED) (boolNat true) (by decide))
  have htb : (waitShown s r).tb = s.tb := rfl
  rw [awaitStandIn_eq]
  generalize waitShown s r = w at *
  split
  · next h2 =>
    have hl := holdTimebase_loops w
    refine ⟨fun p => (hl.loopLocked p).trans (Eq.trans ?_ (hlock p)),
      (congrArg (fun c : Clocks => c.gated.get (fun _ => none) r) hl.clocks).trans hgate, (hl.noStandIn r).trans hstand,
      (hl.flag (.inr (.inr (.inl rfl)))).trans (Eq.trans ?_ halone), fun k => (hl.loopOf k).trans (Eq.trans ?_ (hrole k)),
      hl.tb.trans htb, fun _ => (hl.flag (.inl rfl)).trans (flag_setFlag_bit w true)⟩
    · exact congrArg (bitOf · p) (fld_setFld_ne w _ (by decide))
    · exact flag_of_reg (reg_setFlag_ne w _ (by decide))
    · exact loopOf_setFld_ne w _ k (by decide)
  · next h2 =>
    have hl : SameLoops w w.markLosses := (SameLoops.refl w).markLosses
    exact ⟨fun p => (hl.loopLocked p).trans (hlock p),
      (congrArg (fun c : Clocks => c.gated.get (fun _ => none) r) hl.clocks).trans hgate, (hl.noStandIn r).trans hstand,
      (hl.flag (.inr (.inr (.inl rfl)))).trans halone, fun k => (hl.loopOf k).trans (hrole k), hl.tb.trans htb,
      fun h => absurd h h2⟩

/-- The state in which a loop has lost lock and the loss is counted. -/
def lossCounted (s : State) (p : Nat) : State :=
  let s1 := s.setLocked p false
  let s2 : State := { s1 with clocks := { s1.clocks with
    lostRole := s1.clocks.lostRole.set (fun _ => 0) p ((s.roleOf p).getD 3 + 1) } }
  s2.count ⟨Reg.PLL_LOSS, 8 * p + 7, 8 * p⟩ 1

theorem exec_loopLockLoss {s : State} {dt : Nat} {p : Fin 4} (ha : (s.advance dt).alive = true)
    (hl : (s.advance dt).loopLocked p.val = true) :
    exec (.loopLockLoss dt p) s =
      .next (((lossCounted (s.advance dt) p.val).charge 5 (unitKey 9 p.val)).roleLoss p.val) :=
  congrArg Host.Outcome.next (if_pos (by rw [ha, hl]; rfl))

theorem lossCounted_spec (s : State) {p : Nat} (hp : p < 4) :
    (lossCounted s p).clocks.gated = s.clocks.gated ∧ (lossCounted s p).tb = s.tb ∧ (lossCounted s p).now = s.now ∧
      (∀ q, (lossCounted s p).loopLocked q = if q = p then false else s.loopLocked q) ∧
      (lossCounted s p).reg Reg.PLL_ROLE = s.reg Reg.PLL_ROLE := by
  refine ⟨rfl, rfl, rfl, fun q => Eq.trans ?_ (loopLocked_setLocked s hp false q), ?_⟩
  · exact congrArg (bitOf · q) (fld_of_reg (reg_count_ne _ 1 (by decide : Reg.PLL_STAT ≠ Reg.PLL_LOSS)))
  · exact (reg_count_ne _ 1 (by decide : Reg.PLL_ROLE ≠ Reg.PLL_LOSS)).trans (reg_setFld_ne s _ (by decide))

theorem roleOf_congr {s t : State} (h : ∀ k, t.loopOf k = s.loopOf k) (p : Nat) : t.roleOf p = s.roleOf p := by
  unfold State.roleOf
  simp only [h]

theorem standbyLoop_isSome {s : State} {p : Nat} (hf : s.flag .PLL_ROLE_NO_STANDBY = false)
    (hp : s.fld .PLL_ROLE_STANDBY = p) (hl : s.loopLocked p = true) : s.standbyLoop.isSome = true := by
  unfold State.standbyLoop
  rw [hf, hp, hl]
  rfl

theorem roleLoss_of_standby {s : State} {p r : Nat} (hr : s.roleOf p = some r)
    (hs : (s.raiseFast (2 + r)).standbyLoop.isSome = true) : s.roleLoss p = (s.raiseFast (2 + r)).awaitStandIn r := by
  unfold State.roleLoss
  rw [hr]
  dsimp only
  obtain ⟨x, hx⟩ := Option.isSome_iff_exists.mp hs
  rw [hx]

theorem loopLockLoss_holds {s : State} {dt : Nat} {p : Fin 4} {r : Nat} (ha : (s.advance dt).alive = true)
    (hl : (s.advance dt).loopLocked p.val = true) (hr : (s.advance dt).roleOf p.val = some r)
    (hn : (s.advance dt).flag .PLL_ROLE_NO_STANDBY = false) (hp : (s.advance dt).fld .PLL_ROLE_STANDBY ≠ p.val)
    (hs : (s.advance dt).loopLocked ((s.advance dt).fld .PLL_ROLE_STANDBY) = true) :
    let u := s.advance dt
    ∃ t, exec (.loopLockLoss dt p) s = .next t ∧ t.loopLocked p.val = false ∧
      t.clocks.gated.get (fun _ => none) r = some u.now ∧ t.noStandIn r = false ∧
      t.flag .PLL_ROLE_NO_STANDBY = true ∧ (∀ k, k < 3 → t.loopOf k = u.loopOf k) ∧ t.tb = u.tb ∧
      (r = 2 → t.flag .TB_STAT_HELD = true) := by
  intro u
  have hr16 : 2 + r ≤ 16 := by
    have := List.mem_of_find?_eq_some hr
    simp at this
    omega
  obtain ⟨-, htb, hnow, hlock, hreg⟩ := lossCounted_spec u p.isLt
  have hc := (chargeLoop_charged (lossCounted u p.val) (unitKey 9 p.val)).trans
    ((SameLoops.refl _).raiseFast hr16).charged
  have hc' := chargeLoop_charged (lossCounted u p.val) (unitKey 9 p.val)
  have hrole (k : Nat) : (lossCounted u p.val).loopOf k = u.loopOf k := fld_of_reg (by rw [roleField_addr]; exact hreg)
  have hx := exec_loopLockLoss ha hl
  have hrole' : ((lossCounted u p.val).charge 5 (unitKey 9 p.val)).roleOf p.val = some r :=
    (roleOf_congr (fun k => (hc'.role k).trans (hrole k)) p.val).trans hr
  have hstandby : (((lossCounted u p.val).charge 5 (unitKey 9 p.val)).raiseFast (2 + r)).standbyLoop.isSome = true :=
    standbyLoop_isSome (p := u.fld .PLL_ROLE_STANDBY) (hc.free.trans ((flag_of_reg hreg).trans hn))
      (hc.standby.trans (fld_of_reg hreg)) ((hc.locked _).trans ((hlock _).trans ((if_neg hp).trans hs)))
  rw [roleLoss_of_standby hrole' hstandby] at hx
  obtain ⟨hlocked, hgate, hno, halone, hroles, htb', hheld⟩ :=
    awaitStandIn_spec (((lossCounted u p.val).charge 5 (unitKey 9 p.val)).raiseFast (2 + r)) r
  exact ⟨_, hx, (hlocked _).trans ((hc.locked _).trans ((hlock _).trans (if_pos rfl))),
    hgate.trans (congrArg some (hc.now.trans hnow)), hno, halone,
    fun k _ => (hroles k).trans ((hc.role k).trans (hrole k)), htb'.trans (hc.tb.trans htb), hheld⟩

/-! ## The obligation -/

theorem loopRelock_role {s : State} {dt : Nat} {p : Fin 4} {r : Nat} (ha : (s.advance dt).alive = true)
    (href : (s.advance dt).clocks.refLost = false) (hl : (s.advance dt).loopLocked p.val = false)
    (hr : (s.advance dt).roleOf p.val = some r) (hs : (s.advance dt).standby = false ∨ r = 2) :
    ∃ t, exec (.loopRelock dt p) s = .next t ∧ t.loopLocked p.val = true ∧
      ((s.advance dt).noStandIn r = true → t.lossGated r = false) := by
  have hx := exec_loopRelock ha href hl
  have hawake : ((s.advance dt).standby && r != 2) = false := by
    rcases hs with hs | rfl
    · rw [hs, Bool.false_and]
    · rw [bne_self_eq_false, Bool.and_false]
  rw [hr] at hx
  dsimp only at hx
  rw [if_neg (by rw [hawake]; decide)] at hx
  obtain ⟨hlock, hgate⟩ := resumeRole_spec (relocked (s.advance dt) p.val) r
  exact ⟨_, hx, (hlock p.val).trans (loopLocked_relocked _ p.isLt), hgate⟩

theorem loopRelock_free {s : State} {dt : Nat} {p : Fin 4} (ha : (s.advance dt).alive = true)
    (href : (s.advance dt).clocks.refLost = false) (hl : (s.advance dt).loopLocked p.val = false)
    (hr : (s.advance dt).roleOf p.val = none) (hret : bitOf ((s.advance dt).fld .PLL_ROLE_RETIRED) p.val = false)
    (hen : (s.advance dt).flag .PLL_CTL_STANDBY_EN = true) (hs : (s.advance dt).standby = false)
    (hn : (s.advance dt).standbyLoop = none) :
    ∃ t, exec (.loopRelock dt p) s = .next t ∧ t.loopLocked p.val = true ∧ t.fld .PLL_ROLE_STANDBY = p.val ∧
      t.flag .PLL_ROLE_NO_STANDBY = false := by
  have hx := exec_loopRelock ha href hl
  rw [hr, hn] at hx
  dsimp only at hx
  rw [if_neg (by rw [hret, hen, hs]; decide), if_neg (by decide)] at hx
  obtain ⟨hlock, hstandby, hfree⟩ := becomeStandby_spec (relocked (s.advance dt) p.val)
    ((s.advance dt).clocks.lostRole.get (fun _ => 0) p.val) p.isLt
  exact ⟨_, hx, (hlock p.val).trans (loopLocked_relocked _ p.isLt), hstandby, hfree⟩

/-- Settles O48, command by command. -/
theorem clockLoopsLoseAndRegainTheirRoles : Obligations.ClockLoopsLoseAndRegainTheirRoles := by
  unfold Obligations.ClockLoopsLoseAndRegainTheirRoles
  exact ⟨fun s dt p r ha hl hr hn hp hs => loopLockLoss_holds ha hl hr hn hp hs,
    fun s dt role t0 hg ha hn ht => standIn_holds hg ha hn ht,
    fun s dt p ha href hl => ⟨fun r hr hs => loopRelock_role ha href hl hr hs,
      fun hr hret hen hs hn => loopRelock_free ha href hl hr hret hen hs hn⟩,
    fun s dt ha => ⟨fun hr => refInLoss_holds ha hr, fun hr => refInGood_holds ha hr⟩⟩

end Sys2Proof.Safety
end

section
/-! PROOF. The power-up sequence, background tracking and the result space (O49). -/

namespace Sys2Proof.Safety

open Sys2Proof.Machine

/-! ## What a suspect element leaves

A suspect element is charged as a fault, which may retire a converter, a ramp, a row slot or a loop. That leaves the
entries, and the registers that say what is measured. -/

/-- The registers below 0x3000 that events leave, CAL_STAT and CAL_DARK_LIM. -/
abbrev SetupReg (a : Nat) : Prop := (a < 0x3000 ∧ a ≠ 0x14) ∨ a = 0x21400 ∨ a = 0x21408

/-- `s` has the entries of `s₀` and its settings of what is measured. -/
structure SameCal (s₀ s : State) : Prop where
  entries : s.cal.entries = s₀.cal.entries
  regs : ∀ a, SetupReg a → s.reg a = s₀.reg a

theorem SameCal.refl (s : State) : SameCal s s := ⟨rfl, fun _ _ => rfl⟩

theorem SameCal.trans {s t u : State} (h : SameCal s t) (h' : SameCal t u) : SameCal s u :=
  ⟨h'.entries.trans h.entries, fun a ha => (h'.regs a ha).trans (h.regs a ha)⟩

theorem SameCal.branch {s₀ s t : State} {c : Prop} {inst : Decidable c} (hs : SameCal s₀ s) (ht : SameCal s₀ t) :
    SameCal s₀ (if c then s else t) := by split <;> assumption

/-- A fold over a state. -/
theorem SameCal.foldl {β : Type} {s₀ s : State} {f : State → β → State} {l : List β} (h : SameCal s₀ s)
    (hf : ∀ {t x}, SameCal s₀ t → SameCal s₀ (f t x)) : SameCal s₀ (l.foldl f s) :=
  List.foldlRecOn l f (motive := SameCal s₀) h fun _ ht _ _ => hf ht

section
variable {s₀ s : State} (h : SameCal s₀ s)
include h

theorem SameCal.setReg {a v} (ha : ¬ SetupReg a := by decide) : SameCal s₀ (s.setReg a v) :=
  ⟨h.entries, fun b hb => (reg_setReg_ne s v fun he => by subst he; exact ha hb).trans (h.regs b hb)⟩
theorem SameCal.setFld {f v} (hf : ¬ SetupReg f.addr := by decide) : SameCal s₀ (s.setFld f v) := h.setReg hf
theorem SameCal.setFlag {f b} (hf : ¬ SetupReg f.addr := by decide) : SameCal s₀ (s.setFlag f b) := h.setReg hf
theorem SameCal.count {f n} (hf : ¬ SetupReg f.addr := by decide) : SameCal s₀ (s.count f n) := h.setReg hf
theorem SameCal.setSpares {x} : SameCal s₀ { s with spares := x } := ⟨h.entries, h.regs⟩
theorem SameCal.setClocks {x} : SameCal s₀ { s with clocks := x } := ⟨h.entries, h.regs⟩
theorem SameCal.setStarted {x} : SameCal s₀ { s with tbStarted := x } := ⟨h.entries, h.regs⟩
theorem SameCal.setCal {x : Cal} (hx : x.entries = s.cal.entries := by rfl) : SameCal s₀ { s with cal := x } :=
  ⟨hx.trans h.entries, h.regs⟩
theorem SameCal.quiet {t} (ht : Quiet s t) : SameCal s₀ t :=
  ⟨(congrArg (fun t : State => t.cal.entries) ht.rest :).trans h.entries, fun a ha => (ht.regs a (by
    have hd : Reg.HIF_NORING_DROP = 0x14 := rfl
    unfold EventReg
    omega)).trans (h.regs a ha)⟩
theorem SameCal.filed {t} (ht : Filed s t) : SameCal s₀ t :=
  ⟨(congrArg (fun t : State => t.cal.entries) ht.rest :).trans h.entries, fun a ha => (ht.regs a fun he => by
    subst he; revert ha; decide).trans (h.regs a ha)⟩
theorem SameCal.event {code status source args} : SameCal s₀ (s.event code status source args) :=
  h.quiet (Quiet.refl s).event
theorem SameCal.free : SameCal s₀ s.free.2 := h.quiet (Quiet.refl s).free
theorem SameCal.finishWaiting {notify status result} : SameCal s₀ (s.finishWaiting notify status result) :=
  h.quiet ((Quiet.refl s).post (Posted.refl s).finishWaiting)
theorem SameCal.faultRecord {r} : SameCal s₀ (s.faultRecord r) := h.filed (Filed.faultRecord s r)
theorem SameCal.withUnits {x q} : SameCal s₀ (withUnits s x q) := h.setSpares
theorem SameCal.setUnit {cls u v} : SameCal s₀ (s.setUnit cls u v) := by
  obtain ⟨q, hf⟩ := setUnit_filed s cls u v
  exact h.withUnits.filed hf
theorem SameCal.setHolder {cls r u} : SameCal s₀ (s.setHolder cls r u) := h.setSpares.setSpares
theorem SameCal.setNoSpare {cls r b} : SameCal s₀ (s.setNoSpare cls r b) :=
  h.setSpares.setFld (by dsimp only [Reg.SPR_CLASS_USE]; omega)
theorem SameCal.leftWithout {cls r u source} : SameCal s₀ (s.leftWithout cls r u source) :=
  h.event.faultRecord.setNoSpare
theorem SameCal.testCounted {t verdict patterns} : SameCal s₀ (testCounted s t verdict patterns) := by
  have hv : ¬ SetupReg (verdictCount verdict).addr := by
    match verdict with
    | 0 => decide
    | 1 => decide
    | n + 2 => exact (by decide : ¬ SetupReg Reg.SPR_ST_INCOMPLETE)
  have h0 : SameCal s₀ (withoutTest s t) := h.setSpares
  unfold Safety.testCounted showTest
  split
  · exact h0.setReg.setReg.setFld.count hv
  · exact h0.setReg.setReg.setFld.count hv
theorem SameCal.endTestWith {t verdict patterns after} : SameCal s₀ (s.endTestWith t verdict patterns after) := by
  rw [endTestWith_eq]
  have h2 : SameCal s₀ ((Safety.testCounted s t verdict patterns).setUnit t.cls t.unit after) := h.testCounted.setUnit
  exact (branch (branch h2.faultRecord h2) h2.faultRecord).finishWaiting
theorem SameCal.setQueue {l} : SameCal s₀ (s.setQueue l) := h.setSpares.setFlag
theorem SameCal.queueSubst {q new} : SameCal s₀ (s.queueSubst q new) := by
  unfold State.queueSubst
  refine SameCal.setQueue ?_
  split
  · exact h.setUnit
  · exact h
theorem SameCal.giveBack {q} : SameCal s₀ (s.giveBack q) := by
  unfold State.giveBack
  split
  · exact branch h.setUnit h
  · exact h
theorem SameCal.dropTest {t} : SameCal s₀ (s.dropTest t) := (h.setQueue.foldl fun h => h.giveBack).endTestWith
theorem SameCal.chooseSpare {q} : SameCal s₀ (s.chooseSpare q) := by
  unfold State.chooseSpare
  split
  · exact h.queueSubst
  · split
    · exact h.free.endTestWith.queueSubst
    · refine SameCal.queueSubst ?_
      split
      · exact h.dropTest
      · exact h
theorem SameCal.seekSpare {cls r old why} : SameCal s₀ (s.seekSpare cls r old why) :=
  (h.setQueue.foldl fun h => h.giveBack).chooseSpare.foldl fun h => h.chooseSpare
theorem SameCal.replaceChosen {cls u} : SameCal s₀ (s.replaceChosen cls u) := by
  unfold State.replaceChosen
  refine h.setQueue.foldl fun h => ?_
  split
  · split
    · exact h.dropTest
    · exact h
  · exact h.chooseSpare
theorem SameCal.testGone {cls u} : SameCal s₀ (s.testGone cls u) := h.setSpares.foldl fun h => h.finishWaiting
theorem SameCal.changeWhy {q why} : SameCal s₀ (s.changeWhy q why) := h.setSpares
theorem SameCal.retireTested {cls u} : SameCal s₀ (s.retireTested cls u) := by
  unfold State.retireTested
  split
  · exact h.free.endTestWith.count
  · exact h.setUnit
theorem SameCal.retire {cls u source} : SameCal s₀ (s.retire cls u source) := by
  unfold State.retire
  dsimp only
  split
  · exact h
  · exact h.setUnit
  · exact h.retireTested
  · split
    · exact h.setUnit.replaceChosen
    · split
      · exact h.setUnit.seekSpare
      · split
        · exact h.setUnit.testGone.changeWhy
        · exact branch h.setUnit h.setUnit.seekSpare
theorem SameCal.retireLoop {u} : SameCal s₀ (s.retireLoop u) :=
  branch h.retireTested.setFld.setFlag h.retireTested.setFld

/-- A fault of a measured element, which is of no Coachman. -/
theorem SameCal.chargeElement {inst} (hi : inst / 2 ^ 20 ≠ 10) : SameCal s₀ (s.charge 12 inst) := by
  have hlasting {t : State} (ht : SameCal s₀ t) : SameCal s₀ (t.lasting 12 inst (inst % 2 ^ 20)) := by
    unfold State.lasting
    extract_lets n cls role s1 s2
    have h2 : SameCal s₀ (s2.count (.FLT_SRC_LAST_COUNT (12 - 1)) 1) := (branch ht.event ht.event.faultRecord).count
    generalize s2.count (.FLT_SRC_LAST_COUNT (12 - 1)) 1 = x at h2
    exact branch h2.retire (branch h2.retireLoop ((if_neg hi).symm ▸ h2))
  exact branch h.count (branch (hlasting h.count.setSpares) h.count.setSpares)

end

/-- What a measured element is charged to is of no Coachman. -/
theorem calInstance_ne_coach {item index : Nat} (hi : index < 2 ^ 20) : calInstance item index / 2 ^ 20 ≠ 10 := by
  have hu : calUnit item index < 2 ^ 20 := by
    unfold calUnit
    split
    · omega
    · omega
    · exact Nat.lt_of_lt_of_le (Nat.mod_lt _ (by decide)) (by decide)
    · exact hi
  unfold calInstance unitKey
  dsimp only
  split <;> (try split) <;> omega

theorem SameCal.markSuspect {s₀ s : State} (h : SameCal s₀ s) {item index : Nat} {ms : List (List Int)} {report : Bool}
    (hi : index < 2 ^ 20) : SameCal s₀ (s.markSuspect item index ms report) := by
  unfold State.markSuspect
  extract_lets s1 s2 u c s3
  have h2 : SameCal s₀ s2 := branch h.count.event h.count
  have h3 : SameCal s₀ s3 := branch h2.setCal h2
  exact h3.chargeElement (calInstance_ne_coach hi)

/-! ## Passes over the elements of an item -/

/-- The result of an element among the values given. -/
def resultOf (meas : List Measurement) (item i : Nat) : Option (Nat × Nat × Nat) :=
  match resolve item i (measuresOf meas item i) with
  | .result m => some (item, i, calPack item m)
  | _ => none

theorem resultOf_of_result {meas : List Measurement} {item i : Nat} {m : List Int}
    (h : resolve item i (measuresOf meas item i) = .result m) : resultOf meas item i = some (item, i, calPack item m) := by
  unfold resultOf
  rw [h]

/-- One element that has not been measured: it is found where it has a result. -/
theorem take_spec (meas : List Measurement) (item : Nat) (p : CalPass) {i : Nat} (hi : i < 2 ^ 20)
    (hp : p.measured.get (fun _ => false) i = false) :
    SameCal p.state (p.take meas item i).state ∧ (p.take meas item i).found = p.found ++ (resultOf meas item i).toList ∧
      ∀ j, j ≠ i → (p.take meas item i).measured.get (fun _ => false) j = p.measured.get (fun _ => false) j := by
  unfold CalPass.take resultOf
  rw [if_neg (by rw [hp]; decide)]
  split
  · next ho => rw [ho]; exact ⟨.refl _, (List.append_nil _).symm, fun _ _ => rfl⟩
  · next m hm => rw [hm]; exact ⟨.refl _, rfl, fun j hj => Store.get_set_ne _ _ true hj⟩
  · next ms hm =>
    rw [hm]
    exact ⟨(SameCal.refl _).markSuspect hi, (List.append_nil _).symm, fun j hj => Store.get_set_ne _ _ true hj⟩

/-- A pass finds the results of its elements. -/
theorem foldl_take_spec (meas : List Measurement) (item : Nat) {l : List Nat} (hn : l.Nodup) (hl : ∀ i ∈ l, i < 2 ^ 20)
    {p : CalPass} (hp : ∀ i ∈ l, p.measured.get (fun _ => false) i = false) :
    SameCal p.state (l.foldl (CalPass.take meas item) p).state ∧
      (l.foldl (CalPass.take meas item) p).found = p.found ++ l.filterMap (resultOf meas item) := by
  induction l generalizing p with
  | nil => exact ⟨.refl _, (List.append_nil _).symm⟩
  | cons a l ih =>
    obtain ⟨ha, hn'⟩ := List.nodup_cons.mp hn
    obtain ⟨hcal, hfound, hmeas⟩ := take_spec meas item p (hl a List.mem_cons_self) (hp a List.mem_cons_self)
    obtain ⟨hcal', hfound'⟩ := ih hn' (fun i hi => hl i (List.mem_cons_of_mem a hi)) fun i hi =>
      (hmeas i (ne_of_mem_of_not_mem hi ha)).trans (hp i (List.mem_cons_of_mem a hi))
    refine ⟨hcal.trans hcal', hfound'.trans ?_⟩
    rw [hfound, List.append_assoc]
    cases h : resultOf meas item a <;> simp [h]

/-- One element of a background measurement, of another item than COMP. -/
theorem track_spec (meas : List Measurement) {item : Nat} (h4 : item ≠ 4) (p : CalPass) {i : Nat} (hi : i < 2 ^ 20) :
    SameCal p.state (p.track meas item i).state ∧ (p.track meas item i).found = p.found ++ (resultOf meas item i).toList := by
  unfold CalPass.track resultOf
  split
  · next ho => rw [ho]; exact ⟨.refl _, (List.append_nil _).symm⟩
  · next m hm => rw [hm]; dsimp only; rw [if_neg h4]; exact ⟨.refl _, rfl⟩
  · next ms hm => rw [hm]; exact ⟨(SameCal.refl _).markSuspect hi, (List.append_nil _).symm⟩

theorem foldl_track_found (meas : List Measurement) {item : Nat} (h4 : item ≠ 4) {l : List Nat} (hl : ∀ i ∈ l, i < 2 ^ 20)
    (p : CalPass) : (l.foldl (CalPass.track meas item) p).found = p.found ++ l.filterMap (resultOf meas item) := by
  induction l generalizing p with
  | nil => exact (List.append_nil _).symm
  | cons a l ih =>
    obtain ⟨-, hfound⟩ := track_spec meas h4 p (hl a List.mem_cons_self)
    rw [List.foldl_cons, ih fun i hi => hl i (List.mem_cons_of_mem a hi), hfound, List.append_assoc]
    cases h : resultOf meas item a <;> simp [h]

/-- A background measurement leaves the settings and the entries until its results take effect. -/
theorem foldl_track_cal (meas : List Measurement) (item : Nat) {l : List Nat} (hl : ∀ i ∈ l, i < 2 ^ 20) (p : CalPass) :
    SameCal p.state (l.foldl (CalPass.track meas item) p).state := by
  refine List.foldlRecOn l _ (motive := fun q : CalPass => SameCal p.state q.state) (.refl _) fun q hq i hi => ?_
  unfold CalPass.track
  split
  · exact hq
  · dsimp only
    split <;> exact hq
  · exact hq.markSuspect (hl i hi)

/-! ## Entries -/

theorem calCount_le (item : Nat) : calCount item ≤ 503040 := by
  unfold calCount; split <;> decide

theorem calKey_ne {k item i j : Nat} (hi : i < 2 ^ 20) (hj : j < 2 ^ 20) (h : k ≠ item ∨ j ≠ i) : calKey k j ≠ calKey item i := by
  unfold calKey
  omega

theorem calEntry_setCalEntry (s : State) {k item i j : Nat} (v : Nat) (hi : i < 2 ^ 20) (hj : j < 2 ^ 20)
    (h : k ≠ item ∨ j ≠ i) : (s.setCalEntry item i v).calEntry k j = s.calEntry k j :=
  Store.get_set_ne _ _ _ (calKey_ne hi hj h)

/-- The results that take effect are of one item. -/
theorem mem_results {meas : List Measurement} {item : Nat} {l : List Nat} {e : Nat × Nat × Nat}
    (h : e ∈ l.filterMap (resultOf meas item)) : e.1 = item ∧ e.2.1 ∈ l := by
  obtain ⟨i, hi, hr⟩ := List.mem_filterMap.mp h
  unfold resultOf at hr
  split at hr
  · obtain rfl := Option.some.inj hr
    exact ⟨rfl, hi⟩
  · exact absurd hr (by simp)

theorem applyEntries_cons (s : State) (e : Nat × Nat × Nat) (es : List (Nat × Nat × Nat)) :
    s.applyEntries (e :: es) = (s.setCalEntry e.1 e.2.1 e.2.2).applyEntries es := rfl

theorem moveEntries_cons (s : State) (e : Nat × Nat × Nat) (es : List (Nat × Nat × Nat)) :
    s.moveEntries (e :: es) = (s.setCalEntry e.1 e.2.1 (calMove e.1 (s.calEntry e.1 e.2.1) e.2.2)).moveEntries es := rfl

/-- Entries that no result is of keep their values. -/
theorem calEntry_applyEntries_apart (s : State) {es : List (Nat × Nat × Nat)} {k j : Nat} (hj : j < 2 ^ 20)
    (h : ∀ e ∈ es, e.2.1 < 2 ^ 20 ∧ (k ≠ e.1 ∨ j ≠ e.2.1)) : (s.applyEntries es).calEntry k j = s.calEntry k j := by
  induction es generalizing s with
  | nil => rfl
  | cons e es ih =>
    obtain ⟨hi, hne⟩ := h e List.mem_cons_self
    rw [applyEntries_cons, ih _ fun x hx => h x (List.mem_cons_of_mem e hx)]
    exact calEntry_setCalEntry s _ hi hj hne

theorem calEntry_moveEntries_apart (s : State) {es : List (Nat × Nat × Nat)} {k j : Nat} (hj : j < 2 ^ 20)
    (h : ∀ e ∈ es, e.2.1 < 2 ^ 20 ∧ (k ≠ e.1 ∨ j ≠ e.2.1)) : (s.moveEntries es).calEntry k j = s.calEntry k j := by
  induction es generalizing s with
  | nil => rfl
  | cons e es ih =>
    obtain ⟨hi, hne⟩ := h e List.mem_cons_self
    rw [moveEntries_cons, ih _ fun x hx => h x (List.mem_cons_of_mem e hx)]
    exact calEntry_setCalEntry s _ hi hj hne

/-- The results of a nodup list of elements apart from one of them. -/
theorem results_apart {meas : List Measurement} {item i : Nat} {l : List Nat} (hl : ∀ j ∈ l, j < 2 ^ 20) (hi : i ∉ l) :
    ∀ e ∈ l.filterMap (resultOf meas item), e.2.1 < 2 ^ 20 ∧ (item ≠ e.1 ∨ i ≠ e.2.1) := fun e he => by
  obtain ⟨-, hmem⟩ := mem_results he
  exact ⟨hl _ hmem, .inr fun h => hi (h ▸ hmem)⟩

theorem results_other {meas : List Measurement} {item k j : Nat} {l : List Nat} (hl : ∀ j ∈ l, j < 2 ^ 20) (hk : k ≠ item) :
    ∀ e ∈ l.filterMap (resultOf meas item), e.2.1 < 2 ^ 20 ∧ (k ≠ e.1 ∨ j ≠ e.2.1) := fun e he => by
  obtain ⟨h1, hmem⟩ := mem_results he
  exact ⟨hl _ hmem, .inl (h1 ▸ hk)⟩

theorem calEntry_applyResults {meas : List Measurement} {item i : Nat} {l : List Nat} {m : List Int} (s : State)
    (hn : l.Nodup) (hl : ∀ j ∈ l, j < 2 ^ 20) (hi : i ∈ l) (hr : resolve item i (measuresOf meas item i) = .result m) :
    (s.applyEntries (l.filterMap (resultOf meas item))).calEntry item i = calPack item m := by
  induction l generalizing s with
  | nil => exact absurd hi List.not_mem_nil
  | cons a l ih =>
    obtain ⟨ha, hn'⟩ := List.nodup_cons.mp hn
    have hl' : ∀ j ∈ l, j < 2 ^ 20 := fun j hj => hl j (List.mem_cons_of_mem a hj)
    rcases List.mem_cons.mp hi with rfl | hmem
    · rw [List.filterMap_cons_some (resultOf_of_result hr), applyEntries_cons,
        calEntry_applyEntries_apart _ (hl i List.mem_cons_self) (results_apart hl' ha)]
      exact calEntry_setCalEntry_self s _ _ _
    · cases h : resultOf meas item a with
      | none => rw [List.filterMap_cons_none h]; exact ih s hn' hl' hmem
      | some e => rw [List.filterMap_cons_some h, applyEntries_cons]; exact ih _ hn' hl' hmem

/-- The value that an entry has after a background measurement of it. -/
def movedTo (meas : List Measurement) (item i old : Nat) : Nat :=
  match resolve item i (measuresOf meas item i) with
  | .result m => calMove item old (calPack item m)
  | _ => old

theorem movedTo_of_none {meas : List Measurement} {item i : Nat} (h : resultOf meas item i = none) (old : Nat) :
    movedTo meas item i old = old := by
  unfold resultOf at h
  unfold movedTo
  generalize resolve item i (measuresOf meas item i) = r at *
  cases r with
  | result m => exact absurd h (by simp)
  | open_ => rfl
  | suspect ms => rfl

theorem movedTo_of_some {meas : List Measurement} {item i : Nat} {e : Nat × Nat × Nat} (h : resultOf meas item i = some e)
    (old : Nat) : e.1 = item ∧ e.2.1 = i ∧ movedTo meas item i old = calMove item old e.2.2 := by
  unfold resultOf at h
  unfold movedTo
  generalize resolve item i (measuresOf meas item i) = r at *
  cases r with
  | result m => obtain rfl := Option.some.inj h; exact ⟨rfl, rfl, rfl⟩
  | open_ => exact absurd h (by simp)
  | suspect ms => exact absurd h (by simp)

theorem calEntry_moveResults {meas : List Measurement} {item i : Nat} {l : List Nat} (s : State)
    (hn : l.Nodup) (hl : ∀ j ∈ l, j < 2 ^ 20) (hi : i ∈ l) :
    (s.moveEntries (l.filterMap (resultOf meas item))).calEntry item i = movedTo meas item i (s.calEntry item i) := by
  induction l generalizing s with
  | nil => exact absurd hi List.not_mem_nil
  | cons a l ih =>
    obtain ⟨ha, hn'⟩ := List.nodup_cons.mp hn
    have hl' : ∀ j ∈ l, j < 2 ^ 20 := fun j hj => hl j (List.mem_cons_of_mem a hj)
    rcases List.mem_cons.mp hi with rfl | hmem
    · cases h : resultOf meas item i with
      | none =>
        rw [List.filterMap_cons_none h, calEntry_moveEntries_apart _ (hl i List.mem_cons_self) (results_apart hl' ha),
          movedTo_of_none h]
      | some e =>
        obtain ⟨h1, h2, hmoved⟩ := movedTo_of_some h (s.calEntry item i)
        rw [List.filterMap_cons_some h, moveEntries_cons,
          calEntry_moveEntries_apart _ (hl i List.mem_cons_self) (results_apart hl' ha), hmoved, h1, h2]
        exact calEntry_setCalEntry_self s _ _ _
    · have hne : i ≠ a := ne_of_mem_of_not_mem hmem ha
      cases h : resultOf meas item a with
      | none => rw [List.filterMap_cons_none h]; exact ih s hn' hl' hmem
      | some e =>
        obtain ⟨-, he, -⟩ := movedTo_of_some h 0
        rw [List.filterMap_cons_some h, moveEntries_cons, ih _ hn' hl' hmem, he]
        exact congrArg (movedTo meas item i) (calEntry_setCalEntry s _ (hl a List.mem_cons_self) (hl' i hmem) (.inr hne))

/-! ## The power-up sequence -/

theorem calElements_all (s : State) (item : Nat) : s.calElements item true = List.range (calCount item) :=
  if_neg (by simp)

theorem range_calCount_lt (item : Nat) : ∀ i ∈ List.range (calCount item), i < 2 ^ 20 := fun i hi => by
  have := calCount_le item
  have := List.mem_range.mp hi
  omega

/-- The state in which an item of the power-up sequence has been measured. -/
def itemMeasured (meas : List Measurement) (s : State) (item : Nat) : CalPass :=
  (s.calElements item true).foldl (CalPass.take meas item)
    { state := s, found := [], measured := [], events := s.cal.events }

/-- The state after a pass, which counts its events. -/
def passCounted (p : CalPass) : State := { p.state with cal := { p.state.cal with events := p.events } }

theorem powerUpItem_eq (meas : List Measurement) (s : State) (item : Nat) :
    s.powerUpItem meas item = (passCounted (itemMeasured meas s item)).applyEntries (itemMeasured meas s item).found := rfl

theorem itemMeasured_spec (meas : List Measurement) (s : State) (item : Nat) :
    SameCal s (passCounted (itemMeasured meas s item)) ∧
      (itemMeasured meas s item).found = (List.range (calCount item)).filterMap (resultOf meas item) := by
  obtain ⟨hcal, hfound⟩ := foldl_take_spec meas item List.nodup_range (range_calCount_lt item)
    (p := { state := s, found := [], measured := [], events := s.cal.events }) fun _ _ => rfl
  have hp : itemMeasured meas s item = (List.range (calCount item)).foldl (CalPass.take meas item)
      { state := s, found := [], measured := [], events := s.cal.events } := by
    unfold itemMeasured
    rw [calElements_all]
  rw [hp]
  exact ⟨hcal.setCal, hfound⟩

/-- An entry holds the result of its measurements, where they have one. -/
def Established (meas : List Measurement) (s : State) (item i : Nat) : Prop :=
  ∀ m, resolve item i (measuresOf meas item i) = .result m → s.calEntry item i = calPack item m

theorem calEntry_congr {s t : State} (h : t.cal.entries = s.cal.entries) (item i : Nat) : t.calEntry item i = s.calEntry item i :=
  congrArg (fun m : Store Nat => m.get (fun _ => 0) (calKey item i)) h

theorem SameCal.established {meas : List Measurement} {s t : State} (h : SameCal s t) {item i : Nat}
    (he : Established meas s item i) : Established meas t item i := fun m hm =>
  (calEntry_congr h.entries item i).trans (he m hm)

theorem reg_applyEntries (s : State) (es : List (Nat × Nat × Nat)) (a : Nat) : (s.applyEntries es).reg a = s.reg a := by
  rw [applyEntries_eq]
  rfl

/-- An item of the sequence establishes its own entries, keeps the others, and leaves the settings. -/
theorem powerUpItem_spec (meas : List Measurement) (s : State) (item : Nat) :
    (∀ i, i < calCount item → Established meas (s.powerUpItem meas item) item i) ∧
      (∀ k i, i < calCount k → Established meas s k i → Established meas (s.powerUpItem meas item) k i) ∧
      ∀ a, SetupReg a → (s.powerUpItem meas item).reg a = s.reg a := by
  obtain ⟨hcal, hfound⟩ := itemMeasured_spec meas s item
  rw [powerUpItem_eq, hfound]
  generalize passCounted (itemMeasured meas s item) = v at hcal
  have hself : ∀ i, i < calCount item →
      Established meas (v.applyEntries ((List.range (calCount item)).filterMap (resultOf meas item))) item i :=
    fun i hi m hm => calEntry_applyResults v List.nodup_range (range_calCount_lt item) (List.mem_range.mpr hi) hm
  refine ⟨hself, fun k i hi he => ?_, fun a ha => (reg_applyEntries v _ a).trans (hcal.regs a ha)⟩
  by_cases hk : k = item
  · subst hk; exact hself i hi
  · intro m hm
    rw [calEntry_applyEntries_apart v (range_calCount_lt k i (List.mem_range.mpr hi))
      (results_other (range_calCount_lt item) hk)]
    exact hcal.established he m hm

theorem SameCal.setLocked {s₀ s : State} (h : SameCal s₀ s) {p : Nat} {b : Bool} : SameCal s₀ (s.setLocked p b) := h.setFld

theorem SameCal.passRole {s₀ s : State} (h : SameCal s₀ s) {r : Nat} : SameCal s₀ (s.passRole r) := by
  have hrole (v : Nat) : SameCal s₀ (s.setFld (roleField r) v) := h.setFld (by rw [roleField_addr]; decide)
  refine SameCal.branch h (SameCal.branch h.leftWithout.setClocks ?_)
  exact ((hrole _).setHolder.setUnit).setClocks.setClocks.setFlag

theorem SameCal.lockLoops {s₀ s : State} (h : SameCal s₀ s) {l : List (Fin 4)} : SameCal s₀ (s.lockLoops l) := by
  have h1 : SameCal s₀ ([0, 1, 2].foldl State.passRole (l.foldl (fun s p => s.retireLoop p.val) s)) :=
    (h.foldl fun h => h.retireLoop).foldl fun h => h.passRole
  have h2 := (h1.setFlag (f := .PLL_STAT_REF_OK) (b := true)).foldl
    (f := fun s p => if bitOf (s.fld .PLL_ROLE_RETIRED) p then s else s.setLocked p true) (l := List.range 4)
    fun h => SameCal.branch h h.setLocked
  exact SameCal.branch h h2.setStarted

theorem darkOk_congr {s t : State} (h : t.reg Reg.CAL_DARK_LIM = s.reg Reg.CAL_DARK_LIM) (d : Int) : t.darkOk d = s.darkOk d := by
  unfold State.darkOk
  rw [fld_of_reg (f := .CAL_DARK_LIM_LO) h, fld_of_reg (f := .CAL_DARK_LIM_HI) h]

theorem darkLim_loadEntries (s : State) : s.loadEntries.reg Reg.CAL_DARK_LIM = s.reg Reg.CAL_DARK_LIM := by
  unfold State.loadEntries
  split
  · exact (reg_setFld_ne _ _ (by decide)).trans (reg_setFld_ne _ _ (by decide))
  · exact reg_setFld_ne _ _ (by decide)

/-- The state in which items 0 and 1 have been measured. -/
def loopsMeasured (s : State) (found : PowerUp) : State :=
  ((s.loadEntries.powerUpItem found.meas 0).lockLoops found.unlocked).powerUpItem found.meas 1

theorem loopsMeasured_spec (s : State) (found : PowerUp) :
    (∀ item i, item ≤ 1 → i < calCount item → Established found.meas (loopsMeasured s found) item i) ∧
      (loopsMeasured s found).reg Reg.CAL_DARK_LIM = s.reg Reg.CAL_DARK_LIM := by
  have hdark : SetupReg Reg.CAL_DARK_LIM := by decide
  obtain ⟨h0, -, hr0⟩ := powerUpItem_spec found.meas s.loadEntries 0
  have hl : SameCal (s.loadEntries.powerUpItem found.meas 0) ((s.loadEntries.powerUpItem found.meas 0).lockLoops found.unlocked) :=
    (SameCal.refl _).lockLoops
  obtain ⟨h1, hk1, hr1⟩ := powerUpItem_spec found.meas
    ((s.loadEntries.powerUpItem found.meas 0).lockLoops found.unlocked) 1
  refine ⟨fun item i hle hi => ?_, ?_⟩
  · rcases Nat.le_one_iff_eq_zero_or_eq_one.mp hle with rfl | rfl
    · exact hk1 0 i hi (hl.established (h0 i hi))
    · exact h1 i hi
  · exact (hr1 _ hdark).trans ((hl.regs _ hdark).trans ((hr0 _ hdark).trans (darkLim_loadEntries s)))

/-- The items that converter slots measure. -/
def slotsMeasured (s : State) (meas : List Measurement) : State := [2, 3, 4, 5, 6].foldl (State.powerUpItem meas) s

theorem slotsMeasured_spec (meas : List Measurement) (s : State) :
    (∀ item i, 2 ≤ item → item ≤ 6 → i < calCount item → Established meas (slotsMeasured s meas) item i) ∧
      ∀ item i, i < calCount item → Established meas s item i → Established meas (slotsMeasured s meas) item i := by
  have hfold : ∀ (l : List Nat) (t : State),
      (∀ item i, item ∈ l → i < calCount item → Established meas (l.foldl (State.powerUpItem meas) t) item i) ∧
        ∀ item i, i < calCount item → Established meas t item i →
          Established meas (l.foldl (State.powerUpItem meas) t) item i := by
    intro l
    induction l with
    | nil => exact fun t => ⟨fun _ _ h => absurd h List.not_mem_nil, fun _ _ _ h => h⟩
    | cons a l ih =>
      intro t
      obtain ⟨hself, hkept, -⟩ := powerUpItem_spec meas t a
      obtain ⟨hall, hkept'⟩ := ih (t.powerUpItem meas a)
      refine ⟨fun item i hmem hi => ?_, fun item i hi he => hkept' item i hi (hkept item i hi he)⟩
      rcases List.mem_cons.mp hmem with rfl | hmem
      · exact hkept' item i hi (hself i hi)
      · exact hall item i hmem hi
  obtain ⟨hall, hkept⟩ := hfold [2, 3, 4, 5, 6] s
  exact ⟨fun item i h2 h6 hi => hall item i (by simp; omega) hi, hkept⟩

/-- The state in which the sequence ends. -/
def powerUpEnded (s : State) (dt : Nat) : State :=
  { (s.setFlag .CAL_STAT_POWERUP_DONE true).setFld .CAL_LAST_MS_DURATION (min 65535 (dt / 1000000)) with
    cal := { s.cal with cycleAt := s.now, events := 0 } }

/-- The state in which items 2 to 6 have been measured, or D has lain beyond its limits. -/
def slotsOrPrecond (s : State) (meas : List Measurement) (d : Int) : State :=
  if s.darkOk d then slotsMeasured s meas else (s.setFlag .CAL_STAT_PRECOND true).darkEvent d

theorem exec_powerupCalibration {s : State} {dt : Nat} {found : PowerUp} {x : Measurement} (ha : (s.advance dt).alive = true)
    (hc : (s.advance dt).coach.started = true) (hd : (s.advance dt).flag .CAL_STAT_POWERUP_DONE = false)
    (hx : found.meas.find? (fun x => x.item.val == 7) = some x) :
    exec (.powerupCalibration dt found) s =
      .next (powerUpEnded (slotsOrPrecond (loopsMeasured (s.advance dt) found) found.meas x.value) dt) := by
  have hlevel (t : State) : t.darkLevel found.meas = (x.value, t) := by
    unfold State.darkLevel
    rw [hx]
  refine congrArg Host.Outcome.next ((if_pos (by rw [ha, hc, hd]; rfl)).trans ?_)
  extract_lets s1
  rw [hlevel]
  have h1 : loopsMeasured (s.advance dt) found = s1 := rfl
  rw [h1]
  clear_value s1
  rfl

theorem powerUpEnded_spec (s : State) (dt : Nat) :
    (powerUpEnded s dt).flag .CAL_STAT_POWERUP_DONE = true ∧
      (powerUpEnded s dt).flag .CAL_STAT_PRECOND = s.flag .CAL_STAT_PRECOND ∧
      (powerUpEnded s dt).cal.entries = s.cal.entries := by
  have hregs : (powerUpEnded s dt).reg Reg.CAL_STAT = (s.setFlag .CAL_STAT_POWERUP_DONE true).reg Reg.CAL_STAT :=
    reg_setFld_ne (s.setFlag .CAL_STAT_POWERUP_DONE true) (f := .CAL_LAST_MS_DURATION) _ (by decide)
  exact ⟨(flag_of_reg hregs).trans (flag_setFlag_bit s true), (flag_of_reg hregs).trans (flag_setFlag_bits s true), rfl⟩

theorem powerupCalibration_holds {s : State} {dt : Nat} {found : PowerUp} {x : Measurement}
    (ha : (s.advance dt).alive = true) (hc : (s.advance dt).coach.started = true)
    (hd : (s.advance dt).flag .CAL_STAT_POWERUP_DONE = false)
    (hx : found.meas.find? (fun x => x.item.val == 7) = some x) :
    ∃ t, exec (.powerupCalibration dt found) s = .next t ∧ t.flag .CAL_STAT_POWERUP_DONE = true ∧
      ((s.advance dt).darkOk x.value = false → t.flag .CAL_STAT_PRECOND = true) ∧
      ∀ item i m, item ≤ 6 → item ≤ 1 ∨ (s.advance dt).darkOk x.value = true → i < calCount item →
        resolve item i (measuresOf found.meas item i) = .result m → t.calEntry item i = calPack item m := by
  obtain ⟨hloops, hdark⟩ := loopsMeasured_spec (s.advance dt) found
  have hok := darkOk_congr hdark x.value
  have hx' := exec_powerupCalibration ha hc hd hx
  generalize loopsMeasured (s.advance dt) found = v at *
  obtain ⟨hdone, hpre, hentries⟩ := powerUpEnded_spec (slotsOrPrecond v found.meas x.value) dt
  refine ⟨_, hx', hdone, fun hbad => hpre.trans ?_, fun item i m h6 hor hi hm => (calEntry_congr hentries item i).trans ?_⟩
  · unfold slotsOrPrecond
    rw [hok, hbad]
    exact ((SameCal.refl _).event.regs Reg.CAL_STAT (by decide) |> flag_of_reg).trans (flag_setFlag_bit v true)
  · unfold slotsOrPrecond
    rw [hok]
    obtain ⟨hall, hkept⟩ := slotsMeasured_spec found.meas v
    cases hgood : (s.advance dt).darkOk x.value with
    | true =>
      rcases Nat.lt_or_ge item 2 with h2 | h2
      · exact hkept item i hi (hloops item i (by omega) hi) m hm
      · exact hall item i h2 h6 hi m hm
    | false =>
      have h1 : item ≤ 1 := hor.resolve_right (by rw [hgood]; decide)
      have hcal : SameCal (v.setFlag .CAL_STAT_PRECOND true) ((v.setFlag .CAL_STAT_PRECOND true).darkEvent x.value) :=
        (SameCal.refl _).event
      exact (calEntry_congr hcal.entries item i).trans (hloops item i h1 hi m hm)

/-! ## Background tracking -/

theorem nodup_eraseDups (l : List Nat) : l.eraseDups.Nodup := by
  induction h : l.length using Nat.strong_induction_on generalizing l with
  | _ n ih =>
    cases l with
    | nil => exact List.nodup_nil
    | cons a l =>
      rw [List.eraseDups_cons]
      have hlen : (l.filter fun b => !b == a).length < n := by
        have := List.length_filter_le (fun b => !b == a) l
        simp at h
        omega
      refine List.nodup_cons.mpr ⟨fun hmem => ?_, ih _ hlen _ rfl⟩
      have := (List.mem_filter.mp (List.mem_eraseDups.mp hmem)).2
      simp at this

theorem nodup_trackElements (s : State) (meas : List Measurement) (item : Nat) (first : Bool) :
    (s.trackElements meas item first).Nodup := (nodup_eraseDups _).filter _

theorem trackElements_lt (s : State) (meas : List Measurement) (item : Nat) (first : Bool) :
    ∀ i ∈ s.trackElements meas item first, i < 2 ^ 20 := fun i hi => by
  have hc := (List.mem_filter.mp hi).2
  simp only [Bool.and_eq_true, decide_eq_true_eq] at hc
  exact range_calCount_lt item i (List.mem_range.mpr hc.1.1)

/-- The least of the lengths is none above the first. -/
theorem foldl_min_le (f : Nat → Nat) (l : List Nat) (n : Nat) : l.foldl (fun m c => min m (f c)) n ≤ n := by
  induction l generalizing n with
  | nil => exact Nat.le_refl n
  | cons a l ih => exact (ih (min n (f a))).trans (Nat.min_le_left n (f a))

theorem calParts_pos (item : Nat) : 0 < calParts item := by
  unfold calParts; split <;> decide

/-- An element that has a result is among those of the values given. -/
theorem mem_measured {meas : List Measurement} {item i : Nat} {e : Nat × Nat × Nat} (h : resultOf meas item i = some e) :
    i ∈ (meas.filter fun x => x.item.val == item).map fun x => x.element / calParts item := by
  have hne : measuresOf meas item i ≠ [] := by
    intro hnil
    unfold resultOf at h
    rw [hnil] at h
    exact absurd h (by simp [resolve])
  have hpos : 0 < (meas.filter fun x => x.item.val == item && x.element == i * calParts item + 0).length := by
    by_contra hz
    refine hne ?_
    unfold measuresOf
    dsimp only
    have hlen := foldl_min_le (fun c => ((meas.filter fun x => x.item.val == item && x.element == i * calParts item + c).map
      (·.value)).length) (List.range (calParts item)) ((meas.filter fun x =>
        x.item.val == item && x.element == i * calParts item + 0).map (·.value)).length
    rw [List.length_map, Nat.eq_zero_of_not_pos hz] at hlen
    rw [List.length_map, Nat.eq_zero_of_not_pos hz, Nat.le_zero.mp hlen]
    rfl
  obtain ⟨x, hx⟩ := List.exists_mem_of_length_pos hpos
  obtain ⟨hmem, hc⟩ := List.mem_filter.mp hx
  simp only [Bool.and_eq_true, beq_iff_eq, Nat.add_zero] at hc
  refine List.mem_map.mpr ⟨x, List.mem_filter.mpr ⟨hmem, by simpa using hc.1⟩, ?_⟩
  rw [hc.2, Nat.mul_div_cancel _ (calParts_pos item)]

/-- Is an entry of the combinations that a cycle measures first? -/
def inFirst (s : State) (item i : Nat) : Bool := (calCombo item i).all s.firstCombos.contains

theorem mem_trackElements {s : State} {meas : List Measurement} {item i : Nat} {first : Bool} (h0 : item ≠ 0)
    (hi : i < calCount item) {e : Nat × Nat × Nat} (h : resultOf meas item i = some e) :
    i ∈ s.trackElements meas item first ↔ inFirst s item i = first := by
  unfold State.trackElements
  dsimp only
  rw [List.mem_filter, List.mem_eraseDups]
  refine (and_iff_right (mem_measured h)).trans ?_
  simp [hi, h0, inFirst]

theorem not_mem_trackElements {s : State} {meas : List Measurement} {item i : Nat} {first : Bool}
    (h : inFirst s item i ≠ first) : i ∉ s.trackElements meas item first := by
  intro hmem
  have hc := (List.mem_filter.mp hmem).2
  simp only [Bool.and_eq_true, beq_iff_eq] at hc
  exact h hc.2

/-- `t` has the settings of `s` of what is measured and tracked. -/
def SameSetup (s t : State) : Prop := ∀ a, SetupReg a → t.reg a = s.reg a

theorem SameSetup.refl (s : State) : SameSetup s s := fun _ _ => rfl
theorem SameSetup.trans {s t u : State} (h : SameSetup s t) (h' : SameSetup t u) : SameSetup s u :=
  fun a ha => (h' a ha).trans (h a ha)

theorem firstCombos_congr {s t : State} (hm : t.reg Reg.HIF_MODE = s.reg Reg.HIF_MODE) (hg : t.reg Reg.RO_GAIN = s.reg Reg.RO_GAIN)
    (hs : t.reg Reg.RO_SVC = s.reg Reg.RO_SVC) : t.firstCombos = s.firstCombos := by
  have hc (x : Nat) : t.combo x = s.combo x := by
    unfold State.combo State.gain State.depth State.mode
    rw [hg, fld_of_reg (f := .HIF_MODE_MODE) hm, fld_of_reg (f := .RO_SVC_DEPTH) hs]
  unfold State.firstCombos
  rw [List.map_congr_left fun x _ => hc x]

theorem SameSetup.firstCombos {s t : State} (h : SameSetup s t) : t.firstCombos = s.firstCombos :=
  firstCombos_congr (h _ (by decide)) (h _ (by decide)) (h _ (by decide))

theorem SameSetup.tracks {s t : State} (h : SameSetup s t) (item : Nat) : t.tracks item = s.tracks item := by
  have hr : t.reg Reg.CAL_STAT = s.reg Reg.CAL_STAT := h _ (by decide)
  unfold State.tracks
  rw [fld_of_reg (f := .CAL_STAT_RUNNING) hr, flag_of_reg (f := .CAL_STAT_DRIFT_PAUSED) hr]

theorem SameSetup.inFirst {s t : State} (h : SameSetup s t) (item i : Nat) : inFirst t item i = inFirst s item i := by
  unfold Safety.inFirst
  rw [h.firstCombos]

/-- The pass of a background measurement over an item. -/
def itemTracked (meas : List Measurement) (first : Bool) (s : State) (item : Nat) : CalPass :=
  (s.trackElements meas item first).foldl (CalPass.track meas item)
    { state := s, found := [], measured := s.cal.measured, events := s.cal.events }

/-- The state after a pass, which counts its elements and its events. -/
def trackCounted (p : CalPass) : State :=
  { p.state with cal := { p.state.cal with measured := p.measured, events := p.events } }

theorem trackItem_eq (meas : List Measurement) (first : Bool) (s : State) (item : Nat) :
    s.trackItem meas first item =
      (let p := itemTracked meas first s item
       if p.found.isEmpty || !s.tracks item then trackCounted p
       else if item = 5 then (trackCounted p).stageClassB (.calibration true p.found)
       else (trackCounted p).moveEntries p.found) := rfl

theorem itemTracked_cal (meas : List Measurement) (first : Bool) (s : State) (item : Nat) :
    SameCal s (trackCounted (itemTracked meas first s item)) :=
  (foldl_track_cal meas item (trackElements_lt s meas item first)
    { state := s, found := [], measured := s.cal.measured, events := s.cal.events }).setCal

theorem itemTracked_found (meas : List Measurement) (first : Bool) (s : State) {item : Nat} (h4 : item ≠ 4) :
    (itemTracked meas first s item).found = (s.trackElements meas item first).filterMap (resultOf meas item) :=
  foldl_track_found meas h4 (trackElements_lt s meas item first)
    { state := s, found := [], measured := s.cal.measured, events := s.cal.events }

/-- What COMP's measurements find is not kept. -/
theorem itemTracked_comp (meas : List Measurement) (first : Bool) (s : State) : (itemTracked meas first s 4).found = [] := by
  refine List.foldlRecOn _ _ (motive := fun q : CalPass => q.found = []) rfl fun q hq i _ => ?_
  unfold CalPass.track
  split
  · exact hq
  · exact hq
  · exact hq

theorem reg_moveEntries (s : State) (es : List (Nat × Nat × Nat)) (a : Nat) : (s.moveEntries es).reg a = s.reg a := by
  induction es generalizing s with
  | nil => rfl
  | cons e es ih => rw [moveEntries_cons, ih]; rfl

/-- A background measurement of an item leaves the settings. -/
theorem trackItem_setup (meas : List Measurement) (first : Bool) (s : State) (item : Nat) :
    SameSetup s (s.trackItem meas first item) := by
  have hcal := itemTracked_cal meas first s item
  rw [trackItem_eq]
  dsimp only
  generalize itemTracked meas first s item = p at *
  intro a ha
  split
  · exact hcal.regs a ha
  · split
    · exact hcal.regs a ha
    · exact (reg_moveEntries _ _ a).trans (hcal.regs a ha)

/-- A background measurement of an item leaves the entries of the others. -/
theorem trackItem_other (meas : List Measurement) (first : Bool) (s : State) {item k j : Nat} (hk : k ≠ item)
    (hj : j < calCount k) : (s.trackItem meas first item).calEntry k j = s.calEntry k j := by
  have hcal := itemTracked_cal meas first s item
  have hsame := calEntry_congr hcal.entries k j
  have hj' := range_calCount_lt k j (List.mem_range.mpr hj)
  rw [trackItem_eq]
  dsimp only
  split
  · exact hsame
  · next hfound =>
    split
    · exact hsame
    · by_cases h4 : item = 4
      · subst h4
        rw [itemTracked_comp] at hfound
        exact absurd rfl hfound
      · rw [itemTracked_found meas first s h4]
        exact (calEntry_moveEntries_apart _ hj' (results_other (trackElements_lt s meas item first) hk)).trans hsame

/-- An entry of a tracked item moves in the pass of its combinations. -/
theorem trackItem_self (meas : List Measurement) (first : Bool) {s : State} {item i : Nat} (hm : item ∈ [1, 2, 3, 6])
    (ht : s.tracks item = true) (hi : i < calCount item) :
    (s.trackItem meas first item).calEntry item i =
      if inFirst s item i = first then movedTo meas item i (s.calEntry item i) else s.calEntry item i := by
  have h0 : item ≠ 0 ∧ item ≠ 4 ∧ item ≠ 5 := by
    simp only [List.mem_cons, List.not_mem_nil, or_false] at hm
    omega
  obtain ⟨h0, h4, h5⟩ := h0
  have hcal := itemTracked_cal meas first s item
  have hsame := calEntry_congr hcal.entries item i
  have hi' := range_calCount_lt item i (List.mem_range.mpr hi)
  have heq : s.trackItem meas first item = (trackCounted (itemTracked meas first s item)).moveEntries
      ((s.trackElements meas item first).filterMap (resultOf meas item)) := by
    rw [trackItem_eq, ← itemTracked_found meas first s h4]
    dsimp only
    rw [ht, if_neg h5]
    cases hf : (itemTracked meas first s item).found with
    | nil => rfl
    | cons e es => rfl
  rw [heq]
  by_cases hmem : i ∈ s.trackElements meas item first
  · have hin : inFirst s item i = first := by
      by_contra hne
      exact not_mem_trackElements hne hmem
    rw [if_pos hin, calEntry_moveResults _ (nodup_trackElements s meas item first) (trackElements_lt s meas item first) hmem,
      hsame]
  · rw [calEntry_moveEntries_apart _ hi' (results_apart (trackElements_lt s meas item first) hmem), hsame]
    split
    · next hin =>
      cases hr : resultOf meas item i with
      | none => exact (movedTo_of_none hr _).symm
      | some e => exact absurd ((mem_trackElements h0 hi hr).mpr hin) hmem
    · rfl

/-- The pass of a background measurement over several items. -/
theorem foldl_trackItem (meas : List Measurement) (first : Bool) {item i : Nat} (hm : item ∈ [1, 2, 3, 6])
    (hi : i < calCount item) (l : List Nat) (hn : l.Nodup) {s : State} (ht : s.tracks item = true) :
    SameSetup s (l.foldl (State.trackItem meas first) s) ∧
      (l.foldl (State.trackItem meas first) s).calEntry item i =
        if item ∈ l ∧ inFirst s item i = first then movedTo meas item i (s.calEntry item i) else s.calEntry item i := by
  induction l generalizing s with
  | nil => exact ⟨.refl s, by simp⟩
  | cons a l ih =>
    obtain ⟨ha, hn'⟩ := List.nodup_cons.mp hn
    have hset := trackItem_setup meas first s a
    obtain ⟨hset', hentry⟩ := ih hn' (s := s.trackItem meas first a) ((hset.tracks item).trans ht)
    refine ⟨hset.trans hset', hentry.trans ?_⟩
    rw [hset.inFirst]
    by_cases hia : item = a
    · subst hia
      rw [trackItem_self meas first hm ht hi]
      simp [ha]
    · rw [trackItem_other meas first s hia hi]
      simp [hia]

/-- After a background measurement an entry has moved where its combination's turn has come. -/
theorem trackAll_entry (meas : List Measurement) {s : State} {item i : Nat} (hm : item ∈ [1, 2, 3, 6])
    (ht : s.tracks item = true) (hi : i < calCount item) :
    (s.trackAll meas).calEntry item i =
      if inFirst s item i || ((List.range 7).foldl (State.trackItem meas true) s).firstDone
        then movedTo meas item i (s.calEntry item i) else s.calEntry item i := by
  have h7 : item ∈ List.range 7 := by
    simp only [List.mem_cons, List.not_mem_nil, or_false] at hm
    exact List.mem_range.mpr (by omega)
  obtain ⟨hset, h1⟩ := foldl_trackItem meas true hm hi (List.range 7) List.nodup_range ht
  have h2 := (foldl_trackItem meas false hm hi (List.range 7) List.nodup_range
    (s := (List.range 7).foldl (State.trackItem meas true) s) ((hset.tracks item).trans ht)).2
  rw [hset.inFirst] at h2
  unfold State.trackAll
  dsimp only
  generalize (List.range 7).foldl (State.trackItem meas true) s = v at *
  cases hf : inFirst s item i with
  | true =>
    rw [hf] at h1 h2
    have h1' := h1.trans (if_pos ⟨h7, rfl⟩)
    split
    · exact (h2.trans (if_neg (by simp))).trans h1'
    · exact h1'
  | false =>
    rw [hf] at h1 h2
    have h1' := h1.trans (if_neg (by simp))
    split
    · next hd =>
      rw [if_pos (by rw [hd]; rfl)]
      exact (h2.trans (if_pos ⟨h7, rfl⟩)).trans (congrArg (movedTo meas item i) h1')
    · next hd =>
      rw [if_neg (by simpa using hd)]
      exact h1'

theorem entries_branch {s t : State} {c : Prop} {inst : Decidable c} (h : t.cal.entries = s.cal.entries) :
    (if c then t else s).cal.entries = s.cal.entries := by
  split
  · exact h
  · rfl

theorem entries_settleCycle (s : State) : s.settleCycle.cal.entries = s.cal.entries := entries_branch rfl

/-- The test of D leaves the entries, the combinations in force, and the items that are measured. -/
structure SameTest (s t : State) : Prop where
  entries : t.cal.entries = s.cal.entries
  combos : t.firstCombos = s.firstCombos
  running : t.fld .CAL_STAT_RUNNING = s.fld .CAL_STAT_RUNNING

theorem SameTest.trans {s t u : State} (h : SameTest s t) (h' : SameTest t u) : SameTest s u :=
  ⟨h'.entries.trans h.entries, h'.combos.trans h.combos, h'.running.trans h.running⟩

theorem SameCal.test {s t : State} (h : SameCal s t) : SameTest s t :=
  ⟨h.entries, SameSetup.firstCombos h.regs, fld_of_reg (h.regs _ (by decide))⟩

theorem sameTest_setPaused (s : State) (b : Bool) : SameTest s (s.setFlag .CAL_STAT_DRIFT_PAUSED b) :=
  ⟨rfl, firstCombos_congr (reg_setFlag_ne s b (by decide)) (reg_setFlag_ne s b (by decide)) (reg_setFlag_ne s b (by decide)),
    fld_setFld_bits s _⟩

theorem sameTest_testDark (s : State) (d : Int) : SameTest s (s.testDark d) := by
  unfold State.testDark
  split
  · exact sameTest_setPaused s false
  · split
    · exact (SameCal.refl s).test
    · exact (sameTest_setPaused s true).trans ((SameCal.refl _).event).test

/-- The state in which the background measurements of D have been tested. -/
def darkTested (s : State) (meas : List Measurement) : State :=
  (measuresOf meas 6 0).foldl (fun s m => s.testDark (m.getD 0 0)) s

theorem darkTested_test (s : State) (meas : List Measurement) : SameTest s (darkTested s meas) :=
  List.foldlRecOn _ _ (motive := SameTest s) (SameCal.refl s).test fun _ ht _ _ => ht.trans (sameTest_testDark _ _)

theorem exec_backgroundDrift {s : State} {dt : Nat} {meas : List Measurement} (ha : (s.advance dt).alive = true)
    (hc : (s.advance dt).coach.started = true) (hd : (s.advance dt).flag .CAL_STAT_POWERUP_DONE = true)
    (he : (s.advance dt).flag .CAL_CTL_DRIFT_EN = true) (hp : (s.advance dt).fld .PWR_STATE_STATE = 0) :
    exec (.backgroundDriftMeasure dt meas) s =
      .next (((darkTested (s.advance dt) ((s.advance dt).keptValues meas)).trackAll
        ((s.advance dt).keptValues meas)).settleCycle) :=
  congrArg Host.Outcome.next (if_pos (by rw [ha, hc, hd, he, hp]; rfl))

/-- An entry of TDC is of no combination. -/
theorem inFirst_ramp (s : State) (i : Nat) : inFirst s 1 i = true := rfl

/-- The turn of an entry is what it is before D is tested. -/
theorem turn_darkTested {u : State} {kept : List Measurement} {item i : Nat} (h : item = 1 ∨ measuresOf kept 6 0 = []) :
    (inFirst (darkTested u kept) item i || ((List.range 7).foldl (State.trackItem kept true) (darkTested u kept)).firstDone) =
      (inFirst u item i || ((List.range 7).foldl (State.trackItem kept true) u).firstDone) := by
  rcases h with rfl | hnil
  · rw [inFirst_ramp, inFirst_ramp, Bool.true_or, Bool.true_or]
  · have hu : darkTested u kept = u := by unfold darkTested; rw [hnil]; rfl
    rw [hu]

theorem tracks_darkTested {u : State} {kept : List Measurement} {item : Nat} (h : item = 1 ∨ measuresOf kept 6 0 = []) :
    (darkTested u kept).tracks item = u.tracks item := by
  rcases h with rfl | hnil
  · unfold State.tracks
    rw [(darkTested_test u kept).running]
    rfl
  · have hu : darkTested u kept = u := by unfold darkTested; rw [hnil]; rfl
    rw [hu]

theorem backgroundDrift_holds {s : State} {dt : Nat} {meas : List Measurement} {item i : Nat}
    (ha : (s.advance dt).alive = true) (hc : (s.advance dt).coach.started = true)
    (hd : (s.advance dt).flag .CAL_STAT_POWERUP_DONE = true) (he : (s.advance dt).flag .CAL_CTL_DRIFT_EN = true)
    (hp : (s.advance dt).fld .PWR_STATE_STATE = 0) (hm : item ∈ [1, 2, 3, 6]) (ht : (s.advance dt).tracks item = true)
    (h6 : item = 1 ∨ measuresOf ((s.advance dt).keptValues meas) 6 0 = []) (hi : i < calCount item) :
    ∃ t, exec (.backgroundDriftMeasure dt meas) s = .next t ∧ t.calEntry item i =
      if inFirst (s.advance dt) item i ||
          ((List.range 7).foldl (State.trackItem ((s.advance dt).keptValues meas) true) (s.advance dt)).firstDone
        then movedTo ((s.advance dt).keptValues meas) item i ((s.advance dt).calEntry item i)
        else (s.advance dt).calEntry item i := by
  refine ⟨_, exec_backgroundDrift ha hc hd he hp, (calEntry_congr (entries_settleCycle _) item i).trans ?_⟩
  generalize (s.advance dt).keptValues meas = kept at *
  rw [trackAll_entry kept hm ((tracks_darkTested h6).trans ht) hi, turn_darkTested h6,
    calEntry_congr (darkTested_test (s.advance dt) kept).entries]

theorem movedTo_of_result {meas : List Measurement} {item i : Nat} {m : List Int}
    (h : resolve item i (measuresOf meas item i) = .result m) (old : Nat) :
    movedTo meas item i old = calMove item old (calPack item m) := by
  unfold movedTo
  rw [h]

theorem movedTo_of_no_result {meas : List Measurement} {item i : Nat}
    (h : ∀ m, resolve item i (measuresOf meas item i) ≠ .result m) (old : Nat) : movedTo meas item i old = old := by
  unfold movedTo
  split
  · next m hm => exact absurd hm (h m)
  · rfl

/-- What a background measurement leaves in an entry, its turn come or not. -/
theorem movedTo_turn {meas : List Measurement} {item i : Nat} {turn : Bool} {old new : Nat}
    (h : new = if turn then movedTo meas item i old else old) :
    (∀ m, turn = true → resolve item i (measuresOf meas item i) = .result m → new = calMove item old (calPack item m)) ∧
      (turn = false ∨ (∀ m, resolve item i (measuresOf meas item i) ≠ .result m) → new = old) := by
  refine ⟨fun m ht hm => (h.trans (if_pos ht)).trans (movedTo_of_result hm old), fun hor => h.trans ?_⟩
  rcases hor with ht | hno
  · exact if_neg (by rw [ht]; decide)
  · rw [movedTo_of_no_result hno]
    exact ite_self old

/-! ## The result space -/

theorem calRead_eq {s : State} (hgood : ¬ (s.fld .CAL_IDX_ITEM = 7 ∨ calCount (s.fld .CAL_IDX_ITEM) ≤ s.fld .CAL_IDX_INDEX)) :
    s.calRead = (s.calEntry (s.fld .CAL_IDX_ITEM) (s.fld .CAL_IDX_INDEX), s.nextIndex) := by
  obtain ⟨h7, hc⟩ := not_or.mp hgood
  unfold State.calRead
  dsimp only
  rw [if_neg hgood, if_neg hc, if_neg h7]

theorem calRead_bad {s : State} (hbad : s.fld .CAL_IDX_ITEM = 7 ∨ calCount (s.fld .CAL_IDX_ITEM) ≤ s.fld .CAL_IDX_INDEX) :
    s.calRead = (if calCount (s.fld .CAL_IDX_ITEM) ≤ s.fld .CAL_IDX_INDEX then 0
      else s.cal.drift.getD (s.fld .CAL_IDX_INDEX) 0, (s.setFlag .CAL_IDX_ERR true).nextIndex) := by
  unfold State.calRead
  dsimp only
  rw [if_pos hbad]
  split
  · rfl
  · next hc => rw [if_pos (hbad.resolve_right hc)]

/-- An access that is refused shows ERR, and BUSY where the item is being measured. -/
def accessRefused (s : State) (bad busy : Bool) : State :=
  let s1 := if bad then s.setFlag .CAL_IDX_ERR true else s
  if busy then s1.setFlag .CAL_IDX_BUSY true else s1

theorem calWrite_refused {s : State} (v : Word) {bad busy : Bool}
    (hbad : decide (s.fld .CAL_IDX_ITEM = 7 ∨ calCount (s.fld .CAL_IDX_ITEM) ≤ s.fld .CAL_IDX_INDEX) = bad)
    (hbusy : bitOf (s.fld .CAL_STAT_RUNNING) (s.fld .CAL_IDX_ITEM) = busy) (h : (bad || busy) = true) :
    s.calWrite v = (accessRefused s bad busy).nextIndex := by
  unfold State.calWrite
  dsimp only
  rw [hbad, hbusy, if_pos h]
  rfl

theorem calWrite_good {s : State} (v : Word)
    (hgood : ¬ (s.fld .CAL_IDX_ITEM = 7 ∨ calCount (s.fld .CAL_IDX_ITEM) ≤ s.fld .CAL_IDX_INDEX))
    (hidle : bitOf (s.fld .CAL_STAT_RUNNING) (s.fld .CAL_IDX_ITEM) = false)
    (hA : s.fld .CAL_IDX_ITEM ≤ 3 ∨ s.fld .CAL_IDX_ITEM = 6) :
    s.calWrite v = (s.setCalEntry (s.fld .CAL_IDX_ITEM) (s.fld .CAL_IDX_INDEX)
      (v.toNat &&& calMask (s.fld .CAL_IDX_ITEM))).nextIndex := by
  unfold State.calWrite
  dsimp only
  rw [hidle, decide_eq_false hgood]
  exact congrArg State.nextIndex (if_neg (by omega))

theorem fld_nextIndex (s : State) : s.nextIndex.fld .CAL_IDX_INDEX = (s.fld .CAL_IDX_INDEX + 1) % 2 ^ 19 :=
  (fld_setFld_self s .CAL_IDX_INDEX _ (by decide) (by decide)).trans (Nat.mod_mod _ _)

theorem err_nextIndex (s : State) : s.nextIndex.flag .CAL_IDX_ERR = s.flag .CAL_IDX_ERR := flag_setFld_bits s _

theorem busy_nextIndex (s : State) : s.nextIndex.flag .CAL_IDX_BUSY = s.flag .CAL_IDX_BUSY := flag_setFld_bits s _

theorem err_accessRefused (s : State) (busy : Bool) : (accessRefused s true busy).flag .CAL_IDX_ERR = true := by
  have h : (s.setFlag .CAL_IDX_ERR true).flag .CAL_IDX_ERR = true := flag_setFlag_bit s true
  cases busy with
  | true => exact (flag_setFlag_bits (s.setFlag .CAL_IDX_ERR true) true).trans h
  | false => exact h

theorem busy_accessRefused (s : State) (bad : Bool) : (accessRefused s bad true).flag .CAL_IDX_BUSY = true :=
  flag_setFlag_bit _ true

/-- `t` has the entries of `s` and the changes that it has staged. -/
def SameResults (s t : State) : Prop := t.cal = s.cal ∧ t.mgmt = s.mgmt

theorem SameResults.trans {s t u : State} (h : SameResults s t) (h' : SameResults t u) : SameResults s u :=
  ⟨h'.1.trans h.1, h'.2.trans h.2⟩

theorem sameResults_setFld (s : State) (f : Fld) (v : Nat) : SameResults s (s.setFld f v) :=
  ⟨State.setReg_cal s _ _, State.setReg_mgmt s _ _⟩

theorem sameResults_setFlag (s : State) (f : Fld) (b : Bool) : SameResults s (s.setFlag f b) := sameResults_setFld s f _

theorem sameResults_nextIndex (s : State) : SameResults s s.nextIndex :=
  sameResults_setFld s .CAL_IDX_INDEX _

theorem sameResults_answer (s : State) (v : Nat) : SameResults s (s.answer v) := ⟨rfl, rfl⟩

/-- A refused access writes nothing else. -/
theorem sameResults_accessRefused (s : State) (bad busy : Bool) : SameResults s (accessRefused s bad busy).nextIndex := by
  have h1 : SameResults s (if bad then s.setFlag .CAL_IDX_ERR true else s) := by
    split
    · exact sameResults_setFlag _ _ _
    · exact ⟨rfl, rfl⟩
  refine SameResults.trans ?_ (sameResults_nextIndex _)
  unfold accessRefused
  dsimp only
  split
  · exact h1.trans (sameResults_setFlag _ _ _)
  · exact h1

theorem reg_answer (s : State) (v a : Nat) : (s.answer v).reg a = s.reg a := rfl

theorem exec_calDataRead {s : State} (h : s.barOk 1 = true) :
    exec (.calDataAccess none) s = .next (s.calRead.2.answer s.calRead.1) :=
  congrArg Host.Outcome.next (barRead_of_ok h _)

theorem exec_calDataWrite {s : State} (h : s.barOk 1 = true) (v : Word) :
    exec (.calDataAccess (some v)) s = .next (s.calWrite v) := congrArg Host.Outcome.next (pf1Write_accessible h _)

/-- A read or a write beyond the item's entries, or of the drift list. -/
theorem calDataAccess_bad {s : State} (h : s.barOk 1 = true)
    (hbad : s.fld .CAL_IDX_ITEM = 7 ∨ calCount (s.fld .CAL_IDX_ITEM) ≤ s.fld .CAL_IDX_INDEX) (w : Option Word) :
    ∃ t, exec (.calDataAccess w) s = .next t ∧ t.flag .CAL_IDX_ERR = true ∧ t.cal = s.cal ∧ t.mgmt = s.mgmt ∧
      (w = none → t.rdata = if calCount (s.fld .CAL_IDX_ITEM) ≤ s.fld .CAL_IDX_INDEX then 0
        else BitVec.ofNat 32 (s.cal.drift.getD (s.fld .CAL_IDX_INDEX) 0)) := by
  cases w with
  | none =>
    refine ⟨_, exec_calDataRead h, ?_⟩
    rw [calRead_bad hbad]
    obtain ⟨hcal, hmgmt⟩ := (sameResults_accessRefused s true false).trans (sameResults_answer _
      (if calCount (s.fld .CAL_IDX_ITEM) ≤ s.fld .CAL_IDX_INDEX then 0 else s.cal.drift.getD (s.fld .CAL_IDX_INDEX) 0))
    exact ⟨(flag_of_reg (reg_answer _ _ _)).trans ((err_nextIndex _).trans (err_accessRefused s false)), hcal, hmgmt,
      fun _ => apply_ite (BitVec.ofNat 32) _ _ _⟩
  | some v =>
    refine ⟨_, exec_calDataWrite h v, ?_⟩
    rw [calWrite_refused v (decide_eq_true hbad) rfl rfl]
    obtain ⟨hcal, hmgmt⟩ := sameResults_accessRefused s true (bitOf (s.fld .CAL_STAT_RUNNING) (s.fld .CAL_IDX_ITEM))
    exact ⟨(err_nextIndex _).trans (err_accessRefused s _), hcal, hmgmt, fun hw => absurd hw (by simp)⟩

theorem calDataAccess_busy {s : State} (h : s.barOk 1 = true) (v : Word)
    (hbusy : bitOf (s.fld .CAL_STAT_RUNNING) (s.fld .CAL_IDX_ITEM) = true) :
    ∃ t, exec (.calDataAccess (some v)) s = .next t ∧ t.flag .CAL_IDX_BUSY = true ∧ t.cal = s.cal ∧ t.mgmt = s.mgmt := by
  refine ⟨_, exec_calDataWrite h v, ?_⟩
  rw [calWrite_refused v rfl hbusy (Bool.or_true _)]
  exact ⟨(busy_nextIndex _).trans (busy_accessRefused s _), sameResults_accessRefused s _ true⟩

theorem exec_calDlistClr {s : State} (h : s.barOk 1 = true) (v : Word) :
    exec (.calDlistClr v) s = .next (s.dlistClr v) := congrArg Host.Outcome.next (pf1Write_accessible h _)

/-- A write of an entry, after which INDEX is one higher. -/
theorem nextIndex_setCalEntry (s : State) (item i v : Nat) :
    (s.setCalEntry item i v).nextIndex.calEntry item i = v ∧
      (s.setCalEntry item i v).nextIndex.fld .CAL_IDX_INDEX = (s.fld .CAL_IDX_INDEX + 1) % 2 ^ 19 ∧
      RegsKept s (s.setCalEntry item i v).nextIndex (· = Reg.CAL_IDX) :=
  ⟨(calEntry_congr (congrArg Cal.entries (sameResults_nextIndex _).1) item i).trans (calEntry_setCalEntry_self s item i v),
    fld_nextIndex _, fun _ ha => reg_setFld_ne (s.setCalEntry item i v) _ ha⟩

/-- Settles O49: a pass over the elements of an item finds their results (`foldl_take_spec`, `foldl_track_found`), which
become the entries of the power-up sequence (`powerupCalibration_holds`) and move those of the background measurements
(`backgroundDrift_holds`); an access to CAL_DATA is good, refused or busy. -/
theorem calibrationMeasuresTracksAndIsAccessed : Obligations.CalibrationMeasuresTracksAndIsAccessed := by
  refine ⟨fun s dt found x ha hc hd hx => powerupCalibration_holds ha hc hd hx,
    fun s dt meas item i ha hc hd he hp hm ht h6 hi => ?_, fun s v hok => ⟨fun hi h6 => ?_, fun hbad w => ?_, fun hbusy => ?_,
      fun h31 => ?_, fun h31 => ?_⟩⟩
  · obtain ⟨t, hx, ht⟩ := backgroundDrift_holds ha hc hd he hp hm ht h6 hi
    exact ⟨t, hx, movedTo_turn ht⟩
  · have hgood : ¬ (s.fld .CAL_IDX_ITEM = 7 ∨ calCount (s.fld .CAL_IDX_ITEM) ≤ s.fld .CAL_IDX_INDEX) := by
      intro h
      rcases h with h | h
      · exact absurd h6 (by rw [h]; decide)
      · exact absurd hi (Nat.not_lt.mpr h)
    refine ⟨⟨_, exec_calDataRead hok, ?_⟩, fun hA hidle => ⟨_, exec_calDataWrite hok v, ?_⟩⟩
    · rw [calRead_eq hgood]
      exact ⟨rfl, (fld_of_reg (reg_answer _ _ _)).trans (fld_nextIndex s),
        ((sameResults_nextIndex s).trans (sameResults_answer _ _)).1⟩
    · rw [calWrite_good v hgood hidle hA]
      exact nextIndex_setCalEntry s _ _ _
  · exact calDataAccess_bad hok hbad w
  · exact calDataAccess_busy hok v hbusy
  · exact ⟨_, (exec_calDlistClr hok v).trans (congrArg Host.Outcome.next (if_pos h31)), rfl, rfl, rfl⟩
  · exact (exec_calDlistClr hok v).trans (congrArg Host.Outcome.next (if_neg (by rw [h31]; decide)))

end Sys2Proof.Safety
end

section
/-! PROOF. Takeovers, trials and watchdogs of the Coachmen (O53). -/

namespace Sys2Proof.Safety

open Sys2Proof.Machine

/-! ## What a takeover does before the lead changes hands

The tests under way end, and a mailbox command may run again. That leaves what is known of the Coachmen, and the lead. -/

/-- `s` knows of the Coachmen what `s₀` does, at the same time. -/
structure SameCoaches (s₀ s : State) : Prop where
  coach : s.coach = s₀.coach
  now : s.now = s₀.now
  shown : s.reg Reg.SEC_STAT = s₀.reg Reg.SEC_STAT

theorem SameCoaches.refl (s : State) : SameCoaches s s := ⟨rfl, rfl, rfl⟩

theorem SameCoaches.branch {s₀ s t : State} {c : Prop} {inst : Decidable c} (hs : SameCoaches s₀ s) (ht : SameCoaches s₀ t) :
    SameCoaches s₀ (if c then s else t) := by split <;> assumption

/-- A fold over a state. -/
theorem SameCoaches.foldl {β : Type} {s₀ s : State} {f : State → β → State} {l : List β} (h : SameCoaches s₀ s)
    (hf : ∀ {t x}, SameCoaches s₀ t → SameCoaches s₀ (f t x)) : SameCoaches s₀ (l.foldl f s) :=
  List.foldlRecOn l f (motive := SameCoaches s₀) h fun _ ht _ _ => hf ht

theorem SameCoaches.lead {s₀ s : State} (h : SameCoaches s₀ s) : s.lead = s₀.lead := fld_of_reg h.shown

section
variable {s₀ s : State} (h : SameCoaches s₀ s)
include h

theorem SameCoaches.setReg {a v} (ha : a ≠ Reg.SEC_STAT := by decide) : SameCoaches s₀ (s.setReg a v) :=
  ⟨h.coach, h.now, (reg_setReg_ne s v ha.symm).trans h.shown⟩
theorem SameCoaches.setFld {f v} (hf : f.addr ≠ Reg.SEC_STAT := by decide) : SameCoaches s₀ (s.setFld f v) := h.setReg hf
theorem SameCoaches.setFlag {f b} (hf : f.addr ≠ Reg.SEC_STAT := by decide) : SameCoaches s₀ (s.setFlag f b) := h.setReg hf
theorem SameCoaches.count {f n} (hf : f.addr ≠ Reg.SEC_STAT := by decide) : SameCoaches s₀ (s.count f n) := h.setReg hf
theorem SameCoaches.setSpares {x} : SameCoaches s₀ { s with spares := x } := ⟨h.coach, h.now, h.shown⟩
theorem SameCoaches.setCal {x} : SameCoaches s₀ { s with cal := x } := ⟨h.coach, h.now, h.shown⟩
theorem SameCoaches.quiet {t} (ht : Quiet s t) : SameCoaches s₀ t :=
  ⟨(congrArg State.coach ht.rest :).trans h.coach, (congrArg State.now ht.rest :).trans h.now,
    (ht.regs Reg.SEC_STAT (by unfold EventReg; decide)).trans h.shown⟩
theorem SameCoaches.filed {t} (ht : Filed s t) : SameCoaches s₀ t :=
  ⟨(congrArg State.coach ht.rest :).trans h.coach, (congrArg State.now ht.rest :).trans h.now,
    (ht.regs Reg.SEC_STAT (by decide)).trans h.shown⟩
theorem SameCoaches.faultRecord {r} : SameCoaches s₀ (s.faultRecord r) := h.filed (Filed.faultRecord s r)
theorem SameCoaches.event {code status source args} : SameCoaches s₀ (s.event code status source args) :=
  h.quiet (Quiet.refl s).event
theorem SameCoaches.free : SameCoaches s₀ s.free.2 := h.quiet (Quiet.refl s).free
theorem SameCoaches.finishWaiting {notify status result} : SameCoaches s₀ (s.finishWaiting notify status result) :=
  h.quiet ((Quiet.refl s).post (Posted.refl s).finishWaiting)
theorem SameCoaches.setUnit {cls u v} : SameCoaches s₀ (s.setUnit cls u v) := by
  obtain ⟨q, hf⟩ := setUnit_filed s cls u v
  exact h.setSpares.filed hf
theorem SameCoaches.setHolder {cls r u} : SameCoaches s₀ (s.setHolder cls r u) := h.setSpares.setSpares
theorem SameCoaches.bumpEpoch {cls r} : SameCoaches s₀ (s.bumpEpoch cls r) := h.setSpares
theorem SameCoaches.testCounted {t verdict patterns} : SameCoaches s₀ (testCounted s t verdict patterns) := by
  have hv : (verdictCount verdict).addr ≠ Reg.SEC_STAT := by
    match verdict with
    | 0 => decide
    | 1 => decide
    | n + 2 => exact (by decide : Reg.SPR_ST_INCOMPLETE ≠ Reg.SEC_STAT)
  have h0 : SameCoaches s₀ (withoutTest s t) := h.setSpares
  unfold Safety.testCounted showTest
  split
  · exact h0.setReg.setReg.setFld.count hv
  · exact h0.setReg.setReg.setFld.count hv
theorem SameCoaches.endTestWith {t verdict patterns after} : SameCoaches s₀ (s.endTestWith t verdict patterns after) := by
  rw [endTestWith_eq]
  have h2 : SameCoaches s₀ ((Safety.testCounted s t verdict patterns).setUnit t.cls t.unit after) := h.testCounted.setUnit
  exact (branch (branch h2.faultRecord h2) h2.faultRecord).finishWaiting
theorem SameCoaches.setQueue {l} : SameCoaches s₀ (s.setQueue l) := h.setSpares.setFlag
theorem SameCoaches.queueSubst {q new} : SameCoaches s₀ (s.queueSubst q new) := by
  unfold State.queueSubst
  refine SameCoaches.setQueue ?_
  split
  · exact h.setUnit
  · exact h
theorem SameCoaches.giveBack {q} : SameCoaches s₀ (s.giveBack q) := by
  unfold State.giveBack
  split
  · exact branch h.setUnit h
  · exact h
theorem SameCoaches.dropTest {t} : SameCoaches s₀ (s.dropTest t) := (h.setQueue.foldl fun h => h.giveBack).endTestWith
theorem SameCoaches.abortTest {t} : SameCoaches s₀ (s.abortTest t) := by
  unfold State.abortTest
  dsimp only
  split
  · split
    · exact branch h.free.endTestWith.queueSubst h.free.endTestWith
    · exact h.free.endTestWith
  · exact h.dropTest
theorem SameCoaches.abortRunning : SameCoaches s₀ s.abortRunning := h.foldl fun h => h.abortTest
theorem SameCoaches.setRing {n r} : SameCoaches s₀ (s.setRing n r) := ⟨h.coach, h.now, h.shown⟩
theorem SameCoaches.rerunMailbox : SameCoaches s₀ s.rerunMailbox :=
  have h1 := branch h.setCal.setFld h
  branch (branch h1.setFld.setCal h1).setSpares.setRing h

end

/-! ## Takeovers -/

theorem lead_le (s : State) : s.lead ≤ 1 := by
  have h : s.lead < 2 ^ 1 := fld_lt s _
  omega

/-- The lead changes hands, and that alone. -/
theorem swapCoaches_spec (s : State) : s.swapCoaches.coach = s.coach ∧ s.swapCoaches.now = s.now ∧
    s.swapCoaches.lead = 1 - s.lead := by
  have h1 : SameCoaches (s.setFld .SEC_STAT_LEAD (1 - s.lead))
      (((s.setFld .SEC_STAT_LEAD (1 - s.lead)).setHolder 10 0 (1 - s.lead)).bumpEpoch 10 0) :=
    (SameCoaches.refl _).setHolder.bumpEpoch
  have h : SameCoaches (s.setFld .SEC_STAT_LEAD (1 - s.lead)) s.swapCoaches :=
    .branch h1.setUnit h1.setUnit.setHolder.bumpEpoch.setUnit
  have hl : (s.setFld .SEC_STAT_LEAD (1 - s.lead)).lead = (1 - s.lead) % 2 ^ 1 :=
    fld_setFld_self s .SEC_STAT_LEAD _ (by decide) (by decide)
  exact ⟨h.coach, h.now, h.lead.trans (hl.trans (Nat.mod_eq_of_lt (by omega)))⟩

/-- The new lead has its event, and the sources that the former one held are pending again. -/
def handedOver (s : State) (old : Nat) : State :=
  let t := { s with coach := { s.coach with takeover := none, wanted := none, expired := false } }
  (t.event 0x15 .ok t.lead
    (leBytes 1 (t.coachBank t.lead) ++ leBytes 4 (t.imageWord (t.coachBank t.lead) 4))).returnSources old

theorem handedOver_spec (s : State) (old : Nat) :
    (handedOver s old).coach = { s.coach with takeover := none, wanted := none, expired := false } ∧
      (handedOver s old).now = s.now ∧ (handedOver s old).lead = s.lead := by
  have h : SameCoaches { s with coach := { s.coach with takeover := none, wanted := none, expired := false } }
      (handedOver s old) := ((SameCoaches.refl _).event).quiet Quiet.returnSources
  exact ⟨h.coach, h.now, h.lead⟩

/-- The state in which the lead changes hands. -/
def interrupted (s : State) (why : TakeWhy) : State :=
  (if s.coach.expired || why == .watchdog then s.rerunMailbox else s).abortRunning

theorem interrupted_spec (s : State) (why : TakeWhy) : SameCoaches s (interrupted s why) :=
  (SameCoaches.branch (SameCoaches.refl s).rerunMailbox (.refl s)).abortRunning

theorem takeOver_eq (s : State) (why : TakeWhy) : s.takeOver why =
    (handedOver (interrupted s why).swapCoaches s.lead).afterTakeOver s.lead s.coach.expired why := rfl

/-- A takeover: the lead has changed hands, and what it is for follows. -/
theorem takeOver_spec (s : State) (why : TakeWhy) : ∃ v : State,
    s.takeOver why = v.afterTakeOver s.lead s.coach.expired why ∧
      v.coach = { s.coach with takeover := none, wanted := none, expired := false } ∧ v.now = s.now ∧
      v.lead = 1 - s.lead := by
  have h := interrupted_spec s why
  obtain ⟨hcoach, hnow, hlead⟩ := swapCoaches_spec (interrupted s why)
  obtain ⟨hcoach', hnow', hlead'⟩ := handedOver_spec (interrupted s why).swapCoaches s.lead
  refine ⟨_, takeOver_eq s why, hcoach'.trans (by rw [hcoach, h.coach]), hnow'.trans (hnow.trans h.now), ?_⟩
  rw [hlead', hlead, h.lead]

/-! ## What a takeover is for -/

/-- `t` has the NVM and the trial of `s`, and its lead. -/
structure SameTrial (s t : State) : Prop where
  nvm : t.nvm = s.nvm
  trial : t.coach.trial = s.coach.trial
  lead : t.lead = s.lead

theorem SameTrial.trans {s t u : State} (h : SameTrial s t) (h' : SameTrial t u) : SameTrial s u :=
  ⟨h'.nvm.trans h.nvm, h'.trial.trans h.trial, h'.lead.trans h.lead⟩

theorem SameTrial.branch {s t : State} {c : Prop} {inst : Decidable c} (h : SameTrial s t) :
    SameTrial s (if c then t else s) := by
  split
  · exact h
  · exact ⟨rfl, rfl, rfl⟩

theorem sameTrial_finishWaiting (s : State) (n : Option Nat) (st : Status) (r : Nat) :
    SameTrial s (s.finishWaiting n st r) := by
  have h : Posted s (s.finishWaiting n st r) := (Posted.refl s).finishWaiting
  exact ⟨(congrArg State.nvm h :), (congrArg (fun x => x.coach.trial) h :), fld_congr h.regs _⟩

theorem sameTrial_restartFormer (s : State) (old : Nat) : SameTrial s (s.restartFormer old) := by
  obtain ⟨hnvm, hregs, htrial, -⟩ := restartStandby_spec s old .plain
  unfold State.restartFormer
  split
  · exact ⟨rfl, rfl, rfl⟩
  · exact ⟨hnvm, htrial, fld_congr hregs _⟩

/-- A sequence that is asked for leaves the states of the banks. -/
theorem bankState_program (s : State) (j : NvmJob) (k : Nat) : (s.program j).bankState k = s.bankState k := by
  have hcount : (s.count .THM_NVM_Q_LOST 1).bankState k = s.bankState k := by
    unfold State.bankState
    rw [State.count_nvm]
  unfold State.program
  split
  · split
    · rfl
    · exact hcount
  · split
    · rfl
    · rfl

/-- A bank that changes its state, whether its record is refused or not. -/
theorem setBank_spec (s : State) (b st : Nat) :
    (s.setBank b st).bankState b = st ∧ (s.setBank b st).coach = s.coach ∧ (s.setBank b st).lead = s.lead := by
  have hf : Filed s (s.setBank b st) := by
    refine Filed.trans ?_ (Filed.journalOpaque _ _ _)
    rw [putBank_eq]
    exact .setNvm s _
  refine ⟨(bankState_program _ _ b).trans ((bankState_putBank s b st b).trans (if_pos Iff.rfl)),
    (congrArg State.coach hf.rest :), hf.fld (by decide)⟩

theorem afterTakeOver_activate (v : State) (old : Nat) (expired : Bool) (n : Option Nat) :
    (v.afterTakeOver old expired (.activate n)).lead = v.lead ∧
      (v.afterTakeOver old expired (.activate n)).coach.trial = some v.now ∧
      (v.afterTakeOver old expired (.activate n)).bankState (v.coachBank v.lead) = 4 := by
  obtain ⟨hbank, hcoach, hlead⟩ :=
    setBank_spec { v with coach := { v.coach with trial := some v.now } } (v.coachBank v.lead) 4
  have h : SameTrial (({ v with coach := { v.coach with trial := some v.now } }).setBank (v.coachBank v.lead) 4)
      (v.afterTakeOver old expired (.activate n)) :=
    (sameTrial_finishWaiting _ n .ok 0).trans (SameTrial.branch (sameTrial_restartFormer _ old))
  refine ⟨h.lead.trans hlead, h.trial.trans (congrArg Coach.trial hcoach), ?_⟩
  rw [State.bankState, h.nvm]
  exact hbank

theorem afterTakeOver_fallback (v : State) (old : Nat) (expired : Bool) :
    (v.afterTakeOver old expired .fallback).lead = v.lead ∧ (v.afterTakeOver old expired .fallback).coach.trial = none ∧
      (v.afterTakeOver old expired .fallback).bankState (v.coachBank old) = 5 := by
  obtain ⟨hbank, hcoach, hlead⟩ := setBank_spec { v with coach := { v.coach with trial := none } } (v.coachBank old) 5
  have h : SameTrial (({ v with coach := { v.coach with trial := none } }).setBank (v.coachBank old) 5)
      (v.afterTakeOver old expired .fallback) := sameTrial_restartFormer _ old
  refine ⟨h.lead.trans hlead, h.trial.trans (congrArg Coach.trial hcoach), ?_⟩
  rw [State.bankState, h.nvm]
  exact hbank

/-- The bank that a Coachman runs, known from what is known of the Coachmen. -/
theorem coachBank_congr {s t : State} (ha : t.coach.bankA = s.coach.bankA) (hb : t.coach.bankB = s.coach.bankB) (u : Nat) :
    t.coachBank u = s.coachBank u := by
  unfold State.coachBank
  rw [ha, hb]

/-- The standby takes the lead at the end of an activation. -/
theorem takeOver_activate (s : State) (n : Option Nat) : (s.takeOver (.activate n)).lead = 1 - s.lead ∧
    (s.takeOver (.activate n)).coach.trial = some s.now ∧
    (s.takeOver (.activate n)).bankState (s.coachBank (1 - s.lead)) = 4 := by
  obtain ⟨v, hv, hcoach, hnow, hlead⟩ := takeOver_spec s (.activate n)
  obtain ⟨h1, h2, h3⟩ := afterTakeOver_activate v s.lead s.coach.expired n
  rw [hv]
  refine ⟨h1.trans hlead, h2.trans (congrArg some hnow), ?_⟩
  rw [hlead, coachBank_congr (s := s) (by rw [hcoach]) (by rw [hcoach])] at h3
  exact h3

/-- The fallback of a trial: its bank is rejected. -/
theorem takeOver_fallback (s : State) : (s.takeOver .fallback).lead = 1 - s.lead ∧
    (s.takeOver .fallback).coach.trial = none ∧ (s.takeOver .fallback).bankState (s.coachBank s.lead) = 5 := by
  obtain ⟨v, hv, hcoach, hnow, hlead⟩ := takeOver_spec s .fallback
  obtain ⟨h1, h2, h3⟩ := afterTakeOver_fallback v s.lead s.coach.expired
  rw [hv]
  refine ⟨h1.trans hlead, h2, ?_⟩
  rw [coachBank_congr (s := s) (by rw [hcoach]) (by rw [hcoach])] at h3
  exact h3

theorem requestTakeOver_running {s : State} (h : s.running = true) (why : TakeWhy) :
    s.requestTakeOver why = { s with coach := { s.coach with takeover := some (timeAfter s.tb 2000, why) } } := if_pos h

theorem requestTakeOver_stopped {s : State} (h : s.running = false) (why : TakeWhy) :
    s.requestTakeOver why = s.takeOver why := if_neg (by rw [h]; decide)

theorem askTakeOver_of_ready {s : State} (hs : s.standbyServes = true) (hr : s.coach.restart = none)
    (ht : s.coach.takeover = none) (why : TakeWhy) : s.askTakeOver why = s.requestTakeOver why := by
  unfold State.askTakeOver
  rw [hs, hr, ht]
  rfl

/-! ## STANDBY_READY and TRIAL_TIMEOUT -/

/-- The standby restarts no more. -/
def restarted (s : State) : State := { s with coach := { s.coach with restart := none } }

theorem running_restarted (s : State) : (restarted s).running = s.running := rfl

theorem lead_restarted (s : State) : (restarted s).lead = s.lead := rfl

theorem coachBank_restarted (s : State) (k : Nat) : (restarted s).coachBank k = s.coachBank k := rfl

theorem exec_standbyReady_activate {s : State} {dt : Nat} {n : Option Nat} (ha : (s.advance dt).coachAlive = true)
    (hs : (s.advance dt).standby = false) (hr : (s.advance dt).coach.restart = some (.activate n)) :
    exec (.standbyReady dt) s = .next ((restarted (s.advance dt)).requestTakeOver (.activate n)) := by
  refine congrArg Host.Outcome.next ((if_neg (by rw [ha, hs]; decide)).trans ?_)
  dsimp only
  rw [hr]
  rfl

theorem exec_standbyReady_confirm {s : State} {dt : Nat} {n : Option Nat} (ha : (s.advance dt).coachAlive = true)
    (hs : (s.advance dt).standby = false) (hr : (s.advance dt).coach.restart = some (.confirm n))
    (hw : (s.advance dt).coach.wanted = none) :
    exec (.standbyReady dt) s = .next ((restarted (s.advance dt)).finishWaiting n .ok 0) := by
  refine congrArg Host.Outcome.next ((if_neg (by rw [ha, hs]; decide)).trans ?_)
  simp only [restarted, hr, hw]

theorem exec_trialTimeout {s : State} {dt t0 : Nat} (ht : (s.advance dt).coach.trial = some t0)
    (ha : (s.advance dt).coachAlive = true) (ho : (s.advance dt).trialOn = true)
    (hd : t0 + 1000000000 * (s.advance dt).fld .SEC_FW_CFG_TRIAL_S ≤ (s.advance dt).now) :
    exec (.trialTimeout dt) s = .next ((s.advance dt).askTakeOver .fallback) := by
  refine congrArg Host.Outcome.next ?_
  rw [ht]
  exact if_pos (by rw [ha, ho, decide_eq_true hd]; rfl)

/-! ## COACHMAN_WATCHDOG_EXPIRY -/

/-- A charge of a watchdog that is not lasting counts, and enters the bucket. -/
theorem charge_watchdog {s : State} {inst : Nat} (hn : s.fltN 14 = 0 ∨ (s.bucket 14 inst).length + 1 < s.fltN 14) :
    s.charge 14 inst = s.count (.FLT_SRC_EVT_COUNT 13) 1 ∨
      ∃ l, s.charge 14 inst = (s.count (.FLT_SRC_EVT_COUNT 13) 1).setBucket 14 inst l := by
  have hb : (s.count (.FLT_SRC_EVT_COUNT 13) 1).bucket 14 inst = s.bucket 14 inst := by
    have hw : (s.count (.FLT_SRC_EVT_COUNT 13) 1).fltW 14 = s.fltW 14 :=
      congrArg (10000000 * ·) (fld_setFld_ne s (f := .FLT_SRC_EVT_COUNT 13) (g := .FLT_SRC_CFG_W 13) _ (by decide))
    unfold State.bucket
    rw [State.count_spares, State.count_now, hw]
  unfold State.charge State.chargeFor
  dsimp only
  rw [hb]
  split
  · exact .inl rfl
  · next hlive =>
    have hzero : s.fltN 14 ≠ 0 := fun e => hlive (by rw [decide_eq_true e]; rfl)
    rw [if_neg (by rw [List.length_append, List.length_singleton]; omega)]
    exact .inr ⟨_, rfl⟩

/-- `t` knows of the Coachmen what `s` does, with the same units, time and banks, and the same running and lead. -/
structure SameWatch (s t : State) : Prop where
  coach : t.coach = s.coach
  units : t.spares.units = s.spares.units
  tb : t.tb = s.tb
  nvm : t.nvm = s.nvm
  running : t.running = s.running
  lead : t.lead = s.lead

theorem SameWatch.trans {s t u : State} (h : SameWatch s t) (h' : SameWatch t u) : SameWatch s u :=
  ⟨h'.coach.trans h.coach, h'.units.trans h.units, h'.tb.trans h.tb, h'.nvm.trans h.nvm, h'.running.trans h.running,
    h'.lead.trans h.lead⟩

theorem Quiet.sameWatch {s t : State} (h : Quiet s t) : SameWatch s t :=
  ⟨(congrArg State.coach h.rest :), congrArg Spares.units h.spares, (congrArg State.tb h.rest :),
    (congrArg State.nvm h.rest :), flag_of_reg (h.regs Reg.HIF_STAT (by unfold EventReg; decide)),
    h.fld (by unfold EventReg; decide)⟩

theorem sameWatch_count (s : State) : SameWatch s (s.count (.FLT_SRC_EVT_COUNT 13) 1) :=
  ⟨State.count_coach .., congrArg Spares.units (State.count_spares ..), State.count_tb .., State.count_nvm ..,
    flag_of_reg (reg_setReg_ne s _ (by decide : Reg.HIF_STAT ≠ (Fld.FLT_SRC_EVT_COUNT 13).addr)),
    fld_setFld_ne s (f := .FLT_SRC_EVT_COUNT 13) (g := .SEC_STAT_LEAD) _ (by decide)⟩

theorem sameWatch_setBucket (s : State) (src inst : Nat) (l : List Nat) : SameWatch s (s.setBucket src inst l) :=
  ⟨rfl, rfl, rfl, rfl, rfl, rfl⟩

theorem fld_setBucket (s : State) (src inst : Nat) (l : List Nat) (f : Fld) : (s.setBucket src inst l).fld f = s.fld f := rfl

theorem SameWatch.unitInfo {s t : State} (h : SameWatch s t) (cls u : Nat) : t.unitInfo cls u = s.unitInfo cls u :=
  congrArg (fun m : Store UnitInfo => m.get unitHome (unitKey cls u)) h.units

theorem SameWatch.standbyServes {s t : State} (h : SameWatch s t) : t.standbyServes = s.standbyServes := by
  unfold State.standbyServes
  rw [h.coach, h.lead, h.unitInfo]

theorem fld_count_satAdd (s : State) (f : Fld) (n : Nat) (h : f.lo ≤ f.hi) (h32 : f.hi < 32) :
    (s.count f n).fld f = satAdd f.width (s.fld f) n := fld_count_self s f n h h32

/-- Events leave what a watchdog is charged against. -/
theorem Quiet.watchdogBucket {s t : State} (h : Quiet s t) (inst : Nat) :
    t.fltN 14 = s.fltN 14 ∧ t.bucket 14 inst = s.bucket 14 inst := by
  have hw : t.fltW 14 = s.fltW 14 :=
    congrArg (10000000 * ·) (h.fld (f := .FLT_SRC_CFG_W 13) (by unfold EventReg; decide))
  have hnow : t.now = s.now := (congrArg State.now h.rest :)
  refine ⟨h.fld (f := .FLT_SRC_CFG_N 13) (by unfold EventReg; decide), ?_⟩
  unfold State.bucket
  rw [h.spares, hnow, hw]

/-- The state in which an expired watchdog has been raised and charged. -/
def watchdogCharged (s : State) (u : Nat) : State := (s.raiseFast 12).charge 14 (unitKey 10 u)

theorem watchdogCharged_spec {s : State} {u : Nat}
    (hn : s.fltN 14 = 0 ∨ (s.bucket 14 (unitKey 10 u)).length + 1 < s.fltN 14) : SameWatch s (watchdogCharged s u) ∧
      (watchdogCharged s u).fld (.FLT_SRC_EVT_COUNT 13) =
        satAdd (Fld.FLT_SRC_EVT_COUNT 13).width (s.fld (.FLT_SRC_EVT_COUNT 13)) 1 := by
  have hq : Quiet s (s.raiseFast 12) := (Quiet.refl s).raiseFast (by decide)
  obtain ⟨hN, hB⟩ := hq.watchdogBucket (unitKey 10 u)
  have hf : (s.raiseFast 12).fld (.FLT_SRC_EVT_COUNT 13) = s.fld (.FLT_SRC_EVT_COUNT 13) :=
    hq.fld (by unfold EventReg; decide)
  have hc : ((s.raiseFast 12).count (.FLT_SRC_EVT_COUNT 13) 1).fld (.FLT_SRC_EVT_COUNT 13) =
      satAdd (Fld.FLT_SRC_EVT_COUNT 13).width (s.fld (.FLT_SRC_EVT_COUNT 13)) 1 :=
    (fld_count_satAdd _ (.FLT_SRC_EVT_COUNT 13) 1 (by decide) (by decide)).trans (by rw [hf])
  have hw := hq.sameWatch.trans (sameWatch_count (s.raiseFast 12))
  unfold watchdogCharged
  rcases charge_watchdog (s := s.raiseFast 12) (inst := unitKey 10 u) (by rw [hN, hB]; exact hn) with he | ⟨l, he⟩
  · rw [he]
    exact ⟨hw, hc⟩
  · rw [he]
    exact ⟨hw.trans (sameWatch_setBucket _ _ _ l), (fld_setBucket _ _ _ l _).trans hc⟩

theorem exec_watchdogExpiry {s : State} {dt : Nat} {core : Fin 2} (ha : (s.advance dt).coachAlive = true)
    (hu : ((s.advance dt).unitInfo 10 core.val).state ≠ .retired)
    (hw : SameWatch (s.advance dt) (watchdogCharged (s.advance dt) core.val)) :
    exec (.coachmanWatchdogExpiry dt core) s = .next ((watchdogCharged (s.advance dt) core.val).coachGone core.val) := by
  have hu' : ((watchdogCharged (s.advance dt) core.val).unitInfo 10 core.val).state ≠ .retired := by
    rw [hw.unitInfo]
    exact hu
  refine congrArg Host.Outcome.next ((if_neg (by rw [ha, decide_eq_false hu]; decide)).trans ?_)
  exact congrArg (State.coachGone · core.val) (if_neg hu')

/-- The standby's watchdog: it restarts on the confirmed bank. -/
theorem coachGone_standby {s : State} {u : Nat} (hl : u ≠ s.lead) (hu : (s.unitInfo 10 u).state ≠ .retired)
    (hr : s.coach.restart = none) (ht : s.coach.takeover = none) : s.coachGone u = s.restartStandby u .plain := by
  unfold State.coachGone State.standbyExpired
  rw [if_neg hl, if_neg hu, hr, ht]

/-- The lead's watchdog: the takeover waits for its edge. -/
theorem coachGone_lead {s : State} {u : Nat} (hl : u = s.lead) (hs : s.standbyServes = true) (hrun : s.running = true)
    (hr : s.coach.restart = none) (ht : s.coach.takeover = none) :
    s.coachGone u = { s with coach := { s.coach with
      expired := true
      takeover := some (timeAfter s.tb 2000, if s.coach.trial.isSome then .fallback else .watchdog) } } := by
  unfold State.coachGone
  rw [if_pos hl, hs]
  exact (askTakeOver_of_ready (s := { s with coach := { s.coach with expired := true } }) hs hr ht _).trans
    (requestTakeOver_running (s := { s with coach := { s.coach with expired := true } }) hrun _)

theorem watchdog_standby {s : State} {u : Nat} (hl : u ≠ s.lead) (hu : (s.unitInfo 10 u).state ≠ .retired)
    (hn : s.fltN 14 = 0 ∨ (s.bucket 14 (unitKey 10 u)).length + 1 < s.fltN 14)
    (hr : s.coach.restart = none) (ht : s.coach.takeover = none) :
    ((watchdogCharged s u).coachGone u).coach.restart = some .plain ∧
      ((watchdogCharged s u).coachGone u).coachBank u = s.nvm.confirmed ∧
      ((watchdogCharged s u).coachGone u).fld (.FLT_SRC_EVT_COUNT 13) =
        satAdd (Fld.FLT_SRC_EVT_COUNT 13).width (s.fld (.FLT_SRC_EVT_COUNT 13)) 1 := by
  obtain ⟨hw, hc⟩ := watchdogCharged_spec hn
  generalize watchdogCharged s u = v at *
  obtain ⟨-, hregs, -, hwhy⟩ := restartStandby_spec v u .plain
  rw [coachGone_standby (by rw [hw.lead]; exact hl) (by rw [hw.unitInfo]; exact hu) (by rw [hw.coach]; exact hr)
    (by rw [hw.coach]; exact ht)]
  refine ⟨hwhy, ?_, (fld_congr hregs _).trans hc⟩
  have hb := coachBank_bootCoach v u v.nvm.confirmed
  rw [hw.nvm] at hb
  unfold State.restartStandby
  rw [hw.nvm]
  exact hb

theorem watchdog_lead {s : State} {u : Nat} (hl : u = s.lead) (hs : s.standbyServes = true) (hrun : s.running = true)
    (hn : s.fltN 14 = 0 ∨ (s.bucket 14 (unitKey 10 u)).length + 1 < s.fltN 14)
    (hr : s.coach.restart = none) (ht : s.coach.takeover = none) :
    ((watchdogCharged s u).coachGone u).coach.expired = true ∧ ((watchdogCharged s u).coachGone u).coach.takeover =
      some (timeAfter s.tb 2000, if s.coach.trial.isSome then .fallback else .watchdog) := by
  obtain ⟨hw, -⟩ := watchdogCharged_spec hn
  generalize watchdogCharged s u = v at *
  rw [coachGone_lead (hl.trans hw.lead.symm) (hw.standbyServes.trans hs) (hw.running.trans hrun) (by rw [hw.coach]; exact hr)
    (by rw [hw.coach]; exact ht), hw.tb, hw.coach]
  exact ⟨rfl, rfl⟩

end Sys2Proof.Safety
end

section
/-! PROOF. The log of the journal and its program sequences, and the Coachmen's obligation (O53). -/

namespace Sys2Proof.Safety

open Sys2Proof.Machine

/-! ## Bytes of the NVM -/

/-- A byte of the NVM. -/
def nvmByteAt (s : State) (i : Nat) : Byte := s.nvm.bytes.get Config.nvmByte i

theorem nvmRange_eq (s : State) (a n : Nat) : s.nvmRange a n = (List.range n).map fun i => nvmByteAt s (a + i) := rfl

/-- The bytes written, and those outside them. -/
theorem nvmByteAt_writeNvm (s : State) (a i : Nat) (bs : List Byte) :
    nvmByteAt (s.writeNvm a bs) i = if a ≤ i then (bs[i - a]?).getD (nvmByteAt s i) else nvmByteAt s i :=
  Store.get_setMany Config.nvmByte s.nvm.bytes a i bs

theorem nvmRange_writeNvm_self (s : State) (a : Nat) (bs : List Byte) : (s.writeNvm a bs).nvmRange a bs.length = bs := by
  rw [nvmRange_eq]
  refine List.ext_getElem (by simp) fun i h1 h2 => ?_
  rw [List.getElem_map, List.getElem_range, nvmByteAt_writeNvm]
  simp [h2]

theorem nvmByteAt_writeNvm_apart (s : State) {a i : Nat} {bs : List Byte} (h : i < a ∨ a + bs.length ≤ i) :
    nvmByteAt (s.writeNvm a bs) i = nvmByteAt s i := by
  rw [nvmByteAt_writeNvm]
  split
  · rw [List.getElem?_eq_none (by omega)]
    rfl
  · rfl

/-- A byte of an erased block, and one of another. -/
theorem nvmByteAt_eraseBlock (s : State) (b i : Nat) : nvmByteAt (s.eraseBlock b) i =
    if 4096 * b ≤ i ∧ i < 4096 * b + 4096 then Config.erasedByte else nvmByteAt s i := by
  unfold State.eraseBlock
  obtain ⟨bs, hbs⟩ : ∃ bs, bs = List.replicate 4096 Config.erasedByte := ⟨_, rfl⟩
  have hlen : bs.length = 4096 := by rw [hbs, List.length_replicate]
  rw [← hbs]
  change nvmByteAt (s.writeNvm (4096 * b) bs) i = _
  split
  · next h =>
    rw [nvmByteAt_writeNvm, if_pos h.1, List.getElem?_eq_getElem (by omega)]
    have hmem : ∀ x ∈ bs, x = Config.erasedByte := fun x hx => List.eq_of_mem_replicate (hbs ▸ hx)
    exact hmem _ (List.getElem_mem _)
  · next h => exact nvmByteAt_writeNvm_apart s (by omega)

/-- Blocks erased one after the other. -/
def eraseBlocks (s : State) (b m : Nat) : State := (List.range m).foldl (fun s k => s.eraseBlock (b + k)) s

theorem nvmByteAt_eraseBlocks (s : State) (b m i : Nat) : nvmByteAt (eraseBlocks s b m) i =
    if 4096 * b ≤ i ∧ i < 4096 * (b + m) then Config.erasedByte else nvmByteAt s i := by
  unfold eraseBlocks
  induction m with
  | zero => rw [if_neg (by omega)]; rfl
  | succ m ih =>
    rw [List.range_succ, List.foldl_append, List.foldl_cons, List.foldl_nil, nvmByteAt_eraseBlock, ih]
    by_cases h1 : 4096 * (b + m) ≤ i ∧ i < 4096 * (b + m) + 4096
    · rw [if_pos h1, if_pos (by omega)]
    · rw [if_neg h1]
      by_cases h2 : 4096 * b ≤ i ∧ i < 4096 * (b + m)
      · rw [if_pos h2, if_pos (by omega)]
      · rw [if_neg h2, if_neg (by omega)]

/-- A stretch in which every byte is erased. -/
theorem nvmRange_erased {s : State} {a n : Nat} (h : ∀ i, i < n → nvmByteAt s (a + i) = Config.erasedByte) :
    s.nvmRange a n = List.replicate n Config.erasedByte := by
  rw [nvmRange_eq, List.map_congr_left fun i hi => h i (List.mem_range.mp hi), List.map_const', List.length_range]

theorem nvmRange_congr {s t : State} {a n : Nat} (h : ∀ i, i < n → nvmByteAt t (a + i) = nvmByteAt s (a + i)) :
    t.nvmRange a n = s.nvmRange a n := by
  rw [nvmRange_eq, nvmRange_eq]
  exact List.map_congr_left fun i hi => h i (List.mem_range.mp hi)

/-! ## The log -/

/-- `t` has the bytes, the wear counters and the log of `s`. -/
structure SameLog (s t : State) : Prop where
  bytes : t.nvm.bytes = s.nvm.bytes
  erases : t.nvm.erases = s.nvm.erases
  base : t.nvm.logBase = s.nvm.logBase
  tail : t.nvm.logTail = s.nvm.logTail
  seq : t.nvm.seq = s.nvm.seq

theorem SameLog.refl (s : State) : SameLog s s := ⟨rfl, rfl, rfl, rfl, rfl⟩

theorem SameLog.trans {s t u : State} (h : SameLog s t) (h' : SameLog t u) : SameLog s u :=
  ⟨h'.bytes.trans h.bytes, h'.erases.trans h.erases, h'.base.trans h.base, h'.tail.trans h.tail, h'.seq.trans h.seq⟩

theorem SameLog.symm {s t : State} (h : SameLog s t) : SameLog t s :=
  ⟨h.bytes.symm, h.erases.symm, h.base.symm, h.tail.symm, h.seq.symm⟩

/-- The same write to the same NVM. -/
theorem SameLog.writeNvm {s t : State} (h : SameLog s t) (a : Nat) (bs : List Byte) :
    SameLog (s.writeNvm a bs) (t.writeNvm a bs) :=
  ⟨congrArg (fun m : Store Byte => m.setMany Config.nvmByte a bs) h.bytes, h.erases, h.base, h.tail, h.seq⟩

theorem SameLog.countErase {s t : State} (h : SameLog s t) (b : Nat) :
    SameLog { s with nvm := { s.nvm with erases := s.nvm.erases.modify (fun _ => 0) b (· + 1) } }
      { t with nvm := { t.nvm with erases := t.nvm.erases.modify (fun _ => 0) b (· + 1) } } :=
  ⟨h.bytes, congrArg (fun m : Store Nat => m.modify (fun _ => 0) b (· + 1)) h.erases, h.base, h.tail, h.seq⟩

theorem SameLog.eraseBlock {s t : State} (h : SameLog s t) (b : Nat) : SameLog (s.eraseBlock b) (t.eraseBlock b) :=
  (h.writeNvm _ _).countErase b

theorem SameLog.eraseBlocks {s t : State} (h : SameLog s t) (b m : Nat) : SameLog (eraseBlocks s b m) (eraseBlocks t b m) := by
  unfold Safety.eraseBlocks
  induction m with
  | zero => exact h
  | succ m ih =>
    rw [List.range_succ, List.foldl_append, List.foldl_append]
    exact ih.eraseBlock (b + m)

theorem SameLog.nvmRange {s t : State} (h : SameLog s t) (a n : Nat) : t.nvmRange a n = s.nvmRange a n :=
  congrArg (fun m : Store Byte => m.getMany Config.nvmByte a n) h.bytes

theorem SameLog.ofNvm {s t : State} (h : t.nvm = s.nvm) : SameLog s t :=
  ⟨congrArg Nvm.bytes h, congrArg Nvm.erases h, congrArg Nvm.logBase h, congrArg Nvm.logTail h, congrArg Nvm.seq h⟩

theorem sameLog_program (s : State) (j : NvmJob) : SameLog s (s.program j) := by
  unfold State.program
  split
  · split
    · exact ⟨rfl, rfl, rfl, rfl, rfl⟩
    · exact .ofNvm (State.count_nvm s .THM_NVM_Q_LOST 1)
  · split
    · exact .refl s
    · exact ⟨rfl, rfl, rfl, rfl, rfl⟩

theorem sameLog_journalWear (s : State) : SameLog s s.journalWear := sameLog_program s _

theorem sameLog_takeNote (s : State) (n : NvmNote) : SameLog s (s.takeNote n) := by
  cases n <;> exact ⟨rfl, rfl, rfl, rfl, rfl⟩

theorem sameLog_finishWaiting (s : State) (n : Option Nat) (st : Status) (r : Nat) : SameLog s (s.finishWaiting n st r) :=
  .ofNvm (sameTrial_finishWaiting s n st r).nvm

theorem sameLog_setFaults (s : State) (x : List (List Byte)) : SameLog s { s with nvm := { s.nvm with faults := x } } :=
  ⟨rfl, rfl, rfl, rfl, rfl⟩

theorem sameLog_chargeAge (s : State) (b : Bool) (x : Option Nat) :
    SameLog s { s with nvm := { s.nvm with moultConsumed := b, ageCharged := x } } := ⟨rfl, rfl, rfl, rfl, rfl⟩

/-- What a sequence is done for leaves the log. -/
theorem sameLog_nvmDone (s : State) (seq : Nat) (note : NvmNote) : SameLog s (s.nvmDone seq note) := by
  have h := sameLog_takeNote s note
  unfold State.nvmDone
  extract_lets t
  have ht : SameLog s t := h
  split
  · exact ht.trans (sameLog_setFaults t _)
  · exact ht.trans (sameLog_finishWaiting t _ _ _)
  · exact ht.trans (sameLog_finishWaiting t _ _ _)
  · exact ht.trans (sameLog_finishWaiting t _ _ _)
  · exact ht.trans (sameLog_chargeAge t _ _)
  · exact ht

/-- `t` differs from `s` in the NVM alone, with the same sequences waiting and the same number for the next record. -/
structure OnLog (s t : State) : Prop where
  only : t = { s with nvm := t.nvm }
  jobs : t.nvm.jobs = s.nvm.jobs
  seq : t.nvm.seq = s.nvm.seq

theorem OnLog.trans {s t u : State} (h : OnLog s t) (h' : OnLog t u) : OnLog s u :=
  ⟨h'.only.trans (congrArg (fun x : State => { x with nvm := u.nvm }) h.only), h'.jobs.trans h.jobs, h'.seq.trans h.seq⟩

theorem onLog_writeNvm (s : State) (a : Nat) (bs : List Byte) : OnLog s (s.writeNvm a bs) := ⟨rfl, rfl, rfl⟩

theorem onLog_setErases (s : State) (m : Store Nat) : OnLog s { s with nvm := { s.nvm with erases := m } } := ⟨rfl, rfl, rfl⟩

theorem onLog_eraseBlock (s : State) (b : Nat) : OnLog s (s.eraseBlock b) :=
  (onLog_writeNvm s _ _).trans (onLog_setErases _ _)

theorem onLog_eraseBlocks (s : State) (b m : Nat) : OnLog s (eraseBlocks s b m) :=
  List.foldlRecOn _ _ (motive := OnLog s) ⟨rfl, rfl, rfl⟩ fun _ h _ _ => h.trans (onLog_eraseBlock _ _)

theorem OnLog.regs {s t : State} (h : OnLog s t) : t.regs = s.regs := by rw [h.only]

theorem OnLog.nvmRefused {s t : State} (h : OnLog s t) : t.nvmRefused = s.nvmRefused := by rw [h.only]; rfl

/-- The record of the wear counters. -/
def wearJob (seq : Nat) (m : Store Nat) : NvmJob :=
  .record 5 ((Config.recordBody 5 seq (NvmNote.wear m).content).take (bodyLimit 5)) (.wear m)

theorem journalWear_eq (s : State) : s.journalWear = s.program (wearJob s.nvm.seq s.nvm.erases) := rfl

/-- The record of the wear counters joins the sequences, unless it is refused. -/
theorem journalWear_of_open {s : State} (h : s.nvmRefused = false) :
    s.journalWear.nvm.jobs = s.nvm.jobs ++ [wearJob s.nvm.seq s.nvm.erases] ∧ s.journalWear.regs = s.regs := by
  rw [journalWear_eq, program_of_open h]
  exact ⟨rfl, rfl⟩

theorem program_of_refused {s : State} (h : s.nvmRefused = true) (j : NvmJob) : (s.program j).nvm.jobs = s.nvm.jobs := by
  unfold State.program
  split
  · split
    · rfl
    · exact congrArg Nvm.jobs (State.count_nvm s .THM_NVM_Q_LOST 1)
  · next hc =>
    have ht : s.thermal.trip.isSome = true := by
      unfold State.nvmRefused at h
      simpa [hc] using h
    rw [if_pos ht]

theorem jobs_journalWear (s : State) : s.journalWear.nvm.jobs =
    s.nvm.jobs ++ if !s.nvmRefused then [wearJob s.nvm.seq s.nvm.erases] else [] := by
  cases h : s.nvmRefused with
  | true => exact (program_of_refused h _).trans (List.append_nil _).symm
  | false => exact (journalWear_of_open h).1

/-! ## Compaction -/

/-- The bytes of the records that a compaction keeps. -/
def keptBytes (s : State) : List Byte := ((keptRecords s.logRecords).map (·.bytes)).flatten

/-- Where the log begins after a compaction. -/
def otherHalf (s : State) : Nat := if s.nvm.logBase < logHalf then logHalf else logStart

theorem base_writeNvm (s : State) (a : Nat) (bs : List Byte) : (s.writeNvm a bs).nvm.logBase = s.nvm.logBase := rfl

theorem base_setErases (s : State) (m : Store Nat) :
    ({ s with nvm := { s.nvm with erases := m } } : State).nvm.logBase = s.nvm.logBase := rfl

theorem base_eraseBlock (s : State) (b : Nat) : (s.eraseBlock b).nvm.logBase = s.nvm.logBase :=
  (base_setErases _ _).trans (base_writeNvm s _ _)

/-- The blocks of the log are those of where it begins, which an erasure leaves. -/
theorem eraseBlocks_eq (s : State) (m : Nat) :
    (List.range m).foldl (fun s k => s.eraseBlock ((journalAt + s.nvm.logBase) / 4096 + k)) s =
      eraseBlocks s ((journalAt + s.nvm.logBase) / 4096) m := by
  unfold eraseBlocks
  generalize hb : (journalAt + s.nvm.logBase) / 4096 = b
  suffices h : ∀ l : List Nat, ∀ t : State, (journalAt + t.nvm.logBase) / 4096 = b →
      l.foldl (fun s k => s.eraseBlock ((journalAt + s.nvm.logBase) / 4096 + k)) t =
        l.foldl (fun s k => s.eraseBlock (b + k)) t from h _ s hb
  intro l
  induction l with
  | nil =>
    intro t _
    rw [List.foldl_nil, List.foldl_nil]
  | cons k l ih =>
    intro t ht
    rw [List.foldl_cons, List.foldl_cons, ht]
    exact ih (t.eraseBlock (b + k)) (by rw [base_eraseBlock]; exact ht)

/-- The records kept have been copied. -/
def keptCopied (s : State) : State := s.writeNvm (journalAt + otherHalf s) (keptBytes s)

/-- The records have been copied, and the originals erased. -/
def copied (s : State) : State :=
  eraseBlocks (keptCopied s) ((journalAt + s.nvm.logBase) / 4096) ((s.nvm.logTail - s.nvm.logBase + 4095) / 4096)

theorem copied_onLog (s : State) : OnLog s (copied s) :=
  OnLog.trans (t := keptCopied s) (onLog_writeNvm s _ _) (onLog_eraseBlocks (keptCopied s) _ _)

/-- The log stands in the other half, and the records of the notes kept in force. -/
def relocated (s t : State) : State :=
  { t with nvm := { t.nvm with
      logBase := otherHalf s, logTail := otherHalf s + (keptBytes s).length
      notes := t.nvm.notes.filter fun e => (keptRecords s.logRecords).any (·.seq == e.1) } }

def moved (s : State) : State := relocated s (copied s)

theorem compact_eq (s : State) : s.compact = (moved s).journalWear :=
  congrArg (fun t => (relocated s t).journalWear)
    (eraseBlocks_eq (keptCopied s) ((s.nvm.logTail - s.nvm.logBase + 4095) / 4096))

theorem onLog_setLog (s : State) (b t : Nat) (n : Store NvmNote) :
    OnLog s { s with nvm := { s.nvm with logBase := b, logTail := t, notes := n } } := ⟨rfl, rfl, rfl⟩

theorem moved_onLog (s : State) : OnLog s (moved s) := (copied_onLog s).trans (onLog_setLog _ _ _ _)

theorem nvmByteAt_moved (s : State) (i : Nat) : nvmByteAt (moved s) i = nvmByteAt (copied s) i := rfl

theorem SameLog.nvmByteAt {s t : State} (h : SameLog s t) (i : Nat) : nvmByteAt t i = nvmByteAt s i :=
  congrArg (fun m : Store Byte => m.get Config.nvmByte i) h.bytes

/-- A record parsed takes its bytes from the log, each byte at most once. -/
theorem length_parseLog (fuel : Nat) (bs : List Byte) : ((parseLog fuel bs).map (·.bytes)).flatten.length ≤ bs.length := by
  induction fuel generalizing bs with
  | zero => exact Nat.zero_le _
  | succ fuel ih =>
    unfold parseLog
    split
    · exact Nat.zero_le _
    · have h := ih (bs.drop (24 + bytesAt bs 4 4))
      simp only [List.map_cons, List.flatten_cons, List.length_append, List.length_take, List.length_drop] at h ⊢
      omega

theorem length_flatten_le_of_sublist {l l' : List LogRecord} (h : l.Sublist l') :
    (l.map (·.bytes)).flatten.length ≤ (l'.map (·.bytes)).flatten.length := by
  rw [List.length_flatten, List.length_flatten]
  exact ((h.map _).map _).sum_le_sum fun _ _ => Nat.zero_le _

theorem keptRecords_sublist (l : List LogRecord) : (keptRecords l).Sublist l := by
  have h : ((l.zipIdx.map (·.1))) = l := by simp
  unfold keptRecords
  conv_rhs => rw [← h]
  exact List.filter_sublist.map _

/-- The records kept are not longer than the log. -/
theorem length_keptBytes (s : State) : (keptBytes s).length ≤ s.nvm.logTail - s.nvm.logBase := by
  have hk := length_flatten_le_of_sublist (keptRecords_sublist s.logRecords)
  have hl : (s.logRecords.map (·.bytes)).flatten.length ≤ s.nvm.logTail - s.nvm.logBase := by
    unfold State.logRecords
    refine (length_flatten_le_of_sublist List.filter_sublist).trans ?_
    exact (length_parseLog _ _).trans (Nat.le_of_eq (length_nvmRange _ _ _))
  exact hk.trans hl

/-- Does the log stand within one of its halves? -/
def LogInHalf (s : State) : Prop :=
  (s.nvm.logBase = logStart ∧ s.nvm.logTail ≤ logHalf) ∨ (s.nvm.logBase = logHalf ∧ s.nvm.logTail ≤ journalEnd)

/-- The other half begins where the log's does not, and the blocks of the log lie apart from what is copied. -/
theorem halves_apart {s : State} (h : LogInHalf s) :
    otherHalf s = (if s.nvm.logBase = logStart then logHalf else logStart) ∧
      4096 * ((journalAt + s.nvm.logBase) / 4096) = journalAt + s.nvm.logBase ∧
      (otherHalf s + (s.nvm.logTail - s.nvm.logBase) ≤ s.nvm.logBase ∨
        s.nvm.logBase + 4096 * ((s.nvm.logTail - s.nvm.logBase + 4095) / 4096) ≤ otherHalf s) := by
  unfold otherHalf logStart logHalf journalAt
  unfold LogInHalf logStart logHalf journalEnd at h
  rcases h with ⟨hb, ht⟩ | ⟨hb, ht⟩
  · rw [hb]
    exact ⟨rfl, rfl, .inr (by simp only [Nat.reduceLT, if_true]; omega)⟩
  · rw [hb]
    exact ⟨rfl, rfl, .inl (by simp only [Nat.lt_irrefl, if_false]; omega)⟩

/-- A byte of the log is erased by a compaction, and one copied stands in the other half. -/
theorem nvmByteAt_copied {s : State} (h : LogInHalf s) :
    (∀ i, i < s.nvm.logTail - s.nvm.logBase → nvmByteAt (copied s) (journalAt + s.nvm.logBase + i) = Config.erasedByte) ∧
      (copied s).nvmRange (journalAt + otherHalf s) (keptBytes s).length = keptBytes s := by
  obtain ⟨-, hblock, hapart⟩ := halves_apart h
  have hlen := length_keptBytes s
  refine ⟨fun i hi => ?_, ?_⟩
  · unfold copied
    rw [nvmByteAt_eraseBlocks, if_pos (by omega)]
  · refine Eq.trans (nvmRange_congr fun i hi => ?_) (nvmRange_writeNvm_self s (journalAt + otherHalf s) (keptBytes s))
    unfold copied
    rw [nvmByteAt_eraseBlocks, if_neg (by omega)]
    rfl

theorem compact_sameLog (s : State) : SameLog (moved s) s.compact := by
  rw [compact_eq]
  exact sameLog_journalWear (moved s)

theorem place_relocated (s t : State) : (relocated s t).nvm.logBase = otherHalf s ∧
    (relocated s t).nvm.logTail = otherHalf s + (keptBytes s).length ∧ (relocated s t).nvm.bytes = t.nvm.bytes :=
  ⟨rfl, rfl, rfl⟩

theorem compact_spec {s : State} (h : LogInHalf s) :
    s.compact.nvm.logBase = (if s.nvm.logBase = logStart then logHalf else logStart) ∧
      s.compact.nvmRange (journalAt + s.compact.nvm.logBase) (keptBytes s).length = keptBytes s ∧
      s.compact.nvm.logTail = s.compact.nvm.logBase + (keptBytes s).length ∧
      s.compact.nvmRange (journalAt + s.nvm.logBase) (s.nvm.logTail - s.nvm.logBase) =
        List.replicate (s.nvm.logTail - s.nvm.logBase) Config.erasedByte := by
  obtain ⟨herased, hkept⟩ := nvmByteAt_copied h
  have hlog := compact_sameLog s
  obtain ⟨hb, ht, hbytes⟩ := place_relocated s (copied s)
  have hbase : s.compact.nvm.logBase = otherHalf s := hlog.base.trans hb
  refine ⟨hbase.trans (halves_apart h).1, ?_, ?_, nvmRange_erased fun i hi => ?_⟩
  · rw [hbase, hlog.nvmRange]
    exact hkept
  · rw [hbase]
    exact hlog.tail.trans ht
  · exact (hlog.nvmByteAt _).trans (herased i hi)

/-- A compaction where sequences are not refused: the record of the wear counters follows. -/
theorem compact_of_open {s : State} (h : s.nvmRefused = false) :
    s.compact.nvm.jobs = s.nvm.jobs ++ [wearJob s.nvm.seq s.compact.nvm.erases] ∧ s.compact.regs = s.regs ∧
      s.compact.nvm.seq = s.nvm.seq := by
  have hm := moved_onLog s
  have hlog := sameLog_journalWear (moved s)
  obtain ⟨hjobs, hregs⟩ := journalWear_of_open (s := moved s) (hm.nvmRefused.trans h)
  rw [compact_eq, hjobs, hregs, hm.jobs, hm.seq, hlog.erases, hlog.seq]
  exact ⟨rfl, hm.regs, hm.seq⟩

theorem jobs_compact (s : State) : s.compact.nvm.jobs =
    s.nvm.jobs ++ if !s.nvmRefused then [wearJob s.nvm.seq s.compact.nvm.erases] else [] := by
  have hm := moved_onLog s
  rw [compact_eq, jobs_journalWear, hm.nvmRefused, hm.jobs, hm.seq, (sameLog_journalWear (moved s)).erases]

/-- Compactions of the same log leave the same log. -/
theorem SameLog.compact {s t : State} (h : SameLog s t) : SameLog s.compact t.compact := by
  have hkept : keptRecords t.logRecords = keptRecords s.logRecords := by
    unfold State.logRecords
    rw [h.nvmRange, h.base, h.tail]
  have hbytes : keptBytes t = keptBytes s := by
    unfold keptBytes
    rw [hkept]
  have hother : otherHalf t = otherHalf s := by
    unfold otherHalf
    rw [h.base]
  have hcopied : SameLog (copied s) (copied t) := by
    unfold copied keptCopied
    rw [h.base, h.tail, hbytes, hother]
    exact (h.writeNvm _ _).eraseBlocks _ _
  have hmoved : SameLog (moved s) (moved t) := by
    obtain ⟨hb, ht, hy⟩ := place_relocated s (copied s)
    obtain ⟨hb', ht', hy'⟩ := place_relocated t (copied t)
    refine ⟨hy'.trans (hcopied.bytes.trans hy.symm), hcopied.erases, hb'.trans (hother.trans hb.symm), ?_, hcopied.seq⟩
    rw [moved, moved, ht, ht', hother, hbytes]
  rw [compact_eq, compact_eq]
  exact ((sameLog_journalWear (moved s)).symm.trans hmoved).trans (sameLog_journalWear (moved t))

/-! ## Sequences that end -/

/-- JOURNAL_COMPACTION. -/
theorem exec_journalCompaction {s : State} {dt : Nat} (ha : (s.advance dt).alive = true) (hj : (s.advance dt).nvm.jobs = [])
    (hr : (s.advance dt).nvmRefused = false) : exec (.journalCompaction dt) s = .next (s.advance dt).compact :=
  congrArg Host.Outcome.next (if_pos (by rw [ha, hj, hr]; rfl))

theorem exec_sequenceDone {s : State} {dt : Nat} {j : NvmJob} {rest : List NvmJob} (ha : (s.advance dt).alive = true)
    (hj : (s.advance dt).nvm.jobs = j :: rest) :
    exec (.nvmProgramSequenceComplete dt true) s = .next ((dropJob (s.advance dt) rest).runJob j) := by
  refine congrArg Host.Outcome.next ?_
  rw [hj]
  exact (if_neg (by rw [ha]; decide)).trans (if_pos rfl)

theorem exec_sequenceFailed {s : State} {dt : Nat} {j : NvmJob} {rest : List NvmJob} (ha : (s.advance dt).alive = true)
    (hj : (s.advance dt).nvm.jobs = j :: rest) :
    exec (.nvmProgramSequenceComplete dt false) s = .next ((s.advance dt).jobFailed j) := by
  refine congrArg Host.Outcome.next ?_
  rw [hj]
  exact (if_neg (by rw [ha]; decide)).trans (if_neg (by decide))

theorem exec_secAlarm {s : State} {dt : Nat} (ha : (s.advance dt).alive = true) : exec (.secAlarm dt) s =
    .next ((((s.advance dt).count .SEC_ALARM_CNT_VALUE 1).setFlag .SEC_STAT_ALARM true).raiseFast 15) :=
  congrArg Host.Outcome.next (if_pos ha)

/-- An alarm counts, and shows. -/
theorem alarmShown (s : State) :
    (((s.count .SEC_ALARM_CNT_VALUE 1).setFlag .SEC_STAT_ALARM true).raiseFast 15).flag .SEC_STAT_ALARM = true ∧
    (((s.count .SEC_ALARM_CNT_VALUE 1).setFlag .SEC_STAT_ALARM true).raiseFast 15).fld .SEC_ALARM_CNT_VALUE =
      min (2 ^ 32 - 1) (s.fld .SEC_ALARM_CNT_VALUE + 1) := by
  have hq := (Quiet.refl ((s.count .SEC_ALARM_CNT_VALUE 1).setFlag .SEC_STAT_ALARM true)).raiseFast (n := 15) (by decide)
  have hc : (s.count .SEC_ALARM_CNT_VALUE 1).fld .SEC_ALARM_CNT_VALUE = min (2 ^ 32 - 1) (s.fld .SEC_ALARM_CNT_VALUE + 1) :=
    fld_count_self s .SEC_ALARM_CNT_VALUE 1 (by decide) (by decide)
  generalize s.count .SEC_ALARM_CNT_VALUE 1 = v at *
  exact ⟨(flag_of_reg (hq.regs Reg.SEC_STAT (by unfold EventReg; decide))).trans (flag_setFlag_bit v true),
    (hq.fld (by unfold EventReg; decide)).trans
      ((fld_setFld_ne v (f := .SEC_STAT_ALARM) (g := .SEC_ALARM_CNT_VALUE) _ (by decide)).trans hc)⟩

/-- A chunk stands at its address, and its note changes no byte. -/
theorem runJob_chunk (s : State) (a : Nat) (data : List Byte) (note : NvmNote) :
    (s.runJob (.chunk a data note)).nvm.jobs = s.nvm.jobs ∧ (s.runJob (.chunk a data note)).nvmRange a data.length = data := by
  have hd := nvmDone_doneKept (s.writeNvm a data) 0 note
  have hl := sameLog_nvmDone (s.writeNvm a data) 0 note
  exact ⟨hd.jobs, (hl.nvmRange a _).trans (nvmRange_writeNvm_self s a data)⟩

theorem nvmRange_eraseBlock_self (s : State) (b : Nat) :
    (s.eraseBlock b).nvmRange (4096 * b) 4096 = List.replicate 4096 Config.erasedByte :=
  nvmRange_erased fun i hi => by rw [nvmByteAt_eraseBlock, if_pos (by omega)]

theorem runJob_erase_more {s : State} {c : Nat} {more : List NvmJob} (h : s.nvm.jobs = .erase c :: more) (b : Nat) :
    s.runJob (.erase b) = s.eraseBlock b := by
  unfold State.runJob
  dsimp only
  rw [h]

theorem runJob_erase_last {s : State} (h : ∀ c more, s.nvm.jobs ≠ .erase c :: more) (b : Nat) :
    s.runJob (.erase b) = (s.eraseBlock b).journalWear := by
  unfold State.runJob
  dsimp only
  split
  · next hj => exact absurd hj (h _ _)
  · rfl

theorem SameLog.dropJob (s : State) (rest : List NvmJob) : SameLog s (dropJob s rest) := ⟨rfl, rfl, rfl, rfl, rfl⟩

/-- The state with room for a record, where one is made for it. -/
theorem makeRoom_spec (s : State) (rest : List NvmJob) (n : Nat) :
    SameLog (if decide (s.logEnd < s.nvm.logTail + n) then s.compact else s) ((dropJob s rest).makeRoom n) ∧
      ((dropJob s rest).makeRoom n).nvm.jobs = rest ++
        if decide (s.logEnd < s.nvm.logTail + n) && !s.nvmRefused then [wearJob s.nvm.seq s.compact.nvm.erases] else [] := by
  have hlog := SameLog.dropJob s rest
  unfold State.makeRoom
  by_cases h : s.logEnd < s.nvm.logTail + n
  · have h' : (dropJob s rest).logEnd < (dropJob s rest).nvm.logTail + n := h
    rw [if_pos h', if_pos (decide_eq_true h), decide_eq_true h, Bool.true_and, jobs_compact, hlog.compact.erases]
    exact ⟨hlog.compact, rfl⟩
  · have h' : ¬ (dropJob s rest).logEnd < (dropJob s rest).nvm.logTail + n := h
    rw [if_neg h', if_neg (by rw [decide_eq_false h]; decide), decide_eq_false h]
    exact ⟨hlog, (List.append_nil _).symm⟩

theorem seq_compact (s : State) : s.compact.nvm.seq = s.nvm.seq := (compact_sameLog s).seq.trans (moved_onLog s).seq

/-- The bytes of a record stand at the end of the log. -/
theorem placeRecord_spec (s : State) (bs : List Byte) : (s.placeRecord bs.length bs).nvm.jobs = s.nvm.jobs ∧
    (s.placeRecord bs.length bs).nvmRange (journalAt + s.nvm.logTail) bs.length = bs ∧
    (s.placeRecord bs.length bs).nvm.logTail = s.nvm.logTail + bs.length ∧
    (s.placeRecord bs.length bs).nvm.seq = (s.nvm.seq + 1) % 2 ^ 32 :=
  ⟨rfl, nvmRange_writeNvm_self s _ bs, rfl, rfl⟩

/-- The note of a record. -/
def noted (s : State) (seq : Nat) (note : NvmNote) : State :=
  { s with nvm := { s.nvm with notes := s.nvm.notes.set (fun _ => .quiet) seq note } }

theorem writeRecord_eq (s : State) (type : Nat) (body : List Byte) (note : NvmNote) {bs : List Byte}
    (hbs : bs = recordBytes type s.nvm.seq body) :
    s.writeRecord type body note = (noted (s.makeRoom bs.length) s.nvm.seq note).placeRecord bs.length bs := by
  rw [hbs]
  rfl

/-- A record stands at the end of the log, which is compacted first where it does not fit. -/
theorem runJob_record (s : State) (rest : List NvmJob) (type : Nat) (body : List Byte) (note : NvmNote) {bs : List Byte}
    (hbs : bs = recordBytes type s.nvm.seq body) {v t : State}
    (hv : v = if decide (s.logEnd < s.nvm.logTail + bs.length) then s.compact else s)
    (ht : t = (dropJob s rest).runJob (.record type body note)) :
    t.nvm.jobs = rest ++ (if decide (s.logEnd < s.nvm.logTail + bs.length) && !s.nvmRefused
        then [wearJob s.nvm.seq v.nvm.erases] else []) ∧
      t.nvmRange (journalAt + v.nvm.logTail) bs.length = bs ∧ t.nvm.logTail = v.nvm.logTail + bs.length ∧
      t.nvm.seq = (s.nvm.seq + 1) % 2 ^ 32 := by
  obtain ⟨hlog, hjobs⟩ := makeRoom_spec s rest bs.length
  rw [← hv] at hlog
  have hseq : v.nvm.seq = s.nvm.seq := by
    rw [hv]
    split
    · exact seq_compact s
    · rfl
  have hrun : t = ((noted ((dropJob s rest).makeRoom bs.length) s.nvm.seq note).placeRecord bs.length bs).nvmDone s.nvm.seq note :=
    ht.trans (congrArg (State.nvmDone · s.nvm.seq note) (writeRecord_eq (dropJob s rest) type body note hbs))
  generalize (dropJob s rest).makeRoom bs.length = w at *
  obtain ⟨hj, hrange, htail, hs⟩ := placeRecord_spec (noted w s.nvm.seq note) bs
  have hd := nvmDone_doneKept ((noted w s.nvm.seq note).placeRecord bs.length bs) s.nvm.seq note
  have hl := sameLog_nvmDone ((noted w s.nvm.seq note).placeRecord bs.length bs) s.nvm.seq note
  have hwt : (noted w s.nvm.seq note).nvm.logTail = v.nvm.logTail := hlog.tail
  have hws : (noted w s.nvm.seq note).nvm.seq = s.nvm.seq := hlog.seq.trans hseq
  rw [hwt] at hrange htail
  rw [hws] at hs
  rw [hrun]
  refine ⟨(hd.jobs.trans (hj.trans hjobs)).trans ?_, (hl.nvmRange _ _).trans hrange, hl.tail.trans htail, hl.seq.trans hs⟩
  by_cases h : decide (s.logEnd < s.nvm.logTail + bs.length) = true
  · rw [hv, if_pos h]
  · rw [Bool.not_eq_true _ |>.mp h]
    rfl

/-- A failure has been counted and raised. -/
def failureShown (s : State) : State := (s.count .NVM_ERR_VALUE 1).raiseFast 7

theorem failureShown_spec (s : State) : (failureShown s).nvm = s.nvm ∧
    (failureShown s).fld .NVM_ERR_VALUE = min (2 ^ 32 - 1) (s.fld .NVM_ERR_VALUE + 1) := by
  have hq : Quiet (s.count .NVM_ERR_VALUE 1) (failureShown s) := (Quiet.refl _).raiseFast (by decide)
  exact ⟨hq.sameWatch.nvm.trans (State.count_nvm s .NVM_ERR_VALUE 1), (hq.fld (by unfold EventReg; decide)).trans
    (fld_count_self s .NVM_ERR_VALUE 1 (by decide) (by decide))⟩

/-- The sequence that failed is given up. -/
def abandoned (s : State) : State := { s with nvm := { s.nvm with jobs := s.nvm.jobs.tail, noReserve := true } }

/-- A reserve block takes the place of the one that failed. -/
def blockReplaced (s : State) : State :=
  { s with nvm := { s.nvm with reserve := s.nvm.reserve - 1, noReserve := s.nvm.noReserve || s.nvm.reserve == 1 } }

theorem jobFailed_eq (s : State) (j : NvmJob) : s.jobFailed j =
    if (failureShown s).nvm.reserve = 0 then (abandoned (failureShown s)).finishWaiting j.notify .precondition 0
    else blockReplaced (failureShown s) := rfl

theorem abandoned_spec (s : State) : (abandoned s).nvm.noReserve = true ∧ (abandoned s).nvm.jobs = s.nvm.jobs.tail ∧
    (abandoned s).regs = s.regs := ⟨rfl, rfl, rfl⟩

theorem blockReplaced_spec (s : State) : (blockReplaced s).nvm.reserve = s.nvm.reserve - 1 ∧
    (blockReplaced s).nvm.jobs = s.nvm.jobs ∧ (blockReplaced s).regs = s.regs := ⟨rfl, rfl, rfl⟩

theorem jobFailed_spec (s : State) (j : NvmJob) :
    (s.jobFailed j).fld .NVM_ERR_VALUE = min (2 ^ 32 - 1) (s.fld .NVM_ERR_VALUE + 1) ∧
      (s.nvm.reserve ≠ 0 → (s.jobFailed j).nvm.reserve = s.nvm.reserve - 1 ∧ (s.jobFailed j).nvm.jobs = s.nvm.jobs) ∧
      (s.nvm.reserve = 0 → (s.jobFailed j).nvm.noReserve = true ∧ (s.jobFailed j).nvm.jobs = s.nvm.jobs.tail) := by
  obtain ⟨hnvm, herr⟩ := failureShown_spec s
  rw [jobFailed_eq, hnvm]
  generalize failureShown s = v at *
  obtain ⟨hno, hjobs, hregs⟩ := abandoned_spec v
  obtain ⟨hres, hjobs', hregs'⟩ := blockReplaced_spec v
  by_cases h : s.nvm.reserve = 0
  · rw [if_pos h]
    have hp : Posted (abandoned v) ((abandoned v).finishWaiting j.notify .precondition 0) := (Posted.refl _).finishWaiting
    have hn := (sameTrial_finishWaiting (abandoned v) j.notify .precondition 0).nvm
    rw [hn]
    exact ⟨(fld_congr (hp.regs.trans hregs) _).trans herr, fun hne => absurd h hne, fun _ => ⟨hno, by rw [hjobs, hnvm]⟩⟩
  · rw [if_neg h]
    exact ⟨(fld_congr hregs' _).trans herr, fun _ => ⟨by rw [hres, hnvm], by rw [hjobs', hnvm]⟩, fun h0 => absurd h0 h⟩

/-- Erasures: the block reads erased, and a record of the wear counters follows the last. -/
theorem runJob_erase (s : State) (b : Nat) {rest : List NvmJob} (hj : s.nvm.jobs = rest) :
    (s.runJob (.erase b)).nvmRange (4096 * b) 4096 = List.replicate 4096 Config.erasedByte ∧
      (∀ c more, rest = .erase c :: more → (s.runJob (.erase b)).nvm.jobs = rest ∧ (s.runJob (.erase b)).regs = s.regs) ∧
      ((∀ c more, rest ≠ .erase c :: more) → s.nvmRefused = false →
        (s.runJob (.erase b)).nvm.jobs = rest ++ [wearJob s.nvm.seq (s.runJob (.erase b)).nvm.erases] ∧
          (s.runJob (.erase b)).regs = s.regs) := by
  have hlog := onLog_eraseBlock s b
  by_cases hmore : ∃ c more, rest = .erase c :: more
  · obtain ⟨c, more, hr⟩ := hmore
    rw [runJob_erase_more (hj.trans hr)]
    exact ⟨nvmRange_eraseBlock_self s b, fun _ _ _ => ⟨hlog.jobs.trans hj, hlog.regs⟩, fun hno => absurd hr (hno c more)⟩
  · have hno : ∀ c more, rest ≠ .erase c :: more := fun c more hr => hmore ⟨c, more, hr⟩
    rw [runJob_erase_last (by rw [hj]; exact hno)]
    have hw := sameLog_journalWear (s.eraseBlock b)
    refine ⟨(hw.nvmRange _ _).trans (nvmRange_eraseBlock_self s b), fun c more hr => absurd hr (hno c more), fun _ hopen => ?_⟩
    obtain ⟨hjobs, hregs⟩ := journalWear_of_open (s := s.eraseBlock b) (hlog.nvmRefused.trans hopen)
    rw [hjobs, hregs, hlog.jobs, hlog.seq, hj, hw.erases]
    exact ⟨rfl, hlog.regs⟩

/-! ## The obligation -/

theorem trialTimeout_holds {s : State} {dt t0 : Nat} (ht : (s.advance dt).coach.trial = some t0)
    (ha : (s.advance dt).coachAlive = true) (ho : (s.advance dt).trialOn = true)
    (hd : t0 + 1000000000 * (s.advance dt).fld .SEC_FW_CFG_TRIAL_S ≤ (s.advance dt).now)
    (hs : (s.advance dt).standbyServes = true) (hr : (s.advance dt).coach.restart = none)
    (hk : (s.advance dt).coach.takeover = none) :
    exec (.trialTimeout dt) s = .next ((s.advance dt).requestTakeOver .fallback) :=
  (exec_trialTimeout ht ha ho hd).trans (congrArg Host.Outcome.next (askTakeOver_of_ready hs hr hk .fallback))

/-- STANDBY_READY at the end of an activation. -/
theorem standbyReady_activate {s : State} {dt : Nat} {n : Option Nat} (ha : (s.advance dt).coachAlive = true)
    (hs : (s.advance dt).standby = false) (hr : (s.advance dt).coach.restart = some (.activate n)) :
    ((s.advance dt).running = true → ∃ t, exec (.standbyReady dt) s = .next t ∧ t.coach.restart = none ∧
        t.coach.takeover = some (timeAfter (s.advance dt).tb 2000, .activate n) ∧ t.regs = (s.advance dt).regs) ∧
      ((s.advance dt).running = false → ∃ t, exec (.standbyReady dt) s = .next t ∧ t.lead = 1 - (s.advance dt).lead ∧
        t.coach.trial = some (s.advance dt).now ∧
        t.bankState ((s.advance dt).coachBank (1 - (s.advance dt).lead)) = 4) := by
  have hx := exec_standbyReady_activate ha hs hr
  generalize s.advance dt = u at *
  refine ⟨fun hrun => ⟨_, hx, ?_⟩, fun hrun => ⟨_, hx, ?_⟩⟩
  · rw [requestTakeOver_running (s := restarted u) hrun]
    exact ⟨rfl, rfl, rfl⟩
  · rw [requestTakeOver_stopped (s := restarted u) hrun]
    exact takeOver_activate (restarted u) n

/-- Settles O53: a takeover changes the lead before what it is for follows (`takeOver_spec`), a watchdog's charge leaves the
Coachmen (`watchdogCharged_spec`), a compaction copies the records kept and erases the originals (`compact_spec`), and each
program sequence writes its bytes before its note is taken (`runJob_chunk`, `runJob_record`, `runJob_erase`). -/
theorem coachmenAndTheNvm : Obligations.CoachmenAndTheNvm := by
  refine ⟨fun s dt ha hs => ⟨fun n hr => standbyReady_activate ha hs hr, fun n hr hw => ?_⟩,
    fun s dt t0 ht ha ho hd hs hr hk => ?_, fun s dt core ha hu hn hr hk => ⟨fun hl => ?_, fun hl hs hrun => ?_⟩,
    fun s dt ha => ⟨?_, fun hj hopen hhalf => ?_, fun a data note rest hj => ?_, fun b rest hj => ?_,
      fun type body note rest hj => ?_, fun hj => ?_⟩⟩
  · refine ⟨_, exec_standbyReady_confirm ha hs hr hw, ?_⟩
    generalize s.advance dt = u at *
    have hp : Posted (restarted u) ((restarted u).finishWaiting n .ok 0) := (Posted.refl _).finishWaiting
    exact ⟨(congrArg State.coach hp :), hp.regs⟩
  · have hx := trialTimeout_holds ht ha ho hd hs hr hk
    generalize s.advance dt = u at *
    refine ⟨fun hrun => ⟨_, hx, ?_⟩, fun hrun => ⟨_, hx, ?_⟩⟩
    · rw [requestTakeOver_running hrun]
      exact ⟨rfl, rfl⟩
    · rw [requestTakeOver_stopped hrun]
      exact takeOver_fallback u
  · exact ⟨_, exec_watchdogExpiry ha hu (watchdogCharged_spec hn).1, watchdog_standby hl hu hn hr hk⟩
  · exact ⟨_, exec_watchdogExpiry ha hu (watchdogCharged_spec hn).1, watchdog_lead hl hs hrun hn hr hk⟩
  · exact ⟨_, exec_secAlarm ha, alarmShown _⟩
  · obtain ⟨hbase, hkept, htail, herased⟩ := compact_spec hhalf
    obtain ⟨hjobs, hregs, hseq⟩ := compact_of_open hopen
    exact ⟨_, exec_journalCompaction ha hj hopen, hbase, hkept, htail, herased, hregs, hseq, by rw [hjobs, hj]; rfl⟩
  · exact ⟨_, exec_sequenceDone ha hj, runJob_chunk _ a data note⟩
  · exact ⟨_, exec_sequenceDone ha hj, runJob_erase (dropJob (s.advance dt) rest) b rfl⟩
  · exact ⟨_, exec_sequenceDone ha hj, runJob_record (s.advance dt) rest type body note rfl rfl rfl⟩
  · obtain ⟨j, rest, hjr⟩ := List.exists_cons_of_ne_nil hj
    exact ⟨_, exec_sequenceFailed ha hjr, jobFailed_spec _ j⟩

end Sys2Proof.Safety
end
